-- ==== Sys2Proof/Word.lean ====
section
/-! DEFINITION. Words, bytes and the index types of the power-stage hierarchy (R4, R12, R13). -/

namespace Sys2Proof

/-- The 64 payload bits of a word (R12). -/
abbrev Word := BitVec 64

/-- One byte. -/
abbrev Byte := BitVec 8

/-- Bridges B1 to B4, counted from 0 (R4). -/
abbrev BridgeId := Fin 4

/-- Machine groups M1 to M4, counted from 0 (R9). -/
abbrev GroupId := Fin 4

/-- Legs L1 to L12, counted from 0 (R4). -/
abbrev LegId := Fin 12

/-- Switch positions: 2 (n - 1) is LnH and 2 (n - 1) + 1 is LnL (R4, counted from 0). -/
abbrev PosId := Fin 24

/-- Position interfaces RES1, RES2, ENC1, ENC2, HS1, HS2, SSP1, SSP2 (R146). -/
abbrev IfId := Fin 8

/-- Control pairs CP1 and CP2. -/
abbrev PairId := Fin 2

/-- Ethernet ports NA and NB. -/
abbrev PortId := Fin 2

/-- CAN controllers C1 and C2. -/
abbrev CanId := Fin 2

/-- Streams S0 to S3. -/
abbrev StreamId := Fin 4

/-- The sixteen queues Q0 to Q15 (R396). -/
abbrev QueueId := Fin 16

/-- The primary (0) and the secondary (1) time domain (R457). -/
abbrev DomainId := Fin 2

/-- Ticks of 2.5 ns in one microsecond (R13). -/
def ticksPerUs : Nat := 400

/-- Ticks in one millisecond. -/
def ticksPerMs : Nat := 400000

/-- Ticks in one second. -/
def ticksPerS : Nat := 400000000

/-- Ticks in a day. -/
def ticksPerDay : Nat := 86400 * ticksPerS

/-- Ticks in a time of `ns` nanoseconds, rounded up. -/
def ticksOfNs (ns : Nat) : Nat := (2 * ns + 4) / 5

/-- Field [hi:lo] of a number, numbered from the least significant bit (R12). -/
def bits (hi lo v : Nat) : Nat := v / 2 ^ lo % 2 ^ (hi + 1 - lo)

/-- Bit n of a number. -/
def bitAt (n v : Nat) : Bool := v / 2 ^ n % 2 == 1

/-- 1 for true, 0 for false. -/
def b2n (b : Bool) : Nat := if b then 1 else 0

/-- The signed value of the low `w` bits of `v` (two's complement). -/
def toSigned (w v : Nat) : Int :=
  let u := v % 2 ^ w
  if 2 ^ (w - 1) ≤ u then (u : Int) - 2 ^ w else u

/-- The low `w` bits of an integer in two's complement. -/
def ofSigned (w : Nat) (i : Int) : Nat := (i % (2 ^ w : Int)).toNat

/-- `i` limited to [lo, hi]. -/
def clampInt (lo hi i : Int) : Int := max lo (min hi i)

/-- `x` limited to [0, 1]. -/
def clamp01 (x : Rat) : Rat := max 0 (min 1 x)

end Sys2Proof
end

