-- ==== Sys2Proof/Syntax.lean ====
section
/-! DEFINITION. The commands of the block: one constructor of `Instr` per row of spec/opcode_table.json, with the row's operands.
The table gives no row a bit pattern, so the operands are those the rules of the row name. A quantity that the outside world brings
(a measured value, an input level, a received frame) is an operand of the row that reports it. `t` is the tick (2.5 ns, R13) of the
row's instant where a rule of the row depends on it. -/

namespace Sys2Proof

/-- A command entry of Q0 to Q3 (R400): the queue it came on, its sequence number, its operand words and, on Q0, its tag. -/
structure CmdEntry where
  queue : Fin 4
  seq : BitVec 32
  ops : List Word
  tag : Word
  deriving DecidableEq, Repr

/-- A transport of mailbox messages (R401). -/
inductive Transport where
  | udp | c1 | c2
  deriving DecidableEq, Repr

/-- The header of a mailbox message (R401), with the transport and the source address it arrived from. -/
structure MailHeader where
  transport : Transport
  source : Nat
  kind : BitVec 8
  queue : BitVec 8
  count : BitVec 16
  session : BitVec 32
  deriving DecidableEq, Repr

/-- The source of a Class A input (R68, R70). -/
inductive ClassASource where
  | sto                      -- STO, via Clove
  | cloveRequest             -- Clove safe-state request, relayed from the processor path (R32)
  | reacquisition            -- safe-state request of a lost rotor (R195)
  | catchAsc                 -- safe-state request "catch" (R239)
  | twoBridge                -- safe-state request "two-bridge escalation" (R104)
  | shortCircuit             -- short-circuit escalation (R103)
  | overvoltage              -- DC-link overvoltage (R525)
  | external                 -- external fault line (R68)
  | classB                   -- Class B escalation (R72)
  deriving DecidableEq, Repr

/-- A bridge's interleave data in an announcement (R456). -/
structure AnnBridge where
  bridge : Nat
  reload : Nat
  period : Nat
  current : Int
  deriving DecidableEq, Repr

/-- An interleave announcement (R456, kind 0x01). -/
structure Announcement where
  version : Nat
  serial : Nat
  dcLink : Nat
  rank : Nat
  domain : Nat
  bridges : List AnnBridge
  deriving DecidableEq, Repr

/-- One entry of an offset schedule (R456). -/
structure OffsetEntry where
  serial : Nat
  bridge : Nat
  offset : BitVec 16
  deriving DecidableEq, Repr

/-- An offset schedule (R456, kind 0x02). `time` is the network time in 2^-16 ns. -/
structure OffsetSchedule where
  version : Nat
  leader : Nat
  dcLink : Nat
  time : Nat
  entries : List OffsetEntry
  deriving DecidableEq, Repr

/-- The path a partner message came on (R477). -/
inductive PartnerPath where
  | ethernet
  | can (c : CanId)
  deriving DecidableEq, Repr

/-- The partner TLV of an LLDP frame (R455). -/
structure PartnerTlv where
  dcLink : Nat
  rank : Nat
  serial : Nat
  domain : Nat
  hops : Nat
  deriving DecidableEq, Repr

/-- What an Ethernet frame carries, as far as the switch tells frames apart (R448, R454). -/
inductive FrameKind where
  | ptp | lldp | mka | ring | tc10 | interleave | mailboxUdp | other
  deriving DecidableEq, Repr

/-- The grandmaster that an Announce names, with what the best master choice compares (R457; log 14). -/
structure Grandmaster where
  priority1 : BitVec 8
  clockClass : BitVec 8
  accuracy : BitVec 8
  variance : BitVec 16
  priority2 : BitVec 8
  identity : BitVec 64
  deriving DecidableEq, Repr

/-- An Ethernet frame at a switch port (R448). -/
structure EthFrame where
  kind : FrameKind
  dst : BitVec 48
  src : BitVec 48
  length : Nat
  secured : Bool      -- carries a MACsec tag
  icvGood : Bool      -- its MACsec validation passes
  roomAhead : Bool    -- the transmit queue of the port it must leave by has room
  deriving DecidableEq, Repr

/-- A CAN frame (R468). -/
structure CanFrame where
  ident : Nat
  extended : Bool
  fd : Bool
  brs : Bool             -- bit-rate switching
  remote : Bool
  data : List Byte
  deriving DecidableEq, Repr

/-- A voltage pulse of step I4 (R186): the grid points of its current, its axis, the movement of the sensor angle, the payload measured. -/
structure StillPoint where
  d : Fin 128
  q : Fin 256
  alongQ : Bool
  moved : Nat
  payload : Word
  deriving DecidableEq, Repr

/-- What follows a turn-on edge that step I6 made (R135): whether it carried current, whether no other edge of its bridge followed within
10 µs, and the 400 samples of its leg-voltage channel, 0.1 V. -/
structure Ringing where
  loaded : Bool
  lone : Bool
  samples : List Nat
  deriving DecidableEq, Repr

/-- A measured result that ends an identification step (R186). -/
inductive IdentResult where
  | passed                                             -- I1, I9, I10: done, nothing measured here
  | resistance (rs : Vector Nat 4) (axes : Vector Nat 4)  -- I2: R_s at 20 degC in microohm, angle of phase U's axis, per bridge
  | angle (theta : Nat)                                 -- I3: standstill angle
  | still (points : List StillPoint)                    -- I4
  | cells (points : List (Nat × Word))                  -- I8: cell index and payload
  | ntc (first : Vector Nat 12) (second : Option (Vector Nat 12))  -- I5: NTC resistances in ohm at the points reached
  | cable (edges : List Ringing)                        -- I6: the captures of its turn-on edges
  | spin (rpm : Nat) (offs : List (Nat × Nat × Nat))    -- I7: the speed reached; interface, electrical offset, direction
  | skipped                                             -- the step's condition is not met
  | failed (cause : Nat)
  deriving DecidableEq, Repr

/-- What a burst is for (R380, R381, R388, R391): plain data, a lookup of the atlas engine, its prefetch for a bridge, its copy unit, a scrub. -/
inductive BurstKind where
  | data
  | lookup
  | prefetch (b : BridgeId)
  | copy
  | scrub
  deriving DecidableEq, Repr

/-- A burst that a requester asks for at the start of a cycle group (R378 to R391). -/
structure Burst where
  kind : BurstKind
  write : Bool
  addr : Nat
  words : List Word          -- the words a write supplies
  count : Nat                -- words asked for, at most 8
  first : Nat                -- words moved before it stalls
  stall : Nat                -- cycle groups the requester holds the data path beyond the first
  flips1 : List Nat          -- word offsets that a read finds with a single-bit error
  flips2 : List Nat          -- word offsets that a read finds with a double-bit error
  deriving DecidableEq, Repr

/-- The result of a NAND operation (R381). -/
inductive NandResult where
  | ok (corrected worst block : Nat)   -- codewords corrected, the most corrected bits in one of them, and its block
  | uncorrectable (addr : Nat)
  | writeFailed
  deriving DecidableEq, Repr

/-- A part of a bench limit (R324). -/
inductive BenchLimit where
  | dcLink (uC : Nat)
  | frequency (g : GroupId)
  deriving DecidableEq, Repr

/-- The debug port that is attached to or left (R323, R325). -/
inductive DebugTarget where
  | pair (p : PairId)
  | pelale
  deriving DecidableEq, Repr

/-- The time base of an ISO 15765-2 timeout (R476). -/
inductive IsoTpTimeout where
  | nAs | nBs | nCr
  deriving DecidableEq, Repr

/-- The commands of the block: the rows of spec/opcode_table.json, in the table's order. -/
inductive Instr where
  -- Host commands (R424)
  | driveArm (e : CmdEntry)
  | driveDisarm (e : CmdEntry)
  | driveSleep (e : CmdEntry)
  | driveReset (e : CmdEntry)
  | torqueSet (e : CmdEntry)
  | bridgeEnable (e : CmdEntry)
  | bridgeDisable (e : CmdEntry)
  | catchStart (e : CmdEntry)
  | positionSet (e : CmdEntry)
  | ss1Request (e : CmdEntry)
  | safetySelect (e : CmdEntry)
  | faultClear (e : CmdEntry)
  | debugFlagClear (e : CmdEntry)
  | pairSplit (e : CmdEntry)
  | pairRejoin (e : CmdEntry)
  | injectArm (e : CmdEntry)
  | injectFire (e : CmdEntry)
  | firmwareActivate (e : CmdEntry)
  | paramRead (e : CmdEntry)
  | paramWrite (e : CmdEntry)
  | paramCommit (e : CmdEntry)
  | paramUploadBegin (e : CmdEntry)
  | paramUploadChunk (e : CmdEntry)
  | paramUploadEnd (e : CmdEntry)
  | paramUploadAbort (e : CmdEntry)
  | atlasUploadBegin (e : CmdEntry)
  | atlasUploadChunk (e : CmdEntry)
  | atlasUploadEnd (e : CmdEntry)
  | atlasUploadAbort (e : CmdEntry)
  | firmwareUploadBegin (e : CmdEntry)
  | firmwareUploadChunk (e : CmdEntry)
  | firmwareUploadEnd (e : CmdEntry)
  | firmwareUploadAbort (e : CmdEntry)
  | atlasIdentify (e : CmdEntry)
  | atlasCheckpoint (e : CmdEntry)
  | atlasClear (e : CmdEntry)
  | atlasExport (e : CmdEntry)
  | selftestRequest (e : CmdEntry)
  | streamStart (e : CmdEntry)
  | streamStop (e : CmdEntry)
  | streamFlush (e : CmdEntry)
  | faultRecordClear (e : CmdEntry)
  | transferIdleTimeout
  | hostResetDelayExpiry
  -- Queues and mailbox
  | mailboxCommand (h : MailHeader) (body : List Word)
  | mailboxFetch (h : MailHeader) (body : List Word) (parityBad : List Nat)
  | commandDispatch
  | notifyHoldoffExpiry (q : QueueId)
  | notifyRepeatExpiry (q : QueueId)
  -- The control step
  | sampleInstant (b : BridgeId) (t : Nat)
  | fastConversionComplete (ch : Fin 14) (code : BitVec 16) (t : Nat)
  | shuntWindowSample (b : BridgeId) (k : Fin 3) (code : BitVec 16) (t : Nat)
  | controlStep (b : BridgeId) (t : Nat)
  | atlasLookupResult (b : BridgeId) (t : Nat)
  | atlasResultTimeout (b : BridgeId) (t : Nat)
  | shortBrakeExit (b : BridgeId)
  | carrierValley (b : BridgeId) (t : Nat)
  | carrierReload (b : BridgeId) (atPeak : Bool) (t : Nat)
  | compareMatch (l : LegId) (rising : Bool) (t : Nat)
  | offsetScheduleTime (b : BridgeId) (t : Nat)
  -- Fault inputs
  | classAInput (src : ClassASource) (b : BridgeId) (active : Bool)
  | ascDelayExpiry (b : BridgeId)
  | classBTrip (l : LegId) (upper : Bool) (t : Nat)
  -- Islands
  | islandLinkTimeout (p : PosId)
  | islandLinkReturn (p : PosId)
  | partnerLinkTimeout (p : PosId)
  | islandRailUndervoltage (p : PosId)
  | islandRailReady (p : PosId)
  | bootstrapPrimePulse (b : BridgeId)
  | edgeMeasured (p : PosId) (turnOn : Bool) (delayPs : Nat) (dvdt : Nat) (charge : Nat)
  | shortCircuitDetection (p : PosId) (desat : Bool) (t : Nat)
  | shortDetectionReport (p : PosId)
  | softTurnOffStage2 (p : PosId)
  | softTurnOffEnd (p : PosId)
  | retryWaitExpiry (p : PosId)
  | crossCheckRelease (p : PosId) (t : Nat)
  | crossCheckCancel (p : PosId)
  -- Measurement
  | offsetMeasurementDone (pi : Vector Int 12) (bemf : Vector Nat 12) (shunt : Int)
  | legVoltagePeriod (l : LegId) (mean lo hi : Nat)
  | zeroCrossing (b : BridgeId) (phase : Fin 3) (rising : Bool) (legs : Vector Nat 3) (t : Nat)
  | zeroCrossingTimeout (b : BridgeId)
  | housekeepingRoundStart
  | housekeepingRoundComplete (vals : Vector Int 32)
  | housekeepingRoundTimeout
  | messageInputTimeout (g : GroupId)
  | digitalInputTimeout (n : Fin 4)
  -- Position
  | interfaceCauseConfirmed (n : IfId) (cause : BitVec 4)
  | interfaceValidAgain (n : IfId)
  | resolverExcitationPeak (r : Fin 2) (sin cos : Int) (overcurrent : Bool)
  | encoderEdge (e : Fin 2) (a b z : Bool) (t : Nat)
  | hallCodeChange (h : Fin 2) (code : BitVec 3) (t : Nat)
  | sspFrameRequest (p : Fin 2) (idleLow : Bool) (t : Nat)
  | sspFrameComplete (p : Fin 2) (frame second : Nat) (t : Nat)
  | captureEdge (c : Fin 2) (rising : Bool) (t : Nat)
  | speedStandstillTimeout (n : IfId)
  -- Atlas, learning, identification, re-acquisition
  | cellRepair (g : GroupId) (cell : Nat)
  | learningUpdate (g : GroupId) (cell steps residual : Nat) (psiD psiQ torque : Int) (loss : Nat)
  | mtpaRebuildDone (g : GroupId) (tables : Vector (List (Int × Int × Int)) 4)
  | identificationStepEnd (g : GroupId) (r : IdentResult)
  | checkpointComplete (g : GroupId) (good : Bool)
  | atlasLoad (g : GroupId)
  | reacqSettleExpiry (g : GroupId)
  | acquisitionWindowEnd (g : GroupId) (estimates : List Nat) (freq : Int)
  | acquisitionTimeout (g : GroupId)
  | resumeHoldExpiry (g : GroupId)
  -- Placement and partners
  | placementResult (costs : Vector Nat 4) (sensorPower : Nat) (inputs : Vector Nat 3) (dcCurrents : Vector Int 4)
  | interleaveAnnouncementTx
  | interleaveAnnouncementRx (a : Announcement) (path : PartnerPath)
  | offsetScheduleRx (o : OffsetSchedule) (path : PartnerPath)
  | partnerTimeout (serial : Nat)
  -- Starts and stops
  | listenMinimumExpiry (g : GroupId)
  | listenCeilingExpiry (g : GroupId)
  | rectificationDetected (g : GroupId)
  | saliencySearchTimeout (b : BridgeId)
  | chargeLimitExpiry (b : BridgeId)
  | disableRampEnd (b : BridgeId)
  | safeOffToAsc (b : BridgeId)
  | ascToOff (b : BridgeId) (freq : Nat)
  -- Contactors and discharge
  | coilPullInExpiry (c : Fin 3)
  | weldTestExpiry (udc : Nat)
  | prechargeComplete (udc : Nat)
  | prechargeTimeout
  | mirrorContactChange (c : Fin 3) (shownOpen : Bool)
  | prechargeOverlapExpiry
  | contactorOpenCo1 (current : Nat)
  | contactorOpenCo2
  | weldCheckExpiry (c : Fin 3)
  | dischargeFallTestExpiry (udc : Nat)
  | dischargeComplete (udc : Nat)
  | dischargeTimeout
  -- Safety functions
  | stoInputChange (chB : Bool) (high : Bool)
  | stoDiscrepancy
  | ss1EnvelopeViolation (g : GroupId)
  | ss1Timeout (g : GroupId)
  | standstillConfirmed (g : GroupId)
  | slsViolation (g : GroupId)
  | slpViolation (g : GroupId)
  | cloveOverspeed (g : GroupId)
  | cloveSpeedDisagreement (g : GroupId)
  | torqueMonitorRun (b : BridgeId) (violation overBudget : Bool)
  | clovePowerCheck (power : Int) (t : Nat)
  | brakeReleaseExpiry
  | brakeFeedbackChange (released : Bool) (highFails lowFails : Bool)
  | brakeFeedbackTimeout
  | brakeCloseExpiry
  | sumacWindowExpiry (w : Fin 16)
  -- Clove and pairs
  | cloveChannelDisagreement
  | ascLegFailure (l : LegId)
  | pairWatchdogExpiry (p : PairId) (core : Fin 2)
  | cloveResetRequest
  | lockstepMismatch (p : PairId) (grp : Fin 6)
  | pairResetRelease (p : PairId)
  | comparatorTestDone (p : PairId) (caught : BitVec 6)
  | cacheUncorrectable (p : PairId) (both : Bool)
  | debugAttach (d : DebugTarget)
  | debugDetach (d : DebugTarget)
  | benchLimitExceeded (l : BenchLimit)
  | cloveStartupTestDone (failed : BitVec 10)
  | testAgeReached
  | referenceOscDeparted
  | heartbeatMissed (t : Nat)
  | dcLinkOvervoltage (uC : Nat) (chB : Bool)
  | coilSupplyLoss
  -- Supply, domains, sleep
  | portPowerLoss (p : PortId)
  | portPowerRestore (p : PortId)
  | podlClassification (p : PortId) (cls : Nat)
  | auxConverterStart
  | auxConverterStop
  | hvPresentChange (present : Bool)
  | inputOverBudget
  | busCollapse
  | busSupplyLost
  | domainRailFault (d : Fin 8)
  | pllLockLoss (p : Fin 3)
  | wakeSourceAssert (code : Fin 11)
  | domainReady
  | tc10SleepRequest (p : PortId)
  | sleepQueueWaitExpiry
  -- Thermal
  | thermalUpdate (b : BridgeId) (t : Nat)
  | thermalUpdateLate (b : BridgeId)
  | dieSensorRead (temp : Int) (t : Nat)
  | dieCritical
  -- Memory arbiter
  | cycleGroupGrant (reqs : Vector (List Burst) 8)
  | refreshDue
  | nandOperationDone (req : Fin 8) (image : Bool) (r : NandResult)
  | roundBoundary
  -- Streams
  | streamTrigger (st : StreamId) (samples : List Int) (t : Nat)
  -- Network
  | linkUp (p : PortId) (gigabit : Bool) (master : Bool)
  | linkDown (p : PortId)
  | linkTrainingFailed (p : PortId) (only100 : Bool)
  | cableTestTimer (p : PortId)
  | cableTestDone (p : PortId) (code : Nat) (dist : Nat)
  | frameReceived (p : PortId) (f : EthFrame)
  | addressAgeing (mac : BitVec 48)
  | ringCheckTx
  | ringCheckRx
  | ringFlushRx (p : PortId)
  | tc10WakeRx (p : PortId)
  | mkaChannelChange (p : PortId) (live : Bool)
  | lldpTx (p : PortId)
  | lldpRx (p : PortId) (tlv : PartnerTlv)
  -- Network time
  | syncReceived (d : DomainId) (offset : Int) (t : Nat)
  | announceReceived (d : DomainId) (grandmaster : Grandmaster) (t : Nat)
  | ptpReceiptTimeout (d : DomainId) (announce : Bool)
  -- CAN
  | canFrameReceived (c : CanId) (f : CanFrame)
  | canTxTimeout (c : CanId) (slot : Nat)
  | canErrorStateChange (c : CanId) (tec rec : Nat)
  | busOffRecoveryDelay (c : CanId)
  | busOffRecovered (c : CanId)
  | addressClaimTimer (c : CanId)
  | isotpTimeout (c : CanId) (peer : Nat) (k : IsoTpTimeout)
  -- Self-test and injection
  | selftestInterval (kind : Fin 12)
  | selftestSliceStart (kind : Fin 12) (inst : Nat)
  | selftestSliceEnd (kind : Fin 12) (inst : Nat) (pass : Bool) (value : Int)
  | selftestDeadline (test : BitVec 16)
  | injectArmExpiry
  | injectObservationExpiry
  -- Statistics
  | epochBoundary (t : Nat)
  -- Reset and boot
  | powerOnReset
  | keepAliveLoss
  | pelaleWatchdogExpiry (storeGood : Bool)
  | servicePinRelease
  | bootComplete
  | alternateSlotCheckDone
  | firmwareConfirmationTimer
  -- Later rows of the table
  | pllLockRegained (p : Fin 3)
  | slsDecelerationTimeout (g : GroupId)
  | cloveSpeedTimeout (g : GroupId) (standstill : Bool)
  | servicePinAssert
  | canFrameSent (c : CanId) (slot : Nat)
  deriving DecidableEq, Repr

end Sys2Proof
end

