-- ==== Sys2Proof/Decode.lean ====
section
/-! DEFINITION. The commands of the block have no bit encoding: spec/opcode_table.json gives no row any bits, so no word spells a
command. -/

namespace Sys2Proof

/-- No row of the table gives bits: no word spells a command. -/
def decodeTableWord (_nbits _w : Nat) : Option Instr := none

end Sys2Proof
end

