-- ==== Sys2Proof/Config.lean ====
section
/-! DEFINITION. What an implementation fixes and the spec leaves open: per-unit values, the free values, and the real-valued
functions that the spec uses. Nothing here has a body that a proof could use, but for the bounds the spec itself gives. -/

namespace Sys2Proof
namespace Config

/-- The n-th fresh free value (log 9): session numbers (R401), challenges (R495). -/
opaque free : Nat → Nat

/-- What a read-only object reads where the spec gives no value yet (log 32), keyed by object. -/
opaque openRead : Nat → Nat

/-- Seed of the unit's serial number (R541 gives only that it is never 0). -/
opaque serialSeed : Nat

/-- 0x1000.02, never 0 (R541). -/
def serial : Nat := serialSeed % (2 ^ 64 - 1) + 1

/-- Seed of the hardware issue (R541: starts at 1). -/
opaque issueSeed : Nat

/-- 0x1000.03, at least 1 (R541). -/
def hardwareIssue : Nat := issueSeed % 65535 + 1

/-- 0xA004.01, per unit. -/
opaque macAddress : BitVec 48

/-- 0xA004.02, Gwehal's OUI. -/
opaque gwehalOui : BitVec 24

/-- 0x1000.04 of the image a unit as delivered runs from slot A. -/
opaque deliveredVersion : BitVec 32

/-- Cosine of an angle in 1/65,536 turn (log 11). -/
opaque cosTurn : Int → Rat

/-- Sine of an angle in 1/65,536 turn (log 11). -/
opaque sinTurn : Int → Rat

/-- Angle of a vector in 1/65,536 turn (log 11). -/
opaque atan2Turn : Rat → Rat → Int

/-- Correction of the angle and of the sensor speed (1/65,536 turn per second) that a resolver's type II tracking loop makes: bandwidth in
Hz, excitation in Hz, angle error (R151 gives no gains; log 62). -/
opaque trackLoop : Nat → Nat → Int → Int × Rat

/-- A group's maximum speed in r/min, which R155 uses and no object holds (log 63). -/
opaque maxSpeed : Nat → Nat

/-- One step of the voltage model on one axis: bandwidth in Hz, interval in ticks, the flux before, the voltage less the resistive drop (R180
gives no discrete form; log 73). -/
opaque fluxStep : Nat → Nat → Rat → Rat → Rat

/-- Angle and speed (r/min) that the observer forms: from its last angle and speed, the voltage-model and atlas fluxes in the stationary
frame, the slopes of the atlas fluxes with the angle that correct it (R177), the interval in ticks and the pole pairs (R180 gives no gains;
log 73). -/
opaque observerTrack : Nat × Rat → Rat × Rat → Rat × Rat → Rat × Rat → Nat → Nat → Int × Rat

/-- Winding temperature (0.1 °C) toward which the lag of R181 moves at an atlas loss in W, by group (log 73). -/
opaque windingRise : Nat → Rat → Rat

/-- The current point of a torque while the MTPA table of a group has not been built (R209; log 74). -/
opaque mtpaOpen : Nat → Rat → Rat × Rat

/-- The d current of the point of magnitude `lim` while the MTPA tables of a group have not been built (R214; log 74). -/
opaque pathOpen : Nat → Rat → Rat

/-- The two parts of the gain of the field-weakening integrator (log 75). -/
opaque fieldTop : Nat
opaque fieldBottom : Nat

/-- Gain of the field-weakening integrator, A per V: positive (R211 gives no number; log 75). -/
def fieldGain : Rat := ((fieldTop + 1 : Nat) : Rat) / ((fieldBottom + 1 : Nat) : Rat)

/-- Movement of the field-weakening integrator toward negative id, A, for an excess of voltage in V (R211). -/
def fieldStep (excess : Rat) : Rat := fieldGain * excess

/-- Torque in N·m that makes a group follow a speed reference: group, reference and speed in r/min (R277 gives no controller; log 75). -/
opaque speedTorque : Nat → Rat → Rat → Rat

/-- What the saliency injection of a step gives: no angle yet, or one (R242; log 76). -/
opaque saliency : Nat → Option Nat

/-- The ASC currents id and iq that a search of the atlas gives (R197, R248; log 76). -/
opaque ascCurrents : Nat → Rat × Rat

/-- What step I9 fills into an empty cell: from the cells of the atlas and its index (R186 gives no interpolation; log 149). -/
opaque fillCell : (Nat → BitVec 64) → Nat → BitVec 64

/-- The DC-link voltage as Clove receives it, V (R139; log 68). -/
opaque cloveUdc : Nat → Rat

/-- What the filter of an input's record (0x04, in ms) makes of a value, from the last one (R118 and R138 give an analogue filter no form; log 176). -/
opaque filtered : Nat → Rat → Rat → Rat

/-- Cosine and sine of 2 pi n / 400, the angles of the Fourier search over 400 samples (R135; log 11). -/
opaque cos400 : Nat → Rat
opaque sin400 : Nat → Rat

/-- Where between two bins a peak lies, from the powers of its bin and of its neighbours (R135 gives no interpolation; log 158). -/
opaque binOffset : Rat → Rat → Rat → Rat

/-- The background of a spectrum, from the powers of the bins searched (R135 does not define it; log 158). -/
opaque background : List Rat → Rat

/-- Ripple between the window set and the sample instant that the observer predicts, A (R129; log 69). -/
opaque ripple : Nat → Rat

/-- The d and q currents that the observer predicts for the torque monitor in SHUNT-ONLY, A (R131; log 96). -/
opaque predictedCurrents : Nat → Rat × Rat

/-- Square root (log 11). -/
opaque sqrt : Rat → Rat

/-- The natural logarithm (log 11). -/
opaque ln : Rat → Rat

/-- The exponential function e^x (log 11). -/
opaque exp : Rat → Rat

/-- The exponential of a square matrix, given by its rows (log 12). -/
opaque matrixExp : List (List Rat) → List (List Rat)

/-- The Gwehal signing key, a point of P-256, held in the boot memory (R438 gives no value; log 13). -/
opaque signingKey : Nat × Nat

/-- The accuracy and the variance that the Vywick announces of its own clock (R457 gives none; log 14). -/
opaque ownAccuracy : BitVec 8
opaque ownVariance : BitVec 16

/-- The domain number that an announcement carries while no time domain is in use (R456 states none; log 88). -/
opaque noDomain : Nat

/-- The offset in ns that the servo predicts for a domain: its last offset, the rate correction in ppb and the ticks since (R459 gives no
form; log 114). -/
opaque syncPrediction : Int → Int → Nat → Int

/-- pi to sixteen digits (log 11). -/
def pi : Rat := 3141592653589793 / 1000000000000000

/-- The square root of 3 to sixteen digits (log 11). -/
def sqrt3 : Rat := 1732050807568877 / 1000000000000000

end Config
end Sys2Proof
end

