-- ==== Sys2Proof/Machine/Crypto.lean ====
section
/-! DEFINITION. The cryptography that the spec names by its standards: AES-CMAC (R407, R408, R453), SHA-256 and ECDSA on P-256 (R438). Byte
strings are lists of bytes as numbers; integers follow the byte order that each use states (log 13). -/

namespace Sys2Proof.Machine

/-! AES-128 (FIPS 197) -/

/-- The substitution box, one row of sixteen bytes a number, the first byte in the highest place. -/
def sboxRows : List Nat :=
  [0x637c777bf26b6fc53001672bfed7ab76, 0xca82c97dfa5947f0add4a2af9ca472c0, 0xb7fd9326363ff7cc34a5e5f171d83115, 0x04c723c31896059a071280e2eb27b275] ++
  [0x09832c1a1b6e5aa0523bd6b329e32f84, 0x53d100ed20fcb15b6acbbe394a4c58cf, 0xd0efaafb434d338545f9027f503c9fa8, 0x51a3408f929d38f5bcb6da2110fff3d2] ++
  [0xcd0c13ec5f974417c4a77e3d645d1973, 0x60814fdc222a908846eeb814de5e0bdb, 0xe0323a0a4906245cc2d3ac629195e479, 0xe7c8376d8dd54ea96c56f4ea657aae08] ++
  [0xba78252e1ca6b4c6e8dd741f4bbd8b8a, 0x703eb5664803f60e613557b986c11d9e, 0xe1f8981169d98e949b1e87e9ce5528df, 0x8ca1890dbfe6426841992d0fb054bb16]

/-- A byte through the substitution box. -/
def sbox (x : Nat) : Nat := sboxRows.getD (x / 16) 0 / 256 ^ (15 - x % 16) % 256

/-- Twice a byte in the field of AES. -/
def timesTwo (x : Nat) : Nat := if x < 128 then 2 * x else Nat.xor (2 * x - 256) 0x1b

/-- Byte-wise sum in the field of AES. -/
def xorBytes (a b : List Nat) : List Nat := List.zipWith Nat.xor a b

/-- The next round key, under a round constant. -/
def nextRoundKey (k : List Nat) (rcon : Nat) : List Nat :=
  let last := k.drop 12
  let turned := match last.drop 1 ++ last.take 1 with
    | x :: t => Nat.xor (sbox x) rcon :: t.map sbox
    | [] => []
  let w0 := xorBytes (k.take 4) turned
  let w1 := xorBytes ((k.drop 4).take 4) w0
  let w2 := xorBytes ((k.drop 8).take 4) w1
  w0 ++ w1 ++ w2 ++ xorBytes last w2

/-- Bytes substituted, and each row of the state, which stands column by column, turned by its number. -/
def subShift (st : List Nat) : List Nat := (List.range 16).map fun i => sbox (st.getD ((i + 4 * (i % 4)) % 16) 0)

/-- The columns of a state mixed. -/
def mixColumns : List Nat → List Nat
  | a :: b :: c :: d :: t =>
    let m (x y u v : Nat) : Nat := Nat.xor (Nat.xor (timesTwo x) (Nat.xor (timesTwo y) y)) (Nat.xor u v)
    m a b c d :: m b c d a :: m c d a b :: m d a b c :: mixColumns t
  | _ => []

/-- The rounds under the round constants that are left. -/
def aesRounds : List Nat → List Nat → List Nat → List Nat
  | [], _, st => st
  | rcon :: t, k, st =>
    let k := nextRoundKey k rcon
    let st := subShift st
    aesRounds t k (xorBytes (if t.isEmpty then st else mixColumns st) k)

/-- One block under a key of 16 bytes. -/
def aesBlock (key block : List Nat) : List Nat :=
  aesRounds [0x01, 0x02, 0x04, 0x08, 0x10, 0x20, 0x40, 0x80, 0x1b, 0x36] key (xorBytes block key)

/-! AES-CMAC (NIST SP 800-38B) -/

/-- The number that bytes write, the first one highest. -/
def beNat (bs : List Nat) : Nat := bs.foldl (fun m b => 256 * m + b) 0

/-- n bytes of a number, the highest first. -/
def beList (n v : Nat) : List Nat := (List.range n).map fun i => v / 256 ^ (n - 1 - i) % 256

/-- A subkey from the block before it. -/
def subkey (l : List Nat) : List Nat :=
  let v := beNat l
  beList 16 (if v < 2 ^ 127 then 2 * v else Nat.xor (2 * v - 2 ^ 128) 0x87)

/-- The chain over the blocks of a message; the last one, complete or not, takes its subkey. `n` bounds the blocks. -/
def cmacChain (key k1 : List Nat) : Nat → List Nat → List Nat → List Nat
  | 0, acc, _ => acc
  | n + 1, acc, m =>
    if 16 < m.length then cmacChain key k1 n (aesBlock key (xorBytes acc (m.take 16))) (m.drop 16)
    else
      let last := if m.length = 16 then xorBytes m k1 else xorBytes (m ++ 0x80 :: List.replicate (15 - m.length) 0) (subkey k1)
      aesBlock key (xorBytes acc last)

/-- AES-CMAC under a 128-bit key: key and result hold their first byte lowest. -/
@[irreducible] def aesCmac (key : BitVec 128) (bs : List Byte) : BitVec 128 :=
  let k := (List.range 16).map fun i => key.toNat / 256 ^ i % 256
  let m := bs.map (·.toNat)
  let mac := cmacChain k (subkey (aesBlock k (List.replicate 16 0))) (m.length / 16 + 1) (List.replicate 16 0) m
  BitVec.ofNat 128 (beNat mac.reverse)

/-! SHA-256 (FIPS 180-4) -/

/-- A 32-bit word turned right by n places. -/
def turnRight (n x : Nat) : Nat := x / 2 ^ n + x % 2 ^ n * 2 ^ (32 - n)

/-- The sum of three words, place by place. -/
def xor3 (a b c : Nat) : Nat := Nat.xor (Nat.xor a b) c

/-- The round constants. -/
def shaConstants : List Nat :=
  [0x428a2f98, 0x71374491, 0xb5c0fbcf, 0xe9b5dba5, 0x3956c25b, 0x59f111f1, 0x923f82a4, 0xab1c5ed5] ++
  [0xd807aa98, 0x12835b01, 0x243185be, 0x550c7dc3, 0x72be5d74, 0x80deb1fe, 0x9bdc06a7, 0xc19bf174] ++
  [0xe49b69c1, 0xefbe4786, 0x0fc19dc6, 0x240ca1cc, 0x2de92c6f, 0x4a7484aa, 0x5cb0a9dc, 0x76f988da] ++
  [0x983e5152, 0xa831c66d, 0xb00327c8, 0xbf597fc7, 0xc6e00bf3, 0xd5a79147, 0x06ca6351, 0x14292967] ++
  [0x27b70a85, 0x2e1b2138, 0x4d2c6dfc, 0x53380d13, 0x650a7354, 0x766a0abb, 0x81c2c92e, 0x92722c85] ++
  [0xa2bfe8a1, 0xa81a664b, 0xc24b8b70, 0xc76c51a3, 0xd192e819, 0xd6990624, 0xf40e3585, 0x106aa070] ++
  [0x19a4c116, 0x1e376c08, 0x2748774c, 0x34b0bcb5, 0x391c0cb3, 0x4ed8aa4a, 0x5b9cca4f, 0x682e6ff3] ++
  [0x748f82ee, 0x78a5636f, 0x84c87814, 0x8cc70208, 0x90befffa, 0xa4506ceb, 0xbef9a3f7, 0xc67178f2]

/-- The message schedule, newest word first, lengthened by n words. -/
def shaSchedule : Nat → List Nat → List Nat
  | 0, w => w
  | n + 1, w =>
    let x := w.getD 14 0
    let y := w.getD 1 0
    let s0 := xor3 (turnRight 7 x) (turnRight 18 x) (x / 2 ^ 3)
    let s1 := xor3 (turnRight 17 y) (turnRight 19 y) (y / 2 ^ 10)
    shaSchedule n ((s1 + w.getD 6 0 + s0 + w.getD 15 0) % 2 ^ 32 :: w)

/-- One round on the eight working words. -/
def shaRound (v : List Nat) (kw : Nat × Nat) : List Nat :=
  match v with
  | [a, b, c, d, e, f, g, h] =>
    let choice := Nat.xor (Nat.land e f) (Nat.land (2 ^ 32 - 1 - e) g)
    let majority := xor3 (Nat.land a b) (Nat.land a c) (Nat.land b c)
    let t1 := h + xor3 (turnRight 6 e) (turnRight 11 e) (turnRight 25 e) + choice + kw.1 + kw.2
    let t2 := xor3 (turnRight 2 a) (turnRight 13 a) (turnRight 22 a) + majority
    [(t1 + t2) % 2 ^ 32, a, b, c, (d + t1) % 2 ^ 32, e, f, g]
  | _ => v

/-- The hash words after the 64-byte blocks of a padded message; `n` bounds the blocks. -/
def shaBlocks : Nat → List Nat → List Nat → List Nat
  | 0, v, _ => v
  | n + 1, v, m =>
    if m.isEmpty then v
    else
      let w := (List.range 16).map fun i => beNat ((m.drop (4 * i)).take 4)
      let u := (List.zip shaConstants (shaSchedule 48 w.reverse).reverse).foldl shaRound v
      shaBlocks n (List.zipWith (fun a b => (a + b) % 2 ^ 32) v u) (m.drop 64)

/-- The SHA-256 hash of a byte string, 32 bytes. -/
@[irreducible] def sha256 (bs : List Byte) : List Byte :=
  let n := bs.length
  let m := bs.map (·.toNat) ++ 0x80 :: List.replicate ((119 - n % 64) % 64) 0 ++ beList 8 (8 * n)
  let v := shaBlocks (n / 64 + 2)
    [0x6a09e667, 0xbb67ae85, 0x3c6ef372, 0xa54ff53a, 0x510e527f, 0x9b05688c, 0x1f83d9ab, 0x5be0cd19] m
  (v.map (beList 4)).flatten.map (BitVec.ofNat 8)

/-! ECDSA on P-256 (FIPS 186-4) -/

/-- The prime of the field. -/
def p256Field : Nat := 0xffffffff00000001000000000000000000000000ffffffffffffffffffffffff

/-- The order of the base point. -/
def p256Order : Nat := 0xffffffff00000000ffffffffffffffffbce6faada7179e84f3b9cac2fc632551

/-- The base point. -/
def p256Base : Nat × Nat :=
  (0x6b17d1f2e12c4247f8bce6e563a440f277037d812deb33a0f4a13945d898c296, 0x4fe342e2fe1a7f9b8ee7eb4a7c0f9e162bce33576b315ececbb6406837bf51f5)

/-- b ^ e modulo m, for an exponent below 2 ^ n. -/
def powMod (b m : Nat) : Nat → Nat → Nat
  | 0, _ => 1
  | n + 1, e =>
    let h := powMod b m n (e / 2)
    if e % 2 = 1 then h * h % m * b % m else h * h % m

/-- The inverse modulo a prime below 2 ^ 256. -/
def inverseMod (x m : Nat) : Nat := powMod x m 256 (m - 2)

/-- The sum of two points of the curve, none for the point at infinity. -/
def addPoints (a b : Option (Nat × Nat)) : Option (Nat × Nat) :=
  match a, b with
  | none, _ => b
  | _, none => a
  | some (x1, y1), some (x2, y2) =>
    let q := p256Field
    if x1 = x2 ∧ (y1 + y2) % q = 0 then none
    else
      let slope := if x1 = x2 then (3 * x1 * x1 + (q - 3)) % q * inverseMod (2 * y1 % q) q % q
        else (y2 + (q - y1)) % q * inverseMod ((x2 + (q - x1)) % q) q % q
      let x3 := (slope * slope + 2 * q - x1 - x2) % q
      some (x3, (slope * ((x1 + (q - x3)) % q) + (q - y1)) % q)

/-- A multiple of a point, for a factor below 2 ^ n. -/
def timesPoint (a : Option (Nat × Nat)) : Nat → Nat → Option (Nat × Nat)
  | 0, _ => none
  | n + 1, k =>
    let h := timesPoint a n (k / 2)
    let d := addPoints h h
    if k % 2 = 1 then addPoints d a else d

/-- A signature r then s, each of 32 bytes with the lowest first as every field of the header (R438; log 13), passes for a message under the Gwehal
signing key. -/
@[irreducible] def ecdsaOk (sig message : List Byte) : Bool :=
  let num (bs : List Byte) : Nat := beNat (bs.map (·.toNat)).reverse
  let r := num (sig.take 32)
  let s := num ((sig.drop 32).take 32)
  let z := beNat ((sha256 message).map (·.toNat))
  if r = 0 ∨ p256Order ≤ r ∨ s = 0 ∨ p256Order ≤ s then false
  else
    let w := inverseMod s p256Order
    match addPoints (timesPoint (some p256Base) 256 (z * w % p256Order)) (timesPoint (some Config.signingKey) 256 (r * w % p256Order)) with
    | some p => p.1 % p256Order == r
    | none => false

end Sys2Proof.Machine
end

