-- ==== Sys2Proof/Machine/StateHost.lean ====
section
/-! DEFINITION. The parts of State that face the host: objects, queues, transfers, statistics, memory, arbiter, streams, self-test,
injection, reset and boot. -/

namespace Sys2Proof.Machine

/-- A time stamp (R16): seconds, nanoseconds and fraction in 2^-16 ns. -/
structure Stamp where
  sec : Nat
  ns : Nat
  frac : Nat
  deriving DecidableEq, Repr

/-- A completion entry (R400). -/
structure Completion where
  seq : BitVec 32
  code : Nat
  status : Nat
  time : Stamp
  repeated : Bool
  results : List Word
  deriving DecidableEq, Repr

/-- An event entry (R400, R16). -/
structure EventEntry where
  code : Nat
  level : Nat
  index : Nat
  serial : Nat
  time : Stamp
  payload : List Word
  deriving DecidableEq, Repr

/-- A stream packet (R411). -/
structure Packet where
  number : Nat
  sets : Nat
  packed : Bool
  truncated : Bool
  final : Bool
  lost : Bool
  time : Stamp
  data : List Word
  validBytes : Nat
  deriving DecidableEq, Repr

/-- An entry of an outbound queue (R396, R400). `dropped` keeps the index of an entry that its parity dropped (R398, R399). -/
inductive Entry where
  | completion (c : Completion)
  | event (e : EventEntry)
  | snapshot (epoch : Nat) (time : Stamp)
  | packet (p : Packet)
  | dropped
  deriving DecidableEq, Repr

/-- An outbound queue Q4 to Q15: the entries not released, oldest first; the producer index is `consumer` plus their number (R399).
`inRing` counts the newest entries that stand in the capture ring (R413). `lost` counts entries lost since the last E-C001 (R406). -/
structure OutQueue where
  entries : List Entry
  consumer : Nat
  inRing : Nat
  lost : Nat
  deriving DecidableEq, Repr

/-- A command waiting in Q0 to Q3. -/
structure Waiting where
  code : Nat
  e : CmdEntry
  deriving DecidableEq, Repr

/-- An inbound queue: waiting commands in sequence order, s_last, the retained completions (newest first, R402), the consumer index
(R399) and whether a refusal for want of room armed the notification (R405). -/
structure CmdQueue where
  waiting : List Waiting
  lastSeq : Option (BitVec 32)
  retained : List Completion
  consumer : Nat
  armed : Bool
  deriving DecidableEq, Repr

/-- A command taken and not completed: where its completion goes (R397). -/
structure CmdRef where
  queue : Fin 4
  seq : BitVec 32
  code : Nat
  deriving DecidableEq, Repr

/-- The notification record of a queue (R405): when the last one was tried, and whether entries completed during its holdoff. -/
structure NotifyRec where
  last : Option Nat
  during : Bool
  deriving DecidableEq, Repr

/-- A message handed to a transport: what leaves the block. -/
inductive Msg where
  | notify (queue : Nat) (producer pending : Nat)                             -- R401, R405, over UDP
  | mail (dest : Nat) (bytes : List Byte)                                     -- R401: DATA or REFUSE over UDP
  | announce (a : Announcement)                                               -- R456
  | schedule (o : OffsetSchedule)
  | lldp (p : PortId) (tlv : PartnerTlv)                                      -- R455
  | lldpRelay (p : PortId) (tlv : PartnerTlv)
  | ringCheck                                                                 -- R449
  | ringFlush (p : PortId)
  | tc10Sleep (p : PortId)                                                    -- R452
  | tc10Wake (p : PortId)
  | tdr (p : PortId)                                                          -- R447
  | forward (p : PortId) (f : EthFrame)                                       -- R448
  | deliver (f : EthFrame)
  | can (c : CanId) (f : CanFrame)                                            -- R472
  deriving DecidableEq, Repr

/-- Pelale's queues and mailbox (chapters 14 and 15). -/
structure Io where
  session : Nat
  cmd : Vector CmdQueue 4
  taken : Vector (List CmdRef) 4
  out : Vector OutQueue 16
  notify : Vector NotifyRec 16
  eventSerial : Nat
  outbox : List Msg          -- newest last
  deriving DecidableEq, Repr

/-- The kind of an image transfer (R432), in the order of 0x1101.04. -/
inductive TransferKind where
  | atlas (g : GroupId) | firmware | parameters
  deriving DecidableEq, Repr

/-- The transfer in progress (R434). -/
structure Transfer where
  kind : TransferKind
  length : Nat
  received : Nat
  last : Nat                 -- instant of the last phase
  bytes : List Byte          -- a parameter file's bytes, which no slot holds before END applies them
  deriving DecidableEq, Repr

/-- A PARAM.COMMIT whose image write is in progress (R429 step 6). -/
structure CommitRun where
  ref : CmdRef
  applied : Nat
  image : List (Nat × Int)   -- the stored values that it writes
  deriving DecidableEq, Repr

/-- A parameter image in a NAND slot (R429, R510): every stored value that differs from its default, and the key. -/
structure ParamImage where
  values : List (Nat × Int)
  good : Bool                -- its CRC-32 passes
  deriving DecidableEq, Repr

/-- The parameter objects (R14, R15, R426 to R430): keyed by index × 256 + sub; a missing key holds the default. -/
structure Params where
  stored : List (Nat × Int)
  active : List (Nat × Int)
  commit : Option CommitRun
  slots : Vector (Option ParamImage) 2
  halves : Vector Bool 2     -- Q0 key halves written since the last commit that took the key (R407)
  deriving DecidableEq, Repr

/-- Statistics (R497 to R500): counters keyed as objects, the snapshot, and the "first in the epoch" events already raised. -/
structure Stats where
  running : List (Nat × Nat)
  snapshot : List (Nat × Nat)
  firsts : List Nat
  epoch : Nat
  length : Nat               -- ms, in force
  began : Nat                -- internal time at which the epoch began
  snapNumber : Nat
  snapShortened : Bool
  snapSaturated : Bool
  saturated : Bool
  deriving DecidableEq, Repr

/-- A commit record of the journal (R511). -/
structure JRecord where
  kind : Nat                 -- 1 atlas, 2 firmware, 3 parameters
  target : Nat
  slot : Nat
  trial : Nat
  confirmed : Bool
  seq : Nat
  detail : Nat               -- word at offset 12
  axis : List Byte           -- 22 bytes for an atlas
  slotCrc : Nat
  good : Bool                -- its CRC passes
  deriving DecidableEq, Repr

/-- The journal: the half in use and the records of each half, oldest first (R511, R512). -/
structure Journal where
  half : Fin 2
  halves : Vector (List JRecord) 2
  deriving DecidableEq, Repr

/-- DRAM and NAND contents (R378, R381): bytes by address, in canonical form; a byte not listed reads 0 (log 10). -/
structure Mem where
  dram : List Host.Cell
  nand : List Host.Cell
  journal : Journal
  blockCrc : Vector (List Nat) 8    -- block CRC table of slot 2 (g - 1) + s (R511)
  cut : Vector Bool 8               -- the slot's confidences above 14 load as 14 (R202)
  relocated : List Nat              -- blocks relocated to the reserve
  bad : List Nat                    -- DRAM words that report a double-bit error
  pages : List Nat                  -- NAND codewords of 1 KiB that could not be corrected, until they are written again (R381; log 208)
  deriving DecidableEq, Repr

/-- A requester of the arbiter (R385 to R392). -/
structure Requester where
  requesting : Bool
  cutOff : Bool
  refused : Bool
  gated : Bool
  hold : Nat                 -- cycle groups the burst in progress has held
  waitSince : Nat            -- cycle groups waited
  unserved : Nat             -- cycle groups unserved since the last placement result
  hint : Option Nat          -- cycle groups until the hinted slot
  deriving DecidableEq, Repr

/-- The memory arbiter (chapter 13). -/
structure Arb where
  table : Vector Nat 64      -- active slot table 0x7082
  ranks : Vector Nat 8
  base : Option (Vector Nat 64 × Vector Nat 8)   -- committed, waiting for the round boundary
  adapted : Option (Vector Nat 64)
  slot : Nat                 -- next slot of the round
  reqs : Vector Requester 8
  refresh : Bool             -- a refresh is due
  scrub : Nat                -- next word address of the scrub
  burst : Option (Fin 8 × Burst)   -- a stalled burst in progress, with the words still to move
  longest : Nat              -- longest lookup latency of the running epoch, ns
  longestLast : Nat
  prefetch : List (Nat × Nat)      -- cells held (bridge index, word address)
  deriving DecidableEq, Repr

/-- A stream S0 to S3 (R410 to R414). -/
structure Stream where
  running : Bool
  number : Nat               -- number of the next packet
  lastNumber : Nat
  count : Nat                -- triggers since the last sample set
  samples : List Int         -- of the packet in progress, oldest first
  sets : Nat
  first : Stamp
  flush : List CmdRef
  stopping : Bool
  lostFlag : Bool
  ringWords : Nat
  ringShare : Nat            -- MiB in force
  channels : List Nat        -- configuration latched at the start
  setsPer : Nat
  decimation : Nat
  packed : Bool
  policy : Nat
  trigger : Nat
  bridge : Nat
  deriving DecidableEq, Repr

/-- One instance of a self-test kind (R484, R489). -/
structure TestInst where
  result : Nat               -- 0 none, 1 pass, 2 fail
  passedAt : Option Nat
  slices : Nat               -- slices of the present run done
  due : Bool
  missed : Nat               -- intervals without completion
  overdue : Bool             -- E-D004 raised
  deriving DecidableEq, Repr

/-- A host self-test request in progress (R490, R491). -/
structure TestReq where
  ref : CmdRef
  test : Nat
  deadline : Nat             -- tick, 0 none
  waiting : List Nat         -- instances still to complete
  passed : Bool
  values : List Int
  deriving DecidableEq, Repr

/-- Self-test and injection (R484 to R496). -/
structure TestUnit where
  inst : Vector (Vector TestInst 24) 12
  running : List (Fin 12 × Nat)
  placed : Vector (Option Nat) 4         -- carrier period of each bridge in which it last received a slice (R486)
  nominal : Vector Nat 12                -- nominal intervals since the last one that counted (R372, R488)
  reqs : List TestReq
  challenge : Nat
  arm : Option (Nat × Nat × Nat)         -- point, arm number, instant
  armNumber : Nat
  fired : List (Nat × Nat)               -- points fired whose outcome is open, with the end of the observation, oldest first
  inject : List Nat                      -- points waiting for the detector's next opportunity
  deriving DecidableEq, Repr

/-- A fault record of PD0 (R516): its eight words. -/
structure FaultRecord where
  serial : Nat
  words : List Word
  deriving DecidableEq, Repr

/-- A firmware slot (R509): whether it still holds the image of a unit as delivered, and the length of an uploaded file. -/
structure FwSlot where
  delivered : Bool
  fileLength : Nat
  deriving DecidableEq, Repr

/-- Reset and boot (chapter 19). -/
structure Boot where
  cause : Nat                -- 0xF000.01
  bootNumber : Nat
  bootCount : Nat
  resetCounts : Vector Nat 6
  fw : Vector FwSlot 2
  slot : Fin 2               -- running slot
  trial : Nat
  confirmed : Bool
  recovery : Bool
  alternateOk : Bool         -- 0x1101.07
  servicePin : Bool
  watchdogAt : Option Nat    -- last Pelale watchdog reset
  resetAt : Option (Nat × Nat)   -- scheduled reset: instant and the code of its command (R425)
  standbyAt : Option Nat     -- first STANDBY of the trial image
  booting : Bool             -- between a reset (or wake) and BOOT_COMPLETE
  testDue : Bool             -- Clove's start-up test of this boot has not ended (R313, R351)
  cloveReset : Bool          -- the reset in progress reset Clove
  records : List FaultRecord -- newest first, at most 64
  serial : Nat               -- serial of the next fault record
  cleared : List Nat         -- serials cleared by the host
  retained : Vector (Option (Int × Bool)) 4   -- E and the referenced flag, kept through SLEEP (R159)
  flagLost : Vector Bool 4   -- groups whose referenced flag the reset in progress cleared (R285)
  bootEvents : List (Nat × List Word)        -- events the boot raises when the queues are up (R509, R510)
  deriving DecidableEq, Repr

end Sys2Proof.Machine
end

