-- ==== Sys2Proof/Machine/StatePower.lean ====
section
/-! DEFINITION. The parts of State that face the power stage: positions, legs, bridges and machine groups. -/

namespace Sys2Proof.Machine

/-- A gate drive island with what the pulse engine keeps of its position (chapter 03). Times are ticks. -/
structure Position where
  on : Bool                  -- commanded on
  above : Bool               -- gate above threshold (R83)
  railReady : Bool
  railUv : Bool
  retry : Option Nat         -- end of the retry wait of a pending retry (R100)
  retryDue : Bool            -- the wait has ended; re-enabled at the next reload
  tries : List Nat           -- instants of tries
  latched : Bool
  latchCode : Nat            -- event code of the latch (R431)
  soft : Fin 3               -- soft turn-off: 0 none, 1 stage 1, 2 stage 2 (R97)
  detected : Option Nat      -- instant of a detection latched in the island (R98)
  softSpan : Option (Nat × Nat)   -- begin and end of the last soft turn-off; the end is 0 while it lasts (R125)
  byDesat : Bool             -- the desaturation detector latched it, not the di/dt detector
  reported : Bool            -- the pulse engine has received its report
  linkValid : Bool
  partnerKnown : Bool        -- partner state received (R83)
  hold : Option Nat          -- cross-check hold since (R107)
  onAt : Nat                 -- tick from which the on command stands: the dead time after the edge has passed (R57)
  blankTo : Nat              -- tick to which its desaturation detector is blanked (R96)
  driveEnable : Bool         -- CB's drive-enable line (R303)
  onDelay : Vector (List Nat) 4    -- ps, last 256 valid edges per band (R94)
  offDelay : Vector (List Nat) 4
  onDvdt : Vector (List Nat) 4     -- 0.1 V/ns
  offDvdt : Vector (List Nat) 4
  dvdtRun : Nat              -- consecutive exceedances (R93)
  charge : List Nat          -- nC, last 1,024 turn-ons (R95)
  chargeIdent : Nat          -- 0x306B
  deriving DecidableEq, Repr

/-- A compare set (R53), with the amounts that phase-shift insertion put on each leg (R127) and the clamp of each leg (R217).
Compares are sixteenths of a tick. -/
structure CompareSet where
  cu : Vector Int 3
  cd : Vector Int 3
  insU : Vector Int 3
  insD : Vector Int 3
  clamp : Vector Nat 3       -- 0 none, 1 high, 2 low
  resume : Bool              -- the resume set of a release, or one committed after it (R198)
  deriving DecidableEq, Repr

/-- A leg in the pulse engine (chapter 02). -/
structure Leg where
  ref : Bool                 -- high-side reference
  acc : Int                  -- sixteenths (R60)
  lowDriven : Nat            -- trailing low segment as driven (R62)
  up : Nat                   -- edges formed for the present period (R63)
  dn : Nat
  before : Option Bool       -- high-side reference just before the last reload; none where the bridge did not switch (R363)
  width : Nat                -- high-side reference width that drives the present period (R134)
  lastEdge : Nat             -- tick of the last edge (Class B blanking)
  cut : Option Bool          -- Class B cut in force: true an upper trip (low side held)
  cutSeen : Bool             -- a cut in this period
  cutSpan : Option (Nat × Nat)    -- begin and end of the last cut; the end is 0 while it lasts (R125)
  cutRun : Nat               -- consecutive periods with a cut (R72)
  overlapSeen : Bool         -- an interlock hit in this period
  overlapRun : Nat           -- consecutive interlock periods (R67)
  cancelSeen : Bool
  cancelRun : Nat            -- consecutive cross-check cancel periods (R108)
  fault : Nat                -- event code of the latched leg fault (R67, R103, R108), 0 none; 0x2004 and 0x300A hold the leg off
  ledger : Int               -- insertion ledger, sixteenths (R128)
  ledgerLeft : Int           -- remainder that the last conversion left (R128)
  ledgerAge : Nat            -- periods that a remainder has stood
  insU : Int                 -- insertion of the set in force
  insD : Int
  clamp : Nat                -- 0x7072
  mean : Option Rat          -- last leg-voltage period result in use, V (R134)
  meanCmd : Option Rat       -- commanded mean of the last period, V; none where no set drove all of it (R134)
  volts : Option Nat         -- mean of the last period while the bridge was off, 0.1 V (R132, R238)
  drove : Bool               -- a set drives all of the present period
  clampSide : Nat            -- rail within the clamp margin in the last period: 0 none, 1 low, 2 high (R133)
  deriving DecidableEq, Repr

/-- The carrier of a bridge (R41 to R46, R53 to R55, R73 to R75). -/
structure Carrier where
  top : Nat
  valley : Nat               -- tick of the last valley
  peakAt : Nat               -- tick of the last peak before it
  period : Nat               -- 0x2070
  dither : Fin 16
  shadow : Option CompareSet -- marked set
  shadowTag : Nat
  skip : Bool                -- the set was committed inside the guard window: it waits one reload (R54)
  active : Option CompareSet
  tag : Nat                  -- tag given to the last commit
  updateTag : Nat            -- 0x2071
  updatePeriod : Nat
  reloadAt : Nat             -- tick of the last reload
  offset : Nat               -- 0x2061
  schedule : Option (Nat × Nat)    -- offset and internal time (2^-16 ns) of a scheduled change (R75)
  due : Bool                 -- its time has come: the next reload takes it
  moving : Option Int        -- ticks of the move still to make
  moveAt : Nat               -- tick of the reload that began the move
  adjust : Int               -- ticks by which the present period is adjusted
  locked : Bool
  shift : Nat                -- collision shift of R223
  deriving DecidableEq, Repr

/-- Forcing of a bridge (R68 to R70): the pattern (0 none, 1 off, 2 ASC-low, 3 ASC-high), every source with its level, and the
causes that are present. -/
structure Force where
  pattern : Fin 4
  sources : List (ClassASource × Nat)
  causes : List ClassASource
  ascTo : Option (Fin 4)     -- ASC pattern whose delay runs (R69)
  ascAt : Nat                -- instant the present ASC was last entered
  clampAt : Option Nat       -- clamp condition seen since
  twoLeg : Bool              -- a two-leg escalation is in force (R103)
  deriving DecidableEq, Repr

/-- Bridge states (R18). -/
inductive BrState where
  | standby | run | safeOff | safeAsc | lockout
  deriving DecidableEq, Repr

/-- The start of a bridge (R236). -/
structure Start where
  phase : Nat                -- 0 to 7
  since : Nat                -- entry into the phase
  pulses : Nat               -- prime pulses given
  pulseAt : Nat              -- tick at which the present prime pulse began (R86)
  primes : Nat               -- primes run in this start
  joining : Bool             -- joins a running group (R227, R241)
  found : Bool               -- the standstill angle has been found (R242)
  deriving DecidableEq, Repr

/-- Currents and voltages of the step (chapter 04). Amperes and volts, exact (log 7). -/
structure Meas where
  pi : Vector Rat 3
  piFresh : Vector Bool 3
  shunt : Vector (Option Rat) 3    -- S0, S1, S2 of the window set in progress
  shuntAt : Vector Nat 3
  plan : Option (Vector Nat 3)     -- ticks placed for S0, S1 and S2 of the present half (R125)
  recon : Vector Rat 3       -- last valid reconstruction
  stale : Bool               -- no valid window set this step
  edges : List (Nat × Nat × Bool)  -- newest reference edges of the bridge: phase, tick, rising; at most 12
  inValid : Nat              -- consecutive steps of the condition of R129: one phase
  inTwo : Nat                -- two or more phases
  inSum : Nat                -- sum check
  phase : Nat                -- the single phase of `inValid`
  mode : Nat                 -- 0x4014.09: 0 THREE, 1 TWO, 2 SHUNT-ONLY, 3 NONE
  missing : Nat              -- consecutive lost window sets in SHUNT-ONLY
  implausible : Bool         -- the shunt is declared implausible (R129)
  sampleAt : Nat             -- sample-instant tick
  halfAt : Nat               -- begin of the half that ended at it (R123)
  halfUp : Bool              -- a rising half
  deriving DecidableEq, Repr

/-- Zero crossings of an off bridge (R132, R133). -/
structure Bemf where
  crossings : List (Nat × Nat × Bool)   -- newest first: tick, phase, rising; at most 6
  last : Vector (Option Bool) 3    -- direction of each phase's last passage through 0 V (R132)
  seen : Nat                 -- crossings since the listen phase began
  freq : Int                 -- mHz
  amp : Nat                  -- 0.1 V
  angle : Nat                -- 1/65,536 turn
  clampFlag : Bool
  reached : Bool             -- a phase voltage has reached the minimum amplitude in this listen phase
  standstill : Bool
  deriving DecidableEq, Repr

/-- The control step in progress and the loop state (R22 to R28, R209 to R217, R221, R248). -/
structure Ctl where
  opened : Bool              -- a step is open
  gotRef : Bool              -- its voltage reference was handed over
  lookup : Bool              -- its lookup is outstanding
  lost : Bool                -- the step in progress is lost to a task move (R27)
  askAt : Nat                -- tick of the lookup request
  queued : Bool              -- it was asked for behind another bridge's step (R390)
  abandoned : Nat            -- consecutive abandoned steps (R26)
  staleLast : Bool           -- the previous step used stale atlas values (R28)
  id : Rat
  iq : Rat
  idRef : Rat
  iqRef : Rat
  fw : Rat                   -- field-weakening integrator, A
  intD : Rat
  intQ : Rat
  ud : Rat
  uq : Rat
  theta : Int                -- electrical angle of the bridge's frame, 1/65,536 turn
  portion : Rat              -- torque portion after stage 8, N·m
  share : Rat                -- share in use
  filtShare : Rat            -- 0x7070.05–08
  headroom : Rat             -- 0x7070.09–0C
  thermHead : Rat
  atlas : Vector Rat 4       -- last atlas result: psi_d, psi_q (V·s), torque (N·m), loss (W)
  atlasSlope : Vector Rat 4  -- its slopes: of psi_d and psi_q with the angle (V·s per cell), L_d and L_q incremental (H)
  conf : Nat
  torque : Rat               -- atlas torque at the currents used by the step
  stepPeriod : Nat           -- ticks
  amps : Vector Rat 3        -- phase currents of the last step
  stepUdc : Rat              -- its DC-link voltage, V
  iqFit : Option Rat         -- q current that the voltage of the last step allowed (R211)
  lims : Vector Int 4        -- latched at the step (R22 step 4, R23): current limit, d limit, bandwidth, voltage margin
  askTemp : Rat              -- winding temperature of the lookup asked (R177)
  heat : Vector Rat 6        -- junction estimates of the last placement result (R29, R217)
  decim : Nat                -- monitor decimation in force since the bridge's last step boundary (R225)
  ampSum : Rat               -- current magnitudes since the last placement result, and their number
  ampCount : Nat
  currentMean : Rat
  dcMean : Rat               -- mean DC-link current, A
  fbw : Nat                  -- active bandwidth
  clamped : Bool
  shortSide : Nat            -- 0 none, 1 low, 2 high (R248)
  shortSince : Nat
  shortFrac : Rat            -- accumulated fraction of short steps
  shortSum : Rat             -- atlas torques at the measured currents of the steps since short braking began, and their number (R248)
  shortCount : Nat
  rampDown : Option Nat      -- start of a BRIDGE.DISABLE ramp (R250)
  joinAt : Option Nat        -- start of a join ramp (R227)
  arrival : Nat              -- 0 none, 1 waits for a placement result, 2 boundary reached, 3 its start is not over
  monFails : Nat             -- consecutive failing monitor runs (R286)
  monStale : Nat
  shortNow : Bool            -- the step in progress is a short step
  deriving DecidableEq, Repr

/-- The thermal model of a bridge (chapter 12). Temperatures in 0.1 °C. -/
structure Thermal where
  band : Fin 4
  applied : Fin 4            -- band in force since the last reload
  nodes : Vector (Vector Rat 4) 6  -- J, N2, N3, N4 of each position
  base : Vector Rat 3
  energy : Vector Rat 6      -- J since the last update
  pending : Vector Rat 6     -- part of it charged for a committed set that drives no period yet (R362)
  power : Vector Rat 6       -- W
  last : Nat                 -- instant of the last update
  late : Bool
  tripRun : Vector Nat 6
  ntcTrip : Vector Nat 3
  ntcOff : Vector Nat 3      -- consecutive rounds of disagreement
  ntcExcess : Vector Rat 3   -- margin while the disagreement lasts
  tripped : Bool             -- over-temperature trip latched (R371)
  dead : Vector Nat 4        -- active dead time per band (0x2031)
  atCeiling : Vector Bool 4
  wset : Vector Nat 4        -- active waveform set per band (0x3012)
  replace : Bool             -- a dv/dt successor is due at the next reload
  blank : Vector Nat 4       -- blanking time in force per band
  deriving DecidableEq, Repr

/-- A bridge. -/
structure Bridge where
  state : BrState
  start : Start
  force : Force
  car : Carrier
  legs : Vector Leg 3
  pos : Vector Position 6    -- UH, UL, VH, VL, WH, WL
  meas : Meas
  bemf : Bemf
  ctl : Ctl
  th : Thermal
  escalated : Option Nat     -- instant of the last two-leg escalation (R103)
  held : List (Nat × Int)    -- "at reload" objects that other bridges have taken and this one has not: key, value in force here (R15)
  pair : Fin 2               -- pair of the step (0x7071)
  monPair : Fin 2
  thermPair : Fin 2          -- pair of the thermal model (R219, R326)
  deriving DecidableEq, Repr

/-- Group conditions (R218). -/
inductive Cond where
  | normal | reduced | stopped
  deriving DecidableEq, Repr

end Sys2Proof.Machine
end

