-- ==== Sys2Proof/Machine/StateDrive.lean ====
section
/-! DEFINITION. The parts of State above the bridges: groups, drive sequences, Clove, pairs, placement, supply, position interfaces,
supervision, network, time and CAN. -/

namespace Sys2Proof.Machine

/-- An SS1 in progress on a group (R276 to R279). -/
structure Ss1 where
  n0 : Rat                   -- r/min
  goal : Rat                 -- r/min: 0, or the SLS limit of R281
  start : Nat
  calm : Option Nat          -- standstill since
  confirmed : Bool
  excess : Option Nat          -- envelope violated since
  deriving DecidableEq, Repr

/-- Re-acquisition and catch acquisition of a group (R195 to R199, R245). Phases: 0 idle, 1 settle, 2 window, 3 acquired (resume
pending), 4 ramp and hold. -/
structure Reacq where
  phase : Nat
  since : Nat                -- instant the phase began
  limit : Nat                -- instant from which 0x6031.03 counts
  asc : Bool                 -- the safe state entered was ASC
  isCatch : Bool
  failures : List Nat
  alphas : List (Nat × Int)  -- ticks and angles of the ASC current vector in this window, newest first (R197)
  angle : Nat
  freq : Int                 -- mHz
  deriving DecidableEq, Repr

/-- An atlas commit record in force for a group (R190). -/
structure AtlasRec where
  slot : Nat
  seq : Nat
  bridges : Nat              -- bridge set, bit b - 1
  poles : Nat
  deriving DecidableEq, Repr

/-- A steady run of the learning engine (R182): the lower grid points of its neighbourhood on the d, q and temperature axes, and what it
has summed over its steps. -/
structure LearnRun where
  at0 : Nat × Nat × Nat
  steps : Nat
  residual : Rat             -- largest of the run, %
  psi : Rat × Rat            -- summed voltage-model flux, d and q, V·s
  amps : Rat × Rat           -- summed d and q current, A
  power : Rat                -- summed electrical power of one winding set, W
  omega : Rat                -- summed mechanical speed, rad/s
  cell : Nat                 -- nearest cell of the last step
  deriving DecidableEq, Repr

/-- Machine atlas state of a group (chapter 06). -/
structure Atlas where
  state : Nat                -- 0x6043 but for the suspect mark
  suspect : Bool             -- R194
  result : Nat               -- 0x6042
  record : Option AtlasRec
  ident : Option (Nat × Bool × Bool)   -- step 1 to 10, or 0 in its listen phase (R185); held-rotor and speed operands
  identRef : Option CmdRef
  copying : Bool             -- checkpoint copy in progress
  copyRefs : List CmdRef
  buffer : List (Nat × Nat × Word)     -- updates held during a copy and not yet applied (R193): cell, confidence, estimate
  accepted : Bool            -- learning has accepted an update since the last checkpoint
  learned : Bool             -- it had when the copy in progress began (R192)
  exportSeq : Nat
  mtpa : Vector (List (Int × Int × Int)) 4    -- table of each temperature plane: torque (0.1 N·m), id, iq (A)
  stepAt : Nat               -- instant the identification step began
  run : Option LearnRun
  mtpaDue : Bool
  resyncs : List Nat
  deriving DecidableEq, Repr

/-- Position of a group (R156 to R165). -/
structure GroupPos where
  count : Int                -- E, 48-bit signed
  referenced : Bool
  atLow : Bool
  atHigh : Bool
  src : Nat                  -- source in use: interface code, 0 the observer alone
  provisional : Bool
  row : Nat                  -- row of R163 in force: 0 agree, 1 to 4
  rowRun : Nat
  offsets : List Int         -- offsets between the two sources in the last 256 steps in which both agreed (R157)
  unjudged : Option (Int × Bool)   -- E and the flag restored at a wake, which the first frame of an SSP will judge (R159)
  agreeRun : Vector Nat 2    -- consecutive steps in which the primary and the plausibility source agreed with O (R165)
  speed : Rat                -- filtered group speed, r/min (R162)
  before : Rat × Nat         -- group speed before the last latch, and its tick (R163)
  thetaE : Nat               -- electrical angle of the step stamp
  stampAt : Nat
  stampE : Int               -- E at the step stamp (R160)
  deriving DecidableEq, Repr

/-- Observer of a group (R180, R181, R194). -/
structure Observer where
  angle : Nat
  speed : Rat                -- r/min
  torque : Rat
  residual : Rat             -- %
  count : Nat                -- confirm count of a lost rotor
  lastGood : Rat             -- last group speed at which the source in use agreed with O, r/min
  temp : Rat                 -- winding temperature, 0.1 °C
  fluxA : Rat                -- voltage-model flux in the stationary frame, V·s (R180)
  fluxB : Rat
  stamp : Nat                -- tick of the angle
  deriving DecidableEq, Repr

/-- A machine group. -/
structure Group where
  target : Int               -- target table, 0.1 N·m
  latched : Int
  setRef : Option CmdRef     -- TORQUE.SET that no step has latched
  setLatched : Option CmdRef -- TORQUE.SET that a split has latched whose step has not committed
  slew : Rat                 -- output of stage 6 at the last committed split (R221)
  slewNew : Option (Fin 4 × Rat)   -- the same of a split whose bridge has not committed its step
  slewAt : Nat               -- sample instant of the last step that committed a split (R208)
  tAch : Rat                 -- N·m
  t0 : Rat                   -- T_0 of R237
  cond : Cond
  lastRun : Nat              -- bridges in RUN at the last split, bit b - 1
  departed : Bool            -- a departure has raised E-7004 since the group was NORMAL
  ss1 : Option Ss1
  ss1Due : List Nat          -- sources that wait for the entry at the group's next step (R277)
  select : Nat               -- 0x8036
  selectNext : Option Nat
  selectRefs : List CmdRef   -- SAFETY.SELECT that wait for the next step (R272)
  slsFrom : Option Nat       -- SLS deceleration since (R281)
  slsOver : Option Nat       -- over the limit since
  slpOver : Option Nat
  sdiAcc : Int
  lastCount : Int            -- E of the previous step
  pos : GroupPos
  obs : Observer
  reacq : Reacq
  atlas : Atlas
  listen : Nat               -- 0x7140.05–08
  listenSince : Nat
  listenUdc : Rat            -- U_dc at the start of the listen phase (R239)
  rampHold : Bool            -- F held at 0 for the brake (R290)
  msgAt : Nat                -- last host target message
  shortOff : Option Nat      -- neither short-brake condition since
  deriving DecidableEq, Repr

/-- Drive states, in the order of R17. -/
inductive DriveState where
  | sleep | standby | precharge | armed | run | stopping | safeOff | safeAsc | discharge | lockout
  deriving DecidableEq, Repr

/-- A start command in progress (R235): the bridges it names and their outcomes (none while running; 0 in RUN). -/
structure StartCmd where
  ref : CmdRef
  bridges : Vector Bool 4
  outcome : Vector (Option Nat) 4
  deriving DecidableEq, Repr

/-- An SS1.REQUEST that waits for the entry of every named running group: n0 in 0.001 r/min once known (R424). -/
structure Ss1Req where
  ref : CmdRef
  named : Vector Bool 4
  n0 : Vector (Option Int) 4
  deriving DecidableEq, Repr

/-- Drive-level sequences. -/
structure Drive where
  state : DriveState
  starts : List StartCmd
  ss1Reqs : List Ss1Req
  disables : List (CmdRef × Nat)     -- BRIDGE.DISABLE in progress: bridge mask
  armRef : Option CmdRef
  armStep : Nat              -- 0 none, 1 weld test, 2 precharge, 3 CO1 closing (R256)
  armUdc : Rat               -- U_dc at the start of the weld test
  overlap : Bool             -- precharge overlap running
  disarmRefs : List CmdRef
  hbMissed : Nat             -- consecutive heartbeats missed (R38)
  hbAt : Nat                 -- instant of the last of them
  hbLost : Bool              -- the reaction to this run of misses has been applied
  sleepStep : Nat            -- 0 none, 1 waiting for an atlas checkpoint or upload, 2 queue wait (R353, R354)
  sleepRef : Option CmdRef
  sleepAt : Nat
  splitRef : Option (CmdRef × Fin 2)
  rejoinRef : Option (CmdRef × Fin 2)
  clears : List CmdEntry     -- FAULT.CLEAR that wait for the end of a rejoin (R329)
  udc : Rat                  -- DC-link voltage as last measured, V
  udcLog : List (Nat × Rat)  -- tick and voltage of the measurements of the last 10 ms, and of the one before them (R256)
  shunt : Rat                -- DC-link shunt current, A
  shuntAt : Nat
  udcAt : Nat
  hkBase : Bool              -- the first round after ARMED has set the HK28 nominal
  hk28 : Int
  deriving DecidableEq, Repr

/-- Contactors and discharge (R254 to R261). -/
structure Contactors where
  coil : Vector Bool 3       -- CO1, CO2, CO3 commanded closed
  coilAt : Vector Nat 3      -- instant of the last change of the coil
  mirrorOpen : Vector Bool 3 -- the mirror contact shows its contact open
  mirrorAt : Vector Nat 3    -- instant of the last change of the mirror contact (R138)
  economiser : Vector Bool 3
  opening : Nat              -- 0 none, 1 CO1 waits for its current, 2 CO2 waits 20 ms (R257)
  openAt : Nat              -- start of the opening wait or of the precharge overlap
  afterOpen : Bool           -- a discharge follows the opening
  weld : Bool
  active : Bool              -- discharge active
  method : Nat               -- 0 resistor, 1 winding
  fallback : Bool            -- the winding fallback of method 0x02 is still available
  group : Option GroupId     -- group of a winding discharge
  vector : Option (Rat × Int)   -- its current vector: magnitude in A and electrical angle (R259)
  chop : Bool                -- its pattern is applied: I_C has not passed the upper limit (R309)
  chops : Nat                -- applications of the pattern since it began
  startAt : Nat
  startUdc : Rat
  deferred : Bool
  failed : Bool              -- discharge-failure latch
  hvWake : Bool              -- discharge on the HV-present supply alone (R352)
  lowSince : Option Nat      -- U_C below 0x7130.02 with every coil open since
  deriving DecidableEq, Repr

/-- A Sumac window (R292). -/
structure Window where
  cause : Bool
  opened : Option Nat        -- open since
  remaining : Nat            -- ticks
  deriving DecidableEq, Repr

/-- A source of Clove's frequency (R306): the newest intervals in ticks, at most 4, the last edge, its place in the sequence, the sign. -/
structure CloveTrack where
  intervals : List Nat
  lastEdge : Nat             -- in steps of 50 ns (R306), as ticks
  still : Bool               -- no edge for 0x8100.0A (R307)
  place : Nat
  dir : Int
  deriving DecidableEq, Repr

/-- Clove's frequency of a group (R306, R307). -/
structure CloveSpeed where
  freq : Int                 -- 0.1 Hz
  valid : Bool
  standstill : Bool
  source : Nat               -- 0 none, 1 Hall, 2 off-bridge crossings, 3 switching crossings
  tracks : Vector CloveTrack 3
  deriving DecidableEq, Repr

/-- Clove (chapters 09, 10, 20). -/
structure Clove where
  speed : Vector CloveSpeed 4
  stoA : Bool                -- filtered input high
  stoB : Bool
  discrepancy : Bool
  bothLow : Bool             -- both inputs have been low together since the latch
  disagree : Bool            -- channel disagreement latched (R304)
  testResult : Nat           -- 0x8104.01
  testFailed : Bool          -- start-up test failure latched
  testAge : Nat              -- age at the last E-8105, days; 0 none since the last passed test
  testAt : Nat               -- instant of the last passed start-up test (R332)
  testRun : Bool
  extFault : Bool
  brakeOn : Bool             -- BRK energised
  brakeAt : Nat              -- instant of the last change of BRK
  brakeFb : Bool             -- feedback shows released
  brakeFbAt : Nat            -- instant of its last change (R138)
  brakeHigh : Bool           -- high-side switch test failed
  brakeLow : Bool
  brakeLatch : Bool          -- feedback fault latched
  brakeClose : Option Nat    -- start of the close time after standstill (R290)
  windows : Vector Window 16
  powerOver : Option Nat     -- power bound exceeded since
  signature : Nat            -- 0x80F0.01
  bound : Vector Nat 8       -- 0x8071
  boundHigh : Vector Bool 8
  deriving DecidableEq, Repr

/-- Pair states, in the order of R334. -/
inductive PairState where
  | lockstep | cache | recovering | split | debug | withdrawn
  deriving DecidableEq, Repr

/-- A control pair (R310 to R330). -/
structure Pair where
  state : PairState
  held : Bool                -- held in reset
  failed : Bool              -- failed a comparator test since the last reset (R320)
  faults : List Nat          -- instants of faults counted by R318
  debugger : Bool
  flag : Bool
  testedSince : Bool         -- comparator test passed since the debugger detached
  replica : Nat              -- consecutive passes of the replica test
  cores : Vector Bool 2      -- cores answering while split
  deriving DecidableEq, Repr

/-- A partner device (R224). -/
structure Partner where
  serial : Nat
  rank : Nat
  bridges : List AnnBridge
  heardAt : Nat              -- instant of its last announcement
  deriving DecidableEq, Repr

/-- Placement (chapter 07). -/
structure Place where
  pair : Fin 2               -- placement pair
  move : Option (Fin 2 × Bool)   -- placement moves to this pair at the next step boundary; planned (R31)
  decim : Vector Nat 2       -- decimation of the torque monitors on each pair: 1, 2, 4 (R220)
  ceiling : Nat              -- pair-load ceiling, Hz, 0 none
  factor : Rat               -- factor of the pair-load ceiling on every group's carrier (R220)
  costs : Vector Nat 4       -- longest execution times, ns: step, monitor, thermal update, placement (R219)
  loads : Vector Nat 2
  order : List (Nat × Nat × Nat × Nat)   -- bridges last scheduled, in slot order: serial, bridge, carrier period, reload point
  orderAt : Nat
  partners : List Partner
  leader : Nat               -- leader's serial number, 0 none
  left : Bool                -- the partner set has been left (time domain window expired)
  lossWait : Bool            -- a partner's loss waits for the next announcement slot (R230)
  collisions : Vector Nat 4  -- collision losses in the present second
  crowded : Vector Bool 4    -- the threshold was passed: the offset moves at the next schedule (R223)
  collisionAt : Nat
  rating : Bool              -- processor-path rating holds (R330)
  permit : Nat               -- 0x8120.03
  mask : Nat                 -- 0x8120.04
  pelaleDebug : Bool
  deriving DecidableEq, Repr

/-- Supply, domains, clocks and wake (chapter 11). -/
structure Power where
  delivering : Vector Bool 2
  granted : Vector Nat 2     -- 0x9001.04, .05
  portPower : Vector Nat 2   -- input power as measured, 0.1 W
  aux : Bool
  auxPower : Nat
  keepAlive : Bool
  hv : Bool
  overBudget : Bool
  ps : Nat                   -- 0.1 W
  pg : Int                   -- 0.1 W
  k : Nat                    -- per mille
  line : Vector Nat 4        -- line-only ceilings, Hz
  island : Vector Nat 4
  lineRise : Vector (Option (Nat × Nat)) 4    -- a higher line ceiling allowed since, and the lowest that was
  islandRise : Vector (Option (Nat × Nat)) 4
  domains : Vector Bool 8
  pll : Vector Bool 3
  reason : Nat               -- 0x9030.03
  later : Nat                -- later sources, bit per code
  waking : Bool
  abandoned : Bool           -- the wake abandons a sleep entry
  hvArmed : Bool             -- the HV wake source is armed (R352)
  deriving DecidableEq, Repr

/-- Thermal state of the drive (R367, R372, R373). -/
structure Die where
  temp : Int                 -- 0.1 °C
  level : Nat
  below : Option Nat
  hot : Option Nat           -- at or above critical since
  stopped : Bool             -- BRIDGE.ENABLE refused until below level 4
  firstRound : Bool          -- the first housekeeping round has run
  levelAt : Nat
  tcool : Rat
  deriving DecidableEq, Repr

/-- A position interface (R146 to R155, R162). -/
structure Iface where
  theta : Nat                -- sensor angle
  speed : Rat                -- r/min of the machine shaft
  valid : Bool
  cause : Nat
  good : Nat                 -- consecutive good checks
  bad : Nat                  -- consecutive bad checks of the cause being confirmed
  zBad : Nat                 -- consecutive Z errors (R149)
  referenced : Bool
  turns : Int                -- whole sensor periods k
  counts : Int               -- encoder count since the reference
  prevCounts : Int           -- at the previous latch
  track : Nat                -- consecutive tracking errors (resolver)
  badSince : Nat             -- start of an impossible Hall code
  heldSeen : Bool            -- it has been counted as held too long
  lastA : Bool
  lastB : Bool
  undo : Option (Bool × Bool × Nat × Int)   -- the lines, the edge time and the count before the last edge (R152)
  lastEdge : Nat
  prevEdge : Nat
  zAt : Int                  -- count at the last Z
  zSeen : Bool
  illegal : List Nat         -- instants of illegal transitions
  code : Nat                 -- last valid Hall code
  waiting : Option (Nat × Nat)     -- a code that stands in the Hall filter, and since when (R153)
  hallDir : Int
  missPeriod : List Nat      -- instants of skipped states
  impossible : List Nat      -- instants of impossible codes
  busyUntil : Nat            -- SSP
  idleLow : Bool             -- the data line was low at the request of the frame awaited (R155)
  frameAt : Nat
  latchAt : Nat
  deriving DecidableEq, Repr

/-- A capture input (R161). -/
structure Capture where
  last : Int
  outstanding : Option Nat   -- serial of the E-5020 still in Q10
  deriving DecidableEq, Repr

/-- A supervision record (R137 to R140). -/
structure Input where
  valid : Bool
  bad : Nat
  good : Nat
  value : Int                -- last value
  lastGood : Int             -- last valid value
  seen : Bool                -- a value has arrived
  had : Bool                 -- a value that passed its checks has arrived
  stale : Nat                -- checks without a new value
  deriving DecidableEq, Repr

/-- Position interfaces, captures, supervision and housekeeping. -/
structure Sense where
  iface : Vector Iface 8
  capture : Vector Capture 2
  inputs : Vector Input 84   -- record n of R137
  digital : Vector (Bool × Nat) 4  -- filtered level of input 0x40 + i before its last change, and since when it stands (R138)
  hk : Vector Int 32
  roundRunning : Bool
  roundAt : Nat
  discardRound : Bool        -- the next round is discarded (R484)
  piOffset : Vector Int 12   -- mA
  shuntOffset : Int
  cable : Vector Nat 4       -- 0x4031.02–05
  convFree : Vector Nat 14   -- instant each fast converter is free
  aperture : Vector Nat 14   -- aperture tick of its last conversion (R116)
  windows : List (Fin 4 × Fin 3 × Nat)   -- shunt-window conversions triggered and not begun: bridge, sample, aperture tick (R117)
  offsetRun : Bool           -- the offset measurement of the entry into ARMED is under way (R120)
  deriving DecidableEq, Repr

/-- An Ethernet port (R446 to R454). -/
structure Port where
  up : Bool
  gigabit : Bool
  failed : Nat               -- failed trainings
  fallback : Bool
  testing : Bool
  testCode : Nat
  testDist : Nat
  macsec : Bool              -- a live key
  deriving DecidableEq, Repr

/-- Ports, switch and ring. -/
structure Net where
  port : Vector Port 2
  table : List (BitVec 48 × PortId × Nat)   -- learned addresses and their instants
  ring : Nat                 -- 0x0A011.04
  missing : Nat              -- consecutive ring checks missing
  awaiting : Bool            -- a ring check is out
  deriving DecidableEq, Repr

/-- A time domain (R459). -/
structure Domain where
  valid : Bool
  lost : Bool                -- was valid and is lost
  everUsed : Bool
  good : Nat                 -- consecutive Syncs without a jump while lost
  lastSync : Option Nat
  lastAnnounce : Option Nat
  offset : Int               -- ns
  grandmaster : Option Grandmaster
  held : Bool                -- held unused (R460)
  deriving DecidableEq, Repr

/-- The time unit (R460 to R462): internal time was `base` (2^-16 ns) at tick `since`; it runs at `rate`, and moves by `delta` at `slew`. -/
structure TimeUnit where
  base : Nat
  since : Nat
  rate : Int                 -- ppb
  use : Nat                  -- 0 none, 1 primary, 2 secondary
  dom : Vector Domain 2
  sum : Int                  -- sum of o
  freqPart : Int             -- ppb: the component that follows the domain's frequency
  freqAt : Nat
  delta : Int                -- ns that internal time had still to move at `since`
  slew : Nat                 -- slew rate of that move, ppb
  lastBoth : Option Int      -- difference of the domains at the last measurement with both valid
  freeSince : Option Nat
  deriving DecidableEq, Repr

/-- A CAN transmit buffer (R472). -/
structure CanTx where
  frame : CanFrame
  since : Nat
  peer : Option Nat          -- transport message it belongs to
  deriving DecidableEq, Repr

/-- An ISO 15765-2 reception. -/
structure CanRx where
  peer : Nat
  length : Nat
  bytes : List Byte
  next : Nat                 -- next sequence number
  deriving DecidableEq, Repr

/-- An ISO 15765-2 transmission: the bytes still to send, the next sequence number, whether a flow control is awaited. -/
structure CanSend where
  peer : Nat
  rest : List Byte
  next : Nat
  wait : Bool
  waits : Nat
  block : Nat                -- frames left in the block, 0 no limit
  limited : Bool
  deriving DecidableEq, Repr

/-- A CAN controller (chapter 17). -/
structure Can where
  state : Nat                -- 0x20: 0 active, 1 passive, 2 bus-off, 3 stopped, 4 warning
  txErr : Nat                -- TEC
  rxErr : Nat                -- REC
  delay : Nat
  timing : Vector Nat 9      -- subs 0x03 to 0x0B, as the controller last started with them (R469)
  address : Nat              -- 0xFE none
  claiming : Option Nat      -- address being claimed
  claims : List (Nat × Nat)  -- address and NAME that other devices have claimed (R475)
  fifo : List CanFrame
  high : List CanFrame
  tx : List CanTx            -- at most 16 buffers
  busOffs : List Nat
  recovering : Bool
  rx : List CanRx
  send : List CanSend
  deriving DecidableEq, Repr

end Sys2Proof.Machine
end

