-- ==== Sys2Proof/Machine/State.lean ====
section
/-! DEFINITION. The whole machine state, its reset value, and the reasons a step can stop. -/

namespace Sys2Proof.Machine

/-- Faults: the spec names none that stops the block, so no meaning raises the one constructor (safe). -/
inductive Fault where
  | none
  deriving DecidableEq, Repr

/-- Refusals. `notModelled` is answered by an arm of exec whose row has no meaning yet (safe). -/
inductive Refusal where
  | notModelled (mnemonic : String)
  deriving DecidableEq, Repr

/-- The TVW4860. -/
structure State where
  pending : List Instr       -- commands waiting, first in first out
  now : Nat                  -- ticks of 2.5 ns since power-on (log 1)
  freeCount : Nat            -- the model's own counter of free values (log 9)
  par : Params
  io : Io
  transfer : Option Transfer
  st : Stats
  mem : Mem
  arb : Arb
  streams : Vector Stream 4
  test : TestUnit
  boot : Boot
  br : Vector Bridge 4
  gr : Vector Group 4
  drive : Drive
  cont : Contactors
  clove : Clove
  pairs : Vector Pair 2
  place : Place
  pwr : Power
  die : Die
  sense : Sense
  net : Net
  time : TimeUnit
  can : Vector Can 2
  deriving DecidableEq, Repr

/-- A position without power (log 3, log 4). -/
def Position.reset : Position :=
  { on := false, above := false, railReady := false, railUv := false, retry := none, retryDue := false, tries := [],
    latched := false, latchCode := 0, soft := 0, detected := none, softSpan := none, byDesat := false, reported := false, linkValid := false, partnerKnown := false, hold := none, onAt := 0,
    blankTo := 0, driveEnable := false, onDelay := .replicate 4 [], offDelay := .replicate 4 [], onDvdt := .replicate 4 [], offDvdt := .replicate 4 [], dvdtRun := 0,
    charge := [], chargeIdent := 0 }

/-- A leg with PD4 just powered (R51, R46, R60; log 3). -/
def Leg.reset : Leg :=
  { ref := false, acc := 0, lowDriven := 0, up := 0, dn := 0, before := none, width := 0, lastEdge := 0, cut := none, cutSeen := false, cutSpan := none, cutRun := 0,
    overlapSeen := false, overlapRun := 0, cancelSeen := false, cancelRun := 0, fault := 0, ledger := 0, ledgerLeft := 0, ledgerAge := 0,
    insU := 0, insD := 0, clamp := 0, mean := none, meanCmd := none, volts := none, drove := false, clampSide := 0 }

/-- A carrier with PD4 just powered: period number and dither 0 (R46, R51), TOP for the default request of 10,000 Hz (R42). -/
def Carrier.reset : Carrier :=
  { top := 20000, valley := 0, peakAt := 0, period := 0, dither := 0, shadow := none, shadowTag := 0, skip := false,
    active := none, tag := 0, updateTag := 0, updatePeriod := 0, reloadAt := 0, offset := 0, schedule := none, due := false, moving := none,
    moveAt := 0, adjust := 0, locked := false, shift := 0 }

/-- The control state of a bridge (log 3). -/
def Ctl.reset : Ctl :=
  { opened := false, gotRef := false, lookup := false, lost := false, askAt := 0, queued := false, abandoned := 0, staleLast := false, id := 0, iq := 0, idRef := 0,
    iqRef := 0, fw := 0, intD := 0, intQ := 0, ud := 0, uq := 0, theta := 0, portion := 0, share := 0,
    filtShare := 0, headroom := 0, thermHead := 0, atlas := .replicate 4 0, atlasSlope := .replicate 4 0, conf := 0,
    torque := 0, stepPeriod := 0, amps := .replicate 3 0, stepUdc := 0, iqFit := none, lims := .replicate 4 0, askTemp := 200, heat := .replicate 6 850, decim := 1,
    ampSum := 0, ampCount := 0, currentMean := 0, dcMean := 0, fbw := 0, clamped := false, shortSide := 0,
    shortSince := 0, shortFrac := 0, shortSum := 0, shortCount := 0, rampDown := none, joinAt := none, arrival := 0, monFails := 0, monStale := 0,
    shortNow := false }

/-- The thermal model before the first round: every node at 0x9110.06, 85.0 °C (R367), band 2 (R368); dead time at the band
floors (R58). -/
def Thermal.reset : Thermal :=
  { band := 2, applied := 2, nodes := .replicate 6 (.replicate 4 850), base := .replicate 3 850, energy := .replicate 6 0,
    pending := .replicate 6 0, power := .replicate 6 0, last := 0, late := false, tripRun := .replicate 6 0,
    ntcTrip := .replicate 3 0, ntcOff := .replicate 3 0, ntcExcess := .replicate 3 0, tripped := false,
    dead := #v[200, 120, 120, 160], atCeiling := .replicate 4 false, wset := .replicate 4 0, replace := false,
    blank := #v[600, 400, 400, 500] }

/-- The measured values of a bridge before any step (log 3). -/
def Meas.reset : Meas :=
  { pi := .replicate 3 0, piFresh := .replicate 3 false, shunt := .replicate 3 none, shuntAt := .replicate 3 0, plan := none,
    recon := .replicate 3 0, stale := false, edges := [], inValid := 0, inTwo := 0, inSum := 0, phase := 0,
    mode := 0, missing := 0, implausible := false, sampleAt := 0, halfAt := 0, halfUp := false }

/-- Zero-crossing results before any crossing (log 3). -/
def Bemf.reset : Bemf :=
  { crossings := [], last := .replicate 3 none, seen := 0, freq := 0, amp := 0, angle := 0, clampFlag := false, reached := false, standstill := false }

/-- No forcing. -/
def Force.reset : Force :=
  { pattern := 0, sources := [], causes := [], ascTo := none, ascAt := 0, clampAt := none, twoLeg := false }

/-- No start in progress. -/
def Start.reset : Start := { phase := 0, since := 0, pulses := 0, pulseAt := 0, primes := 0, joining := false, found := false }

/-- A bridge after power-on: STANDBY, no forcing, steps of B1 and B2 on CP1 and of B3 and B4 on CP2 (R219, 0x7051). -/
def Bridge.reset (b : BridgeId) : Bridge :=
  { state := .standby, start := .reset, force := .reset, car := .reset, legs := .replicate 3 .reset, pos := .replicate 6 .reset,
    meas := .reset, bemf := .reset, ctl := .reset, th := .reset, escalated := none, held := [],
    pair := if b < 2 then 0 else 1, monPair := if b < 2 then 1 else 0,
    thermPair := if b < 2 then 1 else 0 }

/-- A group after power-on (log 3). -/
def Group.reset : Group :=
  { target := 0, latched := 0, setRef := none, setLatched := none, slew := 0, slewNew := none, slewAt := 0, tAch := 0, t0 := 0,
    cond := .normal, lastRun := 0, departed := false, ss1 := none, ss1Due := [], select := 0, selectNext := none, selectRefs := [], slsFrom := none, slsOver := none,
    slpOver := none, sdiAcc := 0, lastCount := 0,
    pos := { count := 0, referenced := false, atLow := false, atHigh := false, src := 0, provisional := false, row := 0,
             rowRun := 0, offsets := [], unjudged := none, agreeRun := .replicate 2 0, speed := 0, before := (0, 0), thetaE := 0, stampAt := 0, stampE := 0 },
    obs := { angle := 0, speed := 0, torque := 0, residual := 0, count := 0, lastGood := 0, temp := 200, fluxA := 0, fluxB := 0, stamp := 0 },
    reacq := { phase := 0, since := 0, limit := 0, asc := false, isCatch := false, failures := [], alphas := [], angle := 0, freq := 0 },
    atlas := { state := 0, suspect := false, result := 0, record := none, ident := none, identRef := none, copying := false, copyRefs := [],
               buffer := [], accepted := false, learned := false, exportSeq := 0, mtpa := .replicate 4 [], stepAt := 0, run := none, mtpaDue := false, resyncs := [] },
    listen := 0, listenSince := 0, listenUdc := 0, rampHold := false, msgAt := 0, shortOff := none }

/-- The drive in SLEEP, its wake in progress (log 4). -/
def Drive.reset : Drive :=
  { state := .sleep, starts := [], ss1Reqs := [], disables := [], armRef := none, armStep := 0, armUdc := 0, overlap := false, disarmRefs := [],
    hbMissed := 0, hbAt := 0, hbLost := false, sleepStep := 0, sleepRef := none, sleepAt := 0, splitRef := none, rejoinRef := none, clears := [], udc := 0, udcLog := [], shunt := 0,
    shuntAt := 0, udcAt := 0, hkBase := false, hk28 := 0 }

/-- Contactors open, nothing latched (R255, R264; log 3). -/
def Contactors.reset : Contactors :=
  { coil := .replicate 3 false, coilAt := .replicate 3 0, mirrorOpen := .replicate 3 true, mirrorAt := .replicate 3 0, economiser := .replicate 3 false,
    opening := 0, openAt := 0, afterOpen := false, weld := false, active := false, chop := false, chops := 0, method := 0,
    fallback := false, group := none, vector := none, startAt := 0, startUdc := 0, deferred := false, failed := false, hvWake := false,
    lowSince := none }

/-- The default length of each Sumac window in seconds (R293), in the order of 0x8051. -/
def windowDefault (w : Fin 16) : Nat :=
  if w.val < 2 then 600 else if w.val < 6 then 120 else if w.val < 10 then 1800 else if w.val < 14 then 600
  else if w.val = 14 then 1800 else 600

/-- Clove after power-on: STO inputs high, brake applied (de-energised), every window with its full default time (log 3). -/
def Clove.reset : Clove :=
  { speed := .replicate 4 { freq := 0, valid := false, standstill := false, source := 0, tracks := .replicate 3 { intervals := [], lastEdge := 0, still := false, place := 0, dir := 1 } },
    stoA := true, stoB := true, discrepancy := false, bothLow := false, disagree := false, testResult := 0, testFailed := false,
    testAge := 0, testAt := 0, testRun := false, extFault := false, brakeOn := false, brakeAt := 0,
    brakeFb := false, brakeFbAt := 0, brakeHigh := false, brakeLow := false, brakeLatch := false, brakeClose := none,
    windows := Vector.ofFn fun w => { cause := false, opened := none, remaining := windowDefault w * ticksPerS },
    powerOver := none, signature := 0, bound := .replicate 8 0, boundHigh := .replicate 8 false }

/-- A pair held until the boot releases it: Recovering (log 4). -/
def Pair.reset : Pair :=
  { state := .recovering, held := true, failed := false, faults := [], debugger := false, flag := false, testedSince := false, replica := 0,
    cores := .replicate 2 true }

/-- Placement at its table defaults (R231). -/
def Place.reset : Place :=
  { pair := 0, move := none, decim := .replicate 2 1, ceiling := 0, factor := 1, costs := .replicate 4 0, loads := .replicate 2 0, order := [], orderAt := 0, partners := [], leader := 0,
    left := false, lossWait := false, collisions := .replicate 4 0, crowded := .replicate 4 false, collisionAt := 0, rating := false, permit := 0, mask := 0,
    pelaleDebug := false }

/-- PD0 only; line power on port NA has just appeared, wake reason 0x09 (log 4). -/
def Power.reset : Power :=
  { delivering := #v[true, false], granted := .replicate 2 0, portPower := .replicate 2 0, aux := false, auxPower := 0,
    keepAlive := false, hv := false, overBudget := false, ps := 0, pg := 0, k := 1000, line := .replicate 4 0,
    island := .replicate 4 0, lineRise := .replicate 4 none, islandRise := .replicate 4 none,
    domains := #v[true, false, false, false, false, false, false, false], pll := .replicate 3 false, reason := 0x09, later := 0,
    waking := true, abandoned := false, hvArmed := true }

/-- Thermal state before the first round (R367). -/
def Die.reset : Die :=
  { temp := 0, level := 0, below := none, hot := none, stopped := false, firstRound := false, levelAt := 0, tcool := 850 }

/-- An idle, valid interface (log 3). -/
def Iface.reset : Iface :=
  { theta := 0, speed := 0, valid := true, cause := 0, good := 0, bad := 0, zBad := 0, referenced := false, turns := 0,
    counts := 0, prevCounts := 0, track := 0, badSince := 0, heldSeen := false, lastA := false, lastB := false, undo := none, lastEdge := 0, prevEdge := 0, zAt := 0, zSeen := false, illegal := [],
    code := 0, waiting := none, hallDir := 1, missPeriod := [], impossible := [], busyUntil := 0, idleLow := false, frameAt := 0, latchAt := 0 }

/-- A valid input that has given no value yet (log 3). -/
def Input.reset : Input := { valid := true, bad := 0, good := 0, value := 0, lastGood := 0, seen := false, had := false, stale := 0 }

/-- Sensing before the first conversion; cable lengths 0xFFFF (0x4031). -/
def Sense.reset : Sense :=
  { iface := .replicate 8 .reset, capture := .replicate 2 { last := 0, outstanding := none }, inputs := .replicate 84 .reset,
    digital := #v[(true, 0), (true, 0), (true, 0), (false, 0)],
    hk := .replicate 32 0, roundRunning := false, roundAt := 0, discardRound := false, piOffset := .replicate 12 0,
    shuntOffset := 0, cable := .replicate 4 0xFFFF, convFree := .replicate 14 0, aperture := .replicate 14 0,
    windows := [], offsetRun := false }

/-- Ports down, cable tests not run (0xA003). -/
def Net.reset : Net :=
  { port := .replicate 2 { up := false, gigabit := false, failed := 0, fallback := false, testing := false, testCode := 0,
                           testDist := 0xFFFF, macsec := false },
    table := [], ring := 0, missing := 0, awaiting := false }

/-- Internal time at zero, running from the reference, no domain in use (R460). -/
def TimeUnit.reset (now : Nat) : TimeUnit :=
  { base := 0, since := now, rate := 0, use := 0,
    dom := .replicate 2 { valid := false, lost := false, everUsed := false, good := 0, lastSync := none, lastAnnounce := none, offset := 0,
                          grandmaster := none, held := false },
    sum := 0, freqPart := 0, freqAt := now, delta := 0, slew := 0, lastBoth := none, freeSince := some now }

/-- A CAN controller holding no address (0xB008.04). -/
def Can.reset : Can :=
  { state := 0, txErr := 0, rxErr := 0, delay := 0, timing := #v[2, 63, 16, 16, 1, 29, 10, 10, 30], address := 0xFE, claiming := none, claims := [], fifo := [], high := [], tx := [],
    busOffs := [], recovering := false, rx := [], send := [] }

/-- Empty queues, no session before the boot draws one (R399, R401). -/
def Io.reset : Io :=
  { session := 0,
    cmd := .replicate 4 { waiting := [], lastSeq := none, retained := [], consumer := 0, armed := false },
    taken := .replicate 4 [], out := .replicate 16 { entries := [], consumer := 0, inRing := 0, lost := 0 },
    notify := .replicate 16 { last := none, during := false }, eventSerial := 0, outbox := [] }

/-- No counter, epoch 0 (R497), the default epoch length. -/
def Stats.reset : Stats :=
  { running := [], snapshot := [], firsts := [], epoch := 0, length := 1000, began := 0, snapNumber := 0,
    snapShortened := false, snapSaturated := false, saturated := false }

/-- The default slot table (R384): owner of slot s. -/
def slotDefault (s : Nat) : Nat :=
  if s % 4 = 0 then 0 else if s % 8 = 2 then 1 else if s % 8 = 6 then 2 else if s % 8 = 1 then 3 else if s % 8 = 5 then 4
  else if s % 8 = 3 then 6 else if s % 16 = 7 then 5 else 7

/-- The arbiter at its defaults (R384, R392). -/
def Arb.reset : Arb :=
  { table := Vector.ofFn fun s => slotDefault s.val, ranks := #v[2, 0, 1, 7, 5, 3, 4, 6], base := none, adapted := none, slot := 0,
    reqs := .replicate 8 { requesting := false, cutOff := false, refused := false, gated := false, hold := 0, waitSince := 0,
                           unserved := 0, hint := none },
    refresh := false, scrub := 0, burst := none, longest := 0, longestLast := 0, prefetch := [] }

/-- A stopped stream with the default ring share of 64 MiB (R416). -/
def Stream.reset : Stream :=
  { running := false, number := 0, lastNumber := 0, count := 0, samples := [], sets := 0, first := ⟨0, 0, 0⟩, flush := [],
    stopping := false, lostFlag := false, ringWords := 0, ringShare := 64, channels := [], setsPer := 64, decimation := 1,
    packed := false, policy := 0, trigger := 0, bridge := 1 }

/-- Self-test with no result, injection not armed (R500). -/
def TestUnit.reset : TestUnit :=
  { inst := .replicate 12 (.replicate 24 { result := 0, passedAt := none, slices := 0, due := false, missed := 0,
                                           overdue := false }),
    running := [], placed := .replicate 4 none, nominal := .replicate 12 0, reqs := [], challenge := 0, arm := none, armNumber := 0, fired := [], inject := [] }

/-- Memory with nothing written and an empty journal (log 10). -/
def Mem.reset : Mem :=
  { dram := [], nand := [], journal := { half := 0, halves := .replicate 2 [] }, blockCrc := .replicate 8 [], cut := .replicate 8 false,
    relocated := [], bad := [], pages := [] }

/-- A unit as delivered at its first power-on: slot A holds the delivered image (log 4), cause 0x01, boot in progress. -/
def Boot.reset : Boot :=
  { cause := 1, bootNumber := 0, bootCount := 0, resetCounts := .replicate 6 0,
    fw := #v[{ delivered := true, fileLength := 0 }, { delivered := false, fileLength := 0 }], slot := 0, trial := 0,
    confirmed := true, recovery := false, alternateOk := false, servicePin := false, watchdogAt := none, resetAt := none,
    standbyAt := none, booting := true, testDue := true, cloveReset := true, records := [], serial := 0, cleared := [],
    retained := .replicate 4 none, flagLost := .replicate 4 false, bootEvents := [] }

/-- No value written: every object at its default (R510). -/
def Params.reset : Params :=
  { stored := [], active := [], commit := none, slots := .replicate 2 none, halves := .replicate 2 false }

/-- The machine right after the power-on reset of a unit as delivered (R504; log 4): the wake of R351 is in progress, and
DOMAIN_READY and BOOT_COMPLETE commands lead to STANDBY. -/
def State.reset : State :=
  { pending := [], now := 0, freeCount := 0, par := .reset, io := .reset, transfer := none, st := .reset, mem := .reset,
    arb := .reset, streams := .replicate 4 .reset, test := .reset, boot := .reset, br := Vector.ofFn Bridge.reset,
    gr := .replicate 4 .reset, drive := .reset, cont := .reset, clove := .reset, pairs := .replicate 2 .reset, place := .reset,
    pwr := .reset, die := .reset, sense := .reset, net := .reset, time := .reset 0, can := .replicate 2 .reset }

end Sys2Proof.Machine
end

