-- ==== Sys2Proof/Machine/Objects.lean ====
section
/-! DEFINITION. The parameter objects (R14, R426, R428): one row per row of the spec's object tables, with type, access, moment of
effect and default; and the statistics objects of the counter rules. -/

namespace Sys2Proof.Machine

/-- Rows of an object table: indices i0 to i1, subs s0 to s1; `ty` is the type code of R426; `acc` 0 RO, 1 RW, 2 RWS; `eff` 0
immediate, 1 at reload, 2 at commit, 3 at state change, 4 at epoch; `d` the defaults of consecutive subs, repeated. -/
structure ObjRow where
  i0 : Nat
  i1 : Nat
  s0 : Nat
  s1 : Nat
  ty : Nat
  acc : Nat
  eff : Nat
  d : List Int
  deriving DecidableEq, Repr

/-- Area 1: objects of R2, R443. -/
def objects1a : List ObjRow :=
  [⟨0x1000, 0x1000, 1, 1, 32, 0, 0, [0]⟩, ⟨0x1000, 0x1000, 2, 2, 4, 0, 0, [0]⟩, ⟨0x1000, 0x1000, 3, 3, 2, 0, 0, [0]⟩,
   ⟨0x1000, 0x1000, 4, 4, 3, 0, 0, [0]⟩, ⟨0x1000, 0x1000, 5, 5, 1, 0, 0, [0]⟩, ⟨0x1100, 0x1100, 1, 1, 1, 2, 2, [0]⟩,
   ⟨0x1101, 0x1101, 1, 1, 2, 0, 0, [0]⟩, ⟨0x1101, 0x1101, 2, 2, 1, 0, 0, [255]⟩, ⟨0x1101, 0x1101, 3, 3, 3, 0, 0, [0]⟩,
   ⟨0x1101, 0x1101, 4, 4, 1, 0, 0, [0]⟩, ⟨0x1101, 0x1101, 5, 5, 3, 0, 0, [0]⟩, ⟨0x1101, 0x1101, 6, 6, 2, 1, 0, [10000]⟩,
   ⟨0x1101, 0x1101, 7, 7, 1, 0, 0, [0]⟩]

/-- Area 2: objects of R76. -/
def objects2a : List ObjRow :=
  [⟨0x2010, 0x2010, 1, 4, 3, 1, 1, [10000]⟩, ⟨0x2011, 0x2011, 1, 4, 1, 2, 3, [0]⟩, ⟨0x2012, 0x2012, 1, 4, 1, 2, 3, [0]⟩,
   ⟨0x2013, 0x2013, 1, 4, 1, 1, 1, [0]⟩, ⟨0x2014, 0x2014, 1, 1, 2, 2, 3, [40]⟩, ⟨0x2015, 0x2015, 1, 1, 2, 1, 1, [16]⟩,
   ⟨0x2015, 0x2015, 2, 2, 3, 1, 4, [100]⟩, ⟨0x2017, 0x2017, 1, 4, 3, 0, 0, [0]⟩,
   ⟨0x2030, 0x2030, 1, 4, 2, 2, 3, [200, 120, 120, 160]⟩, ⟨0x2030, 0x2030, 5, 5, 2, 2, 3, [40]⟩,
   ⟨0x2030, 0x2030, 6, 6, 2, 2, 3, [800]⟩, ⟨0x2031, 0x2031, 1, 16, 2, 0, 0, [0]⟩, ⟨0x2040, 0x2040, 1, 1, 1, 2, 3, [0]⟩,
   ⟨0x2040, 0x2040, 2, 2, 2, 0, 0, [2000]⟩, ⟨0x2050, 0x2050, 1, 4, 2, 1, 1, [1000]⟩, ⟨0x2050, 0x2050, 5, 5, 2, 1, 1, [80]⟩,
   ⟨0x2060, 0x2060, 1, 1, 1, 2, 3, [1]⟩, ⟨0x2060, 0x2060, 2, 2, 2, 1, 0, [8]⟩, ⟨0x2060, 0x2060, 3, 3, 1, 1, 0, [2]⟩,
   ⟨0x2060, 0x2060, 4, 4, 1, 1, 0, [25]⟩, ⟨0x2061, 0x2061, 1, 4, 2, 0, 0, [0]⟩, ⟨0x2070, 0x2070, 1, 4, 4, 0, 0, [0]⟩,
   ⟨0x2071, 0x2071, 1, 4, 4, 0, 0, [0]⟩]

/-- Area 3: objects of R110. -/
def objects3a : List ObjRow :=
  [⟨0x3000, 0x3000, 1, 4, 18, 2, 3, [180]⟩, ⟨0x3001, 0x3001, 1, 4, 18, 2, 3, [-40]⟩, ⟨0x3002, 0x3002, 1, 1, 2, 2, 3, [30]⟩,
   ⟨0x3003, 0x3003, 1, 1, 2, 1, 1, [1000]⟩, ⟨0x3010, 0x3010, 1, 16, 1, 1, 1, [0]⟩,
   ⟨0x3011, 0x3011, 1, 16, 2, 1, 1, [600, 400, 400, 500]⟩, ⟨0x3012, 0x3012, 1, 16, 1, 0, 0, [0]⟩,
   ⟨0x3020, 0x3020, 1, 17, 2, 0, 0, [0]⟩, ⟨0x3021, 0x3027, 1, 17, 2, 2, 3, [0]⟩, ⟨0x3030, 0x3030, 1, 4, 1, 2, 3, [60]⟩,
   ⟨0x3031, 0x3031, 1, 4, 2, 2, 3, [1500]⟩, ⟨0x3032, 0x3032, 1, 4, 2, 2, 3, [2000]⟩, ⟨0x3033, 0x3033, 1, 4, 2, 2, 3, [90]⟩,
   ⟨0x3033, 0x3033, 5, 5, 2, 2, 3, [400]⟩, ⟨0x3033, 0x3033, 6, 6, 1, 2, 3, [2]⟩, ⟨0x3040, 0x3040, 1, 1, 2, 1, 0, [10]⟩,
   ⟨0x3040, 0x3040, 2, 2, 1, 1, 0, [3]⟩, ⟨0x3040, 0x3040, 3, 3, 1, 1, 0, [10]⟩, ⟨0x3040, 0x3040, 4, 4, 2, 2, 3, [1000]⟩,
   ⟨0x3050, 0x3050, 1, 1, 2, 2, 3, [2000]⟩, ⟨0x3050, 0x3050, 2, 2, 1, 2, 3, [20]⟩, ⟨0x3050, 0x3050, 3, 3, 2, 2, 3, [50]⟩,
   ⟨0x3050, 0x3050, 4, 4, 1, 2, 3, [5]⟩, ⟨0x3051, 0x3051, 1, 4, 2, 1, 1, [300]⟩, ⟨0x3051, 0x3051, 5, 5, 2, 1, 0, [64]⟩,
   ⟨0x3052, 0x3052, 1, 1, 2, 1, 0, [20]⟩, ⟨0x3060, 0x3063, 1, 24, 3, 0, 0, [0]⟩, ⟨0x3064, 0x3067, 1, 24, 3, 0, 0, [0]⟩,
   ⟨0x3068, 0x3068, 1, 24, 2, 0, 0, [0]⟩, ⟨0x3069, 0x3069, 1, 24, 2, 0, 0, [0]⟩, ⟨0x306A, 0x306A, 1, 24, 2, 0, 0, [0]⟩,
   ⟨0x306B, 0x306B, 1, 24, 2, 0, 0, [0]⟩, ⟨0x306C, 0x306C, 1, 24, 2, 0, 0, [0]⟩]

/-- Area 4: objects of R142. -/
def objects4a : List ObjRow :=
  [⟨0x4010, 0x4010, 1, 12, 19, 2, 3, [0x30d40]⟩, ⟨0x4011, 0x4011, 1, 12, 19, 0, 0, [0]⟩,
   ⟨0x4012, 0x4012, 1, 1, 3, 2, 3, [0x186a0]⟩, ⟨0x4012, 0x4012, 2, 2, 19, 0, 0, [0]⟩, ⟨0x4014, 0x4014, 1, 8, 1, 2, 3, [0]⟩,
   ⟨0x4014, 0x4014, 9, 12, 1, 0, 0, [0]⟩, ⟨0x4015, 0x4015, 1, 1, 2, 1, 3, [2000]⟩, ⟨0x4020, 0x4020, 1, 1, 2, 2, 3, [240]⟩,
   ⟨0x4020, 0x4020, 2, 2, 1, 2, 3, [8]⟩, ⟨0x4020, 0x4020, 3, 3, 2, 1, 1, [2000]⟩, ⟨0x4020, 0x4020, 4, 4, 1, 1, 1, [16]⟩,
   ⟨0x4020, 0x4020, 5, 5, 2, 2, 3, [40]⟩, ⟨0x4021, 0x4021, 1, 4, 2, 1, 0, [40]⟩, ⟨0x4021, 0x4021, 5, 5, 1, 1, 0, [8]⟩,
   ⟨0x4022, 0x4022, 1, 4, 2, 1, 0, [40]⟩, ⟨0x4023, 0x4023, 1, 4, 2, 2, 3, [120]⟩, ⟨0x4023, 0x4023, 5, 5, 1, 1, 0, [3]⟩,
   ⟨0x4030, 0x4030, 1, 1, 2, 1, 0, [50]⟩, ⟨0x4030, 0x4030, 2, 2, 2, 1, 0, [20]⟩, ⟨0x4030, 0x4030, 3, 3, 1, 1, 0, [2]⟩,
   ⟨0x4030, 0x4030, 4, 4, 2, 1, 0, [200]⟩, ⟨0x4030, 0x4030, 5, 5, 2, 1, 1, [5]⟩, ⟨0x4031, 0x4031, 1, 1, 2, 2, 3, [150]⟩,
   ⟨0x4031, 0x4031, 2, 5, 2, 0, 0, [65535]⟩, ⟨0x4032, 0x4032, 1, 4, 19, 0, 0, [0]⟩, ⟨0x4032, 0x4032, 5, 12, 2, 0, 0, [0]⟩,
   ⟨0x4040, 0x4040, 1, 32, 19, 0, 0, [0]⟩, ⟨0x4100, 0x4153, 1, 3, 19, 1, 0, [0]⟩, ⟨0x4100, 0x4153, 4, 4, 2, 1, 0, [0]⟩,
   ⟨0x4100, 0x4153, 5, 5, 1, 1, 0, [0]⟩, ⟨0x4100, 0x4153, 6, 6, 1, 2, 3, [0]⟩, ⟨0x4100, 0x4153, 7, 7, 19, 2, 3, [0]⟩,
   ⟨0x4100, 0x4153, 8, 8, 1, 2, 3, [0]⟩, ⟨0x4100, 0x4153, 9, 9, 2, 1, 0, [0]⟩]

/-- Area 5: objects of R167. -/
def objects5a : List ObjRow :=
  [⟨0x5000, 0x5000, 1, 8, 1, 2, 3, [0]⟩, ⟨0x5001, 0x5001, 1, 1, 1, 2, 3, [0]⟩, ⟨0x5002, 0x5002, 1, 4, 1, 2, 3, [4]⟩,
   ⟨0x5010, 0x5011, 1, 1, 2, 2, 3, [10000]⟩, ⟨0x5010, 0x5011, 2, 2, 2, 2, 3, [40]⟩, ⟨0x5010, 0x5011, 3, 3, 1, 2, 3, [1]⟩,
   ⟨0x5010, 0x5011, 4, 4, 2, 2, 3, [1000]⟩, ⟨0x5010, 0x5011, 5, 6, 1, 1, 0, [50, 150]⟩, ⟨0x5010, 0x5011, 7, 7, 1, 1, 0, [1]⟩,
   ⟨0x5010, 0x5011, 8, 8, 2, 1, 0, [1820]⟩, ⟨0x5012, 0x5013, 1, 1, 2, 2, 3, [2048]⟩, ⟨0x5012, 0x5013, 2, 2, 1, 2, 3, [1]⟩,
   ⟨0x5012, 0x5013, 3, 3, 1, 1, 0, [4]⟩, ⟨0x5012, 0x5013, 4, 4, 1, 2, 3, [10]⟩, ⟨0x5014, 0x5015, 1, 1, 1, 2, 3, [4]⟩,
   ⟨0x5014, 0x5015, 2, 2, 2, 2, 3, [2]⟩, ⟨0x5014, 0x5015, 3, 3, 2, 1, 0, [10]⟩, ⟨0x5016, 0x5017, 1, 1, 2, 2, 3, [4000]⟩,
   ⟨0x5016, 0x5017, 2, 2, 1, 2, 3, [25]⟩, ⟨0x5016, 0x5017, 3, 4, 1, 2, 3, [13, 12]⟩, ⟨0x5016, 0x5017, 5, 5, 1, 2, 3, [1]⟩,
   ⟨0x5016, 0x5017, 6, 6, 1, 2, 3, [255]⟩, ⟨0x5016, 0x5017, 7, 7, 2, 2, 3, [20]⟩, ⟨0x5016, 0x5017, 8, 8, 1, 2, 3, [0]⟩,
   ⟨0x5016, 0x5017, 11, 11, 2, 2, 3, [0]⟩, ⟨0x5010, 0x5017, 9, 9, 2, 2, 3, [0]⟩, ⟨0x5010, 0x5017, 10, 10, 1, 2, 3, [0]⟩,
   ⟨0x5020, 0x5020, 1, 4, 19, 2, 3, [-2147483648]⟩, ⟨0x5020, 0x5020, 5, 8, 19, 2, 3, [0x7fffffff]⟩,
   ⟨0x5020, 0x5020, 9, 12, 1, 2, 3, [0]⟩, ⟨0x5030, 0x5030, 1, 4, 2, 1, 0, [5461]⟩, ⟨0x5030, 0x5030, 5, 8, 2, 1, 0, [100]⟩,
   ⟨0x5030, 0x5030, 9, 9, 1, 1, 0, [3]⟩, ⟨0x5030, 0x5030, 10, 13, 2, 2, 3, [1800]⟩, ⟨0x5032, 0x5032, 1, 4, 2, 1, 0, [500]⟩,
   ⟨0x5032, 0x5032, 5, 5, 2, 1, 0, [100]⟩, ⟨0x5040, 0x5040, 1, 8, 19, 0, 0, [0]⟩, ⟨0x5040, 0x5040, 9, 12, 1, 0, 0, [0]⟩,
   ⟨0x5040, 0x5040, 13, 16, 2, 0, 0, [0]⟩, ⟨0x5041, 0x5041, 1, 8, 2, 0, 0, [0]⟩]

/-- Area 5: objects of R167. -/
def objects5b : List ObjRow :=
  [⟨0x5042, 0x5042, 1, 8, 19, 0, 0, [0]⟩, ⟨0x5043, 0x5043, 1, 8, 2, 0, 0, [0]⟩, ⟨0x5050, 0x5050, 1, 2, 1, 1, 0, [0]⟩,
   ⟨0x5050, 0x5050, 3, 4, 1, 1, 0, [1]⟩, ⟨0x5051, 0x5051, 1, 2, 19, 0, 0, [0]⟩]

/-- Area 6: objects of R203. -/
def objects6a : List ObjRow :=
  [⟨0x6001, 0x6004, 1, 1, 18, 2, 3, [-1000]⟩, ⟨0x6001, 0x6004, 2, 2, 18, 2, 3, [200]⟩,
   ⟨0x6001, 0x6004, 3, 3, 18, 2, 3, [1000]⟩, ⟨0x6001, 0x6004, 4, 7, 18, 2, 3, [200, 600, 1000, 1400]⟩,
   ⟨0x6001, 0x6004, 8, 8, 2, 2, 3, [10000]⟩, ⟨0x6001, 0x6004, 9, 9, 2, 2, 3, [100]⟩, ⟨0x6001, 0x6004, 10, 10, 2, 2, 3, [10]⟩,
   ⟨0x6001, 0x6004, 11, 11, 18, 2, 3, [-1000]⟩, ⟨0x6005, 0x6005, 1, 4, 2, 2, 3, [0]⟩, ⟨0x6006, 0x6006, 1, 4, 3, 2, 3, [10000]⟩,
   ⟨0x6010, 0x6010, 1, 8, 2, 1, 0, [200]⟩, ⟨0x6011, 0x6011, 1, 4, 18, 0, 0, [0]⟩, ⟨0x6020, 0x6020, 1, 4, 1, 1, 0, [1]⟩,
   ⟨0x6020, 0x6020, 5, 5, 1, 1, 0, [8]⟩, ⟨0x6020, 0x6020, 6, 6, 1, 1, 0, [5]⟩, ⟨0x6020, 0x6020, 7, 7, 2, 1, 0, [64]⟩,
   ⟨0x6030, 0x6030, 1, 4, 1, 1, 0, [25]⟩, ⟨0x6030, 0x6030, 5, 5, 1, 1, 0, [4]⟩, ⟨0x6030, 0x6030, 6, 6, 2, 2, 3, [900]⟩,
   ⟨0x6031, 0x6031, 1, 1, 2, 1, 0, [5]⟩, ⟨0x6031, 0x6031, 2, 2, 2, 1, 0, [2]⟩, ⟨0x6031, 0x6031, 3, 3, 2, 1, 0, [50]⟩,
   ⟨0x6031, 0x6031, 4, 4, 2, 1, 0, [100]⟩, ⟨0x6031, 0x6031, 5, 5, 2, 1, 0, [500]⟩, ⟨0x6031, 0x6031, 6, 6, 1, 2, 3, [3]⟩,
   ⟨0x6031, 0x6031, 7, 7, 1, 2, 3, [10]⟩, ⟨0x6031, 0x6031, 8, 8, 2, 1, 0, [256]⟩, ⟨0x6040, 0x6040, 1, 4, 2, 0, 0, [0]⟩,
   ⟨0x6040, 0x6040, 5, 12, 19, 0, 0, [0]⟩, ⟨0x6040, 0x6040, 13, 16, 2, 0, 0, [0]⟩, ⟨0x6041, 0x6041, 1, 1, 1, 1, 0, [80]⟩,
   ⟨0x6041, 0x6041, 2, 2, 2, 1, 0, [300]⟩, ⟨0x6041, 0x6041, 3, 3, 2, 1, 0, [256]⟩, ⟨0x6042, 0x6042, 1, 4, 2, 0, 0, [0]⟩,
   ⟨0x6043, 0x6043, 1, 4, 1, 0, 0, [0]⟩, ⟨0x6050, 0x6050, 1, 4, 1, 0, 0, [0]⟩, ⟨0x6050, 0x6050, 5, 8, 3, 0, 0, [0]⟩,
   ⟨0x6050, 0x6050, 9, 9, 1, 1, 0, [1]⟩, ⟨0x6051, 0x6051, 1, 12, 3, 2, 3, [10000]⟩, ⟨0x6052, 0x6052, 1, 12, 2, 2, 3, [3950]⟩]

/-- Area 7: objects of R38, R231. -/
def objects7a : List ObjRow :=
  [⟨0x7020, 0x7020, 1, 1, 1, 1, 0, [5]⟩, ⟨0x7020, 0x7020, 2, 5, 1, 2, 3, [1]⟩, ⟨0x7021, 0x7021, 1, 1, 1, 2, 3, [3]⟩,
   ⟨0x7000, 0x7000, 1, 4, 2, 1, 0, [500]⟩, ⟨0x7000, 0x7000, 5, 8, 18, 1, 0, [-400]⟩, ⟨0x7001, 0x7001, 1, 8, 3, 1, 0, [20000]⟩,
   ⟨0x7002, 0x7002, 1, 8, 3, 1, 0, [6500]⟩, ⟨0x7003, 0x7003, 1, 1, 2, 1, 0, [1400]⟩, ⟨0x7003, 0x7003, 2, 2, 2, 1, 0, [50]⟩,
   ⟨0x7004, 0x7004, 1, 4, 2, 1, 0, [100]⟩, ⟨0x7005, 0x7005, 1, 4, 2, 1, 0, [5000]⟩, ⟨0x7005, 0x7005, 5, 5, 1, 1, 0, [2]⟩,
   ⟨0x7006, 0x7006, 1, 4, 2, 1, 0, [800]⟩, ⟨0x7006, 0x7006, 5, 8, 2, 0, 0, [0]⟩, ⟨0x7007, 0x7007, 1, 4, 2, 1, 0, [50]⟩,
   ⟨0x7008, 0x7008, 1, 4, 1, 1, 1, [0]⟩, ⟨0x7008, 0x7008, 5, 5, 2, 1, 1, [600]⟩, ⟨0x7008, 0x7008, 6, 6, 1, 1, 1, [20]⟩,
   ⟨0x7008, 0x7008, 7, 7, 2, 1, 1, [30]⟩, ⟨0x7008, 0x7008, 8, 8, 2, 1, 1, [550]⟩, ⟨0x7010, 0x7010, 1, 4, 1, 1, 0, [128]⟩,
   ⟨0x7010, 0x7010, 5, 5, 2, 1, 0, [50]⟩, ⟨0x7010, 0x7010, 6, 6, 1, 1, 0, [25]⟩, ⟨0x7010, 0x7010, 7, 7, 1, 1, 0, [10]⟩,
   ⟨0x7011, 0x7011, 1, 4, 1, 2, 3, [1]⟩, ⟨0x7011, 0x7011, 5, 8, 1, 1, 0, [80]⟩, ⟨0x7011, 0x7011, 9, 9, 2, 1, 0, [200]⟩,
   ⟨0x7050, 0x7050, 1, 1, 1, 1, 0, [90]⟩, ⟨0x7050, 0x7050, 2, 2, 2, 2, 3, [250]⟩,
   ⟨0x7051, 0x7051, 1, 4, 1, 2, 3, [1, 1, 2, 2]⟩, ⟨0x7060, 0x7060, 1, 1, 3, 2, 3, [0]⟩, ⟨0x7060, 0x7060, 2, 2, 1, 2, 3, [1]⟩,
   ⟨0x7060, 0x7060, 3, 4, 2, 1, 0, [100]⟩, ⟨0x7060, 0x7060, 5, 5, 1, 1, 0, [3]⟩, ⟨0x7060, 0x7060, 6, 6, 1, 2, 3, [128]⟩,
   ⟨0x7060, 0x7060, 7, 7, 3, 1, 0, [100]⟩, ⟨0x7060, 0x7060, 8, 8, 1, 1, 0, [10]⟩, ⟨0x7060, 0x7060, 9, 9, 1, 1, 0, [1]⟩,
   ⟨0x7070, 0x7070, 1, 4, 19, 0, 0, [0]⟩, ⟨0x7070, 0x7070, 5, 12, 2, 0, 0, [0]⟩]

/-- Area 7: objects of R231, R262. -/
def objects7b : List ObjRow :=
  [⟨0x7070, 0x7070, 13, 16, 1, 0, 0, [0]⟩, ⟨0x7071, 0x7071, 1, 9, 1, 0, 0, [0]⟩, ⟨0x7071, 0x7071, 10, 10, 1, 0, 0, [1]⟩,
   ⟨0x7071, 0x7071, 11, 12, 1, 0, 0, [0]⟩, ⟨0x7071, 0x7071, 13, 13, 3, 0, 0, [0]⟩, ⟨0x7072, 0x7072, 1, 12, 1, 0, 0, [0]⟩,
   ⟨0x7073, 0x7073, 1, 1, 1, 0, 0, [0]⟩, ⟨0x7073, 0x7073, 2, 2, 4, 0, 0, [0]⟩, ⟨0x7100, 0x7100, 1, 1, 2, 1, 0, [2000]⟩,
   ⟨0x7100, 0x7100, 2, 2, 2, 1, 0, [200]⟩, ⟨0x7100, 0x7100, 3, 3, 2, 1, 0, [10]⟩, ⟨0x7100, 0x7100, 4, 4, 2, 1, 0, [20]⟩,
   ⟨0x7100, 0x7100, 5, 5, 2, 1, 0, [100]⟩, ⟨0x7100, 0x7100, 6, 7, 2, 1, 0, [20]⟩, ⟨0x7101, 0x7101, 1, 4, 1, 1, 0, [0]⟩,
   ⟨0x7102, 0x7102, 1, 4, 2, 1, 0, [60]⟩, ⟨0x7102, 0x7102, 5, 5, 2, 1, 0, [100]⟩, ⟨0x7102, 0x7102, 6, 6, 1, 1, 0, [25]⟩,
   ⟨0x7110, 0x7110, 1, 4, 1, 2, 3, [0]⟩, ⟨0x7110, 0x7110, 5, 8, 3, 2, 3, [0]⟩, ⟨0x7110, 0x7110, 9, 9, 2, 1, 0, [500]⟩,
   ⟨0x7110, 0x7110, 10, 10, 2, 1, 0, [100]⟩, ⟨0x7110, 0x7110, 11, 11, 2, 2, 3, [20]⟩, ⟨0x7120, 0x7120, 1, 1, 2, 2, 3, [100]⟩,
   ⟨0x7120, 0x7120, 2, 2, 1, 2, 3, [40]⟩, ⟨0x7120, 0x7120, 3, 3, 2, 1, 0, [0]⟩, ⟨0x7120, 0x7120, 4, 4, 1, 1, 0, [95]⟩,
   ⟨0x7120, 0x7120, 5, 5, 2, 1, 0, [3000]⟩, ⟨0x7120, 0x7120, 6, 6, 2, 1, 0, [50]⟩, ⟨0x7120, 0x7120, 7, 7, 2, 1, 0, [100]⟩,
   ⟨0x7120, 0x7120, 8, 8, 2, 1, 0, [20]⟩, ⟨0x7120, 0x7120, 9, 9, 2, 1, 0, [10]⟩, ⟨0x7120, 0x7120, 10, 10, 2, 1, 0, [500]⟩,
   ⟨0x7130, 0x7130, 1, 1, 1, 2, 3, [0]⟩, ⟨0x7130, 0x7130, 2, 2, 2, 1, 0, [60]⟩, ⟨0x7130, 0x7130, 3, 3, 2, 1, 0, [2000]⟩,
   ⟨0x7130, 0x7130, 4, 5, 2, 1, 0, [200]⟩, ⟨0x7130, 0x7130, 6, 7, 1, 1, 0, [1]⟩, ⟨0x7140, 0x7140, 1, 8, 1, 0, 0, [0]⟩,
   ⟨0x7140, 0x7140, 9, 9, 2, 0, 0, [0]⟩]

/-- Area 7: objects of R262, R392. -/
def objects7c : List ObjRow :=
  [⟨0x7140, 0x7140, 10, 13, 1, 0, 0, [0]⟩, ⟨0x7080, 0x7080, 1, 1, 1, 0, 0, [16]⟩, ⟨0x7080, 0x7080, 2, 2, 1, 1, 0, [4]⟩,
   ⟨0x7080, 0x7080, 3, 3, 1, 2, 3, [1]⟩, ⟨0x7081, 0x7081, 1, 64, 1, 2, 2, [0]⟩, ⟨0x7082, 0x7082, 1, 64, 1, 0, 0, [0]⟩,
   ⟨0x7083, 0x7083, 1, 8, 1, 2, 2, [2, 0, 1, 7, 5, 3, 4, 6]⟩, ⟨0x7084, 0x7084, 1, 8, 1, 1, 0, [2, 2, 2, 4, 4, 4, 4, 2]⟩,
   ⟨0x7085, 0x7085, 1, 8, 1, 0, 0, [0]⟩, ⟨0x7086, 0x7086, 1, 1, 2, 0, 0, [0]⟩, ⟨0x7086, 0x7086, 2, 2, 2, 0, 0, [1500]⟩]

/-- Area 8: objects of R298, R332. -/
def objects8a : List ObjRow :=
  [⟨0x8010, 0x8010, 1, 1, 2, 2, 3, [20]⟩, ⟨0x8010, 0x8010, 2, 2, 2, 2, 3, [0]⟩, ⟨0x8010, 0x8010, 3, 3, 1, 0, 0, [0]⟩,
   ⟨0x8020, 0x8020, 1, 4, 2, 2, 3, [1000]⟩, ⟨0x8020, 0x8020, 5, 8, 2, 2, 3, [100]⟩, ⟨0x8020, 0x8020, 9, 12, 2, 2, 3, [10000]⟩,
   ⟨0x8020, 0x8020, 13, 16, 2, 2, 3, [10]⟩, ⟨0x8020, 0x8020, 17, 17, 2, 2, 3, [100]⟩, ⟨0x8030, 0x8030, 1, 16, 2, 2, 3, [5000]⟩,
   ⟨0x8031, 0x8031, 1, 1, 2, 2, 3, [1000]⟩, ⟨0x8031, 0x8031, 2, 13, 1, 2, 3, [0]⟩, ⟨0x8032, 0x8032, 1, 4, 2, 2, 3, [1000]⟩,
   ⟨0x8032, 0x8032, 5, 5, 1, 2, 3, [20]⟩, ⟨0x8032, 0x8032, 6, 6, 2, 2, 3, [20]⟩, ⟨0x8033, 0x8033, 1, 4, 3, 2, 3, [1024]⟩,
   ⟨0x8034, 0x8034, 1, 4, 19, 2, 3, [-2147483648]⟩, ⟨0x8034, 0x8034, 5, 8, 19, 2, 3, [0x7fffffff]⟩,
   ⟨0x8035, 0x8035, 1, 4, 1, 2, 3, [0]⟩, ⟨0x8036, 0x8036, 1, 4, 1, 0, 0, [0]⟩, ⟨0x8040, 0x8040, 1, 1, 1, 2, 3, [0]⟩,
   ⟨0x8040, 0x8040, 2, 3, 2, 2, 3, [200]⟩, ⟨0x8040, 0x8040, 4, 4, 2, 2, 3, [300]⟩, ⟨0x8040, 0x8040, 5, 5, 1, 2, 3, [1]⟩,
   ⟨0x8040, 0x8040, 6, 6, 1, 0, 0, [0]⟩, ⟨0x8050, 0x8050, 1, 5, 2, 2, 3, [600]⟩, ⟨0x8050, 0x8050, 6, 6, 2, 2, 3, [1800]⟩,
   ⟨0x8050, 0x8050, 7, 7, 2, 2, 3, [600]⟩, ⟨0x8051, 0x8051, 1, 16, 3, 0, 0, [0]⟩, ⟨0x8070, 0x8070, 1, 4, 2, 2, 3, [500]⟩,
   ⟨0x8070, 0x8070, 5, 5, 1, 2, 3, [2]⟩, ⟨0x8070, 0x8070, 6, 6, 1, 2, 3, [16]⟩, ⟨0x8071, 0x8071, 1, 8, 2, 0, 0, [0]⟩,
   ⟨0x8080, 0x8080, 1, 1, 1, 2, 3, [20]⟩, ⟨0x8080, 0x8080, 2, 2, 2, 2, 3, [20]⟩, ⟨0x80F0, 0x80F0, 1, 1, 3, 0, 0, [0]⟩,
   ⟨0x8100, 0x8100, 1, 4, 1, 2, 3, [0]⟩, ⟨0x8100, 0x8100, 5, 8, 1, 2, 3, [1]⟩, ⟨0x8100, 0x8100, 9, 9, 2, 2, 3, [50]⟩,
   ⟨0x8100, 0x8100, 10, 10, 2, 2, 3, [200]⟩, ⟨0x8101, 0x8101, 1, 4, 19, 0, 0, [0]⟩]

/-- Area 8: objects of R332, R538. -/
def objects8b : List ObjRow :=
  [⟨0x8101, 0x8101, 5, 8, 1, 0, 0, [0]⟩, ⟨0x8102, 0x8102, 1, 1, 2, 2, 3, [10]⟩, ⟨0x8102, 0x8102, 2, 2, 2, 2, 3, [30]⟩,
   ⟨0x8103, 0x8103, 1, 1, 2, 2, 3, [1000]⟩, ⟨0x8104, 0x8104, 1, 2, 2, 0, 0, [0]⟩, ⟨0x8104, 0x8104, 3, 3, 2, 2, 3, [30]⟩,
   ⟨0x8110, 0x8110, 1, 1, 2, 2, 3, [60]⟩, ⟨0x8110, 0x8110, 2, 2, 2, 2, 3, [20]⟩, ⟨0x8110, 0x8110, 3, 3, 1, 0, 0, [0]⟩,
   ⟨0x8120, 0x8120, 1, 2, 1, 2, 2, [0]⟩, ⟨0x8120, 0x8120, 3, 4, 1, 0, 0, [0]⟩, ⟨0x8121, 0x8121, 1, 2, 1, 0, 0, [0]⟩,
   ⟨0x8122, 0x8122, 1, 1, 1, 2, 3, [3]⟩, ⟨0x8122, 0x8122, 2, 2, 2, 2, 3, [60]⟩, ⟨0x8123, 0x8123, 1, 1, 2, 2, 3, [10]⟩,
   ⟨0x8105, 0x8105, 1, 1, 2, 2, 3, [1600]⟩, ⟨0x8105, 0x8105, 2, 2, 2, 2, 3, [10]⟩]

/-- Area 9: objects of R357, R374. -/
def objects9a : List ObjRow :=
  [⟨0x9000, 0x9000, 1, 1, 2, 0, 0, [0]⟩, ⟨0x9001, 0x9001, 1, 2, 1, 2, 2, [9]⟩, ⟨0x9001, 0x9001, 3, 3, 1, 1, 3, [0]⟩,
   ⟨0x9001, 0x9001, 4, 5, 1, 0, 0, [0]⟩, ⟨0x9002, 0x9002, 1, 2, 2, 0, 0, [0]⟩, ⟨0x9003, 0x9003, 1, 1, 2, 0, 0, [0]⟩,
   ⟨0x9010, 0x9010, 1, 1, 2, 1, 0, [30]⟩, ⟨0x9010, 0x9010, 3, 3, 2, 1, 0, [2000]⟩, ⟨0x9010, 0x9010, 4, 4, 2, 1, 0, [100]⟩,
   ⟨0x9010, 0x9010, 5, 5, 2, 1, 0, [1000]⟩, ⟨0x9011, 0x9011, 1, 1, 19, 0, 0, [0]⟩, ⟨0x9011, 0x9011, 2, 2, 2, 0, 0, [0]⟩,
   ⟨0x9011, 0x9011, 3, 6, 3, 0, 0, [0]⟩, ⟨0x9011, 0x9011, 7, 7, 2, 0, 0, [1000]⟩, ⟨0x9011, 0x9011, 8, 11, 3, 0, 0, [0]⟩,
   ⟨0x9020, 0x9020, 1, 2, 1, 0, 0, [0]⟩, ⟨0x9030, 0x9030, 1, 1, 2, 1, 3, [511]⟩, ⟨0x9030, 0x9030, 2, 2, 2, 1, 3, [100]⟩,
   ⟨0x9030, 0x9030, 3, 3, 1, 0, 0, [0]⟩, ⟨0x9100, 0x9100, 1, 4, 3, 2, 3, [2000]⟩, ⟨0x9100, 0x9100, 5, 8, 3, 2, 3, [3500]⟩,
   ⟨0x9100, 0x9100, 9, 12, 2, 2, 3, [3500]⟩, ⟨0x9101, 0x9101, 1, 4, 3, 2, 3, [6000]⟩, ⟨0x9101, 0x9101, 5, 8, 3, 2, 3, [4000]⟩,
   ⟨0x9101, 0x9101, 9, 12, 2, 2, 3, [400]⟩, ⟨0x9101, 0x9101, 13, 16, 2, 2, 3, [900]⟩,
   ⟨0x9101, 0x9101, 17, 17, 2, 2, 3, [2000]⟩, ⟨0x9101, 0x9101, 18, 21, 2, 2, 3, [300]⟩,
   ⟨0x9102, 0x9102, 1, 16, 2, 2, 3, [10, 15, 20, 15]⟩, ⟨0x9103, 0x9103, 1, 16, 3, 2, 3, [1000, 10000, 0x186a0, 0xf4240]⟩,
   ⟨0x9104, 0x9104, 1, 4, 2, 2, 3, [30]⟩, ⟨0x9104, 0x9104, 5, 8, 2, 2, 3, [20]⟩, ⟨0x9104, 0x9104, 9, 9, 2, 1, 0, [100]⟩,
   ⟨0x9110, 0x9110, 1, 1, 18, 1, 0, [1500]⟩, ⟨0x9110, 0x9110, 2, 2, 18, 2, 3, [1750]⟩, ⟨0x9110, 0x9110, 3, 3, 1, 2, 3, [10]⟩,
   ⟨0x9110, 0x9110, 4, 4, 18, 2, 3, [1250]⟩, ⟨0x9110, 0x9110, 5, 5, 2, 1, 0, [150]⟩, ⟨0x9110, 0x9110, 6, 6, 18, 1, 0, [850]⟩,
   ⟨0x9110, 0x9110, 7, 7, 2, 1, 0, [1000]⟩]

/-- Area 9: objects of R374. -/
def objects9b : List ObjRow :=
  [⟨0x9120, 0x9120, 1, 3, 18, 2, 3, [-100, 600, 1100]⟩, ⟨0x9120, 0x9120, 4, 4, 2, 2, 3, [50]⟩,
   ⟨0x9121, 0x9121, 1, 4, 1, 0, 0, [0]⟩, ⟨0x9122, 0x9122, 1, 24, 18, 0, 0, [0]⟩, ⟨0x9123, 0x9123, 1, 13, 18, 0, 0, [0]⟩,
   ⟨0x9124, 0x9124, 1, 24, 2, 0, 0, [0]⟩, ⟨0x9130, 0x9130, 1, 1, 18, 0, 0, [0]⟩,
   ⟨0x9130, 0x9130, 2, 5, 18, 1, 0, [1100, 1150, 1200, 1250]⟩, ⟨0x9130, 0x9130, 6, 6, 18, 2, 3, [1350]⟩,
   ⟨0x9130, 0x9130, 7, 7, 1, 0, 0, [0]⟩, ⟨0x9130, 0x9130, 8, 8, 2, 1, 0, [50]⟩]

/-- Area A: objects of R464. -/
def objectsAa : List ObjRow :=
  [⟨0xA000, 0xA000, 1, 2, 1, 2, 3, [1]⟩, ⟨0xA001, 0xA001, 1, 4, 1, 2, 3, [0]⟩, ⟨0xA002, 0xA002, 1, 2, 1, 0, 0, [0]⟩,
   ⟨0xA003, 0xA003, 1, 2, 1, 0, 0, [0]⟩, ⟨0xA003, 0xA003, 3, 4, 2, 0, 0, [65535]⟩, ⟨0xA003, 0xA003, 5, 5, 2, 1, 0, [10]⟩,
   ⟨0xA004, 0xA004, 1, 1, 4, 0, 0, [0]⟩, ⟨0xA004, 0xA004, 2, 2, 3, 0, 0, [0]⟩, ⟨0xA010, 0xA010, 1, 1, 1, 2, 3, [1]⟩,
   ⟨0xA010, 0xA010, 2, 2, 3, 2, 3, [0]⟩, ⟨0xA010, 0xA010, 3, 3, 1, 2, 3, [24]⟩, ⟨0xA010, 0xA010, 4, 4, 3, 2, 3, [0]⟩,
   ⟨0xA010, 0xA010, 5, 5, 33, 2, 3, [0]⟩, ⟨0xA010, 0xA010, 6, 6, 1, 2, 3, [64]⟩, ⟨0xA010, 0xA010, 7, 7, 2, 2, 3, [0]⟩,
   ⟨0xA010, 0xA010, 8, 8, 1, 2, 3, [5]⟩, ⟨0xA011, 0xA011, 1, 1, 1, 2, 3, [0]⟩, ⟨0xA011, 0xA011, 2, 2, 2, 2, 3, [10]⟩,
   ⟨0xA011, 0xA011, 3, 3, 1, 2, 3, [3]⟩, ⟨0xA011, 0xA011, 4, 4, 1, 0, 0, [0]⟩, ⟨0xA012, 0xA012, 1, 1, 1, 1, 0, [1]⟩,
   ⟨0xA020, 0xA020, 1, 3, 1, 2, 3, [0]⟩, ⟨0xA020, 0xA020, 4, 5, 33, 2, 3, [0]⟩, ⟨0xA020, 0xA020, 6, 6, 3, 2, 3, [0]⟩,
   ⟨0xA020, 0xA020, 7, 7, 3, 0, 0, [0]⟩, ⟨0xA030, 0xA030, 1, 1, 2, 1, 0, [1]⟩,
   ⟨0xA030, 0xA030, 2, 2, 4, 2, 3, [0xf0000004860]⟩, ⟨0xA030, 0xA030, 3, 3, 1, 2, 3, [8]⟩,
   ⟨0xA100, 0xA100, 1, 2, 1, 2, 3, [0, 1]⟩, ⟨0xA100, 0xA100, 3, 5, 1, 2, 3, [0]⟩, ⟨0xA100, 0xA100, 6, 7, 1, 2, 3, [246, 248]⟩,
   ⟨0xA101, 0xA101, 1, 2, 1, 1, 0, [3]⟩, ⟨0xA101, 0xA101, 3, 3, 1, 1, 0, [16]⟩, ⟨0xA102, 0xA102, 1, 1, 2, 1, 0, [300]⟩,
   ⟨0xA102, 0xA102, 2, 2, 2, 1, 0, [30]⟩, ⟨0xA102, 0xA102, 3, 3, 2, 1, 0, [20]⟩, ⟨0xA102, 0xA102, 4, 4, 3, 1, 0, [1000]⟩,
   ⟨0xA102, 0xA102, 5, 5, 3, 1, 0, [10000]⟩, ⟨0xA103, 0xA103, 1, 2, 18, 2, 3, [0]⟩, ⟨0xA110, 0xA110, 1, 2, 4, 0, 0, [0]⟩]

/-- Area A: objects of R464. -/
def objectsAb : List ObjRow :=
  [⟨0xA110, 0xA110, 3, 3, 1, 0, 0, [0]⟩, ⟨0xA110, 0xA110, 4, 6, 19, 0, 0, [0]⟩, ⟨0xA110, 0xA110, 7, 8, 4, 0, 0, [0]⟩]

/-- Area B: objects of R480. -/
def objectsBa : List ObjRow :=
  [⟨0xB000, 0xB001, 1, 1, 1, 2, 3, [1]⟩, ⟨0xB000, 0xB001, 2, 2, 1, 2, 3, [0]⟩, ⟨0xB000, 0xB001, 3, 3, 1, 2, 3, [2]⟩,
   ⟨0xB000, 0xB001, 4, 4, 2, 2, 3, [63]⟩, ⟨0xB000, 0xB001, 5, 6, 1, 2, 3, [16]⟩, ⟨0xB000, 0xB001, 7, 7, 1, 2, 3, [1]⟩,
   ⟨0xB000, 0xB001, 8, 8, 1, 2, 3, [29]⟩, ⟨0xB000, 0xB001, 9, 10, 1, 2, 3, [10]⟩, ⟨0xB000, 0xB001, 11, 11, 1, 2, 3, [30]⟩,
   ⟨0xB000, 0xB001, 12, 12, 1, 2, 3, [0]⟩, ⟨0xB000, 0xB001, 13, 13, 2, 1, 0, [100]⟩, ⟨0xB000, 0xB001, 14, 14, 1, 1, 0, [5]⟩,
   ⟨0xB000, 0xB001, 15, 15, 2, 1, 0, [60]⟩, ⟨0xB000, 0xB001, 16, 16, 2, 1, 0, [500]⟩, ⟨0xB000, 0xB001, 17, 17, 1, 2, 3, [0]⟩,
   ⟨0xB000, 0xB001, 18, 18, 3, 2, 3, [0x18da80f9]⟩, ⟨0xB000, 0xB001, 19, 19, 3, 2, 3, [0x18daf980]⟩,
   ⟨0xB000, 0xB001, 20, 21, 1, 1, 0, [0]⟩, ⟨0xB000, 0xB001, 22, 22, 2, 1, 0, [1000]⟩, ⟨0xB000, 0xB001, 23, 23, 1, 1, 0, [204]⟩,
   ⟨0xB000, 0xB001, 24, 24, 1, 2, 3, [0]⟩, ⟨0xB000, 0xB001, 25, 25, 3, 2, 3, [0x1cff4800]⟩,
   ⟨0xB000, 0xB001, 26, 26, 3, 2, 3, [0x1cff4900]⟩, ⟨0xB000, 0xB001, 32, 32, 1, 0, 0, [0]⟩,
   ⟨0xB000, 0xB001, 33, 35, 2, 0, 0, [0]⟩, ⟨0xB008, 0xB008, 1, 1, 4, 2, 3, [0]⟩, ⟨0xB008, 0xB008, 2, 3, 1, 2, 3, [128]⟩,
   ⟨0xB008, 0xB008, 4, 5, 1, 0, 0, [254]⟩, ⟨0xB008, 0xB008, 6, 7, 1, 2, 3, [128, 247]⟩, ⟨0xB100, 0xB13F, 1, 2, 3, 1, 0, [0]⟩,
   ⟨0xB100, 0xB13F, 3, 3, 1, 1, 0, [1]⟩, ⟨0xB100, 0xB13F, 4, 4, 1, 1, 0, [0]⟩]

/-- Area C: objects of R416. -/
def objectsCa : List ObjRow :=
  [⟨0xC000, 0xC000, 1, 1, 2, 2, 3, [48600]⟩, ⟨0xC000, 0xC000, 2, 2, 3, 0, 0, [0]⟩, ⟨0xC000, 0xC000, 3, 3, 1, 2, 3, [64]⟩,
   ⟨0xC030, 0xC030, 1, 2, 4, 2, 2, [0]⟩, ⟨0xC030, 0xC030, 3, 3, 3, 0, 0, [0]⟩, ⟨0xC100, 0xC10F, 1, 1, 1, 2, 3, [0]⟩,
   ⟨0xC100, 0xC10F, 2, 2, 33, 1, 0, [0]⟩, ⟨0xC100, 0xC10F, 3, 3, 2, 1, 0, [48601]⟩,
   ⟨0xC100, 0xC10F, 4, 4, 3, 1, 0, [0x18ffc000]⟩, ⟨0xC100, 0xC10F, 5, 5, 2, 1, 0, [0]⟩, ⟨0xC100, 0xC10F, 6, 6, 2, 1, 0, [100]⟩,
   ⟨0xC100, 0xC10F, 7, 7, 2, 0, 0, [0]⟩, ⟨0xC100, 0xC10F, 8, 9, 3, 0, 0, [0]⟩, ⟨0xC120, 0xC123, 1, 1, 1, 1, 3, [0]⟩,
   ⟨0xC120, 0xC123, 2, 2, 1, 1, 3, [1]⟩, ⟨0xC120, 0xC123, 3, 3, 1, 1, 3, [0]⟩, ⟨0xC120, 0xC123, 4, 4, 1, 1, 3, [1]⟩,
   ⟨0xC120, 0xC123, 5, 5, 2, 1, 3, [64]⟩, ⟨0xC120, 0xC123, 6, 6, 2, 1, 3, [1]⟩, ⟨0xC120, 0xC123, 7, 7, 1, 1, 3, [0]⟩,
   ⟨0xC120, 0xC123, 8, 8, 2, 2, 2, [64]⟩, ⟨0xC120, 0xC123, 17, 32, 2, 1, 3, [257]⟩]

/-- Area D: objects of R500. -/
def objectsDa : List ObjRow :=
  [⟨0xD000, 0xD000, 1, 1, 1, 1, 0, [1]⟩, ⟨0xD000, 0xD000, 2, 2, 1, 0, 0, [2]⟩, ⟨0xD000, 0xD000, 3, 3, 1, 1, 0, [4]⟩,
   ⟨0xD010, 0xD01B, 1, 1, 3, 1, 0, [0]⟩, ⟨0xD010, 0xD01B, 2, 2, 1, 0, 0, [0]⟩, ⟨0xD010, 0xD01B, 3, 3, 3, 0, 0, [0]⟩,
   ⟨0xD100, 0xD100, 1, 1, 1, 2, 3, [0]⟩, ⟨0xD100, 0xD100, 2, 2, 3, 0, 0, [0]⟩, ⟨0xD100, 0xD100, 3, 3, 2, 1, 0, [5000]⟩,
   ⟨0xD100, 0xD100, 4, 4, 2, 1, 0, [100]⟩, ⟨0xD100, 0xD100, 5, 5, 4, 0, 0, [0]⟩]

/-- Area E: objects of R500. -/
def objectsEa : List ObjRow :=
  [⟨0xE000, 0xE000, 1, 1, 3, 1, 4, [1000]⟩, ⟨0xE000, 0xE000, 2, 2, 3, 0, 0, [0]⟩, ⟨0xE000, 0xE000, 3, 3, 1, 0, 0, [0]⟩]

/-- Area F: objects of R518. -/
def objectsFa : List ObjRow :=
  [⟨0xF000, 0xF000, 1, 1, 1, 0, 0, [0]⟩, ⟨0xF000, 0xF000, 2, 2, 3, 0, 0, [0]⟩, ⟨0xF000, 0xF000, 3, 3, 1, 0, 0, [0]⟩,
   ⟨0xF001, 0xF001, 1, 6, 3, 0, 0, [0]⟩, ⟨0xF010, 0xF010, 1, 2, 1, 0, 0, [0]⟩, ⟨0xF010, 0xF010, 3, 3, 3, 0, 0, [0]⟩,
   ⟨0xF020, 0xF020, 1, 1, 2, 2, 3, [100]⟩, ⟨0xF020, 0xF020, 2, 2, 2, 2, 3, [60]⟩, ⟨0xF030, 0xF030, 1, 1, 2, 0, 0, [0]⟩,
   ⟨0xF040, 0xF040, 1, 1, 2, 0, 0, [0]⟩, ⟨0xF040, 0xF040, 2, 2, 1, 0, 0, [0]⟩, ⟨0xF040, 0xF040, 3, 3, 2, 1, 0, [0]⟩,
   ⟨0xF100, 0xF13F, 1, 4, 33, 0, 0, [0]⟩]

/-- The object tables of area `a` (R14, R428). -/
def objectsOf : Nat → List ObjRow
  | 1 => objects1a
  | 2 => objects2a
  | 3 => objects3a
  | 4 => objects4a
  | 5 => objects5a ++ objects5b
  | 6 => objects6a
  | 7 => objects7a ++ objects7b ++ objects7c
  | 8 => objects8a ++ objects8b
  | 9 => objects9a ++ objects9b
  | 10 => objectsAa ++ objectsAb
  | 11 => objectsBa
  | 12 => objectsCa
  | 13 => objectsDa
  | 14 => objectsEa
  | 15 => objectsFa
  | _ => []

/-- Highest sub of a statistics object, 0 where there is none (R78, R113, R144, R170, R206, R233, R266, R301, R335, R360, R376,
R394, R418, R443, R466, R482, R502, R540). -/
def statSubs (i : Nat) : Nat :=
  if i = 0xE010 then 6 else if 0xE021 ≤ i ∧ i ≤ 0xE024 then 9 else if 0xE031 ≤ i ∧ i ≤ 0xE034 then 12
  else if i = 0xE040 then 3 else if 0xE041 ≤ i ∧ i ≤ 0xE044 then 9 else if 0xE051 ≤ i ∧ i ≤ 0xE054 then 5
  else if 0xE055 ≤ i ∧ i ≤ 0xE05C then 3 else if 0xE061 ≤ i ∧ i ≤ 0xE064 then 12 else if i = 0xE070 then 8
  else if 0xE071 ≤ i ∧ i ≤ 0xE074 then 7 else if 0xE075 ≤ i ∧ i ≤ 0xE079 then 8 else if i = 0xE080 then 6
  else if 0xE081 ≤ i ∧ i ≤ 0xE084 then 12 else if i = 0xE088 then 6 else if i = 0xE089 ∨ i = 0xE08A then 7
  else if i = 0xE090 then 7 else if 0xE091 ≤ i ∧ i ≤ 0xE094 then 4 else if i = 0xE095 then 6 else if i = 0xE0A0 then 10
  else if 0xE0A1 ≤ i ∧ i ≤ 0xE0A8 then 7 else if 0xE0AA ≤ i ∧ i ≤ 0xE0AC then 7 else if i = 0xE0B1 ∨ i = 0xE0B2 then 11
  else if i = 0xE0C0 then 7 else if 0xE0CC ≤ i ∧ i ≤ 0xE0CF then 5 else if i = 0xE0D0 then 6 else if i = 0xE0D1 then 4 else 0

/-- Input numbers of R137 that are not reserved. -/
def inputUsed (n : Nat) : Bool :=
  n ≤ 0x0D || (0x10 ≤ n && n ≤ 0x1B) || (0x20 ≤ n && n ≤ 0x3F) || (0x40 ≤ n && n ≤ 0x43) || (0x50 ≤ n && n ≤ 0x53)

/-- The row that defines an object other than a statistics object. -/
def objRow? (i s : Nat) : Option ObjRow :=
  if 0x4100 ≤ i ∧ i ≤ 0x4153 ∧ inputUsed (i - 0x4100) = false then none
  else (objectsOf (i / 0x1000)).find? fun r =>
    Nat.ble r.i0 i && Nat.ble i r.i1 && Nat.ble r.s0 s && Nat.ble s r.s1

/-- The highest sub of an index, 0 where the index is not defined (R426). -/
def highestSub (i : Nat) : Nat :=
  if 0x4100 ≤ i ∧ i ≤ 0x4153 ∧ inputUsed (i - 0x4100) = false then 0
  else max (statSubs i) (((objectsOf (i / 0x1000)).filter fun r => Nat.ble r.i0 i && Nat.ble i r.i1).foldl
    (fun m r => max m r.s1) 0)

/-- WS0 (R90): turn-on steps 1 to 8, turn-off steps 9 to 16, then the successor. -/
def waveformDefault (s : Nat) : Int :=
  let amps := [4, 8, 12, 16, 12, 8, 6, 4, 6, 12, 18, 18, 12, 8, 6, 4]
  if s = 0x11 then 0xFF
  else (((if s % 8 = 0 then 16 else 8) * 1024 + amps.getD (s - 1) 0 * 32 : Nat) : Int)

/-- Rail nominal of a housekeeping input (R532), mV or µV; HK28 and HK29 move with the drive. -/
def railNominal (k : Nat) : Int :=
  if k = 14 ∨ k = 15 then 48000 else if k = 16 then 24000 else if k = 17 ∨ k = 18 then 12000 else if k = 19 then 800
  else if 20 ≤ k ∧ k ≤ 23 then 30000 else if k = 29 ∨ k = 31 then 5000 else 0

/-- Default of sub `s` of the supervision record of input `n` (R141, R532). Currents in A, voltages in V, HK as in 0x4040. -/
def inputDefault (n s : Nat) : Int :=
  let cls : List Int :=   -- low, high, rate, filter, confirm, substitute, fixed, reaction, timeout
    if n ≤ 0x0B then [-2000, 2000, 400, 0, 3, 2, 0, 0, 2]
    else if n = 0x0C then [-2500, 2500, 2500, 0, 3, 3, 0, 0, 2]
    else if n = 0x0D then [0, 1650, 50, 0, 3, 2, 0, 1, 2]
    else if n ≤ 0x1B then [0, 1650, 0, 0, 16, 3, 0, 0, 4]
    else if n ≤ 0x2B then [50, 500000, 0, 0, 3, 2, 0, 0, 3]
    else if n ≤ 0x2D then [-450, 1500, 50, 0, 3, 2, 0, 0, 3]
    else if n = 0x38 ∨ n = 0x39 then [-400, 1250, 0, 0, 3, 0, 0, 0, 3]
    else if n = 0x3A then [0, 6000, 0, 0, 3, 0, 0, 0, 3]
    else if n = 0x3B then [0, 600, 0, 0, 3, 0, 0, 0, 3]
    else if n = 0x3E then [-2000, 2000, 0, 0, 2, 3, 0, 3, 2]
    else if n ≤ 0x3F then
      let r := railNominal (n - 0x20)
      [r - r / 10, r + r / 10, 0, 0, 3, 3, 0, 0, 3]
    else if n ≤ 0x43 then [0, 0, 0, 1, 1, 3, 0, 0, 100]
    else [0, 0, 0, 0, 1, 0, 0, 1, 0]
  cls.getD (s - 1) 0

/-- Default interval of self-test kind k (R484), ms. -/
def testInterval (k : Nat) : Int :=
  if k = 3 then 1000 else if k = 2 ∨ k = 9 ∨ k = 10 ∨ k = 11 then 60000 else 10000

/-- Default NAME (R475). -/
def nameDefault : Int := ((Config.serial % 2 ^ 21 + 2 * 2 ^ 60 + 2 ^ 63 : Nat) : Int)

/-- Default value of an object (the Default columns; R510). -/
def objDefault (i s : Nat) : Int :=
  if 0x3020 ≤ i ∧ i ≤ 0x3027 then waveformDefault s
  else if 0x4100 ≤ i ∧ i ≤ 0x4153 then inputDefault (i - 0x4100) s
  else if i = 0x7081 then (slotDefault (s - 1) : Int)
  else if 0xC100 ≤ i ∧ i ≤ 0xC10F ∧ s = 4 then ((0x18FFC000 + (i - 0xC100) : Nat) : Int)
  else if i = 0xC109 ∧ s = 5 then 1000
  else if 0xD010 ≤ i ∧ i ≤ 0xD01B ∧ s = 1 then testInterval (i - 0xD00F)
  else if i = 0xB008 ∧ s = 1 then nameDefault
  else match objRow? i s with
    | some r => r.d.getD ((s - r.s0) % r.d.length) 0
    | none => 0

/-- Key of an object in the association lists of State. -/
def objKey (i s : Nat) : Nat := i * 256 + s

/-- Value of a key in a sorted association list. -/
def lookupKey (k : Nat) : List (Nat × Int) → Option Int
  | [] => none
  | (j, v) :: t => if j = k then some v else lookupKey k t

/-- Put a key into a sorted association list; `none` removes it. -/
def putKey (k : Nat) (v : Option Int) : List (Nat × Int) → List (Nat × Int)
  | [] => match v with | some x => [(k, x)] | none => []
  | (j, w) :: t =>
    if j < k then (j, w) :: putKey k v t
    else if j = k then (match v with | some x => (k, x) :: t | none => t)
    else (match v with | some x => (k, x) :: (j, w) :: t | none => (j, w) :: t)

/-- Stored value of an object (R15, R426). -/
def Params.storedOf (p : Params) (i s : Nat) : Int := (lookupKey (objKey i s) p.stored).getD (objDefault i s)

/-- Active value of an object (R15, R426). -/
def Params.activeOf (p : Params) (i s : Nat) : Int := (lookupKey (objKey i s) p.active).getD (objDefault i s)

/-- Entry for a value: none where it is the default, so that equal parameter sets are equal data. -/
def entryFor (i s : Nat) (v : Int) : Option Int := if v = objDefault i s then none else some v

/-- Write a stored value. -/
def Params.setStored (p : Params) (i s : Nat) (v : Int) : Params :=
  { p with stored := putKey (objKey i s) (entryFor i s v) p.stored }

/-- Write an active value. -/
def Params.setActive (p : Params) (i s : Nat) (v : Int) : Params :=
  { p with active := putKey (objKey i s) (entryFor i s v) p.active }

/-- Write both values: an "immediate" object, or a write by a rule. -/
def Params.setBoth (p : Params) (i s : Nat) (v : Int) : Params := (p.setStored i s v).setActive i s v

/-- The stored value of an object becomes active. -/
def Params.activate (p : Params) (i s : Nat) : Params := p.setActive i s (p.storedOf i s)

/-- Keys that stand in either list. -/
def Params.touched (p : Params) : List Nat := (p.stored.map (·.1) ++ p.active.map (·.1)).dedup

/-- Keys whose stored value is not active (log 8). -/
def Params.pendingKeys (p : Params) : List Nat :=
  p.touched.filter fun k => decide (p.storedOf (k / 256) (k % 256) ≠ p.activeOf (k / 256) (k % 256))

/-- The moment of effect of a key (R15); immediate where no row defines it. -/
def effectOf (k : Nat) : Nat := ((objRow? (k / 256) (k % 256)).map (·.eff)).getD 0

/-- Make active every pending object that `sel` picks. -/
def Params.activateWhere (p : Params) (sel : Nat → Bool) : Params :=
  (p.pendingKeys.filter sel).foldl (fun q k => q.activate (k / 256) (k % 256)) p

end Sys2Proof.Machine
end

