-- ==== Sys2Proof/Machine/Ops.lean ====
section
/-! DEFINITION. The named operations over State that every family uses: clock and time stamps, objects, sub-state updates,
statistics, outbound queues, events, notifications, completions, memory, free values. -/

namespace Sys2Proof.Machine

/-! Sub-state updates -/

/-- Update bridge b. -/
def modBr (b : BridgeId) (f : Bridge → Bridge) (s : State) : State := { s with br := s.br.set b (f s.br[b]) }

/-- Update group g. -/
def modGr (g : GroupId) (f : Group → Group) (s : State) : State := { s with gr := s.gr.set g (f s.gr[g]) }

/-- Bridge of a leg. -/
def brOfLeg (l : LegId) : BridgeId := ⟨l.val / 3, by omega⟩
/-- Phase of a leg within its bridge (R5). -/
def phaseOfLeg (l : LegId) : Fin 3 := ⟨l.val % 3, by omega⟩
/-- Bridge of a position. -/
def brOfPos (p : PosId) : BridgeId := ⟨p.val / 6, by omega⟩
/-- Position within its bridge. -/
def slotOfPos (p : PosId) : Fin 6 := ⟨p.val % 6, by omega⟩
/-- Leg of a position. -/
def legOfPos (p : PosId) : LegId := ⟨p.val / 2, by omega⟩
/-- The other position of a leg. -/
def partnerPos (p : PosId) : PosId := ⟨if p.val % 2 = 0 then p.val + 1 else p.val - 1, by have := p.2; split <;> omega⟩
/-- A position is a high side. -/
def isHigh (p : PosId) : Bool := p.val % 2 == 0
/-- Leg of a bridge and phase. -/
def legOf (b : BridgeId) (k : Fin 3) : LegId := ⟨3 * b.val + k.val, by omega⟩
/-- Position of a bridge and slot. -/
def posOf (b : BridgeId) (k : Fin 6) : PosId := ⟨6 * b.val + k.val, by omega⟩

/-- Leg l. -/
def State.leg (s : State) (l : LegId) : Leg := s.br[brOfLeg l].legs[phaseOfLeg l]
/-- Position p. -/
def State.pos (s : State) (p : PosId) : Position := s.br[brOfPos p].pos[slotOfPos p]

/-- Update leg l. -/
def modLeg (l : LegId) (f : Leg → Leg) (s : State) : State :=
  modBr (brOfLeg l) (fun x => { x with legs := x.legs.set (phaseOfLeg l) (f x.legs[phaseOfLeg l]) }) s
/-- Update position p. -/
def modPos (p : PosId) (f : Position → Position) (s : State) : State :=
  modBr (brOfPos p) (fun x => { x with pos := x.pos.set (slotOfPos p) (f x.pos[slotOfPos p]) }) s

/-- Every bridge, group, leg and position, in order. -/
def allBr : List BridgeId := List.finRange 4
/-- Every group. -/
def allGr : List GroupId := List.finRange 4
/-- Every position slot of a bridge. -/
def allSlots : List (Fin 6) := List.finRange 6
/-- Every phase. -/
def phases : List (Fin 3) := List.finRange 3

/-- Fold a bridge operation over bridges. -/
def forBr (bs : List BridgeId) (f : BridgeId → State → State) (s : State) : State := bs.foldl (fun a b => f b a) s
/-- Fold a group operation over groups. -/
def forGr (gs : List GroupId) (f : GroupId → State → State) (s : State) : State := gs.foldl (fun a g => f g a) s

/-- Apply `f` when `c` holds. -/
def onlyIf (c : Bool) (f : State → State) (s : State) : State := if c then f s else s

/-! Blocks that run (R33): a row of a block that is off, or whose PLL has lost lock, leaves the state as it is (log 129). -/

/-- The pulse engine, the converters, the housekeeping multiplexer and the position interfaces run: PD4 is on and the pulse PLL is locked. -/
def State.pulseOn (s : State) : Bool := s.pwr.domains[4] && s.pwr.pll[1]

/-- The control pairs run: PD3 is on and the core PLL is locked. -/
def State.coresOn (s : State) : Bool := s.pwr.domains[3] && s.pwr.pll[0]

/-- The atlas and learning engines, the arbiter and the memory controllers run: PD5 is on and the core PLL is locked. -/
def State.engineOn (s : State) : Bool := s.pwr.domains[5] && s.pwr.pll[0]

/-- Network traffic flows: PD6 is on and the network PLL is locked (R349). -/
def State.netRuns (s : State) : Bool := s.pwr.domains[6] && s.pwr.pll[2]

/-! Clock -/

/-- The clock reaches tick t. -/
def setNow (t : Nat) (s : State) : State := { s with now := max s.now t }

/-- Units of internal time (2^-16 ns) in one second. -/
def unitsPerS : Nat := 65536 * 1000000000

/-- The part of `delta` that internal time has moved by tick t, ns, at the slew rate in ppb (R461). -/
def TimeUnit.moved (u : TimeUnit) (t : Nat) : Int :=
  let n := min u.delta.natAbs ((t - u.since) * u.slew * 5 / 2000000000)
  if u.delta < 0 then -(n : Int) else n

/-- Internal time at tick t (R460), in 2^-16 ns: one tick is 163,840 units, corrected by the rate in ppb. -/
def TimeUnit.at (u : TimeUnit) (t : Nat) : Nat :=
  ((u.base : Int) + ((t - u.since : Nat) : Int) * 163840 * (1000000000 + u.rate) / 1000000000 + 65536 * u.moved t).toNat

/-- A time stamp from internal time (R16). -/
def stampOf (units : Nat) : Stamp :=
  ⟨units / unitsPerS % 2 ^ 64, units / 65536 % 1000000000, units % 65536⟩

/-- The time stamp of a tick. -/
def State.stamp (s : State) (t : Nat) : Stamp := stampOf (s.time.at t)

/-- The two words of a time stamp (R400). -/
def Stamp.words (t : Stamp) : List Word := [BitVec.ofNat 64 t.sec, BitVec.ofNat 64 (t.ns + 2 ^ 32 * t.frac)]

/-! Objects -/

/-- Active value of an object. -/
def State.act (s : State) (i sub : Nat) : Int := s.par.activeOf i sub
/-- Active value of an object that is never negative. -/
def State.actN (s : State) (i sub : Nat) : Nat := (s.act i sub).toNat
/-- Value of an object in force for bridge b (R15): the active one, or an older one until the bridge's own reload. -/
def State.actB (s : State) (b : BridgeId) (i sub : Nat) : Int :=
  match s.br[b].held.find? fun c => c.1 == objKey i sub with
  | some c => c.2
  | none => s.act i sub
/-- Value in force for a bridge of an object that is never negative. -/
def State.actBN (s : State) (b : BridgeId) (i sub : Nat) : Nat := (s.actB b i sub).toNat
/-- Value in force for a bridge as a rational. -/
def State.actBR (s : State) (b : BridgeId) (i sub : Nat) : Rat := (s.actB b i sub : Rat)
/-- Stored value of an object. -/
def State.sto (s : State) (i sub : Nat) : Int := s.par.storedOf i sub
/-- Stored value of an object that is never negative. -/
def State.stoN (s : State) (i sub : Nat) : Nat := (s.sto i sub).toNat
/-- Active value as a rational. -/
def State.actR (s : State) (i sub : Nat) : Rat := (s.act i sub : Rat)

/-- The limits, 10 % about its nominal, of an input whose nominal moves (R532): HK28 with the drive, HK29 with 0x5001.01. -/
def State.railBand (s : State) (i : Nat) : Option (Int × Int) :=
  let band (v : Int) : Int × Int := (v - v / 10, v + v / 10)
  if i = 0x413C then some (band s.drive.hk28) else if i = 0x413D then some (band (if s.actN 0x5001 1 = 0 then 5000 else 12000)) else none

/-- A limit of such an input while its record keeps its default (R141, R532). -/
def State.railLimit (s : State) (i sub : Nat) : Option Int :=
  if (sub = 1 ∨ sub = 2) ∧ s.act i sub = objDefault i sub then (s.railBand i).map fun c => if sub = 1 then c.1 else c.2 else none

/-- Limits of input n, in its unit (R138, R141). -/
def State.inputLimits (s : State) (n : Nat) : Int × Int :=
  let i := 0x4100 + n
  ((s.railLimit i 1).getD (s.act i 1), (s.railLimit i 2).getD (s.act i 2))

/-- A rule writes an object: both its stored and its active value. -/
def putObj (i sub : Nat) (v : Int) (s : State) : State := { s with par := s.par.setBoth i sub v }

/-- Bridges of group g under a configuration code (R9). -/
def bridgesUnder (code : Nat) (g : GroupId) : List BridgeId :=
  match code, g with
  | 1, g => [g]
  | 2, 0 => [0, 1]
  | 2, 1 => [2, 3]
  | 3, 0 => [0, 1, 2, 3]
  | 4, 0 => [0, 1]
  | 4, 1 => [2]
  | 4, 2 => [3]
  | _, _ => []

/-- Bridges of group g under the active 0x1100.01 (R9). -/
def State.bridgesOf (s : State) (g : GroupId) : List BridgeId := bridgesUnder (s.actN 0x1100 1) g

/-- The group that holds bridge b (R9). -/
def State.groupOf (s : State) (b : BridgeId) : Option GroupId := allGr.find? fun g => (s.bridgesOf g).contains b

/-- The group whose parameters a bridge takes: its group, or M1 where it belongs to none (R365). -/
def State.groupFor (s : State) (b : BridgeId) : GroupId := (s.groupOf b).getD 0

/-- Index of the group's lowest-numbered bridge (R8), 0 where the group has none. -/
def State.groupIndex (s : State) (g : GroupId) : Nat := ((s.bridgesOf g).head?.map (·.val + 1)).getD 0

/-- Bridges of the group in RUN. -/
def State.running (s : State) (g : GroupId) : List BridgeId :=
  (s.bridgesOf g).filter fun b => decide (s.br[b].state = .run)

/-- Any bridge of the drive in RUN. -/
def State.anyRun (s : State) : Bool := allBr.any fun b => decide (s.br[b].state = .run)

/-- Bridge set as bits b - 1. -/
def maskOf (bs : List BridgeId) : Nat := bs.foldl (fun m b => m + 2 ^ b.val) 0

/-! Free values -/

/-- The next free value (log 9), below 2^w. -/
def State.nextFree (s : State) (w : Nat) : Nat := Config.free s.freeCount % 2 ^ w
/-- A free value has been drawn. -/
def drew (s : State) : State := { s with freeCount := s.freeCount + 1 }

/-! Statistics -/

/-- Value of a counter. -/
def counterOf (k : Nat) : List (Nat × Nat) → Nat
  | [] => 0
  | (j, v) :: t => if j = k then v else counterOf k t

/-- Set a counter in a sorted list without zero entries. -/
def putCounter (k v : Nat) : List (Nat × Nat) → List (Nat × Nat)
  | [] => if v = 0 then [] else [(k, v)]
  | (j, w) :: t =>
    if j < k then (j, w) :: putCounter k v t
    else if j = k then (if v = 0 then t else (k, v) :: t)
    else if v = 0 then (j, w) :: t else (k, v) :: (j, w) :: t

/-- Running count of a statistics object. -/
def State.counter (s : State) (i sub : Nat) : Nat := counterOf (objKey i sub) s.st.running

/-- A counter takes a value; at 0xFFFF_FFFF it holds and sets the saturated flag (R498). -/
def setCounter (i sub v : Nat) (s : State) : State :=
  { s with st := { s.st with running := putCounter (objKey i sub) (min v 0xFFFFFFFF) s.st.running,
                             saturated := s.st.saturated || decide (0xFFFFFFFF ≤ v) } }

/-- Add n to a counter. -/
def bumpBy (i sub n : Nat) (s : State) : State := setCounter i sub (s.counter i sub + n) s

/-- Increment a counter. -/
def bump (i sub : Nat) (s : State) : State := bumpBy i sub 1 s

/-- A counter that holds a maximum. -/
def peak (i sub v : Nat) (s : State) : State := setCounter i sub (max (s.counter i sub) v) s

/-! Outbound queues (R396 to R400, R405, R406) -/

/-- Words of an entry (R400, R411). -/
def Entry.size : Entry → Nat
  | .completion c => 4 + c.results.length
  | .event e => 3 + e.payload.length
  | .snapshot _ _ => 3
  | .packet p => 3 + p.data.length
  | .dropped => 0

/-- Words of an entry, in order (R400, R411). -/
def Entry.words : Entry → List Word
  | .completion c =>
    BitVec.ofNat 64 (c.seq.toNat + 2 ^ 32 * c.code + 2 ^ 48 * c.results.length + 2 ^ 56 * c.status) :: c.time.words ++
      (BitVec.ofNat 64 (b2n c.repeated) :: c.results)
  | .event e =>
    BitVec.ofNat 64 (e.code + 2 ^ 16 * e.level + 2 ^ 24 * e.index + 2 ^ 32 * e.payload.length + 2 ^ 48 * e.serial) ::
      e.time.words ++ e.payload
  | .snapshot n t => BitVec.ofNat 64 n :: t.words
  | .packet p =>
    BitVec.ofNat 64 (p.number % 2 ^ 32 + 2 ^ 32 * p.sets + 2 ^ 48 * b2n p.packed + 2 ^ 52 * b2n p.truncated +
      2 ^ 53 * b2n p.final + 2 ^ 54 * b2n p.lost) :: p.time.words ++ p.data
  | .dropped => []

/-- Sideband of an entry's final word (R398). -/
def Entry.sideband : Entry → Nat
  | .packet p => 8 + (p.validBytes - 1) % 8
  | _ => 15

/-- Capacity of a queue in words (R396). -/
def queueCapacity (q : Nat) : Nat :=
  if q < 2 then 1024 else if q < 4 then 4096 else if q < 8 then 2048 else if q = 8 then 8192 else if q < 11 then 4096
  else if q = 11 then 1024 else 16384

/-- Words of the entries that stand in the queue itself, not in the capture ring. -/
def OutQueue.used (q : OutQueue) : Nat :=
  ((q.entries.take (q.entries.length - q.inRing)).map Entry.size).foldl (· + ·) 0

/-- Producer index (R399). -/
def OutQueue.producer (q : OutQueue) : Nat := (q.consumer + q.entries.length) % 2 ^ 32

/-- Update outbound queue q. -/
def modOut (q : QueueId) (f : OutQueue → OutQueue) (s : State) : State :=
  { s with io := { s.io with out := s.io.out.set q (f s.io.out[q]) } }

/-- Update command queue q. -/
def modCmd (q : Fin 4) (f : CmdQueue → CmdQueue) (s : State) : State :=
  { s with io := { s.io with cmd := s.io.cmd.set q (f s.io.cmd[q]) } }

/-- A frame has left by a port (R466). -/
def sentOn (p : PortId) (s : State) : State := bump (0xE0AA + p.val) 2 s

/-- The manager of a ring blocks NB unless the ring is open (R449). -/
def State.nbBlocked (s : State) : Bool := decide (s.act 0xA011 1 = 1) && s.net.ring != 2

/-- Count a message on the ports by which it leaves (R466; log 113). -/
def countSent (m : Msg) (s : State) : State :=
  match m with
  | .lldp p _ | .lldpRelay p _ | .ringFlush p | .tc10Sleep p | .tc10Wake p | .forward p _ => sentOn p s
  | .ringCheck => sentOn 0 s
  | .announce _ | .schedule _ => onlyIf (s.net.port[1].up && !s.nbBlocked) (sentOn 1) (onlyIf s.net.port[0].up (sentOn 0) s)
  | .notify _ _ _ | .mail _ _ => if s.net.port[0].up then sentOn 0 s else if s.net.port[1].up then sentOn 1 s else s
  | .tdr _ | .deliver _ | .can _ _ => s

/-- A message is PD6 traffic over the Ethernet ports, which stops without the network PLL (R349). Wake-up patterns and reflectometry are made by
the ports themselves, not as frames. -/
def Msg.onNetwork : Msg → Bool
  | .can _ _ | .tdr _ | .tc10Wake _ => false
  | _ => true

/-- Hand a message to its transport; network traffic that cannot flow is not sent (R349). -/
def send (m : Msg) (s : State) : State := if m.onNetwork && !s.netRuns then s else countSent m { s with io := { s.io with outbox := s.io.outbox ++ [m] } }

/-- Update CAN controller c. -/
def modCan (c : CanId) (f : Can → Can) (s : State) : State := { s with can := s.can.set c (f s.can[c]) }

/-- A CAN controller is on its bus: PD6 and the pulse PLL run, it is enabled, neither bus-off nor stopped (R33, R468, R473). -/
def State.canOn (s : State) (c : CanId) : Bool :=
  s.pwr.domains[6] && s.pwr.pll[1] && decide (s.act (0xB000 + c.val) 1 = 1) && s.can[c].state != 2 && s.can[c].state != 3

/-- A CAN controller transmits: on its bus and not listen-only (R468). -/
def State.canSends (s : State) (c : CanId) : Bool := s.canOn c && decide (s.act (0xB000 + c.val) 2 ≠ 3)

/-- A data frame of controller c in its frame mode (R468, R472). -/
def State.canFrame (s : State) (c : CanId) (ident : Nat) (data : List Byte) : CanFrame :=
  { ident := ident, extended := true, fd := decide (s.act (0xB000 + c.val) 2 ≤ 1), brs := decide (s.act (0xB000 + c.val) 2 = 0), remote := false,
    data := data }

/-- A frame waits in a transmit buffer (R472). -/
def canQueue (c : CanId) (f : CanFrame) (peer : Option Nat) (s : State) : State :=
  modCan c (fun x => { x with tx := x.tx ++ [{ frame := f, since := s.now, peer := peer }] }) s

/-- A notification of queue q can be sent: it is bound to a transport with a destination and a link (R405, R473). -/
def State.canNotify (s : State) (q : QueueId) : Bool :=
  match s.actN (0xC100 + q.val) 1 with
  | 0 => decide (s.act (0xC100 + q.val) 2 ≠ 0) && s.net.port.any (·.up) && s.netRuns
  | 1 => s.canSends 0
  | 2 => s.canSends 1
  | _ => false

/-- Producer index and entries pending that a NOTIFY of queue q carries (R401). -/
def State.notifyCounts (s : State) (q : QueueId) : Nat × Nat :=
  if h : q.val < 4 then
    let c := s.io.cmd[q.val]
    ((c.consumer + c.waiting.length) % 2 ^ 32, min c.waiting.length 65535)
  else (s.io.out[q].producer, min s.io.out[q].entries.length 65535)

/-- The NOTIFY of queue q as a frame of DLC 8 on its notify identifier (R401, R472). -/
def State.notifyFrame (s : State) (c : CanId) (q : QueueId) (counts : Nat × Nat) : State :=
  canQueue c (s.canFrame c (s.actN (0xC100 + q.val) 4)
    ([2, BitVec.ofNat 8 q.val] ++ (List.range 2).map (fun k => BitVec.ofNat 8 (counts.2 / 256 ^ k)) ++
      (List.range 4).map fun k => BitVec.ofNat 8 (counts.1 / 256 ^ k))) none s

/-- Send the notification of queue q, or count it as not sent (R405). -/
def notifyNow (q : QueueId) (s : State) : State :=
  let s := { s with io := { s.io with notify := s.io.notify.set q { last := some s.now, during := false } } }
  if s.canNotify q then
    let c := s.notifyCounts q
    bump 0xE0C0 5 (match s.actN (0xC100 + q.val) 1 with
      | 1 => s.notifyFrame 0 q c
      | 2 => s.notifyFrame 1 q c
      | _ => send (.notify q.val c.1 c.2) s)
  else bump 0xE0C0 6 s

/-- An entry of queue q has been completed: notify, or remember it until the holdoff ends (R405). -/
def notifyEntry (q : QueueId) (s : State) : State :=
  let r := s.io.notify[q]
  let hold := s.actN (0xC100 + q.val) 5 * ticksPerUs
  if r.last.all (fun t => decide (t + hold ≤ s.now)) then notifyNow q s
  else { s with io := { s.io with notify := s.io.notify.set q { r with during := true } } }

/-- Append an entry to queue q. -/
def pushEntry (q : QueueId) (e : Entry) (s : State) : State :=
  notifyEntry q (modOut q (fun o => { o with entries := o.entries ++ [e] }) s)

/-- The largest entry an event or snapshot queue carries (R406). -/
def largestEntry (q : QueueId) : Nat := if q.val = 11 then 3 else 35

/-- The event serial counts every event (R400). -/
def nextSerial (s : State) : State := { s with io := { s.io with eventSerial := (s.io.eventSerial + 1) % 65536 } }

/-- Enqueue the pending E-C001 of an event or snapshot queue when its room has returned (R406). -/
def settleLost (q : QueueId) (s : State) : State :=
  let o := s.io.out[q]
  if o.lost ≠ 0 ∧ o.used + 4 + largestEntry q ≤ queueCapacity q.val then
    let e : EventEntry := { code := 0xC001, level := 4, index := 0, serial := s.io.eventSerial, time := s.stamp s.now,
                            payload := [BitVec.ofNat 64 o.lost] }
    nextSerial (pushEntry q (.event e) (modOut q (fun o => { o with lost := 0 }) s))
  else s

/-- Enqueue an entry into an event or snapshot queue, or lose it (R406). -/
def enqueueOut (q : QueueId) (e : Entry) (s : State) : State :=
  let s := settleLost q s
  let o := s.io.out[q]
  if o.lost = 0 ∧ o.used + e.size ≤ queueCapacity q.val then pushEntry q e s
  else bump 0xE0C0 7 (modOut q (fun o => { o with lost := o.lost + 1 }) s)

/-! Events -/

/-- Events that go to Q9 (the event tables of each chapter). -/
def q9Events : List Nat :=
  [0x1003, 0x1006, 0x2001, 0x2003, 0x2008, 0x200B, 0x200C, 0x3009, 0x300E, 0x300F, 0x3010, 0x4001, 0x4007, 0x4009, 0x400B,
   0x400C, 0x5003, 0x5004, 0x5005, 0x5010, 0x5013, 0x5021, 0x5030, 0x5032, 0x6001, 0x6002, 0x6012, 0x6013, 0x6022, 0x6036,
   0x6037, 0x6801, 0x6803, 0x6805, 0x6807, 0x6808, 0x7001, 0x7007, 0x7008, 0x700A, 0x700C, 0x7104, 0x7106, 0x7123, 0x8052,
   0x8070, 0x8105, 0x8106, 0x8222, 0x9002, 0x9003, 0x9102, 0x9104, 0x9105, 0x9110, 0xA002, 0xA003, 0xA004, 0xA005, 0xA105,
   0xB001, 0xB002, 0xB007, 0xB008, 0xB00B, 0xC002, 0xC003, 0xD003, 0xD004, 0xD105, 0xE001, 0xE002, 0xF007, 0xF008, 0xF009]

/-- Events that go to Q10. -/
def q10Events : List Nat :=
  [0x1001, 0x1004, 0x1005, 0x1007, 0x2009, 0x200A, 0x200D, 0x3003, 0x300D, 0x4004, 0x4005, 0x400A, 0x5002, 0x5011, 0x5012,
   0x5020, 0x6003, 0x6010, 0x6011, 0x6020, 0x6024, 0x6031, 0x6032, 0x6033, 0x6806, 0x7003, 0x7006, 0x7009, 0x700B, 0x700D,
   0x7101, 0x7102, 0x7105, 0x7108, 0x7110, 0x7111, 0x7115, 0x7120, 0x7121, 0x8002, 0x8011, 0x8020, 0x8040, 0x8061, 0x8080,
   0x8103, 0x8107, 0x8203, 0x8205, 0x8211, 0x8213, 0x8220, 0x8221, 0x9005, 0x9006, 0x9020, 0x9021, 0x9101, 0xA001, 0xA007,
   0xA101, 0xA103, 0xA106, 0xA107, 0xB003, 0xB005, 0xB009, 0xB010, 0xC004, 0xC006, 0xD101, 0xD102, 0xD103, 0xF001, 0xF002,
   0xF003, 0xF006]

/-- The queue of an event code; every other event goes to Q8. -/
def eventQueue (code : Nat) : QueueId := if q9Events.contains code then 9 else if q10Events.contains code then 10 else 8

/-- Raise an event (R16, R400, R406): its entry goes to its queue, or is lost there. Payload fields take one word each (log 6). With PD2 off
there is no queue to hold it (R33, R347). -/
def raise0 (code level index : Nat) (payload : List Int) (s : State) : State :=
  if !s.pwr.domains[2] then s else
  let e : EventEntry := { code := code, level := level, index := index, serial := s.io.eventSerial, time := s.stamp s.now,
                          payload := payload.map (BitVec.ofInt 64) }
  enqueueOut (eventQueue code) (.event e) (nextSerial s)

/-- The event an injection point expects (R493), 0 where a count is expected. -/
def expectedEvent (point : Nat) : Nat :=
  match point / 256 with
  | 0x01 => 0x3001
  | 0x02 => 0x3002
  | 0x03 => 0x300B
  | 0x05 => 0x2003
  | 0x07 => 0x4003
  | 0x08 => 0x5001
  | 0x09 => 0x6030
  | 0x0A => 0x8201
  | 0x0B => 0x8207
  | 0x0C => 0x8108
  | 0x0D => 0x8003
  | 0x0E => if point % 256 = 2 then 0x6803 else 0
  | 0x10 => 0x8021
  | 0x11 => 0x9103
  | 0x12 => 0x8023
  | _ => 0

/-- The event meets the fired injection point (R493). -/
def injectionMeets (point code : Nat) : Bool :=
  expectedEvent point == code && code != 0 || (point / 256 == 0x10 && (code == 0x8030 || code == 0x8031))

/-- The oldest fired point that `hit` selects and whose observation runs has its expected event or count, with that serial (R496). -/
def injectionSeen (hit : Nat → Bool) (serial : Nat) (s : State) : State :=
  match s.test.fired.find? fun f => hit f.1 && decide (s.now ≤ f.2) with
  | some f => bump 0xE0D1 3 (raise0 0xD103 4 0 [(serial : Int)] { s with test := { s.test with fired := s.test.fired.erase f } })
  | none => s

/-- Raise an event, and observe it for an injection (R496). -/
def raise (code level index : Nat) (payload : List Int) (s : State) : State :=
  injectionSeen (fun p => injectionMeets p code) s.io.eventSerial (raise0 code level index payload s)

/-- A count that an injection point expects has happened (R493). -/
def injectionCount (point : Nat) (s : State) : State := injectionSeen (fun p => p == point) s.io.eventSerial s

/-- Raise an event only the first time in the epoch for its key (R498). -/
def raiseFirst (code level index : Nat) (payload : List Int) (key : Nat) (s : State) : State :=
  let k := code * 65536 + key
  if s.st.firsts.contains k then s
  else raise code level index payload { s with st := { s.st with firsts := k :: s.st.firsts } }

/-- A drive-level event: level 4, index 0. -/
def raise4 (code : Nat) (payload : List Int) (s : State) : State := raise code 4 0 payload s

/-- A bridge event: level 3, bridge index. -/
def raiseB (code : Nat) (b : BridgeId) (payload : List Int) (s : State) : State := raise code 3 (b.val + 1) payload s

/-- A group event: level 3, index of the lowest bridge, the group first in the payload (R8). -/
def raiseG (code : Nat) (g : GroupId) (payload : List Int) (s : State) : State :=
  raise code 3 (s.groupIndex g) ((g.val + 1 : Int) :: payload) s

/-- First saturation of a counter in the epoch (R498), raised after a step that saturated one. -/
def settleSaturation (s : State) : State :=
  if s.st.saturated then
    raiseFirst 0xE002 4 0 [((s.st.running.find? fun e => decide (e.2 = 0xFFFFFFFF)).map (fun e => (e.1 : Int))).getD 0] 0 s
  else s

/-! Completions (R397, R400, R402, R420, R421) -/

/-- The queue that carries the completions of command queue q. -/
def completionQueue (q : Fin 4) : QueueId := ⟨q.val + 4, by omega⟩

/-- The completions that a queue retains (R402): those of its last n accepted commands. -/
def retain (last : Option (BitVec 32)) (n : Nat) (l : List Completion) : List Completion :=
  match last with
  | some x => l.filter fun c => decide ((x - c.seq).toNat < n)
  | none => l.take n

/-- A completion goes to the completion queue and is retained (R397, R402). -/
def complete (r : CmdRef) (status : Nat) (results : List Word) (s : State) : State :=
  let c : Completion := { seq := r.seq, code := r.code, status := status, time := s.stamp s.now, repeated := false,
                          results := results }
  let keep := s.actN 0xC000 3
  let s := { s with io := { s.io with taken := s.io.taken.set r.queue (s.io.taken[r.queue].filter (·.seq != r.seq)) } }
  let s := modCmd r.queue (fun q => { q with retained := retain q.lastSeq keep (c :: q.retained) }) s
  let s := pushEntry (completionQueue r.queue) (.completion c) s
  let s := onlyIf (decide (0x10 ≤ status ∧ status ≤ 0x15)) (bump 0xE010 5) s
  onlyIf (decide (0x20 ≤ status)) (bump 0xE010 6) s

/-- The first result word of a REJECTED completion (R421). -/
def refusalWord (word entry detail : Nat) : Word :=
  BitVec.ofNat 64 (word % 65536 + 65536 * (entry % 65536) + 2 ^ 32 * (detail % 2 ^ 32))

/-- Complete with a REJECTED status (R421). -/
def refuse (r : CmdRef) (status word : Nat) (s : State) : State := complete r status [refusalWord word 0 0] s

/-- Status codes of R420. -/
def stOk : Nat := 0x00
def stLimited : Nat := 0x01
def stDeferred : Nat := 0x02
def stCommand : Nat := 0x10
def stOperand : Nat := 0x11
def stAuth : Nat := 0x12
def stObject : Nat := 0x13
def stRange : Nat := 0x14
def stState : Nat := 0x15
def stAborted : Nat := 0x20
def stHardware : Nat := 0x21
def stImage : Nat := 0x22

/-! Memory (R12, R173, R378, R381; log 10) -/

/-- A byte of a sparse memory; a byte not listed reads 0. -/
def readByte (a : Nat) : List Host.Cell → Byte
  | [] => 0
  | (j, v) :: t => if j = a then v else readByte a t

/-- Write a byte, keeping the canonical form: rising addresses, no zero byte. -/
def writeByte (a : Nat) (v : Byte) : List Host.Cell → List Host.Cell
  | [] => if v = 0 then [] else [(a, v)]
  | (j, w) :: t =>
    if j < a then (j, w) :: writeByte a v t
    else if j = a then (if v = 0 then t else (a, v) :: t)
    else if v = 0 then (j, w) :: t else (a, v) :: (j, w) :: t

/-- The canonical form of a sparse memory. -/
def cellsWf : List Host.Cell → Bool
  | [] => true
  | (_, v) :: [] => v != 0
  | (a, v) :: (b, w) :: t => v != 0 && decide (a < b) && cellsWf ((b, w) :: t)

/-- Both memories are in canonical form. -/
def Mem.wf (m : Mem) : Bool := cellsWf m.dram && cellsWf m.nand

/-- Write consecutive bytes. -/
def writeBytes (a : Nat) : List Byte → List Host.Cell → List Host.Cell
  | [], m => m
  | v :: t, m => writeBytes (a + 1) t (writeByte a v m)

/-- Read n consecutive bytes. -/
def readBytes (a n : Nat) (m : List Host.Cell) : List Byte := (List.range n).map fun k => readByte (a + k) m

/-- The bytes of a word, least significant first (R12). -/
def wordBytes (w : Word) : List Byte := (List.range 8).map fun k => BitVec.ofNat 8 (w.toNat / 256 ^ k)

/-- The word of little-endian bytes. -/
def bytesNat : List Byte → Nat
  | [] => 0
  | b :: t => b.toNat + 256 * bytesNat t

/-- DRAM word at a word address (R378). -/
def Mem.dramWord (m : Mem) (a : Nat) : Word := BitVec.ofNat 64 (bytesNat (readBytes (8 * a) 8 m.dram))

/-- Write a DRAM word; its check bits are good again. -/
def Mem.setDramWord (m : Mem) (a : Nat) (w : Word) : Mem :=
  { m with dram := writeBytes (8 * a) (wordBytes w) m.dram, bad := m.bad.filter (· ≠ a) }

/-- Write a DRAM word of an atlas; a prefetched copy of it is dropped (R391). -/
def putCell (a : Nat) (w : Word) (s : State) : State :=
  { s with mem := s.mem.setDramWord a w, arb := { s.arb with prefetch := s.arb.prefetch.filter fun x => decide (x.2 ≠ a) } }

/-- Remove every byte of [lo, lo + n). -/
def eraseRange (lo n : Nat) (m : List Host.Cell) : List Host.Cell := m.filter fun c => decide (c.1 < lo ∨ lo + n ≤ c.1)

/-- Replace [dst, dst + n) of `m` by [src, src + n) of `fr`. -/
def copyRange (src dst n : Nat) (fr m : List Host.Cell) : List Host.Cell :=
  (m.filter fun c => decide (c.1 < dst)) ++
    ((fr.filter fun c => decide (src ≤ c.1 ∧ c.1 < src + n)).map fun c => (c.1 - src + dst, c.2)) ++
    (m.filter fun c => decide (dst + n ≤ c.1))

/-- DRAM word address of a cell of group g (R173). -/
def cellAddr (g : GroupId) (cell : Nat) : Nat := 0x02000000 * g.val + cell % 0x02000000

/-- NAND byte address of atlas slot s of group g (R381). -/
def atlasSlotAddr (g : GroupId) (s : Nat) : Nat := (2 * g.val + s) * 0x10000000

/-- Bytes of one atlas (R173). -/
def atlasBytes : Nat := 0x10000000

/-- NAND byte address of firmware slot s (R381). -/
def fwSlotAddr (s : Nat) : Nat := 0x80000000 + s * 0x8000000

/-- CRC-32 of IEEE 802.3 (R200): one byte. -/
def crcByte (c : Nat) (b : Byte) : Nat :=
  (List.range 8).foldl (fun x _ => if x % 2 = 1 then Nat.xor (x / 2) 0xEDB88320 else x / 2) (Nat.xor c b.toNat)

/-- CRC-32 of IEEE 802.3 over bytes (R200). -/
def crc32 (bs : List Byte) : Nat := Nat.xor (bs.foldl crcByte 0xFFFFFFFF) 0xFFFFFFFF

/-- Little-endian bytes of a number. -/
def leBytes (n v : Nat) : List Byte := (List.range n).map fun k => BitVec.ofNat 8 (v / 256 ^ k)

end Sys2Proof.Machine
end

