-- ==== Sys2Proof/Machine/Journal.lean ====
section
/-! DEFINITION. The journal of commit records (R190, R511, R512). -/

namespace Sys2Proof.Machine

/-- Records of one journal half: 2 MiB of 64-byte records (R511, R512). -/
def halfRecords : Nat := 32768

/-- a is newer than b modulo 2^32 (R512). -/
def newer (a b : Nat) : Bool := let d := (a + 2 ^ 32 - b % 2 ^ 32) % 2 ^ 32; d != 0 && Nat.blt d (2 ^ 31)

/-- Every record of both halves. -/
def Journal.all (j : Journal) : List JRecord := j.halves[0] ++ j.halves[1]

/-- The valid record of a target: the highest sequence among those whose CRC passes (R512). -/
def Journal.valid (j : Journal) (kind target : Nat) : Option JRecord :=
  (j.all.filter fun r => r.good && r.kind == kind && r.target == target).foldl (fun m r => match m with
    | none => some r
    | some x => if newer r.seq x.seq then some r else some x) none

/-- The targets a journal can hold: atlases 1 to 4, firmware, parameters. -/
def journalTargets : List (Nat × Nat) := [(1, 1), (1, 2), (1, 3), (1, 4), (2, 0), (3, 0)]

/-- Append a record (R512): at a full half the valid records move into the other half, the full half is erased and E-F006 is raised. -/
def appendRecord (r : JRecord) (s : State) : State :=
  let j := s.mem.journal
  if j.halves[j.half].length < halfRecords then
    { s with mem := { s.mem with journal := { j with halves := j.halves.set j.half (j.halves[j.half] ++ [r]) } } }
  else
    let keep := journalTargets.filterMap fun t => j.valid t.1 t.2
    let h : Fin 2 := ⟨1 - j.half.val, by omega⟩
    let cleared : Vector (List JRecord) 2 := .replicate 2 []
    raise4 0xF006 [(h.val : Int)] { s with mem := { s.mem with journal := { half := h, halves := cleared.set h (keep ++ [r]) } } }

/-- The sequence number a target's next record takes: one above its valid record, 1 for the first (R443, R190). -/
def State.nextSeq (s : State) (kind target : Nat) : Nat :=
  match s.mem.journal.valid kind target with
  | some r => (r.seq + 1) % 2 ^ 32
  | none => 1

/-- The slot a target's record does not name; slot 0 where none is named (R443, R192). -/
def State.otherSlot (s : State) (kind target : Nat) : Nat :=
  match s.mem.journal.valid kind target with
  | some r => if r.slot = 0 then 1 else 0
  | none => 0

/-- A firmware commit record (R438, R509, R511). -/
def State.fwRecord (s : State) (slot trial : Nat) (confirmed : Bool) : JRecord :=
  let version := bytesNat (readBytes (fwSlotAddr slot + 8) 4 s.mem.nand)
  { kind := 2, target := 0, slot := slot, trial := trial, confirmed := confirmed, seq := s.nextSeq 2 0, detail := version, axis := [],
    slotCrc := match s.boot.fw.toList[slot]? with
      | some f => crc32 (readBytes (fwSlotAddr slot + 128) (f.fileLength - 128) s.mem.nand)
      | none => 0, good := true }

/-- An unconfirmed trial image becomes confirmed, with a record and E-F003 (R509). -/
def confirmFirmware (s : State) : State :=
  if s.boot.confirmed || s.boot.recovery then s
  else
    let s := appendRecord (s.fwRecord s.boot.slot.val 0 true) s
    raise4 0xF003 [(s.boot.slot.val : Int)] { s with boot := { s.boot with confirmed := true, trial := 0 } }

/-- The atlas slot that the record of a group does not name. -/
def State.unnamedSlot (s : State) (g : GroupId) : Nat := match s.mem.journal.valid 1 (g.val + 1) with
  | some r => 1 - r.slot % 2
  | none => 0

/-- Index of an atlas slot's block CRC table. -/
def crcIndex (g : GroupId) (slot : Nat) : Fin 8 := ⟨2 * g.val + slot % 2, by omega⟩

end Sys2Proof.Machine
end

