-- ==== Sys2Proof/Machine/Packets.lean ====
section
/-! DEFINITION. Stream packets: packing, the capture ring and the closing of a packet (R410 to R414). -/

namespace Sys2Proof.Machine

/-- A channel whose samples are unsigned codes: converter codes and angles (R410). -/
def channelUnsigned (code : Nat) : Bool := Nat.ble code 0x040C || (Nat.ble 0x0901 code && Nat.ble code 0x0904)

/-- Native width of a channel (R410). -/
def channelWidth (code : Nat) : Nat := if 0x0401 ≤ code ∧ code ≤ 0x040C then 12 else 16

/-- A sample in its native width: limited to the I16 range where it is signed (R410). -/
def sampleBits (packed : Bool) (code : Nat) (v : Int) : Nat :=
  if channelWidth code = 12 then ofSigned 12 v
  else if channelUnsigned code then
    let u := ofSigned 16 v
    if packed then min ((u + 8) / 16) 4095 else u
  else
    let u := clampInt (-32768) 32767 v
    if packed then ofSigned 12 (min ((u + 8) / 16) 2047) else ofSigned 16 u

/-- Sample j stands in data bits w j to w j + w - 1 (R411): the data as one number. -/
def packBits (w : Nat) : List Nat → Nat
  | [] => 0
  | v :: t => v % 2 ^ w + 2 ^ w * packBits w t

/-- The data words of a number of `n` bits. -/
def dataWords (n v : Nat) : List Word := (List.range ((n + 63) / 64)).map fun k => BitVec.ofNat 64 (v / 2 ^ (64 * k))

/-- Valid bytes of the final data word (R411). -/
def finalBytes (n : Nat) : Nat := if n % 64 = 0 then 8 else (n % 64 + 7) / 8

/-- Queue of stream k (R396). -/
def streamQueue (k : StreamId) : QueueId := ⟨k.val + 12, by omega⟩

/-- Update stream k. -/
def modStream (k : StreamId) (f : Stream → Stream) (s : State) : State := { s with streams := s.streams.set k (f s.streams[k]) }

/-- Words of one MiB. -/
def wordsPerMiB : Nat := 131072

/-- Ring entries move into the queue, oldest first, as its room returns (R413). `n` bounds the moves. -/
def drainRing (q : QueueId) (k : StreamId) : Nat → State → State
  | 0, s => s
  | n + 1, s =>
    let o := s.io.out[q]
    match o.entries[o.entries.length - o.inRing]? with
    | some e =>
      if 0 < o.inRing ∧ o.used + e.size ≤ queueCapacity q.val then
        drainRing q k n (modStream k (fun x => { x with ringWords := x.ringWords - e.size })
          (modOut q (fun o => { o with inRing := o.inRing - 1 }) s))
      else s
    | none => s

/-- Mark the first waiting packet as following a loss (R414). -/
def markLost : List Entry → List Entry
  | .packet p :: t => .packet { p with lost := true } :: t
  | e :: t => e :: markLost t
  | [] => []

/-- Discard the oldest unreleased packets until `need` words of the ring are free (R414 policy 0x01). `n` bounds the discards. -/
def discardOldest (k : StreamId) (need : Nat) : Nat → State → State
  | 0, s => s
  | n + 1, s =>
    let q := streamQueue k
    let o := s.io.out[q]
    if s.streams[k].ringWords + need ≤ s.streams[k].ringShare * wordsPerMiB then s
    else match o.entries with
      | [] => s
      | e :: t =>
        let ring : Bool := decide (o.entries.length ≤ o.inRing)
        let s := modOut q (fun o => { o with entries := t, consumer := (o.consumer + 1) % 2 ^ 32,
                                             inRing := if ring then o.inRing - 1 else o.inRing }) s
        let s := onlyIf ring (modStream k fun x => { x with ringWords := x.ringWords - e.size }) s
        discardOldest k need n (drainRing q k t.length (bump (0xE0CC + k.val) 3 s))

/-- The first stream packet lost in the epoch (R414, R419). -/
def packetLost (k : StreamId) (s : State) : State := raiseFirst 0xC003 4 0 [(k.val : Int)] k.val s

/-- Put a packet into the ring share of its stream. -/
def toRing (k : StreamId) (p : Packet) (s : State) : State :=
  let q := streamQueue k
  let s := pushEntry q (.packet p) (modOut q (fun o => { o with inRing := o.inRing + 1 }) s)
  let s := modStream k (fun x => { x with ringWords := x.ringWords + (Entry.packet p).size }) s
  peak (0xE0CC + k.val) 5 ((s.streams[k].ringWords + wordsPerMiB - 1) / wordsPerMiB) (bump (0xE0CC + k.val) 2 s)

/-- Cycles that the stream DMA skips of every eight (R372). -/
def State.dmaSkips (s : State) : Nat := if 4 ≤ s.die.level then 7 else if s.die.level = 3 then 6 else if s.die.level = 2 then 4 else 0

/-- The present cycle group is one that the stream DMA skips: of every eight it keeps the last ones up to its own slots of R384 (log 200). -/
def State.dmaRests (s : State) : Bool := decide (8 ≤ (s.arb.slot + 3) % 8 + s.dmaSkips)

/-- Enqueue a packet: into the queue, else into the ring share, else by the ring policy (R413, R414). One that the DMA cannot carry goes to the
ring share while that has room, so that throttling drops nothing (R372). -/
def enqueuePacket (k : StreamId) (p : Packet) (s : State) : State :=
  let q := streamQueue k
  let o := s.io.out[q]
  let st := s.streams[k]
  let size := (Entry.packet p).size
  let s := bump (0xE0CC + k.val) 1 s
  let ring := decide (st.ringWords + size ≤ st.ringShare * wordsPerMiB)
  if o.inRing = 0 ∧ o.used + size ≤ queueCapacity q.val ∧ (s.dmaRests && ring) = false then pushEntry q (.packet p) s
  else if ring then toRing k p s
  else if st.policy = 1 ∧ size ≤ st.ringShare * wordsPerMiB then
    let s := packetLost k (discardOldest k size o.entries.length s)
    if s.io.out[q].entries.all (· == .dropped) then toRing k { p with lost := true } s
    else toRing k p (modOut q (fun o => { o with entries := markLost o.entries }) s)
  else packetLost k (bump (0xE0CC + k.val) 3 (modStream k (fun x => { x with lostFlag := true }) s))

/-- A stream stops: its flushes complete with the last packet number (R412), and E-C004 is raised (R419). -/
def stopStream (k : StreamId) (s : State) : State :=
  let st := s.streams[k]
  let s := modStream k (fun x => { x with running := false, flush := [], stopping := false }) s
  let s := raise4 0xC004 [(k.val : Int), (st.lastNumber : Int)] s
  st.flush.foldl (fun a r => complete r stOk [BitVec.ofNat 64 st.lastNumber] a) s

/-- Close the packet in progress of stream k, if there is one (R411, R412). -/
def closePacket (k : StreamId) (truncated final : Bool) (s : State) : State :=
  let st := s.streams[k]
  if st.sets = 0 then s
  else
    let w := if st.packed then 12 else 16
    let n := st.channels.length
    let vals := (List.range st.samples.length).map fun j =>
      sampleBits st.packed (st.channels.getD (j % max n 1) 0) (st.samples.getD j 0)
    let nb := w * st.samples.length
    let p : Packet := { number := st.number % 2 ^ 32, sets := st.sets, packed := st.packed, truncated := truncated,
                        final := final, lost := st.lostFlag, time := st.first, data := dataWords nb (packBits w vals),
                        validBytes := finalBytes nb }
    let s := modStream k (fun x => { x with number := x.number + 1, lastNumber := x.number % 2 ^ 32, samples := [], sets := 0,
                                            lostFlag := false }) s
    enqueuePacket k p (onlyIf truncated (bump (0xE0CC + k.val) 4) s)

/-- The triggering bridge of a stream leaves RUN: its packet closes truncated; a flush then has its packet (R412). -/
def streamBridgeLost (b : BridgeId) (s : State) : State :=
  (List.finRange 4).foldl (fun a k =>
    let st := a.streams[k]
    if st.running && (st.trigger == 1 || st.trigger == 2) && st.bridge == b.val + 1 then
      let flushing := !st.flush.isEmpty
      let a := closePacket k true flushing a
      if flushing then stopStream k a else a
    else a) s

end Sys2Proof.Machine
end

