-- ==== Sys2Proof/Machine/CanLink.lean ====
section
/-! DEFINITION. CAN controllers: address claim, starting and stopping, messages that fail (R473, R475, R476, R479). -/

namespace Sys2Proof.Machine

/-- The identifier mode of a controller is J1939 style (R474). -/
def State.canJ1939 (s : State) (c : CanId) : Bool := s.act (0xB000 + c.val) 0x11 == 1

/-- A transport message of a controller fails (R476): counted, the first in an epoch with its cause and source. Causes: 1 bus-off or off,
2 address lost, 3 frame withdrawn, 4 N_As, 5 N_Bs, 6 N_Cr, 7 overflow, 8 flow control, 9 sequence, 10 replaced, 11 frame lost (log 6). -/
def canFailed (c : CanId) (cause source : Nat) (s : State) : State :=
  raiseFirst 0xB00B 4 0 [(c.val + 1 : Int), (cause : Int), (source : Int)] c.val (bump (0xE0B1 + c.val) 0x0A s)

/-- Every reception and transmission of a controller fails (R479), with its frames. -/
def canFailAll (c : CanId) (cause : Nat) (s : State) : State :=
  let x := s.can[c]
  let peers := x.rx.map (·.peer) ++ x.send.map (·.peer)
  let s := modCan c (fun y => { y with rx := [], send := [], tx := y.tx.filter fun f => f.peer.isNone }) s
  peers.foldl (fun a p => canFailed c cause p a) s

/-- A claim, or cannot-claim from the null address 0xFE, of PGN 0xEE00: a classical frame that carries the NAME (R475; log 117). -/
def claimFrame (s : State) (source : Nat) : CanFrame :=
  { ident := 0x18EEFF00 + source, extended := true, fd := false, brs := false, remote := false, data := leBytes 8 (s.actN 0xB008 1) }

/-- A controller claims an address. -/
def claimAddress (c : CanId) (a : Nat) (s : State) : State :=
  canQueue c (claimFrame s a) none (modCan c (fun x => { x with claiming := some a }) s)

/-- The lowest address in 0xB008.06 to .07 that no other device has claimed (R475). -/
def State.freeAddress (s : State) (c : CanId) : Option Nat :=
  let lo := s.actN 0xB008 6
  ((List.range 254).filter fun a => decide (lo ≤ a ∧ a ≤ s.actN 0xB008 7)).find? fun a => !(s.can[c].claims.any fun k => k.1 == a)

/-- The controller claims the lowest free address; with none it sends cannot-claim, with E-B00A. -/
def claimNext (c : CanId) (s : State) : State :=
  match s.freeAddress c with
  | some a => claimAddress c a s
  | none => raise4 0xB00A [(c.val + 1 : Int), 0xFE] (canQueue c (claimFrame s 0xFE) none (modCan c (fun x => { x with claiming := none, address := 0xFE }) s))

/-- The claim begins (R475): with the preferred address, unless another device is known to hold it. -/
def beginClaim (c : CanId) (s : State) : State :=
  let a := s.actN 0xB008 (c.val + 2)
  if s.can[c].claims.any fun k => k.1 == a then claimNext c s else claimAddress c a s

/-- A controller starts (R469, R473, R475): with the bit timing then active, error-active, with an address claim in identifier mode 0x01. One that is not enabled stays off. -/
def startCan (c : CanId) (s : State) : State :=
  let s := canFailAll c 1 s
  let s := modCan c (fun x => { Can.reset with busOffs := x.busOffs, delay := x.delay, timing := Vector.ofFn fun k => s.actN (0xB000 + c.val) (k.val + 3), fifo := x.fifo, high := x.high }) s
  if s.canJ1939 c && s.canSends c then beginClaim c s else s

/-- At a drive state change a controller restarts where the values that became active change its enable, its mode or its identifier mode, and
at the entry into STANDBY where it is stopped (R473, R480). -/
def restartCan (old : Params) (standby : Bool) (c : CanId) (s : State) : State :=
  let i := 0xB000 + c.val
  if (standby && s.can[c].state == 3) || [1, 2, 0x11].any fun k => old.activeOf i k != s.act i k then startCan c s else s

end Sys2Proof.Machine
end

