-- ==== Sys2Proof/Machine/Losses.lean ====
section
/-! DEFINITION. Junction estimates, temperature bands and the loss energy charged to positions for each period (R362, R363, R366 to R368). -/

namespace Sys2Proof.Machine

/-- Mean of a list of numbers, 0 for none. -/
def meanNat (l : List Nat) : Nat := if l.isEmpty then 0 else l.foldl (· + ·) 0 / l.length

/-- Leg of a slot within its bridge. -/
def phaseOfSlot (k : Fin 6) : Fin 3 := ⟨k.val / 2, by omega⟩

/-- A position slot is a high side. -/
def slotHigh (k : Fin 6) : Bool := k.val % 2 == 0

/-- Slot of a phase's high or low side. -/
def slotOf (k : Fin 3) (high : Bool) : Fin 6 := ⟨if high then 2 * k.val else 2 * k.val + 1, by have := k.2; split <;> omega⟩

/-- HK(n − 1) of leg k of a bridge is invalid and gives no temperature: its substitute is the baseplate node, or none (R139, R366; log 166). -/
def State.ntcBad (s : State) (b : BridgeId) (k : Fin 3) : Bool :=
  let n : Fin 84 := ⟨0x20 + 3 * b.val + k.val, by omega⟩
  !s.sense.inputs[n].valid && decide (2 ≤ s.act (0x4100 + n.val) 6)

/-- Margin that the estimates of a leg carry, 0.1 K (R366). -/
def State.ntcMargin (s : State) (b : BridgeId) (k : Fin 3) : Rat := if s.ntcBad b k then s.actR 0x9110 5 else s.br[b].th.ntcExcess[k]

/-- Junction estimate of a position with its margin, 0.1 °C (R366). -/
def State.junction (s : State) (b : BridgeId) (k : Fin 6) : Rat := s.br[b].th.nodes[k][0] + s.ntcMargin b (phaseOfSlot k)

/-- T_jmax of a bridge (R368). -/
def State.hottest (s : State) (b : BridgeId) : Rat := (allSlots.map (s.junction b)).foldl max (s.junction b 0)

/-- Update the thermal model of bridge b. -/
def modTh (b : BridgeId) (f : Thermal → Thermal) : State → State := modBr b fun x => { x with th := f x.th }

/-- Update the die's record. -/
def modDie (f : Die → Die) (s : State) : State := { s with die := f s.die }

/-- Number of band limits at or below a temperature raised by `h` (R368). -/
def State.bandCount (s : State) (t h : Rat) : Nat := ((List.range 3).filter fun k => decide (s.actR 0x9120 (k + 1) - h ≤ t)).length

/-- The band of R368 for a temperature, from the present one. -/
def State.bandFor (s : State) (old : Nat) (t : Rat) : Nat :=
  let up := s.bandCount t 0
  let down := s.bandCount t (s.actR 0x9120 4)
  if old < up then up else if down < old then down else old

/-- After a start of the control pairs the nodes of a bridge read 0x9110.06, and its band is the one of R368 for that value (R367). -/
def seedBridge (b : BridgeId) (s : State) : State :=
  let t := s.actR 0x9110 6
  modTh b (fun x => { x with nodes := .replicate 6 (.replicate 4 t), base := .replicate 3 t, band := ⟨s.bandFor 0 t % 4, by omega⟩ }) s

/-- R_on of a bridge at a temperature, Ω (R363). -/
def State.onResistance (s : State) (b : BridgeId) (t : Rat) : Rat :=
  let g := (s.groupFor b).val
  let r := s.actR 0x9100 (g + 1)
  (r + (s.actR 0x9100 (g + 5) - r) * (t - 250) / 1250) / 1000000

/-- c_on or c_off of a position (R363): reference dv/dt over its average in the present band, 0.5 to 2, 1 without an average. -/
def State.edgeFactor (s : State) (b : BridgeId) (k : Fin 6) (on : Bool) : Rat :=
  let p := s.br[b].pos[k]
  let band := s.br[b].th.applied
  let m := meanNat (if on then p.onDvdt[band] else p.offDvdt[band])
  if m = 0 then 1 else max (1 / 2) (min 2 (s.actR 0x9101 (0x12 + (s.groupFor b).val) / (m : Rat)))

/-- Energy of one hard edge of a position at a current, J (R363). -/
def State.edgeEnergy (s : State) (b : BridgeId) (k : Fin 6) (on : Bool) (i : Rat) : Rat :=
  let g := (s.groupFor b).val
  let e := s.actR 0x9101 (g + (if on then 1 else 5)) / 1000000
  let t := 1 + s.actR 0x9101 0x11 / 1000000 * (s.junction b k - 250) / 10
  e * (abs i / max 1 (s.actR 0x9101 (g + 9))) * (s.br[b].ctl.stepUdc / max 1 (s.actR 0x9101 (g + 0x0D))) * t * s.edgeFactor b k on

/-- Channel conduction of a position at a current over a time in ticks, J (R363). -/
def State.channelEnergy (s : State) (b : BridgeId) (k : Fin 6) (i : Rat) (ticks : Nat) : Rat :=
  i * i * s.onResistance b (s.junction b k) * (ticks : Rat) / 400000000

/-- A stretch of constant reference: level, start, end, and whether an edge began it. -/
structure Stretch where
  high : Bool
  start : Nat
  stop : Nat
  edge : Bool
  deriving DecidableEq, Repr

/-- The levels of a leg between two reloads, from the reload's tick (R47, R48). `half` is a reload at both extremes. -/
def levels (saw half atPeak : Bool) (top up dn : Nat) : List (Bool × Nat × Nat) :=
  let l : List (Bool × Nat × Nat) :=
    if saw then [(true, 0, min up top), (false, up, top)]
    else if half then (if atPeak then [(true, 0, dn), (false, dn, top)] else [(false, 0, top - up), (true, top - up, top)])
    else if atPeak then [(true, 0, dn), (false, dn, 2 * top - up), (true, 2 * top - up, 2 * top)]
    else [(false, 0, top - up), (true, top - up, top + dn), (false, top + dn, 2 * top)]
  l.filter fun x => decide (x.2.1 < x.2.2)

/-- The stretches of levels after the level `was` (none: no side was on): an edge begins each whose level differs from the one before it. -/
def edgesOf : Option Bool → List (Bool × Nat × Nat) → List Stretch
  | _, [] => []
  | was, x :: r => ⟨x.1, x.2.1, x.2.2, decide (was ≠ some x.1)⟩ :: edgesOf (some x.1) r

/-- The reference of a leg just before a reload that ends its period (R47, R48). -/
def Leg.endLevel (l : Leg) (saw atPeak : Bool) (top : Nat) : Bool :=
  if saw then Nat.ble top l.up else if atPeak then Nat.blt 0 l.up else Nat.ble top l.dn

/-- Gate time of a stretch up to a cut (R64): the dead time at its start is taken off. -/
def Stretch.gate (x : Stretch) (dt cut : Nat) : Nat := min x.stop cut - (x.start + if x.edge then dt else 0)

/-- Dead time of a stretch up to a cut. -/
def Stretch.dead (x : Stretch) (dt cut : Nat) : Nat := if x.edge then min (min x.stop (x.start + dt)) cut - x.start else 0

/-- A side turns on in a stretch before the cut. -/
def Stretch.turnsOn (x : Stretch) (dt cut : Nat) : Bool := x.edge && Nat.blt (x.start + dt) x.stop && Nat.blt (x.start + dt) cut

/-- A side that was on in a stretch turns off at its end, before the cut; `last` is the last stretch of the period. -/
def Stretch.turnsOff (x : Stretch) (dt cut : Nat) (last : Bool) : Bool := !last && Nat.blt x.stop cut && Nat.blt 0 (x.gate dt x.stop)

/-- Energy that a leg's stretches charge to one side up to a cut, J (R363); `was` is the side that was on before them. -/
def State.sideEnergy (s : State) (b : BridgeId) (k : Fin 3) (high : Bool) (i : Rat) (dt cut : Nat) (was : Option Bool) (l : List Stretch) : Rat :=
  let p := slotOf k high
  let g := (s.groupFor b).val
  let n := l.length
  let mine := l.zipIdx.filter fun c => c.1.high == high
  let gate : Nat := (mine.map fun c => c.1.gate dt cut).foldl (· + ·) 0
  let dead : Nat := (l.map fun x => x.dead dt cut).foldl (· + ·) 0
  let hard := if high then decide (0 < i) else decide (i < 0)
  let ons := (mine.filter fun c => c.1.turnsOn dt cut).length
  let offs := (mine.filter fun c => c.1.turnsOff dt cut (c.2 + 1 == n)).length + b2n (was == some high && l.head?.any fun x => x.high != high)
  let free := if high then decide (i < 0) else decide (0 < i)
  s.channelEnergy b p i gate +
    (if free then s.actR 0x9100 (g + 9) / 1000 * abs i * (dead : Rat) / 400000000 else 0) +
    (if hard then (ons : Rat) * s.edgeEnergy b p true i + (offs : Rat) * s.edgeEnergy b p false i else 0)

/-- The levels of a bridge's leg with edges `up` and `dn` after a reload at a peak or a valley, under a TOP. -/
def State.legLevels (s : State) (b : BridgeId) (atPeak : Bool) (top up dn : Nat) : List (Bool × Nat × Nat) :=
  let sub := (s.groupFor b).val + 1
  levels (s.actN 0x2011 sub == 1) (s.actN 0x2012 sub == 2) atPeak top up dn

/-- The last reload of a bridge stood at a peak. -/
def State.reloadWasPeak (s : State) (b : BridgeId) : Bool :=
  let x := s.br[b]
  match s.actN 0x2012 ((s.groupFor b).val + 1) with
  | 0 => false
  | 1 => true
  | _ => decide (x.car.valley < x.car.reloadAt ∧ 2 * (x.car.reloadAt - x.car.valley) < 3 * x.car.top)

/-- The stretches of leg k since the last reload of bridge b. -/
def State.legStretches (s : State) (b : BridgeId) (k : Fin 3) : List Stretch :=
  let l := s.br[b].legs[k]
  edgesOf l.before (s.legLevels b (s.reloadWasPeak b) s.br[b].car.top l.up l.dn)

/-- Ticks between two reloads of a bridge. -/
def State.reloadTicks (s : State) (b : BridgeId) : Nat :=
  let sub := (s.groupFor b).val + 1
  if s.actN 0x2011 sub = 1 ∨ s.actN 0x2012 sub = 2 then s.br[b].car.top else 2 * s.br[b].car.top

/-- Add energies to a bridge's positions. -/
def addEnergy (b : BridgeId) (f : Fin 6 → Rat) : State → State :=
  modBr b fun x => { x with th := { x.th with energy := Vector.ofFn fun k => x.th.energy[k] + f k } }

/-- Energy of a slot over stretches of its leg up to a cut, at the currents of the last step. -/
def State.slotEnergyOn (s : State) (b : BridgeId) (cut : Nat) (was : Option Bool) (l : List Stretch) (k : Fin 6) : Rat :=
  s.sideEnergy b (phaseOfSlot k) (slotHigh k) s.br[b].ctl.amps[phaseOfSlot k] s.br[b].th.dead[s.br[b].th.applied] cut was l

/-- Energy of a slot from the last reload up to a cut. -/
def State.slotEnergy (s : State) (b : BridgeId) (cut : Nat) (k : Fin 6) : Rat :=
  s.slotEnergyOn b cut s.br[b].legs[phaseOfSlot k].before (s.legStretches b (phaseOfSlot k)) k

/-- The period that a repeated set drives is charged at its reload (R25, R54, R362). -/
def chargeDriven (b : BridgeId) (s : State) : State := addEnergy b (s.slotEnergy b (s.reloadTicks b)) s

/-- The energy of a committed set that will drive no period is taken back (R363; log 77). -/
def uncharge (b : BridgeId) : State → State := modBr b fun x =>
  { x with th := { x.th with energy := Vector.ofFn fun k => x.th.energy[k] - x.th.pending[k], pending := .replicate 6 0 } }

/-- A committed set is charged for the period that it will drive (R362): `e` its energies. -/
def chargeSet (b : BridgeId) (e : Vector Rat 6) (s : State) : State :=
  modBr b (fun x => { x with th := { x.th with pending := e } }) (addEnergy b (fun k => e[k]) s)

/-- The committed set begins to drive: its energy stands (R362). -/
def drivePending (b : BridgeId) : State → State := modBr b fun x => { x with th := { x.th with pending := .replicate 6 0 } }

/-- A slot shorts under an ASC pattern. -/
def shorts (p : Fin 4) (k : Fin 6) : Bool := (p.val == 2 && !slotHigh k) || (p.val == 3 && slotHigh k)

/-- Shorting positions are charged conduction at the measured currents over a time in ticks (R363). -/
def chargeShort (b : BridgeId) (p : Fin 4) (ticks : Nat) (s : State) : State :=
  addEnergy b (fun k => if shorts p k then s.channelEnergy b k s.br[b].meas.pi[phaseOfSlot k] ticks else 0) s

/-- A forcing with pattern `p` begins within a charged period (R363): what the rest of the period, and a set that it keeps from driving, had been
charged is removed, each position that is turned off while on is charged a hard turn-off, and the rest is charged under the forcing. -/
def chargeForced (p : Fin 4) (b : BridgeId) (st : State) : State :=
  let s := uncharge b st
  let n := s.reloadTicks b
  let cut := min n (s.now - s.br[b].car.reloadAt)
  let s1 := addEnergy b (fun k => s.slotEnergy b cut k - s.slotEnergy b n k +
    (if (s.br[b].pos[k]).on && !shorts p k then s.edgeEnergy b k false s.br[b].ctl.amps[phaseOfSlot k] else 0)) s
  chargeShort b p (n - cut) s1

/-- The edges of a Class B cut on a leg are charged as hard edges (R363; log 198): the cut side turns off, the other turns on. Of the edge that they stand
for, what the period had been charged as hard counts already. -/
def chargeCut (b : BridgeId) (k : Fin 3) (upper : Bool) (s : State) : State :=
  let off := s.now - s.br[b].car.reloadAt
  let later := (s.legStretches b k).any fun x => x.edge && decide (off < x.start) && x.high != upper
  let i := s.br[b].ctl.amps[k]
  let hard (high : Bool) : Bool := later && (if high then decide (0 < i) else decide (i < 0))
  addEnergy b (fun n =>
    if phaseOfSlot n ≠ k then 0
    else if slotHigh n = upper then (if hard upper then 0 else s.edgeEnergy b n false i)
    else if hard (!upper) then 0 else s.edgeEnergy b n true i) s

end Sys2Proof.Machine
end

