-- ==== Sys2Proof/Machine/Sources.lean ====
section
/-! DEFINITION. Position sources: assignment, positions and angles of a source, extrapolation, the count E with its soft limits, the
change of the source in use; step periods and reaction bounds (R21, R41, R268, R270, R147, R148, R153, R156, R157, R160). -/

namespace Sys2Proof.Machine

/-- Update interface i. -/
def modIface (i : IfId) (f : Iface → Iface) (s : State) : State :=
  { s with sense := { s.sense with iface := s.sense.iface.set i (f s.sense.iface[i]) } }

/-- Index of the objects of an interface (R167). -/
def ifaceObj (i : IfId) : Nat := 0x5010 + i.val

/-- Interface kinds by their index (R146). -/
def isEncoder (i : IfId) : Bool := i.val == 2 || i.val == 3
def isHall (i : IfId) : Bool := i.val == 4 || i.val == 5

/-- Sensor pole pairs p_s (R148). -/
def State.sensorPoles (s : State) (i : IfId) : Nat :=
  max 1 (if i.val < 2 then s.actN (ifaceObj i) 3 else if isHall i then s.actN (ifaceObj i) 1 else 1)

/-- Direction of a source (R148). -/
def State.direction (s : State) (i : IfId) : Int := if s.act (ifaceObj i) 0x0A = 1 then -1 else 1

/-- Machine pole pairs of a group (R148). -/
def State.machinePoles (s : State) (g : GroupId) : Nat := s.actN 0x5002 (g.val + 1)

/-- The group an interface is assigned to (R147). -/
def State.ifaceGroup (s : State) (i : IfId) : Option GroupId :=
  allGr.find? fun g => s.actN 0x5000 (g.val + 1) == i.val + 1 || s.actN 0x5000 (g.val + 5) == i.val + 1

/-- An interface as its code. -/
def ifaceCode (i : IfId) : Nat := i.val + 1

/-- The interface of a code. -/
def ifaceOfCode (n : Nat) : Option IfId := if h : 1 ≤ n ∧ n ≤ 8 then some ⟨n - 1, by omega⟩ else none

/-- The interface of a code, where it is valid. -/
def State.validSource (s : State) (n : Nat) : Option IfId := (ifaceOfCode n).filter fun i => s.sense.iface[i].valid

/-- Sensor periods of a source in 1/65,536, whole ones included, in the machine's direction (R148). -/
def State.sensorCount (s : State) (i : IfId) : Int := s.direction i * (s.sense.iface[i].theta : Int) + 65536 * s.sense.iface[i].turns

/-- Position of a source in 65,536 counts per turn of the machine, whole turns included (R148). -/
def State.sourceCount (s : State) (i : IfId) : Int := s.sensorCount i / (s.sensorPoles i : Int)

/-! Extrapolation (R153, R160) -/

/-- Nearest whole number. -/
def nearest (v : Rat) : Int := (v + 1 / 2).floor

/-- Counts of 1/65,536 of a turn over an interval at a speed, the turns multiplied by `poles`. -/
def countsOver (rpm : Rat) (poles : Nat) (from0 to0 : Nat) : Int :=
  nearest (rpm * (poles : Rat) * 65536 * (((to0 : Int) - (from0 : Int) : Int) : Rat) / 60 / 400000000)

/-- Tick to which a source's present value belongs (R160): an encoder's count to tick t; a resolver's angle to its last excitation peak, from which
the tracking loop goes on at its speed (log 181). -/
def State.latchTick (s : State) (i : IfId) (t : Nat) : Nat :=
  if isEncoder i then t else if i.val < 2 then s.sense.iface[i].lastEdge else if isHall i then s.sense.iface[i].lastEdge else s.sense.iface[i].frameAt

/-- Place of a code in the forward sequence 001, 011, 010, 110, 100, 101; 6 for an impossible code (R153). -/
def hallPlace (code : Nat) : Nat := if code = 1 then 0 else if code = 3 then 1 else if code = 2 then 2 else if code = 6 then 3
  else if code = 4 then 4 else if code = 5 then 5 else 6

/-- Sensor angle at the forward entry of a place (R153). -/
def hallEntry (place : Nat) : Int := (place * 65536 / 6 : Nat)

/-- One Hall sector. -/
def hallSector : Nat := 65536 / 6

/-- One electrical period of the sensor at the last sector time. -/
def Iface.hallPeriod (x : Iface) : Nat := 6 * (x.lastEdge - x.prevEdge)

/-- Movement of a Hall angle since its last edge: from the Hall speed, held at the end of the present sector (R153). -/
def State.hallAdvance (s : State) (i : IfId) (t : Nat) : Int :=
  let x := s.sense.iface[i]
  let into := ofSigned 16 ((x.theta : Int) - hallEntry (hallPlace x.code))
  let moved := (countsOver x.speed (s.sensorPoles i) x.lastEdge t).natAbs
  if hallPlace x.code = 6 then 0 else if x.hallDir < 0 then -((min moved into : Nat) : Int) else ((min moved (hallSector - into) : Nat) : Int)

/-- Sensor angle of a source at tick t as it reads (R153). -/
def State.sensorAngle (s : State) (i : IfId) (t : Nat) : Nat :=
  if isHall i then ofSigned 16 ((s.sense.iface[i].theta : Int) + s.hallAdvance i t) else s.sense.iface[i].theta

/-- Counts of the machine that a source moves from its latch to tick t at its own speed (R160). -/
def State.sourceAdvance (s : State) (i : IfId) (t : Nat) : Int :=
  if isHall i then s.direction i * s.hallAdvance i t / (s.sensorPoles i : Int) else countsOver s.sense.iface[i].speed 1 (s.latchTick i t) t

/-- Electrical angle of a source at tick t, 1/65,536 turn (R148, R160). -/
def State.opinionAngle (s : State) (i : IfId) (g : GroupId) (t : Nat) : Int :=
  let pm := s.machinePoles g
  let adv := if isHall i then (pm : Int) * (s.direction i * s.hallAdvance i t) / (s.sensorPoles i : Int)
    else countsOver s.sense.iface[i].speed pm (s.latchTick i t) t
  (pm : Int) * s.sensorCount i / (s.sensorPoles i : Int) + s.act (ifaceObj i) 9 + adv

/-! The count E (R156) -/

/-- E as 48 bits signed (R156). -/
def wrap48 (e : Int) : Int := toSigned 48 (ofSigned 48 e)

/-- The soft-limit flags follow E, with E-5010 and E-5011; an entry is counted (R156, R170). -/
def settleLimits (g : GroupId) (s : State) : State :=
  let on := s.act 0x5020 (g.val + 9) != 0
  let p := s.gr[g].pos
  let low := on && decide (p.count < s.act 0x5020 (g.val + 1))
  let high := on && decide (s.act 0x5020 (g.val + 5) < p.count)
  let was := p.atLow || p.atHigh
  let s := modGr g (fun x => { x with pos := { x.pos with atLow := low, atHigh := high } }) s
  if (low && !p.atLow) || (high && !p.atHigh) then bump (0xE051 + g.val) 3 (raiseG 0x5010 g [if high then 1 else 0, p.count] s)
  else if was && !low && !high then raiseG 0x5011 g [p.count] s else s

/-- E of a group takes a value. -/
def putCount (g : GroupId) (e : Int) (s : State) : State :=
  settleLimits g (modGr g (fun x => { x with pos := { x.pos with count := wrap48 e } }) s)

/-- E of a group moves with its source in use (R156). -/
def moveCount (g : GroupId) (d : Int) (s : State) : State := if d = 0 then s else putCount g (s.gr[g].pos.count + d) s

/-- Counts that E moves from the latch of the source in use to tick t. -/
def State.countAdvance (s : State) (g : GroupId) (t : Nat) : Int :=
  match ifaceOfCode s.gr[g].pos.src with
  | some i => s.sourceAdvance i t
  | none => countsOver s.gr[g].pos.speed 1 s.gr[g].pos.stampAt t

/-! The source in use (R157) -/

/-- The source in use gives the angle within a turn (R158, R242): a resolver with one pole pair, an encoder after its first Z, an SSP. -/
def State.turnReferenced (s : State) (g : GroupId) : Bool :=
  match s.validSource s.gr[g].pos.src with
  | none => false
  | some i => if i.val < 2 then s.sensorPoles i == 1 else if i.val < 4 then s.sense.iface[i].referenced else decide (6 ≤ i.val)

/-- Mean of the offsets between the two sources, to the nearest count. -/
def GroupPos.meanOffset (p : GroupPos) : Int := nearest ((p.offsets.foldl (· + ·) 0 : Int) / (max 1 p.offsets.length : Nat))

/-- The source in use of a group changes (R157): E takes the new source plus the mean offset, or keeps its whole turns; E-5031 carries the
old and the new source and the jump, both counts taken at one instant. -/
def switchSource (g : GroupId) (i : IfId) (s : State) : State :=
  let p := s.gr[g].pos
  let c := s.sourceCount i
  let e := if p.offsets.isEmpty then 65536 * (p.count / 65536) + c % 65536 else c + p.meanOffset
  let jump := e + s.sourceAdvance i s.now - (p.count + s.countAdvance g s.now)
  let s := modGr g (fun x => { x with pos := { x.pos with src := ifaceCode i, provisional := false, row := 0, rowRun := 0,
                                                          agreeRun := .replicate 2 0, offsets := [] } }) s
  putCount g e (bump (0xE051 + g.val) 2 (raiseG 0x5031 g [(p.src : Int), (ifaceCode i : Int), jump] s))

/-- The offsets taken so far no longer hold (R157): another pair of sources, or a count that was written or referenced anew. -/
def dropOffsets (g : GroupId) : State → State := modGr g fun x => { x with pos := { x.pos with offsets := [] } }

/-- New assignments of a group have become active (R147): its primary, else its plausibility source, where valid, is the source in use; with
neither the group has the observer alone. -/
def takeAssigned (old : Params) (g : GroupId) (s : State) : State :=
  let prim := s.actN 0x5000 (g.val + 1)
  let plaus := s.actN 0x5000 (g.val + 5)
  let src := s.gr[g].pos.src
  let same := decide (old.activeOf 0x5000 (g.val + 1) = s.act 0x5000 (g.val + 1))
  let s := onlyIf (!same || decide (old.activeOf 0x5000 (g.val + 5) ≠ s.act 0x5000 (g.val + 5))) (dropOffsets g) s
  if same && (src == 0 || src == prim || src == plaus) then s
  else match (s.validSource prim).orElse fun _ => s.validSource plaus with
    | some i => if src = ifaceCode i then s else switchSource g i s
    | none => modGr g (fun x => { x with pos := { x.pos with src := 0, provisional := false, row := 0, rowRun := 0 } }) s

/-! Step periods and reaction bounds (R21, R41, R268, R270) -/

/-- Carrier period of a bridge, ticks (R41). -/
def State.periodTicks (s : State) (b : BridgeId) : Nat :=
  if s.actN 0x2011 ((s.groupFor b).val + 1) = 1 then s.br[b].car.top else 2 * s.br[b].car.top

/-- Ticks between the steps of a bridge: one step per reload (R21). -/
def State.stepTicks (s : State) (b : BridgeId) : Nat :=
  if s.actN 0x2012 ((s.groupFor b).val + 1) = 2 then s.periodTicks b / 2 else s.periodTicks b

/-- A torque reaction bound above its target (R268, R270): 0x8071 of bridge b, µs. -/
def State.torqueBound (s : State) (b : BridgeId) : Nat :=
  (s.actN 0x8070 5 * s.br[b].ctl.decim * s.stepTicks b + ticksPerUs - 1) / ticksPerUs + 20

/-- 0x8071 of a group: confirm time, longest step and 20 µs (R270). -/
def State.speedBound (s : State) (g : GroupId) : Nat :=
  s.actN 0x8031 1 + ((s.bridgesOf g).foldl (fun m b => max m (s.stepTicks b)) 0 + ticksPerUs - 1) / ticksPerUs + 20

/-- The bounds are computed again; a changed one above its target raises E-8070 (R270), and E-8222 tells that the rating of its function is withdrawn or
returns (R330), with cause 3 and the bound's number (log 6). Targets: 1 ms and 2 ms (R268). -/
def refreshBounds (s : State) : State :=
  let upd (k : Fin 8) (v target : Nat) (idx : Nat) (a : State) : State :=
    let was := a.clove.bound[k]
    let had := a.clove.boundHigh[k]
    let high := decide (target < v)
    let a := { a with clove := { a.clove with bound := a.clove.bound.set k v, boundHigh := a.clove.boundHigh.set k high } }
    let a := onlyIf (high && v != was) (raise 0x8070 3 idx [(k.val + 1 : Int), (v : Int)]) a
    onlyIf (decide (high ≠ had)) (raise4 0x8222 [3, (b2n (!high) : Int), (k.val + 1 : Int)]) a
  let s := forBr allBr (fun b a => upd ⟨b.val, by omega⟩ (a.torqueBound b) 1000 (b.val + 1) a) s
  forGr allGr (fun g a => if (a.bridgesOf g).isEmpty then a
    else upd ⟨g.val + 4, by omega⟩ (a.speedBound g) 2000 (a.groupIndex g) a) s

end Sys2Proof.Machine
end

