-- ==== Sys2Proof/Machine/Safe.lean ====
section
/-! DEFINITION. Safe states: drive and bridge states, leaving RUN, entering STANDBY, the choice between pulse-off and ASC, Class A
forcings, aborted starts, the brake, SS1 sources, contactors and discharge (R17, R18, R68 to R70, R101, R105, R226, R239, R251, R255
to R261, R276, R290, R292, R312, R516). -/

namespace Sys2Proof.Machine

/-- Force a field of every position of bridge b. -/
def modAllPos (b : BridgeId) (f : Fin 6 → Position → Position) : State → State :=
  modBr b fun x => { x with pos := Vector.ofFn fun k => f k x.pos[k] }

/-- A cross-check hold of a position ends (R107): one of 2 ticks or more is counted. -/
def endHold (p : PosId) (s : State) : State :=
  match (s.pos p).hold with
  | none => s
  | some h => onlyIf (decide (h + 2 ≤ s.now)) (bump (0xE031 + (brOfPos p).val) 5) (modPos p (fun x => { x with hold := none }) s)

/-- A position is commanded off. -/
def turnOff (p : PosId) (s : State) : State := modPos p (fun x => { x with on := false }) (endHold p s)

/-- A reference edge is kept for the window sets (R123 to R125). -/
def noteEdge (l : LegId) (rising : Bool) (t : Nat) : State → State :=
  modBr (brOfLeg l) fun x => { x with meas := { x.meas with edges := (((phaseOfLeg l).val, t, rising) :: x.meas.edges).take 12 } }

/-- The crossings of a bridge end where its positions are no longer all off (R132). -/
def clearCrossings (x : Bemf) : Bemf := { x with crossings := [], last := .replicate 3 none }

/-- Legs of a bridge that go off with a position on make an edge for the window sets of the other bridges (R125). -/
def noteOff (b : BridgeId) (s : State) : State :=
  phases.foldl (fun a k => onlyIf ((a.br[b].pos[slotOf k true]).on || (a.br[b].pos[slotOf k false]).on) (noteEdge (legOf b k) false a.now) a) s

/-- Every position of a bridge is commanded off. -/
def turnAllOff (b : BridgeId) (s : State) : State := allSlots.foldl (fun a k => turnOff (posOf b k) a) (noteOff b s)

/-! Drive state -/

/-- Drive state codes, in the order of R17. -/
def driveCode : DriveState → Nat
  | .sleep => 0 | .standby => 1 | .precharge => 2 | .armed => 3 | .run => 4 | .stopping => 5 | .safeOff => 6 | .safeAsc => 7
  | .discharge => 8 | .lockout => 9

/-- An object whose pending value becomes active at a drive state transition (R15, R416). -/
def atStateChange (k : Nat) : Bool := effectOf k == 3 && !(Nat.ble 0xC120 (k / 256) && Nat.ble (k / 256) 0xC123)

/-- A bridge is in ASC. -/
def State.inAsc (s : State) (b : BridgeId) : Bool := decide (2 ≤ s.br[b].force.pattern.val)

/-- Any bridge in ASC. -/
def State.anyAsc (s : State) : Bool := allBr.any s.inAsc

/-- PD7 is on (R305, R347): never on the HV-present supply alone (R341, R352), and in the boot after a reset of Clove only for its start-up
test (R351). -/
def State.pd7Wanted (s : State) : Bool :=
  if s.cont.hvWake || (s.boot.booting && s.boot.cloveReset) then s.clove.testRun else
  (match s.drive.state with
    | .armed | .run | .stopping | .discharge => true
    | _ => false) ||
  (decide (s.drive.state ≠ .sleep) &&
    (s.pwr.hv || s.clove.testRun || s.anyAsc || (s.cont.active && s.cont.method == 1) ||
      allBr.any (fun b => s.br[b].pos.any fun p => p.soft.val != 0) || s.gr.any (fun g => g.atlas.ident.isSome)))

/-- The islands lose their supply: the gate charges count from their next power-up (R95). -/
def clearCharges (s : State) : State := { s with br := s.br.map fun x => { x with pos := x.pos.map fun p => { p with charge := [] } } }

/-- PD7 follows the drive (R347). -/
def settlePd7 (s : State) : State :=
  let on := s.pd7Wanted
  let s := onlyIf (s.pwr.domains[7] && !on) clearCharges s
  { s with pwr := { s.pwr with domains := s.pwr.domains.set 7 on } }

/-- Every bridge in STANDBY. -/
def State.allStandby (s : State) : Bool := allBr.all fun b => decide (s.br[b].state = .standby)

/-- Every bridge of a group in STANDBY. -/
def State.groupStandby (s : State) (g : GroupId) : Bool := (s.bridgesOf g).all fun b => decide (s.br[b].state = .standby)

/-- Group of a group window (R298, 0x8051). -/
def windowGroup (w : Fin 16) : Option GroupId :=
  if h : 2 ≤ w.val ∧ w.val ≤ 13 then some ⟨(w.val - 2) % 4, by omega⟩ else none

/-- Length in force of a window, ticks (R293). -/
def State.windowLength (s : State) (w : Fin 16) : Nat :=
  let sec :=
    if w.val < 2 then s.actN 0x8050 1 else if w.val < 6 then s.actN 0x4023 (w.val - 1) else if w.val < 10 then s.actN 0x5030 (w.val + 4)
    else if w.val < 14 then s.actN 0x8050 (w.val - 8) else s.actN 0x8050 (w.val - 8)
  sec * ticksPerS

/-- The remaining time is restored in full when every bridge of the scope is in STANDBY with the cause absent (R292). -/
def restoreWindows (s : State) : State :=
  { s with clove := { s.clove with windows := Vector.ofFn fun w =>
      let x := s.clove.windows[w]
      let still := match windowGroup w with
        | some g => s.groupStandby g
        | none => s.allStandby
      if still && !x.cause && x.opened.isNone then { x with remaining := s.windowLength w } else x } }

/-- The pattern of a winding discharge ends (R309): the positions of its bridges are off, and the drive-enable lines follow the forcings again
(R304). -/
def stopChop (s : State) : State :=
  if !s.cont.chop then s
  else
    let s := { s with cont := { s.cont with chop := false } }
    match s.cont.group with
    | none => s
    | some g => forBr ((s.bridgesOf g).filter fun b => !s.inAsc b) (fun b a =>
        allSlots.foldl (fun c k => modPos (posOf b k) (fun x => { x with driveEnable := c.br[b].force.pattern == 0 }) (turnOff (posOf b k) c)) a) s

/-- The drive state becomes `d`; at a transition the "at state change" values become active (R15, R17), with the CAN controllers that they
or the entry into STANDBY restart (R469, R473), the pattern of a winding discharge ends outside DISCHARGE (R309), new position sources are taken (R147), and PD7 follows (R347). The entry into ARMED begins
an offset measurement (R120). Restored windows and the reaction bounds follow the objects (R270, R292). -/
def setDrive (d : DriveState) (s : State) : State :=
  if s.drive.state = d then s
  else
    let first : Bool := decide (d = .standby) && s.boot.standbyAt.isNone
    let old := s.par
    let s := onlyIf (decide (s.drive.state = .discharge)) stopChop s
    let s := { s with drive := { s.drive with state := d, hkBase := s.drive.hkBase && decide (d ≠ .armed) },
                      sense := { s.sense with offsetRun := decide (d = .armed) }, par := s.par.activateWhere atStateChange,
                      boot := { s.boot with standbyAt := if first then some s.now else s.boot.standbyAt } }
    let s := restartCan old (decide (d = .standby)) 1 (restartCan old (decide (d = .standby)) 0 s)
    settlePd7 (refreshBounds (restoreWindows (forGr allGr (takeAssigned old) s)))

/-- A bridge in a start phase 1 to 6 (R236). -/
def State.starting (s : State) (b : BridgeId) : Bool := decide (1 ≤ s.br[b].start.phase ∧ s.br[b].start.phase ≤ 6)

/-- A bridge in a held catch ASC (R253). -/
def State.heldCatch (s : State) (b : BridgeId) : Bool := decide (s.br[b].start.phase = 7)

/-- A stop is in progress on bridge b: an SS1 of its group (R276), or its own BRIDGE.DISABLE (R250). -/
def State.stopsNow (s : State) (b : BridgeId) : Bool :=
  s.br[b].ctl.rampDown.isSome || (s.groupOf b).any fun g => s.gr[g].ss1.any fun x => decide (x.goal = 0)

/-- A commanded or SS1 stop is in progress on every bridge in RUN, and on one at least (R17; log 135). -/
def State.allStopping (s : State) : Bool := s.anyRun && allBr.all fun b => decide (s.br[b].state ≠ .run) || s.stopsNow b

/-- The drive state that follows from the bridges (R17, R18, R104, R276): RUN or STOPPING while a bridge runs, else ARMED; in a
level 4 safe state SAFE-ASC while a bridge is in ASC, else SAFE-OFF; DISCHARGE shows only while no bridge is in ASC (R259). -/
def settleDrive (s : State) : State :=
  match s.drive.state with
  | .armed | .run | .stopping => setDrive (if s.allStopping then .stopping else if s.anyRun then .run else .armed) s
  | .safeOff | .safeAsc => setDrive (if s.anyAsc then .safeAsc else .safeOff) s
  | .discharge => onlyIf s.anyAsc (setDrive .safeAsc) s
  | _ => s

/-! Start commands -/

/-- Status and result of a start command whose bridges all have their outcome (R235, R424). -/
def startStatus (outs : List Nat) : Nat := if outs.contains 7 then stHardware else if outs.all (· == 0) then stOk else stAborted

/-- The result word of a start command: the cause of bridge b in [4b + 3:4b] (R424). -/
def startWord (outs : List Nat) : Nat :=
  (outs.zipIdx.map fun c => c.1 % 16 * 16 ^ (c.2 + 1)).foldl (· + ·) 0

/-- A bridge of a start command has its outcome (0 in RUN, else the cause of R265); a command whose bridges all have theirs
completes (R235). -/
def startOutcome (b : BridgeId) (cause : Nat) (s : State) : State :=
  let step (c : StartCmd) : StartCmd :=
    if c.bridges[b] && c.outcome[b].isNone then { c with outcome := c.outcome.set b (some cause) } else c
  let starts := s.drive.starts.map step
  let done (c : StartCmd) : Bool := allBr.all fun x => !c.bridges[x] || c.outcome[x].isSome
  let s := { s with drive := { s.drive with starts := starts.filter fun c => !done c } }
  (starts.filter done).foldl (fun a c =>
    let outs := allBr.map fun x => c.outcome[x].getD 0
    complete c.ref (startStatus outs) [BitVec.ofNat 64 (startWord outs)] a) s

/-! Brake (R289, R290) -/

/-- The group of the brake (0x8040.01). -/
def State.brakeGroup (s : State) : Option GroupId :=
  let n := s.actN 0x8040 1
  if h : 1 ≤ n ∧ n ≤ 4 then some ⟨n - 1, by omega⟩ else none

/-- BRK is de-energised: the brake is applied (R289, R290). -/
def applyBrake (s : State) : State :=
  match s.brakeGroup with
  | none => s
  | some g =>
    if s.clove.brakeOn then
      bump (0xE081 + g.val) 0x0B
        (raiseG 0x8040 g [0] { s with clove := { s.clove with brakeOn := false, brakeAt := s.now } })
    else s

/-- BRK is energised: the brake is released (R290); a failed switch test blocks it until FAULT.CLEAR (R289). -/
def releaseBrake (s : State) : State :=
  match s.brakeGroup with
  | none => s
  | some g =>
    if s.clove.brakeOn || s.clove.brakeHigh || s.clove.brakeLow then s
    else raiseG 0x8040 g [1] { s with clove := { s.clove with brakeOn := true, brakeAt := s.now } }

/-- Apply the brake where group g is the brake's group. -/
def applyBrakeOf (g : GroupId) (s : State) : State := onlyIf (decide (s.brakeGroup = some g)) applyBrake s

/-! Sumac windows (R292, R293): timing only; opening and expiry stand in Sumac.lean. -/

/-- Update window w. -/
def modWin (w : Fin 16) (f : Window → Window) (s : State) : State :=
  { s with clove := { s.clove with windows := s.clove.windows.set w (f s.clove.windows[w]) } }

/-- Remaining time of a window now, ticks. -/
def State.windowLeft (s : State) (w : Fin 16) : Nat :=
  let x := s.clove.windows[w]
  match x.opened with
  | some t => x.remaining - (s.now - t)
  | none => x.remaining

/-- Raise a window's event at its level: 3 for a group's window, 4 otherwise (R302). -/
def raiseWindow (code : Nat) (w : Fin 16) (payload : List Int) (s : State) : State :=
  match windowGroup w with
  | some g => raiseG code g payload s
  | none => raise4 code payload s

/-- Close a window: its timer stops (R292). -/
def closeWindow (w : Fin 16) (s : State) : State :=
  if s.clove.windows[w].opened.isSome then
    let left := s.windowLeft w
    raiseWindow 0x8061 w [(w.val + 1 : Int), (left / ticksPerMs : Nat)] (modWin w (fun x => { x with opened := none, remaining := left }) s)
  else s

/-- The cause of a window ends and the window closes; with its scope in STANDBY its time is restored (R292). -/
def endWindow (w : Fin 16) (s : State) : State := restoreWindows (closeWindow w (modWin w (fun x => { x with cause := false }) s))

/-- Window of the bridge loss of group g. -/
def lossWindow (g : GroupId) : Fin 16 := ⟨10 + g.val, by omega⟩
/-- Shunt-only window of group g. -/
def shuntWindow (g : GroupId) : Fin 16 := ⟨2 + g.val, by omega⟩
/-- Sensorless window of group g. -/
def sensorlessWindow (g : GroupId) : Fin 16 := ⟨6 + g.val, by omega⟩

/-! Group condition (R218) -/

/-- The condition of a group (R218): PARTIAL while some and not all of its bridges are in RUN; NORMAL again with E-700D; STOPPED until
every bridge is in STANDBY or in a held catch ASC. -/
def settleGroup (g : GroupId) (s : State) : State :=
  let bs := s.bridgesOf g
  let run := (s.running g).length
  let quiet := bs.all fun b => decide (s.br[b].state = .standby) || s.heldCatch b
  let part := decide (0 < run) && decide (run < bs.length)
  let leave : Bool := match s.gr[g].cond with
    | .normal => false
    | .reduced => !part
    | .stopped => quiet
  let s := onlyIf leave (fun a => closeWindow (lossWindow g)
    (raiseG 0x700D g [] (modGr g (fun x => { x with cond := .normal, departed := false }) a))) s
  let s := onlyIf (part && decide (s.gr[g].cond = .normal)) (modGr g fun x => { x with cond := .reduced }) s
  let bad := bs.any fun b => decide (s.br[b].state = .safeOff ∨ s.br[b].state = .safeAsc ∨ s.br[b].state = .lockout)
  if bad then s else restoreWindows (modWin (lossWindow g) (fun x => { x with cause := false }) s)

/-! Identification and SS1 of a group that stops -/

/-- 0x6043 of a group (R194, R205). -/
def Atlas.code (a : Atlas) : Nat := if a.suspect then 4 else a.state

/-- Atlas word range of group g emptied: 2^25 words from its base (R173, R176). -/
def clearAtlasCells (g : GroupId) (s : State) : State :=
  { s with mem := { s.mem with dram := eraseRange (8 * cellAddr g 0) atlasBytes s.mem.dram } }

/-- The atlas state changes, with E-6003 (R207). -/
def setAtlasState (g : GroupId) (c : Nat) (s : State) : State :=
  if s.gr[g].atlas.code = c then s
  else
    let s := modGr g (fun x => { x with atlas := if c = 4 then { x.atlas with suspect := true }
                                                else { x.atlas with state := c, suspect := false } }) s
    raiseG 0x6003 g [(c : Int)] s

/-- 0x6042 with a failing step (R205). -/
def withFailedStep (r step : Nat) : Nat := r % 256 + step * 256

/-- An identification in progress is aborted: the atlas is emptied, and ATLAS.IDENTIFY completes with ABORTED (R187). Bridges still in its listen
phase leave it. -/
def abortIdent (g : GroupId) (s : State) : State :=
  let a := s.gr[g].atlas
  match a.ident with
  | none => s
  | some i =>
    let s := onlyIf (i.1 == 0) (forBr (s.bridgesOf g) (fun b => modBr b fun x =>
      if x.start.phase = 1 then { x with start := .reset } else x)) s
    let s := modGr g (fun x => { x with atlas := { x.atlas with ident := none, identRef := none } }) s
    let s := setAtlasState g 0 (clearAtlasCells g s)
    match a.identRef with
    | some r => complete r stAborted [BitVec.ofNat 64 a.result] s
    | none => s

/-- An SS1.REQUEST whose named groups all have their entry completes with n0 of each (R424). -/
def settleSs1Reqs (s : State) : State :=
  let done (q : Ss1Req) : Bool := allGr.all fun g => !q.named[g] || q.n0[g].isSome
  let ready := s.drive.ss1Reqs.filter done
  let s := { s with drive := { s.drive with ss1Reqs := s.drive.ss1Reqs.filter fun q => !done q } }
  ready.foldl (fun a q =>
    complete q.ref stOk ((allGr.filter fun g => q.named[g]).map fun g =>
      BitVec.ofNat 64 (g.val + 1 + 2 ^ 32 * ofSigned 32 (q.n0[g].getD 0))) a) s

/-- n0 of group g is known to the waiting SS1.REQUESTs. -/
def noteSs1 (g : GroupId) (n0 : Int) (s : State) : State :=
  settleSs1Reqs { s with drive := { s.drive with ss1Reqs := s.drive.ss1Reqs.map fun q =>
    if q.named[g] && q.n0[g].isNone then { q with n0 := q.n0.set g (some n0) } else q } }

/-- Speed of a group in 0.001 r/min, magnitude. -/
def State.absSpeedMilli (s : State) (g : GroupId) : Int := ((1000 * s.gr[g].pos.speed).floor).natAbs

/-- A waiting selection of a group takes effect, with E-8020; its SAFETY.SELECT completes with 0x8036 (R272). -/
def takeSelection (g : GroupId) (s : State) : State :=
  match s.gr[g].selectNext with
  | none => s
  | some v =>
    let refs := s.gr[g].selectRefs
    let s := modGr g (fun x => { x with select := v, selectNext := none, selectRefs := [],
                                        sdiAcc := 0, slsOver := none, slpOver := none }) s
    refs.foldl (fun a r => complete r stOk [BitVec.ofNat 64 v] a) (raiseG 0x8020 g [(v : Int)] s)

/-- The TORQUE.SETs of a group that wait for a step or its commit complete with REJECTED-STATE (R229, R277). -/
def refuseTorque (x : Group) (s : State) : State :=
  (x.setLatched.toList ++ x.setRef.toList).foldl (fun a r => complete r stState [refusalWord 0 0 0] a) s

/-- The step that latched a TORQUE.SET is lost (R27, R229): the command waits for the next step, or a newer one supersedes it (R442). -/
def unlatchTorque (g : GroupId) (s : State) : State :=
  match s.gr[g].setLatched with
  | none => s
  | some r =>
    if s.gr[g].setRef.isSome then complete r stAborted [] (modGr g (fun x => { x with setLatched := none }) s)
    else modGr g (fun x => { x with setRef := some r, setLatched := none }) s

/-- Actions when no bridge of group g is left in RUN (R229, R276, R290, R296): SS1 ends, a source that waited acts on a group that
does not run, a TORQUE.SET not latched is refused, the brake is applied, an identification ends. -/
def groupOut (g : GroupId) (s : State) : State :=
  if (s.bridgesOf g).isEmpty || !(s.running g).isEmpty then s
  else
    let x := s.gr[g]
    let s := x.ss1Due.foldl (fun a src => raiseG 0x8010 g [(src : Int), 1] a) s
    let s := modGr g (fun y => { y with ss1 := none, ss1Due := [], slsFrom := none, slsOver := none, slpOver := none, sdiAcc := 0,
                                        setRef := none, setLatched := none, rampHold := false, lastRun := 0, slew := 0, slewNew := none, tAch := 0,
                                        shortOff := none }) s
    let s := takeSelection g s
    let s := onlyIf (!x.ss1Due.isEmpty) (noteSs1 g (s.absSpeedMilli g)) s
    let s := refuseTorque x s
    abortIdent g (applyBrakeOf g s)

/-! Leaving RUN and entering STANDBY -/

/-- Position p latches for the reason of an event that names it (R82, R87, R103). -/
def latchFor (code : Nat) (p : PosId) (s : State) : State :=
  if (s.pos p).latched then s
  else bump (0xE031 + (brOfPos p).val) 4
    (modPos p (fun x => { x with latched := true, latchCode := code, retry := none, retryDue := false }) (turnOff p s))

/-- Position p latches, with E-3004 (R100, R101). -/
def latchPos (p : PosId) (s : State) : State :=
  if (s.pos p).latched then s else raise 0x3004 1 (p.val + 1) [] (latchFor 0x3004 p s)

/-- A split that the step of bridge b formed and has not committed is lost with that step (R230): the next bridge forms it again. -/
def loseSplit (b : BridgeId) (s : State) : State :=
  match s.groupOf b with
  | none => s
  | some g =>
    match s.gr[g].slewNew with
    | some (c, _) => if c = b then unlatchTorque g (modGr g (fun x => { x with slewNew := none }) s) else s
    | none => s

/-- A bridge leaves RUN: pending retries are cancelled and latched (R101), the accumulators and ledgers are cleared (R60, R128), streams it
triggers close their packet (R412). The step in progress runs to its commit, which no output follows (R40). -/
def leaveRun (b : BridgeId) (st : State) : State :=
  let s := loseSplit b st
  let s := allSlots.foldl (fun a k => if (a.br[b].pos[k]).retry.isSome then latchPos (posOf b k) a else a) s
  let s := modBr b (fun x => { x with
    legs := x.legs.map fun l => { l with acc := 0, ledger := 0, ledgerLeft := 0, ledgerAge := 0, insU := 0, insD := 0, clamp := 0 },
    meas := { x.meas with missing := 0 },
    ctl := { x.ctl with opened := false, lookup := false, lost := false, fbw := 0, rampDown := none, joinAt := none, arrival := 0, shortSide := 0,
                        shortFrac := 0, shortSum := 0, shortCount := 0, monFails := 0, monStale := 0,
                        shortNow := false, iqFit := none } }) s
  streamBridgeLost b s

/-- Self-tests of kinds 0x02, 0x09 and 0x0A of a bridge are due at its entry into STANDBY (R484). -/
def dueStandbyTests (b : BridgeId) (s : State) : State :=
  let mark (k : Fin 12) (is : List Nat) (u : TestUnit) : TestUnit :=
    is.foldl (fun v n => if h : n < 24 then
      { v with inst := v.inst.set k (v.inst[k].set n { v.inst[k][n] with due := true }) } else v) u
  let legs := phases.map fun k => (legOf b k).val
  let poss := allSlots.map fun k => (posOf b k).val
  { s with test := mark 1 legs (mark 8 poss (mark 9 legs s.test)) }

/-- Transfer kind codes of 0x1101.04 (R443). -/
def TransferKind.code : TransferKind → Nat
  | .atlas _ => 1 | .firmware => 2 | .parameters => 3

/-- A transfer targets the atlas of group g. -/
def State.uploading (s : State) (g : GroupId) : Bool := s.transfer.any fun t => decide (t.kind = .atlas g)

/-- A checkpoint of group g begins: the whole DRAM atlas is written to the slot not named (R192), whose block CRCs fail until it ends (R513 K1). -/
def startCheckpoint (g : GroupId) (s : State) : State :=
  let s := { s with mem := { s.mem with blockCrc := s.mem.blockCrc.set (crcIndex g (s.unnamedSlot g)) [] } }
  modGr g (fun x => { x with atlas := { x.atlas with copying := true, learned := x.atlas.accepted, accepted := false } }) s

/-- A group enters STANDBY with all its bridges: a selection that waits takes effect, and then the selection returns to 0x8035 (R272), a valid primary returns (R166), a suspect
mark ends (R194), a checkpoint starts where 0x6050.09 asks for it (R192, R436). -/
def groupStandbyEntry (g : GroupId) (st : State) : State :=
  if (st.bridgesOf g).isEmpty || !st.groupStandby g then st
  else
    let s := takeSelection g st
    let x := s.gr[g]
    let sel := s.actN 0x8035 (g.val + 1)
    let prim := s.actN 0x5000 (g.val + 1)
    let s := modGr g (fun y => { y with select := sel, reacq := { y.reacq with phase := 0 } }) s
    let s := match s.validSource prim with
      | some i => onlyIf (x.pos.src != prim) (switchSource g i) s
      | none => s
    let s := onlyIf (x.select != sel) (raiseG 0x8020 g [(sel : Int)]) s
    let s := onlyIf x.atlas.suspect (setAtlasState g x.atlas.state) s
    onlyIf (decide (s.act 0x6050 9 = 1) && x.atlas.accepted && !x.atlas.copying && !s.uploading g && x.atlas.state != 0)
      (startCheckpoint g) s

/-- The compare sets of a bridge are emptied (R56), and a step in progress commits none. -/
def emptySets (b : BridgeId) (s : State) : State :=
  modBr b (fun x => { x with car := { x.car with shadow := none, active := none, skip := false },
                             ctl := { x.ctl with opened := false, lookup := false, lost := false } }) (uncharge b s)

/-- A bridge enters STANDBY: every position off, its compare sets emptied, no start in progress, no waveform successor in force
(R56, R70, R93, R369); its self-tests are due (R484). -/
def enterStandby (b : BridgeId) (s : State) : State :=
  let s := modBr b (fun x => { x with
    start := { Start.reset with phase := 0 },
    th := { x.th with replace := false, wset := Vector.ofFn fun t => s.actN 0x3010 (4 * b.val + t.val + 1) } }) s
  let s := dueStandbyTests b (turnAllOff b (emptySets b s))
  let s := match s.groupOf b with
    | some g => groupStandbyEntry g s
    | none => s
  restoreWindows s

/-- BRIDGE.DISABLE completes when every named bridge is in STANDBY or in a held catch ASC (R250). -/
def settleDisables (s : State) : State :=
  let done (d : CmdRef × Nat) : Bool :=
    allBr.all fun b => !bitAt b.val d.2 || (decide (s.br[b].state = .standby) && !s.starting b) || s.heldCatch b
  let ready := s.drive.disables.filter done
  let s := { s with drive := { s.drive with disables := s.drive.disables.filter fun d => !done d } }
  ready.foldl (fun a d => complete d.1 stOk [] a) s

/-- What follows when bridge b has changed state. -/
def settleBridge (b : BridgeId) (s : State) : State :=
  let s := match s.groupOf b with
    | some g => settleGroup g (groupOut g s)
    | none => s
  settleDrive (settleDisables s)

/-- Bridge b goes to a state other than RUN (R18). -/
def bridgeTo (st : BrState) (b : BridgeId) (s : State) : State :=
  let old := s.br[b].state
  if old = st then s
  else
    let s := modBr b (fun x => { x with state := st }) s
    let s := onlyIf (decide (old = .run)) (leaveRun b) s
    let s := onlyIf (decide (st = .standby)) (enterStandby b) s
    settleBridge b s

/-! Aborted starts -/

/-- The start of bridge b ends with a cause of R265: E-7103, its counter, its outcome (R235, R265, R266). -/
def abortStart (b : BridgeId) (cause : Nat) (s : State) : State :=
  if s.starting b then
    let s := modBr b (fun x => { x with start := { x.start with phase := 0 } }) s
    let s := raiseB 0x7103 b [(cause : Int)] s
    let s := match s.groupOf b with
      | some g => bump (0xE076 + g.val) 5 s
      | none => s
    startOutcome b cause s
  else s

/-! The choice of the safe pattern (R105, R251) -/

/-- A position may be on the shorting side of an ASC (R105); one with a pending retry latches as its bridge leaves RUN (R101). -/
def Position.canShort (p : Position) : Bool := !p.latched && p.retry.isNone && p.soft.val == 0 && p.railReady

/-- The high or the low side of bridge b may short (R105). -/
def State.sideFree (s : State) (b : BridgeId) (high : Bool) : Bool :=
  allSlots.all fun k => slotHigh k != high || (s.br[b].pos[k]).canShort

/-- The ASC pattern of a bridge: ASC-low, else ASC-high, else off (R105). -/
def State.ascSide (s : State) (b : BridgeId) : Fin 4 := if s.sideFree b false then 2 else if s.sideFree b true then 3 else 1

/-- e_C of a group in V: k_C in mV/Hz times |f_C| in 0.1 Hz (R251). -/
def State.eClove (s : State) (g : GroupId) : Rat := s.actR 0x7110 (g.val + 5) * ((s.clove.speed[g].freq.natAbs : Nat) : Rat) / 10000

/-- The limit that e_C is compared with: 0x6030.06 per mille of U_C (R251). -/
def State.eLimit (s : State) : Rat := s.actR 0x6030 6 * s.drive.udc / 1000

/-- Clove's automatic choice for a bridge is ASC (R251). -/
def State.wantsAsc (s : State) (b : BridgeId) : Bool :=
  match s.groupOf b with
  | none => s.br[b].bemf.clampFlag
  | some g =>
    match s.actN 0x7110 (g.val + 1) with
    | 1 => false
    | 2 => true
    | _ =>
      if s.clove.speed[g].valid && decide (s.act 0x7110 (g.val + 5) ≠ 0) then decide (s.eLimit ≤ s.eClove g)
      else s.br[b].bemf.clampFlag

/-- Clove's choice for a bridge under R251. -/
def State.safeChoice (s : State) (b : BridgeId) : Fin 4 := if s.wantsAsc b then s.ascSide b else 1

/-! Forcing (R68 to R70, R304, R312, R516) -/

/-- Kind of a source in a fault record (R516), also the source named in E-2007 (log 6). -/
def srcKind : ClassASource → Nat
  | .sto => 1 | .cloveRequest => 2 | .reacquisition => 8 | .catchAsc => 7 | .twoBridge => 2 | .shortCircuit => 3
  | .overvoltage => 4 | .external => 5 | .classB => 6

/-- Origin of a Clove safe-state request in E-2007 (R70): 1 processor path, 2 catch, 3 re-acquisition, 4 two-bridge. A request that
Clove's own check makes names the processor path (log 153). -/
def srcOrigin : ClassASource → Nat
  | .cloveRequest => 1 | .catchAsc => 2 | .reacquisition => 3 | .twoBridge => 4 | _ => 0

/-- STO and short-circuit escalation always force off (R68). -/
def srcAlwaysOff : ClassASource → Bool
  | .sto | .shortCircuit => true
  | _ => false

/-- 0x8010.03 (R300). -/
def State.stoState (s : State) : Nat :=
  b2n s.clove.stoA + 2 * b2n s.clove.stoB + 4 * b2n (!s.clove.stoA || !s.clove.stoB) + 8 * b2n s.clove.discrepancy

/-- 0x7140.09 (R264). -/
def State.contactorWord (s : State) : Nat :=
  let c := s.cont
  b2n c.coil[0] + 2 * b2n c.coil[1] + 4 * b2n c.coil[2] + 8 * b2n c.mirrorOpen[0] + 16 * b2n c.mirrorOpen[1] +
    32 * b2n c.mirrorOpen[2] + 64 * b2n (c.economiser.any id) + 128 * b2n c.weld + 256 * b2n c.active + 512 * b2n c.deferred +
    1024 * c.method

/-- Bit mask over the 24 positions. -/
def State.posMask (s : State) (f : Position → Bool) : Nat :=
  ((List.finRange 24).map fun p => if f (s.pos p) then 2 ^ p.val else 0).foldl (· + ·) 0

/-- The running firmware version (R541): a free value per unit for the delivered image, else the header of the slot (R438). -/
def State.fwVersion (s : State) (slot : Fin 2) : Nat :=
  if s.boot.fw[slot].delivered then Config.deliveredVersion.toNat
  else bytesNat (readBytes (fwSlotAddr slot.val + 8) 4 s.mem.nand)

/-- Overwriting a record that the host has not cleared raises E-F009 (R516). -/
def recordLost (s : State) : State :=
  match s.boot.records[63]? with
  | some r => if s.boot.cleared.contains r.serial then s else raise4 0xF009 [(r.serial : Int)] s
  | none => s

/-- A fault record is written (R516). -/
def writeRecord (event level index kind : Nat) (s : State) : State :=
  let st := s.stamp s.now
  let codes := (allBr.map fun b => s.br[b].force.pattern.val * 4 ^ b.val).foldl (· + ·) 0
  let speeds := (allGr.map fun g => ofSigned 16 (clampInt (-32768) 32767 s.clove.speed[g].freq) * 2 ^ (16 * g.val)).foldl (· + ·) 0
  let w0 := s.boot.serial % 65536 + 65536 * event + 2 ^ 32 * level + 2 ^ 40 * index + 2 ^ 48 * kind + 2 ^ 56 * (s.boot.bootNumber % 256)
  let w3 := codes + 2 ^ 8 * driveCode s.drive.state + 2 ^ 16 * s.stoState + 2 ^ 24 * (s.contactorWord % 256) +
    2 ^ 32 * ((10 * s.drive.udc).floor.toNat % 65536) + 2 ^ 48 * ofSigned 16 (clampInt (-32768) 32767 (10 * s.drive.shunt).floor)
  let w5 := s.posMask (·.latched) + 2 ^ 24 * s.posMask (fun p => p.soft.val != 0)
  let w6 := s.posMask (·.linkValid) + 2 ^ 24 * s.posMask (·.railReady)
  let w7 := s.fwVersion s.boot.slot + 2 ^ 32 * s.boot.slot.val + 2 ^ 40 * s.boot.cause
  let r : FaultRecord := { serial := s.boot.serial % 65536,
                           words := [BitVec.ofNat 64 w0] ++ st.words ++ [w3, speeds, w5, w6, w7].map (BitVec.ofNat 64) }
  let s := recordLost s
  { s with boot := { s.boot with records := (r :: s.boot.records).take 64, serial := (s.boot.serial + 1) % 65536 } }

/-- Clove's fault snapshot at a Class A forcing (R312). -/
def snapshotFault (src : ClassASource) (level : Nat) (b : BridgeId) (s : State) : State :=
  bump 0xE088 3 <| raise4 0x8107 [(b.val + 1 : Int), (srcKind src : Int)] (writeRecord 0x2007 level (if level = 4 then 0 else b.val + 1) (srcKind src) s)

/-- Outputs of a bridge at a pattern (R69, R303): off turns every position off; ASC turns the opposite side off at once. CB's
drive-enable lines follow. A position in soft turn-off is not cut short (R98). -/
def forceOutputs (p : Fin 4) (b : BridgeId) (s : State) : State :=
  let keep (k : Fin 6) : Bool := match p.val with
    | 0 => true
    | 2 => !slotHigh k
    | 3 => slotHigh k
    | _ => false
  allSlots.foldl (fun a k => modPos (posOf b k) (fun x => { x with driveEnable := keep k }) (if keep k then a else turnOff (posOf b k) a))
    (onlyIf (p != 0) (noteOff b) s)

/-- Clove's frequency of a group becomes invalid, which is counted (R335), with E-8106 while a bridge of the group is in RUN (R307). -/
def cloveInvalid (g : GroupId) (s : State) : State :=
  let c := s.clove.speed[g]
  if !c.valid then s
  else
    let s := { s with clove := { s.clove with speed := s.clove.speed.set g { c with valid := false, standstill := false, source := 0 } } }
    onlyIf (!(s.running g).isEmpty) (raiseG 0x8106 g []) (bump 0xE088 4 s)

/-- In an ASC of its lowest bridge a group without a Hall source has no valid f_C (R307). -/
def ascSpeed (b : BridgeId) (s : State) : State :=
  match s.groupOf b with
  | some g => if s.act 0x8100 (g.val + 1) = 0 && (s.bridgesOf g).head? == some b then cloveInvalid g s else s
  | none => s

/-! Coils and discharge (R254 to R260) -/

/-- Coil c is commanded. -/
def setCoil (c : Fin 3) (on : Bool) (s : State) : State :=
  if s.cont.coil[c] = on then s
  else { s with cont := { s.cont with coil := s.cont.coil.set c on, coilAt := s.cont.coilAt.set c s.now,
                                      economiser := s.cont.economiser.set c false } }

/-- The power auxiliary: line power is delivered on a port (R260). -/
def State.linePower (s : State) : Bool := s.pwr.delivering.any id

/-- All mirror contacts show their contacts open. -/
def State.allOpen (s : State) : Bool := s.cont.mirrorOpen.all id && s.cont.coil.all (fun x => !x)

/-- A running discharge is deferred once a bridge is in ASC without line power, with E-7123 (R260). -/
def deferDischarge (s : State) : State :=
  if s.cont.active && !s.cont.hvWake && s.anyAsc && !s.linePower then
    let s := stopChop s
    bump 0xE075 8 (raise4 0x7123 [] { s with cont := { s.cont with active := false, deferred := true, group := none, vector := none } })
  else s

/-- Clove switches PD1 off again after a wake on the HV-present supply alone, and the drive is in SLEEP (R352). -/
def hvSleep (s : State) : State :=
  let s := setDrive .sleep s
  { s with pwr := { s.pwr with domains := s.pwr.domains.set 1 false } }

/-- A discharge fails: E-7122, latched, LOCKOUT (R261); on the HV-present supply alone only the records keep it (R352). -/
def failDischarge (st : State) : State :=
  let s := stopChop st
  let hv := s.cont.hvWake
  let refs := s.drive.disarmRefs
  let s := { s with cont := { s.cont with active := false, deferred := false, afterOpen := false, group := none, vector := none, hvWake := false,
                                          failed := s.cont.failed || !hv },
                    drive := { s.drive with disarmRefs := [] } }
  let s := bump 0xE075 7 (raise4 0x7122 [] s)
  let s := refs.foldl (fun a r => complete r stHardware [] a) s
  if hv then hvSleep (writeRecord 0x7122 4 0 2 s) else setDrive .lockout s

/-- The group of a winding discharge (R259): f_C shows standstill, no bridge in ASC, no position latched. -/
def State.windingGroup (s : State) : Option GroupId :=
  allGr.find? fun g => !(s.bridgesOf g).isEmpty && s.clove.speed[g].valid && s.clove.speed[g].standstill &&
    (s.bridgesOf g).all fun b => !s.inAsc b && (s.br[b].pos.toList.all fun p => !p.latched)

/-- A discharge runs with a method: 0 resistor, 1 winding, whose group holds a current vector at the angle of its last step stamp (R259;
log 164). -/
def runDischarge (winding : Bool) (s : State) : State :=
  if winding then
    match s.windingGroup with
    | none => failDischarge s
    | some g =>
      bump 0xE075 6 (raise4 0x7120 [1] { s with cont := { s.cont with
        method := 1, group := some g, active := true, fallback := false, chop := false, chops := 0,
        vector := some (s.actR 0x7130 4, (s.gr[g].pos.thetaE : Int)) } })
  else bump 0xE075 5 (raise4 0x7120 [0] { s with cont := { s.cont with method := 0, group := none, active := true, vector := none } })

/-- A discharge starts once every contactor is open (R259), deferred while a bridge is in ASC without line power (R260). The drive shows
DISCHARGE while no bridge is in ASC. -/
def startDischarge (s : State) : State :=
  if s.cont.weld || s.cont.failed || s.cont.active then s
  else if s.anyAsc && !s.linePower then
    if s.cont.deferred then s
    else bump 0xE075 8 (raise4 0x7123 [] { s with cont := { s.cont with deferred := true } })
  else
    let m := s.actN 0x7130 1
    let s := { s with cont := { s.cont with deferred := false, afterOpen := false, startAt := s.now, startUdc := s.drive.udc,
                                            fallback := decide (m = 2) } }
    let s := onlyIf (!s.anyAsc && decide (s.drive.state ≠ .lockout)) (setDrive .discharge) s
    runDischarge (decide (m = 1)) s

/-- The discharge that was to follow an opening starts once all three contactors are open (R257, R259). -/
def settleOpen (s : State) : State :=
  if s.cont.opening = 0 && s.allOpen && s.cont.afterOpen then startDischarge s else s

/-- Coil c is released; E-7115 where all three contactors are then open (R257). -/
def openCoil (c : Fin 3) (s : State) : State :=
  let was := s.allOpen
  let s := setCoil c false s
  onlyIf (s.allOpen && !was) (raise4 0x7115 []) s

/-- A deferred discharge starts when the last ASC ends (R260); DISCHARGE shows once no bridge is in ASC (R259). -/
def settleDischarge (s : State) : State :=
  if s.anyAsc then s
  else if s.cont.deferred && s.allOpen then startDischarge s
  else if s.cont.active then (match s.drive.state with
    | .safeAsc | .safeOff => setDrive .discharge s
    | _ => s)
  else s

/-! Patterns -/

/-- The bridge state under a pattern. -/
def patternState (p : Fin 4) : BrState := if 2 ≤ p.val then .safeAsc else .safeOff

/-- The pattern of a bridge's forcing becomes `p`: at once for off, through the ASC delay for ASC (R69). The end of the last ASC starts a deferred
discharge (R260). -/
def setPattern (p : Fin 4) (b : BridgeId) (s : State) : State :=
  let old := s.br[b].force.pattern
  let through := decide (2 ≤ old.val ∧ 2 ≤ p.val ∧ old ≠ p)
  let s := onlyIf (old == 0 && decide (s.br[b].state = .run)) (chargeForced p b) s
  let s := onlyIf through (turnAllOff b) s
  let s := modBr b (fun x => { x with force := { x.force with pattern := p, clampAt := none,
                                                              ascTo := if 2 ≤ p.val then some p else none } }) s
  let s := forceOutputs p b s
  let s := modBr b (fun x => { x with legs := x.legs.map fun l => { l with acc := 0, ledger := 0, ledgerLeft := 0, ledgerAge := 0 } }) s
  let s := onlyIf (decide (2 ≤ p.val)) (ascSpeed b) s
  let s := if s.br[b].state = .lockout then s else bridgeTo (patternState p) b s
  settlePd7 (if 2 ≤ p.val then deferDischarge s else onlyIf (decide (2 ≤ old.val)) settleDischarge s)

/-- Level of the latched sources of a bridge: the highest. -/
def Force.level (f : Force) : Nat := f.sources.foldl (fun m x => max m x.2) 3

/-- Raise E-2007 for a bridge: level, source, pattern and origin (R70). -/
def raiseForced (src : ClassASource) (level : Nat) (b : BridgeId) (p : Fin 4) (s : State) : State :=
  raise 0x2007 level (if level = 4 then 0 else b.val + 1) [(b.val + 1 : Int), (srcKind src : Int), (p.val : Int), (srcOrigin src : Int)] s

/-- A change of pattern within a forcing in force: E-2007 with the source of that forcing (R70). -/
def changePattern (p : Fin 4) (b : BridgeId) (s : State) : State :=
  let f := s.br[b].force
  if f.pattern = p then s
  else
    let src := (f.sources.head?.map (·.1)).getD .cloveRequest
    raiseForced src f.level b p (setPattern p b s)

/-- The pattern that results when a source with pattern `p` meets a forcing in force (R304): STO and short-circuit escalation off,
then ASC, then off. -/
def mergePattern (f : Force) (src : ClassASource) (p : Fin 4) : Fin 4 :=
  if srcAlwaysOff src || f.sources.any (fun x => srcAlwaysOff x.1) then 1 else if 2 ≤ f.pattern.val then f.pattern else p

/-- The only source of a bridge's forcing is "catch" or "re-acquisition", which Clove releases itself (R196, R253). -/
def Force.selfReleasing (f : Force) : Bool :=
  !f.sources.isEmpty && f.sources.all fun c => decide (c.1 = .catchAsc) || decide (c.1 = .reacquisition)

/-- A bridge's forcing latches: it has a source that Clove does not release itself (R196, R253). -/
def Force.latching (f : Force) : Bool := !f.sources.isEmpty && !f.selfReleasing

/-- A re-acquisition or its hold fails (R199): E-6034 with its case; the limit of failures puts every bridge of the group into LOCKOUT with
E-6035; otherwise a new one starts from the safe state. -/
def reacqFailed (g : GroupId) (case : Nat) (s : State) : State :=
  let keep := (s.now :: s.gr[g].reacq.failures).filter fun t => decide (s.now < t + s.actN 0x6031 7 * ticksPerS)
  let s := modGr g (fun x => { x with reacq := { x.reacq with failures := keep, phase := 0 } }) s
  let s := bump (0xE061 + g.val) 0x0B (raiseG 0x6034 g [(case : Int)] s)
  if s.actN 0x6031 6 ≤ keep.length then
    let s := raiseG 0x6035 g [] s
    forBr (s.bridgesOf g) (fun b a =>
      let a := modBr b (fun x => { x with force := { x.force with
        sources := x.force.sources.map fun c => if c.1 = .reacquisition then (.cloveRequest, c.2) else c,
        causes := x.force.causes.filter fun c => decide (c ≠ .reacquisition) } }) a
      bridgeTo .lockout b (changePattern (a.safeChoice b) b a)) s
  else
    let asc := (s.bridgesOf g).any s.inAsc
    modGr g (fun x => { x with reacq := { x.reacq with phase := if asc then 1 else 2, since := s.now, limit := s.now, asc := asc, alphas := [] } }) s

/-- Self-test slices that run on positions are abandoned, to be placed again (R492). -/
def abandonSlices (sel : PosId → Bool) (s : State) : State :=
  { s with test := { s.test with running := s.test.running.filter fun r =>
      !(Nat.ble 4 r.1.val && Nat.ble r.1.val 8 && (if h : r.2 < 24 then sel ⟨r.2, h⟩ else false)) } }

/-! Turning a position on (R57, R83, R96, R97, R107) -/

/-- Position of a leg: its high side or its low side. -/
def posOfLeg (l : LegId) (high : Bool) : PosId := ⟨if high then 2 * l.val else 2 * l.val + 1, by have := l.2; split <;> omega⟩

/-- A detection latches in the island of a position that is on, and its soft turn-off starts (R96 to R98). -/
def detect (p : PosId) (desat : Bool) (t : Nat) (s : State) : State :=
  let x := s.pos p
  if x.detected.isSome || x.soft.val != 0 then s
  else abandonSlices (fun q => q == p) (modPos p (fun y => { y with detected := some t, byDesat := desat, reported := false, soft := 1, softSpan := some (t, 0) }) (turnOff p s))

/-- A position may be turned on: not latched, no retry pending, no detection, its link valid and its drive-enable line high (R303); a high side
refuses while its rail is not ready (R85, R98 to R100). -/
def State.canTurnOn (s : State) (p : PosId) : Bool :=
  let x := s.pos p
  !x.latched && x.retry.isNone && x.detected.isNone && x.soft.val == 0 && x.linkValid && x.driveEnable && (!isHigh p || x.railReady)

/-- An injection waits for this point (R493, R496). -/
def State.injects (s : State) (point : Nat) : Bool := s.test.inject.contains point

/-- The injection that waited has been made. -/
def injected (point : Nat) (s : State) : State := { s with test := { s.test with inject := s.test.inject.erase point } }

/-- A position is commanded on from tick `due` (R57): the island holds the turn-on while its partner is above threshold or unknown (R83,
R107). The desaturation detector is blanked for the blanking time in force at this command (R91, R96). A waiting detector injection acts at the
turn-on (R493). -/
def turnOn (p : PosId) (due : Nat) (s : State) : State :=
  if !s.canTurnOn p then s
  else
    let th := s.br[brOfPos p].th
    let wait := (s.pos (partnerPos p)).above || !(s.pos p).partnerKnown
    let s := modPos p (fun x => { x with on := true, onAt := due, blankTo := due + ticksOfNs th.blank[th.applied], hold := if wait then some due else none }) s
    if s.injects (0x0100 + p.val + 1) then detect p true due (injected (0x0100 + p.val + 1) s)
    else if s.injects (0x0200 + p.val + 1) then detect p false due (injected (0x0200 + p.val + 1) s)
    else s

/-- A position conducts by command at the present instant: commanded on, its dead time over, no cross-check hold (R57, R107); in a prime only
for the width of the pulse, 0x3050.01 (R86). -/
def State.conducts (s : State) (p : PosId) : Bool :=
  let x := s.pos p
  let st := s.br[brOfPos p].start
  x.on && decide (x.onAt ≤ s.now) && x.hold.isNone && (decide (st.phase ≠ 2) || decide (s.now < st.pulseAt + ticksOfNs (s.actN 0x3050 1)))

/-- A latching forcing has come upon a re-acquisition of a group (R196, R199): case 4, once for the forcings of one instant (log 161);
the group starts a new one from the safe state it is in. -/
def reacqBroken (g : GroupId) (s : State) : State :=
  let r := s.gr[g].reacq
  if r.phase = 0 || r.isCatch || r.failures.head? == some s.now then s else reacqFailed g 4 s

/-- A Class A source latches on a bridge with pattern `p` (R68 to R70): starts and re-acquisitions end, the pattern is applied, E-2007
and the snapshot follow. A source already latched adds nothing unless it acts at a higher level: it then stands at that level. -/
def latchForce (src : ClassASource) (p : Fin 4) (level : Nat) (b : BridgeId) (s : State) : State :=
  let f := s.br[b].force
  let s := modBr b (fun x => { x with force := { x.force with causes := if x.force.causes.contains src then x.force.causes
                                                                        else src :: x.force.causes } }) s
  if f.sources.any (fun x => decide (x.1 = src)) then
    if f.sources.any (fun x => decide (x.1 = src ∧ x.2 < level)) then
      snapshotFault src level b (raiseForced src level b f.pattern (modBr b (fun x => { x with force := { x.force with
        sources := x.force.sources.map fun c => if c.1 = src then (src, level) else c } }) s))
    else s
  else
    let s := abandonSlices (fun q => brOfPos q == b) s
    let s := match s.groupOf b with
      | some g => onlyIf (src != .catchAsc) (applyBrakeOf g) s
      | none => s
    let s := modBr b (fun x => { x with force := { x.force with sources := (src, level) :: x.force.sources } }) s
    let s := match s.groupOf b with
      | some g => onlyIf (src != .catchAsc && src != .reacquisition) (reacqBroken g) s
      | none => s
    let s := onlyIf (src != .catchAsc && s.starting b) (abortStart b 5) s
    let s := onlyIf (src != .catchAsc && s.heldCatch b) (modBr b fun x => { x with start := { x.start with phase := 0 } }) s
    let p := mergePattern s.br[b].force src p
    let s := onlyIf (s.br[b].force.pattern != p) (setPattern p b) s
    snapshotFault src level b (raiseForced src level b p s)

/-! Releasing a forcing; the held catch ASC (R70, R253) -/

/-- A bridge's forcing ends, with E-200D (R70): every position stays off until the next reload. -/
def dropForce (b : BridgeId) (s : State) : State :=
  let f := s.br[b].force
  if f.sources.isEmpty then s
  else
    let s := modBr b (fun x => { x with force := { Force.reset with ascAt := x.force.ascAt } }) s
    let s := modAllPos b (fun _ p => { p with driveEnable := true }) (turnAllOff b s)
    raise 0x200D f.level (if f.level = 4 then 0 else b.val + 1) [(b.val + 1 : Int)] s

/-- A bridge goes to a held catch ASC: a forcing with the source "catch", not latching (R253). -/
def toHeldCatch (b : BridgeId) (s : State) : State :=
  let s := onlyIf (!s.inAsc b) (latchForce .catchAsc (s.ascSide b) 3 b) s
  let s := modBr b (fun x => { x with start := { Start.reset with phase := 7, since := s.now } }) s
  settleBridge b (bridgeTo .safeAsc b s)

/-- A bridge that switches no more goes to STANDBY where R251 chooses off, else to a held catch ASC (R250, R252). -/
def toRest (b : BridgeId) (s : State) : State :=
  if 2 ≤ (s.safeChoice b).val then toHeldCatch b s
  else
    let s := turnAllOff b (dropForce b s)
    settleDischarge (if s.br[b].state = .standby then settleBridge b (enterStandby b s) else bridgeTo .standby b s)

/-- A start is aborted and its bridge returns to STANDBY (R242 to R244). -/
def abortToStandby (b : BridgeId) (cause : Nat) (s : State) : State :=
  if s.starting b then
    let s := turnAllOff b (dropForce b (abortStart b cause s))
    settleDischarge (if s.br[b].state = .standby then settleBridge b (enterStandby b s) else bridgeTo .standby b s)
  else s

/-- A start is aborted and its bridge goes to STANDBY or to a held catch ASC (R250, R276). -/
def abortToRest (b : BridgeId) (cause : Nat) (s : State) : State :=
  if s.starting b then toRest b (abortStart b cause s) else s

/-- A fault reaction on a bridge ends the identification of its group (R187): its other bridges go to rest. -/
def identBroken (b : BridgeId) (s : State) : State :=
  match s.groupOf b with
  | some g => if s.gr[g].atlas.ident.isSome then forBr (s.running g) toRest (abortIdent g s) else s
  | none => s

/-- A Class A source acts on a bridge with pattern `p` (R68 to R70, R187). -/
def forceBridge (src : ClassASource) (p : Fin 4) (level : Nat) (b : BridgeId) (s : State) : State := identBroken b (latchForce src p level b s)

/-- Clove puts a bridge into the safe state that it chooses (R251). -/
def safeBridge (src : ClassASource) (level : Nat) (b : BridgeId) (s : State) : State :=
  forceBridge src (if srcAlwaysOff src then 1 else s.safeChoice b) level b s

/-- A source's cause on a bridge ends; the forcing stays latched (R70). -/
def endCause (src : ClassASource) (b : BridgeId) : State → State :=
  modBr b fun x => { x with force := { x.force with causes := x.force.causes.filter fun c => decide (c ≠ src) } }

/-- A momentary request: the forcing latches, its cause does not last. -/
def safeRequest (src : ClassASource) (level : Nat) (b : BridgeId) (s : State) : State := endCause src b (safeBridge src level b s)

/-- A level 3 fault of a group: every bridge of the group (R7, R8). -/
def safeGroup (g : GroupId) (s : State) : State := forBr (s.bridgesOf g) (safeRequest .cloveRequest 3) s

/-! Contactors (R256 to R258) -/

/-- Contactors open in the order of R257: CO3 at once, CO1 when its current allows, CO2 20 ms after CO1. `noWait` opens CO1 at once.
A discharge follows where `after` asks for it. -/
def openContactors (noWait after : Bool) (s : State) : State :=
  let s := { s with cont := { s.cont with afterOpen := s.cont.afterOpen || after } }
  let s := openCoil 2 s
  let s := { s with drive := { s.drive with overlap := false } }
  if s.cont.opening = 2 || s.cont.opening ≠ 0 && !noWait then s
  else if s.cont.coil[0] && !noWait then { s with cont := { s.cont with opening := 1, openAt := s.now } }
  else
    let s := openCoil 0 s
    if s.cont.coil[1] then { s with cont := { s.cont with opening := 2, openAt := s.now } }
    else settleOpen { s with cont := { s.cont with opening := 0 } }

/-- The contactors follow the drive state (R255, R257): in ARMED, RUN and STOPPING CO3 is open; in any state but these, PRECHARGE and the safe states
every one opens. -/
def settleCoils (s : State) : State :=
  match s.drive.state with
  | .armed | .run | .stopping => setCoil 2 false { s with drive := { s.drive with overlap := false } }
  | .safeOff | .safeAsc | .precharge => s
  | _ => onlyIf (s.cont.coil.any id) (openContactors false false) s

/-- DRIVE.ARM in progress ends with a status (R256). -/
def endArm (status : Nat) (s : State) : State :=
  let r := s.drive.armRef
  let s := { s with drive := { s.drive with armRef := none, armStep := 0 } }
  match r with
  | some r => complete r status [] s
  | none => s

/-- Clove declares a weld: E-7113, LOCKOUT, the contactors open without waiting, no discharge runs (R257, R258). `test`: 1 the rise, 2 a
mirror contact, 3 the fall test; `c` the contactor, 0 where the test cannot tell. -/
def declareWeld (test c : Nat) (s : State) : State :=
  if s.cont.weld then s
  else
    let refs := s.drive.disarmRefs
    let s := stopChop s
    let s := { s with cont := { s.cont with weld := true, active := false, deferred := false, group := none, vector := none },
                      drive := { s.drive with disarmRefs := [] } }
    let s := bump 0xE075 4 (raise4 0x7113 [(test : Int), (c : Int)] s)
    let s := endArm stAborted s
    let s := openContactors true false s
    let s := { s with cont := { s.cont with afterOpen := false } }
    let s := refs.foldl (fun a r => complete r stHardware [] a) s
    let s := forBr (allBr.filter fun b => decide (s.br[b].state = .run) || s.starting b) (safeRequest .cloveRequest 4) s
    setDrive .lockout s

/-! Level 4 faults -/

/-- The drive follows a level 4 safe state (R104, R255, R259): SAFE-ASC or SAFE-OFF, the contactors open unless the source is STO, and a
discharge follows where 0x7130.06 asks for it. -/
def driveSafe (sto : Bool) (s : State) : State :=
  match s.drive.state with
  | .sleep | .lockout => s
  | .discharge => settleDrive s
  | _ =>
    let s := endArm stAborted s
    let s := setDrive (if s.anyAsc then .safeAsc else .safeOff) s
    if sto then s else openContactors false (decide (s.act 0x7130 6 = 1)) s

/-- A level 4 fault: every bridge goes to the safe state that Clove chooses (R7). -/
def safeDrive (src : ClassASource) (s : State) : State := driveSafe (decide (src = .sto)) (forBr allBr (safeBridge src 4) s)

/-- A level 4 fault whose cause does not last. -/
def safeDriveOnce (src : ClassASource) (s : State) : State := forBr allBr (endCause src) (safeDrive src s)

/-- The external fault line acts (R68): off, or as for overvoltage, by 0x2040.01. -/
def externalFault (s : State) : State :=
  if s.act 0x2040 1 = 1 then driveSafe false (forBr allBr (forceBridge .external 1 4) s) else safeDrive .external s

/-- STO is requested (R273): E-8001, off on every bridge, the brake at the same instant where 0x8040.05 asks for it; the contactors stay. -/
def stoRequest (s : State) : State :=
  let s := bump 0xE080 1 (raise4 0x8001 [(b2n s.clove.stoA : Int), (b2n s.clove.stoB : Int)] s)
  safeDrive .sto (onlyIf (decide (s.act 0x8040 5 = 1)) applyBrake s)

/-! SS1 sources (R276, R279) -/

/-- Abort every start in progress on a group with a cause (R276). -/
def abortGroupStarts (g : GroupId) (cause : Nat) (s : State) : State :=
  forBr (s.bridgesOf g) (fun b a => abortToRest b cause a) s

/-- Sources of an SS1 as E-8010 names them (log 6). -/
def ss1FromHost : Nat := 1
def ss1FromCommandLoss : Nat := 2
def ss1FromInput : Nat := 3
def ss1FromWindow : Nat := 4
def ss1FromSls : Nat := 5
def ss1FromSdi : Nat := 6
def ss1FromSlp : Nat := 7
def ss1FromPrediction : Nat := 8
def ss1FromStopped : Nat := 9
def ss1FromUnreferenced : Nat := 10
def ss1FromBrake : Nat := 11
def ss1FromDie : Nat := 12
def ss1FromSupply : Nat := 13

/-- A source of SS1 acts on a group (R276, R279): with no bridge in RUN it raises E-8010 with its flag and aborts starts; during an SS1 it
is recorded; otherwise the SS1 begins at the group's next step (R277), which a group in identification has not: it is stopped at once (R187). -/
def ss1Source (g : GroupId) (src : Nat) (s : State) : State :=
  if (s.bridgesOf g).isEmpty then s
  else if (s.running g).isEmpty then abortGroupStarts g 5 (raiseG 0x8010 g [(src : Int), 1] s)
  else if s.gr[g].ss1.any (fun x => decide (x.goal = 0)) then raiseG 0x8010 g [(src : Int), 0] s
  else
    let s := modGr g (fun x => { x with ss1Due := x.ss1Due ++ [src] }) s
    onlyIf s.gr[g].atlas.ident.isSome (forBr (s.running g) toRest) s

/-- A group is STOPPED: E-7005, and SS1 (R226, R293). -/
def stopGroup (g : GroupId) (s : State) : State :=
  if s.gr[g].cond = .stopped then s
  else ss1Source g ss1FromStopped (raiseG 0x7005 g [] (modGr g (fun x => { x with cond := .stopped }) s))

/-- The torque that SS1 is asked for a group's own end: the safe state of R278 on every bridge in RUN. -/
def endSs1 (g : GroupId) (s : State) : State := forBr (s.running g) (safeRequest .cloveRequest 3) s

end Sys2Proof.Machine
end

