-- ==== Sys2Proof/Machine/Flags.lean ====
section
/-! DEFINITION. The read-only objects: every status word and flag, computed from State (R112, R169, R205, R264, R300, R334, R359, R426,
R443, R464, R480, R499, R500, R517). -/

namespace Sys2Proof.Machine

/-- A flag as a bit. -/
def flag (n : Nat) (b : Bool) : Nat := if b then 2 ^ n else 0

/-- Island state 0x306C (R112). -/
def State.islandState (s : State) (p : Position) : Nat :=
  let tries := (p.tries.filter fun t => decide (s.now < t + s.actN 0x3040 3 * ticksPerS)).length
  flag 0 p.railReady + flag 1 p.railUv + flag 2 p.retry.isSome + flag 3 p.latched + flag 4 (p.soft.val != 0) + flag 5 p.linkValid +
    flag 6 p.above + flag 7 p.hold.isSome + 256 * (tries % 8)

/-- The interface with a code, where it is one. -/
def State.ifaceOf (s : State) (n : Nat) : Option Iface := if h : 1 ≤ n ∧ n ≤ 8 then some s.sense.iface[n - 1] else none

/-- An interface is assigned (R147). -/
def State.assigned (s : State) (i : IfId) : Bool := (List.range 8).any fun k => decide (s.actN 0x5000 (k + 1) = i.val + 1)

/-- Position status (R169; log 34). -/
def State.posStatus (s : State) (g : GroupId) : Nat :=
  let x := s.gr[g].pos
  let bad (sub : Nat) : Bool := match s.ifaceOf (s.actN 0x5000 sub) with
    | some i => !i.valid
    | none => false
  flag 0 ((s.ifaceOf x.src).any (·.valid)) + flag 1 x.referenced + flag 2 x.atLow + flag 3 x.atHigh + flag 4 x.provisional +
    flag 5 (s.clove.windows[sensorlessWindow g].opened.isSome) + flag 6 (bad (g.val + 1)) + flag 7 (bad (g.val + 5))

/-- The vote is outvoting an interface (R149 cause 0xA, R163): row 1 counts against the source in use, row 2 against the other one. -/
def State.outvoting (s : State) (i : IfId) : Bool :=
  match s.ifaceGroup i with
  | some g =>
    let p := s.gr[g].pos
    decide (0 < p.rowRun) && ((p.row == 1 && p.src == ifaceCode i) || (p.row == 2 && p.src != ifaceCode i))
  | none => false

/-- A cause of an interface is confirming (R149, R169): some of the checks that confirm it have failed. -/
def State.confirming (s : State) (i : IfId) : Bool :=
  let x := s.sense.iface[i]
  let inTurn (l : List Nat) : Bool := l.any fun u => decide (s.now ≤ u + x.hallPeriod)
  x.valid && (x.bad != 0 || x.track != 0 || x.zBad != 0 || x.badSince != 0 || x.illegal.any (fun u => decide (s.now < u + ticksPerMs)) ||
    inTurn x.missPeriod || inTurn x.impossible || s.outvoting i)

/-- Interface status 0x5043 (R169). -/
def State.ifaceStatus (s : State) (i : IfId) : Nat :=
  let x := s.sense.iface[i]
  flag 0 (s.assigned i) + flag 1 x.valid + flag 2 (s.confirming i) + flag 3 x.referenced + 256 * (x.cause % 16)

/-- The low 32 bits of E, or E within the soft limits (R156); a Hall angle goes on between its edges (R153). -/
def State.positionCount (s : State) (g : GroupId) : Int :=
  let hall := (ifaceOfCode s.gr[g].pos.src).any isHall
  let e := s.gr[g].pos.count + if hall then s.countAdvance g s.now else 0
  if s.act 0x5020 (g.val + 9) = 0 then toSigned 32 (ofSigned 32 e)
  else clampInt (s.act 0x5020 (g.val + 1)) (s.act 0x5020 (g.val + 5)) e

/-- Supply state 0x9000.01 (R359). -/
def State.supplyState (s : State) : Nat :=
  flag 0 s.pwr.delivering[0] + flag 1 s.pwr.delivering[1] + flag 2 s.pwr.aux + flag 3 s.pwr.keepAlive + flag 4 s.pwr.hv +
    flag 5 (s.pwr.line.any (· != 0)) + flag 6 (s.clove.windows[14].opened.isSome) + flag 7 s.pwr.overBudget

/-- Debug state 0x8110.03 (R334). -/
def State.debugState (s : State) : Nat :=
  flag 0 s.pairs[0].debugger + flag 1 s.pairs[1].debugger + flag 2 s.place.pelaleDebug + flag 3 s.pairs[0].flag + flag 4 s.pairs[1].flag +
    flag 5 (s.pairs[0].debugger || s.pairs[1].debugger)

/-- Pair state codes (R334). -/
def PairState.code : PairState → Nat
  | .lockstep => 0 | .cache => 1 | .recovering => 2 | .split => 3 | .debug => 4 | .withdrawn => 5

/-- f_C status (R334). -/
def CloveSpeed.status (c : CloveSpeed) : Nat := flag 0 c.valid + flag 1 c.standstill + 4 * (c.source % 4)

/-- Brake state (R300). -/
def State.brakeState (s : State) : Nat :=
  flag 0 s.clove.brakeOn + flag 1 s.clove.brakeFb + flag 2 s.clove.brakeHigh + flag 3 s.clove.brakeLow + flag 7 s.clove.brakeLatch

/-- Group conditions (0x7070.0D to 10). -/
def Cond.code : Cond → Nat
  | .normal => 0 | .reduced => 1 | .stopped => 2

/-- A list read by a 1-based sub. -/
def nthSub {α : Type} (l : List α) (f : α → Int) (k : Nat) : Int := ((l[k - 1]?).map f).getD 0

/-- A boolean vector as bits. -/
def bitsOf (l : List Bool) : Nat := (l.zipIdx.map fun c => if c.1 then 2 ^ c.2 else 0).foldl (· + ·) 0

/-- A0's longest gap in slots, counted cyclically (R385). -/
def longestGap (t : List Nat) (owner : Nat) : Nat :=
  let own := t.map (· == owner)
  let n := t.length
  (List.range n).foldl (fun m i => if own.getD i false then
      max m (((List.range n).find? fun d => own.getD ((i + d + 1) % n) false).getD n + 1) else m) 0

/-- The lookup bound of the active table, ns (R390). -/
def State.lookupBound (s : State) : Nat := 16 * (16 * longestGap s.arb.table.toList 0) + 476

/-- 16 bytes as one number: words 2k - 2 and 2k - 1 of a record (R517). -/
def FaultRecord.octets (r : FaultRecord) (k : Nat) : Nat :=
  (r.words.getD (2 * k - 2) 0).toNat + 2 ^ 64 * (r.words.getD (2 * k - 1) 0).toNat

/-- Instances of a self-test kind (R484). -/
def testInstances (kind : Fin 12) : Nat :=
  match kind.val with
  | 0 => 14 | 1 => 12 | 2 => 1 | 3 => 1 | 9 => 12 | 10 => 8 | 11 => 2 | _ => 24

/-- Results of the instances of a kind. -/
def State.testList (s : State) (kind : Fin 12) : List TestInst := s.test.inst[kind].toList.take (testInstances kind)

/-- 0xD010.02 of a kind (log 32). -/
def State.testResult (s : State) (kind : Fin 12) : Nat :=
  let l := s.testList kind
  if l.any (·.result == 2) then 2 else if l.any (·.result == 1) then 1 else 0

/-- Age of Clove's last passed start-up test, days, as 0x8104.02 holds it (R332). -/
def State.cloveTestAge (s : State) : Nat := min 0xFFFF ((s.now - s.clove.testAt) / ticksPerDay)

/-- Age of the last complete pass of a kind, ms (log 32). -/
def State.testAge (s : State) (kind : Fin 12) : Nat :=
  let l := s.testList kind
  if l.all (·.passedAt.isSome) then (s.now - l.foldl (fun m x => min m (x.passedAt.getD 0)) s.now) / ticksPerMs
  else Config.openRead (objKey (0xD010 + kind.val) 3) % 2 ^ 32

/-- The grandmaster identity of a domain, 0 before the first Announce (R464; log 14). -/
def Domain.grandmasterId (x : Domain) : Nat := (x.grandmaster.map (·.identity.toNat)).getD 0

/-- CAK check value (R453): under the low 128 bits of the CAK, 0xA020.04. -/
def State.cakCheck (s : State) : Nat :=
  (aesCmac (BitVec.ofNat 128 (s.actN 0xA020 4)) (List.replicate 16 0)).toNat % 2 ^ 32

/-- Key check value (R407). -/
def State.q0Check (s : State) : Nat :=
  (aesCmac (BitVec.ofNat 128 (s.actN 0xC030 1 + 2 ^ 64 * s.actN 0xC030 2)) (List.replicate 16 0)).toNat % 2 ^ 32

/-- Mean of a list of numbers, rounded down; 0 for none. -/
def meanOf (l : List Nat) : Nat := l.foldl (· + ·) 0 / max 1 l.length

/-- Read-only values of areas 1 to 3. -/
def State.read1 (s : State) (i k : Nat) : Option Int :=
  let br (j : Nat) : Bridge := s.br.toList.getD j (Bridge.reset 0)
  let pos (j : Nat) : Position := (br (j / 6)).pos.toList.getD (j % 6) .reset
  if i = 0x1000 then
    match k with
    | 1 => some 0x0030363834575654     -- "TVW4860", zero-padded
    | 2 => some Config.serial
    | 3 => some Config.hardwareIssue
    | 4 => some (s.fwVersion s.boot.slot)
    | _ => some s.boot.slot.val
  else if i = 0x2040 ∧ k = 2 then some (50 * ((s.actN 0x2030 6 + 19) / 20 : Nat))   -- R69: the dead-time ceiling rounded up to 50 ns
  else if i = 0x1101 then
    let r := s.mem.journal.valid 3 0
    match k with
    | 1 => some s.par.pendingKeys.length
    | 2 => some ((r.map (·.slot)).getD 0xFF)
    | 3 => some ((r.map (·.seq)).getD 0)
    | 4 => some ((s.transfer.map fun t => t.kind.code).getD 0)
    | 5 => some ((s.transfer.map (·.received)).getD 0)
    | 7 => some (b2n s.boot.alternateOk)
    | _ => none
  else if i = 0x2017 then some (br (k - 1)).car.top
  else if i = 0x2031 then some ((br ((k - 1) / 4)).th.dead.toList.getD ((k - 1) % 4) 0)
  else if i = 0x2061 then some (br (k - 1)).car.offset
  else if i = 0x2070 then some (br (k - 1)).car.period
  else if i = 0x2071 then some ((br (k - 1)).car.updatePeriod % 2 ^ 48 + 2 ^ 48 * ((br (k - 1)).car.updateTag % 65536) : Nat)
  else if i = 0x3012 then some ((br ((k - 1) / 4)).th.wset.toList.getD ((k - 1) % 4) 0)
  else if 0x3060 ≤ i ∧ i ≤ 0x3063 then
    let l := (pos (k - 1)).onDelay.toList.getD (i - 0x3060) []
    some (meanOf l)
  else if 0x3064 ≤ i ∧ i ≤ 0x3067 then
    let l := (pos (k - 1)).offDelay.toList.getD (i - 0x3064) []
    some (meanOf l)
  else if i = 0x3068 then let l := (pos (k - 1)).onDvdt[(br ((k - 1) / 6)).th.applied]; some (meanOf l)
  else if i = 0x3069 then let l := (pos (k - 1)).offDvdt[(br ((k - 1) / 6)).th.applied]; some (meanOf l)
  else if i = 0x306A then let l := (pos (k - 1)).charge; some (meanOf l)
  else if i = 0x306B then some (pos (k - 1)).chargeIdent
  else if i = 0x306C then some (s.islandState (pos (k - 1)))
  else none

/-- Read-only values of areas 4 to 6. -/
def State.read2 (s : State) (i k : Nat) : Option Int :=
  let br (j : Nat) : Bridge := s.br.toList.getD j (Bridge.reset 0)
  let gr (j : Nat) : Group := s.gr.toList.getD j .reset
  let g (j : Nat) : GroupId := ⟨j % 4, by omega⟩
  let j := (k - 1) % 4
  let q := (k - 1) / 4
  if i = 0x4011 then some (nthSub s.sense.piOffset.toList id k)
  else if i = 0x4012 ∧ k = 2 then some s.sense.shuntOffset
  else if i = 0x4014 ∧ 9 ≤ k then some (br j).meas.mode
  else if i = 0x4031 ∧ 2 ≤ k then some (nthSub s.sense.cable.toList (fun x => (x : Int)) (k - 1))
  else if i = 0x4032 then some (if q = 0 then (br j).bemf.freq else if q = 1 then ((br j).bemf.amp : Int) else ((br j).bemf.angle : Int))
  else if i = 0x4040 then some (nthSub s.sense.hk.toList id k)
  else if i = 0x5040 then
    some (if q = 0 then s.positionCount (g j) else if q = 1 then (1000 * (gr j).pos.speed).floor
      else if q = 2 then ((gr j).pos.src : Int) else (s.posStatus (g j) : Int))
  else if i = 0x5041 then some (s.sensorAngle ⟨(k - 1) % 8, by omega⟩ s.now)
  else if i = 0x5042 then some (nthSub s.sense.iface.toList (fun x => (1000 * x.speed).floor) k)
  else if i = 0x5043 then some (s.ifaceStatus ⟨(k - 1) % 8, by omega⟩)
  else if i = 0x5051 then some (nthSub s.sense.capture.toList (·.last) k)
  else if i = 0x6011 then some (gr j).obs.temp.floor
  else if i = 0x6040 then
    some (if q = 0 then ((gr j).obs.angle : Int) else if q = 1 then (1000 * (gr j).obs.speed).floor
      else if q = 2 then (10 * (gr j).obs.torque).floor else (10 * (gr j).obs.residual).floor)
  else if i = 0x6042 then some (gr j).atlas.result
  else if i = 0x6043 then some (gr j).atlas.code
  else if i = 0x6050 ∧ k ≤ 8 then
    let r := s.mem.journal.valid 1 (j + 1)
    some (if q = 0 then ((r.map (·.slot)).getD 0xFF : Nat) else ((r.map (·.seq)).getD 0 : Nat))
  else none

/-- Active bandwidth of a group as it reads back, Hz (R210): that of its lowest bridge in RUN; before its first step, or with none in RUN, the lesser
of 0x7006 and a tenth of the step rate of that bridge. -/
def State.readBandwidth (s : State) (g : GroupId) : Nat :=
  match (s.running g).head?.orElse fun _ => (s.bridgesOf g).head? with
  | none => 0
  | some b =>
    let x := s.br[b].ctl
    if x.fbw ≠ 0 then x.fbw
    else if s.stepTicks b = 0 then s.actN 0x7006 (g.val + 1) else min (s.actN 0x7006 (g.val + 1)) (400000000 / s.stepTicks b / 10)

/-- Read-only values of area 7. The shares and headrooms of a bridge out of RUN keep their last values (log 191); 0x7071.0A, one value for two pairs, shows the larger decimation (log 163). -/
def State.read3 (s : State) (i k : Nat) : Option Int :=
  let br (j : Nat) : Bridge := s.br.toList.getD j (Bridge.reset 0)
  let gr (j : Nat) : Group := s.gr.toList.getD j .reset
  let j := (k - 1) % 4
  let q := (k - 1) / 4
  if i = 0x7006 ∧ 5 ≤ k then some (s.readBandwidth ⟨j, by omega⟩ : Int)
  else if i = 0x7070 then
    some (if q = 0 then (10 * (gr j).tAch).floor else if q = 1 then (1000 * (br j).ctl.filtShare).floor
      else if q = 2 then (1000 * (br j).ctl.headroom).floor else ((gr j).cond.code : Int))
  else if i = 0x7071 then
    some (if q = 0 then ((br j).pair.val + 1 : Int) else if q = 1 then ((br j).monPair.val + 1 : Int)
      else if k = 9 then (s.place.pair.val + 1 : Int) else if k = 10 then (max s.place.decim[0] s.place.decim[1] : Nat)
      else if k = 13 then (s.place.ceiling : Int) else nthSub s.place.loads.toList (fun x => (min x 255 : Nat)) (k - 10))
  else if i = 0x7072 then some ((br ((k - 1) / 3)).legs.toList.map (·.clamp) |>.getD ((k - 1) % 3) 0 : Nat)
  else if i = 0x7073 then some (if k = 1 then (s.place.partners.length : Int) else (s.place.leader : Int))
  else if i = 0x7080 ∧ k = 1 then some 16
  else if i = 0x7082 then some (nthSub s.arb.table.toList (fun x => (x : Int)) k)
  else if i = 0x7085 then
    some (nthSub s.arb.reqs.toList (fun r => (flag 0 r.cutOff + flag 1 r.refused + flag 2 r.requesting + flag 3 r.gated : Nat)) k)
  else if i = 0x7086 then some (if k = 1 then (s.arb.longestLast : Int) else s.lookupBound)
  else if i = 0x7140 then
    some (if q = 0 then ((br j).start.phase : Int) else if q = 1 then ((gr j).listen : Int)
      else if k = 9 then (s.contactorWord : Int) else ((br (k - 10)).ctl.shortSide : Int))
  else none

/-- Read-only values of areas 8 and 9. -/
def State.read4 (s : State) (i k : Nat) : Option Int :=
  let br (j : Nat) : Bridge := s.br.toList.getD j (Bridge.reset 0)
  let j := (k - 1) % 4
  if i = 0x8010 ∧ k = 3 then some s.stoState
  else if i = 0x8036 then some (nthSub s.gr.toList (fun x => (x.select : Int)) k)
  else if i = 0x8040 ∧ k = 6 then some s.brakeState
  else if i = 0x8051 then some (s.windowLeft ⟨(k - 1) % 16, by omega⟩ / ticksPerMs : Nat)
  else if i = 0x8071 then some (nthSub s.clove.bound.toList (fun x => (x : Int)) k)
  else if i = 0x80F0 then some s.clove.signature
  else if i = 0x8101 then
    some (if k ≤ 4 then nthSub s.clove.speed.toList (·.freq) k else nthSub s.clove.speed.toList (fun x => (x.status : Int)) (k - 4))
  else if i = 0x8104 ∧ k ≤ 2 then some (if k = 1 then (s.clove.testResult : Int) else (s.cloveTestAge : Int))
  else if i = 0x8110 ∧ k = 3 then some s.debugState
  else if i = 0x8120 ∧ 3 ≤ k then some (if k = 3 then (s.place.permit : Int) else (s.place.mask : Int))
  else if i = 0x8121 then some (nthSub s.pairs.toList (fun x => (x.state.code : Int)) k)
  else if i = 0x9000 then some s.supplyState
  else if i = 0x9001 ∧ 4 ≤ k then some (nthSub s.pwr.granted.toList (fun x => (x : Int)) (k - 3))
  else if i = 0x9002 then some (nthSub s.pwr.portPower.toList (fun x => (x : Int)) k)
  else if i = 0x9003 then some s.pwr.auxPower
  else if i = 0x9011 then
    some (if k = 1 then s.pwr.pg else if k = 2 then (s.pwr.ps : Int) else if k ≤ 6 then nthSub s.pwr.line.toList (fun x => (x : Int)) (k - 2)
      else if k = 7 then (s.pwr.k : Int) else nthSub s.pwr.island.toList (fun x => (x : Int)) (k - 7))
  else if i = 0x9020 then some (if k = 1 then (bitsOf s.pwr.domains.toList : Int) else (bitsOf s.pwr.pll.toList : Int))
  else if i = 0x9030 ∧ k = 3 then some s.pwr.reason
  else if i = 0x9121 then some (br j).th.band.val
  else if i = 0x9122 then some ((((br ((k - 1) / 6)).th.nodes.toList.map (·[0])).getD ((k - 1) % 6) 0).floor)
  else if i = 0x9123 then some (if k = 13 then s.die.tcool.floor else ((br ((k - 1) / 3)).th.base.toList.getD ((k - 1) % 3) 0).floor)
  else if i = 0x9124 then some (((br ((k - 1) / 6)).th.power.toList.getD ((k - 1) % 6) 0).floor)
  else if i = 0x9130 ∧ (k = 1 ∨ k = 7) then some (if k = 1 then s.die.temp else (s.die.level : Int))
  else none

/-- Read-only values of areas A to F. -/
def State.read5 (s : State) (i k : Nat) : Option Int :=
  let c (n : Nat) : Can := s.can.toList.getD n .reset
  if i = 0xA002 then some (nthSub s.net.port.toList (fun p => if p.up then (if p.gigabit then 2 else 1) else 0) k)
  else if i = 0xA003 ∧ k ≤ 4 then
    some (if k ≤ 2 then nthSub s.net.port.toList (fun p => (p.testCode : Int)) k else nthSub s.net.port.toList (fun p => (p.testDist : Int)) (k - 2))
  else if i = 0xA004 then some (if k = 1 then (Config.macAddress.toNat : Int) else (Config.gwehalOui.toNat : Int))
  else if i = 0xA011 ∧ k = 4 then some (if s.act 0xA011 1 = 1 then s.net.ring else 0)
  else if i = 0xA020 ∧ (k = 4 ∨ k = 5) then some 0
  else if i = 0xA020 ∧ k = 7 then some s.cakCheck
  else if i = 0xA110 then
    let t := s.stamp s.now
    match k with
    | 1 => some t.sec
    | 2 => some (t.ns + 2 ^ 32 * t.frac : Nat)
    | 3 => some s.time.use
    | 6 => some s.time.rate
    | 4 => some s.time.dom[0].offset
    | 5 => some s.time.dom[1].offset
    | 7 => some (s.time.dom[0].grandmasterId)
    | _ => some (s.time.dom[1].grandmasterId)
  else if (i = 0xB000 ∨ i = 0xB001) ∧ 0x20 ≤ k then
    let x := c (i - 0xB000)
    some (if k = 0x20 then (x.state : Int) else if k = 0x21 then (x.txErr : Int) else if k = 0x22 then (x.rxErr : Int) else (x.delay : Int))
  else if i = 0xB008 ∧ (k = 4 ∨ k = 5) then some (c (k - 4)).address
  else if i = 0xC000 ∧ k = 2 then some s.io.session
  else if i = 0xC030 then some (if k = 3 then (s.q0Check : Int) else 0)
  else if 0xC100 ≤ i ∧ i ≤ 0xC10F ∧ 7 ≤ k then
    let q : QueueId := ⟨(i - 0xC100) % 16, by omega⟩
    some (if k = 7 then (queueCapacity q.val : Int) else if k = 8 then ((s.notifyCounts q).1 : Int)
      else if h : q.val < 4 then (s.io.cmd[q.val].consumer : Int) else (s.io.out[q].consumer : Int))
  else if i = 0xD000 ∧ k = 2 then some 2
  else if 0xD010 ≤ i ∧ i ≤ 0xD01B ∧ 2 ≤ k then
    let kind : Fin 12 := ⟨(i - 0xD010) % 12, by omega⟩
    some (if k = 2 then (s.testResult kind : Int) else (s.testAge kind : Int))
  else if i = 0xD100 ∧ k = 2 then some s.test.challenge
  else if i = 0xD100 ∧ k = 5 then some ((s.test.arm.map fun a => a.1 + 65536 * a.2.1).getD 0 : Nat)
  else if i = 0xE000 ∧ 2 ≤ k then some (if k = 2 then (s.st.snapNumber : Int) else (flag 0 s.st.snapShortened + flag 1 s.st.snapSaturated : Nat))
  else if i = 0xF000 then some (if k = 1 then (s.boot.cause : Int) else if k = 2 then (s.boot.bootCount : Int) else (b2n s.boot.servicePin : Int))
  else if i = 0xF001 then some (nthSub s.boot.resetCounts.toList (fun x => (x : Int)) k)
  else if i = 0xF010 then
    some (if k = 1 then (flag 0 s.boot.confirmed + flag 1 s.boot.recovery : Nat) else if k = 2 then (s.boot.trial : Int)
      else (s.fwVersion ⟨1 - s.boot.slot.val, by omega⟩ : Int))
  else if i = 0xF030 then
    let j := s.mem.journal
    some (j.half.val + 256 * (j.halves[j.half].length * 100 / halfRecords) : Nat)
  else if i = 0xF040 ∧ k ≤ 2 then
    some (if k = 1 then (((s.boot.records.head?).map (·.serial)).getD 0 : Nat) else (s.boot.records.length : Nat))
  else if 0xF100 ≤ i ∧ i ≤ 0xF13F then
    some (((s.boot.records.find? fun r => decide (r.serial % 64 = i - 0xF100)).map fun r => (r.octets k : Int)).getD 0)
  else none

/-- The value of an object that the state determines, where it is one. -/
def State.readback (s : State) (i k : Nat) : Option Int :=
  if i = 0x413C ∨ i = 0x413D then s.railLimit i k else if i < 0x4000 then s.read1 i k else if i < 0x7000 then s.read2 i k else if i < 0x8000 then s.read3 i k
  else if i < 0xA000 then s.read4 i k else s.read5 i k

/-- A statistics object (R78 and the counter rules). -/
def isStat (i k : Nat) : Bool := Nat.ble 1 k && Nat.ble k (statSubs i)

/-- Stored and active value of an object (R426, R499). -/
def State.valuesOf (s : State) (i k : Nat) : Int × Int :=
  if k = 0 then ((highestSub i : Int), (highestSub i : Int))
  else if isStat i k then ((counterOf (objKey i k) s.st.snapshot : Int), (s.counter i k : Int))
  else match s.readback i k with
    | some v => (v, v)
    | none => (s.sto i k, s.act i k)

/-- Type, access and moment of effect of a defined object (R426). -/
def objInfo (i k : Nat) : Option (Nat × Nat × Nat) :=
  if k = 0 then (if highestSub i = 0 then none else some (1, 0, 0))
  else if isStat i k then some (3, 0, 0)
  else (objRow? i k).map fun r => (r.ty, r.acc, r.eff)

end Sys2Proof.Machine
end

