-- ==== Sys2Proof/Machine/AtlasOps.lean ====
section
/-! DEFINITION. Atlases in DRAM and NAND: emptiness, axis objects, slots and their block CRCs, loading, and the commit record
(R10, R173, R174, R176, R190 to R192, R200 to R202, R513). -/

namespace Sys2Proof.Machine

/-- Update the atlas of group g. -/
def modAtlas (g : GroupId) (f : Atlas → Atlas) : State → State := modGr g fun x => { x with atlas := f x.atlas }

/-- Every cell of the group's atlas is empty: no confidence nibble is set (R174, R176). -/
def State.atlasEmpty (s : State) (g : GroupId) : Bool :=
  let lo := 8 * cellAddr g 0
  s.mem.dram.all fun c => decide (c.1 < lo ∨ lo + atlasBytes ≤ c.1) || c.1 % 8 != 7 || Nat.blt c.2.toNat 16

/-- The 22 bytes of the axis objects, in the order of R200 offsets 12 to 33. -/
def State.axisBytes (s : State) (g : GroupId) : List Byte :=
  ((List.range 11).map fun k => leBytes 2 (ofSigned 16 (s.sto (0x6001 + g.val) (k + 1)))).flatten

/-- Write the axis objects from their 22 bytes. -/
def putAxis (g : GroupId) (bs : List Byte) (s : State) : State :=
  (List.range 11).foldl (fun a k =>
    let u := bytesNat ((bs.drop (2 * k)).take 2)
    putObj (0x6001 + g.val) (k + 1) (if 7 ≤ k ∧ k ≤ 9 then (u : Int) else toSigned 16 u) a) s

/-- CRC-32 of block n of the atlas that starts at byte `base` of a memory (R200). -/
def blockCrcAt (m : List Host.Cell) (base n : Nat) : Nat := crc32 (readBytes (base + n * 0x100000) 0x100000 m)

/-- The 256 block CRCs of an atlas. -/
def blockCrcs (m : List Host.Cell) (base : Nat) : List Nat := (List.range 256).map (blockCrcAt m base)

/-- Bytes [lo, lo + n) of the NAND meet a page that the controller cannot correct (R381). -/
def Mem.unreadable (m : Mem) (lo n : Nat) : Bool := m.pages.any fun p => decide (1024 * p < lo + n ∧ lo < 1024 * p + 1024)

/-- Bytes [lo, lo + n) of the NAND are written anew: their pages are good again (R381; log 208). -/
def Mem.freshPages (m : Mem) (lo n : Nat) : Mem := { m with pages := m.pages.filter fun p => decide (lo + n ≤ 1024 * p ∨ 1024 * p + 1024 ≤ lo) }

/-- Every block CRC of a slot checks, over pages that can be read (R191, R381). -/
def Mem.slotGood (m : Mem) (g : GroupId) (slot : Nat) : Bool :=
  let t := m.blockCrc[crcIndex g slot]
  !m.unreadable (atlasSlotAddr g (slot % 2)) atlasBytes && t.length == 256 && t == blockCrcs m.nand (atlasSlotAddr g (slot % 2))

/-- The bridge set of a group under the active configuration. -/
def State.bridgeSet (s : State) (g : GroupId) : Nat := maskOf (s.bridgesOf g)

/-- The newest good record of a group's atlas that names a slot (log 37). -/
def State.recordNaming (s : State) (g : GroupId) (slot : Nat) : Option JRecord :=
  let named := s.mem.journal.all.filter fun r => r.good && r.kind == 1 && r.target == g.val + 1 && r.slot == slot
  match named.foldl (fun (m : Option JRecord) r => match m with
    | none => some r
    | some x => if newer r.seq x.seq then some r else some x) none with
  | some r => some r
  | none => s.mem.journal.valid 1 (g.val + 1)

/-- A slot may be loaded: its record's bridge set matches and its block CRCs check (R191). -/
def State.slotLoads (s : State) (g : GroupId) (slot : Nat) : Bool :=
  match s.recordNaming g slot with
  | some r => r.detail / 256 % 256 == s.bridgeSet g && s.mem.slotGood g slot
  | none => false

/-- Confidences above 14 become 14 in a group's DRAM cells (R202). -/
def reduceConf (g : GroupId) (m : List Host.Cell) : List Host.Cell :=
  let lo := 8 * cellAddr g 0
  m.map fun c => if lo ≤ c.1 ∧ c.1 < lo + atlasBytes ∧ c.1 % 8 = 7 ∧ 0xF0 ≤ c.2.toNat then (c.1, c.2 - 0x10) else c

/-- The DRAM atlas of a group becomes the content of a NAND slot, its check bits regenerated (R190), its confidences reduced where the slot was
uploaded without the reference flag (R202). -/
def copyToDram (g : GroupId) (slot : Nat) (s : State) : State :=
  let lo := cellAddr g 0
  let dram := copyRange (atlasSlotAddr g (slot % 2)) (8 * lo) atlasBytes s.mem.nand s.mem.dram
  { s with mem := { s.mem with dram := if s.mem.cut[crcIndex g slot] then reduceConf g dram else dram,
                               bad := s.mem.bad.filter fun a => decide (a < lo ∨ lo + 0x02000000 ≤ a) } }

/-- A NAND slot becomes the content of the DRAM atlas, with its block CRC table (R192, R513 K1 to K3). -/
def copyToNand (g : GroupId) (slot : Nat) (s : State) : State :=
  let nand := copyRange (8 * cellAddr g 0) (atlasSlotAddr g (slot % 2)) atlasBytes s.mem.dram s.mem.nand
  { s with mem := { s.mem.freshPages (atlasSlotAddr g (slot % 2)) atlasBytes with nand := nand, cut := s.mem.cut.set (crcIndex g slot) false, blockCrc := s.mem.blockCrc.set (crcIndex g slot) (blockCrcs nand (atlasSlotAddr g (slot % 2))) } }

/-- The commit record of a group's slot (R190, R511). -/
def State.atlasRecord (s : State) (g : GroupId) (slot : Nat) : JRecord :=
  { kind := 1, target := g.val + 1, slot := slot, trial := 0, confirmed := false, seq := s.nextSeq 1 (g.val + 1),
    detail := s.actN 0x5002 (g.val + 1) + 256 * s.bridgeSet g, axis := s.axisBytes g,
    slotCrc := crc32 ((s.mem.blockCrc[crcIndex g slot].map (leBytes 4)).flatten), good := true }

/-- The record of a slot is written and takes force: the slot becomes the valid one (R190, R192). -/
def commitAtlas (g : GroupId) (slot : Nat) (s : State) : State :=
  let r := s.atlasRecord g slot
  modAtlas g (fun a => { a with record := some { slot := slot, seq := r.seq, bridges := r.detail / 256, poles := r.detail % 256 } })
    (appendRecord r s)

/-- Load a slot that may be loaded (R191): the cells, the axis objects and the binding of its record (log 35, log 36). -/
def loadSlot (g : GroupId) (slot : Nat) (s : State) : State :=
  match s.recordNaming g slot with
  | none => s
  | some r =>
    let s := putAxis g r.axis (copyToDram g slot s)
    let st := 1 + s.nextFree 32 % 3
    setAtlasState g st (modAtlas g (fun a => { a with
      record := some { slot := r.slot, seq := r.seq, bridges := r.detail / 256 % 256, poles := r.detail % 256 }, mtpaDue := true,
      accepted := false }) (drew s))

/-- A group loads the slot its record names, else the other slot (R191); `report` raises E-6023 where neither passes. -/
def loadAtlas (g : GroupId) (report : Bool) (s : State) : State :=
  if (s.bridgesOf g).isEmpty then s
  else
    match s.mem.journal.valid 1 (g.val + 1) with
    | none => onlyIf report (raiseG 0x6023 g []) s
    | some r =>
      if s.slotLoads g r.slot then loadSlot g r.slot s
      else if s.slotLoads g (1 - r.slot) then loadSlot g (1 - r.slot) s
      else onlyIf report (raiseG 0x6023 g []) s

/-- ATLAS_LOAD: the load of a group at power-on (R191). -/
def execAtlasLoad (g : GroupId) (s : State) : Host.Outcome State Fault Refusal := .next (loadAtlas g true s)

/-- The in-memory binding of a group is discarded (R10). A checkpoint copy in progress fails: E-6021, and its commands complete with
FAILED-HARDWARE (R192; log 172). -/
def unbindGroup (g : GroupId) (s : State) : State :=
  let a := s.gr[g].atlas
  let s := setAtlasState g 0 (modAtlas g (fun x => { x with
    record := none, mtpa := .replicate 4 [], mtpaDue := false, accepted := false, run := none, copying := false, learned := false, copyRefs := [],
    buffer := [] }) (clearAtlasCells g s))
  if a.copying then a.copyRefs.foldl (fun b r => complete r stHardware [] b) (raiseG 0x6021 g [] s) else s

/-- The groups whose bridge set differs between two configuration codes. -/
def groupsChanged (old new : Nat) : List GroupId := allGr.filter fun g => decide (bridgesUnder old g ≠ bridgesUnder new g)

/-- Before a new configuration code becomes active, the binding of every group whose bridge set changes is discarded (R10); what a group tells
of it names the bridges that it still holds (R6, R8). -/
def unbindGroups (new : Nat) (s : State) : State := forGr (groupsChanged (s.actN 0x1100 1) new) unbindGroup s

/-- A new configuration code has become active (R10): a group whose bridge set has changed and that has a checkpoint of its new bridge set in
either slot loads it by the test of R191, with E-6023 where its CRCs fail. `old` is the code before. -/
def rebindGroups (old : Nat) (s : State) : State :=
  forGr (groupsChanged old (s.actN 0x1100 1)) (fun g a =>
    loadAtlas g ([0, 1].any fun k => (a.recordNaming g k).any fun r => r.detail / 256 % 256 == a.bridgeSet g) a) s

end Sys2Proof.Machine
end

