-- ==== Sys2Proof/Machine/Duties.lean ====
section
/-! DEFINITION. Shared operations of the carriers' tops, the control pairs and their tasks, the rating, the Sumac windows' opening and
expiry, and the entry of a bridge into RUN (R41 to R43, R219 to R222, R292 to R295, R310, R317, R318, R330). -/

namespace Sys2Proof.Machine

/-! Carrier tops -/

/-- TOP for a frequency in a mode, 0 centre-aligned, 1 sawtooth (R42). -/
def topOf (mode f : Nat) : Nat := if f = 0 then 0 else
  let n := if mode = 1 then 400000000 else 200000000
  (2 * n + f) / (2 * f)

/-- The ceiling of a group under a common factor: its carrier times the factor, rounded down to 100 Hz, at least 2,000 Hz (R220). -/
def State.ceilingAt (s : State) (f : Rat) (g : GroupId) : Nat := max 2000 ((f * s.actR 0x2010 (g.val + 1) / 100).floor.toNat * 100)

/-- Pair-load ceiling of a group (R220); 0 none. -/
def State.pairCeiling (s : State) (g : GroupId) : Nat := if s.place.ceiling = 0 then 0 else s.ceilingAt s.place.factor g

/-- The carrier frequency of a group under a pair-load ceiling and the other ceilings in force: the lowest of them (R42). -/
def State.carrierUnder (s : State) (pair : Nat) (g : GroupId) : Nat :=
  [pair, s.pwr.line[g], s.pwr.island[g]].foldl (fun f c => if c ≠ 0 ∧ c < f then c else f) (s.actN 0x2010 (g.val + 1))

/-- The carrier frequency of a group under the lowest ceiling in force (R42). -/
def State.carrierHz (s : State) (g : GroupId) : Nat := s.carrierUnder (s.pairCeiling g) g

/-- TOP that a bridge takes at its next valley (R42, R43). -/
def State.nextTop (s : State) (b : BridgeId) : Nat :=
  topOf (s.actN 0x2011 ((s.groupFor b).val + 1)) (s.carrierHz (s.groupFor b))

/-! Pairs and tasks (R219 to R222) -/

/-- The other pair. -/
def otherPair (p : PairId) : PairId := ⟨1 - p.val, by omega⟩

/-- Update pair p. -/
def modPair (p : PairId) (f : Pair → Pair) (s : State) : State := { s with pairs := s.pairs.set p (f s.pairs[p]) }

/-- A pair counts as in lockstep for placement and rating: full or shared-cache lockstep with its debug flag clear (R321, R323). -/
def State.inLock (s : State) (p : PairId) : Bool :=
  (decide (s.pairs[p].state = .lockstep) || decide (s.pairs[p].state = .cache)) && !s.pairs[p].flag

/-- A pair or one of its cores can run a task at all. -/
def State.canRun (s : State) (p : PairId) : Bool :=
  match s.pairs[p].state with
  | .lockstep | .cache => true
  | .split => s.pairs[p].cores.any id
  | _ => false

/-- A pair may take the step of bridge b: in lockstep, or split with the bridge in the active mask (R326); with no pair in lockstep any
core (R330). -/
def State.canTake (s : State) (p : PairId) (b : BridgeId) : Bool :=
  if s.inLock p then true
  else if s.inLock (otherPair p) then decide (s.pairs[p].state = .split) && bitAt b.val s.place.mask && s.canRun p
  else s.canRun p

/-- The pair that the step of bridge b belongs on: the preferred one where it can take it (R219, R221, R222). -/
def State.stepPair (s : State) (b : BridgeId) : PairId :=
  let pref : PairId := if s.actN 0x7051 (b.val + 1) = 2 then 1 else 0
  if s.canTake pref b then pref else if s.canTake (otherPair pref) b then otherPair pref else s.br[b].pair

/-- The pair of the torque monitor and thermal model of bridge b: the other pair while both are in lockstep, else the one in lockstep
(R30, R219). -/
def State.watchPair (s : State) (b : BridgeId) : PairId :=
  let other := otherPair s.br[b].pair
  if s.inLock other then other else if s.inLock s.br[b].pair then s.br[b].pair
  else if s.canTake other b then other else s.br[b].pair

/-- The pair of the thermal model of bridge b: a split pair for a bridge in the active mask (R326), else that of its torque monitor (R219). -/
def State.thermalPair (s : State) (b : BridgeId) : PairId :=
  let mine (p : PairId) : Bool := decide (s.pairs[p].state = .split) && bitAt b.val s.place.mask && s.canRun p
  if mine 0 then 0 else if mine 1 then 1 else s.watchPair b

/-- A task moves, with E-7006: task 1 step, 2 torque monitor, 3 placement, 4 thermal model (R221; log 6). -/
def raiseMove (task b : Nat) (src dst : PairId) (planned : Bool) (s : State) : State :=
  bump 0xE070 (if planned then 1 else 2)
    (raise4 0x7006 [(task : Int), (b : Int), (src.val + 1 : Int), (dst.val + 1 : Int), (b2n planned : Int)] s)

/-- Move the step of bridge b to a pair; a step in progress that has given no reference is lost (R27, R40). -/
def moveStep (planned : Bool) (b : BridgeId) (p : PairId) (s : State) : State :=
  if s.br[b].pair = p then s
  else modBr b (fun x => { x with pair := p, ctl := { x.ctl with lost := x.ctl.opened && !x.ctl.gotRef } }) (raiseMove 1 (b.val + 1) s.br[b].pair p planned s)

/-- Move the monitor and the thermal model of bridge b to the pairs that they belong on: two tasks, two events (R219, R326). -/
def moveWatch (planned : Bool) (b : BridgeId) (st : State) : State :=
  let m := st.watchPair b
  let h := st.thermalPair b
  let s := if st.br[b].monPair = m then st
    else modBr b (fun x => { x with monPair := m }) (raiseMove 2 (b.val + 1) st.br[b].monPair m planned st)
  if st.br[b].thermPair = h then s
  else modBr b (fun x => { x with thermPair := h }) (raiseMove 4 (b.val + 1) st.br[b].thermPair h planned s)

/-- A move of placement that has been decided completes at a step boundary (R31). -/
def finishPlacement (s : State) : State :=
  match s.place.move with
  | none => s
  | some (p, planned) =>
    let s := { s with place := { s.place with move := none } }
    if s.place.pair = p then s else raiseMove 3 0 s.place.pair p planned { s with place := { s.place with pair := p } }

/-- Placement runs on CP1 while CP1 is in lockstep, else on CP2 (R31), so also while
neither pair is: it moves at the next step boundary, at once while no bridge steps. -/
def movePlacement (planned : Bool) (s : State) : State :=
  let p : PairId := if s.inLock 0 then 0 else 1
  let s := { s with place := { s.place with move := if s.place.pair = p then none else some (p, planned) } }
  if s.anyRun then s else finishPlacement s

/-- Every task leaves pair p at once (R40, R221). -/
def evacuate (p : PairId) (s : State) : State :=
  let s := movePlacement false s
  let s := forBr allBr (fun b a => if a.br[b].pair = p then moveStep false b (a.stepPair b) a else a) s
  forBr allBr (fun b a => if a.br[b].monPair = p ∨ a.br[b].thermPair = p then moveWatch false b a else a) s

/-- Steps of a bridge per second that its carrier gives under a factor of the pair-load ceiling, 1 without one (R21, R42, R220). -/
def State.stepRate (s : State) (f : Rat) (b : BridgeId) : Rat :=
  match s.groupOf b with
  | none => 0
  | some g => (s.carrierUnder (if f < 1 then s.ceilingAt f g else 0) g : Rat) * (if s.actN 0x2012 (g.val + 1) = 2 then 2 else 1)

/-- Load of a pair in per cent at step rates and a decimation of its monitors (R219): execution times in ns times the run rates. -/
def State.loadOf (s : State) (rate : BridgeId → Rat) (p : PairId) (decim : Nat) : Rat :=
  let cost := s.place.costs
  let sum := ((allBr.filter fun b => (s.groupOf b).isSome).map fun b =>
    (if s.br[b].pair = p then (cost[0] : Rat) * rate b else 0) +
    (if s.br[b].monPair = p then (cost[1] : Rat) * rate b / (decim : Rat) else 0) +
    (if s.br[b].thermPair = p then (cost[2] : Rat) * 10000 else 0)).foldl (· + ·) 0
  (sum + (if s.place.pair = p then (cost[3] : Rat) * 1000 else 0)) / 10000000

/-- Predicted load of a pair at a decimation and a factor of the pair-load ceiling (R220). -/
def State.loadAt (s : State) (p : PairId) (decim : Nat) (f : Rat) : Rat := s.loadOf (s.stepRate f) p decim

/-- The larger load of the two pairs at their decimations and a factor. -/
def State.worstLoad (s : State) (f : Rat) : Rat := max (s.loadAt 0 s.place.decim[0] f) (s.loadAt 1 s.place.decim[1] f)

/-- Ticks between the steps of a bridge of group g at a carrier frequency (R21, R42). -/
def State.stepTicksAt (s : State) (g : GroupId) (f : Nat) : Nat :=
  let top := topOf (s.actN 0x2011 (g.val + 1)) f
  let period := if s.actN 0x2011 (g.val + 1) = 1 then top else 2 * top
  if s.actN 0x2012 (g.val + 1) = 2 then period / 2 else period

/-- A decimation keeps the interval between runs of a pair's monitors within 0x7050.02, at the carrier in force and at the one that a factor of the
pair-load ceiling gives (R220). -/
def State.decimAllowed (s : State) (p : PairId) (d : Nat) (f : Rat) : Bool :=
  allBr.all fun b =>
    match s.groupOf b with
    | none => true
    | some g =>
      decide (s.br[b].monPair ≠ p) ||
        decide (d * max (s.stepTicks b) (s.stepTicksAt g (s.carrierUnder (if f < 1 then s.ceilingAt f g else 0) g)) ≤ s.actN 0x7050 2 * ticksPerUs)

/-- A pair can carry its tasks under R220: some allowed decimation brings its load within the limit at the lowest carriers (R326). -/
def State.carries (s : State) (p : PairId) : Bool :=
  [1, 2, 4].any fun d => (d == 1 || s.decimAllowed p d 0) && decide (s.loadAt p d 0 ≤ s.actR 0x7050 1)

/-- The decimation of a pair's monitors changes, with E-7007 (R220). -/
def setDecim (p : PairId) (d : Nat) (s : State) : State :=
  if s.place.decim[p] = d then s
  else bump 0xE070 3 (raise4 0x7007 [(p.val + 1 : Int), (d : Int)] { s with place := { s.place with decim := s.place.decim.set p d } })

/-- The pair-load ceiling is set or removed, with E-7008 (R220). -/
def setPairCeiling (c : Nat) (f : Rat) (s : State) : State :=
  if s.place.ceiling = c then { s with place := { s.place with factor := f } }
  else
    let s := raise4 0x7008 [(c : Int)] { s with place := { s.place with ceiling := c, factor := f } }
    onlyIf (c != 0) (bump 0xE070 4) s

/-- Highest requested carrier frequency of the groups that exist. -/
def State.topCarrier (s : State) : Nat :=
  allGr.foldl (fun m g => if (s.bridgesOf g).isEmpty then m else max m (s.actN 0x2010 (g.val + 1))) 0

/-- Steps of a bridge per second at its group's requested carrier (R21, R220). -/
def State.askedRate (s : State) (b : BridgeId) : Rat :=
  match s.groupOf b with
  | none => 0
  | some g => s.actR 0x2010 (g.val + 1) * (if s.actN 0x2012 (g.val + 1) = 2 then 2 else 1)

/-- The common factor of the requested carriers that brings a pair's load down to the limit, whatever other ceilings are in force (R220). -/
def State.factorFor (s : State) (p : PairId) (d : Nat) (limit : Rat) : Rat :=
  let fixed := s.loadOf (fun _ => 0) p d
  let full := s.loadOf s.askedRate p d
  if full - fixed ≤ 0 then 1 else clamp01 ((limit - fixed) / (full - fixed))

/-- The decimation that a pair keeps: the one in force, or the largest lower one whose interval is allowed (R220). -/
def State.keptDecim (s : State) (p : PairId) : Nat :=
  let d := s.place.decim[p]
  let f := s.place.factor
  if s.decimAllowed p d f then d else if d = 4 && s.decimAllowed p 2 f then 2 else 1

/-- The measures of R220 for one pair: the first that brings its load within the limit; its decimation is lifted with 10 points to spare, but
not before the ceiling. -/
def settleLoad (p : PairId) (st : State) : State :=
  let limit := st.actR 0x7050 1
  let f := st.place.factor
  let d := st.keptDecim p
  let s := setDecim p d st
  let fits (k : Nat) : Bool := s.decimAllowed p k f && decide (s.loadAt p k f ≤ limit)
  let spare (k : Nat) : Bool := decide (s.loadAt p k f + 10 ≤ limit)
  if limit < s.loadAt p d f then
    if d < 2 && fits 2 then setDecim p 2 s
    else if d < 4 && fits 4 then setDecim p 4 s
    else
      let under (k : Nat) : Rat := min f (s.factorFor p k limit)
      let d := if s.decimAllowed p 4 (under 4) then 4 else if s.decimAllowed p 2 (under 2) then 2 else 1
      let g := under d
      setPairCeiling (max 2000 ((g * (s.topCarrier : Rat) / 100).floor.toNat * 100)) g (setDecim p d s)
  else if s.place.ceiling ≠ 0 then s
  else if d = 4 then (if spare 2 then setDecim p 2 s else s)
  else if d = 2 then (if spare 1 then setDecim p 1 s else s)
  else s

/-- The loads of both pairs and the measures of R220; the ceiling is lifted first, with 10 points to spare. -/
def settleLoads (st : State) : State :=
  let limit := st.actR 0x7050 1
  let s : State := { st with place := { st.place with loads := Vector.ofFn fun p => (st.loadAt p st.place.decim[p] st.place.factor).floor.toNat } }
  if decide (s.place.ceiling ≠ 0) && decide (s.worstLoad 1 + 10 ≤ limit) then setPairCeiling 0 1 s else settleLoad 1 (settleLoad 0 s)

/-- The processor-path rating holds (R330): no pair is split or rejoins (R328), and one is in lockstep. -/
def State.ratingHolds (s : State) : Bool :=
  !(s.pairs.any fun p => decide (p.state = .split)) && s.drive.rejoinRef.isNone && (s.inLock 0 || s.inLock 1)

/-- E-8222 at each withdrawal and return of the rating (R330), a boot's own first rating aside; cause 1 a split, 2 no pair in lockstep, 0
restored (log 6). -/
def settleRating (s : State) : State :=
  let holds := s.ratingHolds
  if s.place.rating = holds then s
  else
    let cause : Int := if holds then 0 else if s.pairs.any (fun p => decide (p.state = .split)) || s.drive.rejoinRef.isSome then 1 else 2
    onlyIf (!s.boot.booting) (raise4 0x8222 [cause, (b2n holds : Int)]) { s with place := { s.place with rating := holds } }

/-- No pair and no split core is left answering: every bridge in RUN goes to its safe state as a level 4 fault, and the drive and the contactors
follow (R255, R310). -/
def settleNoPair (s : State) : State :=
  if s.canRun 0 || s.canRun 1 || !s.anyRun then s
  else driveSafe false (forBr (allBr.filter fun b => decide (s.br[b].state = .run)) (safeRequest .cloveRequest 4) s)

/-- A pair has changed: tasks, load measures, rating, bounds (R220, R270, R317, R330). -/
def settlePairs (s : State) : State := refreshBounds (settleNoPair (settleRating (settleLoads s)))

/-- A pair is withdrawn until the next reset, with E-8206 (R318). -/
def withdrawPair (p : PairId) (s : State) : State :=
  if s.pairs[p].state = .withdrawn then s
  else
    let s := modPair p (fun x => { x with state := .withdrawn, held := true }) s
    settlePairs (evacuate p (raise4 0x8206 [(p.val + 1 : Int)] s))

/-- A fault counts toward R318; at the limit within the window the pair is withdrawn. -/
def countPairFault (p : PairId) (s : State) : State :=
  let keep := (s.now :: s.pairs[p].faults).filter fun t => decide (s.now < t + s.actN 0x8122 2 * 60 * ticksPerS)
  let s := modPair p (fun x => { x with faults := keep }) s
  if s.actN 0x8122 1 ≤ keep.length then withdrawPair p s else s

/-- A split or rejoin in progress on the other pair is abandoned at a mismatch (R329). -/
def abandonSplit (s : State) : State :=
  match s.drive.splitRef with
  | some (r, _) => complete r stAborted [] { s with drive := { s.drive with splitRef := none } }
  | none => s

/-- A pair leaves lockstep: held in reset, its tasks move at once, placement runs on the other pair (R317). -/
def leaveLockstep (p : PairId) (st : PairState) (s : State) : State :=
  let s := modPair p (fun x => { x with state := st, held := true, replica := 0 }) s
  settlePairs (evacuate p (abandonSplit s))

/-! Sumac windows: opening and expiry (R292 to R295) -/

/-- The scope of a window has a bridge in RUN (R292). -/
def State.scopeRuns (s : State) (w : Fin 16) : Bool :=
  match windowGroup w with
  | some g => !(s.running g).isEmpty
  | none => s.anyRun

/-- The Vywick leaves its partner set at the expiry of the time domain window (R293). -/
def leavePartners (s : State) : State :=
  { s with place := { s.place with left := true, partners := [], leader := 0 } }

/-- SS1 on every group that exists. -/
def stopAll (src : Nat) (s : State) : State := forGr allGr (fun g => ss1Source g src) s

/-- The expiry action of a window (R293). -/
def windowAction (w : Fin 16) (s : State) : State :=
  match windowGroup w with
  | some g =>
    if 10 ≤ w.val then stopGroup g s
    else ss1Source g ss1FromWindow (onlyIf (decide (6 ≤ w.val)) (raiseG 0x5034 g []) s)
  | none =>
    if h : w.val < 2 then
      let s := withdrawPair ⟨w.val, h⟩ s
      if s.inLock (otherPair ⟨w.val, h⟩) then s else stopAll ss1FromWindow s
    else if w.val = 14 then stopAll ss1FromWindow s
    else leavePartners s

/-- A window expires: E-8062, its counter, its action (R292, R293, R301). `early` adds E-8063 (R295). -/
def expireWindow (early : Bool) (w : Fin 16) (s : State) : State :=
  let s := modWin w (fun x => { x with opened := none, remaining := 0 }) s
  let s := raiseWindow 0x8062 w [(w.val + 1 : Int)] s
  let s := onlyIf early (raiseWindow 0x8063 w [(w.val + 1 : Int)]) s
  let s := match windowGroup w with
    | some g => bump (0xE081 + g.val) 0x0A s
    | none => bump 0xE080 6 s
  windowAction w s

/-- The window whose being open makes `w` expire at once (R295). -/
def rivalWindow (w : Fin 16) : Option (Fin 16) :=
  if w.val < 2 then some ⟨1 - w.val, by omega⟩
  else if h : w.val < 6 then some ⟨w.val + 4, by omega⟩
  else if h : w.val < 10 then some ⟨w.val - 4, by omega⟩ else none

/-- Open a window whose cause is present and whose scope runs: E-8060 with the remaining time (R292); a meeting of R295 expires it at
once. -/
def openWindow (w : Fin 16) (s : State) : State :=
  let x := s.clove.windows[w]
  if x.opened.isSome || !x.cause || !s.scopeRuns w then s
  else
    let s := raiseWindow 0x8060 w [(w.val + 1 : Int), (x.remaining / ticksPerMs : Nat)] (modWin w (fun y => { y with opened := some s.now }) s)
    let s := match windowGroup w with
      | some g => onlyIf (decide (6 ≤ w.val ∧ w.val < 10)) (raiseG 0x5033 g []) (bump (0xE081 + g.val) 9 s)
      | none => bump 0xE080 5 s
    match rivalWindow w with
    | some r => if s.clove.windows[r].opened.isSome then expireWindow true w s else s
    | none => s

/-- The cause of a window begins (R292). -/
def beginWindow (w : Fin 16) (s : State) : State := openWindow w (modWin w (fun x => { x with cause := true }) s)

/-- The line-port window (R293): its cause is that one port delivers no power while the other does and the auxiliary converter does not deliver;
it closes when both deliver or the converter does. -/
def settleLine (s : State) : State :=
  let n := (s.pwr.delivering.toList.filter id).length
  if s.pwr.aux || n == 2 then endWindow 14 s else if n == 1 then beginWindow 14 s else s

/-- BRIDGE.ENABLE is refused for a window of the bridge's scope with no time left (R292). -/
def State.windowSpent (s : State) (b : BridgeId) : Bool :=
  (List.finRange 16).any fun w => s.clove.windows[w].remaining == 0 &&
    (match windowGroup w with
      | some g => decide (s.groupOf b = some g)
      | none => true)

/-! The count after a wake -/

/-- E and the referenced flag of a wake meet the position c of an absolute source (R159, R285): a multi-turn primary gives E and the flag; another
source gives the angle within the turn, and the flag stays where the rotor did not wake the drive and the two angles lie within 1/64 turn. E-5013
tells of a flag that was set and is lost (log 162). -/
def judgeRetained (g : GroupId) (e : Int) (flag multi : Bool) (c : Option Int) (s : State) : State :=
  let near := c.any fun v => decide ((toSigned 16 (ofSigned 16 (e - v))).natAbs < 1024)
  let e' := match c with
    | some v => if multi then v else 65536 * (e / 65536) + v % 65536
    | none => e
  let keep := multi || (flag && s.pwr.reason != 6 && near)
  let s := modGr g (fun x => { x with pos := { x.pos with count := wrap48 e', stampE := e', referenced := keep, unjudged := none, offsets := [] },
                                      lastCount := e' }) s
  if keep || !flag then s
  else
    let s := raiseG 0x5013 g [] s
    if bitAt 6 s.gr[g].select then ss1Source g ss1FromUnreferenced (raiseG 0x8033 g [] s) else s

/-! Entering RUN -/

/-- The domains and PLLs that RUN needs (R35). -/
def State.runPowered (s : State) : Bool :=
  [1, 2, 3, 4, 5, 7].all (fun n => s.pwr.domains.toList.getD n false) && s.pwr.pll[0] && s.pwr.pll[1]

/-- A bridge enters RUN (R18, R218, R292): the group becomes NORMAL or PARTIAL, windows of present causes open. Without the domains and
clocks of R35 it goes to STANDBY, its start aborted (log 139). No leg-voltage result of the run exists yet (R134). -/
def enterRun (b : BridgeId) (s : State) : State :=
  if s.br[b].state = .run then s
  else if !s.runPowered then (if s.starting b then abortToStandby b 5 s else bridgeTo .standby b s)
  else
    let s := modBr b (fun x => { x with state := .run, bemf := clearCrossings x.bemf,
                                        legs := x.legs.map fun l => { l with mean := none, meanCmd := none, drove := false } }) s
    let s := match s.groupOf b with
      | some g => settleGroup g s
      | none => s
    settleDrive ((List.finRange 16).foldl (fun a w => openWindow w a) s)

end Sys2Proof.Machine
end

