-- ==== Sys2Proof/Machine/Operands.lean ====
section
/-! DEFINITION. The operand forms of the host commands: queue, operand count, authentication, fields and refusals (R400, R407 to R409,
R420, R421, R424, R426, R427). -/

namespace Sys2Proof.CmdEntry

/-- Operand word n (from 1); 0 where it is missing. -/
def word (e : CmdEntry) (n : Nat) : Nat := (e.ops.getD (n - 1) 0).toNat

/-- Where a command's completion goes (R397). -/
def ref (e : CmdEntry) (code : Nat) : Machine.CmdRef := { queue := e.queue, seq := e.seq, code := code }

end Sys2Proof.CmdEntry

namespace Sys2Proof.Machine

/-! Authentication of Q0 (R407 to R409) -/

/-- The Q0 key in effect: low half 0xC030.01, high half 0xC030.02, both active values (R407). -/
def State.q0Key (s : State) : BitVec 128 := BitVec.ofNat 128 (s.actN 0xC030 1 + 2 ^ 64 * s.actN 0xC030 2)

/-- Word 0 of a command entry (R400). -/
def entryWord0 (code : Nat) (e : CmdEntry) : Nat := e.seq.toNat + 2 ^ 32 * code + 2 ^ 48 * e.ops.length

/-- Input of the CMAC: the session number, then every word before the tag (R408). -/
def tagInput (session code : Nat) (e : CmdEntry) : List Byte :=
  leBytes 4 session ++ leBytes 8 (entryWord0 code e) ++ (e.ops.map wordBytes).flatten

/-- The tag: the first 8 bytes of the CMAC as a little-endian word (R408). -/
def tagOf (key : BitVec 128) (session code : Nat) (e : CmdEntry) : Word :=
  BitVec.ofNat 64 ((aesCmac key (tagInput session code e)).toNat % 2 ^ 64)

/-- The key check value: the first 4 bytes of the CMAC of one all-zero block (R407). -/
def State.keyCheck (s : State) : Nat := (aesCmac s.q0Key (List.replicate 16 0)).toNat % 2 ^ 32

/-- A Q0 command passes authentication; an unprovisioned unit passes only what R409 names (`zeroKeyOk`), in STANDBY with the service pin
asserted. -/
def State.authOk (s : State) (code : Nat) (zeroKeyOk : Bool) (e : CmdEntry) : Bool :=
  decide (e.tag = tagOf s.q0Key s.io.session code e) &&
    (decide (s.q0Key ≠ 0) || (zeroKeyOk && s.allStandby && s.boot.servicePin))

/-- An authentication failure: E-C005, counted, REJECTED-AUTH (R408). -/
def authFailed (e : CmdEntry) (code : Nat) (s : State) : State :=
  refuse (e.ref code) stAuth 0 (bump 0xE0C0 4 (raise4 0xC005 [(e.seq.toNat : Int)] s))

/-! The order of refusals (R421) -/

/-- The commands that the ROM serves in recovery mode (R509): PARAM.READ, FIRMWARE.UPLOAD, FIRMWARE.ACTIVATE and DRIVE.RESET. -/
def recoveryServes : List Nat := [0x0401, 0x0801, 0x0309, 0x0104]

/-- A command on one of `queues` with an operand count that `lenOk` accepts (`want` words where it is fixed), authenticated on Q0, runs
`body`; otherwise it is refused in the order of R421. -/
def runCommand (e : CmdEntry) (code : Nat) (queues : List Nat) (lenOk : Bool) (want : Nat) (zeroKeyOk : Bool)
    (body : CmdRef → State → State) (s : State) : State :=
  let r := e.ref code
  if !queues.contains e.queue.val then refuse r stCommand 0 s
  else if !lenOk then refuse r stOperand (min e.ops.length want + 1) s
  else if e.queue.val == 0 && !s.authOk code zeroKeyOk e then authFailed e code s
  else if s.boot.recovery && !recoveryServes.contains code then refuse r stState 0 s
  else body r s

/-- A command of `want` operand words on one queue. -/
def command (e : CmdEntry) (code queue want : Nat) (body : CmdRef → State → State) (s : State) : State :=
  runCommand e code [queue] (e.ops.length == want) want false body s

/-- A group operand: 1 to 4. -/
def groupOperand (n : Nat) : Option GroupId := if h : 1 ≤ n ∧ n ≤ 4 then some ⟨n - 1, by omega⟩ else none

/-- A pair operand: 1 or 2. -/
def pairOperand (n : Nat) : Option PairId := if h : 1 ≤ n ∧ n ≤ 2 then some ⟨n - 1, by omega⟩ else none

/-- The bridges of a mask operand (R424). -/
def bridgesOfMask (m : Nat) : List BridgeId := allBr.filter fun b => bitAt b.val m

/-- The groups of a mask operand. -/
def groupsOfMask (m : Nat) : List GroupId := allGr.filter fun g => bitAt g.val m

/-- A group exists under R9. -/
def State.groupExists (s : State) (g : GroupId) : Bool := !(s.bridgesOf g).isEmpty

/-- A command that names one group in [7:0] of word 1: REJECTED-RANGE for any other number. -/
def withGroup (e : CmdEntry) (body : GroupId → CmdRef → State → State) (r : CmdRef) (s : State) : State :=
  match groupOperand (bits 7 0 (e.word 1)) with
  | some g => body g r s
  | none => refuse r stRange 1 s

/-- A command that names one pair in [7:0] of word 1. -/
def withPair (e : CmdEntry) (body : PairId → CmdRef → State → State) (r : CmdRef) (s : State) : State :=
  match pairOperand (bits 7 0 (e.word 1)) with
  | some p => body p r s
  | none => refuse r stRange 1 s

/-- A command that names bridges in [3:0] of word 1, not 0. -/
def withBridges (e : CmdEntry) (body : List BridgeId → CmdRef → State → State) (r : CmdRef) (s : State) : State :=
  if bits 3 0 (e.word 1) = 0 then refuse r stRange 1 s else body (bridgesOfMask (bits 3 0 (e.word 1))) r s

/-- A command that names a stream in [1:0] of word 1. -/
def streamOperand (e : CmdEntry) : StreamId := ⟨bits 1 0 (e.word 1) % 4, by omega⟩

/-- Complete with OK and result words. -/
def finish (r : CmdRef) (results : List Nat) (s : State) : State := complete r stOk (results.map (BitVec.ofNat 64)) s

end Sys2Proof.Machine
end

