-- ==== Sys2Proof/Machine/Motion.lean ====
section
/-! DEFINITION. Starting and stopping bridges: start commands, the listen phase and its outcomes, prime, angle, charge, catch and ramp
phases, BRIDGE.DISABLE, changes between safe patterns (R86 to R88, R235 to R245, R250 to R253, R342 to R345). -/

namespace Sys2Proof.Machine

/-! Gate demand (R95, R342 to R345) -/

/-- Running gate charge of a position, nC; 0x9010.03 before the first measured turn-on (R95, R342). -/
def State.gateCharge (s : State) (b : BridgeId) (k : Fin 6) : Nat :=
  if (s.br[b].pos[k]).charge.isEmpty then s.actN 0x9010 3 else meanNat (s.br[b].pos[k]).charge

/-- Q_b of a bridge, nC (R342). -/
def State.bridgeCharge (s : State) (b : BridgeId) : Nat := (allSlots.map (s.gateCharge b)).foldl (· + ·) 0

/-- Gate swing of a group, 0.1 V (R81): on level 0x3000 less off level 0x3001. -/
def State.gateSwing (s : State) (g : GroupId) : Int := s.act 0x3000 (g.val + 1) - s.act 0x3001 (g.val + 1)

/-- Gate demand of bridges at frequencies, W (R342). -/
def State.gateDemand (s : State) (bs : List BridgeId) (f : GroupId → Nat) : Rat :=
  (bs.map fun b => match s.groupOf b with
    | some g => (s.bridgeCharge b : Rat) / 1000000000 * (s.gateSwing g : Rat) / 10 * (f g : Rat)
    | none => 0).foldl (· + ·) 0

/-- A start is refused for gate power, with E-9003 (R344, R345). -/
def State.powerRefuses (s : State) (named : List BridgeId) : Bool :=
  named.any (fun b => match s.groupOf b with
    | some g => s.pwr.island[g] != 0 && Nat.blt s.pwr.island[g] 2000
    | none => false) ||
  (!s.pwr.aux && decide ((s.pwr.pg : Rat) / 10 <
    s.gateDemand (allBr.filter fun b => decide (s.br[b].state = .run) || s.starting b || named.contains b) (fun _ => 2000)))

/-! The atlas for a start (R172, R179) -/

/-- A cell word of a group. -/
def State.cell (s : State) (g : GroupId) (i : Nat) : Word := s.mem.dramWord (cellAddr g i)

/-- Confidence of a cell word (R174). -/
def confOf (w : Word) : Nat := bits 63 60 w.toNat

/-- Index of a cell (R173). -/
def cellIndex (t a q d : Nat) : Nat := t * 2 ^ 23 + a * 2 ^ 15 + q * 2 ^ 7 + d

/-- A grid point lies within the current limits of group g (R172, R179): inside the circle of 0x7000.01 to 04 and not below the d-axis
limit 0x7000.05 to 08. -/
def State.inRegion (s : State) (g : GroupId) (d q : Nat) : Bool :=
  let lo := s.act (0x6001 + g.val) 1
  let hi := s.act (0x6001 + g.val) 2
  let iq := s.act (0x6001 + g.val) 3
  let i := s.act 0x7000 (g.val + 1)
  let x := 127 * lo + (d : Int) * (hi - lo)
  let y := (2 * (q : Int) - 255) * iq
  decide (x * x * (255 * 255) + y * y * (127 * 127) ≤ (127 * 255 * i) * (127 * 255 * i)) &&
    decide (127 * s.act 0x7000 (g.val + 5) ≤ x)

/-- No cell is empty within the current region of a group, at any angle and temperature (R179). -/
def State.atlasReady (s : State) (g : GroupId) : Bool :=
  (List.range 128).all fun d => (List.range 256).all fun q => !s.inRegion g d q ||
    (List.range 1024).all fun k => confOf (s.cell g (cellIndex (k / 256) (k % 256) q d)) != 0

/-! Acceptance of a start command (R9, R35, R147, R179, R218, R235, R290, R292, R326, R367, R373, R484, R492) -/

/-- An instance of a self-test kind belongs to a bridge. -/
def instOnBridge (kind inst : Nat) (b : BridgeId) : Bool := if kind = 8 then inst / 6 == b.val else inst / 3 == b.val

/-- A self-test holds bridge b from RUN, or one of its STANDBY-only tests runs (R484, R492). -/
def State.testHolds (s : State) (b : BridgeId) (g : GroupId) : Bool :=
  ([1, 8, 9] : List (Fin 12)).any (fun k => s.test.inst[k].toList.zipIdx.any fun x => x.1.result == 2 && instOnBridge k.val x.2 b) ||
  s.test.running.any (fun r => (r.1.val == 1 || r.1.val == 8 || r.1.val == 9) && instOnBridge r.1.val r.2 b) ||
  [s.actN 0x5000 (g.val + 1), s.actN 0x5000 (g.val + 5)].any fun i =>
    if h : 1 ≤ i ∧ i ≤ 8 then s.test.inst[10][i - 1].result == 2 else false

/-- A bridge may run beside a split pair (R326, R329): one outside the mask where a pair in lockstep carries the load (R220). -/
def State.splitAllows (s : State) (b : BridgeId) : Bool :=
  (!(s.pairs.any fun p => decide (p.state = .split)) || bitAt b.val s.place.mask ||
    ([0, 1] : List PairId).any fun p => s.inLock p && s.carries p) &&
    !(s.drive.splitRef.isSome && bitAt b.val s.place.mask)

/-- A start command may start bridge b (R235), all but the gate power. -/
def State.startAllowed (s : State) (b : BridgeId) : Bool :=
  match s.groupOf b with
  | none => false
  | some g =>
    (decide (s.drive.state = .armed) || decide (s.drive.state = .run)) &&
    ((decide (s.br[b].state = .standby) && !s.starting b) || s.heldCatch b) &&
    decide (s.act 0x5000 (g.val + 1) ≠ 0) && s.atlasReady g && decide (s.gr[g].cond ≠ .stopped) && !s.windowSpent b &&
    s.die.firstRound && !s.die.stopped && !(s.clove.brakeLatch && decide (s.brakeGroup = some g)) && !s.testHolds b g &&
    s.splitAllows b && s.runPowered

/-! Phases (R236) -/

/-- A bridge enters a start phase. -/
def setPhase (b : BridgeId) (ph : Nat) : State → State := fun s => modBr b (fun x => { x with start := { x.start with phase := ph, since := s.now } }) s

/-- Every high-side rail of a bridge is ready (R86, R244). -/
def State.highRailsReady (s : State) (b : BridgeId) : Bool := allSlots.all fun k => !slotHigh k || (s.br[b].pos[k]).railReady

/-- Bridges of a group in the listen phase. -/
def State.listening (s : State) (g : GroupId) : List BridgeId := (s.bridgesOf g).filter fun b => s.br[b].start.phase == 1

/-- A bridge joins a running group as it enters RUN (R227, R237; log 192): it was started so, or a bridge of the group is in RUN that its start
command does not name. -/
def State.joins (s : State) (b : BridgeId) : Bool :=
  s.br[b].start.joining || match s.groupOf b with
    | none => false
    | some g => (s.running g).any fun c => decide (c ≠ b) && !(s.drive.starts.any fun k => k.bridges[b] && k.bridges[c])

/-- The bridge joins: it has no share from its entry into RUN to its arrival boundary (R225, R227). -/
def noteJoin (b : BridgeId) (arrival : Nat) : State → State := modBr b fun x =>
  { x with start := { x.start with joining := true }, ctl := { x.ctl with arrival := arrival, joinAt := none, share := 0, filtShare := 0 } }

/-- The Ramp phase begins, with E-7102; the bridge is in RUN for its start command (R235, R237). A joining bridge takes no ramp and waits
for its arrival boundary (R227, R237). The group's first bridge in the phase releases the brake, and F is held at 0 while the feedback does not show it
released, also where a failed switch test blocks the release (R290). -/
def enterRamp (b : BridgeId) (s : State) : State :=
  let joining := if s.br[b].state = .run then s.br[b].start.joining else s.joins b
  let s := enterRun b s
  if s.br[b].state ≠ .run then s
  else
  let s := raiseB 0x7102 b [] (setPhase b (if joining then 0 else 6) s)
  let s := onlyIf joining (fun a => modBr b (fun x => { x with start := .reset }) (noteJoin b 1 a)) s
  let s := match s.groupOf b with
    | some g =>
      let first := decide (s.brakeGroup = some g) && !s.clove.brakeOn
      let lead := !(s.running g).any fun c => decide (c ≠ b) && (s.br[c].start.phase == 0 || s.br[c].start.phase == 6)
      let s := onlyIf first releaseBrake s
      onlyIf (first && (s.clove.brakeOn || lead) && !s.clove.brakeFb) (modGr g fun x => { x with rampHold := true }) s
    | none => s
  startOutcome b 0 s

/-- A bridge enters a phase of its start in RUN (R35, R236); one that joins has no share from here on (R227). -/
def runPhase (b : BridgeId) (ph : Nat) (st : State) : State :=
  let s := enterRun b st
  if s.br[b].state = .run then setPhase b ph (onlyIf (st.joins b) (noteJoin b 3) s) else s

/-- A bridge enters the Angle phase in RUN (R236, R242). -/
def enterAngle (b : BridgeId) (s : State) : State := runPhase b 3 s

/-- A prime pulse begins: the three low sides are commanded on together (R86). -/
def primeOn (b : BridgeId) (s : State) : State :=
  let s := modBr b (fun x => { x with start := { x.start with pulseAt := s.now }, bemf := clearCrossings x.bemf }) s
  allSlots.foldl (fun a k => if slotHigh k then a else turnOn (posOf b k) a.now a) s

/-- The low sides of a prime pulse are off again (R86): the pulse has ended after 0x3050.01. -/
def endPulse (b : BridgeId) (s : State) : State := allSlots.foldl (fun a k => if slotHigh k then a else turnOff (posOf b k) a) s

/-- A prime begins on a bridge, with its first pulse (R86). -/
def beginPrime (b : BridgeId) (s : State) : State :=
  primeOn b (bump (0xE031 + b.val) 9 (modBr b (fun x => { x with start := { x.start with phase := 2, since := s.now, pulses := 0,
                                                                                         primes := x.start.primes + 1 } }) s))

/-- A prime is refused, with E-300E, on a bridge whose high-side rails are not all ready (R88). -/
def refusePrime (b : BridgeId) (s : State) : State :=
  if s.highRailsReady b then s else bump (0xE031 + b.val) 0x0A (raiseB 0x300E b [] s)

/-- The source in use of a group as an interface, where it has one that is valid. -/
def State.usedSource (s : State) (g : GroupId) : Option Iface :=
  let n := s.gr[g].pos.src
  if h : 1 ≤ n ∧ n ≤ 8 then (if s.sense.iface[n - 1].valid then some s.sense.iface[n - 1] else none) else none

/-- Electrical frequency of a group from a speed in r/min, Hz. -/
def State.elecHz (s : State) (g : GroupId) (rpm : Rat) : Rat := rpm * s.actR 0x5002 (g.val + 1) / 60

/-- Clove enters ASC on a bridge at rectification (R239): the side under R105; a bridge with none, or an off-only bound, aborts with cause
0x8. -/
def catchBridge (g : GroupId) (b : BridgeId) (s : State) : State :=
  if s.actN 0x7110 (g.val + 1) = 1 || s.ascSide b = 1 then abortToStandby b 8 s
  else setPhase b 5 (forceBridge .catchAsc (s.ascSide b) 3 b s)

/-- The angle is to be acquired from the ASC currents (R197, R245): settle, then window. `held` is a start from a held catch ASC, whose
settle counts from the entry of the ASC and whose timeout counts from the command. -/
def beginAcquire (g : GroupId) (asc held : Bool) (entered : Nat) (s : State) : State :=
  let settled := decide (entered + s.actN 0x6031 1 * ticksPerMs ≤ s.now)
  modGr g (fun x => { x with reacq := { x.reacq with phase := if asc && !(held && settled) then 1 else 2,
                                                     since := if held && !settled then entered else s.now, limit := s.now,
                                                     asc := asc, isCatch := true, alphas := [] } }) s

/-- θ_e of a bridge's group at a zero crossing of the bridge (R197, R243): the angle of phase U there less 90°, in the group's frame. -/
def State.crossingTheta (s : State) (b : BridgeId) (angle : Nat) : Int := (angle : Int) - 16384 - s.act 0x6005 (b.val + 1)

/-- The starting values of TURNING from the crossings of bridge b (R240, R243): speed and direction, and for a source that is not referenced in the
turn the angle, which the observer then carries. -/
def takeCrossings (g : GroupId) (b : BridgeId) (s : State) : State :=
  let m := s.br[b].bemf
  let rpm : Rat := (m.freq : Rat) / 1000 * 60 / max 1 (s.machinePoles g : Rat)
  let at0 := (m.crossings.head?.map (·.1)).getD s.now
  let s := modGr g (fun x => { x with
    pos := { x.pos with speed := rpm },
    obs := { x.obs with angle := ofSigned 16 (s.crossingTheta b m.angle), speed := rpm, stamp := at0 } }) s
  if s.turnReferenced g then s
  else forBr (s.listening g) (fun c => modBr c fun x => { x with start := { x.start with found := true } }) s

/-- The listen phase of an identification has ended (R185): at standstill its first step begins, with E-6010, and the bridges report RUN; otherwise
ATLAS.IDENTIFY completes with REJECTED-STATE. Its bridges leave the phase, and no catch follows (log 150). -/
def identListened (g : GroupId) (still : Bool) (s : State) : State :=
  let a := s.gr[g].atlas
  let s := forBr (s.listening g) (fun b => modBr b fun x => { x with start := .reset }) s
  if still && s.runPowered then
    let s := modGr g (fun x => { x with atlas := { x.atlas with ident := a.ident.map fun i => (1, i.2), result := 0, stepAt := s.now } }) s
    settlePd7 (forBr (s.bridgesOf g) enterRun (raiseG 0x6010 g [] s))
  else
    let s := modGr g (fun x => { x with atlas := { x.atlas with ident := none, identRef := none } }) s
    settlePd7 (match a.identRef with
      | some r => refuse r stState 0 s
      | none => s)

/-- The starting values of STANDSTILL (R240): the speed of the source in use, otherwise zero; a group with a bridge in RUN keeps its own. -/
def standStill (g : GroupId) (s : State) : State :=
  if (s.usedSource g).isSome || !(s.running g).isEmpty then s
  else modGr g (fun x => { x with pos := { x.pos with speed := 0 }, obs := { x.obs with speed := 0 } }) s

/-- The listen outcome of a group is taken (R238 to R241): E-7101, its counter, the next phase of each bridge that listens. Outcomes: 1
STANDSTILL, 2 TURNING, 3 RECTIFYING. -/
def listenOutcome (g : GroupId) (oc : Nat) (st : State) : State :=
  let bs := st.listening g
  match bs with
  | [] => st
  | low :: _ =>
    let s := forBr bs (fun b a => onlyIf (a.joins b) (modBr b fun x => { x with start := { x.start with joining := true } }) a) st
    let fSrc : Rat := match s.usedSource g with
      | some i => s.elecHz g i.speed
      | none => 0
    let moving := decide (oc = 1) && (decide (s.actR 0x3050 4 < abs fSrc) ||
      (bs.any (fun b => s.br[b].start.joining) && decide (s.actR 0x8020 (g.val + 13) < abs s.gr[g].pos.speed)))
    let oc := if moving then 2 else oc
    let m := s.br[low].bemf
    let s := modGr g (fun x => { x with listen := oc, t0 := if bs.all fun b => s.br[b].start.joining then x.t0 else 0 }) s
    let s := raiseG 0x7101 g [(oc : Int), m.freq, (m.amp : Int)] s
    let s := bump (0xE076 + g.val) (oc + 1) s
    if s.gr[g].atlas.ident.isSome then identListened g (decide (oc = 1)) s
    else if oc = 1 then forBr bs (fun b a => if a.highRailsReady b then enterAngle b a else beginPrime b a) (standStill g s)
    else
      let s := forBr bs refusePrime s
      if oc = 2 then
        let off : Bool := match s.usedSource g with
          | some i => decide (s.actR 0x5030 (g.val + 5) < abs (abs i.speed - abs ((m.freq : Rat) / 1000 * 60 / max 1 (s.actR 0x5002 (g.val + 1)))))
          | none => false
        if off && !moving then forBr bs (fun b a => abortToStandby b 1 a) s
        else forBr bs (fun b a => runPhase b 4 a) (onlyIf (!moving && bs.all fun b => !s.br[b].start.joining) (takeCrossings g low) s)
      else
        let s := forBr bs (catchBridge g) s
        if (bs.filter fun b => s.br[b].start.phase == 5 && !s.br[b].start.joining).isEmpty then s else beginAcquire g true false s.now s

/-- Begin the listen phase of a group's named bridges in STANDBY (R236, R238). -/
def beginListen (g : GroupId) (bs : List BridgeId) (joining : Bool) (s : State) : State :=
  if bs.isEmpty then s
  else
    let s := modGr g (fun x => { x with listen := 0, listenSince := s.now, listenUdc := s.drive.udc }) s
    let s := forBr bs (fun b a => turnAllOff b
      (modBr b (fun x => { x with start := { Start.reset with phase := 1, since := a.now, joining := joining },
                                  bemf := { x.bemf with seen := 0, reached := false },
                                  legs := x.legs.map fun l => { l with volts := none } }) a)) s
    bump (0xE076 + g.val) 1 s

/-- Start from held catch ASCs: the Catch ASC phase at once (R245, R253). -/
def startHeld (g : GroupId) (bs : List BridgeId) (joining : Bool) (s : State) : State :=
  match bs with
  | [] => s
  | b0 :: _ =>
    let entered := s.br[b0].force.ascAt
    let s := forBr bs (fun b a => modBr b (fun x => { x with start := { Start.reset with phase := 5, since := a.now, joining := joining } }) a) s
    if joining then s else beginAcquire g true true entered (modGr g (fun x => { x with t0 := 0 }) s)

/-- A start command over its named bridges (R235, R236). -/
def startBridges (named : List BridgeId) (r : CmdRef) (s : State) : State :=
  if !(named.all s.startAllowed) || named.isEmpty then refuse r stState 0 s
  else if s.powerRefuses named then refuse r stState 0 (bump 0xE090 4 (raise4 0x9003 [] s))
  else
    let cmd : StartCmd := { ref := r, bridges := Vector.ofFn fun b => named.contains b, outcome := .replicate 4 none }
    let s := { s with drive := { s.drive with starts := s.drive.starts ++ [cmd] } }
    forGr allGr (fun g a =>
      let mine := named.filter fun b => decide (a.groupOf b = some g)
      let joining := !(a.running g).isEmpty
      startHeld g (mine.filter a.heldCatch) joining (beginListen g (mine.filter fun b => !a.heldCatch b) joining a)) s

/-- BRIDGE.ENABLE (R424, R235). -/
def bridgeEnable (e : CmdEntry) : State → State :=
  command e 0x0202 1 1 (withBridges e startBridges)

/-- CATCH.START: every bridge of the group (R424, R235). -/
def catchStart (e : CmdEntry) : State → State :=
  command e 0x0204 1 1 (withGroup e fun g r s => if s.groupExists g then startBridges (s.bridgesOf g) r s else refuse r stState 0 s)

/-- BRIDGE.DISABLE (R250): a bridge in a start ends it with cause 0x6; a bridge in RUN ramps to zero. -/
def disableBridges (named : List BridgeId) (r : CmdRef) (s : State) : State :=
  let live (a : State) (b : BridgeId) : Bool := decide (a.br[b].state = .run) || a.starting b
  if !(named.any (live s)) then refuse r stState 0 s
  else
    let mine := named.filter (live s)
    let s := { s with drive := { s.drive with disables := s.drive.disables ++ [(r, maskOf mine)] } }
    let s := forBr mine (fun b a =>
      if a.starting b then abortToRest b 6 a
      else if a.br[b].ctl.rampDown.isSome then a
      else modBr b (fun x => { x with ctl := { x.ctl with rampDown := some a.now } }) a) s
    let s := forGr allGr (fun g a => onlyIf (a.gr[g].atlas.ident.isSome && mine.any fun b => decide (a.groupOf b = some g)) (abortIdent g) a) s
    settleDrive (settleDisables s)

/-- BRIDGE.DISABLE (R424). -/
def bridgeDisable (e : CmdEntry) : State → State := command e 0x0203 1 1 (withBridges e disableBridges)

/-! The meanings -/

/-- BRIDGE_ENABLE. -/
def execBridgeEnable (e : CmdEntry) (s : State) : Host.Outcome State Fault Refusal := .next (bridgeEnable e s)

/-- BRIDGE_DISABLE. -/
def execBridgeDisable (e : CmdEntry) (s : State) : Host.Outcome State Fault Refusal := .next (bridgeDisable e s)

/-- CATCH_START. -/
def execCatchStart (e : CmdEntry) (s : State) : Host.Outcome State Fault Refusal := .next (catchStart e s)

/-- LISTEN_MINIMUM_EXPIRY (R238): with no phase voltage at the minimum amplitude STANDSTILL; with nine crossings TURNING. -/
def listenMinimum (g : GroupId) (s : State) : State :=
  let s := setNow (s.gr[g].listenSince + s.actN 0x7100 1 * ticksPerUs) s
  match s.listening g with
  | [] => s
  | low :: rest =>
    if (low :: rest).all fun b => !s.br[b].bemf.reached then listenOutcome g 1 s
    else if 9 ≤ s.br[low].bemf.seen then listenOutcome g 2 s else s

/-- LISTEN_MINIMUM_EXPIRY. -/
def execListenMinimumExpiry (g : GroupId) (s : State) : Host.Outcome State Fault Refusal := .next (listenMinimum g s)

/-- LISTEN_CEILING_EXPIRY (R238): TURNING with at least six crossings, else STANDSTILL. -/
def listenCeiling (g : GroupId) (s : State) : State :=
  let s := setNow (s.gr[g].listenSince + s.actN 0x7100 2 * ticksPerMs) s
  match s.listening g with
  | [] => s
  | low :: _ => listenOutcome g (if 6 ≤ s.br[low].bemf.seen then 2 else 1) s

/-- LISTEN_CEILING_EXPIRY. -/
def execListenCeilingExpiry (g : GroupId) (s : State) : Host.Outcome State Fault Refusal := .next (listenCeiling g s)

/-- SALIENCY_SEARCH_TIMEOUT (R242): no d axis found within 0x7100.04, cause 0x3. -/
def saliencyTimeout (b : BridgeId) (s : State) : State :=
  let s := setNow (s.br[b].start.since + s.actN 0x7100 4 * ticksPerMs) s
  if s.br[b].start.phase = 3 && !s.br[b].start.found then abortToStandby b 3 s else s

/-- SALIENCY_SEARCH_TIMEOUT. -/
def execSaliencySearchTimeout (b : BridgeId) (s : State) : Host.Outcome State Fault Refusal := .next (saliencyTimeout b s)

/-- CHARGE_LIMIT_EXPIRY (R244): the rails are not ready within 0x7100.07, cause 0x2. -/
def chargeLimit (b : BridgeId) (s : State) : State :=
  let s := setNow (s.br[b].start.since + s.actN 0x7100 7 * ticksPerMs) s
  if s.br[b].start.phase = 4 && !s.highRailsReady b then abortToStandby b 2 s else s

/-- CHARGE_LIMIT_EXPIRY. -/
def execChargeLimitExpiry (b : BridgeId) (s : State) : Host.Outcome State Fault Refusal := .next (chargeLimit b s)

/-- DISABLE_RAMP_END (R250): the bridge goes to STANDBY or to a held catch ASC. -/
def disableRampEnd (b : BridgeId) (s : State) : State :=
  match s.br[b].ctl.rampDown with
  | some t =>
    let s := setNow (t + s.actN 0x7100 5 * ticksPerMs) s
    toRest b (modBr b (fun x => { x with ctl := { x.ctl with rampDown := none } }) s)
  | none => s

/-- DISABLE_RAMP_END. -/
def execDisableRampEnd (b : BridgeId) (s : State) : Host.Outcome State Fault Refusal := .next (disableRampEnd b s)

/-- A safe pattern changes between off and ASC, with E-7107 and its counter (R252, R266). -/
def safeChange (p : Fin 4) (b : BridgeId) (s : State) : State :=
  let s := raiseB 0x7107 b [(p.val : Int)] s
  let s := match s.groupOf b with
    | some g => bump (0xE076 + g.val) 8 s
    | none => s
  changePattern p b s

/-- SAFE_OFF_TO_ASC (R252): the clamp condition has held for 0x7110.0B on a bridge in SAFE-OFF whose bound is not off-only and whose
source is neither STO nor a short-circuit escalation. -/
def safeOffToAsc (b : BridgeId) (s : State) : State :=
  let f := s.br[b].force
  let s := match f.clampAt with
    | some t => setNow (t + s.actN 0x7110 11 * ticksPerUs) s
    | none => s
  let bound := match s.groupOf b with
    | some g => s.actN 0x7110 (g.val + 1)
    | none => 0
  if f.clampAt.isSome && s.br[b].state = .safeOff && !f.sources.isEmpty && f.pattern = 1 && !(f.sources.any fun x => srcAlwaysOff x.1) && bound != 1 &&
      2 ≤ (s.ascSide b).val then settleDrive (safeChange (s.ascSide b) b s) else s

/-- SAFE_OFF_TO_ASC. -/
def execSafeOffToAsc (b : BridgeId) (s : State) : Host.Outcome State Fault Refusal := .next (safeOffToAsc b s)

/-- The exit condition of an ASC: k_C times f_e below 0x7110.09 × 0x6030.06 × U_C, and Clove's own f_C, where valid, does not contradict it
(R252). `freq` in mHz. -/
def State.ascExit (s : State) (g : GroupId) (freq : Nat) : Bool :=
  let k := s.actR 0x7110 (g.val + 5)
  let limit := s.actR 0x7110 9 / 1000 * s.eLimit
  decide (k * (freq : Rat) / 1000000 < limit) && (!s.clove.speed[g].valid || decide (s.eClove g < limit))

/-- ASC_TO_OFF (R252, R253): a bridge in SAFE-ASC goes to SAFE-OFF; a held catch ASC ends to STANDBY with E-7108. -/
def ascToOff (b : BridgeId) (freq : Nat) (s : State) : State :=
  match s.groupOf b with
  | none => s
  | some g =>
    if !s.inAsc b || !s.ascExit g freq then s
    else if s.heldCatch b then
      settleDischarge (raiseB 0x7108 b [] (bridgeTo .standby b (dropForce b s)))
    else if s.starting b then s
    else settleDrive (safeChange 1 b s)

/-- ASC_TO_OFF. -/
def execAscToOff (b : BridgeId) (freq : Nat) (s : State) : Host.Outcome State Fault Refusal := .next (ascToOff b freq s)

end Sys2Proof.Machine
end

