-- ==== Sys2Proof/Machine/Supervise.lean ====
section
/-! DEFINITION. Input supervision: checks, substitutes and reactions of the supervision records (R137 to R141, R145, R532), and the
converter scalings (R115, R118, R120). -/

namespace Sys2Proof.Machine

/-- Bridge of a 0-based number. -/
def brAt (n : Nat) : BridgeId := ⟨n % 4, by omega⟩
/-- Group of a 0-based number. -/
def grAt (n : Nat) : GroupId := ⟨n % 4, by omega⟩

/-- Update the record of input n. -/
def modInput (n : Fin 84) (f : Input → Input) (s : State) : State :=
  { s with sense := { s.sense with inputs := s.sense.inputs.set n (f s.sense.inputs[n]) } }

/-- Bridges that use an input (R140). -/
def State.inputBridges (s : State) (n : Nat) : List BridgeId :=
  if n < 0x0C then [brAt (n / 3)] else if 0x10 ≤ n ∧ n < 0x1C then [brAt ((n - 0x10) / 3)]
  else if 0x20 ≤ n ∧ n < 0x2C then [brAt ((n - 0x20) / 3)] else if 0x50 ≤ n then s.bridgesOf (grAt (n - 0x50)) else allBr

/-- Groups that use an input. -/
def State.inputGroups (s : State) (n : Nat) : List GroupId :=
  allGr.filter fun g => (s.bridgesOf g).any fun b => (s.inputBridges n).contains b

/-- Level and index of E-4003 and E-4004 (R145). -/
def State.inputLevel (s : State) (n : Nat) : Nat × Nat :=
  if n < 0x0C then (2, n + 1) else if 0x10 ≤ n ∧ n < 0x1C then (2, n - 0x0F) else if 0x20 ≤ n ∧ n < 0x2C then (2, n - 0x1F)
  else if 0x50 ≤ n then (3, s.groupIndex (grAt (n - 0x50))) else (4, 0)

/-- The reaction of the strongest code over the inputs confirmed invalid in one check (R140). -/
def reactInputs (code : Nat) (ns : List Nat) (s : State) : State :=
  match code with
  | 1 => forGr (allGr.filter fun g => ns.any fun n => (s.inputGroups n).contains g) (fun g a => ss1Source g ss1FromInput a) s
  | 2 => forBr (allBr.filter fun b => ns.any fun n => (s.inputBridges n).contains b) (safeRequest .cloveRequest 3) s
  | 3 => safeDriveOnce .cloveRequest s
  | _ => s

/-- An input becomes invalid, with E-4003 (R139). Causes: 1 range, 2 rate, 3 timeout, 4 disagreement (log 6). -/
def markInvalid (n : Fin 84) (cause : Nat) (s : State) : State :=
  if !s.sense.inputs[n].valid then s
  else
    let s := modInput n (fun x => { x with valid := false, good := 0 }) s
    let l := s.inputLevel n
    let i := 0x4100 + n.val
    raise 0x4003 l.1 l.2 [(n.val : Int), (cause : Int), s.act i 6, s.act i 8] (bump 0xE040 3 s)

/-- Inputs confirmed invalid in one check: each takes its substitute, the strongest reaction applies (R140). -/
def confirmInvalid (ns : List (Fin 84 × Nat)) (s : State) : State :=
  let fresh := ns.filter fun c => s.sense.inputs[c.1].valid
  let s := fresh.foldl (fun a c => markInvalid c.1 c.2 a) s
  let codes := fresh.map fun c => s.actN (0x4100 + c.1.val) 8
  let top := codes.foldl max 0
  reactInputs top ((fresh.filter fun c => s.actN (0x4100 + c.1.val) 8 == top).map fun c => c.1.val) s

/-- An input is valid again, with E-4004 (R139). -/
def markValid (n : Fin 84) (s : State) : State :=
  if s.sense.inputs[n].valid then s
  else
    let s := modInput n (fun x => { x with valid := true, bad := 0, good := 0 }) s
    let l := s.inputLevel n
    raise 0x4004 l.1 l.2 [(n.val : Int)] s

/-- One check of an analogue input with a new value in its unit (R138, R139): the record after it and the cause of a failure, 0 none.
Values are kept in thousandths of the unit. -/
def State.checked (s : State) (n : Fin 84) (v : Rat) : Input × Nat :=
  let x := s.sense.inputs[n]
  let i := 0x4100 + n.val
  let lim := s.inputLimits n
  let m := (1000 * v).floor
  let cause := if v < (lim.1 : Rat) ∨ (lim.2 : Rat) < v then 1
    else if x.seen && s.act i 3 != 0 && decide (1000 * s.act i 3 < (m - x.value).natAbs) then 2 else 0
  ({ x with value := m, seen := true, had := x.had || cause == 0, stale := 0, bad := if cause = 0 then 0 else x.bad + 1,
            good := if cause = 0 then x.good + 1 else 0, lastGood := if cause = 0 then m else x.lastGood }, cause)

/-- Check new values of several inputs in one check. -/
def checkInputs (vs : List (Fin 84 × Rat)) (s : State) : State :=
  let res := vs.map fun c => (c.1, s.checked c.1 c.2)
  let s := res.foldl (fun a c => modInput c.1 (fun _ => c.2.1) a) s
  let s := res.foldl (fun a c => if c.2.2 = 0 ∧ a.actN (0x4100 + c.1.val) 5 ≤ c.2.1.good then markValid c.1 a else a) s
  confirmInvalid ((res.filter fun c => c.2.2 != 0 && decide (s.actN (0x4100 + c.1.val) 5 ≤ c.2.1.bad)).map fun c => (c.1, c.2.2)) s

/-- A check at which inputs gave no new value (R138): at the timeout they become invalid; a timeout of 0 disables it (log 144). -/
def missInputs (ns : List (Fin 84)) (s : State) : State :=
  let s := ns.foldl (fun a n => modInput n (fun x => { x with stale := x.stale + 1 }) a) s
  confirmInvalid ((ns.filter fun n => decide (0 < s.actN (0x4100 + n.val) 9 ∧ s.actN (0x4100 + n.val) 9 ≤ s.sense.inputs[n].stale)).map
    fun n => (n, 3)) s

/-- A new value of input n behind the filter of its record (R118): as it comes while the record has none, else a free value (log 176). -/
def State.sifted (s : State) (n : Fin 84) (v : Rat) : Rat :=
  let x := s.sense.inputs[n]
  let ms := s.actN (0x4100 + n.val) 4
  if ms = 0 then v else Config.filtered ms (if x.seen then (x.value : Rat) / 1000 else v) v

/-- The value in use of an analogue input whose substitute is last valid, fixed or its own (R139), in its unit; `other` is the computed
substitute. None where the input is absent. -/
def State.inputUse (s : State) (n : Fin 84) (other : Option Rat) : Option Rat :=
  let x := s.sense.inputs[n]
  if x.valid then some ((x.lastGood : Rat) / 1000)
  else match s.actN (0x4100 + n.val) 6 with
    | 0 => some ((x.lastGood : Rat) / 1000)
    | 1 => some (s.actR (0x4100 + n.val) 7)
    | 2 => other
    | _ => none

/-- Input number of phase-current sensor k of bridge b. -/
def piInput (b : BridgeId) (k : Fin 3) : Fin 84 := ⟨3 * b.val + k.val, by omega⟩

/-! Converter scalings (log 6): PI ±10 V and the shunt ±250 mV as two's complement, the DC link 0 to 1,650 V unsigned -/

/-- Current of a PI code in A (R115, R120). -/
def State.piAmps (s : State) (l : LegId) (code : BitVec 16) : Rat :=
  (code.toInt : Rat) * 10 / 32768 * s.actR 0x4010 (l.val + 1) / 1000 - (s.sense.piOffset[l] : Rat) / 1000

/-- Shunt current of a code in A (R115, R120). -/
def State.shuntAmps (s : State) (code : BitVec 16) : Rat :=
  (code.toInt : Rat) / 4 / 32768 / (s.actR 0x4012 1 / 1000000000) - (s.sense.shuntOffset : Rat) / 1000

/-- DC-link voltage of a code in V (R115). -/
def udcVolts (code : BitVec 16) : Rat := (code.toNat : Rat) * 1650 / 65536

/-! Digital and message inputs -/

/-- The level that input 0x40 + i shows, and since when: a mirror contact that shows its contact open, a brake that shows released. -/
def State.digitalRaw (s : State) (i : Fin 4) : Bool × Nat :=
  if h : i.val < 3 then (s.cont.mirrorOpen[i.val], s.cont.mirrorAt[i.val]) else (s.clove.brakeFb, s.clove.brakeFbAt)

/-- The level of input 0x40 + i that agrees with what is commanded, and since when it is commanded (R138). -/
def State.digitalWanted (s : State) (i : Fin 4) : Bool × Nat :=
  if h : i.val < 3 then (!s.cont.coil[i.val], s.cont.coilAt[i.val]) else (s.clove.brakeOn, s.clove.brakeAt)

/-- Glitch filter of input 0x40 + i in ticks. -/
def State.glitch (s : State) (i : Fin 4) : Nat := s.actN (0x4140 + i.val) 4 * ticksPerMs

/-- Input 0x40 + i behind its glitch filter at tick t (R138): a change is taken once it has stood for the filter time. -/
def State.digitalNow (s : State) (i : Fin 4) (t : Nat) : Bool × Nat :=
  let raw := s.digitalRaw i
  let kept := s.sense.digital[i]
  if kept.1 = raw.1 ∨ t < raw.2 + s.glitch i then kept else (raw.1, raw.2 + s.glitch i)

/-- Before a change of input 0x40 + i its filtered level is kept. -/
def keepDigital (i : Fin 4) (s : State) : State :=
  { s with sense := { s.sense with digital := s.sense.digital.set i (s.digitalNow i s.now) } }

/-- Input number of digital input i. -/
def digitalInput (i : Fin 4) : Fin 84 := ⟨0x40 + i.val, by omega⟩

/-- A good check of a digital or message input: the confirm count of them makes it valid again (R139). -/
def goodInput (n : Fin 84) (s : State) : State :=
  let s := modInput n (fun x => { x with good := x.good + 1 }) s
  if s.actN (0x4100 + n.val) 5 ≤ s.sense.inputs[n].good then markValid n s else s

/-- A check of an invalid digital input (R139; log 27): behind its filter it agrees with the command, or it does not. -/
def digitalAgrees (i : Fin 4) (s : State) : State :=
  if s.sense.inputs[digitalInput i].valid then s
  else if (s.digitalNow i s.now).1 = (s.digitalWanted i).1 then goodInput (digitalInput i) s
  else modInput (digitalInput i) (fun x => { x with good := 0 }) s

/-- Instant at which input 0x40 + i has disagreed, behind its filter, for its timeout (R138); none where it agrees. -/
def State.digitalDue (s : State) (i : Fin 4) : Option Nat :=
  let raw := s.digitalRaw i
  let want := s.digitalWanted i
  let kept := s.sense.digital[i]
  let passed := raw.2 + s.glitch i
  let wait := s.actN (0x4140 + i.val) 9 * ticksPerMs
  let early := max want.2 kept.2 + wait
  if kept.1 ≠ want.1 ∧ (raw.1 = kept.1 ∨ early < passed) then some early
  else if raw.1 ≠ want.1 then some (max want.2 passed + wait) else none

/-- Clove finds a coil commanded closed whose mirror contact shows its contact open (R291): E-7114 and the reaction of R140. -/
def mirrorFault (c : Fin 3) (s : State) : State :=
  confirmInvalid [(digitalInput ⟨c.val, by omega⟩, 4)] (raise4 0x7114 [(c.val + 1 : Int)] s)

/-- DIGITAL_INPUT_TIMEOUT (R138, R258): the input has disagreed for longer than its timeout. -/
def digitalTimeout (i : Fin 4) (s : State) : State :=
  match s.digitalDue i with
  | none => s
  | some t =>
    let s := setNow t s
    if h : i.val < 3 then
      if s.cont.coil[i.val] then mirrorFault ⟨i.val, h⟩ s else confirmInvalid [(digitalInput i, 3)] s
    else confirmInvalid [(digitalInput i, 3)] s

/-- DIGITAL_INPUT_TIMEOUT. -/
def execDigitalInputTimeout (i : Fin 4) (s : State) : Host.Outcome State Fault Refusal := .next (digitalTimeout i s)

/-- Input number of the target message of a group. -/
def messageInput (g : GroupId) : Fin 84 := ⟨0x50 + g.val, by omega⟩

/-- MESSAGE_INPUT_TIMEOUT (R138): no message within the timeout while the group is in RUN; a timeout of 0 disables the input. -/
def messageTimeout (g : GroupId) (s : State) : State :=
  let ms := s.actN (0x4150 + g.val) 9
  if ms = 0 || (s.running g).isEmpty then s
  else confirmInvalid [(messageInput g, 3)] (setNow (s.gr[g].msgAt + ms * ticksPerMs) s)

/-- MESSAGE_INPUT_TIMEOUT. -/
def execMessageInputTimeout (g : GroupId) (s : State) : Host.Outcome State Fault Refusal := .next (messageTimeout g s)

/-- The target in use of a group, 0.1 N·m (R139): its last message's, or the substitute of the message input while that is invalid; where the
input counts as absent there is no target torque (log 178). -/
def State.targetInUse (s : State) (g : GroupId) : Int :=
  if s.sense.inputs[messageInput g].valid then s.gr[g].target
  else match s.act (0x4150 + g.val) 6 with
    | 0 => s.gr[g].target
    | 1 => s.act (0x4150 + g.val) 7
    | _ => 0

/-- A host target message for a group arrives (R138). -/
def messageArrived (g : GroupId) (s : State) : State :=
  goodInput (messageInput g) (modGr g (fun x => { x with msgAt := s.now }) s)

end Sys2Proof.Machine
end

