-- ==== Sys2Proof/Machine/Contact.lean ====
section
/-! DEFINITION. Contactors, precharge, weld tests and discharge (R254 to R261, R264, R291, R352). Voltages of these rows are in 0.1 V, currents
in 0.1 A. -/

namespace Sys2Proof.Machine

/-- DC-link voltages of the last 10 ms, newest first, with the newest one that is older (R256). -/
def keepUdc (v : Rat) (s : State) : List (Nat × Rat) :=
  let recent := s.drive.udcLog.filter fun x => decide (s.now < x.1 + 10 * ticksPerMs)
  let old := s.drive.udcLog.find? fun x => decide (x.1 + 10 * ticksPerMs ≤ s.now)
  (s.now, v) :: recent ++ old.toList

/-- Clove has a DC-link voltage, in V; U_C below 0x7130.02 with every coil open is timed for the latches of R258 and R261. -/
def noteUdc (v : Rat) (s : State) : State :=
  let low := decide (v < s.actR 0x7130 2) && s.cont.coil.all (fun x => !x)
  { s with drive := { s.drive with udc := v, udcAt := s.now, udcLog := keepUdc v s },
           cont := { s.cont with lowSince := if low then some (s.cont.lowSince.getD s.now) else none } }

/-- DRIVE.ARM (R256, R291): step 1 closes CO2 alone. -/
def driveArm (r : CmdRef) (s : State) : State :=
  if s.drive.state ≠ .standby ∨ s.drive.armRef.isSome ∨ s.cont.opening ≠ 0 ∨ s.cont.active then refuse r stState 0 s
  else if !s.cont.mirrorOpen.all id then
    refuse r stState 0 (raise4 0x7114 [(((List.finRange 3).find? fun c => !s.cont.mirrorOpen[c]).map (fun c => (c.val + 1 : Int))).getD 0] s)
  else
    let s := setCoil 1 true s
    { s with drive := { s.drive with armRef := some r, armStep := 1, armUdc := s.drive.udc } }

/-- DRIVE_ARM. -/
def execDriveArm (e : CmdEntry) (s : State) : Host.Outcome State Fault Refusal := .next (command e 0x0101 1 0 driveArm s)

/-- WELD_TEST_EXPIRY (R256 steps 1 and 2, R258). -/
def weldTest (udc : Nat) (s : State) : State :=
  if s.drive.armStep ≠ 1 ∨ s.drive.state ≠ .standby then s
  else
    let s := noteUdc ((udc : Rat) / 10) (setNow (s.cont.coilAt[1] + s.actN 0x7120 7 * ticksPerMs) s)
    if s.actR 0x7120 8 < s.drive.udc - s.drive.armUdc then declareWeld 1 0 s
    else
      let s := setDrive .precharge { s with drive := { s.drive with armStep := 2 } }
      bump 0xE075 1 (raise4 0x7110 [] (setCoil 2 true s))

/-- WELD_TEST_EXPIRY. -/
def execWeldTestExpiry (udc : Nat) (s : State) : Host.Outcome State Fault Refusal := .next (weldTest udc s)

/-- Precharge is complete (R256 step 3): the voltage reaches 0x7120.04 of 0x7120.03; where that is 0, it is at least 100 V and has risen by less
than 1 % of the voltage measured 10 ms earlier, or before where none falls on that instant (log 168). -/
def State.prechargeReached (s : State) (v : Rat) : Bool :=
  if s.actN 0x7120 3 = 0 then decide (100 ≤ v) &&
    (s.drive.udcLog.find? fun x => decide (x.1 + 10 * ticksPerMs ≤ s.now)).any fun x => decide (v - x.2 < x.2 / 100)
  else decide (s.actR 0x7120 4 * s.actR 0x7120 3 / 100 ≤ v)

/-- PRECHARGE_COMPLETE (R256 steps 3 and 4): CO1 closes. -/
def prechargeDone (udc : Nat) (s : State) : State :=
  if s.drive.armStep ≠ 2 then s
  else
    let done := s.prechargeReached ((udc : Rat) / 10)
    let s := noteUdc ((udc : Rat) / 10) s
    if done then setCoil 0 true { s with drive := { s.drive with armStep := 3 } } else s

/-- PRECHARGE_COMPLETE. -/
def execPrechargeComplete (udc : Nat) (s : State) : Host.Outcome State Fault Refusal := .next (prechargeDone udc s)

/-- PRECHARGE_TIMEOUT (R256): every contactor opens, E-7112, ABORTED, STANDBY. -/
def prechargeLate (s : State) : State :=
  if s.drive.armStep ≠ 2 ∨ s.drive.state ≠ .precharge then s
  else
    let s := setNow (s.cont.coilAt[2] + s.actN 0x7120 5 * ticksPerMs) s
    let s := openContactors true false s
    endArm stAborted (setDrive .standby (bump 0xE075 2 (raise4 0x7112 [] s)))

/-- PRECHARGE_TIMEOUT. -/
def execPrechargeTimeout (s : State) : Host.Outcome State Fault Refusal := .next (prechargeLate s)

/-- The drive enters ARMED (R256 step 4): E-7111, DRIVE.ARM completes with OK, the overlap runs; a trial image is confirmed (R509). -/
def enterArmed (s : State) : State :=
  let s := confirmFirmware (setDrive .armed s)
  let s := raise4 0x7111 [] { s with drive := { s.drive with overlap := true }, cont := { s.cont with openAt := s.now } }
  endArm stOk s

/-- A mirror contact changes: Clove, which reads it through its own input stage (R303), acts at once, and the record of its input checks it
behind the glitch filter (R138; log 177). The ARMED entry, a weld from 100 ms after its coil opened, E-7115 with the discharge that follows. -/
def mirrorChange (c : Fin 3) (shownOpen : Bool) (s : State) : State :=
  if s.cont.mirrorOpen[c] = shownOpen then s
  else
    let was := s.allOpen
    let s := keepDigital ⟨c.val, by omega⟩ s
    let s := digitalAgrees ⟨c.val, by omega⟩ { s with cont := { s.cont with mirrorOpen := s.cont.mirrorOpen.set c shownOpen, mirrorAt := s.cont.mirrorAt.set c s.now } }
    if c = 0 ∧ !shownOpen ∧ s.drive.armStep = 3 ∧ s.drive.state = .precharge then enterArmed s
    else if !shownOpen && !s.cont.coil[c] && decide (s.cont.coilAt[c] + 100 * ticksPerMs ≤ s.now) then declareWeld 2 (c.val + 1) s
    else if s.allOpen && !was then settleOpen (raise4 0x7115 [] s)
    else s

/-- MIRROR_CONTACT_CHANGE (R254, R256, R257, R291). -/
def execMirrorContactChange (c : Fin 3) (shownOpen : Bool) (s : State) : Host.Outcome State Fault Refusal := .next (mirrorChange c shownOpen s)

/-- PRECHARGE_OVERLAP_EXPIRY (R255, R256): CO3 opens. -/
def overlapEnd (s : State) : State :=
  if s.drive.overlap then
    let s := setNow (s.cont.openAt + s.actN 0x7120 6 * ticksPerMs) s
    setCoil 2 false { s with drive := { s.drive with overlap := false } }
  else s

/-- PRECHARGE_OVERLAP_EXPIRY. -/
def execPrechargeOverlapExpiry (s : State) : Host.Outcome State Fault Refusal := .next (overlapEnd s)

/-- CONTACTOR_OPEN_CO1 (R257): the current is below 0x7120.09, or the limit 0x7120.0A has passed. -/
def openCo1 (current : Nat) (s : State) : State :=
  if s.cont.opening ≠ 1 then s
  else
    let s := if current < 10 * s.actN 0x7120 9 then s
      else bump 0xE075 3 (setNow (s.cont.openAt + s.actN 0x7120 10 * ticksPerMs) s)
    let s := openCoil 0 s
    if s.cont.coil[1] then { s with cont := { s.cont with opening := 2, openAt := s.now } }
    else settleOpen { s with cont := { s.cont with opening := 0 } }

/-- CONTACTOR_OPEN_CO1. -/
def execContactorOpenCo1 (current : Nat) (s : State) : Host.Outcome State Fault Refusal := .next (openCo1 current s)

/-- CONTACTOR_OPEN_CO2 (R257): 20 ms after CO1. -/
def openCo2 (s : State) : State :=
  if s.cont.opening ≠ 2 then s
  else
    let s := openCoil 1 (setNow (s.cont.openAt + 20 * ticksPerMs) s)
    settleOpen { s with cont := { s.cont with opening := 0 } }

/-- CONTACTOR_OPEN_CO2. -/
def execContactorOpenCo2 (s : State) : Host.Outcome State Fault Refusal := .next (openCo2 s)

/-- COIL_PULL_IN_EXPIRY (R254, R291): economiser duty; a mirror contact that still shows its contact open is handled under R140. -/
def pullIn (c : Fin 3) (s : State) : State :=
  if !s.cont.coil[c] then s
  else
    let s := setNow (s.cont.coilAt[c] + s.actN 0x7120 1 * ticksPerMs) s
    let s := { s with cont := { s.cont with economiser := s.cont.economiser.set c true } }
    if s.cont.mirrorOpen[c] then mirrorFault c s else s

/-- COIL_PULL_IN_EXPIRY. -/
def execCoilPullInExpiry (c : Fin 3) (s : State) : Host.Outcome State Fault Refusal := .next (pullIn c s)

/-- WELD_CHECK_EXPIRY (R258): 100 ms after the coil was opened. -/
def weldCheck (c : Fin 3) (s : State) : State :=
  if s.cont.coil[c] || s.cont.mirrorOpen[c] then s
  else declareWeld 2 (c.val + 1) (setNow (s.cont.coilAt[c] + 100 * ticksPerMs) s)

/-- WELD_CHECK_EXPIRY. -/
def execWeldCheckExpiry (c : Fin 3) (s : State) : Host.Outcome State Fault Refusal := .next (weldCheck c s)

/-- DISCHARGE_FALL_TEST_EXPIRY (R258, R259): below 80 % of the start value, or the winding fallback of method 0x02, or a weld. -/
def fallTest (udc : Nat) (s : State) : State :=
  if !s.cont.active then s
  else
    let s := noteUdc ((udc : Rat) / 10) (setNow (s.cont.startAt + s.actN 0x7130 5 * ticksPerMs) s)
    if s.drive.udc < s.cont.startUdc * 4 / 5 then s
    else if s.cont.hvWake then failDischarge s
    else if s.cont.fallback && s.cont.method = 0 && s.cont.mirrorOpen.all id then runDischarge true s
    else declareWeld 3 0 s

/-- DISCHARGE_FALL_TEST_EXPIRY. -/
def execDischargeFallTestExpiry (udc : Nat) (s : State) : Host.Outcome State Fault Refusal := .next (fallTest udc s)

/-- A level 4 forcing holds the drive in its safe state until FAULT.CLEAR (R255, R261). -/
def State.safeHeld (s : State) : Bool := allBr.any fun b => s.br[b].force.latching && s.br[b].force.level == 4

/-- DISCHARGE_COMPLETE (R261, R352): E-7121; STANDBY after DRIVE.DISARM, SLEEP after a wake on HV presence alone, else the safe state. -/
def dischargeDone (udc : Nat) (s : State) : State :=
  if !s.cont.active || !decide ((udc : Rat) / 10 < s.actR 0x7130 2) then s
  else
    let s := stopChop (noteUdc ((udc : Rat) / 10) s)
    let hv := s.cont.hvWake
    let refs := s.drive.disarmRefs
    let s := { s with cont := { s.cont with active := false, group := none, vector := none, fallback := false, hvWake := false },
                      drive := { s.drive with disarmRefs := [] } }
    let s := raise4 0x7121 [] s
    let s := refs.foldl (fun a r => complete r stOk [] a) s
    if hv then hvSleep s
    else if s.drive.state = .discharge then setDrive (if s.safeHeld then .safeOff else .standby) s
    else s

/-- DISCHARGE_COMPLETE. -/
def execDischargeComplete (udc : Nat) (s : State) : Host.Outcome State Fault Refusal := .next (dischargeDone udc s)

/-- DISCHARGE_TIMEOUT (R261). -/
def dischargeLate (s : State) : State :=
  if s.cont.active then failDischarge (setNow (s.cont.startAt + s.actN 0x7130 3 * ticksPerMs) s) else s

/-- DISCHARGE_TIMEOUT. -/
def execDischargeTimeout (s : State) : Host.Outcome State Fault Refusal := .next (dischargeLate s)

/-- DRIVE.DISARM (R257): with every bridge in STANDBY, in STANDBY, PRECHARGE, ARMED or DISCHARGE; joins a sequence in progress,
whose opening a discharge then follows. -/
def driveDisarm (r : CmdRef) (s : State) : State :=
  let here := match s.drive.state with
    | .standby | .precharge | .armed | .discharge => true
    | _ => false
  if !here || !s.allStandby then refuse r stState 0 s
  else
    let joins := s.cont.opening != 0 || s.cont.active || s.cont.afterOpen
    let s := { s with drive := { s.drive with disarmRefs := s.drive.disarmRefs ++ [r] },
                      cont := { s.cont with afterOpen := s.cont.afterOpen || (joins && !s.cont.active) } }
    if joins then s else openContactors false true (endArm stAborted s)

/-- DRIVE_DISARM. -/
def execDriveDisarm (e : CmdEntry) (s : State) : Host.Outcome State Fault Refusal := .next (command e 0x0102 1 0 driveDisarm s)

end Sys2Proof.Machine
end

