-- ==== Sys2Proof/Machine/Ranges.lean ====
section
/-! DEFINITION. The accepted values of the writable objects (R9, R39, R43, R44, R77, R89, R111, R121, R143, R147, R148, R154, R156, R168,
R176, R204, R232, R263, R299, R333, R358, R375, R385, R393, R410, R417, R443, R465, R469, R481, R501, R519, R539). -/

namespace Sys2Proof.Machine

/-- A plain range: objects i0 to i1, subs s0 to s1, values lo to hi. -/
structure Rng where
  i0 : Nat
  i1 : Nat
  s0 : Nat
  s1 : Nat
  lo : Int
  hi : Int
  deriving DecidableEq, Repr

/-- Areas 1 to 3 (R9, R77, R111, R443). -/
def ranges1 : List Rng :=
  [⟨0x1100, 0x1100, 1, 1, 0, 4⟩, ⟨0x1101, 0x1101, 6, 6, 1000, 60000⟩, ⟨0x2010, 0x2010, 1, 4, 2000, 100000⟩,
   ⟨0x2011, 0x2011, 1, 4, 0, 1⟩, ⟨0x2012, 0x2012, 1, 4, 0, 2⟩, ⟨0x2013, 0x2013, 1, 4, 0, 1⟩, ⟨0x2014, 0x2014, 1, 1, 0, 400⟩,
   ⟨0x2015, 0x2015, 1, 1, 4, 1024⟩, ⟨0x2015, 0x2015, 2, 2, 1, 1000000⟩, ⟨0x2030, 0x2030, 1, 6, 0, 4095⟩,
   ⟨0x2040, 0x2040, 1, 1, 0, 1⟩, ⟨0x2050, 0x2050, 1, 4, 10, 3000⟩, ⟨0x2050, 0x2050, 5, 5, 0, 800⟩, ⟨0x2060, 0x2060, 1, 1, 0, 1⟩,
   ⟨0x2060, 0x2060, 2, 2, 1, 256⟩, ⟨0x2060, 0x2060, 3, 3, 1, 16⟩, ⟨0x2060, 0x2060, 4, 4, 5, 25⟩,
   ⟨0x3000, 0x3000, 1, 4, 120, 220⟩, ⟨0x3001, 0x3001, 1, 4, -80, -20⟩, ⟨0x3002, 0x3002, 1, 1, 10, 80⟩,
   ⟨0x3003, 0x3003, 1, 1, 100, 5000⟩, ⟨0x3010, 0x3010, 1, 16, 0, 7⟩, ⟨0x3011, 0x3011, 1, 16, 100, 1600⟩,
   ⟨0x3030, 0x3030, 1, 4, 30, 120⟩, ⟨0x3031, 0x3031, 1, 4, 100, 6000⟩, ⟨0x3032, 0x3032, 1, 4, 500, 10000⟩,
   ⟨0x3033, 0x3033, 1, 4, 60, 220⟩, ⟨0x3033, 0x3033, 5, 5, 100, 1600⟩, ⟨0x3033, 0x3033, 6, 6, 1, 8⟩,
   ⟨0x3040, 0x3040, 1, 1, 1, 1000⟩, ⟨0x3040, 0x3040, 2, 2, 0, 7⟩, ⟨0x3040, 0x3040, 3, 3, 1, 60⟩, ⟨0x3040, 0x3040, 4, 4, 1, 10000⟩,
   ⟨0x3050, 0x3050, 1, 1, 200, 10000⟩, ⟨0x3050, 0x3050, 2, 2, 1, 255⟩, ⟨0x3050, 0x3050, 3, 3, 10, 1000⟩,
   ⟨0x3050, 0x3050, 4, 4, 0, 50⟩, ⟨0x3051, 0x3051, 1, 4, 10, 1000⟩, ⟨0x3051, 0x3051, 5, 5, 8, 1024⟩, ⟨0x3052, 0x3052, 1, 1, 1, 500⟩]

/-- Areas 4 and 5 (R143, R168). -/
def ranges2 : List Rng :=
  [⟨0x4010, 0x4010, 1, 12, 1000, 2000000⟩, ⟨0x4012, 0x4012, 1, 1, 10000, 10000000⟩, ⟨0x4014, 0x4014, 1, 4, 0, 3⟩,
   ⟨0x4014, 0x4014, 5, 8, 0, 1⟩, ⟨0x4015, 0x4015, 1, 1, 100, 20000⟩, ⟨0x4020, 0x4020, 1, 1, 80, 800⟩, ⟨0x4020, 0x4020, 2, 2, 4, 40⟩,
   ⟨0x4020, 0x4020, 3, 3, 0, 4000⟩, ⟨0x4020, 0x4020, 4, 4, 1, 64⟩, ⟨0x4020, 0x4020, 5, 5, 40, 4000⟩, ⟨0x4021, 0x4022, 1, 4, 5, 500⟩,
   ⟨0x4021, 0x4021, 5, 5, 2, 64⟩, ⟨0x4023, 0x4023, 1, 4, 1, 600⟩, ⟨0x4023, 0x4023, 5, 5, 1, 16⟩, ⟨0x4030, 0x4030, 1, 1, 10, 1000⟩,
   ⟨0x4030, 0x4030, 2, 2, 0, 200⟩, ⟨0x4030, 0x4030, 3, 3, 1, 10⟩, ⟨0x4030, 0x4030, 4, 4, 10, 5000⟩, ⟨0x4030, 0x4030, 5, 5, 0, 100⟩,
   ⟨0x4031, 0x4031, 1, 1, 50, 300⟩, ⟨0x4100, 0x4153, 4, 4, 0, 1000⟩, ⟨0x4100, 0x4153, 5, 5, 1, 255⟩, ⟨0x4100, 0x4153, 6, 6, 0, 3⟩,
   ⟨0x4100, 0x4153, 8, 8, 0, 3⟩, ⟨0x4100, 0x4153, 9, 9, 0, 60000⟩, ⟨0x5000, 0x5000, 1, 8, 0, 8⟩, ⟨0x5001, 0x5001, 1, 1, 0, 1⟩,
   ⟨0x5002, 0x5002, 1, 4, 1, 32⟩, ⟨0x5010, 0x5011, 1, 1, 2000, 20000⟩, ⟨0x5010, 0x5011, 2, 2, 20, 80⟩, ⟨0x5010, 0x5011, 3, 3, 1, 16⟩,
   ⟨0x5010, 0x5011, 4, 4, 100, 4000⟩, ⟨0x5010, 0x5011, 5, 5, 20, 90⟩, ⟨0x5010, 0x5011, 6, 6, 110, 200⟩, ⟨0x5010, 0x5011, 7, 7, 1, 16⟩,
   ⟨0x5010, 0x5011, 8, 8, 182, 16384⟩, ⟨0x5012, 0x5013, 1, 1, 1, 65535⟩, ⟨0x5012, 0x5013, 2, 2, 0, 1⟩, ⟨0x5012, 0x5013, 3, 3, 0, 16⟩,
   ⟨0x5012, 0x5013, 4, 4, 0, 40⟩, ⟨0x5014, 0x5015, 1, 1, 1, 32⟩, ⟨0x5014, 0x5015, 2, 2, 0, 1000⟩, ⟨0x5014, 0x5015, 3, 3, 1, 1000⟩,
   ⟨0x5016, 0x5017, 1, 1, 100, 10000⟩, ⟨0x5016, 0x5017, 2, 2, 8, 40⟩, ⟨0x5016, 0x5017, 3, 3, 8, 32⟩, ⟨0x5016, 0x5017, 4, 4, 0, 24⟩,
   ⟨0x5016, 0x5017, 5, 5, 0, 1⟩, ⟨0x5016, 0x5017, 7, 7, 1, 100⟩, ⟨0x5016, 0x5017, 8, 8, 0, 1⟩, ⟨0x5016, 0x5017, 11, 11, 0, 5000⟩,
   ⟨0x5010, 0x5017, 9, 9, 0, 65535⟩, ⟨0x5010, 0x5017, 10, 10, 0, 1⟩, ⟨0x5030, 0x5030, 1, 4, 182, 16384⟩,
   ⟨0x5030, 0x5030, 5, 8, 1, 10000⟩, ⟨0x5030, 0x5030, 9, 9, 1, 64⟩, ⟨0x5030, 0x5030, 10, 13, 1, 7200⟩, ⟨0x5032, 0x5032, 1, 4, 50, 50000⟩,
   ⟨0x5032, 0x5032, 5, 5, 1, 5000⟩, ⟨0x5050, 0x5050, 1, 2, 0, 3⟩, ⟨0x5050, 0x5050, 3, 4, 1, 4⟩]

/-- Area 6 and the control objects of area 7 (R39, R204, R232). -/
def ranges3 : List Rng :=
  [⟨0x6001, 0x6004, 1, 1, -6000, 0⟩, ⟨0x6001, 0x6004, 2, 2, 0, 6000⟩, ⟨0x6001, 0x6004, 3, 3, 10, 6000⟩, ⟨0x6001, 0x6004, 4, 7, -400, 2000⟩,
   ⟨0x6001, 0x6004, 8, 10, 1, 65535⟩, ⟨0x6001, 0x6004, 11, 11, -5000, 0⟩, ⟨0x6005, 0x6005, 1, 4, 0, 65535⟩,
   ⟨0x6006, 0x6006, 1, 4, 10, 10000000⟩, ⟨0x6010, 0x6010, 1, 4, 10, 2000⟩, ⟨0x6010, 0x6010, 5, 8, 10, 5000⟩, ⟨0x6020, 0x6020, 1, 4, 0, 1⟩,
   ⟨0x6020, 0x6020, 5, 5, 4, 15⟩, ⟨0x6020, 0x6020, 6, 6, 1, 50⟩, ⟨0x6020, 0x6020, 7, 7, 64, 4096⟩, ⟨0x6030, 0x6030, 1, 4, 5, 100⟩,
   ⟨0x6030, 0x6030, 5, 5, 1, 64⟩, ⟨0x6030, 0x6030, 6, 6, 500, 1000⟩, ⟨0x6031, 0x6031, 1, 1, 1, 100⟩, ⟨0x6031, 0x6031, 2, 2, 1, 50⟩,
   ⟨0x6031, 0x6031, 3, 3, 10, 1000⟩, ⟨0x6031, 0x6031, 4, 4, 10, 5000⟩, ⟨0x6031, 0x6031, 5, 5, 0, 10000⟩, ⟨0x6031, 0x6031, 6, 6, 1, 7⟩,
   ⟨0x6031, 0x6031, 7, 7, 1, 60⟩, ⟨0x6031, 0x6031, 8, 8, 64, 4096⟩, ⟨0x6041, 0x6041, 1, 1, 10, 100⟩, ⟨0x6041, 0x6041, 2, 2, 50, 3000⟩,
   ⟨0x6041, 0x6041, 3, 3, 16, 4096⟩, ⟨0x6050, 0x6050, 9, 9, 0, 1⟩, ⟨0x6051, 0x6051, 1, 12, 100, 1000000⟩,
   ⟨0x6052, 0x6052, 1, 12, 1000, 6000⟩, ⟨0x7000, 0x7000, 1, 4, 10, 6000⟩, ⟨0x7000, 0x7000, 5, 8, -6000, 0⟩,
   ⟨0x7001, 0x7001, 1, 8, 0, 200000⟩, ⟨0x7002, 0x7002, 1, 8, 0, 15000⟩, ⟨0x7003, 0x7003, 1, 1, 100, 1600⟩,
   ⟨0x7003, 0x7003, 2, 2, 10, 200⟩, ⟨0x7004, 0x7004, 1, 4, 1, 10000⟩, ⟨0x7005, 0x7005, 1, 4, 10, 30000⟩, ⟨0x7005, 0x7005, 5, 5, 1, 20⟩,
   ⟨0x7006, 0x7006, 1, 4, 100, 5000⟩, ⟨0x7007, 0x7007, 1, 4, 0, 200⟩, ⟨0x7008, 0x7008, 1, 4, 0, 1⟩, ⟨0x7008, 0x7008, 5, 5, 100, 1000⟩,
   ⟨0x7008, 0x7008, 6, 6, 0, 100⟩, ⟨0x7008, 0x7008, 7, 7, 0, 200⟩, ⟨0x7008, 0x7008, 8, 8, 50, 950⟩, ⟨0x7010, 0x7010, 1, 4, 0, 255⟩,
   ⟨0x7010, 0x7010, 5, 5, 1, 10000⟩, ⟨0x7010, 0x7010, 6, 6, 0, 50⟩, ⟨0x7010, 0x7010, 7, 7, 1, 50⟩, ⟨0x7011, 0x7011, 1, 4, 1, 4⟩,
   ⟨0x7011, 0x7011, 5, 8, 10, 100⟩, ⟨0x7011, 0x7011, 9, 9, 1, 10000⟩, ⟨0x7020, 0x7020, 1, 1, 2, 50⟩, ⟨0x7020, 0x7020, 2, 5, 0, 2⟩,
   ⟨0x7021, 0x7021, 1, 1, 1, 8⟩, ⟨0x7050, 0x7050, 1, 1, 50, 95⟩, ⟨0x7050, 0x7050, 2, 2, 50, 500⟩, ⟨0x7051, 0x7051, 1, 4, 1, 2⟩,
   ⟨0x7060, 0x7060, 2, 2, 0, 1⟩, ⟨0x7060, 0x7060, 3, 3, 10, 10000⟩, ⟨0x7060, 0x7060, 4, 4, 10, 1000⟩, ⟨0x7060, 0x7060, 5, 5, 2, 20⟩,
   ⟨0x7060, 0x7060, 6, 6, 0, 255⟩, ⟨0x7060, 0x7060, 7, 7, 1, 100000⟩, ⟨0x7060, 0x7060, 8, 8, 1, 50⟩, ⟨0x7060, 0x7060, 9, 9, 1, 60⟩]

/-- The rest of area 7 (R263, R393). -/
def ranges4 : List Rng :=
  [⟨0x7080, 0x7080, 2, 2, 1, 16⟩, ⟨0x7080, 0x7080, 3, 3, 0, 1⟩, ⟨0x7083, 0x7083, 1, 8, 0, 7⟩, ⟨0x7084, 0x7084, 1, 8, 1, 64⟩,
   ⟨0x7100, 0x7100, 1, 1, 2000, 50000⟩, ⟨0x7100, 0x7100, 2, 2, 10, 2000⟩, ⟨0x7100, 0x7100, 3, 3, 2, 200⟩, ⟨0x7100, 0x7100, 4, 4, 5, 500⟩,
   ⟨0x7100, 0x7100, 5, 5, 0, 10000⟩, ⟨0x7100, 0x7100, 6, 6, 5, 200⟩, ⟨0x7100, 0x7100, 7, 7, 2, 500⟩, ⟨0x7101, 0x7101, 1, 4, 0, 2⟩,
   ⟨0x7102, 0x7102, 1, 4, 0, 3000⟩, ⟨0x7102, 0x7102, 5, 5, 10, 10000⟩, ⟨0x7102, 0x7102, 6, 6, 0, 90⟩, ⟨0x7110, 0x7110, 1, 4, 0, 2⟩,
   ⟨0x7110, 0x7110, 5, 8, 0, 100000⟩, ⟨0x7110, 0x7110, 9, 9, 100, 900⟩, ⟨0x7110, 0x7110, 10, 10, 10, 5000⟩,
   ⟨0x7110, 0x7110, 11, 11, 5, 200⟩, ⟨0x7120, 0x7120, 1, 1, 20, 1000⟩, ⟨0x7120, 0x7120, 2, 2, 10, 100⟩, ⟨0x7120, 0x7120, 3, 3, 0, 1600⟩,
   ⟨0x7120, 0x7120, 4, 4, 50, 99⟩, ⟨0x7120, 0x7120, 5, 5, 100, 30000⟩, ⟨0x7120, 0x7120, 6, 6, 10, 1000⟩, ⟨0x7120, 0x7120, 7, 7, 20, 1000⟩,
   ⟨0x7120, 0x7120, 8, 8, 5, 200⟩, ⟨0x7120, 0x7120, 9, 9, 1, 200⟩, ⟨0x7120, 0x7120, 10, 10, 0, 5000⟩, ⟨0x7130, 0x7130, 1, 1, 0, 2⟩,
   ⟨0x7130, 0x7130, 2, 2, 20, 60⟩, ⟨0x7130, 0x7130, 3, 3, 500, 10000⟩, ⟨0x7130, 0x7130, 4, 4, 10, 1000⟩, ⟨0x7130, 0x7130, 5, 5, 50, 2000⟩,
   ⟨0x7130, 0x7130, 6, 7, 0, 1⟩]

/-- Areas 8 and 9 (R293, R299, R333, R358, R375, R539). -/
def ranges5 : List Rng :=
  [⟨0x8010, 0x8010, 1, 1, 1, 1000⟩, ⟨0x8010, 0x8010, 2, 2, 0, 2000⟩, ⟨0x8020, 0x8020, 1, 4, 10, 20000⟩, ⟨0x8020, 0x8020, 5, 8, 10, 1000⟩,
   ⟨0x8020, 0x8020, 9, 12, 100, 60000⟩, ⟨0x8020, 0x8020, 13, 16, 1, 100⟩, ⟨0x8020, 0x8020, 17, 17, 10, 5000⟩,
   ⟨0x8030, 0x8030, 1, 16, 10, 30000⟩, ⟨0x8031, 0x8031, 1, 1, 100, 1400⟩, ⟨0x8031, 0x8031, 2, 13, 0, 1⟩, ⟨0x8032, 0x8032, 1, 4, 10, 3000⟩,
   ⟨0x8032, 0x8032, 5, 5, 5, 50⟩, ⟨0x8032, 0x8032, 6, 6, 5, 200⟩, ⟨0x8033, 0x8033, 1, 4, 16, 16777216⟩, ⟨0x8040, 0x8040, 1, 1, 0, 4⟩,
   ⟨0x8040, 0x8040, 2, 3, 10, 5000⟩, ⟨0x8040, 0x8040, 4, 4, 20, 5000⟩, ⟨0x8040, 0x8040, 5, 5, 0, 1⟩, ⟨0x8050, 0x8050, 1, 5, 1, 3600⟩,
   ⟨0x8050, 0x8050, 6, 6, 1, 7200⟩, ⟨0x8050, 0x8050, 7, 7, 1, 3600⟩, ⟨0x8070, 0x8070, 1, 4, 10, 60000⟩, ⟨0x8070, 0x8070, 5, 5, 1, 8⟩,
   ⟨0x8070, 0x8070, 6, 6, 2, 255⟩, ⟨0x8080, 0x8080, 1, 1, 5, 100⟩, ⟨0x8080, 0x8080, 2, 2, 1, 500⟩, ⟨0x8100, 0x8100, 5, 8, 1, 32⟩,
   ⟨0x8100, 0x8100, 9, 9, 10, 1000⟩, ⟨0x8100, 0x8100, 10, 10, 20, 5000⟩, ⟨0x8102, 0x8102, 1, 1, 2, 100⟩, ⟨0x8102, 0x8102, 2, 2, 5, 200⟩,
   ⟨0x8103, 0x8103, 1, 1, 200, 10000⟩, ⟨0x8104, 0x8104, 3, 3, 1, 365⟩, ⟨0x8105, 0x8105, 1, 1, 100, 1620⟩, ⟨0x8105, 0x8105, 2, 2, 2, 1000⟩,
   ⟨0x8110, 0x8110, 1, 1, 12, 120⟩, ⟨0x8110, 0x8110, 2, 2, 1, 200⟩, ⟨0x8120, 0x8120, 1, 1, 0, 3⟩, ⟨0x8120, 0x8120, 2, 2, 0, 15⟩,
   ⟨0x8122, 0x8122, 1, 1, 1, 10⟩, ⟨0x8122, 0x8122, 2, 2, 1, 1440⟩, ⟨0x8123, 0x8123, 1, 1, 1, 600⟩, ⟨0x9001, 0x9001, 1, 2, 8, 9⟩,
   ⟨0x9001, 0x9001, 3, 3, 0, 1⟩, ⟨0x9010, 0x9010, 1, 1, 0, 500⟩, ⟨0x9010, 0x9010, 3, 3, 100, 10000⟩, ⟨0x9010, 0x9010, 4, 4, 10, 5000⟩,
   ⟨0x9010, 0x9010, 5, 5, 100, 60000⟩, ⟨0x9030, 0x9030, 1, 1, 384, 511⟩, ⟨0x9030, 0x9030, 2, 2, 20, 1000⟩,
   ⟨0x9100, 0x9100, 1, 8, 100, 100000⟩, ⟨0x9100, 0x9100, 9, 12, 500, 6000⟩, ⟨0x9101, 0x9101, 1, 8, 1, 1000000⟩,
   ⟨0x9101, 0x9101, 9, 12, 10, 6000⟩, ⟨0x9101, 0x9101, 13, 16, 100, 1600⟩, ⟨0x9101, 0x9101, 17, 17, 0, 10000⟩,
   ⟨0x9101, 0x9101, 18, 21, 10, 1000⟩, ⟨0x9102, 0x9102, 1, 16, 1, 10000⟩, ⟨0x9103, 0x9103, 1, 16, 10, 100000000⟩,
   ⟨0x9104, 0x9104, 1, 4, 1, 10000⟩, ⟨0x9104, 0x9104, 5, 8, 1, 3600⟩, ⟨0x9104, 0x9104, 9, 9, 0, 1000⟩, ⟨0x9110, 0x9110, 1, 1, 500, 2000⟩,
   ⟨0x9110, 0x9110, 2, 2, 600, 2250⟩, ⟨0x9110, 0x9110, 3, 3, 1, 100⟩, ⟨0x9110, 0x9110, 4, 4, 500, 1500⟩, ⟨0x9110, 0x9110, 5, 5, 20, 500⟩,
   ⟨0x9110, 0x9110, 6, 6, -400, 1500⟩, ⟨0x9110, 0x9110, 7, 7, 200, 10000⟩, ⟨0x9120, 0x9120, 1, 3, -400, 2000⟩,
   ⟨0x9120, 0x9120, 4, 4, 10, 200⟩, ⟨0x9130, 0x9130, 2, 5, 800, 1400⟩, ⟨0x9130, 0x9130, 6, 6, 1000, 1500⟩, ⟨0x9130, 0x9130, 8, 8, 10, 200⟩]

/-- Areas A to F (R417, R465, R481, R501, R519). -/
def ranges6 : List Rng :=
  [⟨0xA000, 0xA000, 1, 2, 0, 1⟩, ⟨0xA001, 0xA001, 1, 4, 0, 2⟩, ⟨0xA003, 0xA003, 5, 5, 1, 600⟩, ⟨0xA010, 0xA010, 1, 1, 0, 1⟩,
   ⟨0xA010, 0xA010, 3, 3, 1, 32⟩, ⟨0xA010, 0xA010, 6, 6, 8, 128⟩, ⟨0xA010, 0xA010, 7, 7, 0, 4094⟩, ⟨0xA010, 0xA010, 8, 8, 0, 7⟩,
   ⟨0xA011, 0xA011, 1, 1, 0, 2⟩, ⟨0xA011, 0xA011, 2, 2, 1, 1000⟩, ⟨0xA011, 0xA011, 3, 3, 2, 20⟩, ⟨0xA012, 0xA012, 1, 1, 0, 1⟩,
   ⟨0xA020, 0xA020, 1, 3, 0, 1⟩, ⟨0xA030, 0xA030, 1, 1, 1, 30⟩, ⟨0xA030, 0xA030, 3, 3, 1, 32⟩, ⟨0xA100, 0xA100, 1, 2, 0, 127⟩,
   ⟨0xA100, 0xA100, 3, 5, 0, 1⟩, ⟨0xA101, 0xA101, 1, 3, 2, 255⟩, ⟨0xA102, 0xA102, 1, 2, 1, 2000⟩, ⟨0xA102, 0xA102, 3, 3, 1, 200⟩,
   ⟨0xA102, 0xA102, 4, 4, 50, 1000000⟩, ⟨0xA102, 0xA102, 5, 5, 100, 1000000000⟩, ⟨0xA103, 0xA103, 1, 2, -1000, 1000⟩,
   ⟨0xB000, 0xB001, 1, 1, 0, 1⟩, ⟨0xB000, 0xB001, 2, 2, 0, 3⟩, ⟨0xB000, 0xB001, 3, 3, 1, 32⟩, ⟨0xB000, 0xB001, 4, 4, 2, 256⟩,
   ⟨0xB000, 0xB001, 5, 6, 1, 128⟩, ⟨0xB000, 0xB001, 7, 8, 1, 32⟩, ⟨0xB000, 0xB001, 9, 10, 1, 16⟩, ⟨0xB000, 0xB001, 11, 11, 0, 127⟩,
   ⟨0xB000, 0xB001, 12, 12, 0, 1⟩, ⟨0xB000, 0xB001, 13, 13, 0, 10000⟩, ⟨0xB000, 0xB001, 14, 14, 1, 32⟩, ⟨0xB000, 0xB001, 15, 15, 1, 3600⟩,
   ⟨0xB000, 0xB001, 16, 16, 10, 10000⟩, ⟨0xB000, 0xB001, 17, 17, 0, 1⟩, ⟨0xB000, 0xB001, 18, 19, 0, 0x1FFFFFFF⟩,
   ⟨0xB000, 0xB001, 20, 20, 0, 255⟩, ⟨0xB000, 0xB001, 22, 22, 100, 10000⟩, ⟨0xB000, 0xB001, 24, 24, 0, 1⟩,
   ⟨0xB000, 0xB001, 25, 26, 0, 0x1FFFFFFF⟩, ⟨0xB008, 0xB008, 2, 3, 0, 0xFD⟩, ⟨0xB008, 0xB008, 6, 7, 0, 0xFD⟩,
   ⟨0xB100, 0xB13F, 1, 2, 0, 0x1FFFFFFF⟩, ⟨0xB100, 0xB13F, 3, 3, 0, 1⟩, ⟨0xB100, 0xB13F, 4, 4, 0, 2⟩, ⟨0xC000, 0xC000, 1, 1, 1024, 65535⟩,
   ⟨0xC000, 0xC000, 3, 3, 8, 255⟩, ⟨0xC100, 0xC10F, 3, 3, 1, 65535⟩, ⟨0xC100, 0xC10F, 4, 4, 0, 0x1FFFFFFF⟩,
   ⟨0xC100, 0xC10F, 5, 5, 0, 60000⟩, ⟨0xC100, 0xC10F, 6, 6, 10, 60000⟩, ⟨0xC120, 0xC123, 1, 1, 0, 4⟩, ⟨0xC120, 0xC123, 2, 2, 1, 4⟩,
   ⟨0xC120, 0xC123, 3, 3, 0, 1⟩, ⟨0xC120, 0xC123, 4, 4, 1, 16⟩, ⟨0xC120, 0xC123, 5, 5, 1, 4096⟩, ⟨0xC120, 0xC123, 6, 6, 1, 65535⟩,
   ⟨0xC120, 0xC123, 7, 7, 0, 1⟩, ⟨0xC120, 0xC123, 8, 8, 0, 256⟩, ⟨0xD000, 0xD000, 1, 1, 0, 1⟩, ⟨0xD000, 0xD000, 3, 3, 2, 64⟩,
   ⟨0xD010, 0xD01B, 1, 1, 100, 3600000⟩, ⟨0xD100, 0xD100, 1, 1, 0, 1⟩, ⟨0xD100, 0xD100, 3, 3, 100, 60000⟩,
   ⟨0xD100, 0xD100, 4, 4, 10, 10000⟩, ⟨0xE000, 0xE000, 1, 1, 1, 60000⟩, ⟨0xF020, 0xF020, 1, 1, 20, 1000⟩, ⟨0xF020, 0xF020, 2, 2, 10, 3600⟩]

/-- The plain ranges of an area. -/
def rangesOf : Nat → List Rng
  | 1 | 2 | 3 => ranges1
  | 4 | 5 => ranges2
  | 6 => ranges3
  | 7 => ranges3 ++ ranges4
  | 8 | 9 => ranges5
  | _ => ranges6

/-- The values of a type code (R426). -/
def typeBounds (ty : Nat) : Int × Int :=
  match ty with
  | 1 => (0, 255)
  | 2 => (0, 65535)
  | 3 => (0, 0xFFFFFFFF)
  | 18 => (-32768, 32767)
  | 19 => (-2147483648, 2147483647)
  | 33 => (0, 2 ^ 128 - 1)
  | _ => (0, 2 ^ 64 - 1)

/-- Sensor pole pairs of an interface code (R148). -/
def Params.sensorPoles (p : Params) (i : Nat) : Int :=
  if i = 1 ∨ i = 2 then p.storedOf (0x500F + i) 3 else if i = 5 ∨ i = 6 then p.storedOf (0x500F + i) 1 else 1

/-- The pole pairs of every group are a multiple of those of its assigned interfaces, and no interface is assigned twice (R147, R148). -/
def Params.sourcesOk (p : Params) : Bool :=
  ((List.range 8).all fun k =>
    let i := (p.storedOf 0x5000 (k + 1)).toNat
    i = 0 || p.storedOf 0x5002 (k % 4 + 1) % p.sensorPoles i == 0) &&
  ((List.range 8).all fun k => (List.range 8).all fun j =>
    Nat.ble j k || p.storedOf 0x5000 (k + 1) == 0 || p.storedOf 0x5000 (k + 1) != p.storedOf 0x5000 (j + 1))

/-- Bit timing of a CAN controller (R468, R469): SJW within TSEG2, rates in range. -/
def Params.canTimingOk (p : Params) (i : Nat) : Bool :=
  let nq := p.storedOf i 3 * (1 + p.storedOf i 4 + p.storedOf i 5)
  let dq := p.storedOf i 7 * (1 + p.storedOf i 8 + p.storedOf i 9)
  decide (p.storedOf i 6 ≤ p.storedOf i 5) && decide (p.storedOf i 10 ≤ p.storedOf i 9) && decide (dq ≤ nq) &&
    decide (80 ≤ nq ∧ nq ≤ 1600) && decide (16 ≤ dq)

/-- A channel code of R410. -/
def channelOk (c : Int) : Bool :=
  let n := c.toNat
  let a := n / 256
  let k := n % 256
  decide (0 ≤ c) && (((a == 1 || a == 4) && Nat.ble 1 k && Nat.ble k 12) || n == 0x200 || n == 0x300 ||
    (Nat.ble 5 a && Nat.ble a 10 && Nat.ble 1 k && Nat.ble k 4) || (a == 11 && Nat.ble 1 k && Nat.ble k 24))

/-- Words of the data of a stream packet (R411). -/
def Params.packetWords (p : Params) (i : Nat) : Int :=
  (p.storedOf i 4 * p.storedOf i 5 * (if p.storedOf i 3 = 1 then 12 else 16) + 63) / 64

/-- Selection values (R300). -/
def selectionOk (v : Nat) : Bool := v % 8 ≤ 4 && v / 8 % 2 == 0 && v / 16 % 4 ≤ 2 && v / 128 == 0

/-- A limit of input 0x3C or 0x3D as R532 has it in force while its record keeps its default; none for HK28 before its first round. -/
def Params.movingLimit (p : Params) (hk28 : Int) (i s : Nat) : Option Int :=
  let v := if i = 0x413C then hk28 else if p.storedOf 0x5001 1 = 0 then 5000 else 12000
  if p.storedOf i s ≠ objDefault i s then some (p.storedOf i s) else if v = 0 then none else some (if s = 1 then v - v / 10 else v + v / 10)

/-- The conditions of a write that name other stored values; `p` holds the written value too, `hk28` the nominal of input 0x3C (R532). -/
def Params.relationOk (p : Params) (hk28 : Int) (i s : Nat) (v : Int) : Bool :=
  let g (a b : Nat) : Int := p.storedOf a b
  if i = 0x1100 then (List.range 4).all fun k => decide (g 0x7011 (k + 1) ≤ max 1 (bridgesUnder v.toNat ⟨k % 4, by omega⟩).length)
  else if i = 0x2010 then
    let saw := decide (g 0x2011 s = 1)
    let n : Int := if saw then 400000000 else 200000000
    decide ((if saw then 4 else 2) * (g 0x2030 6 + g 0x2014 1) ≤ (2 * n + v) / (2 * v))
  else if i = 0x2011 ∨ i = 0x2012 then !(decide (g 0x2011 s = 1) && decide (g 0x2012 s ≠ 0))
  else if i = 0x2030 ∧ s = 6 then (List.range 4).all fun k => decide (g 0x2030 (k + 1) ≤ v)
  else if i = 0x3011 ∨ (i = 0x3033 ∧ s = 5) then v % 25 == 0
  else if 0x3021 ≤ i ∧ i ≤ 0x3027 then
    if s = 0x11 then decide (v ≤ 7) || v == 255 else v % 32 == 0 && decide (v / 32 % 32 ≤ 25)
  else if i = 0x3033 ∧ s ≤ 4 then decide (v ≤ g 0x3000 s - 20)
  else if i = 0x3050 ∧ s = 3 then decide (g 0x3050 1 + 2000 ≤ 1000 * v)
  else if (i = 0x413C ∨ i = 0x413D) ∧ s ≤ 2 then
    (p.movingLimit hk28 i 1).all fun lo => (p.movingLimit hk28 i 2).all fun hi => decide (lo < hi)
  else if 0x4100 ≤ i ∧ i ≤ 0x4153 ∧ s ≤ 2 then decide (g i 1 < g i 2)
  else if i = 0x5000 ∨ i = 0x5002 ∨ ((i = 0x5010 ∨ i = 0x5011) ∧ s = 3) ∨ ((i = 0x5014 ∨ i = 0x5015) ∧ s = 1) then p.sourcesOk
  else if (i = 0x5016 ∨ i = 0x5017) ∧ 2 ≤ s ∧ s ≤ 4 then decide (g i 3 + g i 4 ≤ g i 2)
  else if (i = 0x5016 ∨ i = 0x5017) ∧ s = 6 then decide (v ≤ 39) || v == 255
  else if i = 0x5020 then
    let k := (s - 1) % 4 + 1
    g 0x5020 (k + 8) == 0 || decide (g 0x5020 k < g 0x5020 (k + 4))
  else if 0x6001 ≤ i ∧ i ≤ 0x6004 ∧ s ≤ 2 then decide (g i 1 < g i 2)
  else if 0x6001 ≤ i ∧ i ≤ 0x6004 ∧ s ≤ 7 ∧ 4 ≤ s then decide (g i 4 < g i 5) && decide (g i 5 < g i 6) && decide (g i 6 < g i 7)
  else if i = 0x7000 ∧ s ≤ 4 then decide (v ≤ -(g (0x6000 + s) 1)) && decide (v ≤ g (0x6000 + s) 3)
  else if i = 0x7000 then decide (g (0x6000 + s - 4) 1 ≤ v)
  else if i = 0x7008 ∧ s = 8 then decide (v < g 0x7008 5)
  else if i = 0x7011 ∧ s ≤ 4 then decide (v ≤ max 1 (bridgesUnder (g 0x1100 1).toNat ⟨(s - 1) % 4, by omega⟩).length)
  else if i = 0x7081 then decide (v ≤ 7) || v == 255
  else if i = 0x7100 ∧ s = 2 then decide (g 0x7100 1 ≤ 1000 * v)
  else if i = 0x8034 then
    let k := (s - 1) % 4 + 1
    decide (g 0x8034 k < g 0x8034 (k + 4))
  else if i = 0x8035 then selectionOk v.toNat
  else if i = 0x8040 ∧ s = 4 then decide (g 0x8040 2 < v) && decide (g 0x8040 3 < v)
  else if i = 0x8100 ∧ s ≤ 4 then v == 0 || v == 5 || v == 6
  else if i = 0x9100 ∧ s ≤ 8 then
    let k := (s - 1) % 4 + 1
    decide (g 0x9100 k ≤ g 0x9100 (k + 4))
  else if i = 0x9110 ∧ s = 1 then decide (v < g 0x9110 2)
  else if i = 0x9120 ∧ s ≤ 3 then decide (g 0x9120 1 < g 0x9120 2) && decide (g 0x9120 2 < g 0x9120 3)
  else if i = 0x9130 ∧ s ≤ 5 ∧ 2 ≤ s then
    decide (g 0x9130 2 < g 0x9130 3) && decide (g 0x9130 3 < g 0x9130 4) && decide (g 0x9130 4 < g 0x9130 5) && decide (v < g 0x9130 6)
  else if i = 0xA030 ∧ s = 2 then v / 2 ^ 40 % 2 == 1 && decide (v < 2 ^ 48)
  else if i = 0xA100 ∧ s ≤ 2 then g 0xA100 1 != g 0xA100 2
  else if (i = 0xB000 ∨ i = 0xB001) ∧ 3 ≤ s ∧ s ≤ 10 then p.canTimingOk i
  else if (i = 0xB000 ∨ i = 0xB001) ∧ (s = 0x12 ∨ s = 0x13) then g i 0x12 != g i 0x13
  else if (i = 0xB000 ∨ i = 0xB001) ∧ s = 0x15 then decide (v ≤ 0x7F) || (decide (0xF1 ≤ v) && decide (v ≤ 0xF9))
  else if i = 0xB008 ∧ (s = 6 ∨ s = 7) then decide (g 0xB008 6 ≤ g 0xB008 7)
  else if 0xB100 ≤ i ∧ i ≤ 0xB13F ∧ s ≤ 3 then g i 3 != 0 || (decide (g i 1 ≤ 0x7FF) && decide (g i 2 ≤ 0x7FF))
  else if 0xC100 ≤ i ∧ i ≤ 0xC10F ∧ s = 1 then decide (v ≤ 2) || v == 255
  else if 0xC120 ≤ i ∧ i ≤ 0xC123 ∧ s = 5 then decide (p.packetWords i ≤ 180)
  else if 0xC120 ≤ i ∧ i ≤ 0xC123 ∧ 0x11 ≤ s then channelOk v
  else true

/-- A value lies in its type, in its plain range and in its relations (the range rules; R426). -/
def Params.rangeOk (p : Params) (hk28 : Int) (ty i s : Nat) (v : Int) : Bool :=
  let b := typeBounds ty
  decide (b.1 ≤ v) && decide (v ≤ b.2) &&
    ((rangesOf (i / 0x1000)).all fun r =>
      !(Nat.ble r.i0 i && Nat.ble i r.i1 && Nat.ble r.s0 s && Nat.ble s r.s1) || (decide (r.lo ≤ v) && decide (v ≤ r.hi))) &&
    (p.setStored i s v).relationOk hk28 i s v

end Sys2Proof.Machine
end

