-- ==== Sys2Proof/Machine/Params.lean ====
section
/-! DEFINITION. Parameter objects over commands: PARAM.READ, PARAM.WRITE, PARAM.COMMIT and the safety signature (R3, R15, R121, R176,
R271, R385, R407, R409, R410, R413, R426 to R430, R443, R517). -/

namespace Sys2Proof.Machine

/-! Reading (R426) -/

/-- Low and high word of a value (R426): sign-extended or zero-extended to 128 bits. -/
def valueWords (v : Int) : List Word := [BitVec.ofNat 64 (ofSigned 128 v % 2 ^ 64), BitVec.ofNat 64 (ofSigned 128 v / 2 ^ 64)]

/-- The five words of an object (R426). -/
def State.objectWords (s : State) (i k : Nat) (ty acc eff : Nat) : List Word :=
  let v := s.valuesOf i k
  let pend := decide (s.sto i k ≠ s.act i k) && !isStat i k && (s.readback i k).isNone
  BitVec.ofNat 64 (i + 2 ^ 16 * k + 2 ^ 24 * ty + 2 ^ 32 * eff + 2 ^ 35 * b2n (pend || (i == 0xC030 && decide (s.sto i k ≠ s.act i k))) +
    2 ^ 36 * acc) :: (valueWords v.1 ++ valueWords v.2)

/-- PARAM.READ (R424, R426). -/
def paramRead (e : CmdEntry) (r : CmdRef) (s : State) : State :=
  let objs := e.ops.map fun w => (bits 15 0 w.toNat, bits 23 16 w.toNat)
  match (objs.zipIdx).find? (fun o => (objInfo o.1.1 o.1.2).isNone) with
  | some o => complete r stObject [refusalWord (o.2 + 1) (o.2 + 1) 0] s
  | none =>
    if s.drive.state = .sleep then refuse r stState 0 s
    else complete r stOk ((objs.map fun o => match objInfo o.1 o.2 with
      | some (ty, acc, eff) => s.objectWords o.1 o.2 ty acc eff
      | none => []).flatten) s

/-- PARAM_READ. -/
def execParamRead (e : CmdEntry) (s : State) : Host.Outcome State Fault Refusal :=
  .next (runCommand e 0x0401 [2, 3] (decide (1 ≤ e.ops.length ∧ e.ops.length ≤ 32)) 32 false (paramRead e) s)

/-! Writing (R427) -/

/-- One entry of a write: object, type code, 128-bit value, and whether its reserved bits are zero. -/
structure WriteEntry where
  index : Nat
  sub : Nat
  ty : Nat
  raw : Nat
  clean : Bool
  deriving DecidableEq, Repr

/-- The value of an entry (R426). -/
def WriteEntry.value (e : WriteEntry) : Int := if e.ty = 18 ∨ e.ty = 19 then toSigned 128 e.raw else (e.raw : Int)

/-- The type codes of R426. -/
def typeCodes : List Nat := [1, 2, 3, 4, 18, 19, 32, 33]

/-- The reserved bits of an entry are zero, and its type code is that of the object, where there is one (R427). -/
def WriteEntry.typed (e : WriteEntry) : Bool :=
  e.clean && typeCodes.contains e.ty && (objInfo e.index e.sub).all fun o => o.1 == e.ty

/-- Every bridge is in STANDBY or LOCKOUT: RWS objects are writable (R3). -/
def State.writable (s : State) : Bool := allBr.all fun b => decide (s.br[b].state = .standby ∨ s.br[b].state = .lockout)

/-- An object that only Q0 may write (R271, R409). -/
def q0Only (i : Nat) : Bool := i / 0x1000 == 8 || i == 0xC030

/-- Serials of the fault records that a clear up to serial `v` covers: from the oldest held up to the newest with that serial (R517). -/
def State.clearedBy (s : State) (v : Nat) : Option (List Nat) :=
  match s.boot.records.findIdx? fun r => r.serial == v with
  | some n => some ((s.boot.records.drop n).map (·.serial))
  | none => none

/-- A write in range meets a state that forbids it (R3, R121, R176, R410, R517). -/
def State.writeBarred (s : State) (p : Params) (acc i k : Nat) (v : Int) : Bool :=
  (acc == 2 && !s.writable) ||
  (Nat.ble 0x6001 i && Nat.ble i 0x6004 && !s.atlasEmpty (grAt (i - 0x6001))) ||
  (i == 0x4014 && (if k ≤ 4 then v != 0 && p.storedOf 0x4014 (k + 4) == 1 else v == 1 && p.storedOf 0x4014 (k - 4) != 0)) ||
  (Nat.ble 0xC120 i && Nat.ble i 0xC123 && (s.streams[(i - 0xC120) % 4]'(by omega)).running) ||
  (i == 0xF040 && !s.allStandby)

/-- The refusal of one entry (R421, R427), judged against parameters `p` as the earlier entries have left them; 0 where it passes. -/
def State.judgeEntry (s : State) (queue : Nat) (p : Params) (e : WriteEntry) : Nat :=
  if !e.typed then stOperand
  else match objInfo e.index e.sub with
    | none => stObject
    | some (ty, acc, _) =>
      if q0Only e.index && queue != 0 then stAuth
      else if acc = 0 then stObject
      else if !p.rangeOk s.drive.hk28 ty e.index e.sub e.value || (e.index == 0xF040 && (s.clearedBy e.raw).isNone) then stRange
      else if s.writeBarred p acc e.index e.sub e.value then stState else 0

/-- Judge entries in order: the parameters as they leave them, and the refusals with their entry numbers (log 31). -/
def State.judgeAll (s : State) (queue : Nat) : Nat → List WriteEntry → Params → Params × List (Nat × Nat)
  | _, [], p => (p, [])
  | n, e :: t, p =>
    let st := s.judgeEntry queue p e
    if st = 0 then s.judgeAll queue (n + 1) t (p.setStored e.index e.sub e.value)
    else
      let r := s.judgeAll queue (n + 1) t p
      (r.1, (st, n) :: r.2)

/-- The first refusal in the order of R421: status and entry. -/
def firstRefusal (l : List (Nat × Nat)) : Option (Nat × Nat) :=
  l.foldl (fun m x => match m with
    | none => some x
    | some y => if x.1 < y.1 then some x else some y) none

/-- Store one accepted entry: an "immediate" object becomes active at once (R15); the halves of the Q0 key are noted (R407), a record
clear acts (R517). -/
def storeEntry (e : WriteEntry) (s : State) : State :=
  let now := effectOf (objKey e.index e.sub) == 0
  let par := if now then s.par.setBoth e.index e.sub e.value else s.par.setStored e.index e.sub e.value
  let s := { s with par := par }
  let s := onlyIf (e.index == 0xC030) (fun a => { a with par := { a.par with halves := a.par.halves.set ((e.sub - 1) % 2) true } }) s
  if e.index = 0xF040 then { s with boot := { s.boot with cleared := s.boot.cleared ++ (s.clearedBy e.raw).getD [] } } else s

/-- Apply entries as one PARAM.WRITE: every one is stored, or none with its refusal. -/
def applyWrites (queue : Nat) (es : List WriteEntry) (s : State) : State × Option (Nat × Nat) :=
  match firstRefusal (s.judgeAll queue 1 es s.par).2 with
  | some x => (s, some x)
  | none => (es.foldl (fun a e => storeEntry e a) s, none)

/-- The entries of PARAM.WRITE's operand words (R427). -/
def writeEntries : List Word → List WriteEntry
  | a :: b :: c :: t =>
    { index := bits 15 0 a.toNat, sub := bits 23 16 a.toNat, ty := bits 31 24 a.toNat, raw := b.toNat + 2 ^ 64 * c.toNat,
      clean := bits 63 32 a.toNat == 0 } :: writeEntries t
  | _ => []

/-- The operand word that offends in entry n of a write (R421, R427): its value for a range, none where a state decided, else its first word. -/
def offendingWord (st n : Nat) : Nat := if st = stState then 0 else if st = stRange then 3 * n - 1 else 3 * n - 2

/-- PARAM.WRITE (R427). -/
def paramWrite (e : CmdEntry) (r : CmdRef) (s : State) : State :=
  match applyWrites e.queue.val (writeEntries e.ops) s with
  | (t, none) => complete r stOk [] t
  | (_, some (st, n)) => complete r st [refusalWord (offendingWord st n) n 0] s

/-- A PARAM.WRITE of entries. A type code that is not the object's is refused before the tag of Q0 is judged (R421). -/
def runWrite (e : CmdEntry) (lenOk : Bool) (want : Nat) (zeroKeyOk : Bool) (s : State) : State :=
  match (writeEntries e.ops).findIdx? fun x => !x.typed with
  | some n =>
    if lenOk && [0, 2].contains e.queue.val then complete (e.ref 0x0402) stOperand [refusalWord (offendingWord stOperand (n + 1)) (n + 1) 0] s
    else runCommand e 0x0402 [0, 2] lenOk want zeroKeyOk (paramWrite e) s
  | none => runCommand e 0x0402 [0, 2] lenOk want zeroKeyOk (paramWrite e) s

/-- PARAM_WRITE. An unprovisioned unit takes only writes of 0xC030 on Q0 (R409). -/
def execParamWrite (e : CmdEntry) (s : State) : Host.Outcome State Fault Refusal :=
  .next (runWrite e (decide (1 ≤ e.ops.length ∧ e.ops.length ≤ 180 ∧ e.ops.length % 3 = 0)) (3 * (e.ops.length / 3) + 3)
    ((writeEntries e.ops).all fun x => x.index == 0xC030) s)

/-! Commit (R429) -/

/-- Bytes of an object value at the width of its type. -/
def typeBytes (ty : Nat) : Nat := match ty with
  | 1 => 1 | 2 => 2 | 18 => 2 | 3 => 4 | 19 => 4 | 33 => 16 | _ => 8

/-- Writable objects of an area in ascending order: index, sub, type. -/
def writableObjects (a : Nat) : List (Nat × Nat × Nat) :=
  let all := (objectsOf a).filter (fun r => r.acc != 0) |>.map fun r =>
    ((List.range (r.i1 - r.i0 + 1)).map fun d => (List.range (r.s1 - r.s0 + 1)).map fun n => (r.i0 + d, r.s0 + n, r.ty)).flatten
  all.flatten.mergeSort fun a b => Nat.ble (objKey a.1 a.2.1) (objKey b.1 b.2.1)

/-- Writable objects of area 8 (R271). -/
def area8Objects : List (Nat × Nat × Nat) := writableObjects 8

/-- The safety signature over the stored values of area 8 (R271). -/
def State.safetySignature (s : State) : Nat :=
  crc32 ((area8Objects.map fun o =>
    leBytes 2 o.1 ++ leBytes 1 o.2.1 ++ leBytes (typeBytes o.2.2) (ofSigned (8 * typeBytes o.2.2) (s.sto o.1 o.2.1))).flatten)

/-- The signature is recomputed; a change raises E-8080 (R271). -/
def refreshSignature (s : State) : State :=
  let v := s.safetySignature
  if s.clove.signature = v then s else raise4 0x8080 [(v : Int)] { s with clove := { s.clove with signature := v } }

/-- Slots of an owner in a table. -/
def slotsOf (t : List Nat) (o : Nat) : Nat := (t.filter (· == o)).length

/-- What R385 asks of the table: a requester, the slots that it must own at least, the longest gap between them. -/
def slotNeeds : List (Nat × Nat × Nat) := [(0, 16, 4), (1, 8, 8), (2, 8, 8), (5, 4, 16), (7, 4, 64)]

/-- The first requester for which the base table or the ranking fails R385: too few slots, too long a gap, a rank out of range or taken
already. -/
def tableFault (t ranks : List Nat) : Option Nat :=
  ((slotNeeds.find? fun n => decide (slotsOf t n.1 < n.2.1 ∨ n.2.2 < longestGap t n.1)).map (·.1)).orElse fun _ =>
    (List.range 8).find? fun j => decide (8 ≤ ranks.getD j 8) || (ranks.take j).contains (ranks.getD j 8)

/-- The base table and the ranking pass R385. -/
def tableOk (t ranks : List Nat) : Bool := (tableFault t ranks).isNone

/-- The base table that parameters hold as stored values. -/
def Params.storedTable (p : Params) : List Nat := (List.range 64).map fun k => (p.storedOf 0x7081 (k + 1)).toNat
/-- The ranking that parameters hold as stored values. -/
def Params.storedRanks (p : Params) : List Nat := (List.range 8).map fun k => (p.storedOf 0x7083 (k + 1)).toNat

/-- The frozen set of a commit: pending "at commit" objects; the Q0 key only once both halves are written (R407, R429 step 1). -/
def State.frozenSet (s : State) : List Nat :=
  s.par.pendingKeys.filter fun k => effectOf k == 2 && (k / 256 != 0xC030 || (s.par.halves[0] && s.par.halves[1]))

/-- The set as a whole passes R385 and R413; otherwise the first failing object and whether R385 failed. -/
def State.commitFails (s : State) (ks : List Nat) : Option (Nat × Bool) :=
  let touched := ks.find? fun k => k / 256 == 0x7081 || k / 256 == 0x7083
  match touched with
  | some k => if tableOk s.par.storedTable s.par.storedRanks then
      (match ks.find? (fun k => Nat.ble 0xC120 (k / 256) && Nat.ble (k / 256) 0xC123) with
        | some k => if (List.range 4).foldl (fun m n => m + s.stoN (0xC120 + n) 8) 0 ≤ 256 then none else some (k, false)
        | none => none) else some (k, true)
  | none =>
    match ks.find? (fun k => Nat.ble 0xC120 (k / 256) && Nat.ble (k / 256) 0xC123) with
    | some k => if (List.range 4).foldl (fun m n => m + s.stoN (0xC120 + n) 8) 0 ≤ 256 then none else some (k, false)
    | none => none

/-- The frozen set takes effect at once (R429 step 4): the configuration code (R10), the slot table and ranking at the next round boundary
(R385), the Q0 key with E-C006 (R407), the ring shares. -/
def applyFrozen (ks : List Nat) (s : State) : State :=
  let old := s.actN 0x1100 1
  let s := onlyIf (ks.contains (objKey 0x1100 1)) (unbindGroups (s.stoN 0x1100 1)) s
  let s := { s with par := s.par.activateWhere fun k => ks.contains k }
  let s := onlyIf (ks.contains (objKey 0x1100 1)) (rebindGroups old) s
  let s := onlyIf (ks.any fun k => k / 256 == 0x7081 || k / 256 == 0x7083) (fun a => { a with arb := { a.arb with
    base := some (Vector.ofFn fun i => a.actN 0x7081 (i.val + 1), Vector.ofFn fun i => a.actN 0x7083 (i.val + 1)) } }) s
  let s := onlyIf (s.par.halves[0] && s.par.halves[1]) (fun a =>
    raise4 0xC006 [(a.q0Check : Int)] { a with par := { a.par with halves := .replicate 2 false } }) s
  { s with streams := Vector.ofFn fun k => { s.streams[k] with ringShare := s.actN (0xC120 + k.val) 8 } }

/-- The parameter slot that the record does not name is being written: it loads no more until its record stands (R434, R513, R514). -/
def spoilImage (s : State) : State := { s with par := { s.par with slots := s.par.slots.set (s.otherSlot 3 0 % 2) none } }

/-- PARAM.COMMIT (R429): steps 1 to 5, then the write of the image, of the stored values as they then stand, is queued; NAND_OPERATION_DONE
ends it. -/
def paramCommit (r : CmdRef) (s : State) : State :=
  let ks := s.frozenSet
  if s.par.commit.isSome || s.drive.state = .sleep || (!ks.isEmpty && !s.writable) then refuse r stState 0 (bump 0xE010 2 s)
  else match s.commitFails ks with
    | some (k, table) =>
      let s := raise4 0x1003 [((k / 256 : Nat) : Int), ((k % 256 : Nat) : Int)] s
      let s := onlyIf table (raise4 0x6807 [(((tableFault s.par.storedTable s.par.storedRanks).getD 0 : Nat) : Int)]) s
      complete r stRange [refusalWord 0 0 (k / 256 + 65536 * (k % 256))] (bump 0xE010 2 s)
    | none =>
      let s := if ks.isEmpty then s else applyFrozen ks s
      let s := refreshSignature s
      spoilImage { s with par := { s.par with commit := some { ref := r, applied := ks.length, image := s.par.stored } } }

/-- The records of a parameter image: of every writable object its index, sub and type, four bytes of zero and its stored value, as in a parameter
file (R440, R443; log 212). -/
def Params.imageRecord (p : Params) (i sub ty : Nat) : List Byte :=
  leBytes 2 i ++ leBytes 1 sub ++ leBytes 1 ty ++ leBytes 4 0 ++ leBytes 16 (ofSigned 128 (p.storedOf i sub))

/-- The CRC-32 of the records of an image, in ascending order of the objects (R511; log 212). -/
def Params.imageCrc (p : Params) : Nat :=
  crc32 (((List.range 16).map fun a => (writableObjects a).map fun o => p.imageRecord o.1 o.2.1 o.2.2).flatten.flatten)

/-- The image write of a commit ends (R429 steps 6 and 7, R443). -/
def commitEnd (good : Bool) (s : State) : State :=
  match s.par.commit with
  | none => s
  | some c =>
    let s := { s with par := { s.par with commit := none } }
    if good then
      let slot := s.otherSlot 3 0
      let seq := s.nextSeq 3 0
      let image : ParamImage := { values := c.image, good := true }
      let rec0 : JRecord := { kind := 3, target := 0, slot := slot, trial := 0, confirmed := false, seq := seq, detail := seq, axis := [],
                              slotCrc := Params.imageCrc { s.par with stored := c.image }, good := true }
      let s := { s with par := { s.par with slots := s.par.slots.set (slot % 2) (some image) } }
      let s := bump 0xE010 1 (appendRecord rec0 s)
      let s := raise4 0x1001 [(seq : Int), (s.clove.signature : Int), (c.applied : Int)] s
      complete c.ref stOk [BitVec.ofNat 64 (seq % 2 ^ 32 + 2 ^ 32 * s.clove.signature)] s
    else complete c.ref stHardware [] (bump 0xE010 2 (raise4 0x1002 [] s))

end Sys2Proof.Machine
end

