-- ==== Sys2Proof/Machine/FaultClear.lean ====
section
/-! DEFINITION. FAULT.CLEAR: the latched items, their causes and what clearing them does (R17, R70, R101, R252, R258, R261, R274, R289,
R304, R313, R371, R431). -/

namespace Sys2Proof.Machine

/-- A latched item (R431). -/
inductive Item where
  | forcing (b : BridgeId)
  | lockout (b : BridgeId)
  | leg (l : LegId)
  | position (p : PosId)
  | weld
  | discharge
  | discrepancy
  | disagreement
  | startupTest
  | brakeSwitch
  | brakeFeedback
  deriving DecidableEq, Repr

/-- Every item that can latch, in order. -/
def allItems : List Item :=
  [.weld, .discharge, .discrepancy, .disagreement, .startupTest, .brakeSwitch, .brakeFeedback] ++ allBr.map .forcing ++ allBr.map .lockout ++
    (List.finRange 12).map .leg ++ (List.finRange 24).map .position

/-- An item is latched. -/
def State.latched (s : State) : Item → Bool
  | .forcing b => s.br[b].force.latching
  | .lockout b => decide (s.br[b].state = .lockout)
  | .leg l => (s.leg l).fault != 0
  | .position p => (s.pos p).latched
  | .weld => s.cont.weld
  | .discharge => s.cont.failed
  | .discrepancy => s.clove.discrepancy
  | .disagreement => s.clove.disagree
  | .startupTest => s.clove.testFailed
  | .brakeSwitch => s.clove.brakeHigh || s.clove.brakeLow
  | .brakeFeedback => s.clove.brakeLatch

/-- Latching event code, level and index of an item. -/
def State.itemWord (s : State) : Item → Nat × Nat × Nat
  | .forcing b => let l := s.br[b].force.level; (0x2007, l, if l = 4 then 0 else b.val + 1)
  | .lockout b => let l := if s.br[b].force.latching then s.br[b].force.level else 3; (0x6035, l, if l = 4 then 0 else b.val + 1)
  | .leg l => ((s.leg l).fault, 2, l.val + 1)
  | .position p => ((s.pos p).latchCode, 1, p.val + 1)
  | .weld => (0x7113, 4, 0)
  | .discharge => (0x7122, 4, 0)
  | .discrepancy => (0x8003, 4, 0)
  | .disagreement => (0x8108, 4, 0)
  | .startupTest => (0x8104, 4, 0)
  | .brakeSwitch => (0x8042, 3, (s.brakeGroup.map s.groupIndex).getD 0)
  | .brakeFeedback => (0x8041, 3, (s.brakeGroup.map s.groupIndex).getD 0)

/-- An item lies at or below the part named by a level and an index (R431). -/
def State.inScope (s : State) (level index : Nat) (i : Item) : Bool :=
  let w := s.itemWord i
  match level with
  | 4 => true
  | 3 => w.2.1 ≤ 3 && (match i with
    | .leg l => (brOfLeg l).val + 1 == index
    | .position p => (brOfPos p).val + 1 == index
    | _ => w.2.2 == index)
  | 2 => match i with
    | .leg l => l.val + 1 == index
    | .position p => (legOfPos p).val + 1 == index
    | _ => false
  | _ => match i with
    | .position p => p.val + 1 == index
    | _ => false

/-- U_C has stayed below 0x7130.02 for 1 s with every coil open (R258, R261). -/
def State.linkDead (s : State) : Bool := s.cont.lowSince.any fun t => decide (t + ticksPerS ≤ s.now)

/-- Every junction estimate of a bridge, with its margin (R366), lies below T_lim, 0x9110.01 (R371). -/
def State.coolEnough (s : State) (b : BridgeId) : Bool := allSlots.all fun k => decide (s.junction b k < s.actR 0x9110 1)

/-- A forcing by DC-link overvoltage is cleared only below 95 % of the threshold (R525). -/
def State.linkLow (s : State) (f : Force) : Bool :=
  !(f.sources.any fun x => decide (x.1 = .overvoltage)) || decide (100 * s.drive.udc < 95 * s.actR 0x8105 1)

/-- The cause of an item is absent. -/
def State.causeAbsent (s : State) : Item → Bool
  | .forcing b => s.br[b].force.causes.isEmpty && (!s.br[b].th.tripped || s.coolEnough b) && s.linkLow s.br[b].force
  | .lockout b => s.br[b].force.causes.isEmpty && (!s.br[b].th.tripped || s.coolEnough b)
  | .leg _ => true
  | .position p => (s.pos p).railReady && (s.pos p).linkValid && (s.pos p).soft.val == 0
  | .weld => s.cont.mirrorOpen.all id && s.linkDead
  | .discharge => s.linkDead
  | .discrepancy => s.clove.bothLow && s.clove.stoA && s.clove.stoB
  | .disagreement => false
  | .startupTest => false
  | .brakeSwitch => true
  | .brakeFeedback => s.clove.brakeOn == s.clove.brakeFb

/-- A bridge's forcing is cleared (R252): SAFE-ASC stays as a held catch ASC where R251 still chooses ASC; otherwise STANDBY. -/
def clearForce (b : BridgeId) (s : State) : State :=
  let s := modBr b (fun x => { x with th := { x.th with tripped := false } }) s
  if s.inAsc b && 2 ≤ (s.safeChoice b).val then
    let level := s.br[b].force.level
    let s := raise 0x200D level (if level = 4 then 0 else b.val + 1) [(b.val + 1 : Int)] s
    let s := modBr b (fun x => { x with force := { x.force with sources := [(.catchAsc, 3)], causes := [], twoLeg := false },
                                        start := { Start.reset with phase := 7, since := s.now }, state := .safeAsc }) (emptySets b s)
    settleBridge b s
  else
    let s := dropForce b s
    bridgeTo .standby b s

/-- Clear one item. -/
def clearItem (i : Item) (s : State) : State :=
  match i with
  | .forcing b => if s.br[b].force.latching then clearForce b s else s
  | .lockout b => if s.br[b].state = .lockout then clearForce b s else s
  | .leg l => modLeg l (fun x => { x with fault := 0, overlapRun := 0, cancelRun := 0 }) s
  | .position p => modPos p (fun x => { x with latched := false, tries := [], detected := none, reported := false, retry := none,
                                               retryDue := false }) s
  | .weld => { s with cont := { s.cont with weld := false } }
  | .discharge => { s with cont := { s.cont with failed := false } }
  | .discrepancy => { s with clove := { s.clove with discrepancy := false, bothLow := false } }
  | .disagreement => s
  | .startupTest => s
  | .brakeSwitch => { s with clove := { s.clove with brakeHigh := false, brakeLow := false } }
  | .brakeFeedback => { s with clove := { s.clove with brakeLatch := false } }

/-- The drive after a clear: it leaves a level 4 safe state when no level 4 forcing remains, and LOCKOUT when nothing remains anywhere
(R17, R70; log 15); the contactors follow that state (R255). -/
def driveAfterClear (s : State) : State :=
  let ready := s.cont.coil[0] && s.cont.coil[1] && s.cont.opening == 0
  match s.drive.state with
  | .safeOff | .safeAsc =>
    if allBr.any (fun b => s.br[b].force.latching && s.br[b].force.level == 4) then settleDrive s
    else settleCoils (settleDrive (setDrive (if ready then .armed else .standby) s))
  | .lockout => if allItems.any s.latched then s else setDrive .standby s
  | _ => s

/-- A level and index that name a part (R4, R431). -/
def partOk (level index : Nat) : Bool :=
  match level with
  | 4 => index == 0
  | 3 => Nat.ble 1 index && Nat.ble index 4
  | 2 => Nat.ble 1 index && Nat.ble index 12
  | 1 => Nat.ble 1 index && Nat.ble index 24
  | _ => false

/-- FAULT.CLEAR (R431); during a rejoin it waits for its end (R329). -/
def faultClear (e : CmdEntry) (r : CmdRef) (s : State) : State :=
  let level := bits 2 0 (e.word 1)
  let index := bits 15 8 (e.word 1)
  if !partOk level index then refuse r stRange 1 s
  else if s.drive.rejoinRef.isSome then { s with drive := { s.drive with clears := s.drive.clears ++ [e] } }
  else if s.drive.state = .sleep ∨ s.clove.disagree ∨ s.clove.testFailed ∨ (s.clove.discrepancy && !s.causeAbsent .discrepancy) then refuse r stState 0 s
  else
    let scope := allItems.filter fun i => s.latched i && s.inScope level index i
    let goes := scope.filter s.causeAbsent
    let stays := scope.filter fun i => !s.causeAbsent i
    if goes.isEmpty && !stays.isEmpty then refuse r stState 0 s
    else
      let words := stays.map fun i => let w := s.itemWord i; BitVec.ofNat 64 (w.1 + 2 ^ 16 * w.2.1 + 2 ^ 24 * w.2.2)
      let s := goes.reverse.foldl (fun a i => clearItem i a) s
      let s := settleDischarge (driveAfterClear s)
      complete r (if stays.isEmpty then stOk else stLimited)
        (BitVec.ofNat 64 (goes.length % 65536 + 65536 * stays.length) :: words.take 16) s

/-- FAULT_CLEAR. -/
def execFaultClear (e : CmdEntry) (s : State) : Host.Outcome State Fault Refusal := .next (command e 0x0303 0 1 (faultClear e) s)

end Sys2Proof.Machine
end

