-- ==== Sys2Proof/Machine/Epoch.lean ====
section
/-! DEFINITION. Statistics epochs (R497 to R499). -/

namespace Sys2Proof.Machine

/-- Time in free run is counted up to now, in ms (R466). -/
def countFreeRun (s : State) : State :=
  match s.time.freeSince with
  | some t => bumpBy 0xE0AC 6 ((s.now - t) / ticksPerMs)
      { s with time := { s.time with freeSince := some (t + (s.now - t) / ticksPerMs * ticksPerMs) } }
  | none => s

/-- The epoch in progress ends (R497, R498): the counters are latched into the snapshot and restart at zero, the first-in-epoch events
rearm, the "at epoch" values become active (R15), and the boundary enqueues the Q11 entry. `cut` is an epoch ended early, with E-E001. -/
def closeEpoch (cut : Bool) (s : State) : State :=
  let n := s.st.epoch
  let s := countFreeRun s
  let s := { s with
    st := { s.st with running := [], snapshot := s.st.running, firsts := [], epoch := (n + 1) % 2 ^ 32,
                      snapNumber := n, snapShortened := cut, snapSaturated := s.st.saturated, saturated := false },
    arb := { s.arb with longestLast := s.arb.longest, longest := 0, reqs := s.arb.reqs.map fun (r : Requester) => { r with cutOff := false, refused := false } },
    par := s.par.activateWhere fun k => effectOf k == 4 }
  let s := { s with st := { s.st with length := s.actN 0xE000 1, began := s.time.at s.now } }
  let s := onlyIf cut (raise4 0xE001 [(n : Int)]) s
  enqueueOut 11 (.snapshot n (s.stamp s.now)) s

/-- Internal time has reached a whole multiple of the epoch length since the epoch began (R497). -/
def State.epochDue (s : State) : Bool :=
  let unit := s.st.length * (unitsPerS / 1000)
  decide (s.st.began / unit < s.time.at s.now / unit)

/-- EPOCH_BOUNDARY (R497): internal time is a whole multiple of the epoch length; at another tick there is no boundary (log 129). -/
def execEpochBoundary (t : Nat) (s : State) : Host.Outcome State Fault Refusal :=
  .next (let s := setNow t s; onlyIf s.epochDue (closeEpoch false) s)

end Sys2Proof.Machine
end

