-- ==== Sys2Proof/Machine/Boot.lean ====
section
/-! DEFINITION. Resets and the boot: what each reset source clears, the firmware slot choice, parameter loading, the drive state after a
boot (R159, R504 to R510, R515 to R517). -/

namespace Sys2Proof.Machine

/-! Firmware images (R438, R509) -/

/-- The checks of R438 on a firmware file of `len` bytes at byte `base` of the NAND. -/
def fwImageOk (len base : Nat) (m : List Host.Cell) : Bool :=
  let h := readBytes base 128 m
  let f (o n : Nat) : Nat := bytesNat ((h.drop o).take n)
  let body := readBytes (base + 128) (len - 128) m
  Nat.ble 129 len && f 0 4 == 0x57465956 && f 4 2 == 1 && f 6 1 == 2 && f 7 1 == 0 && f 12 4 == len - 128 && f 18 14 == 0 &&
    Nat.ble (f 16 2) Config.hardwareIssue && sha256 body == (h.drop 32).take 32 &&
    ecdsaOk (h.drop 64) (h.take 64)

/-- A firmware slot passes R438: the delivered image does (log 4), as far as its pages can be read (R381). -/
def State.fwPasses (s : State) (slot : Fin 2) : Bool :=
  !s.mem.unreadable (fwSlotAddr slot.val) (if s.boot.fw[slot].delivered then 0x8000000 else s.boot.fw[slot].fileLength) &&
  (s.boot.fw[slot].delivered || fwImageOk s.boot.fw[slot].fileLength (fwSlotAddr slot.val) s.mem.nand)

/-- The other firmware slot. -/
def otherFw (k : Fin 2) : Fin 2 := ⟨1 - k.val, by omega⟩

/-- An event that the boot raises once the queues are up. -/
def bootEvent (code : Nat) (payload : List Nat) (s : State) : State :=
  { s with boot := { s.boot with bootEvents := s.boot.bootEvents ++ [(code, payload.map (BitVec.ofNat 64))] } }

/-- Boot slot k. -/
def bootFrom (k : Fin 2) (trial : Nat) (confirmed : Bool) (s : State) : State :=
  { s with boot := { s.boot with slot := k, trial := trial, confirmed := confirmed, recovery := false } }

/-- Fall back from slot k, which fails its check, to the other slot, with E-F004 (R509). Its reasons: 1 trials spent, 2 a failed check (log 6). -/
def fallBack (k : Fin 2) (write : Bool) (s : State) : State :=
  let o := otherFw k
  if s.fwPasses o then
    let s := onlyIf write (fun a => appendRecord (a.fwRecord o.val 0 true) a) s
    bootEvent 0xF004 [k.val, 2] (bootFrom o 0 true s)
  else bootEvent 0xF00A [] { s with boot := { s.boot with slot := k, trial := 0, confirmed := false, recovery := true } }

/-- A record in either half whose CRC fails is ignored, with E-F007 (R512); kind and target go with it (log 6). -/
def reportRecords (s : State) : State :=
  (s.mem.journal.all.filter fun r => !r.good).foldl (fun a r => bootEvent 0xF007 [r.kind, r.target] a) s

/-- An unconfirmed image without a trial left (R509): a record names the other slot as confirmed, which then boots as a confirmed slot does. -/
def endTrials (k : Fin 2) (s : State) : State :=
  let o := otherFw k
  let s := bootEvent 0xF004 [k.val, 1] (appendRecord (s.fwRecord o.val 0 true) s)
  if s.fwPasses o then bootFrom o 0 true s else fallBack o false s

/-- The ROM's choice of the firmware slot (R509). A unit without a record boots slot A as delivered. -/
def chooseFirmware (s : State) : State :=
  let s := reportRecords s
  let r := s.mem.journal.valid 2 0
  let k : Fin 2 := match r with
    | some r => if r.slot = 1 then 1 else 0
    | none => 0
  let s := { s with boot := { s.boot with alternateOk := false, standbyAt := none } }
  match r with
  | some r =>
    if r.confirmed then (if s.fwPasses k then bootFrom k 0 true s else fallBack k false s)
    else if 0 < r.trial then
      let s := appendRecord (s.fwRecord k.val (r.trial - 1) false) s
      if s.fwPasses k then bootEvent 0xF002 [r.trial - 1] (bootFrom k (r.trial - 1) false s) else fallBack k true s
    else endTrials k s
  | none => if s.fwPasses k then bootFrom k 0 true s else fallBack k false s

/-! Parameter loading (R510) -/

/-- The parameter image that loads: the named slot, else the other one. -/
def State.imageToLoad (s : State) : Option ParamImage :=
  match s.mem.journal.valid 3 0 with
  | none => none
  | some r =>
    let pick (n : Nat) : Option ParamImage := if h : n < 2 then s.par.slots[n].filter (·.good) else none
    (pick r.slot).orElse fun _ => pick (1 - r.slot)

/-- Objects load from the parameter image, or take their defaults with E-F005; uncommitted values are dropped (R430, R506, R510). -/
def loadParams (s : State) : State :=
  let load (vs : List (Nat × Int)) : Params := { stored := vs, active := vs, commit := none, slots := s.par.slots, halves := .replicate 2 false }
  match s.imageToLoad with
  | some i => { s with par := load i.values }
  | none => bootEvent 0xF005 [] { s with par := load [] }

/-! What a reset clears -/

/-- The commands in progress are lost with the session (R415, R506). -/
def dropRefs (s : State) : State :=
  { s with
    par := { s.par with commit := none },
    test := { s.test with reqs := [] },
    streams := s.streams.map fun x => { x with flush := [] },
    drive := { s.drive with starts := [], ss1Reqs := [], disables := [], armRef := none, disarmRefs := [], sleepRef := none,
                            splitRef := none, rejoinRef := none, clears := [] },
    gr := s.gr.map fun g => { g with setRef := none, setLatched := none, selectRefs := [],
                                     atlas := { g.atlas with identRef := none, copyRefs := [] } } }

/-- Every queue empties; what has been handed to a transport has left (R506). -/
def emptyQueues (s : State) : State :=
  dropRefs { s with io := { Io.reset with outbox := s.io.outbox }, streams := s.streams.map fun x => { x with ringWords := 0 } }

/-- A position through a reset that keeps Clove: its island (PD7) keeps its latches, its output follows the held pattern (R507). -/
def Position.keep (p : Position) (on : Bool) : Position :=
  { Position.reset with on := on, above := p.above, railReady := p.railReady, railUv := p.railUv, latched := p.latched, latchCode := p.latchCode, soft := p.soft,
                        detected := p.detected, linkValid := p.linkValid, partnerKnown := p.partnerKnown, driveEnable := p.driveEnable }

/-- A bridge through a reset that keeps Clove (R507): its forcing and safe pattern are held. A re-acquisition is lost, so its forcing
latches as Clove's (log 43); a catch ASC is held. The period number and the dither phase go on while PD4 stays powered (R46, R51). -/
def Bridge.keep (b : BridgeId) (x : Bridge) : Bridge :=
  let f := { x.force with sources := x.force.sources.map fun c => if c.1 = .reacquisition then (.cloveRequest, c.2) else c }
  let held := f.sources.any fun c => decide (c.1 = .catchAsc)
  { Bridge.reset b with
    force := f,
    state := if x.state = .lockout then .lockout else if f.sources = [] then .standby else patternState f.pattern,
    start := if held then { Start.reset with phase := 7 } else .reset,
    car := { Carrier.reset with period := x.car.period, dither := x.car.dither },
    pos := Vector.ofFn fun k => x.pos[k].keep (match f.pattern.val with
      | 2 => x.pos[k].on && !slotHigh k
      | 3 => x.pos[k].on && slotHigh k
      | _ => false) }

/-- A reset that keeps Clove and PD0's volatile store (R504 to R507): PD2 logic and PD3 to PD6. -/
def warmReset (cause : Nat) (s : State) : State :=
  let lost : Vector Bool 4 := Vector.ofFn fun g => s.gr[g].pos.referenced || (s.boot.booting && s.boot.flagLost[g])
  let s := { s with boot := { s.boot with cause := cause } }
  let s := writeRecord 0xF001 4 0 0x80 s
  let s := { s with
    io := { Io.reset with outbox := s.io.outbox }, transfer := none, st := .reset,
    mem := { s.mem with dram := [], bad := [] }, arb := .reset, streams := .replicate 4 .reset,
    test := .reset, br := Vector.ofFn fun b => (s.br[b]).keep b, gr := .replicate 4 .reset,
    drive := { Drive.reset with state := s.drive.state, udc := s.drive.udc, udcAt := s.drive.udcAt, shunt := s.drive.shunt,
                                shuntAt := s.drive.shuntAt },
    clove := { s.clove with brakeOn := false, brakeAt := s.now },
    pairs := s.pairs.map fun (p : Pair) => { Pair.reset with flag := p.flag, debugger := p.debugger },
    place := { Place.reset with pelaleDebug := s.place.pelaleDebug },
    pwr := { s.pwr with reason := 0x0A, later := 0, waking := true, abandoned := false },
    sense := .reset, net := .reset, time := .reset s.now, can := .replicate 2 .reset, die := { Die.reset with temp := s.die.temp } }
  let boot := { s.boot with
    resetAt := none, booting := true, cloveReset := false, testDue := false, bootEvents := [], flagLost := lost,
    bootNumber := s.boot.bootNumber + 1, bootCount := min (s.boot.bootCount + 1) 0xFFFFFFFF,
    resetCounts := Vector.ofFn fun k => min (s.boot.resetCounts[k] + b2n (k.val + 1 == cause)) 0xFFFFFFFF }
  loadParams (chooseFirmware { s with boot := boot })

/-- The machine without power but in PD0: what survives is the NAND, the non-volatile store, the debug flags (R323) and what the outside
world holds at the inputs. -/
def coldState (s : State) : State :=
  { State.reset with
    pending := s.pending, now := s.now, freeCount := s.freeCount,
    par := { Params.reset with slots := s.par.slots },
    io := { Io.reset with outbox := s.io.outbox },
    st := .reset, time := .reset s.now,
    mem := { s.mem with dram := [], bad := [] },
    boot := { Boot.reset with bootCount := s.boot.bootCount, resetCounts := s.boot.resetCounts, fw := s.boot.fw,
                              records := s.boot.records, serial := s.boot.serial, cleared := s.boot.cleared, cause := s.boot.cause,
                              servicePin := s.boot.servicePin, booting := false, testDue := false },
    cont := { Contactors.reset with mirrorOpen := s.cont.mirrorOpen, mirrorAt := s.cont.mirrorAt },
    clove := { Clove.reset with stoA := s.clove.stoA, stoB := s.clove.stoB, extFault := s.clove.extFault, brakeFb := s.clove.brakeFb, brakeFbAt := s.clove.brakeFbAt, testAge := s.clove.testAge, testAt := s.clove.testAt },
    pairs := s.pairs.map fun (p : Pair) => { Pair.reset with flag := p.flag, debugger := p.debugger },
    place := { Place.reset with pelaleDebug := s.place.pelaleDebug },
    drive := { Drive.reset with udc := s.drive.udc, udcAt := s.drive.udcAt },
    pwr := { s.pwr with domains := Power.reset.domains, pll := .replicate 3 false, reason := 0, later := 0, waking := false,
                        abandoned := false, line := .replicate 4 0, island := .replicate 4 0, lineRise := .replicate 4 none,
                        islandRise := .replicate 4 none, k := 1000 },
    die := { Die.reset with temp := s.die.temp } }

/-- A boot begins from the cold state: the journal is read, the firmware slot chosen, the parameters loaded (R508 to R510). -/
def beginBoot (reason : Nat) (s : State) : State :=
  let s := { s with
    boot := { s.boot with booting := true, cloveReset := true, testDue := true, bootEvents := [], bootNumber := s.boot.bootNumber + 1,
                          bootCount := min (s.boot.bootCount + 1) 0xFFFFFFFF },
    pwr := { s.pwr with reason := reason, later := 0, waking := true, abandoned := false } }
  loadParams (chooseFirmware s)

/-- A reset cause is recorded (R504, R508). -/
def countReset (cause : Nat) (s : State) : State :=
  let counts : Vector Nat 6 := Vector.ofFn fun k => min (s.boot.resetCounts[k] + b2n (k.val + 1 == cause)) 0xFFFFFFFF
  { s with boot := { s.boot with cause := cause, resetCounts := counts } }

/-- A reset that loses every power source: the whole machine, PD0's volatile store included (R504, R505). The wake of R351 follows when a
source of the 12 V bus is there; `reason` is its wake reason. -/
def coldReset (cause reason : Nat) (s : State) : State := beginBoot reason (countReset cause (coldState s))

/-- A source of the 12 V bus is present (R337). -/
def State.busSource (s : State) : Bool := s.pwr.delivering.any id || s.pwr.aux

/-- KEEP_ALIVE_LOSS (R504): the keep-alive supply falls. Where it was PD0's only source, everything is lost, and the cause is recorded in PD0's
hold-up; nothing then supplies the machine until a source returns, which wakes it (R350). -/
def execKeepAliveLoss (s : State) : Host.Outcome State Fault Refusal :=
  .next (if !s.pwr.keepAlive || s.busSource || s.pwr.hv then { s with pwr := { s.pwr with keepAlive := false } }
    else countReset 2 (coldState { s with pwr := { s.pwr with keepAlive := false } }))

/-- HOST_RESET_DELAY_EXPIRY (R425): the scheduled reset. -/
def hostReset (s : State) : State :=
  match s.boot.resetAt with
  | some (t, _) => warmReset 4 (setNow t s)
  | none => s

/-- HOST_RESET_DELAY_EXPIRY. -/
def execHostResetDelayExpiry (s : State) : Host.Outcome State Fault Refusal := .next (hostReset s)

/-- PELALE_WATCHDOG_EXPIRY (R504, R506): a second one within 60 s, or an uncorrectable word of the parameter store, is a Clove-request
reset; otherwise Pelale, its queues and its transports are reset. Without PD2, Pelale's domain (R33), the row has no cause (log 129). -/
def pelaleWatchdog (storeGood : Bool) (s : State) : State :=
  let again := s.boot.watchdogAt.any fun t => decide (s.now < t + 60 * ticksPerS)
  if again || !storeGood then
    let s := warmReset 5 { s with boot := { s.boot with watchdogAt := none } }
    bootEvent 0xF00B [] s
  else
    let s := writeRecord 0xF001 4 0 0x80 { s with boot := { s.boot with cause := 3 } }
    let s := emptyQueues { s with transfer := none, can := s.can.map fun c => { c with rx := [], send := [], tx := [], fifo := [], high := [] } }
    let s := countReset 3 s
    let boot := { s.boot with
      watchdogAt := some s.now, booting := true, bootEvents := s.boot.bootEvents.filter fun e => e.1 == 0xF005, resetAt := none,
      cloveReset := s.boot.booting && s.boot.cloveReset, testDue := s.boot.booting && s.boot.testDue,
      bootNumber := s.boot.bootNumber + 1, bootCount := min (s.boot.bootCount + 1) 0xFFFFFFFF }
    bootEvent 0xF00B [] (chooseFirmware { s with boot := boot, pwr := { s.pwr with reason := 0x0A } })

/-- PELALE_WATCHDOG_EXPIRY. -/
def execPelaleWatchdogExpiry (storeGood : Bool) (s : State) : Host.Outcome State Fault Refusal := .next (onlyIf s.pwr.domains[2] (pelaleWatchdog storeGood) s)

/-- SERVICE_PIN_ASSERT (R409, R504). -/
def execServicePinAssert (s : State) : Host.Outcome State Fault Refusal := .next { s with boot := { s.boot with servicePin := true } }

/-- SERVICE_PIN_RELEASE (R504): the service pin, held low for at least 100 ms, is released; Clove is reset only without HV. PD4 stays powered, so
the period numbers and the dither phases go on (R46, R51). -/
def servicePinReset (s : State) : State :=
  let s := { s with boot := { s.boot with servicePin := false } }
  if s.pwr.hv then warmReset 6 s
  else
    let c := coldState { writeRecord 0xF001 4 0 0x80 { s with boot := { s.boot with cause := 6 } } with pwr := { s.pwr with reason := 0x0A } }
    let c := { c with pwr := s.pwr, drive := { c.drive with state := .standby },
                      boot := { c.boot with bootNumber := s.boot.bootNumber, retained := s.boot.retained },
                      clove := { c.clove with testRun := true },
                      br := Vector.ofFn fun b => { c.br[b] with car := { c.br[b].car with period := s.br[b].car.period, dither := s.br[b].car.dither } } }
    settlePd7 (beginBoot 0x0A (countReset 6 c))

/-- SERVICE_PIN_RELEASE. -/
def execServicePinRelease (s : State) : Host.Outcome State Fault Refusal := .next (servicePinReset s)

/-! The end of the boot (R507, R508) -/

/-- The drive state that Clove's outputs show (R507). A boot into recovery that kept bridges running ends in their safe states (R18). An arm
sequence or a sleep entry that the reset cut off is over (R17, R506). -/
def driveAfterBoot (st : State) : State :=
  let s : State := { st with drive := { st.drive with armRef := none, armStep := 0, sleepRef := none, sleepStep := 0 } }
  let four := allItems.any fun i => s.latched i && (s.itemWord i).2.1 == 4 && (match i with
    | .forcing _ => false
    | .lockout _ => false
    | _ => true)
  let forced := allBr.filter fun b => s.br[b].force.latching && s.br[b].force.level == 4
  settleCoils <| if s.boot.recovery then setDrive .lockout (onlyIf s.anyRun (safeDriveOnce .cloveRequest) s)
  else if four then setDrive .lockout s
  else if s.cont.active then setDrive .discharge s
  else if !forced.isEmpty then setDrive (if forced.any s.inAsc then .safeAsc else .safeOff) s
  else if s.cont.coil[0] && s.cont.coil[1] then setDrive .armed s
  else setDrive .standby s

/-- A source that is absolute within the turn (R158): an SSP, or a resolver with one pole pair. -/
def State.absolute (s : State) (i : IfId) : Bool := if i.val < 2 then s.sensorPoles i == 1 else decide (6 ≤ i.val)

/-- An SSP with multi-turn bits (R158). -/
def State.multiTurn (s : State) (i : IfId) : Bool := decide (6 ≤ i.val) && decide (s.act (ifaceObj i) 4 ≠ 0)

/-- A reset without SLEEP has cleared a group's referenced flag: with SLP selected after the boot, E-8033 and SS1 (R285). -/
def noteFlagLost (g : GroupId) (s : State) : State :=
  if s.boot.flagLost[g] && bitAt 6 s.gr[g].select && !s.gr[g].pos.referenced then ss1Source g ss1FromUnreferenced (raiseG 0x8033 g [] s) else s

/-- E and the referenced flag come back at a wake (R159, R285): judged by the primary, else by the plausibility source, where that is absolute; an
SSP without a frame yet judges them at its first, and until then only a multi-turn primary leaves the flag set (R158). -/
def restorePosition (g : GroupId) (s : State) : State :=
  match s.boot.retained[g] with
  | none => noteFlagLost g s
  | some (e, flag) =>
    let prim := s.validSource (s.actN 0x5000 (g.val + 1))
    let src := ([prim, s.validSource (s.actN 0x5000 (g.val + 5))].filterMap id).find? fun i => s.absolute i
    let multi := prim.any fun i => s.multiTurn i
    match src with
    | none => judgeRetained g e flag false none s
    | some i =>
      if 6 ≤ i.val ∧ s.sense.iface[i].frameAt = 0 then
        modGr g (fun x => { x with pos := { x.pos with count := wrap48 e, stampE := e, referenced := multi, unjudged := some (e, flag) }, lastCount := e }) s
      else judgeRetained g e flag multi (some (s.sourceCount i)) s

/-- Atlas engine and arbiter take the loaded slot table and ranking (R385). -/
def loadArbiter (s : State) : State :=
  { s with arb := { s.arb with table := Vector.ofFn fun i => s.actN 0x7081 (i.val + 1), ranks := Vector.ofFn fun i => s.actN 0x7083 (i.val + 1) } }

/-- Every domain that the boot needs is on (R351). -/
def State.bootPowered (s : State) : Bool := [1, 2, 3, 4, 5, 6].all fun n => s.pwr.domains.toList.getD n false

/-- What a boot starts afresh on top of the loaded objects: carriers, thermal bands, selections, window lengths (R293), reaction bounds
(R270), permits, signature, rings; the drive-enable lines of positions that nothing forces off are high (R304). -/
def freshStart (s : State) : State :=
  let s := { s with
    place := { s.place with permit := s.actN 0x8120 1, mask := s.actN 0x8120 2 },
    clove := { s.clove with signature := s.safetySignature },
    streams := Vector.ofFn fun k => { s.streams[k] with ringShare := s.actN (0xC120 + k.val) 8 },
    st := { s.st with length := s.actN 0xE000 1 } }
  let s := restoreWindows (loadArbiter s)
  let s := modDie (fun d => { d with tcool := s.actR 0x9110 6 }) (forBr allBr seedBridge s)
  let s := forBr allBr (fun b a => modBr b (fun x => { x with
    pair := if a.actN 0x7051 (b.val + 1) = 2 then 1 else 0, monPair := if a.actN 0x7051 (b.val + 1) = 2 then 0 else 1,
    thermPair := if a.actN 0x7051 (b.val + 1) = 2 then 0 else 1,
    car := { x.car with top := a.nextTop b },
    pos := if x.force.pattern = 0 then x.pos.map (fun p => { p with driveEnable := true }) else x.pos,
    th := { x.th with dead := Vector.ofFn fun t => a.actN 0x2030 (t.val + 1),
                      wset := Vector.ofFn fun t => a.actN 0x3010 (4 * b.val + t.val + 1) } }) a) s
  refreshBounds (forGr allGr (fun g a => modGr g (fun x => { x with select := a.actN 0x8035 (g.val + 1),
                                                                    pos := { x.pos with src := a.actN 0x5000 (g.val + 1) } }) a) s)

/-- The boot is complete: a session, the drive state, the inputs that Clove finds low after its own reset (R68, R273), the events that waited,
E-F001, and E-9021 after a wake (R401, R508). -/
def bootDone (s : State) : State :=
  if !s.boot.booting || !s.bootPowered || s.boot.testDue || s.clove.testRun then s
  else
    let pelaleOnly := s.boot.cause == 3 && !s.pwr.waking
    let session := s.nextFree 32 % (2 ^ 32 - 1) + 1
    let s := drew { s with io := { s.io with session := session }, boot := { s.boot with booting := false } }
    let s := if pelaleOnly then s else drew { s with test := { s.test with challenge := s.nextFree 32 } }
    let s := onlyIf (!pelaleOnly) freshStart s
    let s := onlyIf (!pelaleOnly || s.boot.recovery) driveAfterBoot s
    let s := settlePd7 (settleLine s)
    let s := onlyIf (s.boot.cloveReset && (!s.clove.stoA || !s.clove.stoB)) stoRequest s
    let s := onlyIf (s.boot.cloveReset && s.clove.extFault) externalFault s
    let s := onlyIf (s.boot.cloveReset && (s.boot.cause == 1 || s.boot.cause == 2) && decide (s.pwr.reason ≠ 0x0A)) (writeRecord 0xF001 4 0 0x80) s
    let s := s.boot.bootEvents.foldl (fun a e => raise4 e.1 (e.2.map fun w => (w.toNat : Int)) a) s
    let s := raise4 0xF001 [(s.boot.cause : Int), (s.boot.slot.val : Int), (s.fwVersion s.boot.slot : Int), (s.boot.trial : Int)]
      { s with boot := { s.boot with bootEvents := [] } }
    let s := onlyIf (!pelaleOnly) (fun a => startCan 1 (startCan 0 (onlyIf (!a.place.rating) (raise4 0x8222 [2, 0]) a))) s
    if s.pwr.waking then
      let s := forGr allGr restorePosition s
      let s := bump 0xE090 5 (raise4 0x9021 [(s.pwr.reason : Int), (s.pwr.later : Int), 0]
        { s with pwr := { s.pwr with waking := false, later := 0 }, boot := { s.boot with retained := .replicate 4 none, flagLost := .replicate 4 false } })
      if s.pwr.reason = 8 ∧ s.act 0x7130 7 = 1 ∧ s.drive.state = .standby ∧ s.allOpen then startDischarge s else s
    else s

/-- ALTERNATE_SLOT_CHECK_DONE (R508): a pass sets 0x1101.07, a failure raises E-F008. -/
def alternateCheck (s : State) : State :=
  if s.boot.booting then s
  else if s.fwPasses (otherFw s.boot.slot) then { s with boot := { s.boot with alternateOk := true } }
  else raise4 0xF008 [((otherFw s.boot.slot).val : Int)] { s with boot := { s.boot with alternateOk := false } }

/-- ALTERNATE_SLOT_CHECK_DONE. -/
def execAlternateSlotCheckDone (s : State) : Host.Outcome State Fault Refusal := .next (alternateCheck s)

/-- FIRMWARE_CONFIRMATION_TIMER (R509): 0xF020.02 spent since the first STANDBY of a trial image. -/
def confirmationTimer (s : State) : State :=
  match s.boot.standbyAt with
  | some t => confirmFirmware (setNow (t + s.actN 0xF020 2 * ticksPerS) s)
  | none => s

/-- FIRMWARE_CONFIRMATION_TIMER. -/
def execFirmwareConfirmationTimer (s : State) : Host.Outcome State Fault Refusal := .next (confirmationTimer s)

end Sys2Proof.Machine
end

