-- ==== Sys2Proof/Machine/Sleep.lean ====
section
/-! DEFINITION. Sleep and wake (R159, R341, R350 to R356). -/

namespace Sys2Proof.Machine

/-- PD0 keeps a source after the entry: keep-alive, or MFVS on a port that delivers (R353). -/
def State.pd0Kept (s : State) : Bool := s.pwr.keepAlive || (s.actN 0x9001 3 == 1 && s.pwr.delivering.any id)

/-- A firmware update is in progress: an upload (R442), or an activation whose reset is due (R425). Atlas uploads only delay the entry. -/
def State.updating (s : State) : Bool :=
  (s.transfer.any fun t => match t.kind with
    | .atlas _ => false
    | _ => true) || s.boot.resetAt.any fun r => r.2 == 0x0309

/-- An atlas checkpoint or upload delays the entry (R353). -/
def State.sleepDelayed (s : State) : Bool :=
  s.gr.any (fun g => g.atlas.copying) || s.transfer.any fun t => match t.kind with
    | .atlas _ => true
    | _ => false

/-- Sleep may be entered (R353). -/
def State.sleepAllowed (s : State) : Bool :=
  decide (s.drive.state = .standby) && !s.pwr.hv && !s.updating && s.actN 0x9030 1 % 128 != 0 && s.pd0Kept

/-- The entry begins: the epoch is shortened, DRIVE.SLEEP completes, E-9020 (R353, R497). -/
def beginSleep (s : State) : State :=
  let r := s.drive.sleepRef
  let s := closeEpoch true { s with drive := { s.drive with sleepStep := 2, sleepRef := none, sleepAt := s.now } }
  let s := match r with
    | some r => complete r stOk [] s
    | none => s
  raise4 0x9020 [] s

/-- A sleep entry is given up because a condition of R353 holds no more: DRIVE.SLEEP, where it still waits, completes with REJECTED-STATE
(log 169). -/
def dropSleep (s : State) : State :=
  let r := s.drive.sleepRef
  let s := { s with drive := { s.drive with sleepStep := 0, sleepRef := none } }
  match r with
  | some r => refuse r stState 0 s
  | none => s

/-- A sleep entry that waited for an atlas begins once nothing delays it, where R353 still allows it. -/
def settleSleep (s : State) : State :=
  if s.drive.sleepStep = 1 && !s.sleepDelayed then (if s.sleepAllowed then beginSleep s else dropSleep s) else s

/-- A sleep request that R353 allows. -/
def requestSleep (r : Option CmdRef) (s : State) : State :=
  settleSleep { s with drive := { s.drive with sleepStep := 1, sleepRef := r } }

/-- PARAM_COMMIT: a sleep entry that waited for a checkpoint which the commit has ended goes on (R10, R353). -/
def execParamCommit (e : CmdEntry) (s : State) : Host.Outcome State Fault Refusal :=
  .next (settleSleep (runCommand e 0x0403 [0, 2] (e.ops.length == 0) 0 true paramCommit s))

/-- DRIVE.SLEEP (R353). -/
def driveSleep (r : CmdRef) (s : State) : State :=
  if s.drive.sleepStep = 2 then complete r stOk [] s
  else if !s.sleepAllowed || s.drive.sleepRef.isSome then refuse r stState 0 s
  else requestSleep (some r) s

/-- DRIVE_SLEEP. -/
def execDriveSleep (e : CmdEntry) (s : State) : Host.Outcome State Fault Refusal := .next (command e 0x0103 2 0 driveSleep s)

/-- TC10_SLEEP_REQUEST (R353, R452): treated as DRIVE.SLEEP; otherwise rejected as TC10 provides. -/
def execTc10SleepRequest (p : PortId) (s : State) : Host.Outcome State Fault Refusal :=
  .next (if s.net.port[p].up && s.drive.sleepStep = 0 && s.sleepAllowed then requestSleep none s else s)

/-- The drive is in SLEEP: what PD0 keeps, with the retained positions (R159, R354, R505) and the objects that take effect at this state
change (R15, R357). A wake that is cut off keeps what PD0 held (R356). -/
def sleepState (st : State) : State :=
  let s : State := { st with par := st.par.activateWhere atStateChange }
  let keep : Vector (Option (Int × Bool)) 4 := if s.drive.state = .sleep then s.boot.retained
    else Vector.ofFn fun g => some (s.gr[g].pos.count, s.gr[g].pos.referenced)
  let c := coldState s
  { c with boot := { c.boot with bootNumber := s.boot.bootNumber, retained := keep, slot := s.boot.slot, trial := s.boot.trial,
                                 confirmed := s.boot.confirmed, recovery := s.boot.recovery },
           par := { c.par with active := s.par.active, stored := s.par.stored } }

/-- SLEEP_QUEUE_WAIT_EXPIRY (R354): the queue wait ends and the domains go off in order. A drive that has left STANDBY does not enter SLEEP
(R17; log 169). -/
def sleepEntry (s : State) : State :=
  if s.drive.sleepStep ≠ 2 then s
  else if s.drive.state ≠ .standby then dropSleep s
  else
    let s := setNow (s.drive.sleepAt + 10 * ticksPerMs) s
    let s := ([0, 1] : List PortId).foldl (fun a p => if a.net.port[p].up then send (.tc10Sleep p) a else a) s
    sleepState s

/-- SLEEP_QUEUE_WAIT_EXPIRY. -/
def execSleepQueueWaitExpiry (s : State) : Host.Outcome State Fault Refusal := .next (sleepEntry s)

/-- The enable bit of a wake source (R350); an HV source is armed only after a deassertion (R352). -/
def State.wakeEnabled (s : State) (code : Nat) : Bool :=
  bitAt (code - 1) (s.actN 0x9030 1) && Nat.ble 1 code && Nat.ble code 9 && (code != 8 || s.pwr.hvArmed)

/-- A wake on the HV-present supply alone (R352): PD0 and PD1 only; a resistor discharge where 0x7130.07 and the method allow it, else SLEEP at
once. -/
def hvWake (s : State) : State :=
  let s := { s with pwr := { s.pwr with reason := 8, domains := s.pwr.domains.set 1 true, hvArmed := false } }
  if s.act 0x7130 7 = 1 ∧ s.act 0x7130 1 ≠ 1 ∧ s.allOpen then
    let s := { s with cont := { s.cont with active := true, hvWake := true, startAt := s.now, startUdc := s.drive.udc, fallback := false } }
    bump 0xE075 5 (raise4 0x7120 [0] (setDrive .discharge { s with cont := { s.cont with method := 0, group := none } }))
  else { s with pwr := { s.pwr with domains := s.pwr.domains.set 1 false } }

/-- The wake of R351 begins. -/
def beginWake (code : Nat) (s : State) : State :=
  beginBoot code { s with pwr := { s.pwr with hvArmed := s.pwr.hvArmed && code != 8 }, cont := { s.cont with hvWake := false } }

/-- WAKE_SOURCE_ASSERT (R350 to R352, R355): the first source wakes the drive; later ones are noted; between E-9020 and the end of the
entry it abandons the entry, E-9021 with the abandonment bit. -/
def wakeAssert (c : Fin 11) (s : State) : State :=
  let code := c.val
  if !s.wakeEnabled code then s
  else if s.pwr.waking then { s with pwr := { s.pwr with later := Nat.lor s.pwr.later (2 ^ code) } }
  else if s.drive.sleepStep = 2 then
    let s := { s with drive := { s.drive with sleepStep := 0 }, pwr := { s.pwr with reason := code } }
    bump 0xE090 5 (bump 0xE090 6 (raise4 0x9021 [(code : Int), 0, 1] s))
  else if s.cont.hvWake then beginWake code s
  else if s.drive.state = .sleep then (if code = 8 && !s.busSource && !s.pwr.keepAlive then hvWake s else beginWake code s)
  else s

/-- WAKE_SOURCE_ASSERT. -/
def execWakeSourceAssert (code : Fin 11) (s : State) : Host.Outcome State Fault Refusal := .next (wakeAssert code s)

/-- POWER_ON_RESET (R504): a PD0 source appears after every one was lost. A source of the 12 V bus is followed by the wake of R351, the
HV-present supply alone by R352. Any other source is keep-alive, which feeds PD0 and the wake detectors only: the drive stays in SLEEP until
it is woken (R337; log 170). -/
def powerOn (s : State) : State :=
  if s.busSource then coldReset 1 0x09 s
  else if s.pwr.hv && !s.pwr.keepAlive then hvWake (countReset 1 (coldState s))
  else countReset 1 (coldState { s with pwr := { s.pwr with keepAlive := true } })

/-- POWER_ON_RESET. -/
def execPowerOnReset (s : State) : Host.Outcome State Fault Refusal := .next (powerOn s)

/-- A port is enabled (R447). -/
def State.portOn (s : State) (p : PortId) : Bool := decide (s.act 0xA000 (p.val + 1) = 1)

/-- A reflectometry test starts on an enabled port whose link is down (R447). -/
def startCableTest (p : PortId) (s : State) : State :=
  if !s.portOn p || s.net.port[p].up then s
  else bump (0xE0AA + p.val) 7 (send (.tdr p) { s with net := { s.net with port := s.net.port.set p { s.net.port[p] with testing := true } } })

/-- A TC10 wake-up goes out on the port other than the one that woke the drive, when that port has no link (R452). -/
def forwardWake (s : State) : State :=
  if s.act 0xA012 1 ≠ 1 then s
  else if s.pwr.reason = 1 ∧ !s.net.port[1].up then send (.tc10Wake 1) s
  else if s.pwr.reason = 2 ∧ !s.net.port[0].up then send (.tc10Wake 0) s else s

/-- DOMAIN_READY: the next step of the wake of R351 is done: PD1 and PD2; the core PLL with PD3, PD5 and PD6; the pulse and network PLLs with
PD4; PD7, with the start of the Clove start-up test where Clove was reset. Only the 12 V bus feeds these domains (R337). -/
def domainStep (s : State) : State :=
  let d := s.pwr.domains
  if !s.boot.booting || !s.busSource then s
  else if !d[1] || !d[2] then { s with pwr := { s.pwr with domains := (d.set 1 true).set 2 true } }
  else if !s.pwr.pll[0] then
    startCableTest 1 (startCableTest 0 (forwardWake { s with pwr := { s.pwr with domains := ((d.set 3 true).set 5 true).set 6 true, pll := s.pwr.pll.set 0 true } }))
  else if !s.pwr.pll[1] then { s with pwr := { s.pwr with domains := d.set 4 true, pll := #v[true, true, true] } }
  else if s.boot.testDue && !s.clove.testRun then settlePd7 { s with clove := { s.clove with testRun := true } }
  else s

/-- DOMAIN_READY. -/
def execDomainReady (s : State) : Host.Outcome State Fault Refusal := .next (domainStep s)

end Sys2Proof.Machine
end

