-- ==== Sys2Proof/Machine/Transfer.lean ====
section
/-! DEFINITION. Image transfers: atlas, firmware and parameter uploads in their four phases, ATLAS.EXPORT, the idle timeout (R200 to R202,
R432 to R440, R444). -/

namespace Sys2Proof.Machine

/-- A transfer event: level 3 with the group for an atlas, else level 4 (R444). -/
def raiseTransfer (code : Nat) (k : TransferKind) (payload : List Int) (s : State) : State :=
  match k with
  | .atlas g => raiseG code g payload s
  | _ => raise4 code payload s

/-- Target of a transfer in E-1004 (log 6). -/
def TransferKind.target : TransferKind → Nat
  | .atlas g => g.val + 1
  | _ => 0

/-- The slot that an upload writes: the one its target's record does not name; the slot that is not running for firmware (R434, R443). -/
def State.uploadSlot (s : State) : TransferKind → Nat
  | .atlas g => s.otherSlot 1 (g.val + 1)
  | .firmware => (otherFw s.boot.slot).val
  | .parameters => s.otherSlot 3 0

/-- A file length that R433 admits. -/
def lengthOk : TransferKind → Nat → Bool
  | .atlas _, n => n == 268436544
  | .firmware, n => Nat.ble 129 n && Nat.ble n 134217728
  | .parameters, n => Nat.ble 88 n && Nat.ble n 1048576 && (n - 64) % 24 == 0

/-- The group of an atlas command is at rest (R176, R435); a bridge in a start, which shows STANDBY, is not (log 186). -/
def State.atlasIdle (s : State) (g : GroupId) : Bool :=
  s.groupStandby g && !(s.bridgesOf g).any s.starting && s.gr[g].atlas.ident.isNone && !s.gr[g].atlas.copying

/-- A transfer of this kind may begin or end (R435, R438). -/
def State.transferAllowed (s : State) : TransferKind → Bool
  | .atlas g => s.groupExists g && s.atlasIdle g
  | .firmware => s.boot.confirmed || s.boot.recovery
  | .parameters => true

/-- The slot that an upload writes holds no valid content until its END (R434). -/
def spoilSlot (k : TransferKind) (s : State) : State :=
  match k with
  | .atlas g => { s with mem := { s.mem with blockCrc := s.mem.blockCrc.set (crcIndex g (s.uploadSlot k)) [] } }
  | .firmware =>
    let o := otherFw s.boot.slot
    { s with boot := { s.boot with alternateOk := false, fw := s.boot.fw.set o { delivered := false, fileLength := 0 } } }
  | .parameters => spoilImage s

/-- BEGIN (R432 to R435, R438). -/
def uploadBegin (k : Option TransferKind) (e : CmdEntry) (r : CmdRef) (s : State) : State :=
  let len := bits 63 32 (e.word 1)
  match k with
  | none => refuse r stRange 1 s
  | some k =>
    if !lengthOk k len then refuse r stRange 1 s
    else if s.transfer.isSome || !s.transferAllowed k then refuse r stState 0 s
    else
      let s := spoilSlot k { s with transfer := some { kind := k, length := len, received := 0, last := s.now, bytes := [] } }
      finish r [1400] (raiseTransfer 0x1004 k [(k.code : Int), (k.target : Int), (len : Int)] s)

/-- The bytes of a chunk: the first n bytes of its data words (R432). -/
def chunkBytes (e : CmdEntry) : List Byte := ((e.ops.drop 1).map wordBytes).flatten.take (bits 31 16 (e.word 1))

/-- Bytes of an atlas file before its body: header and block CRC table (R200). -/
def atlasHead : Nat := 1088

/-- Store bytes that arrive at an offset of the file (R434). -/
def storeChunk (t : Transfer) (bs : List Byte) (s : State) : State :=
  let mem : Mem := match t.kind with
    | .atlas g =>
      let body := bs.drop (atlasHead - t.received)
      { s.mem.freshPages (atlasSlotAddr g (s.uploadSlot t.kind) + (t.received - atlasHead)) body.length with nand := writeBytes (atlasSlotAddr g (s.uploadSlot t.kind) + (t.received - atlasHead)) body s.mem.nand }
    | .firmware => { s.mem.freshPages (fwSlotAddr (s.uploadSlot t.kind) + t.received) bs.length with nand := writeBytes (fwSlotAddr (s.uploadSlot t.kind) + t.received) bs s.mem.nand }
    | .parameters => s.mem
  let kept := match t.kind with
    | .atlas _ => t.bytes ++ bs.take (atlasHead - t.received)
    | .firmware => []
    | .parameters => t.bytes ++ bs
  { s with mem := mem, transfer := some { t with received := t.received + bs.length, last := s.now, bytes := kept } }

/-- A running transfer of a kind (atlas of any group). -/
def Transfer.isKind (t : Transfer) (code : Nat) : Bool := t.kind.code == code

/-- CHUNK (R432, R434). -/
def uploadChunk (kind : Nat) (e : CmdEntry) (r : CmdRef) (s : State) : State :=
  let n := bits 31 16 (e.word 1)
  let off := bits 63 32 (e.word 1)
  if n = 0 ∨ 1400 < n then refuse r stRange 1 s
  else match s.transfer with
    | none => refuse r stState 0 s
    | some t =>
      if !t.isKind kind then refuse r stState 0 s
      else if off ≠ t.received ∨ t.length < off + n then complete r stRange [refusalWord 1 0 t.received] s
      else finish r [t.received + n] (storeChunk t (chunkBytes e) s)

/-- A transfer ends with a status, with E-1005 (R434, R443). -/
def endTransfer (t : Transfer) (r : CmdRef) (status : Nat) (results : List Word) (s : State) : State :=
  let s := raiseTransfer 0x1005 t.kind [(t.kind.code : Int), (status : Int)] { s with transfer := none }
  settleSleep (complete r status results (bump 0xE010 (if status = stOk then 3 else 4) s))

/-! END of each kind -/

/-- Little-endian field of a byte list. -/
def fieldAt (h : List Byte) (o n : Nat) : Nat := bytesNat ((h.drop o).take n)

/-- The checks of R201 on an uploaded atlas. -/
def State.atlasFileOk (s : State) (g : GroupId) (slot : Nat) (h : List Byte) : Bool :=
  let table := (List.range 256).map fun n => fieldAt h (64 + 4 * n) 4
  fieldAt h 0 4 == 0x54415956 && fieldAt h 4 2 == 1 && fieldAt h 6 1 == 1 && Nat.ble (fieldAt h 7 1) 1 && fieldAt h 34 4 == 33554432 &&
    fieldAt h 60 4 == crc32 (h.take 60) && fieldAt h 38 4 == crc32 ((h.drop 64).take 1024) &&
    !s.mem.unreadable (atlasSlotAddr g slot) atlasBytes && table == blockCrcs s.mem.nand (atlasSlotAddr g slot) &&
    fieldAt h 8 1 == s.actN 0x5002 (g.val + 1) && fieldAt h 9 1 == s.bridgeSet g

/-- END of ATLAS.UPLOAD (R201, R202). -/
def atlasEnd (t : Transfer) (g : GroupId) (r : CmdRef) (s : State) : State :=
  let slot := s.uploadSlot t.kind
  if !s.atlasFileOk g slot t.bytes then endTransfer t r stImage [] s
  else
    let table := blockCrcs s.mem.nand (atlasSlotAddr g slot)
    let s := { s with mem := { s.mem with blockCrc := s.mem.blockCrc.set (crcIndex g slot) table,
                                          cut := s.mem.cut.set (crcIndex g slot) (decide (fieldAt t.bytes 7 1 ≠ 1)) } }
    let s := copyToDram g slot (putAxis g ((t.bytes.drop 12).take 22) s)
    let s := commitAtlas g slot s
    let s := setAtlasState g 3 (modAtlas g (fun a => { a with mtpaDue := true, accepted := false }) s)
    let seq := (s.gr[g].atlas.record.map (·.seq)).getD 0
    endTransfer t r stOk [BitVec.ofNat 64 seq] (raiseG 0x6024 g [(slot : Int), (seq : Int)] s)

/-- END of FIRMWARE.UPLOAD (R438). -/
def firmwareEnd (t : Transfer) (r : CmdRef) (s : State) : State :=
  let o := otherFw s.boot.slot
  if fwImageOk t.length (fwSlotAddr o.val) s.mem.nand && !s.mem.unreadable (fwSlotAddr o.val) t.length then
    let s := { s with boot := { s.boot with alternateOk := true, fw := s.boot.fw.set o { delivered := false, fileLength := t.length } } }
    endTransfer t r stOk [BitVec.ofNat 64 (s.fwVersion o)] s
  else endTransfer t r stImage [] s

/-- The records of a parameter file (R439). `n` bounds them. -/
def fileRecords : Nat → List Byte → List WriteEntry
  | 0, _ => []
  | n + 1, bs =>
    { index := fieldAt bs 0 2, sub := fieldAt bs 2 1, ty := fieldAt bs 3 1, raw := fieldAt bs 8 16, clean := fieldAt bs 4 4 == 0 } ::
      fileRecords n (bs.drop 24)

/-- The checks of R439 and R440 on a parameter file. -/
def paramFileOk (bs : List Byte) : Bool :=
  fieldAt bs 0 4 == 0x52505956 && fieldAt bs 4 2 == 1 && fieldAt bs 6 1 == 3 && fieldAt bs 7 1 == 0 &&
    64 + 24 * fieldAt bs 8 4 == bs.length && fieldAt bs 60 4 == crc32 (bs.take 60) && fieldAt bs 12 4 == crc32 (bs.drop 64)

/-- END of PARAM.UPLOAD (R440): every record as one PARAM.WRITE on the queue of END. -/
def paramEnd (t : Transfer) (r : CmdRef) (s : State) : State :=
  if !paramFileOk t.bytes then endTransfer t r stImage [] s
  else
    let n := fieldAt t.bytes 8 4
    match applyWrites r.queue.val (fileRecords n (t.bytes.drop 64)) s with
    | (u, none) => endTransfer t r stOk [BitVec.ofNat 64 (n % 65536)] u
    | (_, some (st, k)) => endTransfer t r st [refusalWord 0 k 0] s

/-- END (R432, R434, R435). -/
def uploadEnd (kind : Nat) (r : CmdRef) (s : State) : State :=
  match s.transfer with
  | none => refuse r stState 0 s
  | some t =>
    if !t.isKind kind || t.received != t.length then refuse r stState 0 s
    else match t.kind with
      | .atlas g => if s.atlasIdle g then atlasEnd t g r s else refuse r stState 0 s
      | .firmware => firmwareEnd t r s
      | .parameters => paramEnd t r s

/-- A transfer is abandoned, with E-1006 (R434). -/
def abandonTransfer (s : State) : State :=
  match s.transfer with
  | none => s
  | some t => settleSleep (bump 0xE010 4 (raiseTransfer 0x1006 t.kind [(t.kind.code : Int)] { s with transfer := none }))

/-- ABORT (R432, R434). -/
def uploadAbort (kind : Nat) (r : CmdRef) (s : State) : State :=
  match s.transfer with
  | none => refuse r stState 0 s
  | some t => if t.isKind kind then finish r [] (abandonTransfer s) else refuse r stState 0 s

/-- A transfer command on its queues: `phase` in [7:0] of word 1, and its operand count (R432). -/
def transferCommand (e : CmdEntry) (code : Nat) (queues : List Nat) (phase : Nat) (body : CmdRef → State → State) : State → State :=
  let want := if phase = 2 then 1 + (bits 31 16 (e.word 1) + 7) / 8 else 1
  let right := bits 7 0 (e.word 1) == phase
  runCommand e code queues (right && e.ops.length == want) (if right then want else 0) false body

/-- Target of an atlas BEGIN, [15:8] of word 1. -/
def atlasTarget (e : CmdEntry) : Option TransferKind := (groupOperand (bits 15 8 (e.word 1))).map .atlas

/-- Target of any other BEGIN: 0 in [15:8]. -/
def plainTarget (k : TransferKind) (e : CmdEntry) : Option TransferKind := if bits 15 8 (e.word 1) = 0 then some k else none

/-- ATLAS_UPLOAD_BEGIN. -/
def execAtlasUploadBegin (e : CmdEntry) (s : State) : Host.Outcome State Fault Refusal :=
  .next (transferCommand e 0x0504 [3] 1 (uploadBegin (atlasTarget e) e) s)
/-- ATLAS_UPLOAD_CHUNK. -/
def execAtlasUploadChunk (e : CmdEntry) (s : State) : Host.Outcome State Fault Refusal := .next (transferCommand e 0x0504 [3] 2 (uploadChunk 1 e) s)
/-- ATLAS_UPLOAD_END. -/
def execAtlasUploadEnd (e : CmdEntry) (s : State) : Host.Outcome State Fault Refusal := .next (transferCommand e 0x0504 [3] 3 (uploadEnd 1) s)
/-- ATLAS_UPLOAD_ABORT. -/
def execAtlasUploadAbort (e : CmdEntry) (s : State) : Host.Outcome State Fault Refusal := .next (transferCommand e 0x0504 [3] 4 (uploadAbort 1) s)
/-- FIRMWARE_UPLOAD_BEGIN. -/
def execFirmwareUploadBegin (e : CmdEntry) (s : State) : Host.Outcome State Fault Refusal :=
  .next (transferCommand e 0x0801 [3] 1 (uploadBegin (plainTarget .firmware e) e) s)
/-- FIRMWARE_UPLOAD_CHUNK. -/
def execFirmwareUploadChunk (e : CmdEntry) (s : State) : Host.Outcome State Fault Refusal := .next (transferCommand e 0x0801 [3] 2 (uploadChunk 2 e) s)
/-- FIRMWARE_UPLOAD_END. -/
def execFirmwareUploadEnd (e : CmdEntry) (s : State) : Host.Outcome State Fault Refusal := .next (transferCommand e 0x0801 [3] 3 (uploadEnd 2) s)
/-- FIRMWARE_UPLOAD_ABORT. -/
def execFirmwareUploadAbort (e : CmdEntry) (s : State) : Host.Outcome State Fault Refusal := .next (transferCommand e 0x0801 [3] 4 (uploadAbort 2) s)
/-- PARAM_UPLOAD_BEGIN. -/
def execParamUploadBegin (e : CmdEntry) (s : State) : Host.Outcome State Fault Refusal :=
  .next (transferCommand e 0x0404 [0, 3] 1 (uploadBegin (plainTarget .parameters e) e) s)
/-- PARAM_UPLOAD_CHUNK. -/
def execParamUploadChunk (e : CmdEntry) (s : State) : Host.Outcome State Fault Refusal := .next (transferCommand e 0x0404 [0, 3] 2 (uploadChunk 3 e) s)
/-- PARAM_UPLOAD_END. -/
def execParamUploadEnd (e : CmdEntry) (s : State) : Host.Outcome State Fault Refusal := .next (transferCommand e 0x0404 [0, 3] 3 (uploadEnd 3) s)
/-- PARAM_UPLOAD_ABORT. -/
def execParamUploadAbort (e : CmdEntry) (s : State) : Host.Outcome State Fault Refusal := .next (transferCommand e 0x0404 [0, 3] 4 (uploadAbort 3) s)

/-- TRANSFER_IDLE_TIMEOUT (R434): no phase within 0x1101.06. -/
def transferIdle (s : State) : State :=
  match s.transfer with
  | none => s
  | some t => abandonTransfer (setNow (t.last + s.actN 0x1101 6 * ticksPerMs) s)

/-- TRANSFER_IDLE_TIMEOUT. -/
def execTransferIdleTimeout (s : State) : Host.Outcome State Fault Refusal := .next (transferIdle s)

/-! ATLAS.EXPORT (R437) -/

/-- The bytes before the body of a group's exported file: header built from the record and the axis objects, its flags byte 0
(log 185), then the block CRC table. -/
def State.exportHead (s : State) (g : GroupId) (r : AtlasRec) : List Byte :=
  let table := (s.mem.blockCrc[crcIndex g r.slot].map (leBytes 4)).flatten
  let h := leBytes 4 0x54415956 ++ leBytes 2 1 ++ leBytes 1 1 ++ leBytes 1 0 ++ leBytes 1 r.poles ++ leBytes 1 r.bridges ++ leBytes 2 0 ++
    s.axisBytes g ++ leBytes 4 33554432 ++ leBytes 4 (crc32 table) ++ List.replicate 18 0
  h ++ leBytes 4 (crc32 h) ++ table

/-- Bytes [off, off + n) of a group's exported file. -/
def State.exportBytes (s : State) (g : GroupId) (r : AtlasRec) (off n : Nat) : List Byte :=
  let head := ((s.exportHead g r).drop off).take n
  head ++ readBytes (atlasSlotAddr g (r.slot % 2) + (off - atlasHead)) (n - head.length) s.mem.nand

/-- Words of little-endian bytes, the last padded with zeros. -/
def wordsOfBytes (bs : List Byte) : List Word := (List.range ((bs.length + 7) / 8)).map fun k => BitVec.ofNat 64 (fieldAt bs (8 * k) 8)

/-- ATLAS.EXPORT. A page that cannot be read fails the command (R381; log 208). -/
def atlasExport (e : CmdEntry) (g : GroupId) (r : CmdRef) (s : State) : State :=
  let n := bits 31 16 (e.word 1)
  let off := bits 63 32 (e.word 1)
  if n = 0 ∨ 1400 < n ∨ 268436544 < off + n then refuse r stRange 1 s
  else match s.gr[g].atlas.record with
    | none => refuse r stState 0 s
    | some a =>
      let s := if off = 0 then modAtlas g (fun x => { x with exportSeq := a.seq }) s else s
      if off ≠ 0 ∧ s.gr[g].atlas.exportSeq ≠ a.seq then complete r stAborted [] s
      else if s.mem.unreadable (atlasSlotAddr g (a.slot % 2) + (off - atlasHead)) (off + n - max off atlasHead) && decide (atlasHead < off + n) then
        complete r stHardware [] s
      else complete r stOk (BitVec.ofNat 64 (off + 2 ^ 32 * n) :: wordsOfBytes (s.exportBytes g a off n)) s

/-- ATLAS_EXPORT. -/
def execAtlasExport (e : CmdEntry) (s : State) : Host.Outcome State Fault Refusal :=
  .next (command e 0x0505 3 1 (withGroup e (atlasExport e)) s)

end Sys2Proof.Machine
end

