-- ==== Sys2Proof/Machine/HostCmd.lean ====
section
/-! DEFINITION. Host commands on torque, position, safety, pairs, streams, firmware and atlases (R158, R176, R185, R193, R229, R272, R276,
R325 to R329, R410 to R412, R424, R425, R436, R438, R442). -/

namespace Sys2Proof.Machine

/-! Torque and position -/

/-- TORQUE.SET (R229, R277, R424, R442): the row of the target table; the command completes at a split step. One that no step has latched
is superseded; one whose step has latched it and not committed completes with that step. -/
def torqueSet (e : CmdEntry) (g : GroupId) (r : CmdRef) (s : State) : State :=
  let v := toSigned 32 (bits 63 32 (e.word 1))
  if 200000 < v.natAbs then refuse r stRange 1 s
  else if (s.running g).isEmpty || s.gr[g].ss1.any (fun x => decide (x.goal = 0)) then refuse r stState 0 s
  else
    let s := match s.gr[g].setRef with
      | some old => complete old stAborted [] s
      | none => s
    messageArrived g (modGr g (fun x => { x with target := v, setRef := some r }) s)

/-- TORQUE_SET. -/
def execTorqueSet (e : CmdEntry) (s : State) : Host.Outcome State Fault Refusal := .next (command e 0x0201 1 1 (withGroup e (torqueSet e)) s)

/-- POSITION.SET (R158). -/
def positionSet (e : CmdEntry) (g : GroupId) (r : CmdRef) (s : State) : State :=
  let v := toSigned 64 (e.word 2)
  if v < -(2 ^ 47) ∨ (2 ^ 47 : Int) ≤ v then refuse r stRange 2 s
  else if !(s.running g).isEmpty then refuse r stState 0 s
  else
    let s := modGr g (fun x => { x with pos := { x.pos with count := v, referenced := true, stampE := v, offsets := [], unjudged := none }, lastCount := v }) s
    finish r [] (settleLimits g (raiseG 0x5012 g [v] s))

/-- POSITION_SET. -/
def execPositionSet (e : CmdEntry) (s : State) : Host.Outcome State Fault Refusal := .next (command e 0x0205 1 2 (withGroup e (positionSet e)) s)

/-! Safety -/

/-- SS1.REQUEST (R276, R424): completes once every named running group has entered SS1. -/
def ss1Request (e : CmdEntry) (r : CmdRef) (s : State) : State :=
  let gs := groupsOfMask (bits 3 0 (e.word 1))
  if gs.isEmpty then refuse r stRange 1 s
  else if gs.all fun g => (s.running g).isEmpty then refuse r stState 0 s
  else
    let known (g : GroupId) : Option Int :=
      if (s.running g).isEmpty then some (s.absSpeedMilli g)
      else match s.gr[g].ss1 with
        | some x => if x.goal = 0 then some ((1000 * x.n0).floor) else none
        | none => none
    let q : Ss1Req := { ref := r, named := Vector.ofFn fun g => gs.contains g, n0 := Vector.ofFn fun g => if gs.contains g then known g else none }
    let s := { s with drive := { s.drive with ss1Reqs := s.drive.ss1Reqs ++ [q] } }
    settleSs1Reqs (forGr gs (fun g a => ss1Source g ss1FromHost a) s)

/-- SS1_REQUEST. -/
def execSs1Request (e : CmdEntry) (s : State) : Host.Outcome State Fault Refusal := .next (command e 0x0301 0 1 (ss1Request e) s)

/-- A selection excludes the direction in which a group moves faster than its standstill speed (R272, R300). -/
def State.excludesMotion (s : State) (g : GroupId) (sel : Nat) : Bool :=
  let n := s.gr[g].pos.speed
  let lim := s.actR 0x8020 (g.val + 13)
  match sel / 16 % 4 with
  | 1 => decide (n < -lim)
  | 2 => decide (lim < n)
  | _ => false

/-- SAFETY.SELECT (R272, R424). -/
def safetySelect (e : CmdEntry) (g : GroupId) (r : CmdRef) (s : State) : State :=
  let v := bits 15 8 (e.word 1)
  if !selectionOk v then refuse r stRange 1 s
  else if (v / 64 % 2 = 1 ∧ !s.gr[g].pos.referenced) || s.excludesMotion g v then refuse r stState 0 s
  else
    let s := modGr g (fun x => { x with selectNext := some v, selectRefs := x.selectRefs ++ [r] }) s
    if (s.running g).isEmpty then takeSelection g s else s

/-- SAFETY_SELECT. -/
def execSafetySelect (e : CmdEntry) (s : State) : Host.Outcome State Fault Refusal := .next (command e 0x0302 0 1 (withGroup e (safetySelect e)) s)

/-! Pairs -/

/-- DEBUG.FLAG.CLEAR (R325): refused while a debugger is attached to the named pair itself (log 195). -/
def debugFlagClear (p : PairId) (r : CmdRef) (s : State) : State :=
  if s.pairs[p].debugger || !s.pairs[p].testedSince then refuse r stState 0 s
  else finish r [] (settlePairs (raise4 0x8213 [(p.val + 1 : Int)] (modPair p (fun x => { x with flag := false }) s)))

/-- DEBUG_FLAG_CLEAR. -/
def execDebugFlagClear (e : CmdEntry) (s : State) : Host.Outcome State Fault Refusal := .next (command e 0x0304 0 1 (withPair e debugFlagClear) s)

/-- Bridges that a split of pair p affects (R327). -/
def State.splitAffects (s : State) (p : PairId) (b : BridgeId) : Bool :=
  decide (s.br[b].pair = p) || decide (s.br[b].monPair = p) || decide (s.br[b].thermPair = p) || bitAt b.val s.place.mask

/-- The last task of a splitting pair has moved (R327): the comparator is off, each core answers alone; E-8220, E-8222. -/
def finishSplit (p : PairId) (r : CmdRef) (s : State) : State :=
  let s := modPair p (fun x => { x with state := .split, cores := .replicate 2 true, held := false }) { s with drive := { s.drive with splitRef := none } }
  let s := movePlacement true s
  let s := forBr allBr (fun b a =>
    if bitAt b.val a.place.mask then moveStep true b p a else if a.br[b].pair = p then moveStep true b (a.stepPair b) a else a) s
  let s := forBr allBr (moveWatch true) s
  let s := bump (0xE089 + p.val) 6 (raise4 0x8220 [(p.val + 1 : Int)] s)
  finish r [] (settlePairs s)

/-- PAIR.SPLIT (R327): with a bridge in RUN the tasks move at their step boundaries, which the next placement result ends (log 49). -/
def pairSplit (p : PairId) (r : CmdRef) (s : State) : State :=
  let ok := bitAt p.val s.place.permit && decide (s.pairs[p].state = .lockstep) && !(s.pairs.any (·.debugger)) && s.drive.splitRef.isNone &&
    allBr.all fun b => !s.splitAffects p b || (decide (s.br[b].state = .standby) && !s.starting b)
  if !ok then refuse r stState 0 s
  else if s.anyRun then { s with drive := { s.drive with splitRef := some (r, p) } }
  else finishSplit p r s

/-- PAIR_SPLIT. -/
def execPairSplit (e : CmdEntry) (s : State) : Host.Outcome State Fault Refusal := .next (command e 0x0305 0 1 (withPair e pairSplit) s)

/-- PAIR.REJOIN (R328): both cores are reset together; the comparator test ends it. -/
def pairRejoin (p : PairId) (r : CmdRef) (s : State) : State :=
  let quiet := allBr.all fun b => !(decide (s.br[b].pair = p) || decide (s.br[b].monPair = p) || decide (s.br[b].thermPair = p)) ||
    (decide (s.br[b].state = .standby) && !s.starting b)
  if s.pairs[p].state ≠ .split || !quiet || s.drive.rejoinRef.isSome then refuse r stState 0 s
  else
    let s := modPair p (fun x => { x with state := .recovering, held := true, cores := .replicate 2 true }) s
    settlePairs (evacuate p { s with drive := { s.drive with rejoinRef := some (r, p) } })

/-- PAIR_REJOIN. -/
def execPairRejoin (e : CmdEntry) (s : State) : Host.Outcome State Fault Refusal := .next (command e 0x0306 0 1 (withPair e pairRejoin) s)

/-! Reset and firmware -/

/-- DRIVE.RESET (R424, R425): the reset follows 10 ms after the completion. -/
def driveReset (r : CmdRef) (s : State) : State :=
  if s.anyRun || allBr.any s.starting || s.par.commit.isSome || s.gr.any (fun g => g.atlas.copying) || s.boot.resetAt.any (fun x => x.2 == 0x0309) then
    refuse r stState 0 s
  else
    let s := finish r [] s
    { s with boot := { s.boot with resetAt := some ((s.boot.resetAt.map (·.1)).getD (s.now + 10 * ticksPerMs), 0x0104) } }

/-- DRIVE_RESET. -/
def execDriveReset (e : CmdEntry) (s : State) : Host.Outcome State Fault Refusal := .next (command e 0x0104 3 0 driveReset s)

/-- FIRMWARE.ACTIVATE (R438, R509): in recovery mode the drive shows LOCKOUT and the command is still served (log 50). -/
def firmwareActivate (r : CmdRef) (s : State) : State :=
  let ok := (s.boot.recovery || (decide (s.drive.state = .standby) && s.allStandby)) && s.boot.alternateOk && s.transfer.isNone &&
    s.par.commit.isNone && !(s.gr.any fun g => g.atlas.copying)
  if !ok then refuse r stState 0 s
  else
    let o := otherFw s.boot.slot
    let v := s.fwVersion o
    let s := raise4 0x1007 [(o.val : Int), (v : Int)] (appendRecord (s.fwRecord o.val 3 false) s)
    let s := finish r [v + 2 ^ 32 * o.val] s
    { s with boot := { s.boot with resetAt := some (s.now + 10 * ticksPerMs, 0x0309) } }

/-- FIRMWARE_ACTIVATE. -/
def execFirmwareActivate (e : CmdEntry) (s : State) : Host.Outcome State Fault Refusal := .next (command e 0x0309 0 0 firmwareActivate s)

/-- FAULT_RECORD_CLEAR (R517): the PARAM.WRITE of a serial to 0xF040.03. -/
def execFaultRecordClear (e : CmdEntry) (s : State) : Host.Outcome State Fault Refusal :=
  .next (runWrite e (decide (e.ops.length = 3) && (writeEntries e.ops).all fun x => x.index == 0xF040 && x.sub == 3) 3 false s)

/-! Streams (R410 to R412) -/

/-- STREAM.START: the waiting configuration of the stream takes effect and is latched; packet numbers restart at 0. -/
def streamStart (k : StreamId) (r : CmdRef) (s : State) : State :=
  let i := 0xC120 + k.val
  if s.streams[k].running || s.sto i 1 = 0 then refuse r stState 0 s
  else
    let s := { s with par := s.par.activateWhere fun key => key / 256 == i && effectOf key == 3 }
    let n := s.actN i 4
    let s := modStream k (fun x => { x with
      running := true, number := 0, lastNumber := 0, count := 0, samples := [], sets := 0, flush := [], stopping := false, lostFlag := false,
      channels := (List.range n).map fun j => s.actN i (17 + j),
      setsPer := s.actN i 5, decimation := s.actN i 6, packed := s.actN i 3 == 1, policy := s.actN i 7, trigger := s.actN i 1,
      bridge := s.actN i 2 }) s
    finish r [] (raise4 0xC004 [(k.val : Int), 0] s)

/-- STREAM_START. -/
def execStreamStart (e : CmdEntry) (s : State) : Host.Outcome State Fault Refusal := .next (command e 0x0701 3 1 (streamStart (streamOperand e)) s)

/-- STREAM.STOP: acts at once; the packet in progress closes truncated. -/
def streamStop (k : StreamId) (r : CmdRef) (s : State) : State :=
  if !s.streams[k].running then refuse r stState 0 s
  else
    let s := stopStream k (closePacket k true (!s.streams[k].flush.isEmpty) s)
    finish r [s.streams[k].lastNumber] s

/-- STREAM_STOP. -/
def execStreamStop (e : CmdEntry) (s : State) : Host.Outcome State Fault Refusal := .next (command e 0x0702 3 1 (streamStop (streamOperand e)) s)

/-- STREAM.FLUSH: the packet in progress is the last; with none the command completes at once. -/
def streamFlush (k : StreamId) (r : CmdRef) (s : State) : State :=
  if !s.streams[k].running then refuse r stState 0 s
  else
    let s := modStream k (fun x => { x with flush := x.flush ++ [r], stopping := true }) s
    if s.streams[k].sets = 0 then stopStream k s else s

/-- STREAM_FLUSH. -/
def execStreamFlush (e : CmdEntry) (s : State) : Host.Outcome State Fault Refusal := .next (command e 0x0703 3 1 (streamFlush (streamOperand e)) s)

/-! Atlases -/

/-- ATLAS.CLEAR (R176, R436). -/
def atlasClear (g : GroupId) (r : CmdRef) (s : State) : State :=
  if !s.groupExists g || !s.atlasIdle g || s.uploading g then refuse r stState 0 s
  else
    let s := modAtlas g (fun a => { a with mtpa := .replicate 4 [], mtpaDue := false, accepted := false, run := none }) (clearAtlasCells g s)
    finish r [] (setAtlasState g 0 s)

/-- ATLAS_CLEAR. -/
def execAtlasClear (e : CmdEntry) (s : State) : Host.Outcome State Fault Refusal := .next (command e 0x0503 2 1 (withGroup e atlasClear) s)

/-- ATLAS.CHECKPOINT (R192, R193, R436): the copy begins; CHECKPOINT_COMPLETE ends it. -/
def atlasCheckpoint (g : GroupId) (r : CmdRef) (s : State) : State :=
  if s.atlasEmpty g || s.uploading g || s.gr[g].atlas.copying || s.gr[g].atlas.ident.isSome then refuse r stState 0 s
  else startCheckpoint g (modAtlas g (fun a => { a with copyRefs := a.copyRefs ++ [r] }) s)

/-- ATLAS_CHECKPOINT. -/
def execAtlasCheckpoint (e : CmdEntry) (s : State) : Host.Outcome State Fault Refusal := .next (command e 0x0502 2 1 (withGroup e atlasCheckpoint) s)

/-- ATLAS.IDENTIFY (R185, R436): the listen phase of the group's bridges begins; at its outcome STANDSTILL the identification does, and with another
the command completes with REJECTED-STATE. -/
def atlasIdentify (e : CmdEntry) (g : GroupId) (r : CmdRef) (s : State) : State :=
  let drive := (decide (s.drive.state = .armed) || decide (s.drive.state = .run)) && s.runPowered
  if !drive || !s.groupExists g || !s.atlasIdle g || !s.atlasEmpty g || s.uploading g then refuse r stState 0 s
  else
    let s := modAtlas g (fun a => { a with ident := some (0, bitAt 8 (e.word 1), bitAt 9 (e.word 1)), identRef := some r }) s
    beginListen g (s.bridgesOf g) false s

/-- ATLAS_IDENTIFY. -/
def execAtlasIdentify (e : CmdEntry) (s : State) : Host.Outcome State Fault Refusal := .next (command e 0x0501 2 1 (withGroup e (atlasIdentify e)) s)

end Sys2Proof.Machine
end

