-- ==== Sys2Proof/Machine/Edges.lean ====
section
/-! DEFINITION. Edges of a leg: turning positions on and off, the islands' detections, the cross-check hold and the both-on interlock
(R48, R57, R64, R66, R67, R71, R83, R85, R96 to R100, R107). -/

namespace Sys2Proof.Machine

/-- The bridge runs in sawtooth mode (R41). -/
def State.sawtooth (s : State) (b : BridgeId) : Bool := s.actN 0x2011 ((s.groupFor b).val + 1) == 1

/-- Reload point of a bridge: 0 valley, 1 peak, 2 both (R44). -/
def State.reloadPoint (s : State) (b : BridgeId) : Nat := s.actN 0x2012 ((s.groupFor b).val + 1)

/-- Active dead time of a bridge in its present band, ticks (R57, R58). -/
def State.deadTime (s : State) (b : BridgeId) : Nat := s.br[b].th.dead[s.br[b].th.applied]

/-- The drive state lets bridges switch (R17, R18): no state safer than RUN. -/
def State.driveLets (s : State) : Bool :=
  match s.drive.state with
  | .armed | .run | .stopping => true
  | _ => false

/-- A bridge follows its active set: the pulse engine runs, the bridge and the drive are in RUN, it is not forced and has a set (R18, R33,
R56, R70; an empty set keeps the low sides off too, log 138). -/
def State.switching (s : State) (b : BridgeId) : Bool :=
  s.pulseOn && s.driveLets && decide (s.br[b].state = .run) && decide (s.br[b].force.pattern = 0) && s.br[b].car.active.isSome

/-- A leg fault holds both positions of the leg off (R67, R108). -/
def Leg.held (l : Leg) : Bool := l.fault == 0x2004 || l.fault == 0x300A

/-- An interlock hit on an edge at tick t (R66, R67): both positions off, the wanted side on again a dead time after the overlap (log 136);
E-2003 for the first hit on the leg in the epoch; the third consecutive period with a hit makes a leg fault. -/
def interlockHit (l : LegId) (high : Bool) (t : Nat) (s : State) : State :=
  let b := brOfLeg l
  let s := turnOff (posOfLeg l true) (turnOff (posOfLeg l false) s)
  let s := bump (0xE021 + b.val) 8 (raiseFirst 0x2003 2 (l.val + 1) [] l.val s)
  let s := if (s.leg l).overlapSeen then s
    else modLeg l (fun x => { x with overlapSeen := true, overlapRun := x.overlapRun + 1 }) s
  if 3 ≤ (s.leg l).overlapRun ∧ (s.leg l).fault = 0 then
    raise 0x2004 2 (l.val + 1) [] (modLeg l (fun x => { x with fault := 0x2004 }) s)
  else turnOn (posOfLeg l high) (t + 2 * s.deadTime b) s

/-- Both positions of a leg are commanded on (R66). -/
def State.bothOn (s : State) (l : LegId) : Bool := (s.pos (posOfLeg l true)).on && (s.pos (posOfLeg l false)).on

/-- The interlock injection leaves the commands of a leg overlapping (R493). -/
def overlapLeg (l : LegId) (s : State) : State :=
  if s.injects (0x0500 + l.val + 1) then
    modPos (posOfLeg l true) (fun x => { x with on := true }) (modPos (posOfLeg l false) (fun x => { x with on := true })
      (injected (0x0500 + l.val + 1) s))
  else s

/-- The edge stage takes a leg to a reference at tick t: one side off at once, the other on after the dead time (R57). A side that goes off
before its own dead time has passed gave no gate pulse: its interval counts as consumed (R64). The commands are then checked against
both-on (R66). A held leg stays off. -/
def driveLeg (l : LegId) (high : Bool) (t : Nat) (s : State) : State :=
  let b := brOfLeg l
  let old := s.pos (posOfLeg l (!high))
  let s := onlyIf (old.on && decide (t ≤ old.onAt)) (bump (0xE021 + b.val) 6) s
  let s := noteEdge l high t (modLeg l (fun x => { x with ref := high, lastEdge := t }) s)
  let s := turnOff (posOfLeg l (!high)) s
  if (s.leg l).held then turnOff (posOfLeg l high) s
  else
    let s := overlapLeg l (turnOn (posOfLeg l high) (t + s.deadTime b) s)
    if s.bothOn l then interlockHit l high t s else s

/-- Tick of the edge that the formed edges give a leg in the present period, none where the reference does not change between carrier
extremes (R47 to R49): rising at TOP - up, falling at TOP + dn after the valley; in sawtooth mode only falling, at up. The ticks that
lengthen an adjusted period stand at the end of its falling half (log 137). -/
def State.edgeAt (s : State) (l : LegId) (rising : Bool) : Option Nat :=
  let c := s.br[brOfLeg l].car
  let x := s.leg l
  if s.sawtooth (brOfLeg l) then if !rising && decide (0 < x.up ∧ x.up < c.top) then some (c.valley + x.up) else none
  else if x.up + x.dn = 0 then none
  else if rising then if x.up < c.top then some (c.valley + (c.top - x.up)) else none
  else if x.dn < c.top then some (c.valley + c.top + x.dn) else none

/-- COMPARE_MATCH (R47 to R49, R57): the edge of the leg's reference that its formed edges give at tick t; a leg already there, or under a
Class B cut, makes none. -/
def compareMatch (l : LegId) (rising : Bool) (t : Nat) (s : State) : State :=
  let b := brOfLeg l
  let x := s.leg l
  let s := setNow t s
  if !s.switching b || x.cut.isSome || x.ref == rising || s.edgeAt l rising != some t then s else driveLeg l rising t s

/-- COMPARE_MATCH. -/
def execCompareMatch (l : LegId) (rising : Bool) (t : Nat) (s : State) : Host.Outcome State Fault Refusal := .next (compareMatch l rising t s)

/-- CLASS_B_TRIP (R71, R72): the pulse in progress ends and the other side is held on until the next valley; a leg already there makes no
edge, and the edges made are charged (R363). A trip inside the edge blanking, opposite to a cut in force, or on a bridge that does not switch has no effect. -/
def classBTrip (l : LegId) (upper : Bool) (t : Nat) (s : State) : State :=
  let b := brOfLeg l
  let x := s.leg l
  let s := setNow t s
  if !s.switching b || x.cut.isSome || decide (t < x.lastEdge + s.actBN b 0x2050 5) then s
  else
    let s := onlyIf (x.ref == upper) (chargeCut b (phaseOfLeg l) upper) s
    let s := modLeg l (fun y => { y with cut := some upper, cutSpan := some (t, 0) }) s
    let s := if x.ref = !upper then turnOff (posOfLeg l upper) s else driveLeg l (!upper) t s
    if x.cutSeen then s
    else
      let s := modLeg l (fun y => { y with cutSeen := true, cutRun := y.cutRun + 1 }) s
      let s := injectionCount (0x0600 + l.val + 1) (bump (0xE021 + b.val) 7 s)
      if (s.leg l).cutRun = 8 then safeRequest .classB 3 b (raiseB 0x2006 b [(l.val + 1 : Int)] s) else s

/-- CLASS_B_TRIP. -/
def execClassBTrip (l : LegId) (upper : Bool) (t : Nat) (s : State) : Host.Outcome State Fault Refusal := .next (classBTrip l upper t s)

end Sys2Proof.Machine
end

