-- ==== Sys2Proof/Machine/Pulse.lean ====
section
/-! DEFINITION. Carriers: valleys, reloads, the short-pulse procedure, phase lock, Class A inputs and the ASC delay (R15, R41 to R75,
R91 to R93, R100, R128, R134, R198, R245). -/

namespace Sys2Proof.Machine

/-! Dithering and short pulses (R51, R52, R60 to R65) -/

/-- The bits of a dither phase reversed (R52). -/
def bitrev4 (k : Nat) : Int := ((8 * (k % 2) + 4 * (k / 2 % 2) + 2 * (k / 4 % 2) + k / 8 % 2 : Nat) : Int)

/-- An edge value in sixteenths becomes ticks under dither phase k, limited to [0, top] (R49, R52). -/
def ditherEdge (k : Nat) (top e : Int) : Int := clampInt 0 top (e / 16 + if bitrev4 k < e % 16 then 1 else 0)

/-- A leg's edges while they are formed: first and second edge, accumulator, dropped and stretched intervals. -/
structure Shape where
  x : Int
  y : Int
  acc : Int
  dropped : Nat
  stretched : Nat
  deriving DecidableEq, Repr

/-- The tests on the leading segment (R62): joined with the `a` ticks already driven, or alone where nothing was driven. `top` is the TOP
of its half. -/
def leadTest (drop : Bool) (thr top a : Int) (p : Shape) : Shape :=
  let b := top - p.x
  if 0 < a ∧ 0 < a + b ∧ a + b < thr then
    { p with x := top - (thr - a), acc := if drop then p.acc + 16 * (thr - a - b) else p.acc, stretched := p.stretched + 1 }
  else if a = 0 ∧ 0 < b ∧ b < thr then
    if drop then { p with x := top, acc := p.acc - 16 * b, dropped := p.dropped + 1 }
    else { p with x := top - thr, stretched := p.stretched + 1 }
  else p

/-- The test on the pulse within the period (R61, R63). -/
def pulseTest (drop : Bool) (thr : Int) (p : Shape) : Shape :=
  let w := p.x + p.y
  if 0 < w ∧ w < thr then
    if drop then { p with x := 0, y := 0, acc := p.acc + 16 * w, dropped := p.dropped + 1 }
    else let x := p.x + (thr - w + 1) / 2; { p with x := x, y := thr - x, stretched := p.stretched + 1 }
  else p

/-- The test on the trailing segment, judged with this period's leading one (R63). `top` and `last` are the TOPs of the halves of the first
and of the second edge. -/
def trailTest (drop : Bool) (thr top last : Int) (p : Shape) : Shape :=
  let c := last - p.y
  let lead := top - p.x
  if 0 < c + lead ∧ c + lead < thr then
    if drop then { p with y := last, acc := p.acc - 16 * c, dropped := if 0 < c then p.dropped + 1 else p.dropped }
    else { p with y := last - max 0 (thr - lead), stretched := p.stretched + 1 }
  else p

/-- The procedure of R63 on the edge that drives first and the one that follows it, each within the TOP of its half (R43). -/
def shortPulse (drop : Bool) (thr top last a : Int) (x y : Int) : Shape :=
  trailTest drop thr top last (pulseTest drop thr (leadTest drop thr top a ⟨x, y, 0, 0, 0⟩))

/-- The same with high and low exchanged (R62, R63): edges are widths of the other side, and ACC changes sign. -/
def mirrorShape (top last : Int) (p : Shape) : Shape := { p with x := top - p.x, y := last - p.y, acc := -p.acc }

/-- The sawtooth tests (R63): the high-side pulse, then the low-side pulse. -/
def sawPulse (drop : Bool) (thr top x : Int) : Shape :=
  let p : Shape := if 0 < x ∧ x < thr then (if drop then ⟨0, 0, 16 * x, 1, 0⟩ else ⟨thr, 0, 0, 0, 1⟩) else ⟨x, 0, 0, 0, 0⟩
  let c := top - p.x
  if 0 < c ∧ c < thr then
    if drop then { p with x := top, acc := p.acc - 16 * c, dropped := p.dropped + 1 }
    else { p with x := top - thr, stretched := p.stretched + 1 }
  else p

/-- High-side time driven in the rising half up to a peak at tick t (R62). -/
def Leg.highDriven (l : Leg) (t : Nat) : Nat :=
  match l.cut with
  | some true => 0
  | some false => t - l.lastEdge
  | none => l.up

/-- What a reload forms on a leg: the up and down edges, the accumulator left, and the counts. `k` is the dither phase of the period in
progress, `hi` the high-side time driven before a peak, `next` the TOP of the rising half that follows the next valley (R43, R52, R60 to R63). -/
def formEdges (saw drop : Bool) (point : Nat) (atPeak : Bool) (k : Nat) (top next thr : Int) (hi : Nat) (l : Leg) (cu cd : Int) : Shape :=
  if saw then sawPulse drop thr top (ditherEdge k top (cu + l.acc))
  else if point = 2 then
    if atPeak then
      let q := mirrorShape top top (leadTest drop thr top hi ⟨top - ditherEdge k top (cd + l.acc), 0, 0, 0, 0⟩)
      { q with x := l.up, y := q.x }
    else { leadTest drop thr top l.lowDriven ⟨ditherEdge k top (cu + l.acc), 0, 0, 0, 0⟩ with y := l.dn }
  else if atPeak then
    let dn := ditherEdge k top (cd + l.acc / 2)
    let up := ditherEdge ((k + 1) % 16) next (cu + (l.acc - l.acc / 2))
    let q := mirrorShape top next (shortPulse drop thr top next hi (top - dn) (next - up))
    { q with x := q.y, y := q.x }
  else shortPulse drop thr top top l.lowDriven (ditherEdge k top (cu + l.acc / 2)) (ditherEdge k top (cd + (l.acc - l.acc / 2)))

/-! Reload: parameters, band, retries (R15, R58, R59, R91 to R93, R100) -/

/-- An object whose pending value becomes active at a reload of bridge b (R15, R92): its own, its group's, and the drive's; of the
waveform and blanking entries only those of the band in force. 0x2010 waits for the valley (R43). -/
def State.takesAtReload (s : State) (b : BridgeId) (band : Nat) (key : Nat) : Bool :=
  let i := key / 256
  let sub := key % 256
  let ofGroup : Bool := match s.groupOf b with
    | some g => sub == g.val + 1
    | none => false
  effectOf key == 1 && (if i = 0x2010 then false else if i = 0x2013 then sub == b.val + 1
    else if i = 0x3010 ∨ i = 0x3011 then sub == 4 * b.val + band + 1
    else if i = 0x2050 ∨ i = 0x3051 ∨ i = 0x7008 then ofGroup || Nat.blt 4 sub else true)

/-- The pending "at reload" values of bridge b become active (R15); every other bridge that they affect keeps the value it has until its own
next reload. -/
def takeReload (b : BridgeId) (s : State) : State :=
  let takes (c : BridgeId) : Nat → Bool := s.takesAtReload c s.br[c].th.band.val
  let keys := s.par.pendingKeys.filter (takes b)
  let keep (c : BridgeId) (x : Bridge) : List (Nat × Int) :=
    x.held ++ (keys.filter fun k => takes c k && !x.held.any (fun h => h.1 == k)).map fun k => (k, s.act (k / 256) (k % 256))
  let s1 := { s with par := s.par.activateWhere (takes b) }
  forBr allBr (fun c a => modBr c (fun x => { x with held := if c = b then [] else keep c x }) a) s1

/-- The dead time that the delays ask for in a band, ticks (R58): the worst mean turn-off less mean turn-on delay of the six positions,
rounded up, and the margin; none before an edge of each kind is measured. -/
def State.measuredDead (s : State) (b : BridgeId) (band : Fin 4) : Option Int :=
  let ds := allSlots.filterMap fun k =>
    let p := s.br[b].pos[k]
    if p.onDelay[band].isEmpty || p.offDelay[band].isEmpty then none
    else some ((meanNat p.offDelay[band] : Int) - (meanNat p.onDelay[band] : Int))
  match ds with
  | [] => none
  | d :: t => some ((t.foldl max d + 2499) / 2500 + s.act 0x2030 5)

/-- The dead time of a band before the ceiling, 0 to 4,095 ticks (R58). -/
def State.wantedDead (s : State) (b : BridgeId) (band : Fin 4) : Nat :=
  let lo := s.act 0x2030 (band.val + 1)
  (clampInt 0 4095 (match s.measuredDead b band with
    | some d => max lo d
    | none => lo)).toNat

/-- The dead times of a bridge are computed; one above the ceiling takes the ceiling, with E-200C once for each
band when it first exceeds it (R58, R59; log 152). -/
def refreshDead (b : BridgeId) (s : State) : State :=
  (List.finRange 4).foldl (fun a band =>
    let d := a.wantedDead b band
    let top := a.actN 0x2030 6
    let high := decide (top < d)
    let was := a.br[b].th.atCeiling[band]
    let a := modBr b (fun x => { x with th := { x.th with dead := x.th.dead.set band (min d top),
                                                          atCeiling := x.th.atCeiling.set band high } }) a
    onlyIf (high && !was) (raiseB 0x200C b [(band.val : Int)]) a) s

/-- The band in force, its waveform set and blanking time, and a successor set that is due (R91 to R93). A replaced set stays in force
although 0x3010 is not rewritten. -/
def applyBand (b : BridgeId) (s : State) : State :=
  let band := s.br[b].th.band
  let sub := 4 * b.val + band.val + 1
  let old := s.actN 0x3010 sub
  let s := takeReload b s
  let set := s.br[b].th.wset[band]
  let set := if set = old then s.actN 0x3010 sub else set
  let next := s.actN (0x3020 + set % 8) 0x11
  let set := if s.br[b].th.replace && next != 0xFF then next else set
  refreshDead b (modBr b (fun x => { x with th := { x.th with applied := band, wset := x.th.wset.set band set, replace := false,
                                                              blank := x.th.blank.set band (s.actN 0x3011 sub) } }) s)

/-- A position whose retry wait has ended may be re-enabled. -/
def Position.due (p : Position) : Bool := p.retryDue && p.soft.val == 0

/-- Positions whose retry wait has ended are re-enabled, with E-3003: each is one try (R100). -/
def takeRetries (b : BridgeId) (s : State) : State :=
  allSlots.foldl (fun a k =>
    if (a.br[b].pos[k]).due then
      let p := posOf b k
      let a := modPos p (fun x => { x with retry := none, retryDue := false, detected := none, reported := false,
                                           tries := a.now :: x.tries }) a
      bump (0xE031 + b.val) 3 (raise 0x3003 1 (p.val + 1) [] a)
    else a) s

/-! Reload: transfer, release, edges (R53 to R56, R70, R128, R198, R245) -/

/-- The marked set becomes the active set, unless it arrived inside the guard window of this reload (R53 to R55). -/
def transferSet (b : BridgeId) : State → State :=
  modBr b fun x =>
    let car := x.car
    match car.shadow with
    | none => x
    | some c =>
      if car.skip then { x with car := { car with skip := false } }
      else { x with car := { car with active := some c, shadow := none, updateTag := car.shadowTag, updatePeriod := car.period } }

/-- Atlas torque of a group over its bridges in RUN, N·m (R237). -/
def State.releasedTorque (s : State) (g : GroupId) : Rat := ((s.running g).map fun b => s.br[b].ctl.torque).foldl (· + ·) 0

/-- The reload that transfers a resume set releases a forcing that Clove releases itself (R196, R198, R245): E-200D, and the Ramp phase
of a catch with E-7102, or RUN with E-6032 for the group's first release. -/
def releaseForcing (b : BridgeId) (s : State) : State :=
  let resume : Bool := match s.br[b].car.active with
    | some c => c.resume
    | none => false
  if !resume || !s.br[b].force.selfReleasing then s
  else
    let s := modBr b (fun x => { x with car := { x.car with active := x.car.active.map fun c => { c with resume := false } } }) (dropForce b s)
    match s.groupOf b with
    | none => s
    | some g =>
      let first := s.gr[g].reacq.phase == 3
      if s.br[b].start.phase = 5 then
        let joining := s.joins b
        let s := onlyIf (first && !joining) (modGr g fun x => { x with reacq := { x.reacq with phase := 4, since := s.now } }) s
        let s := enterRamp b s
        let s := onlyIf (!joining) (fun a => modGr g (fun x => { x with t0 := a.releasedTorque g }) a) s
        onlyIf (!joining && (s.bridgesOf g).all fun c => s.br[c].start.phase != 5)
          (modGr g fun x => { x with reacq := { x.reacq with phase := 0, isCatch := false } }) s
      else
        let s := onlyIf first (fun a => raiseG 0x6032 g [] (modGr g (fun x => { x with
          reacq := { x.reacq with phase := 4, since := s.now } }) a)) s
        let s := enterRun b s
        modGr g (fun x => { x with t0 := s.releasedTorque g }) s

/-- The ledger of a leg takes the insertion of the edges formed at this reload with opposite sign (R128). -/
def formLedger (up dn : Bool) (insU insD : Int) (l : Leg) : Leg :=
  { l with ledger := l.ledger - (if up then insU else 0) - (if dn then insD else 0), insU := if up then insU else l.insU,
           insD := if dn then insD else l.insD }

/-- The carrier request that a bridge's next valley makes active (R15, R43). -/
def takeCarrier (b : BridgeId) (s : State) : State :=
  let sub := (s.groupFor b).val + 1
  onlyIf (s.groupOf b).isSome (fun a => { a with par := a.par.activateWhere fun key => key == objKey 0x2010 sub }) s

/-- TOP of the rising half that follows a bridge's next valley (R43). -/
def State.valleyTop (s : State) (b : BridgeId) : Nat := (takeCarrier b s).nextTop b

/-- One leg takes its edges from the active set at a reload (R52, R60 to R65); `fresh`, the bridge did not switch before it. -/
def formLeg (b : BridgeId) (k : Fin 3) (c : CompareSet) (fresh atPeak : Bool) (t : Nat) (s : State) : State :=
  let saw := s.sawtooth b
  let point := s.reloadPoint b
  let drop := s.actN 0x2013 (b.val + 1) == 0
  let car := s.br[b].car
  let l := s.br[b].legs[k]
  let hi := l.highDriven t
  let thr : Int := s.deadTime b + s.actN 0x2014 1
  let f := formEdges saw drop point atPeak car.dither.val car.top (s.valleyTop b) thr hi l c.cu[k] c.cd[k]
  let up := f.x.toNat
  let dn := f.y.toNat
  let wide := if saw then up else if point = 1 then l.up + dn else up + dn
  let s := modLeg (legOf b k) (fun x => formLedger (!(point == 2 && atPeak)) (!(point == 2 && !atPeak)) c.insU[k] c.insD[k]
    { x with up := up, dn := dn, before := if fresh then none else some (x.endLevel saw atPeak car.top), acc := f.acc, width := wide, clamp := c.clamp[k],
             lowDriven := if saw || (point == 2 && !atPeak) then x.lowDriven else car.top - dn }) s
  bumpBy (0xE021 + b.val) 5 f.stretched (bumpBy (0xE021 + b.val) 4 f.dropped s)

/-- The high-side reference of a leg just after a carrier extreme (R47, R48). -/
def State.refAtExtreme (s : State) (b : BridgeId) (k : Fin 3) (atPeak : Bool) : Bool :=
  let l := s.br[b].legs[k]
  if s.sawtooth b then decide (0 < l.up) else if atPeak then decide (0 < l.dn) else decide (s.br[b].car.top ≤ l.up)

/-- The outputs of a bridge at a reload: legs whose reference changes there, every leg of a bridge that begins to follow its active set,
and positions re-enabled at this reload. A leg under a cut is left to the next valley (R71). -/
def driveBridge (b : BridgeId) (fresh : Bool) (again : List (Fin 6)) (atPeak : Bool) (t : Nat) (s : State) : State :=
  phases.foldl (fun a k =>
    let l := legOf b k
    let want := a.refAtExtreme b k atPeak
    if (a.leg l).cut.isSome then a
    else if fresh || (a.leg l).ref != want then driveLeg l want t a
    else if again.any (fun n => posOf b n == posOfLeg l want) && !(a.leg l).held then turnOn (posOfLeg l want) t a
    else a) s

/-- The reload is one of the bridge's (R44). -/
def State.isReload (s : State) (b : BridgeId) (atPeak : Bool) : Bool :=
  if s.sawtooth b then !atPeak else match s.reloadPoint b with
    | 0 => !atPeak
    | 1 => atPeak
    | _ => true

/-- The accumulators of a bridge are cleared. -/
def clearAcc (b : BridgeId) : State → State := modBr b fun x => { x with legs := x.legs.map fun l => { l with acc := 0 } }

/-- A difference of ticks brought into half a period either way. -/
def wrapTicks (p : Nat) (d : Int) : Int := if p = 0 then 0 else let r := d % (p : Int); if (p : Int) ≤ 2 * r then r - p else r

/-- The next adjusted period of a move of `left` ticks (R75): within 1 - s and 1 + s of the nominal period. -/
def State.moveStep (s : State) (b : BridgeId) (left : Int) : Int :=
  let limit : Int := ((s.periodTicks b * s.actN 0x2060 4 / 100 : Nat) : Int)
  clampInt (-limit) limit left

/-- A scheduled change whose time has come takes effect at a reload (R75): the new offset, by the shorter way round, and the first adjusted
period of the move to it. -/
def beginMove (b : BridgeId) (s : State) : State :=
  match s.br[b].car.schedule with
  | none => s
  | some (o, _) =>
    if !s.br[b].car.due then s
    else
      let p := s.periodTicks b
      let way := wrapTicks p (((o * p / 65536 : Nat) : Int) - ((s.br[b].car.offset * p / 65536 : Nat) : Int))
      let left := s.br[b].car.moving.getD 0 + way
      let step := s.moveStep b left
      modBr b (fun x => { x with car := { x.car with offset := o % 65536, schedule := none, due := false, moving := some (left - step),
                                                     moveAt := s.now, adjust := step } }) s

/-- The tick of a leg's edge within the half that begins at a reload at tick t (R47, R48, R123): the rising one before a peak, the falling one
after it; in sawtooth mode the falling one. -/
def Leg.edgeTick (l : Leg) (saw atPeak : Bool) (top t : Nat) : Option Nat :=
  if saw then (if 0 < l.up ∧ l.up < top then some (t + l.up) else none)
  else if atPeak then (if 0 < l.dn ∧ l.dn < top then some (t + l.dn) else none)
  else if 0 < l.up ∧ l.up < top then some (t + (top - l.up)) else none

/-- The apertures of the window set of the half that begins at a reload, placed from the edges formed there (R123, R125): S0 the guard before
the first edge, S1 and S2 the dead time and the settling time after the first and the second; none with fewer than two edges. -/
def State.planWindows (s : State) (b : BridgeId) (atPeak : Bool) (t : Nat) : Option (Vector Nat 3) :=
  let edges := (phases.filterMap fun k => (s.br[b].legs[k]).edgeTick (s.sawtooth b) atPeak s.br[b].car.top t).mergeSort
  let late := s.deadTime b + s.actBN b 0x4020 1
  match edges with
  | e1 :: e2 :: _ => some #v[e1 - s.actBN b 0x4020 2, e1 + late, e2 + late]
  | _ => none

/-- The edges of a period are final: its window set is planned (R125), and a bridge that begins to switch at the begin of a period drives all of
it (R134). -/
def placeWindows (b : BridgeId) (fresh atPeak : Bool) (t : Nat) (s : State) : State :=
  let plan := s.planWindows b atPeak t
  modBr b (fun x => { x with meas := { x.meas with plan := plan },
                             legs := x.legs.map fun l => { l with drove := l.drove || (fresh && !atPeak) } }) s

/-- CARRIER_RELOAD (R53 to R56, R60 to R65, R75, R91, R100, R198). A bridge that did not switch before takes every leg to its reference (R70). A set that repeats is charged again (R362). A change of the short-pulse policy clears the accumulators (R60). Without
PD4 or its clock there is no carrier (R33). -/
def carrierReload (b : BridgeId) (atPeak : Bool) (t : Nat) (s : State) : State :=
  if !s.pulseOn || !s.isReload b atPeak then s
  else
    let s := beginMove b (setNow t s)
    let policy := s.act 0x2013 (b.val + 1)
    let s := applyBand b s
    let s := onlyIf (decide (s.act 0x2013 (b.val + 1) ≠ policy)) (clearAcc b) s
    let again := allSlots.filter fun k => (s.br[b].pos[k]).due
    let s := takeRetries b s
    let was := s.switching b
    let took := s.br[b].car.shadow.isSome && !s.br[b].car.skip
    let s := transferSet b (modBr b (fun x => { x with car := { x.car with reloadAt := t } }) s)
    let s := releaseForcing b s
    if !s.switching b then modBr b (fun x => { x with meas := { x.meas with plan := none } }) <| uncharge b <| onlyIf (s.inAsc b) (fun a => chargeShort b a.br[b].force.pattern (a.reloadTicks b) a) s
    else match s.br[b].car.active with
      | none => s
      | some c =>
        let s := placeWindows b (!was) atPeak t (phases.foldl (fun a k => formLeg b k c (!was) atPeak t a) s)
        (if took then drivePending b else chargeDriven b) (driveBridge b (!was) again atPeak t s)

/-- CARRIER_RELOAD. -/
def execCarrierReload (b : BridgeId) (atPeak : Bool) (t : Nat) (s : State) : Host.Outcome State Fault Refusal := .next (carrierReload b atPeak t s)

/-! Valley (R42, R43, R46, R51, R67, R71 to R75, R108, R128) -/

/-- A leg at the end of a period: runs of interlock hits, cuts and cancels; a cut ends; the low segment driven into the valley; the
commanded mean of the period (R62, R67, R71, R72, R108, R134). -/
def endPeriod (switching : Bool) (t : Nat) (udc : Rat) (period : Nat) (l : Leg) : Leg :=
  { l with overlapRun := if l.overlapSeen then l.overlapRun else 0, overlapSeen := false,
           cutRun := if l.cutSeen then l.cutRun else 0, cutSeen := false,
           cancelRun := if l.cancelSeen then l.cancelRun else 0, cancelSeen := false, cut := none,
           cutSpan := if l.cut.isSome then l.cutSpan.map fun c => (c.1, t) else l.cutSpan,
           lowDriven := if !switching then 0 else match l.cut with
             | some true => t - l.lastEdge
             | some false => 0
             | none => l.lowDriven,
           up := if switching then l.up else 0, dn := if switching then l.dn else 0,
           meanCmd := if switching && l.drove then some (udc * (l.width : Rat) / (max 1 period : Nat)) else none, drove := switching }

/-- The remainder that a conversion left in an insertion ledger ages; one older than 0x4020.04 periods is dropped and counted (R128, R144;
log 140). -/
def ageLedgers (b : BridgeId) (s : State) : State :=
  phases.foldl (fun a k =>
    let l := a.br[b].legs[k]
    if l.ledgerLeft = 0 then modLeg (legOf b k) (fun x => { x with ledgerAge := 0 }) a
    else if s.actBN b 0x4020 4 < l.ledgerAge + 1 then
      bump (0xE041 + b.val) 6 (modLeg (legOf b k) (fun x => { x with ledger := x.ledger - x.ledgerLeft, ledgerLeft := 0, ledgerAge := 0 }) a)
    else modLeg (legOf b k) (fun x => { x with ledgerAge := x.ledgerAge + 1 }) a) s

/-- Input number of a leg-voltage channel (R137). -/
def lvInput (l : LegId) : Fin 84 := ⟨0x10 + l.val, by omega⟩

/-- Phase error of a valley at tick t against the phase planned for it, ticks (R73 to R75): `left` is what the move has still to make.
The ideal instant is rounded down to a tick (log 154). -/
def State.phaseError (s : State) (b : BridgeId) (t : Nat) (left : Int) : Int :=
  let p := s.periodTicks b
  wrapTicks p (((s.time.at t / 163840 : Nat) : Int) - ((s.br[b].car.offset * p / 65536 : Nat) : Int) + left)

/-- Lock and loss of lock, with slips (R74). -/
def settleLock (b : BridgeId) (err : Int) (s : State) : State :=
  let inside := decide (err.natAbs ≤ s.actN 0x2060 2)
  let was := s.br[b].car.locked
  let s := modBr b (fun x => { x with car := { x.car with locked := inside } }) s
  if inside && !was then raiseB 0x200A b [] s
  else if !inside && was then bump (0xE021 + b.val) 9 (raiseB 0x200B b [] s)
  else s

/-- The phase of a bridge at a valley (R73 to R75): a move goes on in adjusted periods and raises E-2009 when its offset is reached; one that
a reload at this tick has begun keeps its first period. A bridge not in RUN that holds its offset is aligned in one adjusted period; one in
RUN tracks its offset within the slew limit. -/
def lockPhase (b : BridgeId) (t : Nat) (s : State) : State :=
  let on := s.actN 0x2060 1 == 1
  let move := s.br[b].car.moving
  let left := move.getD 0
  let err := s.phaseError b t left
  let s := if on then settleLock b err s
    else if s.br[b].car.locked then raiseB 0x200B b [] (modBr b (fun x => { x with car := { x.car with locked := false } }) s) else s
  let began := move.isSome && s.br[b].car.moveAt == t
  let done := move == some 0 && !began
  let s := onlyIf done (fun a => raiseB 0x2009 b [(a.br[b].car.offset : Int)] (modBr b (fun x => { x with car := { x.car with moving := none } }) a)) s
  let running := decide (s.br[b].state = .run)
  let slew : Int := s.act 0x2060 3
  if began then s
  else if left ≠ 0 then
    let step := s.moveStep b left
    modBr b (fun x => { x with car := { x.car with adjust := step, moving := some (left - step) } }) s
  else
    let adj := if !on then 0 else if running then clampInt (-slew) slew (-err) else -err
    modBr b (fun x => { x with car := { x.car with adjust := adj } }) s

/-- CARRIER_VALLEY (R43, R46, R51, R71 to R75): the period number and the dither phase advance, a pending TOP takes effect, cuts end, phase
lock is measured. A leg whose edges put its reference elsewhere at a valley that is no reload moves there. -/
def carrierValley (b : BridgeId) (t : Nat) (s : State) : State :=
  if !s.pulseOn then s
  else
  let s := setNow t s
  let switching := s.switching b
  let period := s.periodTicks b
  let s := takeCarrier b s
  let top := s.nextTop b
  let udc := s.drive.udc
  let was := s.br[b].car.top
  let s := modBr b (fun x => { x with
    car := { x.car with period := (x.car.period + 1) % 2 ^ 48, dither := x.car.dither + 1, top := top, valley := t,
                         peakAt := x.car.valley + x.car.top },
    legs := x.legs.map fun l => let l := endPeriod switching t udc period l; { l with up := min l.up top } }) s
  let s := onlyIf (was != top) refreshBounds s
  let s := missInputs (phases.map fun k => lvInput (legOf b k)) (ageLedgers b s)
  let s := onlyIf (switching && !s.isReload b false)
    (fun a => phases.foldl (fun c k => let want := c.refAtExtreme b k false
      if (c.leg (legOf b k)).ref = want then c else driveLeg (legOf b k) want t c) a) s
  lockPhase b t s

/-- CARRIER_VALLEY. -/
def execCarrierValley (b : BridgeId) (t : Nat) (s : State) : Host.Outcome State Fault Refusal := .next (carrierValley b t s)

/-- OFFSET_SCHEDULE_TIME (R75): the time of the scheduled change has come; the bridge's next reload takes it. -/
def offsetDue (b : BridgeId) (t : Nat) (s : State) : State :=
  let s := setNow t s
  match s.br[b].car.schedule with
  | none => s
  | some (_, at0) =>
    if s.time.at t < at0 then s else modBr b (fun x => { x with car := { x.car with due := true } }) s

/-- OFFSET_SCHEDULE_TIME. -/
def execOffsetScheduleTime (b : BridgeId) (t : Nat) (s : State) : Host.Outcome State Fault Refusal := .next (offsetDue b t s)

/-! Class A (R68, R69) -/

/-- A source acts on the whole drive (R68). -/
def srcDrive : ClassASource → Bool
  | .sto | .overvoltage | .external => true
  | _ => false

/-- CLASS_A_INPUT (R68 to R70): an active input forces and latches; an inactive one ends its cause only. -/
def classAInput (src : ClassASource) (b : BridgeId) (active : Bool) (s : State) : State :=
  let s := if src = .external then { s with clove := { s.clove with extFault := active } } else s
  if !active then (if srcDrive src then forBr allBr (endCause src) s else endCause src b s)
  else if src = .external then externalFault s
  else if srcDrive src then safeDrive src s
  else if src = .catchAsc then forceBridge .catchAsc (s.ascSide b) 3 b s
  else safeBridge src 3 b s

/-- CLASS_A_INPUT. -/
def execClassAInput (src : ClassASource) (b : BridgeId) (active : Bool) (s : State) : Host.Outcome State Fault Refusal :=
  .next (classAInput src b active s)

/-- ASC_DELAY_EXPIRY (R67, R69, R109): the shorting side turns on, a held leg's too; in a catch E-7104 follows (R245). -/
def ascDelayEnd (b : BridgeId) (s : State) : State :=
  match s.br[b].force.ascTo with
  | none => s
  | some p =>
    let s := modBr b (fun x => { x with force := { x.force with ascTo := none, ascAt := s.now }, bemf := clearCrossings x.bemf }) s
    let s := allSlots.foldl (fun a k => if slotHigh k == decide (p = 3) then
      turnOn (posOf b k) a.now (modPos (posOf b k) (fun x => { x with driveEnable := true }) a) else a) s
    let s := settlePd7 (phases.foldl (fun a k => noteEdge (legOf b k) (decide (p = 3)) a.now a) s)
    onlyIf (s.br[b].start.phase == 5 && s.br[b].force.sources.any fun x => decide (x.1 = .catchAsc)) (raiseB 0x7104 b []) s

/-- ASC_DELAY_EXPIRY. -/
def execAscDelayExpiry (b : BridgeId) (s : State) : Host.Outcome State Fault Refusal := .next (ascDelayEnd b s)

end Sys2Proof.Machine
end

