-- ==== Sys2Proof/Machine/Islands.lean ====
section
/-! DEFINITION. Islands: links, rails, the bootstrap prime, the edge monitor, short-circuit reports and escalation, retries, the
cross-check (R82 to R109). -/

namespace Sys2Proof.Machine

/-! Links (R82, R83) -/

/-- A position that may short no more leaves the shorting side of an ASC: the pattern becomes the other side that R105 leaves, else off (R105,
R106). -/
def leaveSide (p : PosId) (s : State) : State :=
  let b := brOfPos p
  if s.inAsc b && isHigh p == decide (s.br[b].force.pattern = 3) && !(s.pos p).canShort then settleDrive (changePattern (s.ascSide b) b s) else s

/-- ISLAND_LINK_TIMEOUT (R82): the gate turns off and the island latches, with no retry. -/
def linkLost (p : PosId) (s : State) : State :=
  leaveSide p (latchFor 0x300C p (modPos p (fun x => { x with linkValid := false }) (turnOff p s)))

/-- ISLAND_LINK_TIMEOUT. -/
def execIslandLinkTimeout (p : PosId) (s : State) : Host.Outcome State Fault Refusal := .next (linkLost p s)

/-- ISLAND_LINK_RETURN (R82): a latched island raises E-300C; the partner state is received again. Of the two ways that R82 gives, the model raises
E-300C only as the link returns, never for the island before that (log 175). -/
def linkReturn (p : PosId) (s : State) : State :=
  if (s.pos p).linkValid then s
  else
    let s := modPos p (fun x => { x with linkValid := true, partnerKnown := true }) s
    onlyIf (s.pos p).latched (raise 0x300C 1 (p.val + 1) []) s

/-- ISLAND_LINK_RETURN. -/
def execIslandLinkReturn (p : PosId) (s : State) : Host.Outcome State Fault Refusal := .next (linkReturn p s)

/-- PARTNER_LINK_TIMEOUT (R83): the partner counts as above threshold. -/
def execPartnerLinkTimeout (p : PosId) (s : State) : Host.Outcome State Fault Refusal :=
  .next (modPos p (fun x => { x with partnerKnown := false }) s)

/-! Retry and latching (R100, R106) -/

/-- A detection or undervoltage latches the position (R100): its tries are used up, its bridge is not in RUN or is in an ASC forcing. -/
def State.mustLatch (s : State) (p : PosId) : Bool :=
  let b := brOfPos p
  let used := ((s.pos p).tries.filter fun t => decide (s.now < t + s.actN 0x3040 3 * ticksPerS)).length
  decide (s.actN 0x3040 2 ≤ used) || decide (s.br[b].state ≠ .run) || s.inAsc b

/-- What an event of a position states: 1 retry pending, 2 latched (log 6). -/
def retryWord (latch : Bool) : Int := if latch then 2 else 1

/-- A position waits for its retry, or latches (R100). A shorting position of an ASC that latches changes the pattern to the other side
that R105 leaves, else to off (R106). -/
def retryOrLatch (p : PosId) (latch : Bool) (s : State) : State :=
  if !latch then modPos p (fun x => { x with retry := some (s.now + s.actN 0x3040 1 * ticksPerMs), retryDue := false }) s
  else leaveSide p (latchPos p s)

/-! Rails and the prime (R84 to R88, R244) -/

/-- ISLAND_RAIL_UNDERVOLTAGE (R85): a position that is on turns off with E-300B, and the retry rules follow. -/
def railUndervoltage (p : PosId) (s : State) : State :=
  let x := s.pos p
  if x.railUv then s
  else
    let s := bump (0xE031 + (brOfPos p).val) 8 (modPos p (fun y => { y with railUv := true, railReady := false }) s)
    if !s.conducts p then leaveSide p (onlyIf (isHigh p) (turnOff p) s)
    else
      let latch := s.mustLatch p
      retryOrLatch p latch (raise 0x300B 1 (p.val + 1) [retryWord latch] (turnOff p s))

/-- ISLAND_RAIL_UNDERVOLTAGE. -/
def execIslandRailUndervoltage (p : PosId) (s : State) : Host.Outcome State Fault Refusal := .next (railUndervoltage p s)

/-- ISLAND_RAIL_READY (R85, R87, R244): a prime ends with E-300D, or a Charge phase ends. -/
def railReadyNow (p : PosId) (s : State) : State :=
  let b := brOfPos p
  let s := modPos p (fun x => { x with railReady := true, railUv := false }) s
  if !s.highRailsReady b then s
  else if s.br[b].start.phase = 2 then enterAngle b (raiseB 0x300D b [] (endPulse b s))
  else if s.br[b].start.phase = 4 then enterRamp b s
  else s

/-- ISLAND_RAIL_READY. -/
def execIslandRailReady (p : PosId) (s : State) : Host.Outcome State Fault Refusal := .next (railReadyNow p s)

/-- BOOTSTRAP_PRIME_PULSE (R86, R87): an interval of a prime ends, and the next pulse begins. After the last pulse of the first prime the prime runs
once more; after the second the positions whose rail is not ready latch with E-300B, and the start aborts with cause 0x7. -/
def primePulse (b : BridgeId) (s : State) : State :=
  let st := s.br[b].start
  if st.phase ≠ 2 then s
  else
    let n := st.pulses + 1
    let s := endPulse b (setNow (st.pulseAt + s.actN 0x3050 3 * ticksPerUs) s)
    let s := modBr b (fun x => { x with start := { x.start with pulses := n } }) s
    if n < s.actN 0x3050 2 then primeOn b s
    else if st.primes < 2 then beginPrime b s
    else
      let bad := allSlots.filter fun k => slotHigh k && !(s.br[b].pos[k]).railReady
      let s := bad.foldl (fun a k => raise 0x300B 1 ((posOf b k).val + 1) [retryWord true] (latchFor 0x300B (posOf b k) a)) s
      abortToStandby b 7 s

/-- BOOTSTRAP_PRIME_PULSE. -/
def execBootstrapPrimePulse (b : BridgeId) (s : State) : Host.Outcome State Fault Refusal := .next (primePulse b s)

/-! The edge monitor (R93 to R95) -/

/-- Keep a list of the newest n values. -/
def pushN (n v : Nat) (l : List Nat) : List Nat := (v :: l).take n

/-- The departure of a full mean gate charge from its identified value by more than 20 % (R95). -/
def Position.chargeOff (p : Position) : Bool :=
  let q := meanNat p.charge
  p.charge.length == 1024 && p.chargeIdent != 0 && decide (p.chargeIdent < 5 * (max q p.chargeIdent - min q p.chargeIdent))

/-- A turn-on reports its gate charge (R95). -/
def noteCharge (p : PosId) (q : Nat) (s : State) : State :=
  let s := modPos p (fun x => { x with charge := pushN 1024 q x.charge }) s
  onlyIf (s.pos p).chargeOff (raiseFirst 0x3010 1 (p.val + 1) [(meanNat (s.pos p).charge : Int), ((s.pos p).chargeIdent : Int)] p.val) s

/-- A valid edge's dv/dt is compared with the group's limit (R93): the run that reaches 0x3051.05 raises E-300F at once (log 155) and
makes the successor due at the next reload. -/
def checkDvdt (p : PosId) (dvdt : Nat) (s : State) : State :=
  let b := brOfPos p
  if dvdt ≤ s.actBN b 0x3051 ((s.groupFor b).val + 1) then modPos p (fun x => { x with dvdtRun := 0 }) s
  else
    let s := bump (0xE031 + b.val) 7 (modPos p (fun x => { x with dvdtRun := x.dvdtRun + 1 }) s)
    if (s.pos p).dvdtRun < s.actN 0x3051 5 then s
    else
      let next := s.actN (0x3020 + s.br[b].th.wset[s.br[b].th.applied] % 8) 0x11
      let s := modPos p (fun x => { x with dvdtRun := 0 }) s
      let s := onlyIf (next != 0xFF) (modBr b fun x => { x with th := { x.th with replace := true } }) s
      raise 0x300F 1 (p.val + 1) [(next : Int)] s

/-- EDGE_MEASURED (R94, R95): the averages of the position and band take a valid edge; an invalid one is counted. The gate's state is known
to its partner (R83). -/
def edgeMeasured (p : PosId) (turnOn : Bool) (delayPs dvdt charge : Nat) (s : State) : State :=
  let b := brOfPos p
  let band := s.br[b].th.applied
  let s := modPos (partnerPos p) (fun x => { x with partnerKnown := true }) (modPos p (fun x => { x with above := turnOn }) s)
  let s := onlyIf (!turnOn) (endHold (partnerPos p)) s
  let s := onlyIf turnOn (noteCharge p charge) s
  let i := s.br[b].meas.pi[phaseOfLeg (legOfPos p)]
  if abs i < s.actR 0x3052 1 then bump (0xE031 + b.val) 0x0C s
  else
    let s := modPos p (fun x =>
      if turnOn then { x with onDelay := x.onDelay.set band (pushN 256 delayPs x.onDelay[band]),
                              onDvdt := x.onDvdt.set band (pushN 256 dvdt x.onDvdt[band]) }
      else { x with offDelay := x.offDelay.set band (pushN 256 delayPs x.offDelay[band]),
                    offDvdt := x.offDvdt.set band (pushN 256 dvdt x.offDvdt[band]) }) s
    checkDvdt p dvdt s

/-- EDGE_MEASURED. -/
def execEdgeMeasured (p : PosId) (turnOn : Bool) (delayPs : Nat) (dvdt : Nat) (charge : Nat) (s : State) : Host.Outcome State Fault Refusal :=
  .next (onlyIf s.pulseOn (edgeMeasured p turnOn delayPs dvdt charge) s)

/-! Short circuits (R96 to R106) -/

/-- The desaturation detector of a position is blanked (R96): the blanking time that its turn-on command began has not passed. -/
def State.blanked (s : State) (p : PosId) : Bool := s.conducts p && decide (s.now < (s.pos p).blankTo)

/-- A detector can act on a position: it conducts by command, or its bridge is switched by the identification of its group (log 174). -/
def State.armed (s : State) (p : PosId) : Bool :=
  s.conducts p || (s.br[brOfPos p].state == .run && (s.groupOf (brOfPos p)).any fun g => s.gr[g].atlas.ident.isSome)

/-- SHORT_CIRCUIT_DETECTION (R96 to R98). -/
def execShortCircuitDetection (p : PosId) (desat : Bool) (t : Nat) (s : State) : Host.Outcome State Fault Refusal :=
  .next (let s := setNow t s; if s.armed p && !(desat && s.blanked p) then settlePd7 (detect p desat t s) else s)

/-- Other positions of the bridge detected within one carrier period of an instant (R103). -/
def State.nearby (s : State) (p : PosId) (t : Nat) : List PosId :=
  let b := brOfPos p
  let per := s.periodTicks b
  (allSlots.map (posOf b)).filter fun q => q != p && (s.pos q).reported &&
    (s.pos q).detected.any fun u => decide (t ≤ u + per) && decide (u ≤ t + per)

/-- Both positions of a leg (R103): a leg fault, both latched, the bridge forced off. -/
def sameLeg (p : PosId) (s : State) : State :=
  let b := brOfPos p
  let l := legOfPos p
  let s := latchFor 0x3005 (partnerPos p) (latchFor 0x3005 p s)
  let s := raise 0x3005 2 (l.val + 1) [] (modLeg l (fun x => { x with fault := 0x3005 }) s)
  safeRequest .shortCircuit 3 b (raiseB 0x2005 b [(l.val + 1 : Int)] s)

/-- Two legs of a bridge (R103, R104): the detected positions and those with a pending retry latch, the bridge is forced off; a second
bridge within the window makes a level 4 fault. -/
def twoLegs (p : PosId) (near : List PosId) (s : State) : State :=
  let b := brOfPos p
  let which := (allSlots.map (posOf b)).filter fun q => q == p || near.contains q || (s.pos q).retry.isSome
  let s := which.foldl (fun a q => latchFor 0x3006 q a) s
  let s := raiseB 0x3006 b [] (modBr b (fun x => { x with escalated := some s.now, force := { x.force with twoLeg := true } }) s)
  let s := safeRequest .shortCircuit 3 b s
  let also := allBr.filter fun c => c != b && s.br[c].escalated.any fun t => decide (s.now ≤ t + s.actN 0x3040 4 * ticksPerMs)
  if also.isEmpty then s
  else
    let s := raise4 0x3007 (((allBr.filter fun c => c == b || also.contains c).map fun c => (c.val + 1 : Int))) s
    driveSafe false (forBr (allBr.filter fun c => c != b && !also.contains c) (safeRequest .twoBridge 4) s)

/-- SHORT_DETECTION_REPORT (R82, R87, R99, R100, R103 to R106). A short in a prime ends it as a failed prime, whatever else follows. -/
def detectionReport (p : PosId) (s : State) : State :=
  let x := s.pos p
  let b := brOfPos p
  match x.detected with
  | none => s
  | some t =>
    if x.reported then s
    else
      let s := modPos p (fun y => { y with reported := true }) (turnOff p s)
      let s := bump (0xE031 + b.val) (if x.byDesat then 1 else 2) s
      let prime : Bool := s.br[b].start.phase == 2
      let tell (latch : Bool) (a : State) : State :=
        onlyIf prime (abortToStandby b 7) (raise (if x.byDesat then 0x3001 else 0x3002) 1 (p.val + 1) [retryWord latch] a)
      let near := s.nearby p t
      let q := partnerPos p
      if s.br[b].force.twoLeg then latchFor 0x3006 p (tell true s)
      else if near.contains q || ((s.pos q).detected.isSome && (s.pos q).retry.isSome) then sameLeg p (tell true s)
      else if near.any (fun r => legOfPos r != legOfPos p) then twoLegs p near (tell true s)
      else
        let latch := s.mustLatch p
        retryOrLatch p latch (tell latch s)

/-- SHORT_DETECTION_REPORT. -/
def execShortDetectionReport (p : PosId) (s : State) : Host.Outcome State Fault Refusal := .next (detectionReport p s)

/-- SOFT_TURN_OFF_STAGE2 (R97). -/
def execSoftTurnOffStage2 (p : PosId) (s : State) : Host.Outcome State Fault Refusal :=
  .next (modPos p (fun x => { x with soft := if x.soft = 1 then 2 else x.soft }) s)

/-- SOFT_TURN_OFF_END (R97): the hold switch clamps the gate to the off level. -/
def softEnd (p : PosId) (s : State) : State :=
  if (s.pos p).soft = 0 then s else settlePd7 (modPos p (fun x => { x with soft := 0, above := false, softSpan := x.softSpan.map fun c => (c.1, s.now) }) s)

/-- SOFT_TURN_OFF_END. -/
def execSoftTurnOffEnd (p : PosId) (s : State) : Host.Outcome State Fault Refusal := .next (softEnd p s)

/-- RETRY_WAIT_EXPIRY (R100): the position is re-enabled at its bridge's next reload. -/
def retryEnd (p : PosId) (s : State) : State :=
  match (s.pos p).retry with
  | some t => modPos p (fun x => { x with retryDue := true }) (setNow t s)
  | none => s

/-- RETRY_WAIT_EXPIRY. -/
def execRetryWaitExpiry (p : PosId) (s : State) : Host.Outcome State Fault Refusal := .next (retryEnd p s)

/-! The cross-check (R107 to R109) -/

/-- CROSS_CHECK_RELEASE (R107): the partner falls below threshold, and the held turn-on proceeds; a hold of 2 ticks or more is counted. -/
def crossRelease (p : PosId) (t : Nat) (s : State) : State :=
  let s := setNow t s
  let s := modPos (partnerPos p) (fun x => { x with above := false }) (modPos p (fun x => { x with partnerKnown := true }) s)
  endHold p s

/-- CROSS_CHECK_RELEASE. -/
def execCrossCheckRelease (p : PosId) (t : Nat) (s : State) : Host.Outcome State Fault Refusal := .next (crossRelease p t s)

/-- CROSS_CHECK_CANCEL (R107 to R109): the turn-on is cancelled for its interval; the third consecutive period with a cancel makes a leg
fault. In an ASC forcing the limit does not apply. -/
def crossCancel (p : PosId) (s : State) : State :=
  let b := brOfPos p
  let l := legOfPos p
  match (s.pos p).hold with
  | none => s
  | some h =>
    if s.inAsc b then s
    else
      let s := turnOff p (setNow (h + ticksOfNs (s.actBN b 0x3003 1)) s)
      let s := raiseFirst 0x3009 2 (l.val + 1) [] l.val (bump (0xE031 + b.val) 6 s)
      let s := if (s.leg l).cancelSeen then s else modLeg l (fun x => { x with cancelSeen := true, cancelRun := x.cancelRun + 1 }) s
      if 3 ≤ (s.leg l).cancelRun ∧ (s.leg l).fault = 0 then
        let s := raise 0x300A 2 (l.val + 1) [] (modLeg l (fun x => { x with fault := 0x300A }) s)
        turnOff (posOfLeg l true) (turnOff (posOfLeg l false) s)
      else s

/-- CROSS_CHECK_CANCEL. -/
def execCrossCheckCancel (p : PosId) (s : State) : Host.Outcome State Fault Refusal := .next (crossCancel p s)

end Sys2Proof.Machine
end

