-- ==== Sys2Proof/Machine/Diverse.lean ====
section
/-! DEFINITION. Clove's own frequency f_C (R306, R307). -/

namespace Sys2Proof.Machine

/-- Update Clove's frequency of group g. -/
def modClove (g : GroupId) (f : CloveSpeed → CloveSpeed) (s : State) : State :=
  { s with clove := { s.clove with speed := s.clove.speed.set g (f s.clove.speed[g]) } }

/-- All six positions of a bridge are off. -/
def State.allOff (s : State) (b : BridgeId) : Bool := s.br[b].pos.all fun p => !p.on

/-- A source of f_C applies to a group now (R306): 0 the named Hall triplet, 1 the lowest bridge off, 2 that bridge switching. -/
def State.sourceApplies (s : State) (g : GroupId) (k : Fin 3) : Bool :=
  if k = 0 then decide (s.act 0x8100 (g.val + 1) ≠ 0)
  else match (s.bridgesOf g).head? with
    | none => false
    | some b => if k = 1 then s.allOff b else s.switching b

/-- Four intervals agree within 25 %, and the newest ended within 50 ms (R307). -/
def CloveTrack.good (x : CloveTrack) (now : Nat) : Bool :=
  x.intervals.length == 4 && decide (now < x.lastEdge + 50 * ticksPerMs) &&
    decide (4 * x.intervals.foldl max 0 ≤ 5 * x.intervals.foldl min (x.intervals.headD 0))

/-- f_C of a track in 0.1 Hz: r / (6 Δt) with its sign (R306). -/
def CloveTrack.freq (x : CloveTrack) (ratio : Nat) : Int :=
  match x.intervals with
  | [] => 0
  | d :: _ => if d = 0 then 0 else x.dir * ((ratio * 4000000000 / (6 * d) : Nat) : Int)

/-- A source gives f_C: its intervals agree, or it shows standstill (R307). -/
def CloveTrack.gives (x : CloveTrack) (now : Nat) : Bool := x.still || x.good now

/-- f_C follows the first source that applies and is valid (R306, R307): 0 at its standstill. -/
def settleClove (g : GroupId) (s : State) : State :=
  let c := s.clove.speed[g]
  match (List.finRange 3).find? fun k => s.sourceApplies g k && c.tracks[k].gives s.now with
  | some k =>
    let r := if k = 0 then s.actN 0x8100 (g.val + 5) else 1
    let still := c.tracks[k].still
    modClove g (fun x => { x with freq := if still then 0 else x.tracks[k].freq r, valid := true, standstill := still, source := k.val + 1 }) s
  | none => cloveInvalid g s

/-- Clove counts time in steps of 50 ns (R306): a tick as it counts it. -/
def cloveTick (t : Nat) : Nat := t / 20 * 20

/-- An edge or crossing of a source at a place of the forward sequence (R306). -/
def cloveEdge (g : GroupId) (k : Fin 3) (place t : Nat) (s : State) : State :=
  let x := s.clove.speed[g].tracks[k]
  let d := (place + 6 - x.place % 6) % 6
  let y : CloveTrack := { intervals := if x.lastEdge = 0 then [] else ((cloveTick t - x.lastEdge) :: x.intervals).take 4, lastEdge := cloveTick t,
                          still := false, place := place, dir := if d = 1 then 1 else if d = 5 then -1 else x.dir }
  settleClove g (modClove g (fun c => { c with tracks := c.tracks.set k y }) (setNow t s))

/-- CLOVE_SPEED_TIMEOUT (R307): a named Hall source, otherwise source 2 while it applies, has given no edge for 0x8100.0A and shows standstill; or the
newest interval of the source in use is 50 ms old, and the next valid source supplies f_C, which without one is invalid. -/
def cloveTimeout (g : GroupId) (standstill : Bool) (s : State) : State :=
  let c := s.clove.speed[g]
  if standstill then
    match ([0, 1] : List (Fin 3)).find? (s.sourceApplies g) with
    | some k =>
      settleClove g (modClove g (fun x => { x with tracks := x.tracks.set k { x.tracks[k] with still := true } })
        (setNow (c.tracks[k].lastEdge + s.actN 0x8100 10 * ticksPerMs) s))
    | none => s
  else match c.source with
    | 0 => s
    | k + 1 => settleClove g (setNow ((c.tracks.toList.map (·.lastEdge)).getD k 0 + 50 * ticksPerMs) s)

/-- CLOVE_SPEED_TIMEOUT. -/
def execCloveSpeedTimeout (g : GroupId) (standstill : Bool) (s : State) : Host.Outcome State Fault Refusal := .next (cloveTimeout g standstill s)

end Sys2Proof.Machine
end

