-- ==== Sys2Proof/Machine/Position.lean ====
section
/-! DEFINITION. Position interfaces: supervision, resolvers, encoders, Hall triplets, serial ports, captures; the count E, the speeds and
the source in use (R146 to R166, R169 to R171). -/

namespace Sys2Proof.Machine

/-- A source takes a new sensor angle; whole sensor periods follow the shorter way round, and E of the group that uses it follows. -/
def moveTheta (i : IfId) (theta : Int) (s : State) : State :=
  let old := s.sourceCount i
  let x := s.sense.iface[i]
  let th := ofSigned 16 theta
  let d := toSigned 16 (ofSigned 16 (theta - (x.theta : Int)))
  let dir := s.direction i
  let turns := (dir * (x.theta : Int) + 65536 * x.turns + dir * d - dir * (th : Int)) / 65536
  let s := modIface i (fun y => { y with theta := th, turns := turns }) s
  match s.ifaceGroup i with
  | some g => if s.gr[g].pos.src = ifaceCode i then moveCount g (s.sourceCount i - old) s else s
  | none => s

/-- Level and index of an interface's event, its group first in the payload (R171). -/
def raiseI (code : Nat) (i : IfId) (payload : List Int) (s : State) : State :=
  match s.ifaceGroup i with
  | some g => raiseG code g payload s
  | none => raise4 code payload s

/-- The first event of a kind on an interface in the epoch (R150). -/
def raiseFirstI (code : Nat) (i : IfId) (s : State) : State :=
  match s.ifaceGroup i with
  | some g => raiseFirst code 3 (s.groupIndex g) [(g.val + 1 : Int), (ifaceCode i : Int)] i.val s
  | none => raiseFirst code 4 0 [(ifaceCode i : Int)] i.val s

/-- Bump a counter of an interface (R170). -/
def bumpI (i : IfId) (sub : Nat) : State → State := bump (0xE055 + i.val) sub

/-! The source in use (R157, R164, R165) -/

/-- The source in use of a group has become invalid (R164, R165): the other valid sensor takes over, or the group goes on by the observer
alone with the sensorless window. -/
def sourceLost (g : GroupId) (s : State) : State :=
  let prim := s.actN 0x5000 (g.val + 1)
  let plaus := s.actN 0x5000 (g.val + 5)
  let other := if s.gr[g].pos.src = prim then plaus else prim
  match s.validSource other with
  | some i => switchSource g i s
  | none =>
    beginWindow (sensorlessWindow g) (modGr g (fun x => { x with pos := { x.pos with
      src := 0, provisional := false, row := 0, rowRun := 0, agreeRun := .replicate 2 0 } }) s)

/-- An interface becomes invalid, with E-5001 (R149, R163); an unassigned one is not supervised (R147). -/
def confirmCause (i : IfId) (cause : Nat) (s : State) : State :=
  if !s.sense.iface[i].valid || !s.assigned i then s
  else
    let s := modIface i (fun x => { x with valid := false, cause := cause, good := 0, bad := 0, zBad := 0, track := 0 }) s
    let s := raiseI 0x5001 i [(ifaceCode i : Int), (cause : Int)] (bumpI i 1 s)
    match s.ifaceGroup i with
    | some g => if s.gr[g].pos.src = ifaceCode i then sourceLost g s else s
    | none => s

/-- INTERFACE_CAUSE_CONFIRMED. -/
def execInterfaceCauseConfirmed (i : IfId) (cause : BitVec 4) (s : State) : Host.Outcome State Fault Refusal := .next (confirmCause i cause.toNat s)

/-- An interface becomes valid again, with E-5002 (R149). -/
def ifaceValid (i : IfId) (s : State) : State :=
  if s.sense.iface[i].valid then s
  else raiseI 0x5002 i [(ifaceCode i : Int)] (modIface i (fun x => { x with valid := true, good := 0, bad := 0 }) s)

/-- INTERFACE_VALID_AGAIN. -/
def execInterfaceValidAgain (i : IfId) (s : State) : Host.Outcome State Fault Refusal := .next (ifaceValid i s)

/-- A good check of an interface: 256 in a row make it valid again (R149). -/
def goodCheck (i : IfId) (s : State) : State :=
  let s := modIface i (fun x => { x with good := x.good + 1, bad := 0 }) s
  if !s.sense.iface[i].valid && decide (256 ≤ s.sense.iface[i].good) then ifaceValid i s else s

/-- A bad check of an interface: `need` in a row confirm the cause (R149). -/
def badCheck (i : IfId) (cause need : Nat) (s : State) : State :=
  let s := modIface i (fun x => { x with bad := x.bad + 1, good := 0 }) s
  if need ≤ s.sense.iface[i].bad then confirmCause i cause s else s

/-! Resolvers (R151) -/

/-- RESOLVER_EXCITATION_PEAK (R149, R151): amplitude and tracking checks, and one step of the tracking loop. `sin` and `cos` are in
thousandths of the nominal amplitude (log 61). -/
def resolverPeak (r : Fin 2) (sin cos : Int) (overcurrent : Bool) (s : State) : State :=
  let i : IfId := ⟨r.val, by omega⟩
  if !s.assigned i then s
  else if overcurrent then confirmCause i 3 s
  else
    let x := s.sense.iface[i]
    let o := ifaceObj i
    let f := max 1 (s.actN o 1)
    let sq := sin * sin + cos * cos
    let lowAmp := decide (sq < (10 * s.act o 5) * (10 * s.act o 5))
    let badAmp := lowAmp || decide ((10 * s.act o 6) * (10 * s.act o 6) < sq)
    let rev : Rat := x.speed * (s.sensorPoles i : Rat) / 60 * (s.direction i : Rat)      -- sensor turns per second
    let pred := (x.theta : Int) + (rev * 65536 / (f : Rat)).floor
    let err := if lowAmp then 0 else toSigned 16 (ofSigned 16 (Config.atan2Turn (sin : Rat) (cos : Rat) - pred))
    let fix := if lowAmp then (0, 0) else Config.trackLoop (s.actN o 4) f err
    let badTrack := decide (s.actN o 8 < err.natAbs)
    let s := moveTheta i (pred + fix.1) s
    let s := modIface i (fun y => { y with lastEdge := s.now,
                                           speed := (rev + fix.2 / 65536) * 60 / (s.sensorPoles i : Rat) * (s.direction i : Rat),
                                           track := if badTrack then y.track + 1 else 0 }) s
    let s := onlyIf badAmp (bumpI i 2) (onlyIf badTrack (bumpI i 3) s)
    let s := if badAmp then badCheck i 1 (s.actN o 7) s
      else if badTrack then modIface i (fun y => { y with good := 0, bad := 0 }) s else goodCheck i s
    if 4 ≤ s.sense.iface[i].track then confirmCause i 2 s else s

/-- RESOLVER_EXCITATION_PEAK. -/
def execResolverExcitationPeak (r : Fin 2) (sin cos : Int) (overcurrent : Bool) (s : State) : Host.Outcome State Fault Refusal :=
  .next (onlyIf s.pulseOn (resolverPeak r sin cos overcurrent) s)

/-! Encoders (R152) -/

/-- Place of two lines in the forward quadrature order, A ahead of B (log 64). -/
def quadrature (a b : Bool) : Int := if a then (if b then 2 else 1) else if b then 3 else 0

/-- A Z error (R149, R150): two in a row confirm the cause; the count stays. -/
def zError (i : IfId) (d : Nat) (s : State) : State :=
  let s := bumpI i 3 (modIface i (fun y => { y with zBad := y.zBad + 1, good := 0 }) s)
  let s := raiseI 0x5005 i [(ifaceCode i : Int), (d : Int)] s
  if 2 ≤ s.sense.iface[i].zBad then confirmCause i 6 s else s

/-- A Z edge (R149, R150, R152): the first references the source; a later one is compared with the counts of a turn. E of the group stays at the
first Z, as the flag of R158 does, and only the offset to the other source is taken afresh (log 180). -/
def encoderZ (i : IfId) (s : State) : State :=
  let x := s.sense.iface[i]
  let o := ifaceObj i
  if s.act o 2 ≠ 1 then s
  else if !x.zSeen then
    modIface i (fun y => { y with zSeen := true, referenced := true, counts := 0, prevCounts := y.prevCounts - y.counts, zAt := 0, zBad := 0,
                                  undo := none, turns := 0, theta := 0 })
      (match s.ifaceGroup i with
        | some g => dropOffsets g s
        | none => s)
  else
    let d := (x.counts - x.zAt).natAbs
    let s := modIface i (fun y => { y with zAt := y.counts }) s
    if ((d : Int) - 4 * s.act o 1).natAbs ≤ s.actN o 3 then modIface i (fun y => { y with zBad := 0 }) s else zError i d s

/-- An illegal transition (R149): four within 1 ms confirm the cause. -/
def encoderIllegal (i : IfId) (t : Nat) (s : State) : State :=
  let keep := (t :: s.sense.iface[i].illegal).filter fun u => decide (t < u + ticksPerMs)
  let s := bumpI i 2 (modIface i (fun x => { x with illegal := keep, good := 0 }) s)
  if 4 ≤ keep.length then confirmCause i 5 s else s

/-- Angle of an encoder from its count. -/
def encoderTheta (counts lines : Int) : Int := if lines ≤ 0 then 0 else counts % (4 * lines) * 65536 / (4 * lines)

/-- Lines of an encoder and its count take values; its angle and E follow. -/
def setCounts (i : IfId) (a b : Bool) (edge : Nat) (c : Int) (s : State) : State :=
  moveTheta i (encoderTheta c (s.act (ifaceObj i) 1)) (modIface i (fun y => { y with lastA := a, lastB := b, lastEdge := edge, counts := c }) s)

/-- A change of A or B (R149, R152). The glitch filter takes back a change that reverts within its time (log 146); an illegal transition leaves
the count (log 147). -/
def encoderStep (i : IfId) (a b : Bool) (t : Nat) (s : State) : State :=
  let x := s.sense.iface[i]
  let lines := s.act (ifaceObj i) 1
  let d := (quadrature a b - quadrature x.lastA x.lastB) % 4
  let glitch : Bool := match x.undo with
    | some u => u.1 == a && u.2.1 == b && decide (t < x.lastEdge + ticksOfNs (s.actN (ifaceObj i) 4))
    | none => false
  if d = 0 then s
  else if glitch then
    match x.undo with
    | some u => setCounts i a b u.2.2.1 u.2.2.2 (modIface i (fun y => { y with
        undo := none, illegal := y.illegal.filter fun v => decide (v ≠ x.lastEdge) }) s)
    | none => s
  else
    let s := modIface i (fun y => { y with undo := some (x.lastA, x.lastB, x.lastEdge, x.counts) }) s
    if d = 2 || decide (t < x.lastEdge + 20) then
      encoderIllegal i t (modIface i (fun y => { y with lastA := a, lastB := b, lastEdge := t }) s)
    else
      let c := x.counts + (if d = 1 then 1 else -1)
      let s := goodCheck i (setCounts i a b t c s)
      if s.act (ifaceObj i) 2 = 1 && decide (6 * lines < (c - x.zAt).natAbs) then
        zError i (c - x.zAt).natAbs (modIface i (fun y => { y with zAt := c }) s)
      else s

/-- ENCODER_EDGE (R149, R152). -/
def encoderEdge (e : Fin 2) (a b z : Bool) (t : Nat) (s : State) : State :=
  let i : IfId := ⟨e.val + 2, by omega⟩
  if !s.assigned i then s
  else
    let s := encoderStep i a b t (setNow t s)
    if z then encoderZ i s else s

/-- ENCODER_EDGE. -/
def execEncoderEdge (e : Fin 2) (a b z : Bool) (t : Nat) (s : State) : Host.Outcome State Fault Refusal := .next (onlyIf s.pulseOn (encoderEdge e a b z t) s)

/-! Hall triplets (R153) -/

/-- An impossible code that stands longer than 0x5014.03 is counted once (R149): three within one electrical period confirm the cause. -/
def hallHeld (i : IfId) (t : Nat) (s : State) : State :=
  let x := s.sense.iface[i]
  if x.badSince = 0 || x.heldSeen || decide (t ≤ x.badSince + s.actN (ifaceObj i) 3 * ticksPerUs) then s
  else
    let keep := (t :: x.impossible).filter fun u => decide (t ≤ u + x.hallPeriod)
    let s := modIface i (fun y => { y with impossible := keep, heldSeen := true, good := 0 }) s
    if 3 ≤ keep.length then confirmCause i 7 s else s

/-- A change to a valid code: successor, predecessor or skip (R149, R150, R153); the first code only gives the angle. -/
def hallStep (i : IfId) (code t : Nat) (s : State) : State :=
  let x := s.sense.iface[i]
  let n := hallPlace code
  let d := (n + 6 - hallPlace x.code % 6) % 6
  if hallPlace x.code = 6 then
    goodCheck i (modIface i (fun y => { y with code := code, theta := ofSigned 16 (hallEntry n), lastEdge := t }) s)
  else if d = 0 then s
  else
    let skip := d != 1 && d != 5
    let back := d == 5
    let dir : Int := if skip then x.hallDir else if back then -1 else 1
    let entry := hallEntry n + (if back then hallSector else 0 : Nat)
    let dt := t - x.lastEdge
    let rpm : Rat := if dt = 0 then 0 else 60 * 400000000 / (6 * (s.sensorPoles i : Rat) * (dt : Rat)) * (dir : Rat) * (s.direction i : Rat)
    let s := moveTheta i entry s
    let s := modIface i (fun y => { y with code := code, hallDir := dir, prevEdge := y.lastEdge, lastEdge := t, speed := rpm }) s
    if !skip then goodCheck i s
    else
      let keep := (t :: x.missPeriod).filter fun u => decide (t ≤ u + x.hallPeriod)
      let s := raiseFirstI 0x5004 i (bumpI i 3 (modIface i (fun y => { y with missPeriod := keep, good := 0 }) s))
      if 2 ≤ keep.length then confirmCause i 8 s else s

/-- A code of a Hall triplet has passed the filter at tick t (R149, R150, R153). -/
def hallTake (i : IfId) (c t : Nat) (s : State) : State :=
  let s := hallHeld i t s
  if c = 0 ∨ c = 7 then
    raiseFirstI 0x5003 i (bumpI i 2 (modIface i (fun x => { x with badSince := if x.badSince = 0 then max 1 t else x.badSince }) s))
  else hallStep i c t (modIface i (fun x => { x with badSince := 0, heldSeen := false }) s)

/-- Filter of a Hall triplet, ticks (R153). -/
def State.hallFilter (s : State) (i : IfId) : Nat := s.actN (ifaceObj i) 2 * ticksPerUs

/-- A code that has stood in the filter for its time by tick t is taken, at the tick at which it passed (R153; log 182). -/
def hallSettle (i : IfId) (t : Nat) (s : State) : State :=
  match s.sense.iface[i].waiting with
  | none => s
  | some (c, since) =>
    if t < since + s.hallFilter i then s else hallTake i c (since + s.hallFilter i) (modIface i (fun x => { x with waiting := none }) s)

/-- A code is the one already taken: a valid one, or one of the two impossible ones. -/
def Iface.holds (x : Iface) (c : Nat) : Bool := if x.badSince = 0 then x.code == c else c == 0 || c == 7

/-- A new code enters the filter (R153): one that returns to the code already taken was a glitch. -/
def hallEnter (i : IfId) (c t : Nat) (s : State) : State :=
  let s := hallSettle i t s
  if s.hallFilter i = 0 then hallTake i c t s
  else modIface i (fun x => { x with waiting := if x.holds c then none else some (c, t) }) s

/-- HALL_CODE_CHANGE (R149, R150, R153); Clove counts a triplet it names whatever its assignment, ahead of
the filter (R148, R306). -/
def hallChange (h : Fin 2) (code : BitVec 3) (t : Nat) (s : State) : State :=
  let i : IfId := ⟨h.val + 4, by omega⟩
  let s := if hallPlace code.toNat < 6 then
      forGr (allGr.filter fun g => s.actN 0x8100 (g.val + 1) == ifaceCode i) (fun g a =>
        if a.clove.speed[g].tracks[0].lastEdge ≠ 0 ∧ a.clove.speed[g].tracks[0].place = hallPlace code.toNat then a
        else cloveEdge g 0 (hallPlace code.toNat) t a) s
    else s
  if !s.assigned i || !s.pulseOn then s else hallEnter i code.toNat t (setNow t s)

/-- HALL_CODE_CHANGE. -/
def execHallCodeChange (h : Fin 2) (code : BitVec 3) (t : Nat) (s : State) : Host.Outcome State Fault Refusal := .next (hallChange h code t s)

/-! Synchronous serial ports (R154, R155) -/

/-- A frame error (R149): three in a row confirm the cause. -/
def frameError (i : IfId) (s : State) : State := badCheck i 9 3 (bumpI i 2 s)

/-- SSP_FRAME_REQUEST (R154, R155): a request before the previous frame and the monoflop time have ended is skipped. -/
def sspRequest (p : Fin 2) (idleLow : Bool) (t : Nat) (s : State) : State :=
  let i : IfId := ⟨p.val + 6, by omega⟩
  if !s.assigned i then s
  else
    let s := setNow t s
    if t < s.sense.iface[i].busyUntil then bumpI i 3 s
    else
      let o := ifaceObj i
      let clk := 400000 / max 1 (s.actN o 1)
      let s := modIface i (fun x => { x with latchAt := t + clk / 2 + ticksOfNs (s.actN o 0x0B),
                                             busyUntil := t + (s.actN o 2 + 1) * clk + s.actN o 7 * ticksPerUs, idleLow := idleLow }) s
      onlyIf idleLow (frameError i) s

/-- SSP_FRAME_REQUEST. -/
def execSspFrameRequest (p : Fin 2) (idleLow : Bool) (t : Nat) (s : State) : Host.Outcome State Fault Refusal := .next (onlyIf s.pulseOn (sspRequest p idleLow t) s)

/-- Binary value of a Gray code of n bits (R154). -/
def grayToBinary (n v : Nat) : Nat := (List.range n).foldl (fun acc k => Nat.xor acc (v / 2 ^ k)) 0 % 2 ^ n

/-- The multi-turn and single-turn fields of a frame (R154). -/
def State.sspFields (s : State) (i : IfId) (frame : Nat) : Nat × Nat :=
  let o := ifaceObj i
  let n := s.actN o 3 + s.actN o 4
  let v := frame / 2 ^ (s.actN o 2 - n) % 2 ^ n
  let v := if s.act o 5 = 1 then grayToBinary n v else v
  (v / 2 ^ s.actN o 3, v % 2 ^ s.actN o 3)

/-- The first frame of an SSP that a group uses: it gives E of a multi-turn source, and judges what a wake has restored (R158, R159). -/
def firstPosition (i : IfId) (multi : Bool) (s : State) : State :=
  match s.ifaceGroup i with
  | none => s
  | some g => match s.gr[g].pos.unjudged with
    | some (e, flag) => judgeRetained g e flag (multi && s.actN 0x5000 (g.val + 1) == ifaceCode i) (some (s.sourceCount i)) s
    | none => if multi && s.gr[g].pos.src == ifaceCode i then dropOffsets g (moveCount g (s.sourceCount i - s.gr[g].pos.count) s) else s

/-- SSP_FRAME_COMPLETE (R149, R155, R160, R162); the frame whose request found the line low is an error already. -/
def sspComplete (p : Fin 2) (frame second : Nat) (t : Nat) (s : State) : State :=
  let i : IfId := ⟨p.val + 6, by omega⟩
  if !s.assigned i then s
  else
    let s := setNow t s
    let x := s.sense.iface[i]
    let o := ifaceObj i
    let f := s.sspFields i frame
    let single := f.2 * 65536 / 2 ^ s.actN o 3
    let d := toSigned 16 (ofSigned 16 ((single : Int) - (x.theta : Int)))
    let dt := x.latchAt - x.frameAt
    let top := match s.ifaceGroup i with
      | some g => Config.maxSpeed g.val
      | none => 0
    let seen := x.frameAt != 0
    let bad := (s.act o 6 != 0xFF && bitAt (s.actN o 6) frame) || (s.act o 8 == 1 && frame != second) ||
      (seen && decide ((3 * top * 65536 * dt : Nat) < (2 * 60 * ticksPerS * d.natAbs : Nat)))
    if x.idleLow then modIface i (fun y => { y with idleLow := false }) s
    else if bad then frameError i s
    else
      let rpm : Rat := if !seen || dt = 0 then x.speed else (d : Rat) * 60 * 400000000 / 65536 / (dt : Rat) * (s.direction i : Rat)
      let s := moveTheta i (single : Int) s
      let s := if s.actN o 4 = 0 then s else modIface i (fun y => { y with turns := s.direction i * (f.1 : Int) }) s
      let s := if s.actN o 4 = 0 then s else match s.ifaceGroup i with
        | some g =>
          onlyIf (decide (s.gr[g].pos.src = ifaceCode i)) (modGr g (fun x => { x with pos := { x.pos with referenced := true } })) s
        | none => s
      let s := onlyIf (!seen) (firstPosition i (s.actN o 4 != 0)) s
      let s := modIface i (fun y => { y with speed := rpm, frameAt := max 1 x.latchAt,
                                             referenced := decide (s.actN o 4 ≠ 0) }) s
      goodCheck i s

/-- SSP_FRAME_COMPLETE. -/
def execSspFrameComplete (p : Fin 2) (frame second : Nat) (t : Nat) (s : State) : Host.Outcome State Fault Refusal :=
  .next (onlyIf s.pulseOn (sspComplete p frame second t) s)

/-! Latching and speeds (R160, R162) -/

/-- The source has an angle (R152): an encoder only once referenced. -/
def State.hasAngle (s : State) (i : IfId) : Bool := !isEncoder i || s.sense.iface[i].referenced

/-- A speed limited to one count or sector in the time since the last edge (R162). -/
def Iface.cappedSpeed (x : Iface) (perTurn : Rat) (t : Nat) : Rat :=
  let m := 60 * 400000000 / perTurn / (max 1 (t - x.lastEdge) : Nat)
  if m < abs x.speed then (if x.speed < 0 then -m else m) else x.speed

/-- An encoder or Hall speed at a latch (R162): between the last edges of the two latches, or limited where no edge came between them. A Hall
code that is impossible is judged too (R149). -/
def latchSpeed (i : IfId) (t : Nat) (s : State) : State :=
  let s := onlyIf (isHall i) (hallSettle i t) s
  let x := s.sense.iface[i]
  if isEncoder i then
    let n : Rat := 4 * s.actR (ifaceObj i) 1
    let dt := x.lastEdge - x.prevEdge
    let v : Rat := if n = 0 ∨ x.prevEdge = 0 then x.speed
      else if x.prevEdge < x.lastEdge then ((x.counts - x.prevCounts : Int) : Rat) * 60 * 400000000 / n / (dt : Rat) * (s.direction i : Rat)
      else x.cappedSpeed n t
    modIface i (fun y => { y with speed := v, prevEdge := y.lastEdge, prevCounts := y.counts }) s
  else if isHall i then
    let v : Rat := if x.latchAt < x.lastEdge then x.speed else x.cappedSpeed (6 * (s.sensorPoles i : Rat)) t
    hallHeld i t (modIface i (fun y => { y with speed := v, latchAt := t }) s)
  else s

/-- The group speed takes the speed of a source at tick t through its first-order filter (R162), from its value before the latch. -/
def groupSpeed (g : GroupId) (v : Rat) (t : Nat) (s : State) : State :=
  let tau : Rat := s.actR 0x5032 (g.val + 1) * 400
  modGr g (fun x =>
    let dt : Rat := ((t - x.pos.before.2 : Nat) : Rat)
    let k : Rat := if tau ≤ 0 then 1 else 1 - Config.exp (-(dt / tau))
    { x with pos := { x.pos with speed := x.pos.before.1 + k * (v - x.pos.before.1), stampAt := t } }) s

/-- A start of a group has found the angle that its source does not reference in the turn (R242, R243): the observer carries it
(log 160). -/
def State.angleFound (s : State) (g : GroupId) : Bool := !s.turnReferenced g && (s.bridgesOf g).any fun b => s.br[b].start.found

/-- The source that gives a group's angle while `i` is in use (R152): itself, or the other valid one that has an angle. -/
def State.angleSource (s : State) (g : GroupId) (i : IfId) : Option IfId :=
  ([some i, s.validSource (s.actN 0x5000 (g.val + 1)), s.validSource (s.actN 0x5000 (g.val + 5))].filterMap id).find? s.hasAngle

/-- Electrical angle of the observer extrapolated to tick t at its own speed (R160). -/
def State.observerAngle (s : State) (g : GroupId) (t : Nat) : Int :=
  (s.gr[g].obs.angle : Int) + countsOver s.gr[g].obs.speed (s.machinePoles g) s.gr[g].obs.stamp t

/-- The step stamp of a group at a sample instant (R22, R160): every assigned source is latched, and the group's count, angle and speed are those
of its source in use; without one, those of the observer, whose speed then moves E (log 145). -/
def latchGroup (g : GroupId) (t : Nat) (s : State) : State :=
  let mine := (List.finRange 8).filter fun i => s.ifaceGroup i == some g
  let s := mine.foldl (fun a i => latchSpeed i t a) s
  let last := s.gr[g].pos.stampAt
  let s := modGr g (fun x => { x with pos := { x.pos with before := (x.pos.speed, last) } }) s
  match s.validSource s.gr[g].pos.src with
  | some i =>
    let th := match s.angleSource g i with
      | some j => if s.angleFound g then s.observerAngle g t else s.opinionAngle j g t
      | none => s.observerAngle g t
    let s := groupSpeed g s.sense.iface[i].speed t s
    modGr g (fun x => { x with pos := { x.pos with thetaE := ofSigned 16 th, stampE := x.pos.count + s.sourceAdvance i t } }) s
  | none =>
    let th := s.observerAngle g t
    let s := moveCount g (countsOver s.gr[g].obs.speed 1 last t) (groupSpeed g s.gr[g].obs.speed t s)
    modGr g (fun x => { x with pos := { x.pos with thetaE := ofSigned 16 th, stampE := x.pos.count } }) s

/-- SPEED_STANDSTILL_TIMEOUT (R162): an encoder or Hall speed becomes zero; a Hall angle stays where it stands (R153). -/
def speedZero (i : IfId) (s : State) : State :=
  if !isEncoder i && !isHall i then s
  else
    let s := setNow (s.sense.iface[i].lastEdge + s.actN 0x5032 5 * ticksPerMs) (onlyIf (isHall i) (hallSettle i s.now) s)
    modIface i (fun x => { x with speed := 0 }) (onlyIf (isHall i) (moveTheta i (s.sensorAngle i s.now)) s)

/-- SPEED_STANDSTILL_TIMEOUT. -/
def execSpeedStandstillTimeout (i : IfId) (s : State) : Host.Outcome State Fault Refusal := .next (onlyIf s.pulseOn (speedZero i) s)

/-! Captures (R161) -/

/-- The E-5020 of the last capture still stands in Q10. -/
def State.captureHeld (s : State) (c : Fin 2) : Bool :=
  s.sense.capture[c].outstanding.any fun serial => s.io.out[10].entries.any fun e => match e with
    | .event v => v.code == 0x5020 && v.serial == serial
    | _ => false

/-- CAPTURE_EDGE (R161). -/
def captureEdge (c : Fin 2) (rising : Bool) (t : Nat) (s : State) : State :=
  let mode := s.actN 0x5050 (c.val + 1)
  match groupOperand (s.actN 0x5050 (c.val + 3)) with
  | none => s
  | some g =>
    if !(if rising then mode == 1 || mode == 3 else mode == 2 || mode == 3) then s
    else
      let s := setNow t s
      if s.captureHeld c then
        raiseFirst 0x5021 3 (s.groupIndex g) [(g.val + 1 : Int), (c.val + 1 : Int)] c.val (bump (0xE051 + g.val) 5 s)
      else
        let e := s.gr[g].pos.stampE + countsOver s.gr[g].pos.speed 1 s.gr[g].pos.stampAt t
        let st := s.stamp t
        let serial := s.io.eventSerial
        let s := { s with sense := { s.sense with capture := s.sense.capture.set c { last := toSigned 32 (ofSigned 32 e), outstanding := some serial } } }
        raiseG 0x5020 g [(c.val + 1 : Int), e, (st.sec : Int), ((st.ns + 2 ^ 32 * st.frac : Nat) : Int)] (bump (0xE051 + g.val) 4 s)

/-- CAPTURE_EDGE. -/
def execCaptureEdge (c : Fin 2) (rising : Bool) (t : Nat) (s : State) : Host.Outcome State Fault Refusal := .next (onlyIf s.pulseOn (captureEdge c rising t) s)

end Sys2Proof.Machine
end

