-- ==== Sys2Proof/Machine/Measure.lean ====
section
/-! DEFINITION. The measurement front end: conversions, shunt windows, offsets, leg voltages, zero crossings (R115 to R120, R123 to R126,
R132 to R134, R137 to R139). Leg voltages and amplitudes of these rows are in 0.1 V, offsets in mA. -/

namespace Sys2Proof.Machine

/-- Update the measured values of bridge b. -/
def modMeas (b : BridgeId) (f : Meas → Meas) : State → State := modBr b fun x => { x with meas := f x.meas }

/-- The phase whose sensor a bridge's arrangement leaves out (R121), none for arrangement 0x00. -/
def State.unusedPhase (s : State) (b : BridgeId) : Option (Fin 3) :=
  let a := s.actN 0x4014 (b.val + 1)
  if h : 1 ≤ a ∧ a ≤ 3 then some ⟨a - 1, by omega⟩ else none

/-- Input numbers of the DC-link shunt and voltage. -/
def shuntInput : Fin 84 := 0x0C
def udcInput : Fin 84 := 0x0D

/-- The code an injection forces on a converter: full scale until the input is invalid (R493). -/
def State.forcedCode (s : State) (ch : Fin 14) (code : BitVec 16) : BitVec 16 :=
  if s.injects (0x0700 + ch.val + 1) then 0x7FFF else code

/-- An injection into a converter ends when its input is invalid. -/
def endForced (ch : Fin 14) (n : Fin 84) (s : State) : State :=
  if s.injects (0x0700 + ch.val + 1) && !s.sense.inputs[n].valid then injected (0x0700 + ch.val + 1) s else s

/-! The winding discharge (R259, R309) -/

/-- The active vector, 0 to 5 at 60° each, that the discharge pattern of a bridge uses at its n-th application (R309): the nearest to the angle in the
bridge's frame; within 15° of a midpoint the two beside it in turn. -/
def chopVector (angle : Int) (n : Nat) : Nat :=
  let x := 6 * ofSigned 16 angle
  let k := x / 65536
  let r := x % 65536
  if 16384 ≤ r ∧ r ≤ 49152 then (k + n % 2) % 6 else (x + 32768) / 65536 % 6

/-- A leg is high in an active vector: U, UV, V, VW, W, WU from 0° on. -/
def vectorHigh (v : Nat) (k : Fin 3) : Bool := v == 2 * k.val || v == (2 * k.val + 1) % 6 || v == (2 * k.val + 5) % 6

/-- The pattern of a bridge is commanded on the force lane (R309), through all-off for the ASC delay 0x2040.02. -/
def applyChop (angle : Int) (b : BridgeId) (s : State) : State :=
  let v := chopVector (angle + s.act 0x6005 (b.val + 1)) s.cont.chops
  phases.foldl (fun a k =>
    let p := posOf b (slotOf k (vectorHigh v k))
    turnOn p (a.now + ticksOfNs (a.actN 0x2040 2)) (modPos p (fun x => { x with driveEnable := true }) a)) s

/-- The hysteresis of a winding discharge on I_C, 0x7130.04 ± 10 % (R309; log 164): only while the drive is in DISCHARGE. -/
def settleChop (s : State) : State :=
  match s.cont.vector, s.cont.group with
  | some (m, angle), some g =>
    let i := abs s.drive.shunt
    if s.drive.state ≠ .discharge then s
    else if s.cont.chop then (if 11 / 10 * m < i then stopChop s else s)
    else if i < 9 / 10 * m then
      forBr ((s.bridgesOf g).filter fun b => !s.inAsc b) (applyChop angle) { s with cont := { s.cont with chop := true, chops := s.cont.chops + 1 } }
    else s
  | _, _ => s

/-- FAST_CONVERSION_COMPLETE (R118, R137 to R140): the sample is scaled, filtered, checked and becomes available; an absent shunt reads 0 (log 178). A DC link whose
input is invalid takes the substitute of its record; what Clove's own path reads is a free value (R139; log 68). -/
def fastConversion (ch : Fin 14) (code : BitVec 16) (t : Nat) (s : State) : State :=
  let s := setNow t s
  let code := s.forcedCode ch code
  if h : ch.val < 12 then
    let l : LegId := ⟨ch.val, h⟩
    let b := brOfLeg l
    let k := phaseOfLeg l
    if s.unusedPhase b = some k then s
    else
      let v := s.sifted (piInput b k) (s.piAmps l code)
      let s := modMeas b (fun m => { m with pi := m.pi.set k v, piFresh := m.piFresh.set k true }) s
      endForced ch (piInput b k) (checkInputs [(piInput b k, v)] s)
  else if ch.val = 12 then
    let v := s.sifted shuntInput (s.shuntAmps code)
    let s := checkInputs [(shuntInput, v)] s
    let s := { s with drive := { s.drive with shunt := (s.inputUse shuntInput none).getD 0, shuntAt := t } }
    endForced ch shuntInput (settleChop s)
  else
    let v := s.sifted udcInput (udcVolts code)
    let s := checkInputs [(udcInput, v)] s
    let s := match s.inputUse udcInput (some (Config.cloveUdc s.freeCount)) with
      | some u => noteUdc u s
      | none => s
    endForced ch udcInput (onlyIf (!s.sense.inputs[udcInput].valid) drew s)

/-- FAST_CONVERSION_COMPLETE. -/
def execFastConversionComplete (ch : Fin 14) (code : BitVec 16) (t : Nat) (s : State) : Host.Outcome State Fault Refusal :=
  .next (onlyIf s.pulseOn (fastConversion ch code t) s)

/-- A converter is triggered at tick t (R116, R117): it converts for 40 ticks; a trigger that finds it converting is delayed, and counted. The
aperture is the second result. -/
def trigger (ch : Fin 14) (t : Nat) (s : State) : State × Nat :=
  let free := s.sense.convFree[ch]
  let at0 := max t free
  let s := { s with sense := { s.sense with convFree := s.sense.convFree.set ch (at0 + 40) } }
  (if t < free then bump 0xE040 1 s else s, at0)

/-- A sample-instant trigger of a converter at tick t; its aperture is kept (R116). -/
def triggerNow (ch : Fin 14) (t : Nat) (s : State) : State :=
  let r := trigger ch t s
  { r.1 with sense := { r.1.sense with aperture := r.1.sense.aperture.set ch r.2 } }

/-- Shunt-window conversions that wait for the shunt converter at tick t, in order (R117). -/
def State.waitingWindows (s : State) (t : Nat) : List (Fin 4 × Fin 3 × Nat) := s.sense.windows.filter fun w => decide (t < w.2.2)

/-- The sample-instant trigger of the shunt converter at tick t (R117): it is served before the window conversions that wait, which keep
their order 40 ticks later. -/
def triggerShunt (t : Nat) (s : State) : State :=
  match s.waitingWindows t with
  | [] => triggerNow 12 t s
  | w :: more =>
    let later := (w :: more).map fun x => (x.1, x.2.1, x.2.2 + 40)
    let s := (triggerNow 12 t s)
    let s := { s with sense := { s.sense with windows := later, aperture := s.sense.aperture.set 12 w.2.2 } }
    later.foldl (fun a x => modMeas x.1 (fun m => { m with shuntAt := m.shuntAt.set x.2.1 x.2.2 }) a) s

/-- SHUNT_WINDOW_SAMPLE (R117, R118, R123, R125, R137, R139): a conversion triggered at the tick placed for it is checked, and its value in
use is kept; at another tick there is no trigger (log 129). -/
def shuntWindow' (b : BridgeId) (k : Fin 3) (code : BitVec 16) (t : Nat) (s : State) : State :=
  if !s.br[b].meas.plan.any (fun p => p[k] == t) then s
  else
    let s := setNow t s
    let (s, at0) := trigger 12 t { s with sense := { s.sense with windows := s.waitingWindows t } }
    let s := if t < at0 then { s with sense := { s.sense with windows := s.sense.windows ++ [(b, k, at0)] } } else s
    let s := checkInputs [(shuntInput, s.sifted shuntInput (s.shuntAmps code))] s
    modMeas b (fun m => { m with shunt := m.shunt.set k (s.inputUse shuntInput none), shuntAt := m.shuntAt.set k at0 }) s

/-- SHUNT_WINDOW_SAMPLE. -/
def execShuntWindowSample (b : BridgeId) (k : Fin 3) (code : BitVec 16) (t : Nat) (s : State) : Host.Outcome State Fault Refusal :=
  .next (onlyIf s.pulseOn (shuntWindow' b k code t) s)

/-! Offsets (R120) -/

/-- A leg's offset measurement fails: a back-EMF, or an offset outside the limit (R120). -/
def State.offsetFails (s : State) (offset : Int) (bemf : Nat) : Bool :=
  decide (s.actN 0x4030 1 ≤ bemf) || decide (s.act 0x4015 1 < offset.natAbs)

/-- The offsets of one bridge are stored, or each leg concerned raises E-400C. -/
def storeOffsets (pi : Vector Int 12) (bemf : Vector Nat 12) (b : BridgeId) (s : State) : State :=
  let bad := phases.filter fun k => s.offsetFails pi[legOf b k] bemf[legOf b k]
  if bad.isEmpty then
    { s with sense := { s.sense with piOffset := phases.foldl (fun v k => v.set (legOf b k) pi[legOf b k]) s.sense.piOffset } }
  else bad.foldl (fun a k => raise 0x400C 2 ((legOf b k).val + 1) [((legOf b k).val + 1 : Int)] a) s

/-- OFFSET_MEASUREMENT_DONE (R120): the measurement that an entry into ARMED began, of the bridges whose positions are off; the shunt's
needs every position of the drive off. -/
def offsetsDone (pi : Vector Int 12) (bemf : Vector Nat 12) (shunt : Int) (s : State) : State :=
  if !s.sense.offsetRun then s
  else
    let s := { s with sense := { s.sense with offsetRun := false } }
    let off := allBr.all s.allOff
    let s := forBr (allBr.filter s.allOff) (storeOffsets pi bemf) s
    if !off then s
    else if bemf.all (fun e => decide (e < s.actN 0x4030 1)) && decide (shunt.natAbs ≤ s.act 0x4015 1) then
      { s with sense := { s.sense with shuntOffset := shunt } }
    else raise4 0x400C [0] s

/-- OFFSET_MEASUREMENT_DONE. -/
def execOffsetMeasurementDone (pi : Vector Int 12) (bemf : Vector Nat 12) (shunt : Int) (s : State) : Host.Outcome State Fault Refusal :=
  .next (onlyIf s.pulseOn (offsetsDone pi bemf shunt) s)

/-! Leg voltages (R133, R134, R252) -/

/-- The clamp flag of an off bridge (R133): set with E-4009 while a leg lies within the margin of a rail for a period; the clamp condition of
R252 is timed from it. -/
def settleClamp (b : BridgeId) (s : State) : State :=
  let clamps := s.allOff b && s.br[b].legs.any fun l => l.clampSide != 0
  let was := s.br[b].bemf.clampFlag
  let s := modBr b (fun x => { x with bemf := { x.bemf with clampFlag := clamps },
                                      force := { x.force with clampAt := if clamps then some (x.force.clampAt.getD s.now) else none } }) s
  onlyIf (clamps && !was) (raiseB 0x4009 b []) s

/-- Amplitude of a phase voltage, 0.1 V (R132): the phase's leg voltage against the mean of the three at the extreme before a crossing. -/
def phaseAmp (legs : Vector Nat 3) (k : Fin 3) : Nat := ((3 * legs[k] : Int) - (legs[0] + legs[1] + legs[2] : Nat)).natAbs / 3

/-- A phase voltage of an off bridge has reached the minimum amplitude (R132, R238): from the means of the last period of its three legs (log 190). -/
def State.seesVoltage (s : State) (b : BridgeId) : Bool :=
  match (s.br[b].legs[0]).volts, (s.br[b].legs[1]).volts, (s.br[b].legs[2]).volts with
  | some u, some v, some w => phases.any fun k => decide (s.actN 0x4030 1 ≤ phaseAmp #v[u, v, w] k)
  | _, _, _ => false

/-- LEG_VOLTAGE_PERIOD (R133, R134): the period result is checked, and its value in use kept for a period that a set has
driven; `lo` and `hi` are the extremes of the period. -/
def legVoltage (l : LegId) (mean lo hi : Nat) (s : State) : State :=
  let b := brOfLeg l
  let s := checkInputs [(lvInput l, s.sifted (lvInput l) ((mean : Rat) / 10))] s
  let u := 10 * s.drive.udc
  let m := u * s.actR 0x4030 3 / 100
  let side := if !s.allOff b then 0 else if (hi : Rat) ≤ m then 1 else if u - m ≤ (lo : Rat) then 2 else 0
  let use := s.inputUse (lvInput l) none
  let off := s.allOff b
  let s := modLeg l (fun x => { x with mean := if x.meanCmd.isSome then use else none, clampSide := side, volts := if off then some mean else none }) s
  let s := onlyIf (s.seesVoltage b) (modBr b fun x => { x with bemf := { x.bemf with reached := true } }) s
  settleClamp b s

/-- LEG_VOLTAGE_PERIOD. -/
def execLegVoltagePeriod (l : LegId) (mean lo hi : Nat) (s : State) : Host.Outcome State Fault Refusal := .next (onlyIf s.pulseOn (legVoltage l mean lo hi) s)

/-! Zero crossings (R132, R238, R306) -/

/-- Place of a crossing in the forward sequence: U rising, W falling, V rising, U falling, W rising, V falling. -/
def crossingPlace (phase : Nat) (rising : Bool) : Nat :=
  if rising then (if phase = 0 then 0 else if phase = 1 then 2 else 4) else (if phase = 0 then 3 else if phase = 1 then 5 else 1)

/-- Frequency in mHz and sign from the last six crossings, newest first (R132). -/
def crossingFreq (l : List (Nat × Nat × Bool)) : Option Int :=
  match l with
  | [c0, c1, _, _, _, c5] =>
    let d := (crossingPlace c0.2.1 c0.2.2 + 6 - crossingPlace c1.2.1 c1.2.2) % 6
    let dt := c0.1 - c5.1
    if dt = 0 then none
    else some ((if d = 5 then -1 else 1) * ((5 * 400000000 * 1000 / (6 * dt) : Nat) : Int))
  | _ => none

/-- Angle of phase U at a crossing, 1/65,536 turn: 0 where phase U rises, half a turn more in reverse (R132; log 157). -/
def crossingAngle (place : Nat) (reverse : Bool) : Nat := (place * 65536 / 6 + if reverse then 32768 else 0) % 65536

/-- A phase voltage passes through 0 V with the hysteresis (R132): it has swung that far, and passes the other way than at its last passage. -/
def State.passes (s : State) (b : BridgeId) (phase : Fin 3) (rising : Bool) (amp : Nat) : Bool :=
  decide (s.actN 0x4030 2 ≤ amp) && s.br[b].bemf.last[phase] != some rising

/-- The results of a crossing on an off bridge (R132); the amplitude is the one measured at it (log 179). -/
def noteCrossing (b : BridgeId) (phase : Fin 3) (rising : Bool) (amp t : Nat) (s : State) : State :=
  let place := crossingPlace phase.val rising
  let l := ((t, phase.val, rising) :: s.br[b].bemf.crossings).take 6
  let f := crossingFreq l
  bump (0xE041 + b.val) 9 (modBr b (fun x => { x with bemf := { x.bemf with
    crossings := l, seen := x.bemf.seen + 1, reached := true, standstill := false, amp := amp, freq := f.getD x.bemf.freq,
    angle := crossingAngle place (decide (f.getD x.bemf.freq < 0)) } }) s)

/-- ZERO_CROSSING (R132, R133, R238, R306): `legs` are the leg voltages at the phase's extreme before it. On an off bridge frequency,
amplitude and angle are updated, and the ninth crossing of a listen phase ends it once the minimum has passed; Clove takes a crossing of the
group's lowest bridge, off or switching. -/
def zeroCrossing (b : BridgeId) (phase : Fin 3) (rising : Bool) (legs : Vector Nat 3) (t : Nat) (s : State) : State :=
  let s := setNow t s
  let amp := phaseAmp legs phase
  let place := crossingPlace phase.val rising
  let off := s.allOff b
  let s := match s.groupOf b with
    | some g =>
      if (s.bridgesOf g).head? ≠ some b then s
      else if off then (if s.actN 0x8100 9 ≤ amp then cloveEdge g 1 place t s else s)
      else if s.switching b then cloveEdge g 2 place t s else s
    | none => s
  if !off || s.br[b].bemf.clampFlag || !s.passes b phase rising amp then s
  else
    let s := modBr b (fun x => { x with bemf := { x.bemf with last := x.bemf.last.set phase (some rising) } }) s
    if amp < s.actN 0x4030 1 then s
    else
    let s := noteCrossing b phase rising amp t s
    match s.groupOf b with
    | some g =>
      if (s.listening g).head? == some b && decide (9 ≤ s.br[b].bemf.seen) &&
          decide (s.gr[g].listenSince + s.actN 0x7100 1 * ticksPerUs ≤ s.now) then listenOutcome g 2 s
      else s
    | none => s

/-- ZERO_CROSSING. -/
def execZeroCrossing (b : BridgeId) (phase : Fin 3) (rising : Bool) (legs : Vector Nat 3) (t : Nat) (s : State) :
    Host.Outcome State Fault Refusal := .next (zeroCrossing b phase rising legs t s)

/-- ZERO_CROSSING_TIMEOUT (R132): no crossing within 0x4030.04, the bridge reports standstill. -/
def crossingTimeout (b : BridgeId) (s : State) : State :=
  let s := match s.br[b].bemf.crossings with
    | c :: _ => setNow (c.1 + s.actN 0x4030 4 * ticksPerMs) s
    | [] => s
  if s.allOff b then
    modBr b (fun x => { x with bemf := { x.bemf with standstill := true, crossings := [], freq := 0, amp := 0 } }) s
  else s

/-- ZERO_CROSSING_TIMEOUT. -/
def execZeroCrossingTimeout (b : BridgeId) (s : State) : Host.Outcome State Fault Refusal := .next (crossingTimeout b s)

/-- Rectification is present on a group that listens (R239): the clamp condition on a named bridge, a shunt current with no bridge switching,
or a rise of the DC-link voltage. The 10 µs of the current are the command's (log 148). -/
def State.rectifies (s : State) (g : GroupId) : Bool :=
  (s.listening g).any (fun b => s.br[b].bemf.clampFlag) ||
    (allBr.all (fun b => !s.switching b) && decide (s.actR 0x7100 3 < abs s.drive.shunt)) ||
    decide (s.actR 0x7100 6 < s.drive.udc - s.gr[g].listenUdc)

/-- RECTIFICATION_DETECTED (R239): where its condition holds, the outcome RECTIFYING at once. -/
def execRectificationDetected (g : GroupId) (s : State) : Host.Outcome State Fault Refusal :=
  .next (if s.rectifies g then listenOutcome g 3 s else s)

/-! Window sets (R123 to R126) -/

/-- The reference edges of the half that ends at the sample instant, oldest first (R123). -/
def State.halfEdges (s : State) (b : BridgeId) : List (Nat × Nat × Bool) :=
  let m := s.br[b].meas
  (m.edges.filter fun e => decide (m.halfAt ≤ e.2.1 ∧ e.2.1 ≤ m.sampleAt) && e.2.2 == m.halfUp).reverse

/-- An edge of another bridge, or the dead time after it, lies in the window (R125). -/
def State.collides (s : State) (b : BridgeId) (lo hi : Nat) : Bool :=
  allBr.any fun c => c != b && s.br[c].meas.edges.any fun e => decide (e.2.1 ≤ hi) && decide (lo ≤ e.2.1 + s.deadTime c)

/-- A span of ticks, its end 0 while it lasts, meets [lo, hi]. -/
def spanMeets (lo hi : Nat) (x : Option (Nat × Nat)) : Bool := x.any fun c => decide (c.1 ≤ hi) && (c.2 == 0 || decide (lo ≤ c.2))

/-- What a window set gives: the three currents, or the cause of its loss, 1 collision, 2 vector, 3 fault (R124 to R126). -/
def State.windowSet (s : State) (b : BridgeId) : Vector Rat 3 ⊕ Nat :=
  let x := s.br[b]
  let m := x.meas
  let ts := s.actBN b 0x4020 1
  let tg := s.actBN b 0x4020 2
  let dt := s.deadTime b
  let taken := m.shunt.all (·.isSome)
  let a0 := if taken then m.shuntAt[0] else m.halfAt
  let a1 := m.shuntAt[1]
  let a2 := if taken then m.shuntAt[2] else m.sampleAt
  let fault := decide (x.force.pattern ≠ 0) || x.legs.any (fun l => spanMeets a0 a2 l.cutSpan) || x.pos.any fun p => spanMeets a0 a2 p.softSpan
  if fault then .inr 3
  else if s.collides b (a0 - ts) a2 then .inr 1
  else match s.halfEdges b, m.shunt[0], m.shunt[1], m.shunt[2] with
    | e1 :: e2 :: rest, some s0, some s1, some s2 =>
      let wrap := s.sawtooth b && decide (a0 < m.halfAt + dt + ts)
      let before := m.edges.any fun e => decide (e.2.1 ≤ a0) && decide (a0 < e.2.1 + dt + ts)
      let next : Bool := match rest with
        | e3 :: _ => decide (a2 + tg ≤ e3.2.1)
        | [] => true
      let ok : Bool := decide (m.halfAt ≤ a0 ∧ a2 ≤ m.sampleAt ∧ e1.1 ≠ e2.1 ∧ a0 ≤ e1.2.1 ∧ e1.2.1 + dt + ts ≤ a1 ∧ a1 + tg ≤ e2.2.1 ∧ e2.2.1 + dt + ts ≤ a2)
      if ok && next && !before && !wrap then
        let sgn : Rat := if m.halfUp then 1 else -1
        let i1 := sgn * (s1 - s0)
        let i2 := sgn * (s2 - s1)
        .inl (Vector.ofFn fun k => if k.val = e1.1 then i1 else if k.val = e2.1 then i2 else -(i1 + i2))
      else .inr 2
    | _, _, _, _ => .inr 2

/-- The step takes the window set of its period (R126): a valid one renews the reconstruction, a lost one is counted, with E-4001 for the first
loss in the epoch, and leaves the last valid reconstruction marked stale. Losses in SHUNT-ONLY are counted in a row (R131). -/
def takeWindow (b : BridgeId) (s : State) : State :=
  let r := s.windowSet b
  let s := modMeas b (fun m => { m with shunt := .replicate 3 none }) s
  match r with
  | .inl i => bump (0xE041 + b.val) 1 (modMeas b (fun m => { m with recon := i, stale := false, missing := 0 }) s)
  | .inr c =>
    let s := modMeas b (fun m => { m with stale := true, missing := if m.mode = 2 then m.missing + 1 else 0 }) s
    let s := if c = 1 then { s with place := { s.place with collisions := s.place.collisions.set b (s.place.collisions[b] + 1) } } else s
    raiseFirst 0x4001 3 (b.val + 1) [(b.val + 1 : Int), (c : Int)] b.val (bump (0xE041 + b.val) (c + 1) s)

end Sys2Proof.Machine
end

