-- ==== Sys2Proof/Machine/Observer.lean ====
section
/-! DEFINITION. Atlas lookups, frames and step currents, the observer, the vote of three opinions and the lost rotor (R157, R163 to R165,
R172 to R181, R194, R195, R199). -/

namespace Sys2Proof.Machine

/-! Lookups (R172 to R174, R177) -/

/-- A place on an axis: the grid points on its two sides and the fraction between them. -/
structure Coord where
  lo : Nat
  hi : Nat
  frac : Rat
  deriving DecidableEq, Repr

/-- Place of a value on an even axis of n points, limited to its ends; the flag says that it was limited. -/
def gridCoord (n : Nat) (lo hi v : Rat) : Coord × Bool :=
  if hi ≤ lo then (⟨0, 0, 0⟩, true)
  else
    let top : Rat := (n - 1 : Nat)
    let x := (v - lo) / (hi - lo) * top
    let y := max 0 (min top x)
    let k := min (n - 2) y.floor.toNat
    (⟨k, k + 1, y - (k : Rat)⟩, decide (x ≠ y))

/-- Place of an electrical angle on its cyclic axis. -/
def angleCoord (theta : Int) : Coord :=
  let u := ofSigned 16 theta
  ⟨u / 256, (u / 256 + 1) % 256, (u % 256 : Nat) / 256⟩

/-- Place of a temperature on T0 to T3, limited to them. -/
def tempCoord (ts : List Rat) (v : Rat) : Coord :=
  let at0 (k : Nat) : Rat := ts.getD k 0
  let k := if v < at0 1 then 0 else if v < at0 2 then 1 else 2
  let w := at0 (k + 1) - at0 k
  ⟨k, k + 1, if w ≤ 0 then 0 else clamp01 ((v - at0 k) / w)⟩

/-- An operating point on the four axes. -/
structure Point where
  t : Coord
  a : Coord
  q : Coord
  d : Coord
  deriving DecidableEq, Repr

/-- Weight of a side of an axis: of the value, or of the slope per grid step. -/
def Coord.weight (c : Coord) (slope hi : Bool) : Rat := if slope then (if hi then 1 else -1) else if hi then c.frac else 1 - c.frac

/-- Grid point of a side. -/
def Coord.side (c : Coord) (hi : Bool) : Nat := if hi then c.hi else c.lo

/-- The sixteen corners. -/
def corners : List (Bool × Bool × Bool × Bool) :=
  [false, true].flatMap fun t => [false, true].flatMap fun a => [false, true].flatMap fun q => [false, true].map fun d => (t, a, q, d)

/-- Cell of a corner. -/
def Point.index (p : Point) (c : Bool × Bool × Bool × Bool) : Nat :=
  cellIndex (p.t.side c.1) (p.a.side c.2.1) (p.q.side c.2.2.1) (p.d.side c.2.2.2)

/-- The quadrilinear blend of a field, or its slope on the angle, q or d axis (R177). -/
def State.blend (s : State) (g : GroupId) (p : Point) (da dq dd : Bool) (f : Nat → Rat) : Rat :=
  (corners.map fun c =>
    p.t.weight false c.1 * p.a.weight da c.2.1 * p.q.weight dq c.2.2.1 * p.d.weight dd c.2.2.2 * f (s.cell g (p.index c)).toNat).foldl (· + ·) 0

/-- What a lookup returns (R177): fluxes in V·s, torque in N·m, loss in W, the fluxes' slopes with the angle and the incremental
inductances in H, the lowest confidence. -/
structure Look where
  psiD : Rat
  psiQ : Rat
  torque : Rat
  loss : Rat
  slopeD : Rat
  slopeQ : Rat
  ld : Rat
  lq : Rat
  conf : Nat
  outside : Bool
  deriving DecidableEq, Repr

/-- The point of a lookup and whether a current was limited to the edge of the grid. -/
def State.pointOf (s : State) (g : GroupId) (id iq : Rat) (theta : Int) (temp : Rat) : Point × Bool :=
  let o := 0x6001 + g.val
  let d := gridCoord 128 (s.actR o 1) (s.actR o 2) id
  let q := gridCoord 256 (-(s.actR o 3)) (s.actR o 3) iq
  (⟨tempCoord ((List.range 4).map fun k => s.actR o (k + 4)) temp, angleCoord theta, q.1, d.1⟩, d.2 || q.2)

/-- A lookup (R177, R178): none where a corner is empty or uncorrectable. -/
def State.lookup (s : State) (g : GroupId) (id iq : Rat) (theta : Int) (temp : Rat) : Option Look :=
  let o := 0x6001 + g.val
  let p := (s.pointOf g id iq theta temp).1
  let confs := corners.map fun c => confOf (s.cell g (p.index c))
  if confs.contains 0 || corners.any fun c => s.mem.bad.contains (cellAddr g (p.index c)) then none
  else
    let flux := s.actR o 8 / 1000000000
    let fd (v : Nat) : Rat := (toSigned 16 (bits 15 0 v) : Rat) * flux
    let fq (v : Nat) : Rat := (toSigned 16 (bits 31 16 v) : Rat) * flux
    let stepD := (s.actR o 2 - s.actR o 1) / 127
    let stepQ := 2 * s.actR o 3 / 255
    some { psiD := s.blend g p false false false fd, psiQ := s.blend g p false false false fq,
           torque := s.blend g p false false false fun v => (toSigned 16 (bits 47 32 v) : Rat) * s.actR o 9 / 1000,
           loss := s.blend g p false false false fun v => (bits 59 48 v : Rat) * s.actR o 10,
           slopeD := s.blend g p true false false fd, slopeQ := s.blend g p true false false fq,
           ld := if stepD = 0 then 0 else s.blend g p false false true fd / stepD,
           lq := if stepQ = 0 then 0 else s.blend g p false true false fq / stepQ,
           conf := confs.foldl min 15, outside := (s.pointOf g id iq theta temp).2 }

/-! Currents and frames -/

/-- The sensor current of a phase in use (R139): the input's value, the last valid one while a check fails, or its substitute; `none` where
the input gives none. -/
def State.sensorAmps (s : State) (b : BridgeId) (k : Fin 3) : Option Rat :=
  let x := s.sense.inputs[piInput b k]
  if x.valid && x.bad == 0 then some s.br[b].meas.pi[k] else s.inputUse (piInput b k) none

/-- The phase currents of the step (R121, R130): sensors, a missing phase computed as the negative sum of the other two; the reconstruction
in SHUNT-ONLY. -/
def State.stepAmps (s : State) (b : BridgeId) : Vector Rat 3 :=
  let m := s.br[b].meas
  if m.mode = 2 then m.recon
  else
    let read (k : Fin 3) : Option Rat := if s.unusedPhase b = some k then none else s.sensorAmps b k
    let other (k : Fin 3) : Rat := -((phases.filter fun j => decide (j ≠ k)).map fun j => (read j).getD 0).foldl (· + ·) 0
    Vector.ofFn fun k => (read k).getD (other k)

/-- α and β of three phase values. -/
def clarke (v : Vector Rat 3) : Rat × Rat := ((2 * v[0] - v[1] - v[2]) / 3, (v[1] - v[2]) / Config.sqrt3)

/-- d and q of α and β at an angle. -/
def park (x : Rat × Rat) (theta : Int) : Rat × Rat :=
  let c := Config.cosTurn theta
  let n := Config.sinTurn theta
  (x.1 * c + x.2 * n, x.2 * c - x.1 * n)

/-- α and β of d and q at an angle. -/
def unpark (x : Rat × Rat) (theta : Int) : Rat × Rat :=
  let c := Config.cosTurn theta
  let n := Config.sinTurn theta
  (x.1 * c - x.2 * n, x.1 * n + x.2 * c)

/-- Magnitude of a vector. -/
def magnitude (x : Rat × Rat) : Rat := Config.sqrt (x.1 * x.1 + x.2 * x.2)

/-- Angle of a bridge's own rotor frame: the group's, shifted by 0x6005 (R172, R210). -/
def State.frameAngle (s : State) (b : BridgeId) (g : GroupId) : Int := s.gr[g].pos.thetaE + s.act 0x6005 (b.val + 1)

/-- Electrical angular frequency of a group, rad/s. -/
def State.omegaE (s : State) (g : GroupId) : Rat := 2 * Config.pi * s.elecHz g s.gr[g].pos.speed

/-- Stator resistance of a bridge at the group's winding temperature, Ω (R181). -/
def State.statorOhm (s : State) (b : BridgeId) (g : GroupId) : Rat :=
  s.actR 0x6006 (b.val + 1) / 1000000 * (1 + 393 / 100000 * (s.gr[g].obs.temp / 10 - 20))

/-- ψ0: the atlas d flux without current at the present angle and winding temperature (R195); 0 where the lookup gives no result (log 184). -/
def State.psiZero (s : State) (g : GroupId) : Rat :=
  match s.lookup g 0 0 s.gr[g].pos.thetaE s.gr[g].obs.temp with
  | some l => l.psiD
  | none => 0

/-- Currents of grid points on the d and q axes, A (R172). -/
def State.gridD (s : State) (g : GroupId) (d : Nat) : Rat :=
  s.actR (0x6001 + g.val) 1 + (d : Rat) * (s.actR (0x6001 + g.val) 2 - s.actR (0x6001 + g.val) 1) / 127
def State.gridQ (s : State) (g : GroupId) (q : Nat) : Rat := s.actR (0x6001 + g.val) 3 * (2 * (q : Rat) / 255 - 1)

/-- Atlas flux at a current point, averaged over the angle axis, at the present winding temperature (R197). -/
def State.meanFlux (s : State) (g : GroupId) (id iq : Rat) : Option (Rat × Rat) :=
  let l := (List.range 256).map fun k => s.lookup g id iq (256 * k : Nat) s.gr[g].obs.temp
  if l.all (·.isSome) then
    let sum (f : Look → Rat) : Rat := ((l.filterMap fun x => x.map f)).foldl (· + ·) 0 / 256
    some (sum (·.psiD), sum (·.psiQ))
  else none

/-- Square of the rotor-frame voltages of a bridge at a current point with an averaged flux and an angular frequency (R197). -/
def State.rotorVolts (s : State) (b : BridgeId) (g : GroupId) (w : Rat) (i psi : Rat × Rat) : Rat :=
  let d := s.statorOhm b g * i.1 - w * psi.2
  let q := s.statorOhm b g * i.2 + w * psi.1
  d * d + q * q

/-- The ASC currents of a bridge at an electrical frequency in mHz (R197): the grid point of the atlas at which both rotor-frame voltages come nearest
to vanishing; a free value where the atlas is empty or gives no flux (log 76). -/
def State.ascPoint (s : State) (b : BridgeId) (g : GroupId) (mHz : Rat) : Rat × Rat :=
  let w := 2 * Config.pi * mHz / 1000
  let points := if s.atlasEmpty g then []
    else (List.range 128).flatMap fun d => (List.range 256).filterMap fun q =>
      (s.meanFlux g (s.gridD g d) (s.gridQ g q)).map fun psi => (s.rotorVolts b g w (s.gridD g d, s.gridQ g q) psi, s.gridD g d, s.gridQ g q)
  match points with
  | [] => Config.ascCurrents s.freeCount
  | p :: rest => (rest.foldl (fun m c => if c.1 < m.1 then c else m) p).2

/-! The lost rotor (R194, R195, R199) -/

/-- A bridge's forcing for a lost rotor. -/
def reacquireBridge (asc : Bool) (b : BridgeId) (s : State) : State := forceBridge .reacquisition (if asc then s.ascSide b else 1) 3 b s

/-- A group has lost its rotor (R195): E-6030 with e in 0.1 V, the choice and the cause (1 residual, 2 no two opinions agree, 3 source and
observer disagree); every bridge goes to its safe state and a re-acquisition begins. During a ramp or hold it fails the one in progress with
`case` of R199. -/
def lostRotor (g : GroupId) (cause case : Nat) (s : State) : State :=
  let e := Config.sqrt3 * 2 * Config.pi * abs (s.elecHz g s.gr[g].obs.lastGood) * s.psiZero g
  let asc := decide (s.eLimit < e)
  let before := s.gr[g].reacq
  let s := bump (0xE061 + g.val) 9 (raiseG 0x6030 g [(10 * e).floor, (b2n asc : Int), (cause : Int)] s)
  let s := abortIdent g s
  let s := modGr g (fun x => { x with obs := { x.obs with count := 0 }, pos := { x.pos with row := 0, rowRun := 0, provisional := false } }) s
  let s := forBr (s.bridgesOf g) (reacquireBridge asc) s
  if before.phase = 4 && !before.isCatch then reacqFailed g case s
  else
    let inAsc := (s.bridgesOf g).any s.inAsc
    modGr g (fun x => { x with reacq := { x.reacq with phase := if inAsc then 1 else 2, since := s.now, limit := s.now, asc := inAsc, isCatch := false, alphas := [] } }) s

/-- The observer is set to the source in use (R194), counted, with E-6036 for the first in the epoch; three within 10 s mark the atlas
suspect with E-6037. -/
def resync (g : GroupId) (s : State) : State :=
  let keep := (s.now :: s.gr[g].atlas.resyncs).filter fun t => decide (s.now < t + 10 * ticksPerS)
  let s := modGr g (fun x => { x with obs := { x.obs with angle := x.pos.thetaE, speed := x.pos.speed, stamp := x.pos.stampAt },
                                      atlas := { x.atlas with resyncs := keep } }) s
  let s := raiseFirst 0x6036 3 (s.groupIndex g) [(g.val + 1 : Int)] g.val (bump (0xE061 + g.val) 0x0C s)
  if 3 ≤ keep.length && !s.gr[g].atlas.suspect then setAtlasState g 4 (raiseG 0x6037 g [] s) else s

/-! The vote (R157, R163 to R165) -/

/-- An opinion at the sample instant: its angle where it has one, and its speed in r/min. -/
structure Opinion where
  angle : Option Int
  speed : Rat
  deriving DecidableEq, Repr

/-- Opinion of a sensor at tick t. -/
def State.sensorOpinion (s : State) (i : IfId) (g : GroupId) (t : Nat) : Opinion :=
  { angle := if s.hasAngle i then some (s.opinionAngle i g t) else none, speed := s.sense.iface[i].speed }

/-- Opinion O at tick t. -/
def State.observerOpinion (s : State) (g : GroupId) (t : Nat) : Opinion := { angle := some (s.observerAngle g t), speed := s.gr[g].obs.speed }

/-- Two opinions of a group agree (R163). -/
def State.agree (s : State) (g : GroupId) (x y : Opinion) : Bool :=
  let angles : Bool := match x.angle, y.angle with
    | some a, some b => decide ((toSigned 16 (ofSigned 16 (a - b))).natAbs ≤ s.actN 0x5030 (g.val + 1))
    | _, _ => true
  angles && decide (abs (x.speed - y.speed) ≤ s.actR 0x5030 (g.val + 5))

/-- The row of R163: 0 any other, 1 to 4. -/
def voteRow (pq po qo : Bool) : Nat :=
  if !pq && !po && qo then 1 else if !pq && po && !qo then 2 else if !pq && !po && !qo then 3 else if pq && !po && !qo then 4 else 0

/-- Consecutive steps in a row: a step that leaves a row resets its count. -/
def countRow (g : GroupId) (row : Nat) : State → State :=
  modGr g fun x => { x with pos := { x.pos with row := row, rowRun := if row = 0 then 0 else if row = x.pos.row then x.pos.rowRun + 1 else 1,
                                                provisional := row == 1 } }

/-- The offset from the other source to E at one instant, kept over the last 256 steps in which both agreed (R157). -/
def noteOffset (g : GroupId) (p q : IfId) (t : Nat) (s : State) : State :=
  let d := s.gr[g].pos.count + s.sourceAdvance p t - (s.sourceCount q + s.sourceAdvance q t)
  modGr g (fun x => { x with pos := { x.pos with offsets := (d :: x.pos.offsets).take 256 } }) s

/-- Confirm count of the vote. -/
def State.voteCount (s : State) : Nat := s.actN 0x5030 9

/-- A step uses Q provisionally (R163): its angle, its speed and its count. -/
def useProvisional (g : GroupId) (q : IfId) (t : Nat) (s : State) : State :=
  let s := raiseFirst 0x5030 3 (s.groupIndex g) [(g.val + 1 : Int), (ifaceCode q : Int)] g.val (bump (0xE051 + g.val) 1 s)
  let th := ofSigned 16 (s.opinionAngle q g t)
  let e := s.sourceCount q + s.gr[g].pos.meanOffset + s.sourceAdvance q t
  let s := groupSpeed g s.sense.iface[q].speed t s
  modGr g (fun x => { x with pos := { x.pos with thetaE := if s.hasAngle q then th else x.pos.thetaE,
                                                 stampE := if x.pos.offsets.isEmpty then x.pos.stampE else e } }) s

/-- The vote stands in a row that hands the case to R194: a lost rotor after 0x5030.09 steps in the row and 0x6030.05 observer steps from
then on; in the ramp and hold of a re-acquisition the row's count alone fails it (R199). -/
def handOver (g : GroupId) (cause : Nat) (s : State) : State :=
  let run := s.gr[g].pos.rowRun
  if s.gr[g].reacq.phase = 4 && !s.gr[g].reacq.isCatch then (if s.voteCount ≤ run then lostRotor g cause 3 s else s)
  else if s.voteCount + max 1 (s.actN 0x6030 5) ≤ run + 1 then lostRotor g cause 2 s else s

/-- The residual limit in force, % (R194, R228). -/
def State.residualLimit (s : State) (g : GroupId) : Rat :=
  if s.gr[g].cond = .reduced then min 100 (2 * s.actR 0x6030 (g.val + 1)) else s.actR 0x6030 (g.val + 1)

/-- The vote with two sensors and O (R163). `p` is the source in use, `q` the other. -/
def voteThree (g : GroupId) (p q : IfId) (t : Nat) (s : State) : State :=
  let pq := s.agree g (s.sensorOpinion p g t) (s.sensorOpinion q g t)
  let po := s.agree g (s.sensorOpinion p g t) (s.observerOpinion g t)
  let qo := s.agree g (s.sensorOpinion q g t) (s.observerOpinion g t)
  let s := onlyIf pq (noteOffset g p q t) s
  let s := onlyIf po (modGr g fun x => { x with obs := { x.obs with lastGood := x.pos.speed } }) s
  let row := voteRow pq po qo
  let s := countRow g row s
  let run := s.gr[g].pos.rowRun
  match row with
  | 1 => onlyIf (decide (s.voteCount ≤ run)) (confirmCause p 10) (useProvisional g q t s)
  | 2 => if s.voteCount ≤ run then raiseG 0x5032 g [(ifaceCode q : Int)] (confirmCause q 10 s) else s
  | 3 => handOver g 2 (onlyIf (decide (run = s.voteCount)) (raiseG 0x5035 g []) s)
  | 4 =>
    if s.gr[g].reacq.phase = 4 && !s.gr[g].reacq.isCatch then handOver g 3 s
    else onlyIf (decide (s.voteCount ≤ run) && decide (s.gr[g].obs.residual ≤ s.residualLimit g)) (resync g) s
  | _ => s

/-- The vote with one sensor and O (R164, R199). -/
def voteTwo (g : GroupId) (p : IfId) (t : Nat) (s : State) : State :=
  let po := s.agree g (s.sensorOpinion p g t) (s.observerOpinion g t)
  let s := onlyIf po (modGr g fun x => { x with obs := { x.obs with lastGood := x.pos.speed } }) s
  let s := countRow g (if po then 0 else 5) s
  if po then s else handOver g 3 s

/-- A group on O alone tries one of its sources (R165): a valid one that agrees with O for the confirm count is taken into use. -/
def tryAlone (g : GroupId) (t : Nat) (k : Fin 2) (s : State) : State :=
  match s.validSource (s.actN 0x5000 (g.val + 1 + 4 * k.val)) with
  | none => modGr g (fun x => { x with pos := { x.pos with agreeRun := x.pos.agreeRun.set k 0 } }) s
  | some i =>
    let ok := s.agree g (s.sensorOpinion i g t) (s.observerOpinion g t)
    let s := modGr g (fun x => { x with pos := { x.pos with agreeRun := x.pos.agreeRun.set k (if ok then x.pos.agreeRun[k] + 1 else 0) } }) s
    if s.voteCount ≤ s.gr[g].pos.agreeRun[k] then endWindow (sensorlessWindow g) (switchSource g i s) else s

/-- The group runs on O alone (R165): its window opens while it has no valid sensor, and its sources are tried. -/
def voteAlone (g : GroupId) (t : Nat) (s : State) : State :=
  let valid (k : Nat) : Bool := (s.validSource (s.actN 0x5000 (g.val + k))).isSome
  let s := onlyIf (!valid 1 && !valid 5 && !s.clove.windows[sensorlessWindow g].cause) (beginWindow (sensorlessWindow g)) s
  let s := tryAlone g t 0 s
  if s.gr[g].pos.src = 0 then tryAlone g t 1 s else s

/-- The opinions of a group are compared at a step (R163 to R165; log 78). -/
def vote (g : GroupId) (t : Nat) (s : State) : State :=
  let src := s.gr[g].pos.src
  let prim := s.actN 0x5000 (g.val + 1)
  let plaus := s.actN 0x5000 (g.val + 5)
  match s.validSource src with
  | none => voteAlone g t s
  | some p => match s.validSource (if src = prim then plaus else prim) with
    | some q => voteThree g p q t s
    | none => voteTwo g p t s

/-! The observer (R180, R181, R194) -/

/-- Mean leg voltages of the last period against the mean of the three, V: measured, or commanded where there is no result (R134). -/
def State.legVolts (s : State) (b : BridgeId) : Vector Rat 3 :=
  Vector.ofFn fun k => match (s.br[b].legs[k]).mean with
    | some v => v
    | none => (s.br[b].legs[k]).meanCmd.getD 0

/-- The winding temperature after a step (R181), 0.1 °C: from the d-axis voltage balance at low speed, else by the lag toward the loss. -/
def State.nextTemp (s : State) (b : BridgeId) (g : GroupId) (slow : Bool) (i : Rat × Rat) (l : Look) (dt : Nat) : Rat :=
  let x := s.br[b].ctl
  let old := s.gr[g].obs.temp
  if slow then
    if i.1 = 0 then old
    else
      let r := (x.ud + s.omegaE g * l.psiQ) / i.1
      10 * (20 + (r * 1000000 / max 1 (s.actR 0x6006 (b.val + 1)) - 1) / (393 / 100000))
  else old + (1 - Config.exp (-((dt : Rat) / (300 * 400000000)))) * (Config.windingRise g.val l.loss - old)

/-! Steady runs of the learning engine (R182, R215, R372) -/

/-- Learning may use a step of a group: every bridge in RUN with valid sensors, the source in use sound, no window open, the atlas sound. -/
def State.mayLearn (s : State) (g : GroupId) : Bool :=
  let bs := s.running g
  let n : Rat := (bs.length : Nat)
  let x := s.gr[g]
  !bs.isEmpty && (bs.all fun b => decide (s.br[b].meas.mode ≤ 1)) &&
  (s.validSource x.pos.src).isSome && !x.pos.provisional && !x.atlas.suspect && s.act 0x6020 (g.val + 1) == 1 &&
  decide (x.cond = .normal) && decide (s.die.level < 2) && x.atlas.ident.isNone &&
  ([shuntWindow g, sensorlessWindow g, lossWindow g].all fun w => (s.clove.windows[w]).opened.isNone) &&
  bs.all fun b => decide (abs (s.br[b].ctl.share - 1 / n) ≤ 1 / n / 20)

/-- The grid point nearest to a coordinate. -/
def Coord.near (c : Coord) : Nat := c.side (decide (1 / 2 ≤ c.frac))

/-- Electrical power of one winding set of a group, W: that of its bridges in RUN, shared among them (R182; log 128). -/
def State.setPower (s : State) (g : GroupId) : Rat :=
  let bs := s.running g
  (bs.map fun b => let x := s.br[b].ctl; 3 / 2 * (x.ud * x.id + x.uq * x.iq)).foldl (· + ·) 0 / (max 1 bs.length : Nat)

/-- One step of a group's steady run (R182): it goes on while the point stays in its neighbourhood on the current and temperature axes; the
angle axis turns with the rotor (log 151). `psi` is the voltage-model flux in the rotor frame, `res` the residual. -/
def learnStep (g : GroupId) (i psi : Rat × Rat) (theta : Int) (res : Rat) (s : State) : State :=
  let p := (s.pointOf g i.1 i.2 theta s.gr[g].obs.temp).1
  let home := (p.d.lo, p.q.lo, p.t.lo)
  let r : LearnRun := match s.gr[g].atlas.run with
    | some r => if r.at0 = home then r else { at0 := home, steps := 0, residual := 0, psi := (0, 0), amps := (0, 0), power := 0, omega := 0, cell := 0 }
    | none => { at0 := home, steps := 0, residual := 0, psi := (0, 0), amps := (0, 0), power := 0, omega := 0, cell := 0 }
  let next : LearnRun := { r with steps := r.steps + 1, residual := max r.residual res, psi := (r.psi.1 + psi.1, r.psi.2 + psi.2),
                                  amps := (r.amps.1 + i.1, r.amps.2 + i.2), power := r.power + s.setPower g,
                                  omega := r.omega + s.omegaE g / (max 1 (s.machinePoles g) : Nat), cell := cellIndex p.t.near p.a.near p.q.near p.d.near }
  modGr g (fun x => { x with atlas := { x.atlas with run := if s.mayLearn g then some next else none } }) s

/-- The observer runs in the step of the group's lowest bridge in RUN (R180): flux estimates, angle and speed with the angle correction of
R177, residual, temperature, atlas torque, the learning engine's run; a residual above its limit for the confirm count loses the rotor (R194). -/
def observe (b : BridgeId) (g : GroupId) (i : Rat × Rat) (l : Look) (t : Nat) (s : State) : State :=
  let x := s.gr[g]
  let dt := t - x.obs.stamp
  let slow := decide (abs x.pos.speed ≤ s.actR 0x6010 (g.val + 5))
  let theta := s.br[b].ctl.theta
  let u := clarke (s.legVolts b)
  let amps := clarke s.br[b].ctl.amps
  let r := s.statorOhm b g
  let bw := s.actN 0x6010 (g.val + 1)
  let fa := Config.fluxStep bw dt x.obs.fluxA (u.1 - r * amps.1)
  let fb := Config.fluxStep bw dt x.obs.fluxB (u.2 - r * amps.2)
  let model := unpark (l.psiD, l.psiQ) theta
  let size := magnitude model
  let res : Rat := if slow || size = 0 then 0 else 100 * magnitude (fa - model.1, fb - model.2) / size
  let tr := Config.observerTrack (x.obs.angle, x.obs.speed) (fa, fb) model (l.slopeD, l.slopeQ) dt (s.machinePoles g)
  let bad := decide (s.residualLimit g < res)
  let temp := s.nextTemp b g slow i l dt
  let torque := ((s.running g).map fun c => s.br[c].ctl.torque).foldl (· + ·) 0
  let s := modGr g (fun y => { y with obs := { y.obs with
    angle := if slow then y.pos.thetaE else ofSigned 16 tr.1, speed := if slow then y.pos.speed else tr.2, fluxA := fa, fluxB := fb,
    residual := res, count := if bad then y.obs.count + 1 else 0, temp := temp, torque := torque, stamp := t } }) s
  let s := learnStep g i (park (fa, fb) theta) theta res s
  if s.actN 0x6030 5 ≤ s.gr[g].obs.count then lostRotor g 1 2 s else s

end Sys2Proof.Machine
end

