-- ==== Sys2Proof/Machine/Sensors.lean ====
section
/-! DEFINITION. A step's inputs: the sample instant, lost steps, missing results, sensor modes and residuals (R22, R25 to R27, R45, R67,
R102, R108, R116, R119, R122, R129 to R131). -/

namespace Sys2Proof.Machine

/-- Update the control state of bridge b. -/
def modCtl (b : BridgeId) (f : Ctl → Ctl) : State → State := modBr b fun x => { x with ctl := f x.ctl }

/-! The sample instant (R22, R25 to R27, R45, R116, R119) -/

/-- A forcing of bridge b waits for the resume set: the angle has been acquired for its catch, which a joining bridge need not wait for, or
for its re-acquisition (R198, R245). A held catch ASC that no start names does not (log 165). -/
def State.resuming (s : State) (b : BridgeId) : Bool :=
  let x := s.br[b]
  x.force.selfReleasing && match s.groupOf b with
    | some g =>
      let got := decide (3 ≤ s.gr[g].reacq.phase)
      if x.start.phase = 5 then x.start.joining || (got && s.gr[g].reacq.isCatch)
      else got && !s.gr[g].reacq.isCatch && x.force.sources.any fun c => decide (c.1 = .reacquisition)
    | none => false

/-- A control step opens at the bridge's sample instant: the bridge is in RUN without a forcing, or its resume step is due. Identification
switches its bridges itself (R185; log 87). -/
def State.stepOpens (s : State) (b : BridgeId) : Bool :=
  let ident : Bool := match s.groupOf b with
    | some g => s.gr[g].atlas.ident.isSome
    | none => false
  !ident && decide (s.br[b].state = .run ∧ s.br[b].force.pattern = 0) || s.resuming b

/-- The step in progress has handed over no reference by the next sample instant (R25): E-2008; the limit of consecutive ones is a level 3
fault on the bridge (R26), to which a step lost to a task move or a hand-over adds nothing (R27). -/
def abandonStep (b : BridgeId) (s : State) : State :=
  let n := if s.br[b].ctl.lost then s.br[b].ctl.abandoned else s.br[b].ctl.abandoned + 1
  let s := modCtl b (fun x => { x with abandoned := n, opened := false, lookup := false, lost := false }) s
  let s := bump (0xE021 + b.val) 2 (raiseB 0x2008 b [] s)
  if s.actN 0x7021 1 ≤ n then safeRequest .cloveRequest 3 b s else s

/-- Trigger the bridge's phase-current converters and the two shared ones; a shared conversion that another bridge has triggered within its
40 ticks serves both (R116). -/
def triggerSample (b : BridgeId) (t : Nat) (s : State) : State :=
  let s := phases.foldl (fun a k => triggerNow ⟨(legOf b k).val, by have := (legOf b k).2; omega⟩ t a) s
  let both := allBr.any fun c => decide (c ≠ b) && decide (t < s.br[c].meas.sampleAt + 40) && decide (s.br[c].meas.sampleAt ≤ t) &&
    decide (0 < s.br[c].meas.sampleAt)
  if both then s else triggerNow 13 t (triggerShunt t s)

/-- Begin of the half that ends at a sample instant of bridge b at tick t, and whether it rises (R45, R119, R123); none where no sample
instant stands at t. The extreme opposite the reload point; in sawtooth mode 0x4020.05 before the last tick. -/
def State.sampleHalf (s : State) (b : BridgeId) (t : Nat) : Option (Nat × Bool) :=
  let c := s.br[b].car
  let next := c.valley + ((s.periodTicks b : Int) + c.adjust).toNat
  if s.sawtooth b then if t + 1 + s.actBN b 0x4020 5 = c.valley + c.top then some (c.valley, false) else none
  else if t = c.valley + c.top ∧ s.reloadPoint b ≠ 1 then some (c.valley, true)
  else if t = c.valley ∧ s.reloadPoint b ≠ 0 then some (c.peakAt, false)
  else if t = next ∧ s.reloadPoint b ≠ 0 then some (c.valley + c.top, false)
  else none

/-- What takes effect at the step boundary that a sample instant is (R31, R225): a move of placement, and the monitor decimation of the
bridge. -/
def stepBoundary (b : BridgeId) (s : State) : State :=
  let s := finishPlacement s
  let d := s.place.decim[s.br[b].monPair]
  if s.br[b].ctl.decim = d then s else refreshBounds (modCtl b (fun x => { x with decim := d }) s)

/-- A sample instant of bridge b at tick t, at the end of a half (R22, R25 to R27, R116, R119). -/
def sampleAt (b : BridgeId) (half : Nat × Bool) (t : Nat) (s : State) : State :=
  let s := setNow t s
  let s := onlyIf (s.br[b].ctl.opened && !s.br[b].ctl.gotRef) (abandonStep b) s
  let s := match s.groupOf b with
    | some g => latchGroup g t s
    | none => s
  let s := stepBoundary b (modMeas b (fun m => { m with sampleAt := t, halfAt := half.1, halfUp := half.2 }) (triggerSample b t s))
  let opens := s.stepOpens b
  modCtl b (fun x => { x with opened := opens, gotRef := false, lookup := false, lost := false }) s

/-- SAMPLE_INSTANT (R22, R25 to R27, R33, R45, R116, R119); at another tick than the carrier's sample instant nothing happens (log 129). -/
def sampleInstant (b : BridgeId) (t : Nat) (s : State) : State :=
  match s.sampleHalf b t with
  | some h => if s.pulseOn then sampleAt b h t s else s
  | none => s

/-- SAMPLE_INSTANT. -/
def execSampleInstant (b : BridgeId) (t : Nat) (s : State) : Host.Outcome State Fault Refusal := .next (sampleInstant b t s)

/-! Sensor modes (R121, R122, R130, R131) -/

/-- The mode that the inputs of a bridge allow (R122, R130; log 79): 0 THREE, 1 TWO, 2 SHUNT-ONLY, 3 NONE. A bridge that has lost
0x4023.05 window sets in SHUNT-ONLY has none (R131), and one whose reconstruction is implausible cannot run on it (R129; log 142). -/
def State.allowedMode (s : State) (b : BridgeId) : Nat :=
  let bad := phases.filter fun k => decide (s.unusedPhase b ≠ some k) && !s.sense.inputs[piInput b k].valid
  let isolated := s.actN 0x4014 (b.val + 5) == 0
  let m := s.br[b].meas
  let shuntOk := isolated && s.sense.inputs[shuntInput].valid && !m.implausible && !(decide (2 ≤ m.mode) && decide (s.actN 0x4023 5 ≤ m.missing))
  let shunt := if shuntOk then 2 else 3
  match (s.unusedPhase b).isSome, bad with
  | false, [] => 0
  | true, [] => 1
  | false, [k] => if isolated && s.act (0x4100 + (piInput b k).val) 6 = 2 then 1 else 3
  | _, _ => shunt

/-- The bridge on which a group acquires its angle (R197): the lowest whose sensor mode is not NONE. -/
def State.acquireBridge (s : State) (g : GroupId) : Option BridgeId := (s.bridgesOf g).find? fun b => s.allowedMode b != 3

/-- A step of that bridge in an acquisition window from ASC: the angle of its current vector in the stationary frame (R197). -/
def noteAlpha (b : BridgeId) (g : GroupId) (s : State) : State :=
  let r := s.gr[g].reacq
  if r.phase = 2 && r.asc && s.acquireBridge g == some b then
    let v := clarke (s.stepAmps b)
    modGr g (fun x => { x with reacq := { x.reacq with alphas := (s.br[b].meas.sampleAt, Config.atan2Turn v.2 v.1) :: x.reacq.alphas } }) s
  else s

/-- A bridge of group g is in SHUNT-ONLY. -/
def State.anyShuntOnly (s : State) (g : GroupId) : Bool := (s.bridgesOf g).any fun b => s.br[b].meas.mode == 2

/-- The sensor mode of a bridge at its step (R130, R131): E-4005 at a change, E-4006 and the shunt-only window at SHUNT-ONLY, E-4008 and the
bridge's safe state where no mode is possible. -/
def settleMode (b : BridgeId) (s : State) : State :=
  let m := s.allowedMode b
  let old := s.br[b].meas.mode
  let s := modMeas b (fun x => { x with mode := m, missing := if m = 2 ∧ old ≠ 2 then 0 else x.missing }) s
  let s := onlyIf (decide (old ≠ m) && decide (m ≠ 3)) (raiseB 0x4005 b [(m : Int)]) s
  let s := match s.groupOf b with
    | some g =>
      let s := onlyIf (decide (m = 2) && decide (old ≠ 2)) (fun a => beginWindow (shuntWindow g) (raiseB 0x4006 b [] a)) s
      onlyIf (decide (old = 2) && decide (m ≠ 2) && !s.anyShuntOnly g) (endWindow (shuntWindow g)) s
    | none => s
  if m = 3 then safeRequest .cloveRequest 3 b (raiseB 0x4008 b [] s) else s

/-! Residuals (R122, R129) -/

/-- Residuals of the three phases at the sample instant, A; the ripple is a free value (R129; log 69). -/
def State.residuals (s : State) (b : BridgeId) : Vector Rat 3 :=
  let m := s.br[b].meas
  Vector.ofFn fun k => abs ((s.sensorAmps b k).getD m.pi[k] - (m.recon[k] + Config.ripple (s.freeCount + k.val)))

/-- The sum check fails (R122): not with a connected star point. -/
def State.sumFails (s : State) (b : BridgeId) : Bool :=
  let v : Vector Rat 3 := Vector.ofFn fun k => (s.sensorAmps b k).getD s.br[b].meas.pi[k]
  s.actN 0x4014 (b.val + 5) == 0 && decide (s.actR 0x4022 ((s.groupFor b).val + 1) < abs (v[0] + v[1] + v[2]))

/-- The comparison of sensors and reconstruction under three sensors (R129): the three conditions and their counts, and what follows at
the confirm count; each exceeding phase is one residual exceedance (R144; log 143). A step without a valid window set (`win`) runs the sum
check alone (R122). -/
def checkResiduals (b : BridgeId) (win : Bool) (s : State) : State :=
  let m := s.br[b].meas
  let lim := s.actR 0x4021 ((s.groupFor b).val + 1)
  let r := s.residuals b
  let blind := m.stale || !win
  let out := if blind then [] else phases.filter fun k => decide (lim < r[k])
  let sum := s.sumFails b
  let one : Option (Fin 3) := match out with
    | [k] => some k
    | _ => none
  let n := s.actN 0x4021 5
  let s := onlyIf (!blind) (fun a => { a with freeCount := a.freeCount + 3 }) s
  let s := onlyIf sum (bump (0xE041 + b.val) 8) (bumpBy (0xE041 + b.val) 7 out.length s)
  let s := modMeas b (fun x => { x with
    inValid := if blind then x.inValid else match one with
      | some k => if x.phase = k.val then x.inValid + 1 else 1
      | none => 0,
    phase := match one with
      | some k => k.val
      | none => x.phase,
    inTwo := if blind then x.inTwo else if 2 ≤ out.length && !sum then x.inTwo + 1 else 0,
    inSum := if sum && one.isNone then x.inSum + 1 else 0 }) s
  let m := s.br[b].meas
  let s := match one with
    | some k => if n ≤ m.inValid then confirmInvalid [(piInput b k, 4)] s else s
    | none => s
  let odd := if m.inTwo = 0 then false else m.implausible || decide (n ≤ m.inTwo)
  let s := modMeas b (fun x => { x with implausible := odd }) (onlyIf (odd && !m.implausible) (raiseB 0x4007 b [1]) s)
  if n ≤ m.inSum then safeRequest .cloveRequest 3 b (raiseB 0x4008 b [] (raiseB 0x4007 b [2] s)) else s

/-! Inputs of the step -/

/-- Inputs of the bridge whose conversion has not arrived by the step (R138); the results are used up by the step. -/
def missStep (b : BridgeId) (s : State) : State :=
  let miss := (phases.filter fun k => decide (s.unusedPhase b ≠ some k) && !s.br[b].meas.piFresh[k]).map fun k => piInput b k
  let late := decide (s.drive.udcAt < s.br[b].meas.sampleAt)
  let lateShunt := decide (s.drive.shuntAt < s.br[b].meas.sampleAt)
  let s := modMeas b (fun m => { m with piFresh := .replicate 3 false }) s
  missInputs (miss ++ (if late then [udcInput] else []) ++ (if lateShunt then [shuntInput] else [])) s

/-- The control pair requests the safe state of a bridge with a leg held off (R67, R108) or a latched position (R102). -/
def askSafe (b : BridgeId) (s : State) : State :=
  let leg := phases.find? fun k => (s.br[b].legs[k]).held
  let slot := allSlots.find? fun k => (s.br[b].pos[k]).latched
  let s := match leg with
    | some k => raiseB 0x2005 b [((legOf b k).val + 1 : Int)] s
    | none => s
  let s := match slot with
    | some k => raiseB 0x3008 b [((posOf b k).val + 1 : Int)] s
    | none => s
  onlyIf (leg.isSome || slot.isSome) (safeRequest .cloveRequest 3 b) s

/-- The measured values of a step in RUN (R102, R123 to R131): the window set, the mode, the residuals under three sensors. -/
def readStep (b : BridgeId) (short : Bool) (s : State) : State :=
  let s := missStep b s
  if s.br[b].state ≠ .run ∨ s.br[b].force.pattern ≠ 0 then s
  else
    let driven := s.switching b && !short
    let s := onlyIf driven (takeWindow b) s
    let s := settleMode b s
    let s := onlyIf (s.br[b].meas.mode == 0) (checkResiduals b driven) s
    onlyIf (decide (s.br[b].state = .run)) (askSafe b) s

end Sys2Proof.Machine
end

