-- ==== Sys2Proof/Machine/Watch.lean ====
section
/-! DEFINITION. The monitor pair's checks at each step of a group: SS1 envelope and standstill, SLS, SDI and SLP (R278, R280, R281, R283,
R284). Timers start here; their expiries are commands of their own. -/

namespace Sys2Proof.Machine

/-- Direction allowed by the SDI of a group's selection (R283): 0 both, 1 forward only, 2 reverse only. -/
def State.sdi (s : State) (g : GroupId) : Nat := bits 5 4 s.gr[g].select

/-- The SLS limit selected for a group, r/min (R280). -/
def State.slsLimit (s : State) (g : GroupId) : Option Rat :=
  let k := bits 2 0 s.gr[g].select
  if 1 ≤ k ∧ k ≤ 4 then some (s.actR 0x8030 (4 * g.val + k)) else none

/-- SLP is selected for a group. -/
def State.slpOn (s : State) (g : GroupId) : Bool := bitAt 6 s.gr[g].select

/-- SS1 ramp of a group, r/min per s. -/
def State.ss1Ramp (s : State) (g : GroupId) : Rat := s.actR 0x8020 (g.val + 1)

/-- Standstill speed of a group, r/min. -/
def State.standstillSpeed (s : State) (g : GroupId) : Rat := s.actR 0x8020 (g.val + 0x0D)

/-- A group moves faster than its standstill speed in a direction that a permit (1 forward only, 2 reverse only) excludes. -/
def State.movesExcluded (s : State) (g : GroupId) (permit : Nat) : Bool :=
  let n := s.gr[g].pos.speed
  (permit == 1 && decide (n < -(s.standstillSpeed g))) || (permit == 2 && decide (s.standstillSpeed g < n))

/-- Speed of the SS1 ramp now, r/min (R277, R278). -/
def State.rampSpeed (s : State) (g : GroupId) (x : Ss1) : Rat :=
  max (x.n0 - s.ss1Ramp g * ((s.now - x.start : Nat) : Rat) / 400000000) x.goal

/-- Start of a condition: kept while it holds. -/
def since (cond : Bool) (old : Option Nat) (now : Nat) : Option Nat := if cond then some (old.getD now) else none

/-- The envelope and the standstill of an SS1 (R278); a deceleration to an SLS limit ends at the first step at or below it (R281). -/
def watchSs1 (g : GroupId) (s : State) : State :=
  match s.gr[g].ss1 with
  | none => s
  | some x =>
    let n := abs s.gr[g].pos.speed
    if 0 < x.goal ∧ n ≤ x.goal then modGr g (fun y => { y with ss1 := none }) s
    else
      let high := decide (s.rampSpeed g x + s.actR 0x8020 (g.val + 5) < n)
      let still := decide (x.goal = 0) && decide (n ≤ s.standstillSpeed g)
      modGr g (fun y => { y with ss1 := some { x with excess := since high x.excess s.now, calm := since still x.calm s.now } }) s

/-- The unfiltered speed of the source in use (R162), r/min; in the sensorless window, and without a valid source, that of the observer (R280). -/
def State.sourceSpeed (s : State) (g : GroupId) : Rat :=
  match s.validSource s.gr[g].pos.src with
  | some i => if s.clove.windows[sensorlessWindow g].opened.isSome then s.gr[g].obs.speed else s.sense.iface[i].speed
  | none => s.gr[g].obs.speed

/-- A deceleration to the SLS limit has reached it (R281). -/
def State.slsReached (s : State) (g : GroupId) : Bool :=
  match s.slsLimit g with
  | some l => decide (abs (s.sourceSpeed g) ≤ l)
  | none => false

/-- SLS (R280, R281): not while the group decelerates to the limit, which ends at the first step at or below it. -/
def watchSls (g : GroupId) (st : State) : State :=
  let s := onlyIf (st.slsReached g) (modGr g fun y => { y with slsFrom := none }) st
  let high : Bool := match s.slsLimit g with
    | some l => decide (l < abs (s.sourceSpeed g)) && s.gr[g].slsFrom.isNone && s.gr[g].selectNext.isNone
    | none => false
  modGr g (fun y => { y with slsOver := since high y.slsOver s.now }) s

/-- A reaction of R280, R283 or R284: SS1, or the safe state of R251 at once. -/
def safetyReaction (g : GroupId) (code src : Nat) (s : State) : State := if code = 1 then safeGroup g s else ss1Source g src s

/-- SDI (R283): the count moved in the excluded direction; above the tolerance E-8030 and the reaction. -/
def watchSdi (g : GroupId) (s : State) : State :=
  let x := s.gr[g]
  let d := x.pos.count - x.lastCount
  let back : Int := if s.sdi g = 1 then -d else d
  let acc := if s.sdi g != 0 && s.movesExcluded g (s.sdi g) then x.sdiAcc + max 0 back else 0
  let tol := s.act 0x8033 (g.val + 1)
  let s := modGr g (fun y => { y with sdiAcc := acc, lastCount := y.pos.count }) s
  if tol < acc ∧ x.sdiAcc ≤ tol then safetyReaction g (s.actN 0x8031 (g.val + 6)) ss1FromSdi (bump (0xE081 + g.val) 4 (raiseG 0x8030 g [acc] s)) else s

/-- The stopping point E_s of a group, counts (R284). -/
def State.stopPoint (s : State) (g : GroupId) : Int :=
  let n := s.gr[g].pos.speed
  let d := (n * n / (2 * max 1 (s.ss1Ramp g)) / 60 * 65536).floor
  s.gr[g].pos.count + if n < 0 then -d else if n = 0 then 0 else d

/-- A count lies beyond the SLP limits of a group. -/
def State.beyond (s : State) (g : GroupId) (e : Int) : Bool :=
  decide (e < s.act 0x8034 (g.val + 1)) || decide (s.act 0x8034 (g.val + 5) < e)

/-- SLP (R284; log 80): a stopping point beyond a limit starts SS1 with E-8032, once while the group runs and no SS1 acts. -/
def watchSlp (g : GroupId) (s : State) : State :=
  if !s.slpOn g then modGr g (fun y => { y with slpOver := none }) s
  else
    let s := modGr g (fun y => { y with slpOver := since (s.beyond g s.gr[g].pos.count) y.slpOver s.now }) s
    let free := !(s.running g).isEmpty && s.gr[g].ss1Due.isEmpty && !s.gr[g].ss1.any fun x => decide (x.goal = 0)
    if free && s.beyond g (s.stopPoint g) then ss1Source g ss1FromPrediction (bump (0xE081 + g.val) 6 (raiseG 0x8032 g [s.stopPoint g] s)) else s

/-- The bridge in whose step the monitor pair checks a group: the lowest in RUN, else the lowest. -/
def State.watchBridge (s : State) (g : GroupId) : Option BridgeId := (s.running g).head?.orElse fun _ => (s.bridgesOf g).head?

/-- The checks of R278 to R284 at a step of the group. -/
def watchGroup (g : GroupId) (s : State) : State := watchSlp g (watchSdi g (watchSls g (watchSs1 g s)))

end Sys2Proof.Machine
end

