-- ==== Sys2Proof/Machine/Split.lean ====
section
/-! DEFINITION. The group torque and its split: the stages of R208, shares and capacities, departures and arrivals, SS1 entry, short braking
(R208 to R214, R218, R224 to R230, R237, R246 to R249, R272, R277, R281). Torques are N·m. -/

namespace Sys2Proof.Machine

/-! Stages 1 to 5 (R208, R228, R246, R247, R277) -/

/-- What stages 2 to 5 leave of a torque: the torque, the first stage that reduced it (0 none), whether the speed or the direction did. -/
structure Stages where
  t : Rat
  first : Nat
  speedCut : Bool
  dirCut : Bool
  deriving DecidableEq, Repr

/-- Limit a magnitude. -/
def capMag (lim x : Rat) : Rat := max (-lim) (min lim x)

/-- Mechanical speed of a group, rad/s. -/
def State.omega (s : State) (g : GroupId) : Rat := s.gr[g].pos.speed * 2 * Config.pi / 60

/-- Stage 1: the latched target, or the torque that follows the ramp of an SS1 (R277), and zero speed from its confirmed standstill on while the
brake closes (R290). -/
def State.stageOne (s : State) (g : GroupId) : Rat :=
  match s.gr[g].ss1 with
  | some x =>
    let n := s.gr[g].pos.speed
    let v := if x.confirmed then 0 else s.rampSpeed g x
    Config.speedTorque g.val (if n < 0 then -v else v) n
  | none => (s.gr[g].latched : Rat) / 10

/-- Drag of the departed bridges in SAFE-ASC, a held catch ASC included (R218), whose currents are valid, sign inverted (R228): their sensors give
them, a bridge that shorts has no window set. Where the lookup gives no result the drag counts 0 (log 193). -/
def State.dragTorque (s : State) (g : GroupId) : Rat :=
  if s.gr[g].cond ≠ .reduced then 0
  else ((s.bridgesOf g).map fun b =>
    if s.br[b].state = .safeAsc && decide (s.allowedMode b ≤ 1) then
      let i := park (clarke (s.stepAmps b)) (s.frameAngle b g)
      match s.lookup g i.1 i.2 (s.frameAngle b g) s.gr[g].obs.temp with
      | some l => -l.torque
      | none => 0
    else 0).foldl (· + ·) 0

/-- A torque counts as generating against the group speed: standstill counts as motoring. -/
def State.generates (s : State) (g : GroupId) (t : Rat) : Bool := decide (t * s.gr[g].pos.speed < 0)

/-- Factor of stage 4 for a torque. -/
def State.regenFactor (s : State) (g : GroupId) (t : Rat) : Rat :=
  if s.generates g t then clamp01 (1 - (s.drive.udc - s.actR 0x7003 1) / max 1 (s.actR 0x7003 2)) else 1

/-- Factor of stage 5 for a torque: the lesser of the speed limit and the active SLS limit (R208, R280). -/
def State.speedFactor (s : State) (g : GroupId) (t : Rat) : Rat :=
  let n := abs s.gr[g].pos.speed
  let l := s.actR 0x7005 (g.val + 1)
  let l := match s.slsLimit g with
    | some k => min l k
    | none => l
  let lo := (1 - s.actR 0x7005 5 / 100) * l
  if t * s.gr[g].pos.speed ≤ 0 then 1 else if l ≤ n then 0 else if n ≤ lo then 1 else (l - n) / (l - lo)

/-- Direction of motion of a group: at standstill the direction last seen (R247; log 81). -/
def State.direction' (s : State) (g : GroupId) : Rat := if s.gr[g].pos.speed = 0 then s.gr[g].obs.lastGood else s.gr[g].pos.speed

/-- A permit (1 forward only, 2 reverse only) limits a torque to zero (R246). -/
def State.permitStops (s : State) (g : GroupId) (permit : Nat) (t : Rat) : Bool :=
  let n := s.gr[g].pos.speed
  (permit == 1 && decide (t < 0) && decide (n ≤ 0)) || (permit == 2 && decide (0 < t) && decide (0 ≤ n))

/-- The direction rules of stage 5 limit a torque to zero (R246, R247, R283). -/
def State.directionStops (s : State) (g : GroupId) (t : Rat) : Bool :=
  let d := s.direction' g
  let alone := if s.clove.windows[sensorlessWindow g].opened.isSome then (if d < 0 then 2 else if 0 < d then 1 else 0) else 0
  s.permitStops g (s.actN 0x7101 (g.val + 1)) t || s.permitStops g (s.sdi g) t || s.permitStops g alone t

/-- Stages 2 to 5 on the torque of stage 1; `regen` leaves out stage 4 where it is false (R248). -/
def State.stages (s : State) (g : GroupId) (t1 : Rat) (regen : Bool) : Stages :=
  let k := if s.generates g t1 then g.val + 5 else g.val + 1
  let w := abs (s.omega g)
  let x1 := t1 + s.dragTorque g
  let x2 := capMag (s.actR 0x7001 k / 10) x1
  let x3 := if w < 1 then x2 else capMag (s.actR 0x7002 k * 100 / w) x2
  let x4 := if regen then x3 * s.regenFactor g x3 else x3
  let x5 := x4 * s.speedFactor g x4
  let stop := s.directionStops g x5
  let x6 := if stop then 0 else x5
  { t := x6, speedCut := decide (abs x5 < abs x4), dirCut := stop && decide (x5 ≠ 0),
    first := if abs x2 < abs x1 then 2 else if abs x3 < abs x2 then 3 else if abs x4 < abs x3 then 4 else if abs x6 < abs x4 then 5 else 0 }

/-! Stage 6 and the ramps (R199, R208, R237, R250, R290) -/

/-- Ramp factor F of a group (R237), 0 while it waits for the brake (R290). -/
def State.rampFactor (s : State) (g : GroupId) : Rat :=
  if s.gr[g].rampHold then 0
  else (s.bridgesOf g).foldl (fun f b =>
    let x := s.br[b].start
    if x.joining then f
    else if x.phase = 3 ∨ x.phase = 4 ∨ x.phase = 5 then 0
    else if x.phase = 6 then min f (clamp01 (((s.now - x.since : Nat) : Rat) / max 1 (s.actR 0x7100 5 * 400000)))
    else f) 1

/-- Ramp after a re-acquisition (R198). -/
def State.reacqFactor (s : State) (g : GroupId) : Rat :=
  let r := s.gr[g].reacq
  if r.phase = 4 && !r.isCatch then clamp01 (((s.now - r.since : Nat) : Rat) / max 1 (s.actR 0x6031 4 * 400000)) else 1

/-- What a BRIDGE.DISABLE ramp leaves of a bridge's portion (R250). -/
def State.downFactor (s : State) (b : BridgeId) : Rat :=
  match s.br[b].ctl.rampDown with
  | some t => 1 - clamp01 (((s.now - t : Nat) : Rat) / max 1 (s.actR 0x7100 5 * 400000))
  | none => 1

/-! Shares (R212, R213, R227, R250) -/

/-- Shares of a list that sum to 1: equal where all are 0. -/
def renorm (l : List (BridgeId × Rat)) : List (BridgeId × Rat) :=
  let t : Rat := (l.map (·.2)).foldl (· + ·) 0
  l.map fun c => (c.1, if t = 0 then 1 / (l.length : Rat) else c.2 / t)

/-- Join ramp of a bridge (R227): 0 before its boundary. -/
def State.joinFactor (s : State) (b : BridgeId) : Rat :=
  let x := s.br[b].ctl
  match x.joinAt with
  | some t => clamp01 (((s.now - t : Nat) : Rat) / max 1 (s.actR 0x7011 9 * 400000))
  | none => if x.arrival = 0 then 1 else 0

/-- Give each bridge its factor of its share; the bridges without a factor take the rest in proportion. -/
def factored (l : List (BridgeId × Rat × Rat)) : List (BridgeId × Rat) :=
  let part : Rat := ((l.filter fun c => decide (c.2.2 ≠ 1)).map fun c => c.2.1 * c.2.2).foldl (· + ·) 0
  let free : Rat := ((l.filter fun c => decide (c.2.2 = 1)).map fun c => c.2.1).foldl (· + ·) 0
  if free = 0 then renorm (l.map fun c => (c.1, c.2.1 * c.2.2))
  else l.map fun c => (c.1, if c.2.2 = 1 then c.2.1 * (1 - part) / free else c.2.1 * c.2.2)

/-- The shares of a group's bridges in RUN (R212, R213, R227, R250). -/
def State.shares (s : State) (g : GroupId) : List (BridgeId × Rat) :=
  let bs := s.running g
  let l := renorm (bs.map fun b => (b, s.br[b].ctl.filtShare))
  let moving := bs.any fun b => s.br[b].ctl.arrival != 0 || s.br[b].ctl.joinAt.isSome || s.br[b].ctl.rampDown.isSome
  let n : Rat := (bs.length : Nat)
  let band := s.actR 0x7010 6 / 100
  let l := if s.gr[g].cond = .normal && !moving then
      renorm (l.map fun c => (c.1, max ((1 - band) / n) (min ((1 + band) / n) c.2)))
    else l
  let all := bs.all fun b => s.br[b].ctl.rampDown.isSome
  factored (l.map fun c => (c.1, c.2, s.joinFactor c.1 * if all then 1 else s.downFactor c.1))

/-! MTPA and capacity (R209, R214) -/

/-- Linear value between two points. -/
def between (x0 x1 y0 y1 x : Rat) : Rat := if x1 = x0 then y0 else y0 + (y1 - y0) * (x - x0) / (x1 - x0)

/-- Interpolation on a table of (torque in 0.1 N·m, id, iq) in rising torque, limited to its ends. -/
def onTable (t : Rat) : List (Int × Int × Int) → Rat × Rat
  | [] => (0, 0)
  | [p] => (p.2.1, p.2.2)
  | p :: q :: r =>
    if t ≤ p.1 then (p.2.1, p.2.2)
    else if t ≤ q.1 then (between p.1 q.1 p.2.1 q.2.1 t, between p.1 q.1 p.2.2 q.2.2 t)
    else onTable t (q :: r)

/-- The current point of a torque in N·m on one table; a table without negative torques serves both signs. -/
def planePoint (t : Rat) : List (Int × Int × Int) → Rat × Rat
  | [] => (0, 0)
  | p :: r => if t < 0 ∧ 0 ≤ p.1 then let i := onTable (-10 * t) (p :: r); (i.1, -i.2) else onTable (10 * t) (p :: r)

/-- A value on the two MTPA tables about the winding temperature (R209), none while one of them has not been built. -/
def State.onPlanes (s : State) (g : GroupId) (f : List (Int × Int × Int) → Rat × Rat) : Option (Rat × Rat) :=
  let o := 0x6001 + g.val
  let c := tempCoord ((List.range 4).map fun k => s.actR o (k + 4)) s.gr[g].obs.temp
  let tables := s.gr[g].atlas.mtpa.toList
  let lo := tables.getD c.lo []
  let hi := tables.getD c.hi []
  if lo.isEmpty || hi.isEmpty then none
  else some ((1 - c.frac) * (f lo).1 + c.frac * (f hi).1, (1 - c.frac) * (f lo).2 + c.frac * (f hi).2)

/-- The current point of a torque in N·m at the winding temperature (R209); before the first tables a free function (log 74). -/
def State.mtpaPoint (s : State) (g : GroupId) (t : Rat) : Rat × Rat := (s.onPlanes g (planePoint t)).getD (Config.mtpaOpen g.val t)

/-- The point of the segment from p to q whose magnitude is `lim`. -/
def crossPoint (lim : Rat) (p q : Rat × Rat) : Rat × Rat :=
  let d := (q.1 - p.1, q.2 - p.2)
  let a := d.1 * d.1 + d.2 * d.2
  let h := p.1 * d.1 + p.2 * d.2
  let c := p.1 * p.1 + p.2 * p.2 - lim * lim
  let u := if a = 0 then 0 else (Config.sqrt (max 0 (h * h - a * c)) - h) / a
  (p.1 + u * d.1, p.2 + u * d.2)

/-- The point of a table's motoring side at a current magnitude, limited to its ends (R214). -/
def pathPoint (lim : Rat) : List (Int × Int × Int) → Rat × Rat
  | [] => (0, 0)
  | [p] => (p.2.1, p.2.2)
  | p :: q :: r =>
    let at0 (x : Int × Int × Int) : Rat × Rat := (x.2.1, x.2.2)
    if q.1 ≤ 0 then pathPoint lim (q :: r)
    else if lim * lim ≤ (at0 p).1 * (at0 p).1 + (at0 p).2 * (at0 p).2 then at0 p
    else if lim * lim ≤ (at0 q).1 * (at0 q).1 + (at0 q).2 * (at0 q).2 then crossPoint lim (at0 p) (at0 q) else pathPoint lim (q :: r)

/-- Capacity of a bridge, N·m (R214): the atlas torque at I_lim along the current path of R211, derated; where that lookup gives no result, the
magnitude of the last step's atlas torque (log 193). -/
def State.capacity (s : State) (b : BridgeId) (g : GroupId) : Rat :=
  let lim := s.actR 0x7000 (g.val + 1)
  let top := ((s.onPlanes g (pathPoint lim)).map (·.1)).getD (Config.pathOpen g.val lim)
  let id := max (s.actR 0x7000 (g.val + 5)) (max (-lim) (min 0 top + s.br[b].ctl.fw))
  let iq := Config.sqrt (max 0 (lim * lim - id * id))
  let iq := match s.br[b].ctl.iqFit with
    | some q => min iq (abs q)
    | none => iq
  let t := match s.lookup g id iq (s.frameAngle b g) s.gr[g].obs.temp with
    | some l => abs l.torque
    | none => abs s.br[b].ctl.atlas[2]
  let cool := min 1 (s.br[b].ctl.thermHead / max (1 / 100) (s.actR 0x7010 7 / 100))
  t * cool * if s.gr[g].cond = .reduced then s.actR 0x7011 (g.val + 5) / 100 else 1

/-- A bridge's part while a torque is spread: share, capacity, whether it is capped. -/
structure Portion where
  bridge : BridgeId
  share : Rat
  cap : Rat
  full : Bool
  deriving DecidableEq, Repr

/-- What a bridge takes of a torque magnitude. -/
def Portion.takes (t : Rat) (l : List Portion) (p : Portion) : Rat :=
  let held : Rat := ((l.filter (·.full)).map (·.cap)).foldl (· + ·) 0
  let sum : Rat := ((l.filter fun q => !q.full).map (·.share)).foldl (· + ·) 0
  if p.full then p.cap else if sum = 0 then 0 else (t - held) * p.share / sum

/-- Cap the bridges above their capacity and spread the excess, until none is above it (R214). -/
def spread (t : Rat) : Nat → List Portion → List Portion
  | 0, l => l
  | n + 1, l => spread t n (l.map fun p => { p with full := p.full || decide (p.cap < p.takes t l) })

/-! SS1 entry and selection (R272, R276, R277, R279, R281) -/

/-- SS1 begins on a group (R277): E-8010 with its source, n0, a TORQUE.SET not completed is refused; the further sources are recorded
(R279). A deceleration to an SLS limit goes on as the SS1 (R281). -/
def enterSs1 (g : GroupId) (s : State) : State :=
  match s.gr[g].ss1Due with
  | [] => s
  | src :: more =>
    let x := s.gr[g]
    let s := modGr g (fun y => { y with
      ss1 := some { n0 := abs y.pos.speed, goal := 0, start := s.now, confirmed := false, excess := none, calm := none },
      ss1Due := [], setRef := none, setLatched := none }) s
    let s := bump (0xE081 + g.val) 1 (raiseG 0x8010 g [(src : Int), 0] s)
    let s := more.foldl (fun a k => raiseG 0x8010 g [(k : Int), 0] a) s
    let s := refuseTorque x s
    settleDrive (noteSs1 g (s.absSpeedMilli g) s)

/-- A waiting selection takes effect at the step of the group's lowest bridge in RUN (R272); a limit below the present speed begins a
deceleration (R281), also in an SS1, whose own ramp then goes on. -/
def enterSelection (g : GroupId) (s : State) : State :=
  if s.gr[g].selectNext.isNone then s
  else
    let s := takeSelection g s
    let stop := s.gr[g].ss1.any fun x => decide (x.goal = 0)
    let n := abs s.gr[g].pos.speed
    match s.slsLimit g with
    | some l =>
      if l < n then
        modGr g (fun y => { y with slsFrom := some s.now, ss1 := if stop then y.ss1 else some { n0 := n, goal := l, start := s.now, confirmed := false,
                                                                                                excess := none, calm := none } }) s
      else modGr g (fun y => { y with slsFrom := none, ss1 := if stop then y.ss1 else none }) s
    | none => modGr g (fun y => { y with slsFrom := none, ss1 := if stop then y.ss1 else none }) s

/-! Short braking (R248, R249) -/

/-- Hottest on-position of a side of a bridge. -/
def State.sideHeat (s : State) (b : BridgeId) (high : Bool) : Rat :=
  ((allSlots.filter fun k => slotHigh k == high).map (s.junction b)).foldl max (s.junction b (slotOf 0 high))

/-- The side that a bridge shorts first (R249; log 82): the cooler, low where equal; 0 where R105 leaves none or in SHUNT-ONLY. -/
def State.shortChoice (s : State) (b : BridgeId) : Nat :=
  if s.br[b].meas.mode = 2 then 0
  else match s.sideFree b false, s.sideFree b true with
    | true, true => if s.sideHeat b true < s.sideHeat b false then 2 else 1
    | true, false => 1
    | false, true => 2
    | false, false => 0

/-- Short braking is wanted (R248): the torque after stage 5 opposes the speed, below the regeneration minimum speed or with stage 4
acting. -/
def State.wantsShort (s : State) (g : GroupId) (t5 : Rat) : Bool :=
  let n := abs s.gr[g].pos.speed
  let min0 := s.actR 0x7102 (g.val + 1)
  s.generates g t5 && ((decide (s.actR 0x7102 6 / 100 * min0 ≤ n) && decide (n < min0)) || decide (s.regenFactor g t5 < 1))

/-- A bridge begins short braking, with E-7105 (R248). -/
def enterShort (g : GroupId) (b : BridgeId) (s : State) : State :=
  let side := s.shortChoice b
  if s.br[b].ctl.shortSide ≠ 0 ∨ side = 0 then s
  else bump (0xE076 + g.val) 6 (raiseB 0x7105 b [(side : Int)]
    (modCtl b (fun x => { x with shortSide := side, shortSince := s.now, shortFrac := 0, shortSum := 0, shortCount := 0 }) s))

/-- Short braking ends on a bridge, with E-7105 (R248). -/
def endShort (b : BridgeId) (s : State) : State :=
  if s.br[b].ctl.shortSide = 0 then s
  else raiseB 0x7105 b [0] (modCtl b (fun x => { x with shortSide := 0, shortFrac := 0, shortNow := false }) s)

/-- Mean atlas torque of a bridge at its measured currents, N·m (R248; log 187): over its steps since short braking began, its last step's without
it. -/
def State.meanTorque (s : State) (b : BridgeId) : Rat :=
  let x := s.br[b].ctl
  if x.shortSide = 0 ∨ x.shortCount = 0 then x.torque else x.shortSum / (x.shortCount : Rat)

/-- Short braking of a group at its split (R248). -/
def settleShort (g : GroupId) (t5 : Rat) (s : State) : State :=
  let want := s.wantsShort g t5
  let s := modGr g (fun x => { x with shortOff := if want then none else some (x.shortOff.getD s.now) }) s
  if want then forBr (s.running g) (enterShort g) s else s

/-! The split (R208, R212 to R214, R224 to R230) -/

/-- Bridges that were in RUN at the last split and are no more. -/
def State.gone (s : State) (g : GroupId) : List BridgeId :=
  (s.bridgesOf g).filter fun b => bitAt b.val s.gr[g].lastRun && decide (s.br[b].state ≠ .run)

/-- Arrivals due at this split join the ramp; where a bridge departs they wait for the next placement result (R227, R230). -/
def takeArrivals (g : GroupId) (s : State) : State :=
  let wait := !(s.gone g).isEmpty
  forBr (s.running g) (fun b a =>
    if a.br[b].ctl.arrival ≠ 2 then a
    else if wait then modCtl b (fun x => { x with arrival := 1 }) a
    else modCtl b (fun x => { x with arrival := 0, joinAt := some a.now }) a) s

/-- A join ramp that has reached 1 ends. -/
def endJoins (g : GroupId) (s : State) : State :=
  forBr (s.running g) (fun b a => if a.br[b].ctl.joinAt.isSome && decide (a.joinFactor b = 1) then
    modCtl b (fun x => { x with joinAt := none }) a else a) s

/-- The shares as an event carries them, per mille, in bridge order (log 6). -/
def State.shareWords (s : State) (g : GroupId) : List Int := (s.bridgesOf g).map fun b => (1000 * s.br[b].ctl.share).floor

/-- T_ach in 0.1 N·m. -/
def State.tAchWord (s : State) (g : GroupId) : Int := (10 * s.gr[g].tAch).floor

/-- A bridge has departed by a fault reaction (R226): not to STANDBY or to a held catch ASC. -/
def State.faultDeparture (s : State) (b : BridgeId) : Bool := decide (s.br[b].state ≠ .standby) && !s.heldCatch b

/-- Departures of a group after its split (R226): E-7002 for each, then PARTIAL with E-7004, or STOPPED. -/
def settleDepartures (g : GroupId) (left : List BridgeId) (s : State) : State :=
  if left.isEmpty then s
  else
    let s := left.foldl (fun a b => bump (0xE071 + g.val) 3 (raiseG 0x7002 g ((b.val + 1 : Int) :: a.shareWords g ++ [a.tAchWord g]) a)) s
    if (s.running g).length < s.actN 0x7011 (g.val + 1) then stopGroup g s
    else
      let s := if s.gr[g].departed then s else raiseG 0x7004 g [] (modGr g (fun x => { x with departed := true }) s)
      onlyIf (left.any s.faultDeparture) (beginWindow (lossWindow g)) s

/-- Torque of stage 7 and T_ach: slew, ramps, capacities and portions of the bridges in RUN (R208, R214, R237, R248). `low` is the bridge whose step
forms the split; the slew moves by the time since the last committed split, at most one step period (R208). -/
def formPortions (g : GroupId) (low : BridgeId) (s : State) : State :=
  let t1 := s.stageOne g
  let full := s.stages g t1 true
  let bare := s.stages g t1 false
  let s := settleShort g bare.t s
  let shorting := (s.running g).any fun b => s.br[b].ctl.shortSide != 0
  let st := if shorting then bare else full
  let x := s.gr[g]
  let slope := s.actR 0x7004 (g.val + 1) * (min (s.stepTicks low) (s.br[low].meas.sampleAt - x.slewAt) : Nat) / 400000
  let t6 := x.slew + capMag slope (st.t - x.slew)
  let f := s.rampFactor g * s.reacqFactor g
  let down : Rat := if (s.running g).all fun b => s.br[b].ctl.rampDown.isSome then ((s.running g).map s.downFactor).foldl min 1 else 1
  let t7 := (x.t0 + f * (t6 - x.t0)) * down
  let sh := s.shares g
  let parts := spread (abs t7) 4 (sh.map fun c => { bridge := c.1, share := c.2, cap := s.capacity c.1 g, full := false })
  let caps : Rat := (parts.map (·.cap)).foldl (· + ·) 0
  let regen := s.regenFactor g t7
  let sign : Rat := if t7 < 0 then -1 else 1
  let given (p : Portion) : Rat := sign * p.takes (abs t7) parts * if shorting && s.br[p.bridge].ctl.shortSide == 0 then regen else 1
  let ach := if shorting then ((s.running g).map s.meanTorque).foldl (· + ·) 0 else capMag caps st.t
  let eight := decide ((parts.map fun p => p.takes (abs t7) parts).foldl (· + ·) 0 < abs t7)
  let first := if st.first ≠ 0 then st.first else if eight then 8 else 0
  let s := modGr g (fun y => { y with slewNew := some (low, t6), tAch := ach }) s
  let s := parts.foldl (fun a p => modCtl p.bridge (fun c => { c with share := p.share, portion := given p }) a) s
  let s := forBr (s.bridgesOf g) (fun b a => if a.br[b].state = .run then a else modCtl b (fun c => { c with share := 0, portion := 0 }) a) s
  let idx := s.groupIndex g
  let s := onlyIf (first != 0) (fun a => raiseFirst 0x7001 3 idx [(g.val + 1 : Int), (first : Int)] g.val (bump (0xE071 + g.val) 1 a)) s
  let s := onlyIf st.speedCut (bump (0xE071 + g.val) 7) s
  onlyIf st.dirCut (fun a => raiseFirst 0x7106 3 idx [(g.val + 1 : Int)] g.val (bump (0xE076 + g.val) 7 a)) s

/-- Ramp phases whose factor has reached 1 end (R237). -/
def endRamps (g : GroupId) (s : State) : State :=
  if s.gr[g].rampHold then s
  else forBr (s.bridgesOf g) (fun b a =>
    if a.br[b].start.phase = 6 && decide (a.br[b].start.since + a.actN 0x7100 5 * ticksPerMs ≤ a.now) then
      modBr b (fun x => { x with start := { x.start with phase := 0 } }) a
    else a) s

/-- The split of a group is formed in the step of bridge `low` (R24, R208, R226, R227, R229, R230). -/
def formSplit (g : GroupId) (low : BridgeId) (s : State) : State :=
  let s := unlatchTorque g (enterSelection g (enterSs1 g s))
  let left := s.gone g
  let s := takeArrivals g s
  let fresh := (s.running g).filter fun b => s.br[b].ctl.joinAt == some s.now
  let s := modGr g (fun x => { x with latched := s.targetInUse g, setRef := none, setLatched := x.setRef, lastRun := maskOf (s.running g) }) s
  let s := formPortions g low s
  let s := fresh.foldl (fun a b => bump (0xE071 + g.val) 4 (raiseG 0x7003 g [(b.val + 1 : Int), a.tAchWord g] a)) s
  let s := settleDepartures g left (endRamps g (endJoins g s))
  onlyIf (decide (s.gr[g].cond = .reduced)) (bump (0xE071 + g.val) 5) s

/-- A bridge's step forms the split (R24, R226): the group's lowest bridge in RUN, or any one after a departure. -/
def State.formsSplit (s : State) (b : BridgeId) (g : GroupId) : Bool :=
  decide (s.br[b].state = .run) && ((s.running g).head? == some b || !(s.gone g).isEmpty)

/-- TORQUE.SET completes after the split step that latched its target, with T_ach of that step (R229). -/
def completeTorque (g : GroupId) (s : State) : State :=
  let x := s.gr[g]
  match x.setLatched with
  | none => s
  | some r =>
    let want := (x.latched : Rat) / 10
    let near := decide (abs (x.tAch - want) ≤ max 1 (abs want / 100))
    complete r (if near then stOk else stLimited) [BitVec.ofNat 64 (ofSigned 32 (s.tAchWord g))]
      (modGr g (fun y => { y with setLatched := none }) s)

end Sys2Proof.Machine
end

