-- ==== Sys2Proof/Machine/Loops.lean ====
section
/-! DEFINITION. The current loops of a step, its voltage reference, modulation, dead-time compensation, insertion and the commit (R22, R53,
R54, R127, R128, R134, R198, R210, R211, R216, R217, R244, R248). Currents A, voltages V, compares sixteenths of a tick. -/

namespace Sys2Proof.Machine

/-! Current loops (R210, R211) -/

/-- Voltage available to a bridge, V (R211). -/
def State.uMax (s : State) (b : BridgeId) : Rat := s.br[b].ctl.stepUdc / Config.sqrt3

/-- Step period of a bridge, s. -/
def State.stepSeconds (s : State) (b : BridgeId) : Rat := (s.br[b].ctl.stepPeriod : Rat) / 400000000

/-- Active bandwidth, Hz (R210): the lesser of the setting latched at the step (R23) and a tenth of the step rate. -/
def State.activeBandwidth (s : State) (b : BridgeId) : Nat :=
  let rate := if s.br[b].ctl.stepPeriod = 0 then 0 else 400000000 / s.br[b].ctl.stepPeriod
  min s.br[b].ctl.lims[2].toNat (rate / 10)

/-- What a pass of the loops gives. -/
structure Drive2 where
  ud : Rat
  uq : Rat
  intD : Rat
  intQ : Rat
  fw : Rat
  idRef : Rat
  iqRef : Rat
  limited : Bool            -- the voltage vector is limited
  cut : Bool                -- iq was reduced (R211)
  deriving DecidableEq, Repr

/-- One step of the loops (R210, R211; log 83) on references `id0` and `iq0`, within the limits latched at the step (R23). -/
def State.loops (s : State) (b : BridgeId) (g : GroupId) (l : Look) (id0 iq0 : Rat) : Drive2 :=
  let x := s.br[b].ctl
  let u0 := s.uMax b
  let lim : Rat := x.lims[0]
  let dLim : Rat := x.lims[1]
  let bw := 2 * Config.pi * (s.activeBandwidth b : Rat)
  let r := s.statorOhm b g
  let ts := s.stepSeconds b
  let w := s.omegaE g
  let idr := max dLim (id0 + x.fw)
  let iqr := capMag (Config.sqrt (max 0 (lim * lim - idr * idr))) iq0
  let ud := bw * l.ld * (idr - x.id) + x.intD - w * l.psiQ
  let uq := bw * l.lq * (iqr - x.iq) + x.intQ + w * l.psiD
  let size := magnitude (ud, uq)
  let limited := decide (u0 < size)
  let edge := (1 - (x.lims[3] : Rat) / 1000) * u0
  let fw := max (min 0 (dLim - id0)) (min 0 (x.fw - Config.fieldStep (size - edge)))
  let atLimit := decide (idr ≤ dLim)
  let room := Config.sqrt (max 0 (u0 * u0 - ud * ud))
  let uq2 := if limited && atLimit then capMag room uq else uq
  let gain := bw * l.lq
  let iq2 := if gain = 0 then iqr else iqr - (uq - uq2) / gain
  let size2 := magnitude (ud, uq2)
  let k := if u0 < size2 then u0 / size2 else 1
  { ud := ud * k, uq := uq2 * k, limited := limited, cut := limited && atLimit, fw := fw, idRef := idr, iqRef := iq2,
    intD := if limited then x.intD else x.intD + bw * r * (idr - x.id) * ts,
    intQ := if limited then x.intQ else x.intQ + bw * r * (iqr - x.iq) * ts }

/-! Modulation (R216, R217, R244) -/

/-- Phase references of a voltage vector at an angle. -/
def phaseRefs (u : Rat × Rat) (theta : Int) : Vector Rat 3 :=
  let x := unpark u theta
  #v[x.1, -x.1 / 2 + Config.sqrt3 / 2 * x.2, -x.1 / 2 - Config.sqrt3 / 2 * x.2]

/-- Phase with the highest value; the first of equal ones. -/
def highestPhase (v : Vector Rat 3) : Fin 3 := phases.foldl (fun m k => if v[m] < v[k] then k else m) 0

/-- Phase with the lowest value; the first of equal ones. -/
def lowestPhase (v : Vector Rat 3) : Fin 3 := phases.foldl (fun m k => if v[k] < v[m] then k else m) 0

/-- Clamp side of the last committed set: 0 none, 1 high, 2 low. -/
def State.lastClamp (s : State) (b : BridgeId) : Nat :=
  match s.br[b].car.shadow.orElse fun _ => s.br[b].car.active with
  | some c => (c.clamp.toList.find? (· ≠ 0)).getD 0
  | none => 0

/-- A bridge clamps a leg in this step (R216). -/
def State.clampsLeg (s : State) (b : BridgeId) (g : GroupId) : Bool :=
  let x := s.br[b].ctl
  let index := 1000 * magnitude (x.ud, x.uq) / s.uMax b
  if s.actBN b 0x7008 (g.val + 1) = 1 && !s.sawtooth b then
    if x.clamped then decide (s.actBR b 0x7008 8 ≤ index)
    else decide (s.actBR b 0x7008 5 ≤ index) && decide (s.actBR b 0x7008 6 / 100 * (x.lims[0] : Rat) ≤ magnitude (x.id, x.iq))
  else false

/-- The leg clamped in a step and its side: 1 high, 2 low (R217, R244), by the junction temperatures of the last placement result (R29). With no side of
the previous step to keep, equal temperatures take the high clamp (log 194). -/
def State.clampChoice (s : State) (b : BridgeId) (u : Vector Rat 3) : Fin 3 × Nat :=
  let hi := highestPhase u
  let lo := lowestPhase u
  if s.br[b].start.phase = 4 then (lo, 2)
  else
    let th := s.br[b].ctl.heat[slotOf hi true]
    let tl := s.br[b].ctl.heat[slotOf lo false]
    let hys := s.actBR b 0x7008 7
    match s.lastClamp b with
    | 1 => if tl + hys ≤ th then (lo, 2) else (hi, 1)
    | 2 => if th + hys ≤ tl then (hi, 1) else (lo, 2)
    | _ => if tl < th then (lo, 2) else (hi, 1)

/-- Sign of a number. -/
def signOf (x : Rat) : Int := if x < 0 then -1 else if 0 < x then 1 else 0

/-- The current sign of a phase for dead-time compensation (R134). -/
def State.currentSign (s : State) (b : BridgeId) (k : Fin 3) : Int :=
  let x := s.br[b].ctl
  let i := x.amps[k]
  let ref := (phaseRefs (x.idRef, x.iqRef) x.theta)[k]
  if s.actBR b 0x4030 5 ≤ abs i then signOf i
  else match (s.br[b].legs[k]).mean, (s.br[b].legs[k]).meanCmd with
    | some m, some c => if c = m then signOf ref else signOf (c - m)
    | _, _ => signOf ref

/-! Compares (R49, R127, R128, R134) -/

/-- A leg's compares while they are formed. -/
structure Pairing where
  cu : Int
  cd : Int
  insU : Int
  insD : Int
  clamp : Nat
  ledger : Int
  deriving DecidableEq, Repr

/-- Compares of a clamped leg. -/
def clampedLeg (top : Int) (side : Nat) (ledger : Int) : Pairing :=
  { cu := if side = 1 then 16 * top else 0, cd := if side = 1 then 16 * top else 0, insU := 0, insD := 0, clamp := side, ledger := ledger }

/-- Compares of a leg with duty `d`, compensated by `comp` per edge and by its ledger, half to each compare (R128, R134);
in sawtooth mode, which ignores CD, all of it to CU (log 156). -/
def modulatedLeg (saw : Bool) (top : Int) (d : Rat) (comp ledger : Int) : Pairing :=
  let base := (d * (16 * top : Int)).floor
  let c := clampInt 0 (16 * top)
  if saw then
    let u := c (base + 2 * comp)
    let u2 := c (u + ledger)
    { cu := u2, cd := 0, insU := 0, insD := 0, clamp := 0, ledger := ledger - (u2 - u) }
  else
    let u := c (base + comp)
    let h := ledger / 2
    let u2 := c (u + h)
    let d2 := c (u + (ledger - h))
    { cu := u2, cd := d2, insU := 0, insD := 0, clamp := 0, ledger := ledger - (u2 - u) - (d2 - u) }

/-- Move a leg's edge of the window half by `by0` sixteenths (positive later), within 0 and TOP. `mode` 0 a rising half, 1 a falling half, 2
sawtooth. -/
def shiftEdge (mode : Nat) (top by0 : Int) (p : Pairing) : Pairing :=
  let c := clampInt 0 (16 * top)
  if mode = 1 then { p with cd := c (p.cd + by0), insD := c (p.cd + by0) - p.cd }
  else
    let v := c (if mode = 0 then p.cu - by0 else p.cu + by0)
    { p with cu := v, insU := v - p.cu }

/-- Time of a leg's edge in the window half, where it has one. -/
def edgeTime (mode : Nat) (top : Int) (p : Pairing) : Option Int :=
  let e := if mode = 1 then p.cd else p.cu
  if e ≤ 0 ∨ 16 * top ≤ e then none else some (if mode = 0 then 16 * top - e else e)

/-- The legs with an edge in the window half, in the order of their edges. -/
def edgeOrder (mode : Nat) (top : Int) (v : Vector Pairing 3) : List (Fin 3 × Int) :=
  let l := phases.filterMap fun k => (edgeTime mode top v[k]).map fun t => (k, t)
  l.foldl (fun acc c => acc.filter (fun d => decide (d.2 ≤ c.2)) ++ [c] ++ acc.filter (fun d => decide (c.2 < d.2))) []

/-- Phase-shift insertion (R127): the compares after it and the number of insertions. `tmin` and `lim` in sixteenths. -/
def insertShift (mode : Nat) (top tmin lim : Int) (v : Vector Pairing 3) : Vector Pairing 3 × Nat :=
  let l := edgeOrder mode top v
  let first (w : Vector Pairing 3 × Nat) : Vector Pairing 3 × Nat := match l with
    | a :: c :: _ =>
      let d := tmin - (c.2 - a.2)
      if 0 < d ∧ d ≤ lim then (w.1.set a.1 (shiftEdge mode top (-d) w.1[a.1]), w.2 + 1) else w
    | _ => w
  let third (w : Vector Pairing 3 × Nat) : Vector Pairing 3 × Nat := match l with
    | [_, c, e] =>
      let d := tmin - (e.2 - c.2)
      if 0 < d ∧ d ≤ lim then (w.1.set e.1 (shiftEdge mode top d w.1[e.1]), w.2 + 1) else w
    | _ => w
  third (first (v, 0))

/-- Half in which the window set of the set formed now will lie (R123): 0 rising, 1 falling, 2 sawtooth. -/
def State.windowMode (s : State) (b : BridgeId) : Nat :=
  if s.sawtooth b then 2
  else match s.reloadPoint b with
    | 0 => 0
    | 1 => 1
    | _ => if s.br[b].meas.halfUp then 0 else 1

/-- Dead time of the band that the next reload puts in force, ticks (R40, R58). -/
def State.nextDead (s : State) (b : BridgeId) : Nat := s.br[b].th.dead[s.br[b].th.band]

/-- The set that a step's reference becomes (R40, R127, R128, R134, R216, R217, R244), with each leg's remaining ledger and the number of
insertions. -/
def State.convert (s : State) (b : BridgeId) : CompareSet × Vector Int 3 × Nat :=
  let x := s.br[b].ctl
  let top : Int := s.nextTop b
  let udc := if x.stepUdc = 0 then 1 else x.stepUdc
  let u := phaseRefs (x.ud, x.uq) x.theta
  let clamps := x.clamped || s.br[b].start.phase == 4
  let pick := s.clampChoice b u
  let zero : Rat := if !clamps then -((u[highestPhase u] + u[lowestPhase u]) / 2)
    else if pick.2 = 1 then udc / 2 - u[pick.1] else -udc / 2 - u[pick.1]
  let legs : Vector Pairing 3 := Vector.ofFn fun k =>
    let led := (s.br[b].legs[k]).ledger
    if clamps && decide (k = pick.1) then clampedLeg top pick.2 led
    else modulatedLeg (s.sawtooth b) top (clamp01 (1 / 2 + (u[k] + zero) / udc)) (8 * (s.nextDead b : Int) * s.currentSign b k) led
  let tmin : Int := 16 * (s.nextDead b + s.actBN b 0x4020 1 + s.actBN b 0x4020 2)
  let r := insertShift (s.windowMode b) top tmin (16 * s.actB b 0x4020 3) legs
  ({ cu := r.1.map (·.cu), cd := r.1.map (·.cd), insU := r.1.map (·.insU), insD := r.1.map (·.insD), clamp := r.1.map (·.clamp),
     resume := s.resuming b }, legs.map (·.ledger), r.2)

/-- The set of a short step (R248): every leg at 0 or at TOP. -/
def State.shortSet (s : State) (b : BridgeId) : CompareSet :=
  let v : Int := if s.br[b].ctl.shortSide = 2 then 16 * s.nextTop b else 0
  { cu := .replicate 3 v, cd := .replicate 3 v, insU := .replicate 3 0, insD := .replicate 3 0, clamp := .replicate 3 0, resume := false }

/-! The commit (R53, R54, R79) -/

/-- Tick of the bridge's next reload after tick t, in a period adjusted for phase lock too (R74, R75). -/
def State.nextReload (s : State) (b : BridgeId) (t : Nat) : Nat :=
  let v := s.br[b].car.valley
  let p := ((s.periodTicks b : Int) + s.br[b].car.adjust).toNat
  let peak := v + s.br[b].car.top
  if s.sawtooth b then v + p
  else match s.reloadPoint b with
    | 0 => v + p
    | 1 => if t ≤ peak then peak else peak + p
    | _ => if t ≤ peak then peak else v + p

/-- The edges that a leg is expected to take from a set at a reload (R60 to R65), with its accumulator and dither as they stand at the commit (log 77). -/
def State.expectedEdges (s : State) (b : BridgeId) (k : Fin 3) (c : CompareSet) (atPeak : Bool) : Nat × Nat :=
  let car := s.br[b].car
  let l := s.br[b].legs[k]
  let top := if atPeak then car.top else s.nextTop b
  let thr : Int := s.deadTime b + s.actN 0x2014 1
  let phase := if atPeak then car.dither.val else (car.dither.val + 1) % 16
  let f := formEdges (s.sawtooth b) (s.actN 0x2013 (b.val + 1) == 0) (s.reloadPoint b) atPeak phase top (s.nextTop b) thr l.up l c.cu[k] c.cd[k]
  (f.x.toNat, f.y.toNat)

/-- Energy that a set committed at tick t adds to each position for the period that it will drive (R362, R363). -/
def State.setEnergy (s : State) (b : BridgeId) (c : CompareSet) (t : Nat) : Vector Rat 6 :=
  let car := s.br[b].car
  let atPeak := !s.sawtooth b && (s.reloadPoint b == 1 || (s.reloadPoint b == 2 && decide (t ≤ car.valley + car.top)))
  let top := if atPeak then car.top else s.nextTop b
  let was (k : Fin 3) : Option Bool := if s.switching b then some ((s.br[b].legs[k]).endLevel (s.sawtooth b) atPeak car.top) else none
  let l (k : Fin 3) : List Stretch :=
    let e := s.expectedEdges b k c atPeak
    edgesOf (was k) (s.legLevels b atPeak top e.1 e.2)
  Vector.ofFn fun n => s.slotEnergyOn b (2 * top) (was (phaseOfSlot n)) (l (phaseOfSlot n)) n

/-- A set is committed (R53, R54), and charged for the period that it will drive where no forcing keeps it from driving (R362, R363): the next tag; it replaces a set not yet applied; inside the guard window it waits one reload more, at a reload
that has just been made it waits for the next one; both count as late, and E-2001 is raised when such commits reach 0x2015.02 in the epoch. -/
def commitSet (b : BridgeId) (c : CompareSet) (t : Nat) (s : State) : State :=
  let just := decide (t ≠ 0) && s.br[b].car.reloadAt == t
  let late := just || decide (s.nextReload b t ≤ t + s.actBN b 0x2015 1)
  let replaced := s.br[b].car.shadow.isSome
  let s := uncharge b s
  let s := onlyIf (s.br[b].force.pattern == 0 || c.resume) (chargeSet b (s.setEnergy b c t)) s
  let s := modBr b (fun x => { x with car := { x.car with shadow := some c, tag := (x.car.tag + 1) % 65536,
                                                          shadowTag := (x.car.tag + 1) % 65536, skip := late && !just } }) s
  let s := onlyIf replaced (bump (0xE021 + b.val) 3) s
  if late then
    let s := bump (0xE021 + b.val) 1 s
    if s.counter (0xE021 + b.val) 1 = s.actN 0x2015 2 then raiseB 0x2001 b [] s else s
  else s

/-- Convert and commit the step's reference. A bridge that has left RUN since its sample instant keeps its ledgers cleared (R40, R128). -/
def commitStep (b : BridgeId) (g : GroupId) (t : Nat) (s : State) : State :=
  if s.br[b].ctl.shortNow then commitSet b (s.shortSet b) t s
  else
    let r := s.convert b
    let old := s.lastClamp b
    let new := (r.1.clamp.toList.find? (· ≠ 0)).getD 0
    let s := onlyIf (decide (s.br[b].state = .run) && s.br[b].force.pattern == 0)
      (modBr b fun x => { x with legs := Vector.ofFn fun k => { x.legs[k] with ledger := r.2.1[k], ledgerLeft := r.2.1[k] } }) s
    let s := onlyIf (decide (old ≠ 0) && decide (new ≠ 0) && decide (old ≠ new)) (bump (0xE071 + g.val) 6) s
    commitSet b r.1 t (bumpBy (0xE041 + b.val) 5 r.2.2 s)

/-! The end of a step -/

/-- A step without a set yet starts its loops: at zero, or at the measured currents in a resume step (R198; log 84). -/
def startLoops (b : BridgeId) (g : GroupId) (s : State) : State :=
  if s.br[b].car.shadow.isSome || s.br[b].car.active.isSome then s
  else
    let r := s.statorOhm b g
    let keep := s.resuming b
    modCtl b (fun x => { x with fw := 0, clamped := false, iqFit := none, intD := if keep then r * x.id else 0, intQ := if keep then r * x.iq else 0,
                                idRef := if keep then x.id else x.idRef, iqRef := if keep then x.iq else x.iqRef }) s

/-- The step that formed the group's split commits it (R221, R229): the output of stage 6 stands, TORQUE.SET completes. -/
def commitSplit (b : BridgeId) (g : GroupId) (s : State) : State :=
  match s.gr[g].slewNew with
  | some (c, t6) => if c = b then completeTorque g (modGr g (fun x => { x with slew := t6, slewNew := none, slewAt := s.br[b].meas.sampleAt }) s) else s
  | none => s

/-- The step computes its reference from the atlas values and commits its set (R22 steps 6 and 7, R210 to R217). -/
def finishStep (b : BridgeId) (g : GroupId) (l : Look) (t : Nat) (s : State) : State :=
  let s := startLoops b g s
  let x := s.br[b].ctl
  let d := s.loops b g l x.idRef x.iqRef
  let adv := (s.elecHz g s.gr[g].pos.speed * 65536 * 3 / 2 * s.stepSeconds b).floor
  let s := modCtl b (fun y => { y with ud := d.ud, uq := d.uq, intD := d.intD, intQ := d.intQ, fw := d.fw, idRef := d.idRef, iqRef := d.iqRef,
                                       iqFit := if d.cut then some d.iqRef else none, fbw := s.activeBandwidth b,
                                       theta := y.theta + adv }) s
  let s := onlyIf d.cut (fun a => raiseFirst 0x700C 3 (a.groupIndex g) [(g.val + 1 : Int)] g.val (bump (0xE071 + g.val) 2 a)) s
  let clamps := s.clampsLeg b g
  let s := commitStep b g t (modCtl b (fun y => { y with clamped := clamps }) s)
  commitSplit b g (modCtl b (fun y => { y with gotRef := true, lookup := false, abandoned := 0 }) s)

end Sys2Proof.Machine
end

