-- ==== Sys2Proof/Machine/Control.lean ====
section
/-! DEFINITION. The control step: what the control pair does with the samples, the angle of a start, the atlas result and its lateness, the
end of short braking (R22 to R28, R163 to R165, R177, R178, R180, R198, R242 to R245, R248, R390). -/

namespace Sys2Proof.Machine

/-! Starts in a step (R236, R242 to R244) -/

/-- The Angle phase (R242): the source's angle, or a saliency search whose outcome is a free value (log 76); the Ramp phase begins at the
first step after the angle is found. A joining bridge uses the group's angle, once a bridge of the group has one. -/
def stepAngle (b : BridgeId) (g : GroupId) (s : State) : State :=
  let x := s.br[b].start
  let others := (s.running g).filter (· != b)
  if x.found || s.turnReferenced g || x.joining && others.any (fun c => s.br[c].start.phase != 3) then enterRamp b s
  else if x.joining && !others.isEmpty then s
  else
    let s1 := drew s
    match Config.saliency s.freeCount with
    | some a => modGr g (fun y => { y with obs := { y.obs with angle := a % 65536, speed := 0, stamp := s.br[b].meas.sampleAt } })
        (modBr b (fun y => { y with start := { y.start with found := true } }) s1)
    | none => s1

/-- The start phases that a step moves on (R242, R244). -/
def stepStart (b : BridgeId) (g : GroupId) (s : State) : State :=
  if s.br[b].start.phase = 3 then stepAngle b g s
  else if s.br[b].start.phase = 4 ∧ s.highRailsReady b then enterRamp b s
  else s

/-! The inputs of the loops -/

/-- The currents of the step in the bridge's frame (R121, R210), and the limits latched with them (R22 step 4, R23). -/
def readCurrents (b : BridgeId) (g : GroupId) (s : State) : State :=
  let v := s.stepAmps b
  let th := s.frameAngle b g
  let i := park (clarke v) th
  let period := s.stepTicks b
  modCtl b (fun x => { x with amps := v, id := i.1, iq := i.2, theta := th, stepUdc := s.drive.udc, stepPeriod := period,
                              lims := #v[s.act 0x7000 (g.val + 1), s.act 0x7000 (g.val + 5), s.act 0x7006 (g.val + 1), s.act 0x7007 (g.val + 1)],
                              askTemp := s.gr[g].obs.temp,
                              ampSum := x.ampSum + magnitude i, ampCount := x.ampCount + 1 }) s

/-- The current references of the step (R209, R244): none in the Charge phase, those of the resume step while a release is awaited; a
bridge that shorts takes none in a step that is not short (R248). -/
def setReferences (b : BridgeId) (g : GroupId) (s : State) : State :=
  let x := s.br[b]
  if s.resuming b then s
  else
    let zero := x.start.phase = 4 ∨ x.ctl.shortSide ≠ 0
    let i := if zero then (0, 0) else s.mtpaPoint g x.ctl.portion
    modCtl b (fun c => { c with idRef := i.1, iqRef := i.2 }) s

/-- Torque of a short at the ASC currents, N·m (R248). -/
def State.shortTorque (s : State) (b : BridgeId) (g : GroupId) : Rat :=
  let i := s.ascPoint b g (1000 * s.elecHz g s.gr[g].pos.speed)
  match s.lookup g i.1 i.2 (s.frameAngle b g) s.gr[g].obs.temp with
  | some l => abs l.torque
  | none => abs s.br[b].ctl.atlas[2]

/-- Short steps fill a fraction of the steps equal to the target over T_s (R248). -/
def placeShort (b : BridgeId) (g : GroupId) (s : State) : State :=
  let x := s.br[b].ctl
  if x.shortSide = 0 then modCtl b (fun c => { c with shortNow := false }) s
  else
    let ts := s.shortTorque b g
    let want := abs x.portion
    let f := x.shortFrac + if want < ts then want / ts else 1
    let now := decide (1 ≤ f)
    modCtl b (fun c => { c with shortNow := now, shortFrac := if now then f - 1 else f }) (drew s)

/-! CONTROL_STEP -/

/-- DRAM words of the sixteen cells of a lookup (R177, R390). -/
def State.lookupCells (s : State) (g : GroupId) (id iq : Rat) (theta : Int) : List Nat :=
  let p := (s.pointOf g id iq theta s.gr[g].obs.temp).1
  corners.map fun c => cellAddr g (p.index c)

/-- The cells of a step's two lookups that the prefetch buffer holds for its bridge are not read again (R388, R390). -/
def takePrefetch (b : BridgeId) (g : GroupId) (s : State) : State :=
  let x := s.br[b].ctl
  let i := park (clarke s.br[b].meas.recon) x.theta
  let cells := s.lookupCells g x.id x.iq x.theta ++ s.lookupCells g i.1 i.2 x.theta
  let hits := (cells.filter fun a => s.arb.prefetch.contains (b.val, a)).length
  bumpBy 0xE0A0 10 (cells.length - hits) (bumpBy 0xE0A0 9 hits
    { s with arb := { s.arb with prefetch := s.arb.prefetch.filter fun c => decide (c.1 ≠ b.val) } })

/-- The step of a bridge waits for its lookup. -/
def State.waits (s : State) (b : BridgeId) : Bool := s.br[b].ctl.opened && s.br[b].ctl.lookup && !s.br[b].ctl.lost

/-- The atlas lookups are requested (R22 step 4, R390), behind those of another bridge's step where one waits. -/
def askAtlas (b : BridgeId) (g : GroupId) (t : Nat) (s : State) : State :=
  takePrefetch b g (modCtl b (fun x => { x with lookup := true, askAt := t, queued := allBr.any fun c => c != b && s.waits c }) s)

/-- The lookups of bridge b are the ones in service: those asked for while the engine's queue was empty, then the waiting ones in order of sample
instant (R390). -/
def State.served (s : State) (b : BridgeId) : Bool :=
  !s.br[b].ctl.queued || allBr.all fun c => c == b || !s.waits c ||
    (s.br[c].ctl.queued && decide (s.br[b].meas.sampleAt ≤ s.br[c].meas.sampleAt))

/-- The step of a bridge in RUN up to its lookup (R22 step 4, R24, R163). -/
def runStep (b : BridgeId) (g : GroupId) (t : Nat) (s : State) : State :=
  let s := readStep b s.br[b].ctl.shortNow s
  if !s.br[b].ctl.opened then s
  else
    let s := onlyIf ((s.running g).head? == some b) (vote g s.br[b].meas.sampleAt) s
    if !s.br[b].ctl.opened then s
    else
      let s := stepStart b g (onlyIf (s.br[b].meas.mode == 2) (endShort b) s)
      let s := onlyIf (s.formsSplit b g) (formSplit g b) s
      if !s.br[b].ctl.opened then s
      else askAtlas b g t (placeShort b g (setReferences b g (readCurrents b g s)))

/-- The resume step of a bridge whose forcing Clove will release (R198, R245). -/
def resumeStep (b : BridgeId) (g : GroupId) (t : Nat) (s : State) : State := askAtlas b g t (readCurrents b g (missStep b s))

/-- CONTROL_STEP (R22, R24, R197; log 85). The monitor pair's checks of a group stand in the step of one of its bridges. -/
def controlStep (b : BridgeId) (t : Nat) (s : State) : State :=
  let s := setNow t s
  match s.groupOf b with
  | none => s
  | some g =>
    let s := noteAlpha b g (onlyIf (s.watchBridge g == some b) (watchGroup g) s)
    let x := s.br[b].ctl
    if !x.opened || x.lookup || x.gotRef || x.lost then s
    else if s.resuming b then resumeStep b g t s
    else runStep b g t s

/-- CONTROL_STEP. -/
def execControlStep (b : BridgeId) (t : Nat) (s : State) : Host.Outcome State Fault Refusal := .next (onlyIf s.coresOn (controlStep b t) s)

/-! The atlas result (R28, R177, R178, R180, R390) -/

/-- The atlas values of the previous step. -/
def Ctl.oldLook (x : Ctl) : Look :=
  { psiD := x.atlas[0], psiQ := x.atlas[1], torque := x.atlas[2], loss := x.atlas[3], slopeD := x.atlasSlope[0], slopeQ := x.atlasSlope[1],
    ld := x.atlasSlope[2], lq := x.atlasSlope[3], conf := x.conf, outside := false }

/-- The step uses the previous step's atlas values, counted, in its observer too (R180); a second such step in a row gets no reference, nor
does a third (R28; log 141). -/
def staleAtlas (b : BridgeId) (g : GroupId) (t : Nat) (s : State) : State :=
  let x := s.br[b].ctl
  let s := modCtl b (fun y => { y with lookup := false, staleLast := true }) s
  if x.staleLast then s
  else
    let s := bump (0xE061 + g.val) 1 s
    let s := onlyIf ((s.running g).head? == some b) (observe b g (x.id, x.iq) x.oldLook s.br[b].meas.sampleAt) s
    if s.br[b].ctl.opened then finishStep b g x.oldLook t s else s

/-- A lookup is beyond the bound (R390; log 203): counted, with E-6808 for the first in the epoch. -/
def beyondBound (b : BridgeId) (s : State) : State :=
  raiseFirst 0x6808 3 (b.val + 1) [(b.val + 1 : Int)] b.val (bump 0xE0A0 8 s)

/-- The latency of a lookup that has returned, ns, against the longest of the epoch and against the bound, which is not for a queued one (R390). -/
def noteLatency (b : BridgeId) (ticks : Nat) (s : State) : State :=
  let ns := 5 * ticks / 2
  onlyIf (!s.br[b].ctl.queued && decide (2 * s.lookupBound < 5 * ticks)) (beyondBound b) { s with arb := { s.arb with longest := max s.arb.longest ns } }

/-- A lookup limited to the edge of the grid is counted, with or without a result, with E-6002 for the first in the epoch (R177). -/
def noteOutside (g : GroupId) (limited : Bool) (s : State) : State :=
  onlyIf limited (fun a => raiseFirst 0x6002 3 (a.groupIndex g) [(g.val + 1 : Int)] g.val (bump (0xE061 + g.val) 4 a)) s

/-- The result of the step's lookup is used (R177, R180), by a short-braking bridge for its mean torque too (R248). -/
def useAtlas (b : BridgeId) (g : GroupId) (l : Look) (t : Nat) (s : State) : State :=
  let s := onlyIf (s.br[b].ctl.shortSide != 0) (modCtl b fun x => { x with shortSum := x.shortSum + l.torque, shortCount := x.shortCount + 1 }) s
  let s := modCtl b (fun x => { x with staleLast := false, atlas := #v[l.psiD, l.psiQ, l.torque, l.loss],
                                       atlasSlope := #v[l.slopeD, l.slopeQ, l.ld, l.lq], conf := l.conf, torque := l.torque }) s
  let i := (s.br[b].ctl.id, s.br[b].ctl.iq)
  let s := onlyIf ((s.running g).head? == some b) (observe b g i l s.br[b].meas.sampleAt) s
  if s.br[b].ctl.opened then finishStep b g l t s else s

/-- ATLAS_LOOKUP_RESULT (R177, R178, R210, R211): the point that the step asked for; a lookup without a result counts as late. The result of a
lookup that stands behind another in the queue does not come yet (R390). -/
def atlasResult (b : BridgeId) (t : Nat) (s : State) : State :=
  let s := setNow t s
  match s.groupOf b with
  | none => s
  | some g =>
    let x := s.br[b].ctl
    if !s.waits b || !s.served b then s
    else
      let s := noteOutside g (s.pointOf g x.id x.iq x.theta x.askTemp).2 (noteLatency b (t - x.askAt) s)
      match s.lookup g x.id x.iq x.theta x.askTemp with
      | some l => useAtlas b g l t s
      | none => staleAtlas b g t s

/-- ATLAS_LOOKUP_RESULT. -/
def execAtlasLookupResult (b : BridgeId) (t : Nat) (s : State) : Host.Outcome State Fault Refusal := .next (onlyIf s.engineOn (atlasResult b t) s)

/-- ATLAS_RESULT_TIMEOUT (R28): no result within 1.5 µs of the request, which is beyond the bound of any table for one that is not queued (R390). -/
def atlasTimeout (b : BridgeId) (t : Nat) (s : State) : State :=
  let s := setNow t s
  match s.groupOf b with
  | none => s
  | some g => if s.waits b then staleAtlas b g t (onlyIf (!s.br[b].ctl.queued) (beyondBound b) s) else s

/-- ATLAS_RESULT_TIMEOUT. -/
def execAtlasResultTimeout (b : BridgeId) (t : Nat) (s : State) : Host.Outcome State Fault Refusal := .next (atlasTimeout b t s)

/-- SHORT_BRAKE_EXIT (R248): neither condition has held for 50 ms; E-7105. -/
def shortExit (b : BridgeId) (s : State) : State :=
  match s.groupOf b with
  | none => s
  | some g =>
    match s.gr[g].shortOff with
    | none => s
    | some t =>
      if s.br[b].ctl.shortSide = 0 then s
      else
        let s := setNow (t + 50 * ticksPerMs) s
        endShort b s

/-- SHORT_BRAKE_EXIT. -/
def execShortBrakeExit (b : BridgeId) (s : State) : Host.Outcome State Fault Refusal := .next (shortExit b s)

end Sys2Proof.Machine
end

