-- ==== Sys2Proof/Machine/Thermal.lean ====
section
/-! DEFINITION. The thermal model, its bands and trips, die throttling and the housekeeping round (R136, R188, R364 to R373). Temperatures in
0.1 °C. -/

namespace Sys2Proof.Machine

/-- Over-temperature trip of a bridge (R371): E-9103 with the position or leg and the cause (1 estimate, 2 NTC), its safe state. -/
def overTemperature (b : BridgeId) (place cause : Nat) (s : State) : State :=
  let s := bump (0xE091 + b.val) 3 (raiseB 0x9103 b [(place : Int), (cause : Int)] (modTh b (fun x => { x with tripped := true }) s))
  safeRequest .cloveRequest 3 b s

/-! THERMAL_UPDATE (R364, R365, R368 to R371) -/

/-- R_k (K/W), τ_k (s) of chain resistance k, R_B and τ_B of a bridge's network (R365); an ungrouped bridge takes those of M1. -/
def State.chainR (s : State) (b : BridgeId) (k : Nat) : Rat := s.actR 0x9102 (4 * (s.groupFor b).val + k + 1) / 1000
def State.chainTau (s : State) (b : BridgeId) (k : Nat) : Rat := s.actR 0x9103 (4 * (s.groupFor b).val + k + 1) / 1000000
def State.baseR (s : State) (b : BridgeId) : Rat := s.actR 0x9104 ((s.groupFor b).val + 1) / 1000
def State.baseTau (s : State) (b : BridgeId) : Rat := s.actR 0x9104 ((s.groupFor b).val + 5)

/-- Rate, per second, at which node j of a leg's network follows node i (R365). The nodes are J, N2, N3, N4 of LnH, the same of LnL, and Bn: a node of
a chain has the capacitance τ_k / R_k, Bn, which both chains reach through R_4, has τ_B / R_B. -/
def State.coupling (s : State) (b : BridgeId) (j i : Nat) : Rat :=
  let r := s.chainR b
  let tau := s.chainTau b
  if j < 8 then
    let k := j % 4
    if k < 3 ∧ i = j + 1 then 1 / tau k
    else if k = 3 ∧ i = 8 then 1 / tau 3
    else if 0 < k ∧ i + 1 = j then r k / (r (k - 1) * tau k)
    else 0
  else if i = 3 ∨ i = 7 then s.baseR b / (r 3 * s.baseTau b) else 0

/-- The matrix of a leg's network times a time in ticks (R365): Bn also gives heat to the coolant through R_B. -/
def State.networkMatrix (s : State) (b : BridgeId) (ticks : Nat) : List (List Rat) :=
  let dt : Rat := (ticks : Rat) / 400000000
  (List.range 9).map fun j =>
    let out : Rat := ((List.range 9).map (s.coupling b j)).foldl (· + ·) 0 + if j = 8 then 1 / s.baseTau b else 0
    (List.range 9).map fun i => dt * (s.coupling b j i - if i = j then out else 0)

/-- Steady temperatures of a leg's nodes at constant powers of LnH and LnL in W, 0.1 °C (R365). -/
def State.steadyNodes (s : State) (b : BridgeId) (ph pl : Rat) : List Rat :=
  let base : Rat := s.die.tcool + 10 * (ph + pl) * s.baseR b
  let chain (p : Rat) : List Rat := (List.range 4).map fun k => base + 10 * p * (((List.range 4).filter fun n => decide (k ≤ n)).map (s.chainR b)).foldl (· + ·) 0
  chain ph ++ chain pl ++ [base]

/-- The nodes of a leg after a time at constant powers (R364, R365): the solution of the linear network, T_s + e^(A t) (T − T_s). -/
def State.nextNodes (s : State) (b : BridgeId) (k : Fin 3) (ticks : Nat) (power : Vector Rat 6) : List Rat :=
  let x := s.br[b].th
  let now := x.nodes[slotOf k true].toList ++ x.nodes[slotOf k false].toList ++ [x.base[k]]
  let far := s.steadyNodes b power[slotOf k true] power[slotOf k false]
  let m := Config.matrixExp (s.networkMatrix b ticks)
  (List.range 9).map fun j => far.getD j 0 +
    ((List.range 9).map fun i => (m.getD j []).getD i 0 * (now.getD i 0 - far.getD i 0)).foldl (· + ·) 0

/-- The network advances by the energy summed since the last update (R364); before the first housekeeping round every node reads 0x9110.06
(R367). -/
def advanceNetwork (b : BridgeId) (t : Nat) (s : State) : State :=
  let x := s.br[b].th
  let dt := t - x.last
  let power : Vector Rat 6 := if dt = 0 then x.power else x.energy.map fun e => e * 400000000 / (dt : Rat)
  let leg (k : Fin 3) : List Rat := s.nextNodes b k dt power
  modTh b (fun y => { y with
    power := power, energy := .replicate 6 0, last := t, late := false,
    nodes := Vector.ofFn fun p => Vector.ofFn fun n =>
      if s.die.firstRound then (leg (phaseOfSlot p)).getD ((if slotHigh p then 0 else 4) + n.val) 0 else s.actR 0x9110 6,
    base := Vector.ofFn fun k => if s.die.firstRound then (leg k).getD 8 0 else s.actR 0x9110 6 }) s

/-- The band of a bridge (R368, R369). -/
def settleBand (b : BridgeId) (s : State) : State :=
  let t := s.hottest b
  let old := s.br[b].th.band
  let new : Fin 4 := ⟨s.bandFor old.val t % 4, by omega⟩
  if new = old then s
  else bump (0xE091 + b.val) 1 (raiseB 0x9101 b [(old.val : Int), (new.val : Int), t.floor] (modTh b (fun x => { x with band := new }) s))

/-- h_T of a bridge (R212, R364, R370). -/
def State.thermalHeadroom (s : State) (b : BridgeId) : Rat :=
  let lim := s.actR 0x9110 1
  if s.br[b].th.late || decide (lim ≤ s.die.tcool) then 0 else clamp01 ((lim - s.hottest b) / (lim - s.die.tcool))

/-- A count of consecutive excesses trips (R371): it reaches the limit, or stands above it while no trip of the bridge stands. -/
def trips (limit n : Nat) (tripped : Bool) : Bool := decide (limit ≤ n) && (n == limit || !tripped)

/-- Junction trips of a bridge (R371). -/
def junctionTrips (b : BridgeId) (s : State) : State :=
  allSlots.foldl (fun a k =>
    let hot := decide (a.actR 0x9110 2 < a.junction b k)
    let n := if hot then a.br[b].th.tripRun[k] + 1 else 0
    let a := modTh b (fun x => { x with tripRun := x.tripRun.set k n }) a
    if hot && trips (a.actN 0x9110 3) n a.br[b].th.tripped then overTemperature b ((posOf b k).val + 1) 1 a else a) s

/-- THERMAL_UPDATE (R364, R368 to R371). -/
def thermalUpdate (b : BridgeId) (t : Nat) (s : State) : State :=
  let s := advanceNetwork b t (setNow t s)
  let s := settleBand b s
  let s := onlyIf (decide (s.thermalHeadroom b = 0))
    (fun a => raiseFirst 0x9102 3 (b.val + 1) [(b.val + 1 : Int)] b.val (bump (0xE091 + b.val) 2 a)) s
  junctionTrips b s

/-- THERMAL_UPDATE. -/
def execThermalUpdate (b : BridgeId) (t : Nat) (s : State) : Host.Outcome State Fault Refusal := .next (onlyIf s.coresOn (thermalUpdate b t) s)

/-- THERMAL_UPDATE_LATE (R364): no update for 0x9110.07. -/
def thermalLate (b : BridgeId) (s : State) : State :=
  let s := setNow (s.br[b].th.last + s.actN 0x9110 7 * ticksPerUs) s
  if s.br[b].th.late then s
  else bump (0xE091 + b.val) 4 (raiseB 0x9105 b [] (modTh b (fun x => { x with late := true }) s))

/-- THERMAL_UPDATE_LATE. -/
def execThermalUpdateLate (b : BridgeId) (s : State) : Host.Outcome State Fault Refusal := .next (thermalLate b s)

/-! The logic die (R372, R373) -/

/-- Throttle level whose threshold the die reaches. -/
def State.reachedLevel (s : State) (t : Int) : Nat := ((List.range 4).filter fun k => decide (s.act 0x9130 (k + 2) ≤ t)).length

/-- Time spent at throttle levels 1 to 4, in whole ms (R376). -/
def countLevel (t : Nat) (s : State) : State :=
  let ms := (t - s.die.levelAt) / ticksPerMs
  let s := onlyIf (decide (1 ≤ s.die.level)) (bumpBy 0xE095 s.die.level ms) s
  modDie (fun d => { d with levelAt := d.levelAt + ms * ticksPerMs }) s

/-- The throttle level changes, with E-9110. -/
def setLevel (n : Nat) (s : State) : State :=
  if s.die.level = n then s
  else raise4 0x9110 [(n : Int), s.die.temp] (modDie (fun d => { d with level := n, below := none, levelAt := s.now }) s)

/-- DIE_SENSOR_READ (R372, R373; log 86). -/
def dieRead (temp : Int) (t : Nat) (s : State) : State :=
  let s := countLevel t (setNow t s)
  let top := s.reachedLevel temp
  let s := modDie (fun d => { d with temp := temp, hot := if s.act 0x9130 6 ≤ temp then some (d.hot.getD t) else none,
                                     stopped := d.stopped && decide (s.act 0x9130 5 ≤ temp) }) s
  let level := s.die.level
  if level < top then setLevel top s
  else
    let cool := decide (1 ≤ level) && decide (temp < s.act 0x9130 (level + 1) - s.act 0x9130 8)
    let from0 := s.die.below.getD t
    if cool && decide (from0 + 100 * ticksPerMs ≤ t) then setLevel (level - 1) s
    else modDie (fun d => { d with below := if cool then some from0 else none }) s

/-- DIE_SENSOR_READ. -/
def execDieSensorRead (temp : Int) (t : Nat) (s : State) : Host.Outcome State Fault Refusal := .next (dieRead temp t s)

/-- DIE_CRITICAL (R373): the die has been at or above 0x9130.06 for 1 s. -/
def dieCritical (s : State) : State :=
  match s.die.hot with
  | none => s
  | some t =>
    if s.die.stopped then s
    else
      let s := modDie (fun d => { d with stopped := true }) (setNow (t + ticksPerS) s)
      stopAll ss1FromDie (bump 0xE095 6 (raise4 0x9111 [s.die.temp] s))

/-- DIE_CRITICAL. -/
def execDieCritical (s : State) : Host.Outcome State Fault Refusal := .next (dieCritical s)

/-! The housekeeping round (R136, R366, R367, R371, R532) -/

/-- Input number of housekeeping channel n. -/
def hkInput (n : Fin 32) : Fin 84 := ⟨0x20 + n.val, by omega⟩

/-- Housekeeping channel of a leg's NTC. -/
def ntcChannel (l : LegId) : Fin 32 := ⟨l.val, by omega⟩

/-- NTC temperature of a leg (R188) from its resistance in Ω. -/
def State.ntcTemp (s : State) (l : LegId) (r : Rat) : Rat :=
  10 * (1 / (1 / (29815 / 100) + Config.ln (r / max 1 (s.actR 0x6051 (l.val + 1))) / max 1 (s.actR 0x6052 (l.val + 1))) - 27315 / 100)

/-- The value in use of housekeeping input n (R139): HK12 and HK13 stand in for each other; the baseplate node that stands in for HK0 to HK11
is no resistance, and none is given (log 166), nor a last valid value before the first. -/
def State.hkUse (s : State) (n : Fin 32) : Option Rat :=
  let lone (k : Fin 32) : Option Rat :=
    let x := s.sense.inputs[hkInput k]
    if x.valid && x.had then some ((x.lastGood : Rat) / 1000) else none
  let x := s.sense.inputs[hkInput n]
  if !x.had && (x.valid || s.actN (0x4100 + (hkInput n).val) 6 == 0) then none else s.inputUse (hkInput n) (if n = 12 then lone 13 else if n = 13 then lone 12 else none)

/-- The NTC temperature of a leg (R139, R366): of its input in use; none while the baseplate node stands in for it. -/
def State.ntcNow (s : State) (l : LegId) : Option Rat :=
  (s.hkUse (ntcChannel l)).map (s.ntcTemp l)

/-- T_cool (R365): HK24 as its supervision record gives it; kept where the record gives none. -/
def noteCoolant (s : State) : State :=
  match s.hkUse 24 with
  | some v => modDie (fun d => { d with tcool := v }) s
  | none => s

/-- The first round after a start of the control pairs sets every node of a leg (R367). -/
def seedLeg (l : LegId) (s : State) : State :=
  let cool : Rat := if s.sense.inputs[hkInput 24].valid && s.sense.inputs[hkInput 24].had then s.die.tcool else s.actR 0x9110 6
  let t := (s.ntcNow l).getD cool
  modTh (brOfLeg l) (fun x => { x with nodes := (x.nodes.set (slotOf (phaseOfLeg l) true) (.replicate 4 t)).set (slotOf (phaseOfLeg l) false) (.replicate 4 t),
                                       base := x.base.set (phaseOfLeg l) t }) s

/-- Correction of a leg's baseplate node, its disagreement and its NTC trip (R366, R371). -/
def correctLeg (l : LegId) (s : State) : State :=
  let b := brOfLeg l
  let k := phaseOfLeg l
  match s.ntcNow l with
  | none => modTh b (fun x => { x with ntcExcess := x.ntcExcess.set k 0, ntcOff := x.ntcOff.set k 0, ntcTrip := x.ntcTrip.set k 0 }) s
  | some t =>
    let x := s.br[b].th
    let d := abs (t - x.base[k])
    let off := if s.actR 0x9110 5 < d then x.ntcOff[k] + 1 else 0
    let trip := if s.actR 0x9110 4 < t then x.ntcTrip[k] + 1 else 0
    let s := modTh b (fun y => { y with
      base := y.base.set k (y.base[k] + s.actR 0x9104 9 / 1000 * (t - y.base[k])),
      ntcOff := y.ntcOff.set k off, ntcTrip := y.ntcTrip.set k trip, ntcExcess := y.ntcExcess.set k (if 3 ≤ off then d else 0) }) s
    let s := onlyIf (off == 3) (fun a => bump 0xE095 5 (raise 0x9104 2 (l.val + 1) [(l.val + 1 : Int)] a)) s
    if trips 3 trip s.br[b].th.tripped then overTemperature b (l.val + 1) 2 s else s

/-- HK28's nominal is the value of the first round after each entry into ARMED (R532). -/
def noteSensorSupply (v : Int) (s : State) : State :=
  let on : Bool := match s.drive.state with
    | .armed | .run | .stopping => true
    | _ => false
  if on && !s.drive.hkBase then { s with drive := { s.drive with hkBase := true, hk28 := v } } else s

/-- The 32 means of a round are checked and used (R136, R366, R367, R532). -/
def useRound (vals : Vector Int 32) (s : State) : State :=
  let s := noteSensorSupply vals[28] s
  let ch := (List.finRange 32).filter fun n => n.val != 28 || s.drive.hkBase
  let s := checkInputs (ch.map fun n => (hkInput n, s.sifted (hkInput n) (vals[n] : Rat))) s
  let s := noteCoolant s
  if s.die.firstRound then (List.finRange 12).foldl (fun a l => correctLeg l a) s
  else modDie (fun d => { d with firstRound := true }) ((List.finRange 12).foldl (fun a l => seedLeg l a) s)

/-- HOUSEKEEPING_ROUND_START (R136): every 10 ms; a round in progress is not restarted (log 86). An invalid digital input is checked (log 27). -/
def roundStart (s : State) : State :=
  if s.sense.roundRunning || decide (s.drive.state = .sleep) then s
  else
    let s := onlyIf (s.sense.roundAt != 0) (setNow (s.sense.roundAt + 10 * ticksPerMs)) s
    (List.finRange 4).foldl (fun a i => digitalAgrees i a) { s with sense := { s.sense with roundRunning := true, roundAt := s.now } }

/-- HOUSEKEEPING_ROUND_START. -/
def execHousekeepingRoundStart (s : State) : Host.Outcome State Fault Refusal := .next (onlyIf s.pulseOn (roundStart) s)

/-- HOUSEKEEPING_ROUND_COMPLETE (R136): after 9.92 ms; a round that a self-test spoilt is discarded (R484). -/
def roundComplete (vals : Vector Int 32) (s : State) : State :=
  if !s.sense.roundRunning then s
  else
    let s := setNow (s.sense.roundAt + 9920 * ticksPerUs) s
    let drop := s.sense.discardRound
    let s := { s with sense := { s.sense with roundRunning := false, discardRound := false, hk := if drop then s.sense.hk else vals } }
    bump 0xE040 2 (if drop then s else useRound vals s)

/-- HOUSEKEEPING_ROUND_COMPLETE. -/
def execHousekeepingRoundComplete (vals : Vector Int 32) (s : State) : Host.Outcome State Fault Refusal := .next (onlyIf s.pulseOn (roundComplete vals) s)

/-- HOUSEKEEPING_ROUND_TIMEOUT (R136): not complete within 11 ms; the inputs stay unrefreshed and their timeouts run. -/
def roundTimeout (s : State) : State :=
  if !s.sense.roundRunning then s
  else
    let s := setNow (s.sense.roundAt + 11 * ticksPerMs) s
    missInputs ((List.finRange 32).map hkInput) { s with sense := { s.sense with roundRunning := false } }

/-- HOUSEKEEPING_ROUND_TIMEOUT. -/
def execHousekeepingRoundTimeout (s : State) : Host.Outcome State Fault Refusal := .next (roundTimeout s)

end Sys2Proof.Machine
end

