-- ==== Sys2Proof/Machine/Learn.lean ====
section
/-! DEFINITION. Changes of an atlas: repair, learning, identification, checkpoints and the MTPA table (R95, R135, R148, R175, R178, R182 to
R189, R192, R193, R209, R215). -/

namespace Sys2Proof.Machine

/-! Cells (R174, R178) -/

/-- Write a cell of a group. -/
def setCell (g : GroupId) (cell : Nat) (w : Word) : State → State := putCell (cellAddr g cell) w

/-- A cell word of four fields and a confidence. -/
def cellWord (psiD psiQ torque : Int) (loss conf : Nat) : Word :=
  BitVec.ofNat 64 (ofSigned 16 (clampInt (-32768) 32767 psiD) + 2 ^ 16 * ofSigned 16 (clampInt (-32768) 32767 psiQ) +
    2 ^ 32 * ofSigned 16 (clampInt (-32768) 32767 torque) + 2 ^ 48 * min loss 4095 + 2 ^ 60 * (conf % 16))

/-- The same payload with another confidence. -/
def withConf (w : Word) (conf : Nat) : Word := BitVec.ofNat 64 (w.toNat % 2 ^ 60 + 2 ^ 60 * (conf % 16))

/-- A word of an atlas slot as it loads (R202). -/
def State.slotWord (s : State) (g : GroupId) (slot cell : Nat) : Word :=
  let w := BitVec.ofNat 64 (bytesNat (readBytes (atlasSlotAddr g (slot % 2) + 8 * (cell % 0x02000000)) 8 s.mem.nand))
  if s.mem.cut[crcIndex g slot] && confOf w == 15 then withConf w 14 else w

/-- CELL_REPAIR (R178): the cell is rewritten from the group's active NAND slot; a word that no slot holds, or whose page cannot be read (R381),
stays as it is. -/
def cellRepair (g : GroupId) (cell : Nat) (s : State) : State :=
  let a := cellAddr g cell
  if !s.mem.bad.contains a then s
  else match s.gr[g].atlas.record with
    | none => s
    | some r =>
      if s.mem.unreadable (atlasSlotAddr g (r.slot % 2) + 8 * (cell % 0x02000000)) 8 then s
      else bump (0xE061 + g.val) 3 (raiseG 0x6001 g [(cell : Int)] (putCell a (s.slotWord g r.slot cell) s))

/-- CELL_REPAIR. -/
def execCellRepair (g : GroupId) (cell : Nat) (s : State) : Host.Outcome State Fault Refusal := .next (onlyIf s.engineOn (cellRepair g cell) s)

/-! Learning (R182, R183, R193, R215) -/

/-- The learning engine has its memory time: its request was granted and its clock runs (R184; log 159). -/
def State.learnGranted (s : State) : Bool := s.arb.reqs[3].requesting && !s.arb.reqs[3].gated && s.arb.reqs[3].waitSince == 0

/-- Confidence of an estimate (R182): steady steps, and the largest residual `r` of the run in %; a residual too large for the row of the
steps takes the first row. -/
def State.estimateConf (s : State) (g : GroupId) (steps : Nat) (r : Rat) : Option Nat :=
  let lim := s.residualLimit g
  if lim < r ∨ steps < 64 then none
  else if 4096 ≤ steps ∧ r < lim / 4 then some 11
  else if 1024 ≤ steps ∧ r < lim / 2 then some 9
  else if 256 ≤ steps ∧ r < lim / 2 then some 7 else some 5

/-- Fields of a cell: fluxes, torque, loss. -/
def cellFields (w : Word) : Int × Int × Int × Int :=
  (toSigned 16 (bits 15 0 w.toNat), toSigned 16 (bits 31 16 w.toNat), toSigned 16 (bits 47 32 w.toNat), (bits 59 48 w.toNat : Int))

/-- Weight of an estimate of confidence `ce` against a cell of confidence `c` (R183). -/
def learnWeight (ce c : Nat) : Rat := (2 ^ ce : Nat) / ((2 ^ ce + 2 ^ c : Nat) : Rat)

/-- Move an old value toward an estimate (R183), rounded down to a code (log 183). -/
def moveToward (w : Rat) (old est : Int) : Int := (old : Rat) + w * ((est : Rat) - old) |>.floor

/-- Confidence after an accepted estimate (R183). -/
def learnedConf (ce c : Nat) : Nat :=
  let n := min 14 (max c ce + 1)
  if n = 6 then 7 else n

/-- A cell after an accepted estimate (R183). -/
def mergeCell (ce : Nat) (est old : Word) : Word :=
  let c := confOf old
  let w := learnWeight ce c
  let e := cellFields est
  let o := cellFields old
  cellWord (moveToward w o.1 e.1) (moveToward w o.2.1 e.2.1) (moveToward w o.2.2.1 e.2.2.1) (moveToward w o.2.2.2 e.2.2.2).toNat (learnedConf ce c)

/-- What meets an estimate (R183): 0 accepted, 1 lower confidence, 2 conflict. -/
def State.judgeEstimate (s : State) (ce : Nat) (est old : Word) : Nat :=
  let c := confOf old
  let e := (cellFields est).2.2.1
  let o := (cellFields old).2.2.1
  let sure := decide (s.actN 0x6020 5 ≤ c)
  let change := learnWeight ce c * abs ((e : Rat) - o)
  if c = 15 then 1 else if sure && decide (ce < c) then 1
  else if sure && decide (s.actR 0x6020 6 / 100 * abs (o : Rat) < change) then 2 else 0

/-- An accepted update is applied to its cell. -/
def applyEstimate (g : GroupId) (u : Nat × Nat × Word) (s : State) : State := setCell g u.1 (mergeCell u.2.1 u.2.2 (s.cell g u.1)) s

/-- An accepted update: applied, or held while a checkpoint copies and behind those that it has held (R193); the atlas becomes learned (R205). -/
def acceptEstimate (g : GroupId) (u : Nat × Nat × Word) (s : State) : State :=
  let a := s.gr[g].atlas
  let holds := a.copying || !a.buffer.isEmpty
  if holds && decide (4096 ≤ a.buffer.length) then
    raiseFirst 0x6022 3 (s.groupIndex g) [(g.val + 1 : Int)] g.val (bump (0xE061 + g.val) 8 s)
  else
    let s := bump (0xE061 + g.val) 5 (modAtlas g (fun x => { x with accepted := true }) s)
    if holds then modAtlas g (fun x => { x with buffer := x.buffer ++ [u] }) s
    else
      let s := applyEstimate g u s
      if a.suspect then s else setAtlasState g 2 s

/-- The learning engine applies the oldest held update of the first group whose copy has ended (R193): it has been granted memory time, one update for
each grant (R184; log 189). -/
def applyHeld (s : State) : State :=
  match allGr.find? fun g => !s.gr[g].atlas.copying && !s.gr[g].atlas.buffer.isEmpty with
  | none => s
  | some g => match s.gr[g].atlas.buffer with
    | [] => s
    | u :: rest =>
      let s := applyEstimate g u (modAtlas g (fun a => { a with buffer := rest }) s)
      if s.gr[g].atlas.suspect then s else setAtlasState g 2 s

/-- Flux and torque fields that a steady run gives (R182), in their LSBs: the averaged flux, and the torque that it makes with the averaged
currents. -/
def State.runFields (s : State) (g : GroupId) (r : LearnRun) : Int × Int × Int :=
  let o := 0x6001 + g.val
  let n : Rat := max 1 (r.steps : Nat)
  let psi := (r.psi.1 / n, r.psi.2 / n)
  let i := (r.amps.1 / n, r.amps.2 / n)
  let flux := max 1 (s.actR o 8) / 1000000000
  let torque := 3 / 2 * (s.machinePoles g : Rat) * (psi.1 * i.2 - psi.2 * i.1)
  (nearest (psi.1 / flux), nearest (psi.2 / flux), nearest (torque * 1000 / max 1 (s.actR o 9)))

/-- Loss field that a steady run gives (R182), in its LSB: the power balance of a winding set, its mean electrical power less the mechanical power
of its torque at the mean speed (log 128). -/
def State.runLoss (s : State) (g : GroupId) (r : LearnRun) : Nat :=
  let n : Rat := max 1 (r.steps : Nat)
  let o := 0x6001 + g.val
  let psi := (r.psi.1 / n, r.psi.2 / n)
  let i := (r.amps.1 / n, r.amps.2 / n)
  let torque := 3 / 2 * (s.machinePoles g : Rat) * (psi.1 * i.2 - psi.2 * i.1)
  (nearest ((r.power / n - torque * (r.omega / n)) / max 1 (s.actR o 10))).toNat

/-- The estimate of a steady run (R182). -/
def State.estimate (s : State) (g : GroupId) (r : LearnRun) (conf : Nat) : Word :=
  let f := s.runFields g r
  cellWord f.1 f.2.1 f.2.2 (s.runLoss g r) conf

/-- Largest residual of a run, 0.1 %. -/
def LearnRun.tenths (r : LearnRun) : Nat := (10 * r.residual).floor.toNat

/-- A report of the learning engine is the one that a steady run gives: its cell, steps, residual, flux, torque and loss (R182). -/
def State.reports (s : State) (g : GroupId) (r : LearnRun) (cell steps residual : Nat) (psiD psiQ torque : Int) (loss : Nat) : Bool :=
  decide (cell = r.cell ∧ steps = r.steps ∧ residual = r.tenths ∧ (psiD, psiQ, torque) = s.runFields g r ∧ loss = s.runLoss g r)

/-- LEARNING_UPDATE (R182 to R184, R193, R215): the steady run of the group ends in an estimate of its nearest cell; a report
of another run than the group's leaves the state as it is (log 128). -/
def learningUpdate (g : GroupId) (cell steps residual : Nat) (psiD psiQ torque : Int) (loss : Nat) (s : State) : State :=
  match s.gr[g].atlas.run with
  | none => s
  | some r =>
    if !s.mayLearn g || !s.learnGranted || !s.reports g r cell steps residual psiD psiQ torque loss || decide (r.steps < s.actN 0x6020 7) then s
    else
      let s := modAtlas g (fun a => { a with run := none }) s
      match s.estimateConf g r.steps r.residual with
      | none => s
      | some ce =>
        let est := s.estimate g r ce
        match s.judgeEstimate ce est (s.cell g r.cell) with
        | 0 => acceptEstimate g (r.cell, ce, est) s
        | 1 => bump (0xE061 + g.val) 6 s
        | _ => bump (0xE061 + g.val) 7 s

/-- LEARNING_UPDATE. -/
def execLearningUpdate (g : GroupId) (cell steps residual : Nat) (psiD psiQ torque : Int) (loss : Nat) (s : State) :
    Host.Outcome State Fault Refusal := .next (onlyIf s.engineOn (learningUpdate g cell steps residual psiD psiQ torque loss) s)

/-- MTPA_REBUILD_DONE (R209): the rebuilt tables, one for each temperature plane, replace the previous ones; at most 256 points each. -/
def mtpaDone (g : GroupId) (tables : Vector (List (Int × Int × Int)) 4) (s : State) : State :=
  if s.gr[g].atlas.mtpaDue then modAtlas g (fun a => { a with mtpa := tables.map (·.take 256), mtpaDue := false }) s else s

/-- MTPA_REBUILD_DONE. -/
def execMtpaRebuildDone (g : GroupId) (tables : Vector (List (Int × Int × Int)) 4) (s : State) : Host.Outcome State Fault Refusal :=
  .next (onlyIf s.coresOn (mtpaDone g tables) s)

/-! Checkpoints (R192, R193, R513) -/

/-- The copy has ended: held updates may be applied (R193), a waiting sleep entry goes on (R353). -/
def endCopy (g : GroupId) (s : State) : State :=
  settleSleep (modAtlas g (fun a => { a with copying := false, learned := false, copyRefs := [] }) s)

/-- CHECKPOINT_COMPLETE (R192): the read-back passes, the record is written and the slot is valid, with E-6020; or E-6021 and the record
stays. -/
def checkpointEnd (g : GroupId) (good : Bool) (s : State) : State :=
  if !s.gr[g].atlas.copying then s
  else
    let slot := s.unnamedSlot g
    let refs := s.gr[g].atlas.copyRefs
    if good then
      let s := commitAtlas g slot (copyToNand g slot s)
      let seq : Nat := (s.gr[g].atlas.record.map (·.seq)).getD 0
      let s := raiseG 0x6020 g [(slot : Int), (seq : Int)] (modAtlas g (fun a => { a with mtpaDue := true }) s)
      endCopy g (refs.foldl (fun a r => complete r stOk [BitVec.ofNat 64 (seq + 2 ^ 32 * slot)] a) s)
    else
      let s := raiseG 0x6021 g [] (modAtlas g (fun a => { a with
        accepted := a.accepted || a.learned, result := if a.ident.any (fun i => i.1 == 10) then withFailedStep a.result 10 else a.result }) s)
      endCopy g (refs.foldl (fun a r => complete r stHardware [] a) s)

/-- CHECKPOINT_COMPLETE. -/
def execCheckpointComplete (g : GroupId) (good : Bool) (s : State) : Host.Outcome State Fault Refusal := .next (onlyIf s.engineOn (checkpointEnd g good) s)

/-! Identification (R186 to R189; log 87) -/

/-- Set a bit of 0x6042 (R205). -/
def markResult (g : GroupId) (bit : Nat) : State → State :=
  modAtlas g fun a => { a with result := if bitAt bit a.result then a.result else a.result + 2 ^ bit }

/-- Legs of a group. -/
def State.legsOf (s : State) (g : GroupId) : List LegId := (s.bridgesOf g).flatMap fun b => phases.map fun k => legOf b k

/-- I1 has run (R186): the prime has left every high-side rail of the group ready, and every low side has made its 1,024 turn-ons. -/
def State.charged (s : State) (g : GroupId) : Bool :=
  (s.bridgesOf g).all fun b => s.highRailsReady b && allSlots.all fun k => slotHigh k || decide ((s.br[b].pos[k]).charge.length = 1024)

/-- I1 (R95): the mean gate charge over 1,024 turn-ons of a position becomes its identified value. -/
def storeCharge (g : GroupId) (s : State) : State :=
  markResult g 5 (forBr (s.bridgesOf g) (fun b a => modAllPos b (fun _ p =>
    { p with chargeIdent := if p.charge.length = 1024 then meanNat p.charge else p.chargeIdent }) a) s)

/-- I2: R_s at 20 °C, and the winding-set offsets against the group's lowest bridge. -/
def storeResistance (g : GroupId) (rs axes : Vector Nat 4) (s : State) : State :=
  let zero : Int := ((s.bridgesOf g).head?.map fun b => ((axes[b] : Nat) : Int)).getD 0
  forBr (s.bridgesOf g) (fun b a => putObj 0x6005 (b.val + 1) (ofSigned 16 (((axes[b] : Nat) : Int) - zero) : Nat) (putObj 0x6006 (b.val + 1) (rs[b] : Nat) a)) s

/-- I3: the standstill angle. -/
def storeAngle (g : GroupId) (theta : Nat) (s : State) : State :=
  modGr g (fun x => { x with obs := { x.obs with angle := theta % 65536, speed := 0, stamp := s.now } }) s

/-- Write an identified cell where it does not lower the cell's confidence. -/
def putIdent (g : GroupId) (cell : Nat) (conf : Nat) (w : Word) (s : State) : State :=
  if conf < confOf (s.cell g cell) then s else setCell g cell (withConf w conf) s

/-- Grid point of the angle and temperature axes at which I4 and I9 work: the standstill angle and the present winding temperature. -/
def State.restAngle (s : State) (g : GroupId) : Nat := (angleCoord s.gr[g].obs.angle).near
def State.restPlane (s : State) (g : GroupId) : Nat :=
  (tempCoord ((List.range 4).map fun k => s.actR (0x6001 + g.val) (k + 4)) s.gr[g].obs.temp).near

/-- A pulse of I4 counts (R186): every eighth point of its axis, within 0x6041.01 of the current limits; along q only with a held rotor and then
at every eighth iq point, along d beside iq = 0; the rotor has not moved more than 0x6041.03. -/
def State.stillCounts (s : State) (g : GroupId) (held : Bool) (p : StillPoint) : Bool :=
  let lim := s.actR 0x7000 (g.val + 1) * s.actR 0x6041 1 / 100
  let id := s.gridD g p.d.val
  let iq := if p.alongQ then s.gridQ g p.q.val else 0
  decide (p.d.val % 8 = 0) && (if p.alongQ then held && decide (p.q.val % 8 = 0) else decide (p.q.val = 127 ∨ p.q.val = 128)) &&
    decide (id * id + iq * iq ≤ lim * lim) && decide (p.moved ≤ s.actN 0x6041 3)

/-- I4: cells measured at the standstill angle, confidence 4, and their replicas across the angle axis, confidence 2. -/
def storeStill (g : GroupId) (held : Bool) (points : List StillPoint) (s : State) : State :=
  let at0 (k : Nat) (p : StillPoint) : Nat := cellIndex (s.restPlane g) k p.q.val p.d.val
  (points.filter (s.stillCounts g held)).foldl (fun a p =>
    putIdent g (at0 (s.restAngle g) p) 4 p.payload
      ((List.range 256).foldl (fun c k => putIdent g (at0 k p) 2 p.payload c) a)) s

/-- The points of I8 span the full angle axis (R186): a current point reported at one angle is reported at all 256. -/
def spansAngle (points : List (Nat × Word)) : Bool :=
  points.all fun p => (List.range 256).all fun a => points.any fun q => q.1 == p.1 / 2 ^ 23 * 2 ^ 23 + a * 2 ^ 15 + p.1 % 2 ^ 15

/-- I8: cells measured at speed at every fourth id and iq point, confidence 6. -/
def storeSpeed (g : GroupId) (points : List (Nat × Word)) (s : State) : State :=
  (points.filter fun p => decide (p.1 % 128 % 4 = 0) && decide (p.1 / 128 % 256 % 4 = 0)).foldl (fun a p => putIdent g p.1 6 p.2 a) s

/-- A cell lies between measured points (log 149): within their range on both current axes, at its angle and in its plane. -/
def betweenMeasured (cells : Nat → Word) (t a q d : Nat) : Bool :=
  let seen (ok : Nat → Nat → Bool) : Bool :=
    (List.range 256).any fun y => (List.range 128).any fun x => ok y x && Nat.ble 2 (confOf (cells (cellIndex t a y x)))
  seen (fun _ x => Nat.ble x d) && seen (fun _ x => Nat.ble d x) && seen (fun y _ => Nat.ble y q) && seen (fun y _ => Nat.ble q y)

/-- A cell of one plane scaled to another (R186): the fluxes, and the torque with them, by 0x6001.0B for each kelvin. -/
def State.scaleCell (s : State) (g : GroupId) (t0 t : Nat) (w : Word) : Word :=
  let o := 0x6001 + g.val
  let k : Rat := 1 + s.actR o 11 / 1000000 * (s.actR o (t + 4) - s.actR o (t0 + 4)) / 10
  let f := cellFields w
  cellWord (nearest (k * f.1)) (nearest (k * f.2.1)) (nearest (k * f.2.2.1)) f.2.2.2.toNat 1

/-- I9: every cell that is still empty is filled: in the measured plane by a free value with confidence 3 or 1 (log 149), in the others by
scaling. -/
def fillCells (g : GroupId) (s : State) : State :=
  let t0 := s.restPlane g
  let cells (c : Nat) : Word := s.cell g c
  let value (c : Nat) : Word := if confOf (cells c) ≠ 0 then cells c
    else withConf (Config.fillCell cells c) (if betweenMeasured cells (c / 2 ^ 23) (c / 2 ^ 15 % 256) (c / 128 % 256) (c % 128) then 3 else 1)
  (List.range 33554432).foldl (fun a c =>
    if confOf (cells c) ≠ 0 then a
    else if c / 2 ^ 23 = t0 then setCell g c (value c) a
    else setCell g c (s.scaleCell g t0 (c / 2 ^ 23) (value (t0 * 2 ^ 23 + c % 2 ^ 23))) a) s

/-- An NTC characteristic R25 and B from its two points, Ω and K (R188). -/
def ntcFit (r1 r2 t1 t2 : Rat) : Rat × Rat :=
  let b := if t1 = t2 then 3950 else Config.ln (r1 / max 1 r2) / (1 / t1 - 1 / t2)
  (r1 / Config.exp (b * (1 / t1 - 100 / 29815)), b)

/-- I5 (R188): each leg's characteristic from a first point at HK24 after 60 s of settling, and a second once heating has raised the baseplate
node by 15 K within 600 s; E-6013 where only the first was reached. -/
def storeNtc (g : GroupId) (first : Vector Nat 12) (second : Option (Vector Nat 12)) (s : State) : State :=
  let start := s.gr[g].atlas.stepAt + 60 * ticksPerS
  let s := setNow start s
  let t1 : Rat := s.die.tcool / 10 + 27315 / 100
  let node (l : LegId) : Rat := s.br[brOfLeg l].th.base[phaseOfLeg l] / 10 + 27315 / 100
  let two := second.isSome && decide (s.now ≤ start + 600 * ticksPerS) && (s.legsOf g).all fun l => decide (t1 + 15 ≤ node l)
  let s := (s.legsOf g).foldl (fun a l =>
    let r1 : Rat := (first[l] : Nat)
    let f := if two then ntcFit r1 ((second.map fun v => ((v[l] : Nat) : Rat)).getD r1) t1 (node l) else (r1 / Config.exp (3950 * (1 / t1 - 100 / 29815)), 3950)
    putObj 0x6052 (l.val + 1) (nearest f.2) (putObj 0x6051 (l.val + 1) (nearest f.1) a)) s
  if two then markResult g 3 s else raiseG 0x6013 g [] s

/-- Power of bin k of a capture (R135): its mean removed, under a Hann window of 400 samples. -/
def binPower (samples : List Nat) (k : Nat) : Rat :=
  let mean : Rat := (samples.foldl (· + ·) 0 : Nat) / (400 : Rat)
  let part (turn : Nat → Rat) : Rat :=
    (samples.zipIdx.map fun c => ((c.1 : Rat) - mean) * ((1 - Config.cos400 c.2) / 2) * turn (k * c.2 % 400)).foldl (· + ·) 0
  let re := part Config.cos400
  let im := part Config.sin400
  re * re + im * im

/-- Bins of 100 kHz of the search between 150 kHz and 16 MHz (R135). -/
def searchedBins : List Nat := (List.range 161).drop 2

/-- The dominant frequency of a capture in Hz (R135): the strongest bin, interpolated with its neighbours; none where it does not stand 10 dB above
the background (log 158). -/
def ringFrequency (samples : List Nat) : Option Rat :=
  let powers := searchedBins.map fun k => (k, binPower samples k)
  let top := powers.foldl (fun m c => if m.2 < c.2 then c else m) (0, 0)
  if top.1 = 0 || decide (top.2 < 10 * Config.background (powers.map (·.2))) then none
  else some (100000 * ((top.1 : Rat) + Config.binOffset (binPower samples (top.1 - 1)) top.2 (binPower samples (top.1 + 1))))

/-- The edges of I6 that are used (R135): each carries current, and no other edge of its bridge follows it; 256 of them. -/
def usedEdges (edges : List Ringing) : List Ringing := (edges.filter fun e => e.loaded && e.lone).take 256

/-- Length in 0.1 m for a ringing frequency in Hz (R135). -/
def State.cableLength (s : State) (f : Rat) : Nat := if f ≤ 0 then 0 else (10 * s.actR 0x4031 1 * 1000000 / (4 * f)).floor.toNat

/-- The median of a list of numbers. -/
def medianOf (l : List Nat) : Nat := (l.mergeSort (fun a b => Nat.ble a b)).getD (l.length / 2) 0

/-- The reading for a list of lengths (R135): the median, 0 below 3.0 m, 0xFFFF without any. -/
def readingOf (l : List Nat) : Nat := if l.isEmpty then 0xFFFF else if medianOf l < 30 then 0 else min 0xFFFE (medianOf l)

/-- The cable reading of R135: of the used edges with a peak (log 158). -/
def State.cableReading (s : State) (edges : List Ringing) : Nat :=
  readingOf (((usedEdges edges).filterMap fun e => ringFrequency e.samples).map s.cableLength)

/-- dv/dt limit for a cable reading (R189). -/
def cableLimit (reading : Nat) : Option Int :=
  if reading = 0xFFFF then none else if reading < 30 then some 500 else if reading < 100 then some 300 else if reading < 250 then some 200
  else if reading < 500 then some 120 else some 80

/-- I6 (R135, R189): the cable length and the dv/dt limit it sets. -/
def storeCable (g : GroupId) (edges : List Ringing) (s : State) : State :=
  let reading := s.cableReading edges
  let s := { s with sense := { s.sense with cable := s.sense.cable.set g reading } }
  match cableLimit reading with
  | none => raiseG 0x400B g [] s
  | some d => markResult g 4 (raiseG 0x400A g [(reading : Int)] (putObj 0x3051 (g.val + 1) d s))

/-- I7: electrical offset and direction of each assigned source (R148). -/
def storeSpin (g : GroupId) (offs : List (Nat × Nat × Nat)) (s : State) : State :=
  markResult g 2 (offs.foldl (fun a o => match ifaceOfCode o.1 with
    | some i => if a.ifaceGroup i = some g then putObj (ifaceObj i) 0x0A (o.2.2 % 2 : Nat) (putObj (ifaceObj i) 9 (o.2.1 % 65536 : Nat) a) else a
    | none => a) s)

/-- The measurements of a step that R186 asks for have been made: I1's turn-ons, I6's 256 edges, I7's spin to 0x6041.02, I8's full angle axis. A report
without them leaves the state as it is (log 188). -/
def State.stepMade (s : State) (g : GroupId) (step : Nat) (r : IdentResult) : Bool :=
  match step, r with
  | 1, .passed => s.charged g
  | 6, .cable edges => decide (256 ≤ (usedEdges edges).length)
  | 7, .spin rpm _ => decide (s.actN 0x6041 2 ≤ rpm)
  | 8, .cells points => spansAngle points
  | _, _ => true

/-- The condition of a step is not met (R186): I5 without a valid coolant inlet, I7 and I8 without the speed operand. -/
def State.identSkips (s : State) (step : Nat) (speed : Bool) : Bool :=
  (step == 5 && !s.sense.inputs[hkInput 24].valid) || ((step == 7 || step == 8) && !speed)

/-- What a step's result writes; a result of another step writes nothing. -/
def storeIdent (g : GroupId) (step : Nat) (held : Bool) (r : IdentResult) (s : State) : State :=
  match step, r with
  | 1, .passed => storeCharge g s
  | 2, .resistance rs axes => storeResistance g rs axes s
  | 3, .angle t => storeAngle g t s
  | 4, .still ps => onlyIf held (markResult g 1) (storeStill g held ps s)
  | 5, .ntc a b => storeNtc g a b s
  | 6, .cable fs => storeCable g fs s
  | 7, .spin _ o => storeSpin g o s
  | 8, .cells ps => markResult g 2 (storeSpeed g ps s)
  | 9, .passed => fillCells g s
  | _, _ => s

/-- The back-EMF constant that identification writes (R251): √3 × 2π × ψ0 on the coldest plane, mV/Hz. -/
def storeEmf (g : GroupId) (s : State) : State :=
  match s.lookup g 0 0 s.gr[g].pos.thetaE (s.actR (0x6001 + g.val) 4) with
  | some l => putObj 0x7110 (g.val + 5) (nearest (Config.sqrt3 * 2 * Config.pi * l.psiD * 1000)) s
  | none => s

/-- Identification ends (R187, R251): E-6011, OK or LIMITED; the group's bridges leave RUN. -/
def endIdent (g : GroupId) (s : State) : State :=
  let ref := s.gr[g].atlas.identRef
  let s := storeEmf g (markResult g 0 (modAtlas g (fun a => { a with ident := none, identRef := none, mtpaDue := true }) s))
  let res := s.gr[g].atlas.result
  let s := setAtlasState g 1 (raiseG 0x6011 g [(res : Int)] s)
  let s := match ref with
    | some r => complete r (if bits 11 8 res = 0 then stOk else stLimited) [BitVec.ofNat 64 (res % 65536)] s
    | none => s
  settlePd7 (forBr (s.running g) toRest s)

/-- IDENTIFICATION_STEP_END (R186, R187): the step's results are written, those of a step whose condition is not met are not, and the
next step begins; I10 writes a checkpoint. A listen phase still running is no step. A failure in I1 to I3 aborts, one in I4 to I8 raises E-6012. -/
def identStep (g : GroupId) (r : IdentResult) (s : State) : State :=
  match s.gr[g].atlas.ident with
  | none => s
  | some (step, held, speed) =>
    if step = 0 || !s.stepMade g step r then s
    else
    let cause : Option Nat := match r with
      | .failed c => some c
      | _ => none
    let s := onlyIf cause.isSome (modAtlas g fun a => { a with result := withFailedStep a.result step }) s
    if cause.isSome && decide (step ≤ 3) then
      let s := forBr (s.running g) toRest (abortIdent g s)
      settlePd7 s
    else if step = 10 then (if s.gr[g].atlas.copying then s else endIdent g s)
    else
      let s := match cause with
        | some c => raiseG 0x6012 g [(step : Int), (c : Int)] s
        | none => if s.identSkips step speed then s else storeIdent g step held r s
      let s := modAtlas g (fun a => { a with ident := some (step + 1, held, speed), stepAt := s.now }) s
      onlyIf (step == 9) (startCheckpoint g) s

/-- IDENTIFICATION_STEP_END. -/
def execIdentificationStepEnd (g : GroupId) (r : IdentResult) (s : State) : Host.Outcome State Fault Refusal := .next (onlyIf s.coresOn (identStep g r) s)

/-! Re-acquisition and catch acquisition (R196 to R199, R245) -/

/-- Update the acquisition of group g. -/
def modReacq (g : GroupId) (f : Reacq → Reacq) : State → State := modGr g fun x => { x with reacq := f x.reacq }

/-- REACQ_SETTLE_EXPIRY (R197, R245): the acquisition window opens. A start from a held catch ASC keeps the timeout that runs from its
command. -/
def settleEnd (g : GroupId) (s : State) : State :=
  let r := s.gr[g].reacq
  if r.phase ≠ 1 then s
  else
    let s := setNow (r.since + s.actN 0x6031 1 * ticksPerMs) s
    modReacq g (fun x => { x with phase := 2, since := s.now, alphas := [], limit := if x.isCatch && x.since != x.limit then x.limit else s.now }) s

/-- REACQ_SETTLE_EXPIRY. -/
def execReacqSettleExpiry (g : GroupId) (s : State) : Host.Outcome State Fault Refusal := .next (settleEnd g s)

/-- The estimates of a window agree: every two of them lie within 0x6031.08 (R197). -/
def State.estimatesAgree (s : State) (l : List Nat) : Bool :=
  !l.isEmpty && l.all fun a => l.all fun x => decide ((toSigned 16 (ofSigned 16 ((x : Int) - a))).natAbs ≤ s.actN 0x6031 8)

/-- What an acquisition window gives: its estimates of θ_e extrapolated to one tick, the last first, the frequency in mHz and that tick. -/
structure Acquired where
  estimates : List Nat
  freq : Int
  at0 : Nat
  deriving DecidableEq, Repr

/-- Rate of the angles α of an ASC window, newest first: 1/65,536 turn per tick, and f_e in mHz (R197). -/
def ascRate (l : List (Nat × Int)) : Rat × Int :=
  match l with
  | c0 :: c1 :: r =>
    let turned := ((c0 :: c1 :: r).zip (c1 :: r)).foldl (fun m c => m + toSigned 16 (ofSigned 16 (c.1.2 - c.2.2))) 0
    let span : Nat := c0.1 - ((c1 :: r).getLast?.getD c1).1
    let rate : Rat := if span = 0 then 0 else (turned : Rat) / (span : Rat)
    (rate, nearest (rate * 400000000000 / 65536))
  | _ => (0, 0)

/-- From ASC (R197): f_e from the rate of α, and θ_e = α − γ with γ the angle of the ASC currents, in the frame of a bridge shifted by
`shift`. -/
def ascEstimates (l : List (Nat × Int)) (gamma shift : Int) : Acquired :=
  match l with
  | c0 :: c1 :: r =>
    let rate := ascRate (c0 :: c1 :: r)
    { estimates := (c0 :: c1 :: r).map fun c => ofSigned 16 (c.2 + nearest (rate.1 * ((c0.1 - c.1 : Nat) : Rat)) - gamma - shift),
      freq := rate.2, at0 := c0.1 }
  | _ => { estimates := [], freq := 0, at0 := 0 }

/-- From pulse-off (R197): f_e and the angle at each of the last six crossings, extrapolated to now; at standstill the angle of the standstill
start (R242). -/
def State.offEstimates (s : State) (g : GroupId) (b : BridgeId) : Acquired :=
  let m := s.br[b].bemf
  if m.standstill then
    { estimates := match s.validSource s.gr[g].pos.src with
        | some i => if s.turnReferenced g then [ofSigned 16 (s.opinionAngle i g s.now)] else (Config.saliency s.freeCount).toList.map (· % 65536)
        | none => (Config.saliency s.freeCount).toList.map (· % 65536),
      freq := 0, at0 := s.now }
  else if m.crossings.length < 6 then { estimates := [], freq := 0, at0 := s.now }
  else
    { estimates := m.crossings.map fun c =>
        ofSigned 16 (s.crossingTheta b (crossingAngle (crossingPlace c.2.1 c.2.2) (decide (m.freq < 0))) +
          nearest ((m.freq : Rat) * 65536 * ((s.now - c.1 : Nat) : Rat) / 400000000000)),
      freq := m.freq, at0 := s.now }

/-- What the window of a group gives (R197). -/
def State.acquired (s : State) (g : GroupId) : Acquired :=
  match s.acquireBridge g with
  | none => { estimates := [], freq := 0, at0 := s.now }
  | some b =>
    if s.gr[g].reacq.asc then
      let l := s.gr[g].reacq.alphas
      let i := s.ascPoint b g ((ascRate l).2 : Int)
      ascEstimates l (Config.atan2Turn i.2 i.1) (s.act 0x6005 (b.val + 1))
    else s.offEstimates g b

/-- The end of the acquisition window of a group (R197): the ASC window of 0x6031.02 has passed; the crossings of the other window have ended it
at their own time. -/
def State.windowOver (s : State) (g : GroupId) : State :=
  if s.gr[g].reacq.asc then setNow (s.gr[g].reacq.since + s.actN 0x6031 2 * ticksPerMs) s else s

/-- ACQUISITION_WINDOW_END (R196, R197, R245): where the estimates agree the angle is acquired with E-6031, O takes it, and gives it to a catch whose
source is not referenced in the turn (log 160), and the sets of the bridges
that wait are emptied; otherwise a new window begins. A report of other estimates than the window's leaves the state as it is (log 167). -/
def windowEnd (g : GroupId) (estimates : List Nat) (freq : Int) (s : State) : State :=
  let x := (s.windowOver g).acquired g
  if s.gr[g].reacq.phase ≠ 2 ∨ estimates ≠ x.estimates ∨ freq ≠ x.freq then s
  else
    let s := drew (s.windowOver g)
    if !s.estimatesAgree x.estimates then modReacq g (fun y => { y with since := s.now, alphas := [] }) s
    else
      let a := x.estimates.headD 0
      let rpm : Rat := (x.freq : Rat) * 60 / 1000 / max 1 (s.machinePoles g : Rat)
      let s := raiseG 0x6031 g [(a : Int), x.freq] (modGr g (fun y => { y with
        reacq := { y.reacq with phase := 3, since := s.now, angle := a, freq := x.freq, alphas := [] },
        obs := { y.obs with angle := a, speed := rpm, stamp := x.at0 } }) s)
      let s := onlyIf (s.gr[g].reacq.isCatch && !s.turnReferenced g) (forBr (s.bridgesOf g) fun b => modBr b fun y =>
        { y with start := { y.start with found := y.start.found || y.start.phase == 5 } }) s
      forBr ((s.bridgesOf g).filter fun b => s.br[b].force.selfReleasing) (fun b =>
        fun a => modBr b (fun y => { y with car := { y.car with shadow := none, active := none, skip := false } }) (uncharge b a)) s

/-- ACQUISITION_WINDOW_END. -/
def execAcquisitionWindowEnd (g : GroupId) (estimates : List Nat) (freq : Int) (s : State) : Host.Outcome State Fault Refusal :=
  .next (windowEnd g estimates freq s)

/-- ACQUISITION_TIMEOUT (R199, R245): no angle within 0x6031.03. A catch ends its starts with cause 0x4 in a held catch ASC; a re-acquisition
fails. -/
def acquireTimeout (g : GroupId) (s : State) : State :=
  let r := s.gr[g].reacq
  if r.phase ≠ 1 ∧ r.phase ≠ 2 then s
  else
    let s := setNow (r.limit + s.actN 0x6031 3 * ticksPerMs) s
    if r.isCatch then
      let s := modReacq g (fun x => { x with phase := 0, isCatch := false }) s
      forBr ((s.bridgesOf g).filter fun b => s.br[b].start.phase == 5 && !s.br[b].start.joining) (fun b a => toHeldCatch b (abortStart b 4 a)) s
    else reacqFailed g 1 s

/-- ACQUISITION_TIMEOUT. -/
def execAcquisitionTimeout (g : GroupId) (s : State) : Host.Outcome State Fault Refusal := .next (acquireTimeout g s)

/-- RESUME_HOLD_EXPIRY (R198): ramp and hold have passed without a new lost rotor, E-6033. -/
def holdEnd (g : GroupId) (s : State) : State :=
  let r := s.gr[g].reacq
  if r.phase ≠ 4 || r.isCatch then s
  else
    let s := setNow (r.since + (s.actN 0x6031 4 + s.actN 0x6031 5) * ticksPerMs) s
    bump (0xE061 + g.val) 0x0A (raiseG 0x6033 g [] (modReacq g (fun x => { x with phase := 0 }) s))

/-- RESUME_HOLD_EXPIRY. -/
def execResumeHoldExpiry (g : GroupId) (s : State) : Host.Outcome State Fault Refusal := .next (holdEnd g s)

end Sys2Proof.Machine
end

