-- ==== Sys2Proof/Machine/Placement.lean ====
section
/-! DEFINITION. The placement result every 1 ms (headroom and shares, power budget and ceilings, task map, short-brake sides, interleave
order, arbiter adaptation) and the partner devices (R212, R219 to R227, R249, R270, R294, R327, R342 to R346, R386, R455, R456, R477). -/

namespace Sys2Proof.Machine

/-! Headroom and shares (R212, R225, R227) -/

/-- Mean current of bridge b over the last 1 ms and the headroom it leaves (R212). -/
def noteHeadroom (b : BridgeId) (s : State) : State :=
  match s.groupOf b with
  | none => s
  | some g =>
    let x := s.br[b].ctl
    let mean := if x.ampCount = 0 then x.currentMean else x.ampSum / (x.ampCount : Rat)
    let ht := s.thermalHeadroom b
    let hi := clamp01 (1 - mean / max 1 (s.actR 0x7000 (g.val + 1)))
    modCtl b (fun y => { y with
      currentMean := mean, ampSum := 0, ampCount := 0, thermHead := ht,
      headroom := clamp01 (min ht hi * s.actR 0x7010 (b.val + 1) / 128) }) s

/-- One millisecond of the share filter (R212). -/
def State.filtered (s : State) (old raw : Rat) : Rat :=
  let tau := s.actR 0x7010 5
  if tau ≤ 0 then raw else old + (1 - Config.exp (-(1 / tau))) * (raw - old)

/-- The raw and filtered shares of a group's bridges in RUN; an arriving bridge takes its headroom share at once, for its join ramp (R212,
R227; log 89). -/
def noteShares (g : GroupId) (s : State) : State :=
  let l := renorm ((s.running g).map fun b => (b, s.br[b].ctl.headroom))
  l.foldl (fun a c => modCtl c.1 (fun y => { y with
    filtShare := if y.arrival = 3 then 0 else if y.arrival = 1 then c.2 else a.filtered y.filtShare c.2,
    arrival := if y.arrival = 1 then 2 else y.arrival }) a) s

/-! Power budget and ceilings (R342 to R344) -/

/-- The lesser of two ceilings, where 0 is none. -/
def lesser (a b : Nat) : Nat := if a = 0 then b else if b = 0 then a else min a b

/-- A ceiling takes a new target (R343): a lower one at once; a higher one, or none, once every result for 0x9010.05 has allowed it. -/
def State.riseTo (s : State) (cur want : Nat) (rise : Option (Nat × Nat)) : Nat × Option (Nat × Nat) :=
  if want = cur then (cur, none)
  else if cur = 0 ∨ (want ≠ 0 ∧ want < cur) then (want, none)
  else
    let r := match rise with
      | some (t, c) => (t, lesser c want)
      | none => (s.now, want)
    if r.1 + s.actN 0x9010 5 * ticksPerMs ≤ s.now then (r.2, none) else (cur, some r)

/-- The line-only ceiling of a group at a factor k, Hz; 0 for none (R342). -/
def State.lineTarget (s : State) (k : Rat) (g : GroupId) : Nat :=
  if s.pwr.aux || decide (1 ≤ k) || (s.bridgesOf g).isEmpty then 0
  else max 2000 ((max 0 k * s.actR 0x2010 (g.val + 1) / 100).floor.toNat * 100)

/-- The island ceiling of a group, Hz; 0 for none (R344). -/
def State.islandTarget (s : State) (g : GroupId) : Nat :=
  let q := ((s.bridgesOf g).flatMap fun b => allSlots.map (s.gateCharge b)).foldl max 0
  let e := (q : Rat) / 1000000000 * (s.gateSwing g : Rat) / 10
  if e ≤ 0 then 0
  else
    let f := (3 / e / 100).floor.toNat * 100
    if 100000 ≤ f then 0 else f

/-- A group's ceilings are in force. -/
def settleCeiling (k : Rat) (g : GroupId) (s : State) : State :=
  let l := s.riseTo s.pwr.line[g] (s.lineTarget k g) s.pwr.lineRise[g]
  let i := s.riseTo s.pwr.island[g] (s.islandTarget g) s.pwr.islandRise[g]
  { s with pwr := { s.pwr with line := s.pwr.line.set g l.1, lineRise := s.pwr.lineRise.set g l.2,
                               island := s.pwr.island.set g i.1, islandRise := s.pwr.islandRise.set g i.2 } }

/-- Power at the device of a granted class, 0.1 W (R338). -/
def classPower (c : Nat) : Nat := if c = 9 then 500 else if c = 8 then 200 else 0

/-- Granted power of the ports that deliver, 0.1 W. -/
def State.grants (s : State) : Nat :=
  (if s.pwr.delivering[0] then classPower s.pwr.granted[0] else 0) + if s.pwr.delivering[1] then classPower s.pwr.granted[1] else 0

/-- The input powers as measured, in 0.1 W: NA, NB and the auxiliary converter's output (R357); over budget no longer once the line input lies
within the grants. -/
def noteInputs (inputs : Vector Nat 3) (s : State) : State :=
  { s with pwr := { s.pwr with portPower := #v[inputs[0], inputs[1]], auxPower := inputs[2],
                               overBudget := s.pwr.overBudget && decide (s.grants < inputs[0] + inputs[1]) } }

/-- The budget (R342): P_S is measured, P_G and k follow; every change of a ceiling raises E-9002 (R343, R344; log 90). -/
def powerBudget (sensorPower : Nat) (s : State) : State :=
  let ports := s.grants
  let pg : Rat := (92 * ports : Nat) / 100 - 180 - (sensorPower : Nat) - s.actR 0x9010 1
  let d := s.gateDemand (allBr.filter fun b => decide (s.br[b].state = .run) || s.starting b) (fun g => s.actN 0x2010 (g.val + 1))
  let k : Rat := if d ≤ 0 then 1 else min 1 (pg / 10 / d)
  let old := (s.pwr.line, s.pwr.island)
  let s := { s with pwr := { s.pwr with ps := sensorPower, pg := pg.floor, k := (1000 * k).floor.toNat } }
  let s := forGr allGr (settleCeiling k) s
  if (s.pwr.line, s.pwr.island) = old then s
  else bump 0xE090 3 (raise4 0x9002 ((s.pwr.k : Int) :: (s.pwr.line.toList ++ s.pwr.island.toList).map fun c => (c : Int)) s)

/-! Task map (R219 to R222, R327) -/

/-- The step of a bridge is in progress and has given no reference: it does not move by plan (R221; log 91). -/
def State.midStep (s : State) (b : BridgeId) : Bool := s.br[b].ctl.opened && !s.br[b].ctl.gotRef

/-- Tasks return to the preferred map: the steps first, one bridge per result, then the monitors, the thermal models and placement
(R222). A split that waits takes its pair (R327). -/
def returnTasks (s : State) : State :=
  match s.drive.splitRef with
  | some (r, p) => finishSplit p r s
  | none =>
    match allBr.find? fun b => decide (s.br[b].pair ≠ s.stepPair b) with
    | some b => if s.midStep b then s else moveStep true b (s.stepPair b) s
    | none => movePlacement true (forBr allBr (moveWatch true) s)

/-- The moves of R222 are complete. -/
def State.tasksHome (s : State) : Bool := allBr.all fun b => decide (s.br[b].pair = s.stepPair b) && decide (s.br[b].monPair = s.watchPair b) &&
  decide (s.br[b].thermPair = s.thermalPair b)

/-- The measures of R220; they are lifted only once the moves are complete (R222). -/
def balance (s : State) : State :=
  refreshBounds (if s.tasksHome || decide (s.actR 0x7050 1 < s.worstLoad s.place.factor) then settleLoads s else s)

/-! Short-brake sides (R249) -/

/-- The side that a short-braking bridge uses from now on (R249): 0 where R105 leaves neither, and in SHUNT-ONLY. -/
def State.nextSide (s : State) (b : BridgeId) : Nat :=
  let x := s.br[b].ctl
  if s.br[b].meas.mode = 2 then 0 else
  let high := x.shortSide == 2
  let h := s.actBR b 0x7008 7
  let mine := s.sideHeat b high
  let other := s.sideHeat b (!high)
  let flip := if high then 1 else 2
  match s.sideFree b high, s.sideFree b (!high) with
  | true, true =>
    if other + h ≤ mine then flip
    else if mine + h ≤ other then x.shortSide
    else if x.shortSince + s.actN 0x7102 5 * ticksPerMs ≤ s.now then flip else x.shortSide
  | true, false => x.shortSide
  | false, true => flip
  | false, false => 0

/-- A placement result chooses the side of a short-braking bridge; one that may not short any more brakes through its loops, with E-7105. -/
def chooseSide (b : BridgeId) (s : State) : State :=
  let old := s.br[b].ctl.shortSide
  if old = 0 then s
  else
    let new := s.nextSide b
    if new = old then s
    else if new = 0 then endShort b s
    else modCtl b (fun x => { x with shortSide := new, shortSince := s.now }) s

/-! Interleaving (R223, R224, R294) -/

/-- A bridge of an interleave set: its device's serial number and rank, its number, carrier period, reload point and current in 0.1 A. -/
structure Member where
  serial : Nat
  rank : Nat
  bridge : Nat
  period : Nat
  reload : Nat
  current : Nat
  deriving DecidableEq, Repr

/-- The announcement data of this device's bridges in RUN (R224, R456; log 92). -/
def State.ownBridges (s : State) : List AnnBridge :=
  (allBr.filter fun b => decide (s.br[b].state = .run)).map fun b =>
    { bridge := b.val + 1, reload := s.reloadPoint b, period := s.periodTicks b, current := (10 * s.br[b].ctl.dcMean).floor }

/-- Members of a device. -/
def membersOf (serial rank : Nat) (l : List AnnBridge) : List Member :=
  l.map fun a => { serial := serial, rank := rank, bridge := a.bridge, period := a.period, reload := a.reload, current := a.current.natAbs }

/-- Every member: this device's and its partners' bridges. -/
def State.members (s : State) : List Member :=
  membersOf Config.serial (s.actN 0x7060 6) s.ownBridges ++ s.place.partners.flatMap fun p => membersOf p.serial p.rank p.bridges

/-- The order of R223: largest current first, then rank, then bridge number; serial numbers settle what is left (log 92). -/
def Member.before (a b : Member) : Bool :=
  decide (b.current < a.current) || (a.current == b.current && (decide (a.rank < b.rank) || (a.rank == b.rank &&
    (decide (a.bridge < b.bridge) || (a.bridge == b.bridge && decide (a.serial < b.serial))))))

/-- Insert a member in order. -/
def placeMember (m : Member) : List Member → List Member
  | [] => [m]
  | x :: r => if m.before x then m :: x :: r else x :: placeMember m r

/-- Two members belong to one interleave set (R223). -/
def Member.joins (a b : Member) : Bool := a.period == b.period && a.reload == b.reload

/-- The members by set, each in its order; `n` bounds the sets. -/
def interleaveSets : Nat → List Member → List (List Member)
  | 0, _ => []
  | _, [] => []
  | n + 1, m :: r => ((m :: r).filter m.joins).foldr placeMember [] :: interleaveSets n (r.filter fun x => !m.joins x)

/-- The smallest m with N ≤ 2^m. -/
def log2Up (n : Nat) : Nat := ((List.range 32).find? fun k => decide (n ≤ 2 ^ k)).getD 32

/-- The m-bit reversal of i. -/
def bitrev (m i : Nat) : Nat := (List.range m).foldl (fun x k => 2 * x + i / 2 ^ k % 2) 0

/-- The slot sequence of a set of N bridges (R223). -/
def slotSequence (n : Nat) : List Nat := ((List.range (2 ^ log2Up n)).map (bitrev (log2Up n))).filter fun v => decide (v < n)

/-- Offset of slot s of N: round (s × 65,536 / N). -/
def slotOffset (n s : Nat) : Nat := (2 * s * 65536 + n) / (2 * max 1 n) % 65536

/-- A member as the schedule records it. -/
def Member.key (m : Member) : Nat × Nat × Nat × Nat := (m.serial, m.bridge, m.period, m.reload)

/-- Two members of a set stand in the wrong order by more than the hysteresis, per cent of the larger current (R223). -/
def wrongOrder (h : Nat) : List Member → Bool
  | [] => false
  | a :: r => r.any (fun b => a.joins b && decide (a.current < b.current) && decide (h * b.current < 100 * (b.current - a.current))) || wrongOrder h r

/-- This device leads: no partner has a lower rank, or the same rank and a lower serial number (R224). -/
def State.leads (s : State) : Bool :=
  s.place.partners.all fun p => decide (s.actN 0x7060 6 < p.rank) || (s.actN 0x7060 6 == p.rank && decide (Config.serial < p.serial))

/-- The leader's serial number; 0 while there is no partner (log 93). -/
def settleLeader (s : State) : State :=
  let best := s.place.partners.foldl (fun (m : Nat × Nat) p => if p.rank < m.1 ∨ (p.rank = m.1 ∧ p.serial < m.2) then (p.rank, p.serial) else m)
    (s.actN 0x7060 6, Config.serial)
  { s with place := { s.place with leader := if s.place.partners.isEmpty then 0 else best.2 } }

/-- Interleave is recomputed (R223): the sets have changed, or two bridges stand in the wrong order after the minimum interval. -/
def State.reorders (s : State) : Bool :=
  let ms := s.members
  let keys := ms.map Member.key
  let changed := keys.any (fun k => !s.place.order.contains k) || s.place.order.any fun k => !keys.contains k
  let now := s.place.order.filterMap fun k => ms.find? fun m => decide (m.key = k)
  changed || (wrongOrder (s.actN 0x7060 8) now && decide (s.place.orderAt + s.actN 0x7060 9 * ticksPerS ≤ s.now))

/-- Interleaving is computed here: enabled, this device leads, the time domain window is not open (R294). -/
def State.interleaves (s : State) : Bool :=
  s.actN 0x7060 2 == 1 && s.leads && s.clove.windows[15].opened.isNone && !s.place.left

/-- The offsets of the sets with each bridge's collision shift. -/
def State.offsetsOf (s : State) (sets : List (List Member)) : List OffsetEntry :=
  sets.flatMap fun l => (l.zip (slotSequence l.length)).map fun c =>
    let shift := if c.1.serial = Config.serial then s.br[brAt (c.1.bridge - 1)].car.shift else 0
    { serial := c.1.serial, bridge := c.1.bridge, offset := BitVec.ofNat 16 (slotOffset l.length c.2 + shift) }

/-- A bridge whose collision losses passed the threshold moves by +1,024, to at most +4,096 from its slot (R223). -/
def shiftCrowded (b : BridgeId) (s : State) : State :=
  if !s.place.crowded[b] then s
  else
    let s := { s with place := { s.place with crowded := s.place.crowded.set b false } }
    if s.br[b].car.shift < 4096 then bump 0xE070 8 (modBr b (fun x => { x with car := { x.car with shift := x.car.shift + 1024 } }) s) else s

/-- A scheduled offset of a bridge; a newer schedule replaces the older (R75, R230). -/
def scheduleOffset (time : Nat) (e : OffsetEntry) (s : State) : State :=
  if e.serial = Config.serial ∧ 1 ≤ e.bridge ∧ e.bridge ≤ 4 then
    modBr (brAt (e.bridge - 1)) (fun x => { x with car := { x.car with schedule := some (e.offset.toNat, time) } }) s
  else s

/-! Messages (R456, R477) -/

/-- Bytes of an announcement (R456; log 94). -/
def announceBytes (a : Announcement) : List Byte :=
  [BitVec.ofNat 8 a.version, 1] ++ leBytes 2 (16 + 8 * a.bridges.length) ++ leBytes 8 a.serial ++ leBytes 4 a.dcLink ++
    leBytes 1 a.rank ++ leBytes 1 a.domain ++ leBytes 1 a.bridges.length ++ [0] ++
    a.bridges.flatMap fun b => leBytes 1 b.bridge ++ leBytes 1 b.reload ++ leBytes 4 b.period ++ leBytes 2 (ofSigned 16 b.current)

/-- Bytes of an offset schedule (R456). -/
def scheduleBytes (o : OffsetSchedule) : List Byte :=
  [BitVec.ofNat 8 o.version, 2] ++ leBytes 2 (28 + 12 * o.entries.length) ++ leBytes 8 o.leader ++ leBytes 4 o.dcLink ++
    leBytes 1 o.entries.length ++ [0, 0, 0] ++ leBytes 8 (o.time / unitsPerS) ++ leBytes 4 (o.time / 65536 % 1000000000) ++
    o.entries.flatMap fun e => leBytes 8 e.serial ++ leBytes 1 e.bridge ++ [0] ++ leBytes 2 e.offset.toNat

/-- A controller takes part in the announcements (R477): sub 0x18 set, mode 0x00 or 0x01, 0x7060.01 not zero. -/
def State.canAnnounces (s : State) (c : CanId) : Bool :=
  s.actN (0xB000 + c.val) 0x18 == 1 && s.actN 0x7060 1 != 0 && decide (s.actN (0xB000 + c.val) 2 ≤ 1)

/-- The announcement (sub 0x19) or schedule (sub 0x1A) identifier of a controller; its low byte is the claimed address in identifier mode
0x01 (R477). -/
def State.announceIdent (s : State) (c : CanId) (sub : Nat) : Nat :=
  let i := s.actN (0xB000 + c.val) sub
  if s.actN (0xB000 + c.val) 0x11 = 1 then i / 256 * 256 + s.can[c].address else i

/-- Data padded with the padding byte to n bytes. -/
def State.padTo (s : State) (c : CanId) (n : Nat) (l : List Byte) : List Byte :=
  l ++ List.replicate (n - l.length) (BitVec.ofNat 8 (s.actN (0xB000 + c.val) 0x17))

/-- A message goes out on a controller as one FD frame of DLC 15; not while it holds no address in mode 0x01 (R475, R477). -/
def announceOn (c : CanId) (sub : Nat) (bytes : List Byte) (s : State) : State :=
  if s.canAnnounces c && s.canSends c && !(s.actN (0xB000 + c.val) 0x11 == 1 && s.can[c].address == 0xFE) then
    canQueue c (s.canFrame c (s.announceIdent c sub) (s.padTo c 64 bytes)) none s
  else s

/-- The domain number in use (0xA100.01 or .02), if a domain is in use. -/
def State.domainNumber (s : State) : Option Nat := if s.time.use = 0 then none else some (s.actN 0xA100 s.time.use)

/-- A schedule in CAN frames of at most two entries each (R477). `n` bounds the frames. -/
def scheduleOnCan (c : CanId) (o : OffsetSchedule) : Nat → List OffsetEntry → State → State
  | 0, _, s => s
  | _, [], s => s
  | n + 1, e :: r, s => scheduleOnCan c o n (r.drop 1) (announceOn c 0x1A (scheduleBytes { o with entries := e :: r.take 1 }) s)

/-- The leader announces a schedule to its partners (R224). -/
def sendSchedule (o : OffsetSchedule) (s : State) : State :=
  if s.place.partners.isEmpty then s
  else
    let s := send (.schedule o) s
    scheduleOnCan 1 o o.entries.length o.entries (scheduleOnCan 0 o o.entries.length o.entries s)

/-- Compute the interleave sets, schedule the offsets 0x7060.03 ahead, with E-700B, and announce them (R223, R224). -/
def interleave (s : State) : State :=
  if !s.interleaves || !s.reorders then s
  else
    let s := forBr allBr shiftCrowded s
    let sets := interleaveSets s.members.length s.members
    let s := { s with place := { s.place with order := (sets.flatMap id).map Member.key, orderAt := s.now } }
    let es := s.offsetsOf sets
    if es.isEmpty then s
    else
      let ns := s.time.at s.now / 65536 + s.actN 0x7060 3 * 1000000
      let o : OffsetSchedule := { version := 1, leader := Config.serial, dcLink := s.actN 0x7060 1, time := ns * 65536, entries := es }
      let s := es.foldl (fun a e => scheduleOffset (ns * 65536) e a) s
      let words := [((ns / 1000000000 : Nat) : Int), ((ns % 1000000000 : Nat) : Int)] ++ (es.take 30).map fun e => (e.offset.toNat : Int)
      sendSchedule o (bump 0xE070 7 (raise4 0x700B words s))

/-- Collision losses of the past second are judged (R223). -/
def judgeCollisions (s : State) : State :=
  if s.now < s.place.collisionAt + ticksPerS then s
  else
    let limit := s.actN 0x7060 7
    { s with place := { s.place with
      collisionAt := s.now, collisions := .replicate 4 0,
      crowded := Vector.ofFn fun b => s.place.crowded[b] || decide (limit < s.place.collisions[b]) } }

/-! Arbiter adaptation (R386) -/

/-- Move the highest slot of a donor to a requester in a table. -/
def moveSlot (donor taker : Nat) (t : List Nat) : List Nat :=
  match (List.range t.length).reverse.find? fun k => t.getD k 8 == donor with
  | some k => t.set k taker
  | none => t

/-- Move up to n slots to the taker, each from the donor with fewer unserved cycle groups that keeps 2 slots (R386; log 95). -/
def moveSlots (taker : Nat) (donors : List Nat) : Nat → List Nat → List Nat
  | 0, t => t
  | n + 1, t => match donors.find? fun d => Nat.blt 2 (slotsOf t d) with
    | some d => moveSlots taker donors n (moveSlot d taker t)
    | none => t

/-- A placement result adapts the slot table toward the requester of A3, A4 and A6 that went unserved longest (R386). -/
def adaptSlots (s : State) : State :=
  let un (k : Nat) : Nat := (s.arb.reqs.toList.map (·.unserved)).getD k 0
  let taker := [3, 4, 6].foldl (fun m k => if un m < un k then k else m) 3
  let rest := [3, 4, 6].filter (· != taker)
  let donors := match rest with
    | [a, b] => if un b < un a then [b, a] else [a, b]
    | l => l
  let t := (s.arb.adapted.getD s.arb.table).toList
  let new := moveSlots taker donors 4 t
  let s' := { s with arb := { s.arb with reqs := s.arb.reqs.map fun r => { r with unserved := 0 } } }
  if s.actN 0x7080 3 ≠ 1 ∨ un taker = 0 ∨ s.arb.base.isSome ∨ new = t then s'
  else { s' with arb := { s'.arb with adapted := some (Vector.ofFn fun k => new.getD k.val 0) } }

/-! PLACEMENT_RESULT -/

/-- What a placement result brings from outside: execution times and mean DC-link currents in 0.1 A (R219, R223). -/
def notePlacement (costs : Vector Nat 4) (dcCurrents : Vector Int 4) (s : State) : State :=
  forBr allBr (fun b => modCtl b fun x => { x with dcMean := (dcCurrents[b] : Rat) / 10 }) { s with place := { s.place with costs := costs } }

/-- The junction estimates that the clamp choice compares until the next result (R29, R217). -/
def noteHeat (s : State) : State := forBr allBr (fun b a => modCtl b (fun x => { x with heat := Vector.ofFn (a.junction b) }) a) s

/-- PLACEMENT_RESULT (R29, R212, R217, R219 to R223, R225, R249, R270, R342 to R344, R386). -/
def placementResult (costs : Vector Nat 4) (sensorPower : Nat) (inputs : Vector Nat 3) (dcCurrents : Vector Int 4) (s : State) : State :=
  let s := notePlacement costs dcCurrents s
  let s := forGr allGr noteShares (forBr (allBr.filter fun b => decide (s.br[b].state = .run)) noteHeadroom s)
  let s := powerBudget sensorPower (noteInputs inputs s)
  let s := balance (returnTasks s)
  let s := forBr allBr chooseSide (noteHeat s)
  let s := judgeCollisions s
  let s := if s.place.lossWait then s else interleave s
  adaptSlots s

/-- PLACEMENT_RESULT. -/
def execPlacementResult (costs : Vector Nat 4) (sensorPower : Nat) (inputs : Vector Nat 3) (dcCurrents : Vector Int 4) (s : State) :
    Host.Outcome State Fault Refusal :=
  .next (onlyIf s.coresOn (placementResult costs sensorPower inputs dcCurrents) s)

/-! Partners (R224, R294, R455, R456, R477) -/

/-- The announcement of this device (R456); while no domain is in use its domain field is open (log 88). -/
def State.announcement (s : State) : Announcement :=
  { version := 1, serial := Config.serial, dcLink := s.actN 0x7060 1, rank := s.actN 0x7060 6,
    domain := s.domainNumber.getD (Config.noDomain % 256), bridges := s.ownBridges }

/-- INTERLEAVE_ANNOUNCEMENT_TX (R224, R293, R294, R477): on Ethernet once a partner is found, on CAN also to find one; none after the set was
left. A partner's loss is computed in this slot (R230). -/
def announceTx (s : State) : State :=
  if s.actN 0x7060 1 = 0 ∨ s.place.left then s
  else
    let a := s.announcement
    let s := onlyIf (!s.place.partners.isEmpty) (send (.announce a)) s
    let s := announceOn 1 0x19 (announceBytes a) (announceOn 0 0x19 (announceBytes a) s)
    if s.place.lossWait then interleave { s with place := { s.place with lossWait := false } } else s

/-- INTERLEAVE_ANNOUNCEMENT_TX. -/
def execInterleaveAnnouncementTx (s : State) : Host.Outcome State Fault Refusal := .next (announceTx s)

/-- A device may be a partner (R224): the same DC-link identifier, not zero, the same time domain, phase lock enabled, and not this device. -/
def State.partnerOk (s : State) (serial dcLink domain : Nat) : Bool :=
  s.actN 0x7060 1 != 0 && dcLink == s.actN 0x7060 1 && decide (s.domainNumber = some domain) && s.actN 0x2060 1 == 1 && serial != Config.serial &&
    !s.place.left

/-- A partner's data are renewed; a new partner raises E-7009 (R224). `keep` where the message is no announcement. -/
def notePartner (p : Partner) (keep : Bool) (s : State) : State :=
  match s.place.partners.find? fun q => q.serial == p.serial with
  | some old =>
    let p := if keep then { p with bridges := old.bridges, heardAt := old.heardAt } else p
    settleLeader { s with place := { s.place with partners := s.place.partners.map fun q => if q.serial = p.serial then p else q } }
  | none =>
    bump 0xE070 5 (raise4 0x7009 [(p.serial : Int), (p.rank : Int)] (settleLeader { s with place := { s.place with
      partners := s.place.partners ++ [p] } }))

/-- A message path is open to the announcements (R470, R477). -/
def State.pathOpen (s : State) : PartnerPath → Bool
  | .ethernet => s.netRuns
  | .can c => s.canAnnounces c && s.actN (0xB000 + c.val) 1 == 1

/-- INTERLEAVE_ANNOUNCEMENT_RX (R224, R456): another version, DC-link identifier or domain is ignored. -/
def announceRx (a : Announcement) (path : PartnerPath) (s : State) : State :=
  if a.version = 1 ∧ s.partnerOk a.serial a.dcLink a.domain ∧ s.pathOpen path then
    notePartner { serial := a.serial, rank := a.rank, bridges := a.bridges, heardAt := s.now } false s
  else s

/-- INTERLEAVE_ANNOUNCEMENT_RX. -/
def execInterleaveAnnouncementRx (a : Announcement) (path : PartnerPath) (s : State) : Host.Outcome State Fault Refusal :=
  .next (announceRx a path s)

/-- A leader's entry for this device: a bridge whose collision losses passed the threshold moves on by its shift (R223). -/
def scheduleOwn (time : Nat) (e : OffsetEntry) (s : State) : State :=
  if e.serial = Config.serial ∧ 1 ≤ e.bridge ∧ e.bridge ≤ 4 then
    let b := brAt (e.bridge - 1)
    let s := shiftCrowded b s
    scheduleOffset time { e with offset := e.offset + BitVec.ofNat 16 s.br[b].car.shift } s
  else s

/-- OFFSET_SCHEDULE_RX (R223, R224, R294, R456, R463): the entries that name this device's serial number are scheduled; not in a free run nor while
the time domain window is open. Only a partner's schedule counts. -/
def scheduleRx (o : OffsetSchedule) (path : PartnerPath) (s : State) : State :=
  let ok := o.version == 1 && o.dcLink == s.actN 0x7060 1 && (s.place.partners.any fun p => p.serial == o.leader) && s.pathOpen path &&
    s.clove.windows[15].opened.isNone && s.time.use != 0
  if ok then o.entries.foldl (fun a e => scheduleOwn o.time e a) s else s

/-- OFFSET_SCHEDULE_RX. -/
def execOffsetScheduleRx (o : OffsetSchedule) (path : PartnerPath) (s : State) : Host.Outcome State Fault Refusal := .next (scheduleRx o path s)

/-- PARTNER_TIMEOUT (R224, R230): a partner that has missed 0x7060.05 announcements is lost, with E-700A; the rest recompute at the next
announcement slot. -/
def partnerLost (serial : Nat) (s : State) : State :=
  match s.place.partners.find? fun p => p.serial == serial with
  | none => s
  | some p =>
    let s := setNow (p.heardAt + s.actN 0x7060 5 * s.actN 0x7060 4 * ticksPerMs) s
    let s := { s with place := { s.place with partners := s.place.partners.filter fun p => p.serial != serial, lossWait := true } }
    bump 0xE070 6 (raise4 0x700A [(serial : Int)] (settleLeader s))

/-- PARTNER_TIMEOUT. -/
def execPartnerTimeout (serial : Nat) (s : State) : Host.Outcome State Fault Refusal := .next (partnerLost serial s)

end Sys2Proof.Machine
end

