-- ==== Sys2Proof/Machine/SafetyFn.lean ====
section
/-! DEFINITION. The safety functions: STO, the ends of SS1, SLS and SLP violations, Clove's speed and power checks, the torque monitor, the
brake's feedback and the expiry of Sumac windows (R273 to R296, R319). Timers are the outside's: an expiry acts where the condition that it
times still holds in the state (log 1). -/

namespace Sys2Proof.Machine

/-! STO (R273 to R275) -/

/-- STO_INPUT_CHANGE: a filtered input changes; an injection holds the path of input B high (R493). The first low of the two requests STO; with both high E-8002, and the forcing stays latched. -/
def stoInput (chB high : Bool) (s : State) : State :=
  let was := s.clove.stoA && s.clove.stoB
  let a := if chB then s.clove.stoA else high
  let b := if chB then high || s.injects 0x0D01 else s.clove.stoB
  let s := { s with clove := { s.clove with stoA := a, stoB := b, bothLow := s.clove.bothLow || (s.clove.discrepancy && !a && !b) } }
  if !s.pwr.domains[1] then s
  else if was && !(a && b) then stoRequest s
  else if !was && a && b then raise4 0x8002 [] (forBr allBr (endCause .sto) s)
  else s

/-- STO_INPUT_CHANGE. -/
def execStoInputChange (chB high : Bool) (s : State) : Host.Outcome State Fault Refusal := .next (stoInput chB high s)

/-- STO_DISCREPANCY: the inputs have differed for 0x8010.01; the latch holds until both have been low and then high together (R274). -/
def stoDiscrepancy (s : State) : State :=
  if s.clove.stoA == s.clove.stoB || s.clove.discrepancy then s
  else
    let s := injected 0x0D01 s
    bump 0xE080 2 (raise4 0x8003 [] { s with clove := { s.clove with discrepancy := true, bothLow := false } })

/-- STO_DISCREPANCY. -/
def execStoDiscrepancy (s : State) : Host.Outcome State Fault Refusal := .next (stoDiscrepancy s)

/-! SS1 (R278) -/

/-- SS1_ENVELOPE_VIOLATION: the speed has lain above the envelope for 0x8031.01. -/
def ss1Violation (g : GroupId) (s : State) : State :=
  match s.gr[g].ss1 with
  | some x => match x.excess with
    | some t => safeGroup g (bump (0xE081 + g.val) 2 (raiseG 0x8012 g [] (setNow (t + s.actN 0x8031 1 * ticksPerUs) s)))
    | none => s
  | none => s

/-- SS1_ENVELOPE_VIOLATION. -/
def execSs1EnvelopeViolation (g : GroupId) (s : State) : Host.Outcome State Fault Refusal := .next (ss1Violation g s)

/-- SS1_TIMEOUT: standstill has not been confirmed within 0x8020.09–0C. -/
def ss1Timeout (g : GroupId) (s : State) : State :=
  match s.gr[g].ss1 with
  | some x =>
    if x.goal = 0 && !x.confirmed then safeGroup g (raiseG 0x8013 g [] (setNow (x.start + s.actN 0x8020 (g.val + 9) * ticksPerMs) s)) else s
  | none => s

/-- SS1_TIMEOUT. -/
def execSs1Timeout (g : GroupId) (s : State) : Host.Outcome State Fault Refusal := .next (ss1Timeout g s)

/-- STANDSTILL_CONFIRMED (R278, R290): E-8011; without a brake the bridges enter the safe state of R251, with one the brake closes while they
hold zero speed. -/
def standstill (g : GroupId) (s : State) : State :=
  match s.gr[g].ss1 with
  | some x => match x.calm with
    | some t =>
      if x.goal ≠ 0 || x.confirmed then s
      else
        let s := raiseG 0x8011 g [] (setNow (t + s.actN 0x8020 0x11 * ticksPerMs) s)
        if s.brakeGroup = some g then
          let s := applyBrake (modGr g (fun y => { y with ss1 := some { x with confirmed := true } }) s)
          { s with clove := { s.clove with brakeClose := some s.now } }
        else endSs1 g s
    | none => s
  | none => s

/-- STANDSTILL_CONFIRMED. -/
def execStandstillConfirmed (g : GroupId) (s : State) : Host.Outcome State Fault Refusal := .next (standstill g s)

/-- BRAKE_CLOSE_EXPIRY (R278, R290): 0x8040.03 after the standstill the bridges enter the safe state of R251. -/
def brakeCloseEnd (s : State) : State :=
  match s.clove.brakeClose, s.brakeGroup with
  | some t, some g =>
    let s := setNow (t + s.actN 0x8040 3 * ticksPerMs) { s with clove := { s.clove with brakeClose := none } }
    if s.gr[g].ss1.any (·.confirmed) then endSs1 g s else s
  | _, _ => { s with clove := { s.clove with brakeClose := none } }

/-- BRAKE_CLOSE_EXPIRY. -/
def execBrakeCloseExpiry (s : State) : Host.Outcome State Fault Refusal := .next (brakeCloseEnd s)

/-! SLS and SLP (R280, R281, R284) -/

/-- The reaction of R280, with E-8021 and its counter. -/
def slsReaction (g : GroupId) (s : State) : State :=
  safetyReaction g (s.actN 0x8031 (g.val + 2)) ss1FromSls (bump (0xE081 + g.val) 3 (raiseG 0x8021 g [] s))

/-- SLS_VIOLATION: the speed has lain above the limit for 0x8031.01. -/
def slsViolation (g : GroupId) (s : State) : State :=
  match s.gr[g].slsOver with
  | some t => slsReaction g (setNow (t + s.actN 0x8031 1 * ticksPerUs) s)
  | none => s

/-- SLS_VIOLATION. -/
def execSlsViolation (g : GroupId) (s : State) : Host.Outcome State Fault Refusal := .next (slsViolation g s)

/-- SLS_DECELERATION_TIMEOUT (R281): the limit was not reached within 0x8020.09–0C. -/
def slsTimeout (g : GroupId) (s : State) : State :=
  match s.gr[g].slsFrom with
  | some t =>
    slsReaction g (modGr g (fun y => { y with slsFrom := none, ss1 := y.ss1.filter fun x => decide (x.goal = 0) })
      (setNow (t + s.actN 0x8020 (g.val + 9) * ticksPerMs) s))
  | none => s

/-- SLS_DECELERATION_TIMEOUT. -/
def execSlsDecelerationTimeout (g : GroupId) (s : State) : Host.Outcome State Fault Refusal := .next (slsTimeout g s)

/-- SLP_VIOLATION: E has lain beyond a limit for 0x8031.01. -/
def slpViolation (g : GroupId) (s : State) : State :=
  match s.gr[g].slpOver with
  | some t =>
    let s := bump (0xE081 + g.val) 5 (raiseG 0x8031 g [s.gr[g].pos.count] (setNow (t + s.actN 0x8031 1 * ticksPerUs) s))
    safetyReaction g (s.actN 0x8031 (g.val + 10)) ss1FromSlp s
  | none => s

/-- SLP_VIOLATION. -/
def execSlpViolation (g : GroupId) (s : State) : Host.Outcome State Fault Refusal := .next (slpViolation g s)

/-! Clove's speed checks (R282) -/

/-- Clove's overspeed trip of a group. -/
def cloveTrip (g : GroupId) (s : State) : State :=
  safeGroup g (bump 0xE080 3 (raiseG 0x8023 g [s.clove.speed[g].freq] s))

/-- CLOVE_OVERSPEED: f_C, in 0.1 Hz, is valid and above 0x8032.01–04. -/
def cloveOverspeed (g : GroupId) (s : State) : State :=
  if s.clove.speed[g].valid && decide (10 * s.actN 0x8032 (g.val + 1) < s.clove.speed[g].freq.natAbs) then cloveTrip g s else s

/-- CLOVE_OVERSPEED. -/
def execCloveOverspeed (g : GroupId) (s : State) : Host.Outcome State Fault Refusal := .next (cloveOverspeed g s)

/-- Electrical frequency of a group from its speed, Hz (R156). -/
def State.groupHz (s : State) (g : GroupId) : Rat := s.gr[g].pos.speed * s.actR 0x5002 (g.val + 1) / 60

/-- f_C and the group's electrical frequency differ by more than 0x8032.05 per cent of f_C, f_C being valid and above 0x8032.06 (R282). -/
def State.speedsDiffer (s : State) (g : GroupId) : Bool :=
  let f : Rat := (s.clove.speed[g].freq : Rat) / 10
  s.clove.speed[g].valid && decide (s.actR 0x8032 6 < abs f) && decide (s.actR 0x8032 5 * abs f < 100 * abs (f - s.groupHz g))

/-- CLOVE_SPEED_DISAGREEMENT: the difference has lasted 10 ms. -/
def cloveDisagrees (g : GroupId) (s : State) : State :=
  if s.speedsDiffer g then safeGroup g (raiseG 0x8022 g [s.clove.speed[g].freq, (10 * s.groupHz g).floor] s) else s

/-- CLOVE_SPEED_DISAGREEMENT. -/
def execCloveSpeedDisagreement (g : GroupId) (s : State) : Host.Outcome State Fault Refusal := .next (cloveDisagrees g s)

/-! Clove's power check (R288) -/

/-- The bound of R288 in W for a power of that sign: the groups' limits (0.1 kW), the margin (%) and the allowance (kW). -/
def State.powerBound (s : State) (generating : Bool) : Rat :=
  let first := if generating then 5 else 1
  let sum : Rat := ((allGr.filter fun g => !(s.bridgesOf g).isEmpty).map fun g => 100 * s.actR 0x7002 (g.val + first)).foldl (· + ·) 0
  sum * (100 + s.actR 0x8080 1) / 100 + 1000 * s.actR 0x8080 2

/-- CLOVE_POWER_CHECK: the mean P_C of 1 ms, in W, at tick t; a bound exceeded for 10 ms is a level 4 fault. -/
def powerCheck (power : Int) (t : Nat) (s : State) : State :=
  let s := setNow t s
  let high := decide (s.powerBound (decide (power < 0)) < ((power.natAbs : Nat) : Rat))
  let from0 := since high s.clove.powerOver s.now
  let trips := from0.any fun u => decide (u + 10 * ticksPerMs ≤ s.now)
  let s := { s with clove := { s.clove with powerOver := if trips then none else from0 } }
  if trips then safeDriveOnce .cloveRequest (bump 0xE080 4 (raise4 0x8051 [power] s)) else s

/-- CLOVE_POWER_CHECK. -/
def execClovePowerCheck (power : Int) (t : Nat) (s : State) : Host.Outcome State Fault Refusal := .next (powerCheck power t s)

/-! Pair mismatch (R317), which a protection violation of a monitor run takes too (R319) -/

/-- The pair leaves lockstep with E-8201, which names the group; its tasks move, and the placement logic runs at once on the other pair. The
groups are 0 to 5 of R315, and 6 a protection violation (log 6). -/
def pairMismatch (p : PairId) (grp : Nat) (s : State) : State :=
  if !(decide (s.pairs[p].state = .lockstep) || decide (s.pairs[p].state = .cache)) then s
  else
    let s := bump (0xE089 + p.val) 1 (raise4 0x8201 [(p.val + 1 : Int), (grp : Int)] s)
    countPairFault p (leaveLockstep p .recovering s)

/-! Torque monitor (R286, R287) -/

/-- T_mon: the atlas torque at the shunt-reconstructed currents; where the atlas gives none, the torque of the step (log 96). -/
def State.monitorTorque (s : State) (b : BridgeId) (g : GroupId) : Rat :=
  let i := park (clarke s.br[b].meas.recon) (s.frameAngle b g)
  match s.lookup g i.1 i.2 (s.frameAngle b g) s.gr[g].obs.temp with
  | some l => l.torque
  | none => s.br[b].ctl.torque

/-- T_ctl: the atlas torque at the currents of the step; in SHUNT-ONLY at the observer's predicted currents, a free value (R131; log 96). -/
def State.controlTorque (s : State) (b : BridgeId) (g : GroupId) : Rat :=
  if s.br[b].meas.mode = 2 then
    let i := Config.predictedCurrents s.freeCount
    match s.lookup g i.1 i.2 (s.frameAngle b g) s.gr[g].obs.temp with
    | some l => l.torque
    | none => s.br[b].ctl.torque
  else s.br[b].ctl.torque

/-- A run fails (R286): |T_mon − T_ctl| above the tolerance, or T_mon above T_cmd in the sense of T_cmd, or of the speed where T_cmd is 0. -/
def State.runFails (s : State) (b : BridgeId) (g : GroupId) : Bool :=
  let tol := s.actR 0x8070 (g.val + 1) / 10
  let cmd := s.br[b].ctl.portion
  let mon := s.monitorTorque b g
  let way : Rat := if cmd < 0 then -1 else if 0 < cmd then 1 else if s.gr[g].pos.speed < 0 then -1 else 1
  decide (tol < abs (mon - s.controlTorque b g)) || decide (tol < way * (mon - cmd))

/-- A failing run (R286): at 0x8070.05 in a row E-8050, and Clove puts the bridge into the safe state of R251. -/
def failRun (b : BridgeId) (g : GroupId) (s : State) : State :=
  let n := s.br[b].ctl.monFails + 1
  if s.actN 0x8070 5 ≤ n then
    let s := modCtl b (fun x => { x with monFails := 0, monStale := 0 }) s
    safeRequest .cloveRequest 3 b (bump (0xE081 + g.val) 7 (raiseB 0x8050 b [] s))
  else modCtl b (fun x => { x with monFails := n, monStale := 0 }) s

/-- A run on a stale reconstruction (R287). -/
def staleRun (b : BridgeId) (g : GroupId) (s : State) : State :=
  let n := s.br[b].ctl.monStale + 1
  let s := bump (0xE081 + g.val) 8 (modCtl b (fun x => { x with monStale := n }) s)
  onlyIf (decide (n = s.actN 0x8070 6)) (raiseB 0x8052 b []) s

/-- TORQUE_MONITOR_RUN (R286, R287, R319): on the pair of the step, a protection violation is a mismatch and a run over its budget fails. -/
def monitorRun (b : BridgeId) (violation overBudget : Bool) (s : State) : State :=
  match s.groupOf b with
  | none => s
  | some g =>
    let x := s.br[b]
    let shared := decide (x.pair = x.monPair)
    if x.state ≠ .run || !s.canRun x.monPair then s
    else if shared && violation then pairMismatch x.monPair 6 s
    else if shared && overBudget then failRun b g s
    else if x.meas.stale then staleRun b g s
    else
      let forced := s.injects (0x0F01 + b.val)
      let fails := forced || s.runFails b g
      let s := if forced then injectionCount (0x0F01 + b.val) (injected (0x0F01 + b.val) s) else s
      let s := onlyIf (x.meas.mode == 2) drew s
      if fails then failRun b g s else modCtl b (fun y => { y with monFails := 0, monStale := 0 }) s

/-- TORQUE_MONITOR_RUN. -/
def execTorqueMonitorRun (b : BridgeId) (violation overBudget : Bool) (s : State) : Host.Outcome State Fault Refusal :=
  .next (onlyIf s.coresOn (monitorRun b violation overBudget) s)

/-! Brake feedback (R289, R290) -/

/-- The ramp factor of the brake's group is held no longer: its ramps start now (R290). -/
def endRampHold (s : State) : State :=
  match s.brakeGroup with
  | none => s
  | some g =>
    if !s.gr[g].rampHold then s
    else forBr (s.bridgesOf g) (fun b a => onlyIf (a.br[b].start.phase == 6) (setPhase b 6) a) (modGr g (fun x => { x with rampHold := false }) s)

/-- BRAKE_RELEASE_EXPIRY: 0x8040.02 has passed since BRK was energised. -/
def execBrakeReleaseExpiry (s : State) : Host.Outcome State Fault Refusal := .next (endRampHold s)

/-- BRAKE_FEEDBACK_CHANGE: what input 0x43 shows, with the switch tests of an applied brake (R289). -/
def brakeFeedback (released highFails lowFails : Bool) (s : State) : State :=
  let changed := s.clove.brakeFb != released
  let s := onlyIf changed (fun a => { a with clove := { a.clove with brakeFb := released, brakeFbAt := a.now } }) (onlyIf changed (keepDigital 3) s)
  let s := digitalAgrees 3 s
  let s := onlyIf released endRampHold s
  if s.clove.brakeOn || !(highFails || lowFails) then s
  else match s.brakeGroup with
    | none => s
    | some g => raiseG 0x8042 g [(b2n highFails : Int), (b2n lowFails : Int)]
        { s with clove := { s.clove with brakeHigh := s.clove.brakeHigh || highFails, brakeLow := s.clove.brakeLow || lowFails } }

/-- BRAKE_FEEDBACK_CHANGE. -/
def execBrakeFeedbackChange (released highFails lowFails : Bool) (s : State) : Host.Outcome State Fault Refusal :=
  .next (brakeFeedback released highFails lowFails s)

/-- BRAKE_FEEDBACK_TIMEOUT (R290): the feedback does not match the command after 0x8040.04; a brake that has not released sends the group into
SS1. -/
def brakeTimeout (s : State) : State :=
  match s.brakeGroup with
  | none => s
  | some g =>
    if s.clove.brakeFb == s.clove.brakeOn then s
    else
      let s := bump (0xE081 + g.val) 0x0C (raiseG 0x8041 g [] { s with clove := { s.clove with brakeLatch := true } })
      if s.clove.brakeOn then ss1Source g ss1FromBrake s else s

/-- BRAKE_FEEDBACK_TIMEOUT. -/
def execBrakeFeedbackTimeout (s : State) : Host.Outcome State Fault Refusal := .next (brakeTimeout s)

/-! Sumac windows (R292) -/

/-- SUMAC_WINDOW_EXPIRY: the open window's time has run out. -/
def windowExpiry (w : Fin 16) (s : State) : State :=
  match s.clove.windows[w].opened with
  | some t => expireWindow false w (setNow (t + s.clove.windows[w].remaining) s)
  | none => s

/-- SUMAC_WINDOW_EXPIRY. -/
def execSumacWindowExpiry (w : Fin 16) (s : State) : Host.Outcome State Fault Refusal := .next (windowExpiry w s)

end Sys2Proof.Machine
end

