-- ==== Sys2Proof/Machine/CloveFn.lean ====
section
/-! DEFINITION. Clove's own checks, the control pairs and their tests, debug access, the heartbeat, the DC-link overvoltage and the coil
supply (R34, R38, R39, R257, R304, R308, R310, R313 to R329, R504, R525). -/

namespace Sys2Proof.Machine

/-! Clove (R34, R304, R308, R313, R314, R525) -/

/-- CLOVE_CHANNEL_DISAGREEMENT (R304): the two demands have differed for 5 µs; only a passed start-up test ends the latch. -/
def channelDisagreement (s : State) : State :=
  safeDriveOnce .cloveRequest (bump 0xE088 2 (raise4 0x8108 [] { s with clove := { s.clove with disagree := true } }))

/-- CLOVE_CHANNEL_DISAGREEMENT. -/
def execCloveChannelDisagreement (s : State) : Host.Outcome State Fault Refusal := .next (channelDisagreement s)

/-- ASC_LEG_FAILURE (R308): the leg's shorting position is held as latched, and the bridge changes to the other side that R105 leaves, else to
off. Not judged while the ASC delay runs. -/
def ascLegFailure (l : LegId) (s : State) : State :=
  let b := brOfLeg l
  let f := s.br[b].force
  if f.pattern.val < 2 || f.ascTo.isSome then s
  else
    let s := bump 0xE088 1 (raise 0x8101 2 (l.val + 1) [] s)
    let s := latchFor 0x8101 (posOf b (slotOf (phaseOfLeg l) (f.pattern == 3))) s
    settleDrive (changePattern (s.ascSide b) b s)

/-- ASC_LEG_FAILURE. -/
def execAscLegFailure (l : LegId) (s : State) : Host.Outcome State Fault Refusal := .next (ascLegFailure l s)

/-- CLOVE_STARTUP_TEST_DONE (R313, R334): bits 1 to 9 are the failed parts. While the boot runs the event waits for the queues. -/
def startupTest (failed : BitVec 10) (s : State) : State :=
  if !s.clove.testRun then s
  else
    let bad := failed.toNat / 2 * 2
    let tell (code : Nat) (v : List Nat) (a : State) : State :=
      if a.boot.booting then bootEvent code v a else raise4 code (v.map fun n => (n : Int)) a
    let s := settlePd7 { s with clove := { s.clove with testRun := false }, boot := { s.boot with testDue := false } }
    if bad = 0 then
      tell 0x8103 [] { s with clove := { s.clove with testResult := 1, testFailed := false, disagree := false, testAge := 0, testAt := s.now } }
    else
      let s := tell 0x8104 [bad] { s with clove := { s.clove with testResult := bad, testFailed := true } }
      if s.boot.booting then s else setDrive .lockout s

/-- CLOVE_STARTUP_TEST_DONE. -/
def execCloveStartupTestDone (failed : BitVec 10) (s : State) : Host.Outcome State Fault Refusal := .next (startupTest failed s)

/-- TEST_AGE_REACHED (R314): once per day from the day on which the age of the last passed test reaches 0x8104.03 (log 101). -/
def testAge (st : State) : State :=
  let limit := st.actN 0x8104 3
  let age := if st.clove.testAge < limit then limit else st.clove.testAge + 1
  let s := setNow (st.clove.testAt + age * ticksPerDay) st
  raise4 0x8105 [(age : Int)] { s with clove := { s.clove with testAge := age } }

/-- TEST_AGE_REACHED. -/
def execTestAgeReached (s : State) : Host.Outcome State Fault Refusal := .next (testAge s)

/-- REFERENCE_OSC_DEPARTED (R34): the 25 MHz reference has departed by more than 2 % for 100 µs. -/
def execReferenceOscDeparted (s : State) : Host.Outcome State Fault Refusal := .next (safeDriveOnce .cloveRequest (raise4 0x8102 [] s))

/-- The patterns that R251 chooses for the bridges, 2 bits each from B1 up, coded as the force codes (R68). -/
def State.chosenPatterns (s : State) : Nat := allBr.foldl (fun m b => m + (s.safeChoice b).val * 4 ^ b.val) 0

/-- DC_LINK_OVERVOLTAGE (R525): the value of a channel, in V, has lain above 0x8105.01 for 0x8105.02. E-8109 gives U_C, the channel and the
patterns chosen (R540; log 6). -/
def overvoltage (uC : Nat) (chB : Bool) (s : State) : State :=
  let latched := allBr.all fun b => s.br[b].force.sources.any fun x => decide (x.1 = .overvoltage)
  if uC ≤ s.actN 0x8105 1 || latched then s
  else safeDriveOnce .overvoltage (bump 0xE088 6 (raise4 0x8109 [(uC : Int), (b2n chB : Int), (s.chosenPatterns : Int)] s))

/-- DC_LINK_OVERVOLTAGE. -/
def execDcLinkOvervoltage (uC : Nat) (chB : Bool) (s : State) : Host.Outcome State Fault Refusal := .next (overvoltage uC chB s)

/-- COIL_SUPPLY_LOSS (R257, R529): the contactors open without waiting. -/
def execCoilSupplyLoss (s : State) : Host.Outcome State Fault Refusal := .next (openContactors true false s)

/-! The heartbeat (R38, R39) -/

/-- The command-loss reaction of a group: hold, SS1, or the safe state of R251; 1 and 2 abort every start in progress. -/
def commandLoss (g : GroupId) (s : State) : State :=
  match s.actN 0x7020 (g.val + 2) with
  | 1 => ss1Source g ss1FromCommandLoss (abortGroupStarts g 5 s)
  | 2 =>
    let runs := !(s.running g).isEmpty
    onlyIf runs (safeGroup g) (abortGroupStarts g 5 s)
  | _ => s

/-- HEARTBEAT_MISSED at tick t: a miss within 2 ms of the last one follows it directly (log 102). Once 0x7020.01 in a row are reached every
group reacts, once until a heartbeat returns. -/
def heartbeatMissed (t : Nat) (s : State) : State :=
  let s := setNow t s
  let follows := decide (t < s.drive.hbAt + 2 * ticksPerMs)
  let n := if follows then s.drive.hbMissed + 1 else 1
  let done := follows && s.drive.hbLost
  let s := { s with drive := { s.drive with hbMissed := n, hbAt := t, hbLost := done || decide (s.actN 0x7020 1 ≤ n) } }
  if !done && s.actN 0x7020 1 ≤ n then forGr allGr commandLoss s else s

/-- HEARTBEAT_MISSED. -/
def execHeartbeatMissed (t : Nat) (s : State) : Host.Outcome State Fault Refusal := .next (heartbeatMissed t s)

/-! Pairs (R310, R315 to R322) -/

/-- LOCKSTEP_MISMATCH (R317). -/
def execLockstepMismatch (p : PairId) (grp : Fin 6) (s : State) : Host.Outcome State Fault Refusal := .next (pairMismatch p grp.val s)

/-- The core of a split pair that runs the step of bridge b while both answer: the masked bridges take the two cores in turn (R326; log 197). -/
def State.coreOf (s : State) (b : BridgeId) : Nat := ((allBr.filter fun c => decide (c < b) && bitAt c.val s.place.mask).length) % 2

/-- The tasks of one core of split pair p move to the other core as under R40 (R329): a step in progress without a reference is lost (R27), each move
raises E-7006. -/
def loseCore (p : PairId) (core : Fin 2) (s : State) : State :=
  forBr (allBr.filter fun b => decide (s.br[b].pair = p) && bitAt b.val s.place.mask && s.coreOf b == core.val) (fun b a =>
    let a := raiseMove 1 (b.val + 1) p p false (modBr b (fun x => { x with ctl := { x.ctl with lost := x.ctl.opened && !x.ctl.gotRef } }) a)
    if a.br[b].thermPair = p then raiseMove 4 (b.val + 1) p p false a else a) s

/-- PAIR_WATCHDOG_EXPIRY (R310, R329): Clove holds the pair, or the core of a split pair, in reset; a pair leaves lockstep and recovers. -/
def pairWatchdog (p : PairId) (core : Fin 2) (s : State) : State :=
  let x := s.pairs[p]
  if !s.canRun p || (decide (x.state = .split) && !x.cores[core]) then s
  else
    let s := bump 0xE088 5 (raise4 0x8207 [(p.val + 1 : Int), (core.val : Int)] s)
    if x.state = .split then
      let s := modPair p (fun y => { y with cores := y.cores.set core false }) s
      let s := if s.canRun p then loseCore p core s else settlePairs (evacuate p (modPair p (fun y => { y with held := true }) s))
      countPairFault p s
    else countPairFault p (leaveLockstep p .recovering s)

/-- PAIR_WATCHDOG_EXPIRY. -/
def execPairWatchdogExpiry (p : PairId) (core : Fin 2) (s : State) : Host.Outcome State Fault Refusal := .next (pairWatchdog p core s)

/-- CLOVE_RESET_REQUEST (R504): with PD3 on, no pair and no split core has answered for 100 ms. A second Pelale watchdog resets in its own
command. -/
def cloveReset (s : State) : State := if !s.pwr.domains[3] || s.canRun 0 || s.canRun 1 then s else warmReset 5 s

/-- CLOVE_RESET_REQUEST. -/
def execCloveResetRequest (s : State) : Host.Outcome State Fault Refusal := .next (cloveReset s)

/-- PAIR_RESET_RELEASE (R317): 1 ms after it was held in reset a recovering pair is released, its caches invalidated. -/
def pairRelease (p : PairId) (s : State) : State :=
  let x := s.pairs[p]
  if x.state = .recovering && x.held && !x.debugger && !x.failed then modPair p (fun y => { y with held := false }) s else s

/-- PAIR_RESET_RELEASE. -/
def execPairResetRelease (p : PairId) (s : State) : Host.Outcome State Fault Refusal := .next (pairRelease p s)

/-- A rejoin of pair p has ended with a status: the rating returns if nothing else withholds it, PAIR.REJOIN completes, and each FAULT.CLEAR that
waited is handled (R328, R329). -/
def endRejoin (p : PairId) (status : Nat) (s : State) : State :=
  match s.drive.rejoinRef with
  | some (r, q) =>
    if p ≠ q then s
    else
      let waiting := s.drive.clears
      let s := complete r status [] (settleRating { s with drive := { s.drive with rejoinRef := none, clears := [] } })
      waiting.foldl (fun a e => faultClear e ⟨e.queue, e.seq, 0x0303⟩ a) s
  | none => s

/-- COMPARATOR_TEST_DONE (R317, R318, R320, R328): with all six groups caught the pair is in full lockstep again, which closes its
shared-cache window (R293), with E-8221 after a rejoin and E-8203 otherwise; else the pair is not used, and after a start-up it is withdrawn. -/
def comparatorTest (p : PairId) (caught : BitVec 6) (s : State) : State :=
  let x := s.pairs[p]
  let rejoin := s.drive.rejoinRef.any fun r => decide (r.2 = p)
  if x.state ≠ .recovering || x.debugger || x.failed then s
  else
    let s := bump (0xE089 + p.val) 4 s
    if caught = 63 then
      let s := endWindow ⟨p.val, by omega⟩ (modPair p (fun y => { y with state := .lockstep, held := false, testedSince := true,
                                                                         cores := .replicate 2 true }) s)
      let s := if rejoin then bump (0xE089 + p.val) 7 (raise4 0x8221 [(p.val + 1 : Int)] s)
        else if s.boot.booting then s else raise4 0x8203 [(p.val + 1 : Int)] s
      endRejoin p stOk (settlePairs s)
    else
      let s := modPair p (fun y => { y with failed := true, held := true }) s
      if s.boot.booting then
        modPair p (fun y => { y with state := .withdrawn })
          (bootEvent 0x8206 [p.val + 1] (bootEvent 0x8202 [p.val + 1, caught.toNat] s))
      else endRejoin p stHardware (countPairFault p (raise4 0x8202 [(p.val + 1 : Int), (caught.toNat : Int)] s))

/-- COMPARATOR_TEST_DONE. -/
def execComparatorTestDone (p : PairId) (caught : BitVec 6) (s : State) : Host.Outcome State Fault Refusal := .next (comparatorTest p caught s)

/-- CACHE_UNCORRECTABLE (R321): the pair goes on from the other replica and its window opens, and a split of the pair in progress is refused (R329);
a second replica is a mismatch. -/
def cacheUncorrectable (p : PairId) (both : Bool) (s : State) : State :=
  let x := s.pairs[p]
  if x.state ≠ .lockstep ∧ x.state ≠ .cache then s
  else
    let s := bump (0xE089 + p.val) 3 s
    if both || decide (x.state = .cache) then pairMismatch p 3 s
    else
      let s := match s.drive.splitRef with
        | some (r, q) => if q = p then refuse r stState 0 { s with drive := { s.drive with splitRef := none } } else s
        | none => s
      let s := raise4 0x8204 [(p.val + 1 : Int)] (modPair p (fun y => { y with state := .cache, replica := 0 }) s)
      beginWindow ⟨p.val, by omega⟩ s

/-- CACHE_UNCORRECTABLE. -/
def execCacheUncorrectable (p : PairId) (both : Bool) (s : State) : Host.Outcome State Fault Refusal := .next (cacheUncorrectable p both s)

/-! Debug (R323 to R325) -/

/-- The bench DC-link limit is exceeded: a level 4 fault, and the contactors open without waiting (R257, R324). E-8212 gives the limit, 0 the DC link,
and the value, no pair (log 196). -/
def benchDcLink (uC : Int) (s : State) : State :=
  openContactors true false (safeDriveOnce .cloveRequest (raise 0x8212 4 0 [0, uC] s))

/-- DEBUG_ATTACH: a pair's access breaks its lockstep and sets its flag; above the limit of R324 the first reaction follows at once. -/
def debugAttach (d : DebugTarget) (s : State) : State :=
  match d with
  | .pelale => raise4 0x8210 [3] { s with place := { s.place with pelaleDebug := true } }
  | .pair p =>
    let s := bump (0xE089 + p.val) 5 (raise4 0x8210 [(p.val + 1 : Int)] s)
    let s := modPair p (fun y => { y with debugger := true, flag := true, testedSince := false }) s
    let s := if s.pairs[p].state = .withdrawn then settlePairs s else leaveLockstep p .debug s
    if s.actR 0x8110 1 < s.drive.udc then benchDcLink s.drive.udc.floor s else s

/-- DEBUG_ATTACH. -/
def execDebugAttach (d : DebugTarget) (s : State) : Host.Outcome State Fault Refusal := .next (debugAttach d s)

/-- DEBUG_DETACH: E-8211; a pair recovers under R317, its flag stays set. -/
def debugDetach (d : DebugTarget) (s : State) : State :=
  match d with
  | .pelale => if s.place.pelaleDebug then raise4 0x8211 [3] { s with place := { s.place with pelaleDebug := false } } else s
  | .pair p =>
    if !s.pairs[p].debugger then s
    else
      let s := raise4 0x8211 [(p.val + 1 : Int)] (modPair p (fun y => { y with debugger := false }) s)
      if s.pairs[p].state = .debug then modPair p (fun y => { y with state := .recovering, held := true }) s else s

/-- DEBUG_DETACH. -/
def execDebugDetach (d : DebugTarget) (s : State) : Host.Outcome State Fault Refusal := .next (debugDetach d s)

/-- BENCH_LIMIT_EXCEEDED (R324): U_C, in V, above 0x8110.01 for 1 ms, or |f_C| of a group, or where it is invalid the group's electrical
frequency, above 0x8110.02; only while a debugger is attached to a pair. -/
def benchLimit (l : BenchLimit) (s : State) : State :=
  if !(s.pairs.any (·.debugger)) then s
  else match l with
    | .dcLink u => if s.actN 0x8110 1 < u then benchDcLink (u : Int) s else s
    | .frequency g =>
      let f : Rat := if s.clove.speed[g].valid then (s.clove.speed[g].freq : Rat) / 10 else s.groupHz g
      if s.actR 0x8110 2 < abs f then safeGroup g (raiseG 0x8212 g [1, (10 * f).floor] s) else s

/-- BENCH_LIMIT_EXCEEDED. -/
def execBenchLimitExceeded (l : BenchLimit) (s : State) : Host.Outcome State Fault Refusal := .next (benchLimit l s)

end Sys2Proof.Machine
end

