-- ==== Sys2Proof/Machine/Supply.lean ====
section
/-! DEFINITION. Supply and clocks: ports, the auxiliary converter, HV presence, the 12 V bus, domain rails and PLLs (R305, R337 to R349,
R356). -/

namespace Sys2Proof.Machine

/-- PORT_POWER_LOSS (R337, R339); without line power a discharge under an ASC is deferred (R260). -/
def portLoss (p : PortId) (s : State) : State :=
  if !s.pwr.delivering[p] then s
  else
    let s := deferDischarge { s with pwr := { s.pwr with delivering := s.pwr.delivering.set p false } }
    settleLine (bump 0xE090 1 (raise4 0x9001 [(p.val + 1 : Int)] s))

/-- PORT_POWER_LOSS. -/
def execPortPowerLoss (p : PortId) (s : State) : Host.Outcome State Fault Refusal := .next (portLoss p s)

/-- PORT_POWER_RESTORE (R339). -/
def portRestore (p : PortId) (s : State) : State :=
  if s.pwr.delivering[p] then s
  else
    let s := { s with pwr := { s.pwr with delivering := s.pwr.delivering.set p true } }
    settleLine (raise4 0x9005 [(p.val + 1 : Int), ((s.pwr.granted[p] : Nat) : Int)] s)

/-- PORT_POWER_RESTORE. -/
def execPortPowerRestore (p : PortId) (s : State) : Host.Outcome State Fault Refusal := .next (portRestore p s)

/-- PODL_CLASSIFICATION (R338): the class that the PSE grants, none where it is neither 8 nor 9. The port offers the class that 0x9001 holds at
this classification, and no grant exceeds the offer (log 171). -/
def podlClass (p : PortId) (cls : Nat) (s : State) : State :=
  let c := if cls = 8 ∨ cls = 9 then min cls (s.actN 0x9001 (p.val + 1)) else 0
  raise4 0x9005 [(p.val + 1 : Int), (c : Int)] { s with pwr := { s.pwr with granted := s.pwr.granted.set p c } }

/-- PODL_CLASSIFICATION. -/
def execPodlClassification (p : PortId) (cls : Nat) (s : State) : Host.Outcome State Fault Refusal := .next (podlClass p cls s)

/-- AUX_CONVERTER_START (R340). -/
def auxStart (s : State) : State :=
  if s.pwr.aux then s
  else settleLine (bump 0xE090 2 (raise4 0x9006 [1] { s with pwr := { s.pwr with aux := true } }))

/-- AUX_CONVERTER_START. -/
def execAuxConverterStart (s : State) : Host.Outcome State Fault Refusal := .next (auxStart s)

/-- AUX_CONVERTER_STOP (R340): a winding discharge without line power stops and fails (R341). -/
def auxStop (s : State) : State :=
  if !s.pwr.aux then s
  else
    let s := settleLine (raise4 0x9006 [0] { s with pwr := { s.pwr with aux := false } })
    if s.cont.active && s.cont.method == 1 && !s.linePower then failDischarge s else s

/-- AUX_CONVERTER_STOP. -/
def execAuxConverterStop (s : State) : Host.Outcome State Fault Refusal := .next (auxStop s)

/-- HV_PRESENT_CHANGE (R341, R347): PD7 follows; a deassertion arms the HV wake source again (R352). -/
def hvChange (present : Bool) (s : State) : State :=
  settlePd7 { s with pwr := { s.pwr with hv := present, hvArmed := s.pwr.hvArmed || !present } }

/-- HV_PRESENT_CHANGE. -/
def execHvPresentChange (present : Bool) (s : State) : Host.Outcome State Fault Refusal := .next (hvChange present s)

/-- INPUT_OVER_BUDGET (R345): every group stops under SS1. -/
def inputOver (s : State) : State :=
  stopAll ss1FromSupply (raise4 0x9004 [0] { s with pwr := { s.pwr with overBudget := true } })

/-- INPUT_OVER_BUDGET. -/
def execInputOverBudget (s : State) : Host.Outcome State Fault Refusal := .next (inputOver s)

/-- Clove sets off on a bridge, whatever R251 would choose: an ASC in force ends with it (R305, R346). -/
def offNow (b : BridgeId) (s : State) : State :=
  let f := s.br[b].force
  endCause .cloveRequest b (
    if f.sources.contains (.cloveRequest, 4) then changePattern 1 b s
    else forceBridge .cloveRequest 1 4 b (onlyIf (decide (2 ≤ f.pattern.val)) (setPattern 1 b) s))

/-- Clove sets off on every bridge, as one level 4 fault (R305, R346). -/
def allOffNow (s : State) : State := driveSafe false (forBr allBr offNow s)

/-- BUS_COLLAPSE (R346): the 12 V bus has fallen below 10.0 V: off on every bridge as a level 4 fault. -/
def busCollapse (s : State) : State := allOffNow (raise4 0x9004 [1] s)

/-- BUS_COLLAPSE. -/
def execBusCollapse (s : State) : Host.Outcome State Fault Refusal := .next (busCollapse s)

/-- BUS_SUPPLY_LOST (R305, R356): off on every bridge, then SLEEP without a command while keep-alive or a port input powers PD0. A drive that
sleeps already stays as it is. -/
def busLost (st : State) : State :=
  let s : State := { st with pwr := { st.pwr with delivering := .replicate 2 false, aux := false } }
  if !st.busSource || (s.drive.state = .sleep && !s.boot.booting) then s
  else sleepState (if s.drive.state = .sleep then s else allOffNow s)

/-- BUS_SUPPLY_LOST. -/
def execBusSupplyLost (s : State) : Host.Outcome State Fault Refusal := .next (busLost s)

/-- DOMAIN_RAIL_FAULT (R348): PD1 to PD6 a level 4 fault with E-9013; a fault of PD1 then resets the drive as a supply loss does, and the wake
follows from the source that feeds it. PD0 has no supervisor that this rule names, a PD7 rail is the islands' (R85), and a domain that is
switched off has no band to leave. -/
def railFault (d : Fin 8) (s : State) : State :=
  if d = 0 ∨ d = 7 ∨ s.pwr.domains[d] = false then s
  else
    let s := safeDriveOnce .cloveRequest (raise4 0x9013 [(d.val : Int)] s)
    if d = 1 then powerOn s else s

/-- DOMAIN_RAIL_FAULT. -/
def execDomainRailFault (d : Fin 8) (s : State) : Host.Outcome State Fault Refusal := .next (railFault d s)

/-- PLL_LOCK_LOSS (R349): the core or pulse PLL with a bridge in RUN is a level 4 fault; without the network PLL PD6 carries no traffic. -/
def pllLost (p : Fin 3) (s : State) : State :=
  if !s.pwr.pll[p] then s
  else
    let s := bump 0xE090 7 (raise4 0x9012 [(p.val : Int)] { s with pwr := { s.pwr with pll := s.pwr.pll.set p false } })
    if p.val < 2 && s.anyRun then safeDriveOnce .cloveRequest s else s

/-- PLL_LOCK_LOSS. -/
def execPllLockLoss (p : Fin 3) (s : State) : Host.Outcome State Fault Refusal := .next (pllLost p s)

/-- PLL_LOCK_REGAINED (R349): only while PD2, which holds the PLLs, is on. -/
def execPllLockRegained (p : Fin 3) (s : State) : Host.Outcome State Fault Refusal :=
  .next (if s.pwr.domains[2] then { s with pwr := { s.pwr with pll := s.pwr.pll.set p true } } else s)

end Sys2Proof.Machine
end

