-- ==== Sys2Proof/Machine/Arbiter.lean ====
section
/-! DEFINITION. The memory arbiter: grants, cut-offs, hints, the words a burst moves, refresh, NAND operations and the round boundary (R378
to R391). -/

namespace Sys2Proof.Machine

/-- Update requester r. -/
def modReq (r : Fin 8) (f : Requester → Requester) (s : State) : State :=
  { s with arb := { s.arb with reqs := s.arb.reqs.set r (f s.arb.reqs[r]) } }

/-- Object of a requester's counters (R394). -/
def reqObj (r : Fin 8) : Nat := 0xE0A1 + r.val

/-- A word address lies where requester r may write (R378; log 108). -/
def State.mayWrite (s : State) (r : Fin 8) (a : Nat) : Bool :=
  let n := r.val
  if a < 0x08000000 then n == 0 || n == 3
  else if a < 0x0A000000 then n == 4
  else if a < 0x0A400000 then n ≤ 2
  else if a < 0x0A800000 then n == 1 || (n == 5 && s.pairs[0].held)
  else if a < 0x0AC00000 then n == 2 || (n == 5 && s.pairs[1].held)
  else if a < 0x0B000000 then n == 3
  else if a < 0x0B800000 then n == 5
  else if a < 0x0C000000 then n == 6
  else a < 0x10000000 && Nat.ble 5 n

/-! The words of a burst (R378, R379) -/

/-- Write words from an address on. -/
def writeWords (a : Nat) : List Word → State → State
  | [], s => s
  | w :: t, s => writeWords (a + 1) t (putCell a w s)

/-- One word is read: a single-bit error is corrected, written back and counted, for its group too in an atlas (R178, R379); a double-bit error
delivers nothing. -/
def readWord (r : Fin 8) (a : Nat) (flip1 flip2 : Bool) (s : State) : State :=
  if 0x10000000 ≤ a then s
  else if flip2 || s.mem.bad.contains a then
    bump 0xE0A0 2 (raise4 0x6803 [(r.val : Int), (a : Int)]
      { s with mem := { s.mem with bad := if s.mem.bad.contains a then s.mem.bad else a :: s.mem.bad } })
  else onlyIf flip1 (fun s => onlyIf (decide (a < 0x08000000)) (bump (0xE061 + a / 0x02000000) 2) (bump 0xE0A0 1 s)) s

/-- The cells that the atlas engine predicts for the next step of bridge b (R388): those of its two lookups at the id, iq and temperature of this
step, the angle advanced by the electrical speed times the step period. -/
def State.predictedCells (s : State) (b : BridgeId) : List Nat :=
  match s.groupOf b with
  | none => []
  | some g =>
    let x := s.br[b].ctl
    let turn := s.elecHz g s.gr[g].pos.speed * (s.stepTicks b : Rat) / 400000000
    let th := x.theta + nearest (turn * 65536)
    let i := park (clarke s.br[b].meas.recon) x.theta
    s.lookupCells g x.id x.iq th ++ s.lookupCells g i.1 i.2 th

/-- The stream whose ring share holds a word of the capture ring (R413); the shares lie in the order S0 to S3 (log 202). -/
def State.ringStream (s : State) (a : Nat) : Option StreamId :=
  (List.finRange 4).find? fun k =>
    let lo := 0x08000000 + wordsPerMiB * ((s.streams.toList.take k.val).map (·.ringShare)).foldl (· + ·) 0
    decide (lo ≤ a ∧ a < lo + wordsPerMiB * s.streams[k].ringShare)

/-- The oldest packet in the ring share of a stream is lost (R379, R414). -/
def loseRingPacket (k : StreamId) (s : State) : State :=
  let q := streamQueue k
  let o := s.io.out[q]
  let i := o.entries.length - o.inRing
  match o.entries[i]? with
  | none => s
  | some e =>
    let s := modStream k (fun x => { x with ringWords := x.ringWords - e.size }) (modOut q (fun o => { o with entries := o.entries.set i .dropped }) s)
    packetLost k (bump (0xE0CC + k.val) 3 (modOut q (fun o => { o with entries := o.entries.take (i + 1) ++ markLost (o.entries.drop (i + 1)) }) s))

/-- A requester that is told UNCORRECTABLE (R379): the read is a mismatch for a pair, the learning engine abandons its run on that atlas, the
stream DMA loses a packet of the ring; what the others abandon shows in no object (log 202). -/
def loseTransfer (r : Fin 8) (a : Nat) (s : State) : State :=
  match r.val with
  | 1 => pairMismatch 0 3 s
  | 2 => pairMismatch 1 3 s
  | 3 => if h : a / 0x02000000 < 4 then modGr ⟨a / 0x02000000, h⟩ (fun x => { x with atlas := { x.atlas with run := none } }) s else s
  | 4 => match s.ringStream a with
    | some k => loseRingPacket k s
    | none => s
  | _ => s

/-- The words [lo, hi) of a burst move: a write outside the requester's regions is discarded with WINDOW; a read that meets an uncorrectable word
is lost (R379); a prefetch fills the buffer, 32 words per bridge, with cells that are predicted for it (R388); the scrub goes on over every word in
turn, and its pass ends after the last (R380). -/
def moveWords (r : Fin 8) (b : Burst) (lo hi : Nat) (s : State) : State :=
  let offs := (List.range (min hi 8)).drop lo
  if b.write then
    if offs.all fun k => s.mayWrite r (b.addr + k) then
      writeWords (b.addr + lo) ((offs.map fun k => b.words.getD k 0)) s
    else bump (reqObj r) 5 (raise4 0x6802 [(r.val : Int), (b.addr : Int)] (modReq r (fun x => { x with refused := true }) s))
  else
    let s := offs.foldl (fun a k => readWord r (b.addr + k) (b.flips1.contains k) (b.flips2.contains k) a) s
    let lost := offs.filter fun k => s.mem.bad.contains (b.addr + k)
    let s := match b.kind with
      | .prefetch br =>
        let want := s.predictedCells br
        let got := (offs.filter fun k => !lost.contains k && want.contains (b.addr + k)).map fun k => (br.val, b.addr + k)
        let mine := (s.arb.prefetch.filter fun c => decide (c.1 = br.val)) ++ got
        { s with arb := { s.arb with prefetch := (s.arb.prefetch.filter fun c => decide (c.1 ≠ br.val)) ++ mine.drop (mine.length - 32) } }
      | .scrub =>
        let next := b.addr + offs.getLastD 0 + 1
        if offs.isEmpty || b.addr + lo ≠ s.arb.scrub then s
        else onlyIf (decide (0x10000000 ≤ next)) (bump 0xE0A0 3) { s with arb := { s.arb with scrub := if 0x10000000 ≤ next then 0 else next } }
      | _ => s
    match lost with
    | [] => s
    | k :: _ => loseTransfer r (b.addr + k) s

/-! Hints (R388) -/

/-- Cycle groups from a slot to the next slot that requester r owns; none where it owns none. -/
def nextOwned (table : List Nat) (r slot : Nat) : Option Nat :=
  ((List.range 64).find? fun k => table.getD ((slot + k + 1) % 64) 0xFF == r).map (· + 1)

/-- The hint of a requester that was not granted: sent once, repeated 0x7080.02 cycle groups before the slot; the learning engine gates its clock
between the two (R184; log 109). Where refresh has taken the hinted slot, a new hint is sent (R380). -/
def hintFor (r : Fin 8) (slot : Nat) (s : State) : State :=
  let lead := s.actN 0x7080 2
  match s.arb.reqs[r].hint.filter (1 < ·) with
  | none => match nextOwned s.arb.table.toList r.val slot with
    | none => s
    | some d => bump (reqObj r) 6 (modReq r (fun y => { y with hint := some d, gated := r == 3 && decide (lead < d) }) s)
  | some d =>
    let d := d - 1
    let s := modReq r (fun y => { y with hint := some d, gated := y.gated && decide (lead < d) }) s
    onlyIf (decide (d = lead)) (bump (reqObj r) 6) s

/-! One cycle group (R382, R383, R387) -/

/-- A stalled burst is cut off (R387): what has moved stays; E-6801 for the requester's first in the epoch. -/
def cutOff (r : Fin 8) (b : Burst) (s : State) : State :=
  let s := modReq r (fun x => { x with cutOff := true, hold := 0 }) { s with arb := { s.arb with burst := none } }
  raiseFirst 0x6801 4 0 [(r.val : Int), ((b.addr + b.first : Nat) : Int)] r.val (bump (reqObj r) 4 s)

/-- Requester r is granted a burst: its words move, or the first of them before it stalls. -/
def grant (r : Fin 8) (b : Burst) (s : State) : State :=
  let x := s.arb.reqs[r]
  let s := peak (reqObj r) 7 (16 * x.waitSince) s
  let s := modReq r (fun y => { y with waitSince := 0, hint := none, gated := false, hold := 1 }) s
  if b.stall = 0 then moveWords r b 0 b.count s
  else moveWords r b 0 (min b.first b.count) { s with arb := { s.arb with burst := some (r, b) } }

/-- The requester that takes a slot its owner does not claim: the highest background rank, 0 the highest (log 110); the copy unit takes only
A0's own slots (R381). -/
def State.background (s : State) (reqs : Vector (Option Burst) 8) : Option (Fin 8) :=
  (List.finRange 8).foldl (fun best r =>
    match reqs[r] with
    | none => best
    | some b =>
      if b.kind = .copy then best
      else match best with
        | none => some r
        | some q => if s.arb.ranks[r] < s.arb.ranks[q] then some r else best) none

/-- What a requester asks for at the start of a cycle group: the first of its waiting bursts. For the atlas engine a lookup goes before the copy unit
and before a prefetch (R381, R388, R391); the learning engine makes no request at throttle level 2 and above (R386), the stream DMA none in a
cycle that it skips (R372). -/
def State.asks (s : State) (reqs : Vector (List Burst) 8) : Vector (Option Burst) 8 := Vector.ofFn fun r =>
  if (r.val = 3 ∧ 2 ≤ s.die.level) ∨ (r.val = 4 ∧ s.dmaRests) then none
  else ((reqs[r].find? fun b => r.val = 0 ∧ b.kind = .lookup).orElse fun _ => reqs[r].head?)

/-- Scrub reads a word again whose write-back meets a requester's write to it in the same cycle group: the write wins (R380; log 205). -/
def scrubAgain (reqs : Vector (Option Burst) 8) (s : State) : State :=
  match reqs[7] with
  | some b =>
    let hits := b.flips1.filter fun k => Nat.blt k b.count && ((List.finRange 7).any fun r => match reqs[r.castSucc] with
      | some w => w.write && Nat.ble w.addr (b.addr + k) && Nat.blt (b.addr + k) (w.addr + w.count)
      | none => false)
    match hits with
    | k :: t => if b.kind = .scrub then { s with arb := { s.arb with scrub := b.addr + t.foldl min k } } else s
    | [] => s
  | none => s

/-- The grant of a cycle group whose data path is free (R383), and who gets it: refresh takes the next slot of A7 (R380). -/
def grantSlot (reqs : Vector (Option Burst) 8) (s : State) : State × Option (Fin 8) :=
  let o := s.arb.table.toList.getD s.arb.slot 0xFF
  if s.arb.refresh && o == 7 then ({ s with arb := { s.arb with refresh := false } }, none)
  else
    let owner : Option (Fin 8 × Burst) := if h : o < 8 then reqs[o].map fun b => (⟨o, h⟩, b) else none
    match owner with
    | some (r, b) => (grant r b (bump (reqObj r) 1 s), some r)
    | none => match s.background reqs with
      | some r => match reqs[r] with
        | some b => (grant r b (bump (reqObj r) 2 s), some r)
        | none => (s, none)
      | none => (if h : o < 8 then bump (reqObj ⟨o, h⟩) 3 s else s, none)

/-- A stalled burst goes on for a cycle group; at the end of its stall the rest of its words move. -/
def holdOn (r : Fin 8) (b : Burst) (s : State) : State :=
  let h := s.arb.reqs[r].hold
  let s := modReq r (fun x => { x with hold := h + 1 }) s
  if b.stall ≤ h then moveWords r b (min b.first b.count) b.count (modReq r (fun x => { x with hold := 0 }) { s with arb := { s.arb with burst := none } })
  else s

/-- CYCLE_GROUP_GRANT: the bursts that wait at each requester at the start of a cycle group. A burst in progress is cut off at the start of a slot
whose owner requests, at that of A7's slot which a refresh takes (R380; log 205), and at its hold limit (R387). A grant of the learning engine
serves an update that a checkpoint has held (R193). -/
def cycleGroup (waiting : Vector (List Burst) 8) (s : State) : State :=
  let reqs := s.asks waiting
  let s := { s with arb := { s.arb with reqs := Vector.ofFn fun r => { s.arb.reqs[r] with requesting := reqs[r].isSome } } }
  let slot := s.arb.slot
  let o := s.arb.table.toList.getD slot 0xFF
  let t := match s.arb.burst with
    | some (r, b) =>
      let claimed := (s.arb.refresh && o == 7) || (decide (o ≠ r.val) && (if h : o < 8 then reqs[o].isSome else false))
      if claimed || decide (s.actN 0x7084 (r.val + 1) ≤ s.arb.reqs[r].hold) then grantSlot reqs (cutOff r b s) else (holdOn r b s, some r)
    | none => grantSlot reqs s
  let s := (List.finRange 8).foldl (fun a r =>
    if reqs[r].isNone then modReq r (fun x => { x with waitSince := 0, hint := none, gated := false }) a
    else if t.2 = some r then a
    else hintFor r slot (modReq r (fun x => { x with waitSince := x.waitSince + 1, unserved := x.unserved + 1 }) a)) t.1
  let s := onlyIf (t.2 == some 7) (scrubAgain reqs) s
  onlyIf (t.2 == some 3) applyHeld { s with arb := { s.arb with slot := (slot + 1) % 64 } }

/-- CYCLE_GROUP_GRANT. -/
def execCycleGroupGrant (reqs : Vector (List Burst) 8) (s : State) : Host.Outcome State Fault Refusal := .next (onlyIf s.engineOn (cycleGroup reqs) s)

/-- REFRESH_DUE (R380). -/
def execRefreshDue (s : State) : Host.Outcome State Fault Refusal := .next { s with arb := { s.arb with refresh := true } }

/-- ROUND_BOUNDARY (R385, R386, R388, R391): a committed table applies before an adaptation, which is then discarded; a change raises E-6806,
and every outstanding hint is withdrawn and issued anew. The event names the requester that the first changed slot goes to (R395; log 207). -/
def roundBoundary (s : State) : State :=
  let old := s.arb.table
  let s := match s.arb.base with
    | some (t, k) => { s with arb := { s.arb with table := t, ranks := k, base := none, adapted := none } }
    | none => match s.arb.adapted with
      | some t => { s with arb := { s.arb with table := t, adapted := none } }
      | none => s
  let s := { s with arb := { s.arb with slot := 0 } }
  if s.arb.table = old then s
  else
    let gains := ((List.finRange 64).find? fun k => decide (old[k] ≠ s.arb.table[k])).map fun k => s.arb.table[k]
    let s := bump 0xE0A0 7 (raise4 0x6806 [((gains.getD 0xFF : Nat) : Int)] s)
    (List.finRange 8).foldl (fun a r =>
      if a.arb.reqs[r].hint.isNone then a else hintFor r 63 (modReq r (fun x => { x with hint := none, gated := false }) a)) s

/-- ROUND_BOUNDARY. -/
def execRoundBoundary (s : State) : Host.Outcome State Fault Refusal := .next (onlyIf s.engineOn (roundBoundary) s)

/-! NAND (R381) -/

/-- A page that the controller cannot correct (R381): its codeword stays unreadable until it is written again, and a parameter image that it lies in
no longer loads (R510; log 208). -/
def losePage (a : Nat) (s : State) : State :=
  let p := a / 1024
  let s : State := { s with mem := { s.mem with pages := if s.mem.pages.contains p then s.mem.pages else p :: s.mem.pages } }
  if h : 0x90000000 ≤ a ∧ a < 0x92000000 then
    let k : Fin 2 := ⟨(a - 0x90000000) / 0x1000000, by omega⟩
    { s with par := { s.par with slots := s.par.slots.set k (s.par.slots[k].map fun i => { i with good := false }) } }
  else s

/-- NAND_OPERATION_DONE: an operation of a requester has ended; the image write of a commit ends with it (R429). A block with more than 30
corrected bits in one codeword goes to the reserve. Which queued operation comes next is the controller's (log 206). -/
def nandDone (req : Fin 8) (image : Bool) (r : NandResult) (s : State) : State :=
  let s := match r with
    | .ok corrected worst block =>
      let s := bumpBy 0xE0A0 4 corrected s
      if 30 < worst then
        bump 0xE0A0 6 { s with mem := { s.mem with relocated := if s.mem.relocated.contains block then s.mem.relocated else block :: s.mem.relocated } }
      else s
    | .uncorrectable a => bump 0xE0A0 5 (raise4 0x6805 [(req.val : Int), (a : Int)] (losePage a s))
    | .writeFailed => s
  onlyIf image (commitEnd (match r with
    | .ok _ _ _ => true
    | _ => false)) s

/-- NAND_OPERATION_DONE. -/
def execNandOperationDone (req : Fin 8) (image : Bool) (r : NandResult) (s : State) : Host.Outcome State Fault Refusal := .next (onlyIf s.engineOn (nandDone req image r) s)

end Sys2Proof.Machine
end

