-- ==== Sys2Proof/Machine/Streams.lean ====
section
/-! DEFINITION. Stream triggers (R410 to R412). -/

namespace Sys2Proof.Machine

/-- The value of a channel at a trigger (R410): the signals of the control path stand in the state, a converter code comes from outside. -/
def State.channelValue (s : State) (code : Nat) (given : Int) : Int :=
  let n := code % 256
  let br (f : Bridge → Rat) : Int := if h : n - 1 < 4 then nearest (f s.br[n - 1]) else 0
  let gr (f : Group → Int) : Int := if h : n - 1 < 4 then f s.gr[n - 1] else 0
  match code / 256 with
  | 5 => br fun x => x.ctl.id
  | 6 => br fun x => x.ctl.iq
  | 7 => br fun x => x.ctl.ud
  | 8 => br fun x => x.ctl.uq
  | 9 => gr fun x => (x.pos.thetaE : Int)
  | 10 => gr fun x => nearest x.obs.torque
  | 11 => if h : n - 1 < 24 then nearest (s.junction (brOfPos ⟨n - 1, h⟩) (slotOfPos ⟨n - 1, h⟩)) else 0
  | _ => given

/-- STREAM_TRIGGER: at every decimation-th trigger one sample of each listed channel; the converter codes come in the order of the list. A
packet closes after its number of sets, the last one before a flush ends the stream. -/
def streamTrigger (k : StreamId) (samples : List Int) (t : Nat) (s : State) : State :=
  let s := setNow t s
  let x := s.streams[k]
  let live := x.trigger == 3 || x.trigger == 4 || (if h : x.bridge - 1 < 4 then decide (s.br[x.bridge - 1].state = .run) else false)
  if !x.running || !live then s
  else if x.count + 1 < x.decimation then modStream k (fun y => { y with count := y.count + 1 }) s
  else
    let set := x.channels.zipIdx.map fun c => s.channelValue c.1 (samples.getD c.2 0)
    let s := modStream k (fun y => { y with count := 0, samples := y.samples ++ set, sets := y.sets + 1,
                                            first := if y.sets = 0 then s.stamp t else y.first }) s
    if s.streams[k].sets < x.setsPer then s
    else if x.stopping then stopStream k (closePacket k false true s)
    else closePacket k false false s

/-- STREAM_TRIGGER. -/
def execStreamTrigger (k : StreamId) (samples : List Int) (t : Nat) (s : State) : Host.Outcome State Fault Refusal := .next (streamTrigger k samples t s)

end Sys2Proof.Machine
end

