-- ==== Sys2Proof/Machine/Network.lean ====
section
/-! DEFINITION. Ports, cable tests, the switch, the ring, TC10 wake, MACsec and LLDP (R446 to R455). -/

namespace Sys2Proof.Machine

/-- Update a port. -/
def modPort (p : PortId) (f : Port → Port) (s : State) : State := { s with net := { s.net with port := s.net.port.set p (f s.net.port[p]) } }

/-- The other port. -/
def otherPort (p : PortId) : PortId := ⟨1 - p.val, by omega⟩

/-! Links and cable tests (R446, R447) -/

/-- A cable test ends with a result; a code that changes raises E-A004. -/
def cableResult (p : PortId) (code dist : Nat) (s : State) : State :=
  let old := s.net.port[p].testCode
  let d := if code = 2 ∨ code = 3 then min dist 600 else 0xFFFF
  let s := modPort p (fun x => { x with testing := false, testCode := code, testDist := d }) s
  onlyIf (old != code) (raise4 0xA004 [(p.val + 1 : Int), (code : Int), (d : Int)]) s

/-- A link of that rate and role can come up under the port's speed and role objects: under speed 0x00 at 1000 Mb/s until the port falls back. -/
def State.linkAllowed (s : State) (p : PortId) (gigabit master : Bool) : Bool :=
  let role := s.actN 0xA001 (p.val + 1)
  let speed := s.actN 0xA001 (p.val + 3)
  s.portOn p && (role == 0 || (role == 1) == master) && (if speed = 0 then gigabit != s.net.port[p].fallback else (speed == 1) == gigabit)

/-- LINK_UP: E-A001; a test in progress ends without a result. -/
def linkUp (p : PortId) (gigabit master : Bool) (s : State) : State :=
  if s.net.port[p].up || !s.netRuns || !s.linkAllowed p gigabit master then s
  else
    let s := if s.net.port[p].testing then cableResult p 0 0 s else s
    let s := modPort p (fun x => { x with up := true, gigabit := gigabit, failed := 0 }) s
    raise4 0xA001 [(p.val + 1 : Int), if gigabit then 2 else 1, (b2n master : Int)] s

/-- LINK_UP. -/
def execLinkUp (p : PortId) (gigabit master : Bool) (s : State) : Host.Outcome State Fault Refusal := .next (linkUp p gigabit master s)

/-- LINK_DOWN: E-A002, the fallback ends and a cable test starts. -/
def linkDown (p : PortId) (s : State) : State :=
  if !s.net.port[p].up then s
  else
    let s := modPort p (fun x => { x with up := false, gigabit := false, fallback := false, failed := 0, macsec := false }) s
    startCableTest p (bump (0xE0AA + p.val) 5 (raise4 0xA002 [(p.val + 1 : Int)] s))

/-- LINK_DOWN. -/
def execLinkDown (p : PortId) (s : State) : Host.Outcome State Fault Refusal := .next (linkDown p s)

/-- LINK_TRAINING_FAILED: the third in a row, or a partner that offers only 100BASE-T1, falls back with E-A003; only under speed 0x00. -/
def trainingFailed (p : PortId) (only100 : Bool) (s : State) : State :=
  let x := s.net.port[p]
  if x.up || !s.netRuns || !s.portOn p then s
  else
    let s := modPort p (fun y => { y with failed := y.failed + 1 }) s
    if s.act 0xA001 (p.val + 3) = 0 && !x.fallback && (only100 || decide (3 ≤ x.failed + 1)) then
      bump (0xE0AA + p.val) 6 (raise4 0xA003 [(p.val + 1 : Int)] (modPort p (fun y => { y with fallback := true, failed := 0 }) s))
    else s

/-- LINK_TRAINING_FAILED. -/
def execLinkTrainingFailed (p : PortId) (only100 : Bool) (s : State) : Host.Outcome State Fault Refusal := .next (trainingFailed p only100 s)

/-- CABLE_TEST_TIMER: 0xA003.05 has passed with the link down; only with PD6 on. -/
def execCableTestTimer (p : PortId) (s : State) : Host.Outcome State Fault Refusal := .next (onlyIf s.pwr.domains[6] (startCableTest p) s)

/-- CABLE_TEST_DONE: the result code and the distance in 0.1 m. -/
def execCableTestDone (p : PortId) (code dist : Nat) (s : State) : Host.Outcome State Fault Refusal :=
  .next (if s.net.port[p].testing then cableResult p (min code 4) dist s else s)

/-! The switch (R448, R454) -/

/-- A group address: bit 40 is set. -/
def groupAddress (a : BitVec 48) : Bool := bitAt 40 a.toNat

/-- Frames that pass unprotected and are not held by a blocked NB or by a missing key (R449, R454). -/
def uncontrolled : FrameKind → Bool
  | .ptp | .lldp | .mka | .ring | .tc10 => true
  | _ => false

/-- Frames that a blocked NB lets through (R449). -/
def passesBlock : FrameKind → Bool
  | .ptp | .lldp | .ring => true
  | _ => false

/-- The switch learns a source address (R448): at most 256. -/
def learn (p : PortId) (a : BitVec 48) (s : State) : State :=
  let rest := s.net.table.filter fun e => e.1 != a
  if groupAddress a || (rest.length = s.net.table.length && decide (256 ≤ rest.length)) then s
  else { s with net := { s.net with table := rest ++ [(a, p, s.now)] } }

/-- A group address of neighbour discovery that the Vywick uses (R451): all nodes, and the solicited-node groups of its addresses (log 210). -/
def State.discoveryGroup (s : State) (a : Nat) : Bool :=
  a == 0x333300000001 || a == 0x3333FF000000 + Config.macAddress.toNat % 0x1000000 ||
    (s.act 0xA010 5 != 0 && a == 0x3333FF000000 + swap24 (s.actN 0xA010 5 / 2 ^ 104))
where
  /-- Three octets in the order of an address. -/
  swap24 (v : Nat) : Nat := 65536 * (v % 256) + 256 * (v / 256 % 256) + v / 65536 % 256

/-- A frame is for the internal port (R448). -/
def State.isForUs (s : State) (f : EthFrame) : Bool :=
  f.dst == Config.macAddress || f.dst == BitVec.allOnes 48 || f.dst.toNat == s.actN 0xA030 2 || uncontrolled f.kind || s.discoveryGroup f.dst.toNat

/-- A frame may leave by a port. -/
def State.mayLeave (s : State) (p : PortId) (f : EthFrame) : Bool :=
  s.net.port[p].up && (p != 1 || !s.nbBlocked || passesBlock f.kind) &&
    (uncontrolled f.kind || s.act 0xA020 (p.val + 1) != 1 || s.net.port[p].macsec)

/-- A frame is forwarded to the port other than the one it came in by. Link-local frames end here, and the manager takes ring frames off the
ring. -/
def State.forwards (s : State) (p : PortId) (f : EthFrame) : Bool :=
  match f.kind with
  | .lldp | .mka | .tc10 => false
  | .ring => s.act 0xA011 1 != 1
  | .ptp => true
  | _ =>
    f.dst != Config.macAddress &&
      (groupAddress f.dst || match s.net.table.find? fun e => e.1 == f.dst with
        | some e => e.2.1 != p
        | none => true)

/-- A frame that fails validation is dropped and counted, the first in an epoch with E-A006 (R454). -/
def macsecFails (p : PortId) (s : State) : State :=
  raiseFirst 0xA006 4 0 [(p.val + 1 : Int)] p.val (bump (0xE0AA + p.val) 4 s)

/-- FRAME_RECEIVED (R448, R449, R451, R454). -/
def frameReceived (p : PortId) (f : EthFrame) (s : State) : State :=
  if !s.net.port[p].up || !s.netRuns || f.length < 64 || decide (1522 < f.length) then s
  else
    let s := bump (0xE0AA + p.val) 1 s
    let protect := s.act 0xA020 (p.val + 1) == 1
    if p == 1 && s.nbBlocked && !passesBlock f.kind then s
    else if protect && !uncontrolled f.kind && (!f.secured || !s.net.port[p].macsec) then s
    else if protect && !uncontrolled f.kind && !f.icvGood then macsecFails p s
    else
      let s := learn p f.src s
      let s := onlyIf (s.isForUs f) (send (.deliver f)) s
      let o := otherPort p
      if !s.forwards p f || !s.mayLeave o f then s
      else if f.roomAhead then send (.forward o f) s else bump (0xE0AA + o.val) 3 s

/-- FRAME_RECEIVED. -/
def execFrameReceived (p : PortId) (f : EthFrame) (s : State) : Host.Outcome State Fault Refusal := .next (frameReceived p f s)

/-- An address not seen for 300 s is forgotten (R448). -/
def ageAddress (mac : BitVec 48) (s : State) : State :=
  let s := match s.net.table.find? fun e => e.1 == mac with
    | some e => setNow (e.2.2 + 300 * ticksPerS) s
    | none => s
  { s with net := { s.net with table := s.net.table.filter fun e => e.1 != mac } }

/-- ADDRESS_AGEING. -/
def execAddressAgeing (mac : BitVec 48) (s : State) : Host.Outcome State Fault Refusal := .next (ageAddress mac s)

/-! The ring (R449) -/

/-- A ring state of the manager, with its flush on both ports and E-A005; opening clears its address table. -/
def setRing (n : Nat) (s : State) : State :=
  let s := { s with net := { s.net with ring := n, table := if n = 2 then [] else s.net.table } }
  raise4 0xA005 [(n : Int)] (send (.ringFlush 1) (send (.ringFlush 0) s))

/-- RING_CHECK_TX: the manager sends a check on NA; 0xA011.03 checks that did not return open the ring. -/
def ringTx (s : State) : State :=
  if s.act 0xA011 1 ≠ 1 || !s.netRuns then s
  else
    let n := if s.net.awaiting then s.net.missing + 1 else 0
    let s := { s with net := { s.net with missing := n, awaiting := true } }
    let s := if s.actN 0xA011 3 ≤ n && s.net.ring != 2 then setRing 2 s else s
    if s.net.port[0].up then send .ringCheck s else s

/-- RING_CHECK_TX. -/
def execRingCheckTx (s : State) : Host.Outcome State Fault Refusal := .next (ringTx s)

/-- RING_CHECK_RX: a check returns on NB; an open ring closes again. -/
def ringRx (s : State) : State :=
  if s.act 0xA011 1 ≠ 1 || !s.netRuns then s
  else
    let s := { s with net := { s.net with missing := 0, awaiting := false } }
    if s.net.ring = 2 then setRing 1 s else { s with net := { s.net with ring := 1 } }

/-- RING_CHECK_RX. -/
def execRingCheckRx (s : State) : Host.Outcome State Fault Refusal := .next (ringRx s)

/-- RING_FLUSH_RX: a member clears its table and forwards the flush. -/
def execRingFlushRx (p : PortId) (s : State) : Host.Outcome State Fault Refusal :=
  .next (if s.act 0xA011 1 ≠ 2 || !s.netRuns then s
    else
      let s := { s with net := { s.net with table := [] } }
      if s.net.port[otherPort p].up then send (.ringFlush (otherPort p)) s else s)

/-! TC10, MACsec, LLDP (R452 to R455) -/

/-- TC10_WAKE_RX (R350, R452): wake source 0x01 or 0x02. -/
def execTc10WakeRx (p : PortId) (s : State) : Host.Outcome State Fault Refusal := .next (wakeAssert ⟨p.val + 1, by omega⟩ s)

/-- MKA_CHANNEL_CHANGE (R454): a secure channel becomes live, or fails. -/
def execMkaChannelChange (p : PortId) (live : Bool) (s : State) : Host.Outcome State Fault Refusal :=
  .next (if s.act 0xA020 (p.val + 1) = 1 ∧ s.netRuns then raise4 0xA007 [(p.val + 1 : Int), (b2n live : Int)] (modPort p (fun x => { x with macsec := live }) s)
    else s)

/-- LLDP_TX (R455): the partner TLV; while no domain is in use its domain field is open (log 88). -/
def execLldpTx (p : PortId) (s : State) : Host.Outcome State Fault Refusal :=
  .next (if s.actN 0x7060 1 = 0 || !s.net.port[p].up then s
    else send (.lldp p { dcLink := s.actN 0x7060 1, rank := s.actN 0x7060 6, serial := Config.serial,
                         domain := s.domainNumber.getD (Config.noDomain % 256), hops := s.actN 0xA030 3 }) s)

/-- LLDP_RX (R455): the TLV is relayed with one hop less, and a matching device becomes a partner (R224). -/
def lldpRx (p : PortId) (tlv : PartnerTlv) (s : State) : State :=
  let relay := 2 ≤ tlv.hops && tlv.serial != Config.serial && s.net.port[otherPort p].up
  let s := onlyIf relay (send (.lldpRelay (otherPort p) { tlv with hops := tlv.hops - 1 })) s
  if s.partnerOk tlv.serial tlv.dcLink tlv.domain then notePartner { serial := tlv.serial, rank := tlv.rank, bridges := [], heardAt := s.now } true s else s

/-- LLDP_RX. -/
def execLldpRx (p : PortId) (tlv : PartnerTlv) (s : State) : Host.Outcome State Fault Refusal := .next (onlyIf s.netRuns (lldpRx p tlv) s)

end Sys2Proof.Machine
end

