-- ==== Sys2Proof/Machine/NetTime.lean ====
section
/-! DEFINITION. Time domains and internal time (R457 to R463). Offsets are the domain's time less internal time, in ns. -/

namespace Sys2Proof.Machine

/-- Update domain d. -/
def modDom (d : DomainId) (f : Domain → Domain) (s : State) : State := { s with time := { s.time with dom := s.time.dom.set d (f s.time.dom[d]) } }

/-- Longest carrier period of the bridges in RUN, ticks. -/
def State.longestPeriod (s : State) : Nat :=
  (allBr.filter fun b => decide (s.br[b].state = .run)).foldl (fun m b => max m (s.periodTicks b)) 0

/-- The slew rate s of R461 in ppb: 0xA102.03, and with a bridge in RUN half of 0x2060.03 in the longest carrier period. -/
def State.slewRate (s : State) : Nat :=
  let a := 1000 * s.actN 0xA102 3
  let p := s.longestPeriod
  if p = 0 then a else min a (s.actR 0x2060 3 / 2 / (p : Rat) * 1000000000).floor.toNat

/-- Internal time is taken anew at tick t: what has moved of delta is done. -/
def rebase (t : Nat) (s : State) : State :=
  let u := s.time
  { s with time := { u with base := u.at t, since := t, delta := u.delta - u.moved t, slew := s.slewRate } }

/-- Internal time steps by `n` ns (R460), which ends the epoch in progress (R497). -/
def stepTime (n : Int) (s : State) : State :=
  let u := s.time
  let u := { u with base := ((u.base : Int) + 65536 * n).toNat, delta := 0, dom := u.dom.map fun x => { x with offset := x.offset - n } }
  closeEpoch true (raise4 0xA106 [n] { s with time := u })

/-- A domain may be in use: valid and not held (R460). -/
def Domain.usable (x : Domain) : Bool := x.valid && !x.held

/-- Δ of a change to domain d (R461): the difference of the domains at the last measurement in which both were valid, else the present offset; as
the distance that internal time has to move. -/
def State.changeDelta (s : State) (old : Nat) (d : DomainId) : Int :=
  match s.time.lastBoth with
  | some n => if old = 0 then s.time.dom[d].offset else if old = 1 then -n else n
  | none => s.time.dom[d].offset

/-- Domain d is taken into use at the present instant (R460, R461): the first after boot by a step while no bridge is in RUN. -/
def takeDomain (old : Nat) (d : DomainId) (s : State) : State :=
  let first := s.time.dom.all fun x => !x.everUsed
  let n := s.changeDelta old d
  let s := if first && !s.anyRun then stepTime s.time.dom[d].offset s else { s with time := { s.time with delta := n } }
  let s := modDom d (fun x => { x with everUsed := true }) { s with time := { s.time with use := d.val + 1 } }
  let s := countFreeRun s
  bump 0xE0AC 5 (raise4 0xA101 [(d.val + 1 : Int), n] { s with time := { s.time with freeSince := none } })

/-- With a bridge in RUN a domain that is not in use and lies beyond 0xA102.05 is held unused, with E-A105, until no bridge is in RUN (R460). -/
def holdDomain (d : DomainId) (s : State) : State :=
  let x := s.time.dom[d]
  if !s.anyRun then modDom d (fun y => { y with held := false }) s
  else if x.valid && !x.held && s.time.use != d.val + 1 && decide (s.actN 0xA102 5 < x.offset.natAbs) then
    raise4 0xA105 [(d.val + 1 : Int), x.offset] (modDom d (fun y => { y with held := true }) s)
  else s

/-- The domain in use (R460, R461): the primary, else the secondary, else none. Loss of the primary in use opens the time domain window; its
return ends it, and the partners may find the device again (R293). -/
def chooseDomain (s : State) : State :=
  let s := holdDomain 1 (holdDomain 0 s)
  let old := s.time.use
  let new := if s.time.dom[0].usable then 1 else if s.time.dom[1].usable then 2 else 0
  if new = old then s
  else
    let s := if new = 1 then takeDomain old 0 s else if new = 2 then takeDomain old 1 s
      else
        let s := { s with time := { s.time with use := 0, delta := 0, freeSince := some s.now } }
        raise4 0xA104 [] (bump 0xE0AC 5 (raise4 0xA101 [0, 0] s))
    if old = 1 then beginWindow 15 s
    else if new = 1 then endWindow 15 { s with place := { s.place with left := false } }
    else s

/-- A valid domain is lost, with E-A102; causes 1 Sync timeout, 2 Announce timeout, 3 offset jump (log 6). -/
def loseDomain (d : DomainId) (cause : Nat) (s : State) : State :=
  if !s.time.dom[d].valid then s
  else chooseDomain (bump 0xE0AC 3 (raise4 0xA102 [(d.val + 1 : Int), (cause : Int)] (modDom d (fun x => { x with valid := false, lost := true, good := 0 }) s)))

/-- A domain becomes valid: with a Sync and an Announce after boot, and after 0xA101.03 Syncs without a jump after a loss, with E-A103 (R459). -/
def judgeDomain (d : DomainId) (s : State) : State :=
  let x := s.time.dom[d]
  if x.valid || x.lastSync.isNone || x.lastAnnounce.isNone then s
  else if !x.lost then chooseDomain (modDom d (fun y => { y with valid := true }) s)
  else if s.actN 0xA101 3 ≤ x.good then chooseDomain (raise4 0xA103 [(d.val + 1 : Int)] (modDom d (fun y => { y with valid := true, lost := false }) s))
  else s

/-- The servo at a Sync of the domain in use (R462): Kp o limited to ±s, and Ki Σo, which changes by at most 1 ppm per second; o leaves out what
the slew of R461 still removes. -/
def servo (o : Int) (s : State) : State :=
  let u := s.time
  let lim : Int := s.slewRate
  let e := o - u.delta
  let sum := u.sum + e
  let room : Int := ((s.now - u.freqAt) * 1000 / ticksPerS : Nat)
  let f := clampInt (u.freqPart - room) (u.freqPart + room) (s.act 0xA102 2 * sum / 1000)
  { s with time := { u with sum := sum, freqPart := f, freqAt := s.now, rate := f + clampInt (-lim) lim (s.act 0xA102 1 * e / 1000) } }

/-- SYNC_RECEIVED: the measured offset of a domain at tick t (R459, R462). The servo's prediction is a free function (log 114). -/
def syncReceived (d : DomainId) (offset : Int) (t : Nat) (s : State) : State :=
  let s := bump 0xE0AC (d.val + 1) (rebase (max s.now t) (setNow t s))
  let x := s.time.dom[d]
  let jump := match x.lastSync with
    | some u => decide (s.actN 0xA102 4 < (offset - Config.syncPrediction x.offset s.time.rate (s.now - u)).natAbs)
    | none => false
  let s := modDom d (fun y => { y with offset := offset, lastSync := some s.now, good := if jump then 0 else y.good + 1 }) s
  let s := onlyIf jump (fun a => loseDomain d 3 (bump 0xE0AC 4 a)) s
  let s := judgeDomain d s
  let s := if s.time.dom[0].valid && s.time.dom[1].valid then
      { s with time := { s.time with lastBoth := some (s.time.dom[0].offset - s.time.dom[1].offset) } } else s
  let s := chooseDomain s
  if s.time.use = d.val + 1 then servo s.time.dom[d].offset (peak 0xE0AC 7 s.time.dom[d].offset.natAbs s) else s

/-- SYNC_RECEIVED. -/
def execSyncReceived (d : DomainId) (offset : Int) (t : Nat) (s : State) : Host.Outcome State Fault Refusal := .next (onlyIf s.netRuns (syncReceived d offset t) s)

/-- The rank of a grandmaster in the best master choice of both profiles: the lower one is the better clock (R457; log 14). -/
def clockRank (x : Grandmaster) : Nat :=
  ((((x.priority1.toNat * 2 ^ 8 + x.clockClass.toNat) * 2 ^ 8 + x.accuracy.toNat) * 2 ^ 16 + x.variance.toNat) * 2 ^ 8 + x.priority2.toNat) * 2 ^ 64 +
    x.identity.toNat

/-- The Vywick's own clock (R457): its priorities, clock class 248, and the EUI-64 of its MAC address (log 14). -/
def State.ownClock (s : State) : Grandmaster :=
  let m := Config.macAddress.toNat
  { priority1 := BitVec.ofNat 8 (s.actN 0xA100 6), clockClass := 248, accuracy := Config.ownAccuracy, variance := Config.ownVariance,
    priority2 := BitVec.ofNat 8 (s.actN 0xA100 7), identity := BitVec.ofNat 64 (m / 2 ^ 24 * 2 ^ 40 + 0xFFFE * 2 ^ 24 + m % 2 ^ 24) }

/-- The Vywick is grandmaster-capable and its own clock wins over an announced grandmaster (R457). -/
def State.ownWins (s : State) (grandmaster : Grandmaster) : Bool := s.act 0xA100 5 == 1 && decide (clockRank s.ownClock < clockRank grandmaster)

/-- An announced grandmaster loses against the present one of a domain, whose announcements still arrive (R457, R459). -/
def Domain.outranks (x : Domain) (grandmaster : Grandmaster) : Bool :=
  x.lastAnnounce.isSome && x.grandmaster.any fun y => y.identity != grandmaster.identity && decide (clockRank y < clockRank grandmaster)

/-- ANNOUNCE_RECEIVED (R457, R459): the best master choice decides whether another grandmaster is taken, with E-A107; one not taken does not keep
the domain alive. -/
def announceReceived (d : DomainId) (grandmaster : Grandmaster) (t : Nat) (s : State) : State :=
  let s := setNow t s
  let x := s.time.dom[d]
  if s.ownWins grandmaster || x.outranks grandmaster then s
  else
    let other := x.grandmaster.any fun y => y.identity != grandmaster.identity
    let s := onlyIf other (raise4 0xA107 [(d.val + 1 : Int), (grandmaster.identity.toNat : Int)]) s
    judgeDomain d (modDom d (fun y => { y with grandmaster := some grandmaster, lastAnnounce := some s.now }) s)

/-- ANNOUNCE_RECEIVED. -/
def execAnnounceReceived (d : DomainId) (grandmaster : Grandmaster) (t : Nat) (s : State) : Host.Outcome State Fault Refusal :=
  .next (onlyIf s.netRuns (announceReceived d grandmaster t) s)

/-- PTP_RECEIPT_TIMEOUT (R459). -/
def receiptTimeout (d : DomainId) (announce : Bool) (s : State) : State :=
  let s := modDom d (fun x => { x with lastSync := if announce then x.lastSync else none,
                                       lastAnnounce := if announce then none else x.lastAnnounce, good := if announce then x.good else 0 }) s
  loseDomain d (if announce then 2 else 1) (rebase s.now s)

/-- PTP_RECEIPT_TIMEOUT. -/
def execPtpReceiptTimeout (d : DomainId) (announce : Bool) (s : State) : Host.Outcome State Fault Refusal := .next (receiptTimeout d announce s)

end Sys2Proof.Machine
end

