-- ==== Sys2Proof/Machine/CanOps.lean ====
section
/-! DEFINITION. Mailbox messages sent under ISO 15765-2, and the transmit buffers (R472, R474, R476). -/

namespace Sys2Proof.Machine

/-- Largest data length of a controller's transport frames, TX_DL (R476). -/
def State.txDl (s : State) (c : CanId) : Nat := if s.actN (0xB000 + c.val) 2 ≤ 1 then 64 else 8

/-- The data lengths above 8 that a DLC can name. -/
def fdLengths : List Nat := [8, 12, 16, 20, 24, 32, 48, 64]

/-- The length of the frame that carries n bytes: that of its DLC, at least 8 (log 118). -/
def dlcLength (n : Nat) : Nat := (fdLengths.find? fun l => decide (n ≤ l)).getD 64

/-- The DLC of a data length. -/
def dlcOf (n : Nat) : Nat := if n ≤ 8 then n else 8 + (fdLengths.findIdx fun l => decide (n ≤ l))

/-- The transport identifier toward a peer (R474), and whether it is a 29-bit one. -/
def State.transportIdent (s : State) (c : CanId) (peer : Nat) : Nat × Bool :=
  if s.canJ1939 c then (0x18DA0000 + 256 * peer + s.can[c].address, true)
  else
    let i := s.actN (0xB000 + c.val) 0x13
    (i, decide (0x7FF < i))

/-- A controller's transport is in service: it transmits, and in identifier mode 0x01 it holds an address (R475). -/
def State.transportOn (s : State) (c : CanId) : Bool := s.canSends c && !(s.canJ1939 c && s.can[c].address == 0xFE)

/-- Queue a transport frame toward a peer, padded (R476). -/
def queueTransport (c : CanId) (peer : Nat) (data : List Byte) (s : State) : State :=
  let i := s.transportIdent c peer
  let f := s.canFrame c i.1 (s.padTo c (dlcLength data.length) data)
  canQueue c { f with extended := i.2 } (some peer) s

/-- Update the transmission in progress toward a peer: the oldest one. -/
def modSend (peer : Nat) (f : CanSend → CanSend) : List CanSend → List CanSend
  | [] => []
  | x :: t => if x.peer = peer then f x :: t else x :: modSend peer f t

/-- Remove the transmission in progress toward a peer. -/
def dropSend (peer : Nat) : List CanSend → List CanSend
  | [] => []
  | x :: t => if x.peer = peer then t else x :: dropSend peer t

/-- The transmission in progress toward a peer. -/
def State.sendTo (s : State) (c : CanId) (peer : Nat) : Option CanSend := s.can[c].send.find? fun x => x.peer == peer

/-- The oldest transmission toward a peer begins, if there is one: as a single frame, or as a first frame that awaits flow control (R476). `next`
0 is a transmission not yet begun. -/
def isotpStart (c : CanId) (peer : Nat) (s : State) : State :=
  match s.sendTo c peer with
  | none => s
  | some x =>
    let n := x.rest.length
    if x.next ≠ 0 then s
    else if n ≤ (if s.txDl c = 64 then 62 else 7) then
      let head : List Byte := if n ≤ 7 then [BitVec.ofNat 8 n] else [0, BitVec.ofNat 8 n]
      queueTransport c peer (head ++ x.rest) (modCan c (fun y => { y with send := modSend peer (fun z => { z with rest := [], next := 1 }) y.send }) s)
    else
      let k := s.txDl c - 2
      let data := [BitVec.ofNat 8 (0x10 + n / 256), BitVec.ofNat 8 n] ++ x.rest.take k
      queueTransport c peer data
        (modCan c (fun y => { y with send := modSend peer (fun z => { z with rest := z.rest.drop k, next := 1, wait := true }) y.send }) s)

/-- A frame of a transport message that is not a flow control frame. -/
def carriesData (f : CanTx) : Bool := (f.frame.data.getD 0 0).toNat / 16 != 3

/-- The transmission in progress toward a peer ends, and the next one in order begins. -/
def isotpEnd (c : CanId) (peer : Nat) (s : State) : State :=
  isotpStart c peer (modCan c (fun y => { y with send := dropSend peer y.send, tx := y.tx.filter fun f => f.peer != some peer || !carriesData f }) s)

/-- A mailbox message goes to a peer, after those that wait for it. Where the transport is out of service it fails. -/
def isotpSend (c : CanId) (peer : Nat) (bytes : List Byte) (s : State) : State :=
  if !s.transportOn c then canFailed c 1 peer s
  else
    isotpStart c peer (modCan c (fun x => { x with
      send := x.send ++ [{ peer := peer, rest := bytes, next := 0, wait := false, waits := 0, block := 0, limited := false }] }) s)

/-- The transmission toward a peer fails. -/
def isotpFail (c : CanId) (cause peer : Nat) (s : State) : State :=
  if (s.sendTo c peer).isSome then isotpEnd c peer (canFailed c cause peer s) else s

/-- The next consecutive frame of a transmission; where its block ends it awaits flow control again. -/
def isotpNext (c : CanId) (peer : Nat) (s : State) : State :=
  match s.sendTo c peer with
  | none => s
  | some x =>
    if x.rest.isEmpty then isotpEnd c peer (bump (0xE0B1 + c.val) 9 s)
    else if x.wait then s
    else
      let k := s.txDl c - 1
      let stop := x.limited && decide (x.block ≤ 1) && decide (k < x.rest.length)
      let s := modCan c (fun y => { y with send := modSend peer (fun z => { z with
        rest := z.rest.drop k, next := z.next + 1, block := z.block - 1, wait := stop }) y.send }) s
      queueTransport c peer (BitVec.ofNat 8 (0x20 + x.next % 16) :: x.rest.take k) s

/-- A flow control frame arrives (R476): ContinueToSend with a block size, WAIT, or overflow. -/
def flowControl (c : CanId) (peer : Nat) (data : List Byte) (s : State) : State :=
  match s.sendTo c peer with
  | none => s
  | some x =>
    if !x.wait then s
    else
      let bs := (data.getD 1 0).toNat
      match (data.getD 0 0).toNat % 16 with
      | 0 => isotpNext c peer (modCan c (fun y => { y with send := modSend peer (fun z => { z with
          wait := false, waits := 0, limited := bs != 0, block := bs }) y.send }) s)
      | 1 => if 8 ≤ x.waits then isotpFail c 8 peer s
        else modCan c (fun y => { y with send := modSend peer (fun z => { z with waits := z.waits + 1 }) y.send }) s
      | 2 => isotpFail c 7 peer s
      | _ => isotpFail c 8 peer s

/-- CAN_FRAME_SENT (R469, R472, R476): the frame of a transmit buffer has gone out. The loop delay measured on a frame with delay compensation is
open (log 119). -/
def canFrameSent (c : CanId) (slot : Nat) (s : State) : State :=
  match s.can[c].tx[slot]? with
  | none => s
  | some f =>
    if !s.canSends c || decide (16 ≤ slot) then s
    else
      let i := 0xB000 + c.val
      let s := send (.can c f.frame) (bump (0xE0B1 + c.val) 2 (modCan c (fun x => { x with tx := x.tx.eraseIdx slot }) s))
      let quanta := s.can[c].timing[4] * (1 + s.can[c].timing[5] + s.can[c].timing[6])
      let s := if f.frame.brs && decide (quanta < 80) then
          drew (modCan c (fun x => { x with delay := s.nextFree 16 }) s) else s
      match f.peer with
      | some p => if carriesData f then isotpNext c p s else s
      | none => s

/-- CAN_FRAME_SENT. -/
def execCanFrameSent (c : CanId) (slot : Nat) (s : State) : Host.Outcome State Fault Refusal := .next (canFrameSent c slot s)

/-- The reception from a peer fails. -/
def receptionFails (c : CanId) (cause peer : Nat) (s : State) : State :=
  if s.can[c].rx.any fun x => x.peer == peer then
    canFailed c cause peer (modCan c (fun x => { x with rx := x.rx.filter fun y => y.peer != peer }) s)
  else s

/-- CAN_TX_TIMEOUT (R472): a frame still unsent is withdrawn; a transport message that it belongs to fails. -/
def canTxTimeout (c : CanId) (slot : Nat) (s : State) : State :=
  match s.can[c].tx[slot]? with
  | none => s
  | some f =>
    let s := setNow (f.since + s.actN (0xB000 + c.val) 0x10 * ticksPerMs) s
    let s := bump (0xE0B1 + c.val) 3 (modCan c (fun x => { x with tx := x.tx.eraseIdx slot }) s)
    match f.peer with
    | some p => if carriesData f then isotpFail c 3 p s else receptionFails c 3 p s
    | none => s

/-- CAN_TX_TIMEOUT. -/
def execCanTxTimeout (c : CanId) (slot : Nat) (s : State) : Host.Outcome State Fault Refusal := .next (canTxTimeout c slot s)

/-- ISOTP_TIMEOUT (R476): N_As and N_Bs fail the transmission toward a peer, N_Cr the reception from it. -/
def execIsotpTimeout (c : CanId) (peer : Nat) (k : IsoTpTimeout) (s : State) : Host.Outcome State Fault Refusal :=
  .next (match k with
    | .nAs => isotpFail c 4 peer s
    | .nBs => isotpFail c 5 peer s
    | .nCr => receptionFails c 6 peer s)

end Sys2Proof.Machine
end

