-- ==== Sys2Proof/Machine/Mailbox.lean ====
section
/-! DEFINITION. Mailbox messages, releases and notifications (R396 to R406). -/

namespace Sys2Proof.Machine

/-! Messages to the host (R401, R404) -/

/-- The binding code of a transport (R416). -/
def bindingOf : Transport → Nat
  | .udp => 0
  | .c1 => 1
  | .c2 => 2

/-- A message goes to the source of the message that caused it, on the same transport (R404). -/
def sendMail (h : MailHeader) (bytes : List Byte) (s : State) : State :=
  match h.transport with
  | .udp => send (.mail h.source bytes) s
  | .c1 => isotpSend 0 h.source bytes s
  | .c2 => isotpSend 1 h.source bytes s

/-- The bytes of a message of the Vywick: its type, queue, words following and the present session (R401). -/
def State.mailBytes (s : State) (kind queue : Nat) (ws : List Word) : List Byte :=
  [BitVec.ofNat 8 kind, BitVec.ofNat 8 queue] ++ leBytes 2 ws.length ++ leBytes 4 s.io.session ++ ws.flatMap wordBytes

/-- REFUSE with a cause and an expected value; the first refusal of a cause in the epoch raises E-C002 (R401, R403). -/
def refuseMail (h : MailHeader) (cause expected : Nat) (s : State) : State :=
  let s := raiseFirst 0xC002 4 0 [(cause : Int), (h.queue.toNat : Int)] cause s
  sendMail h (s.mailBytes 6 h.queue.toNat [BitVec.ofNat 64 (cause + 2 ^ 32 * (expected % 2 ^ 32))]) s

/-- A COMMAND is refused: it leaves no entry and no completion (R402, R418). -/
def refuseCommand (h : MailHeader) (cause expected : Nat) (s : State) : State := refuseMail h cause expected (bump 0xE0C0 2 s)

/-! COMMAND (R402) -/

/-- Words of a command entry (R400). -/
def commandSize (q : Fin 4) (e : CmdEntry) : Nat := 1 + e.ops.length + (if q = 0 then 1 else 0)

/-- Words that wait in a command queue. -/
def CmdQueue.used (q : Fin 4) (c : CmdQueue) : Nat := (c.waiting.map fun w => commandSize q w.e).foldl (· + ·) 0

/-- The command entry that a COMMAND carries: word 0, the operands and on Q0 the tag; none where the message is malformed (R400, R401). -/
def readCommand (h : MailHeader) (body : List Word) : Option (Fin 4 × Waiting) :=
  let w := (body.getD 0 0).toNat
  let n := w / 2 ^ 48 % 256
  let q := h.queue.toNat
  if hq : q < 4 then
    if h.kind == 1 && h.count.toNat == body.length && decide (1 ≤ body.length) && decide (n ≤ 180) && decide (w / 2 ^ 56 = 0) &&
        body.length == 1 + n + (if q = 0 then 1 else 0) then
      some (⟨q, hq⟩, { code := w / 2 ^ 32 % 65536,
                       e := { queue := ⟨q, hq⟩, seq := BitVec.ofNat 32 w, ops := (body.drop 1).take n, tag := if q = 0 then body.getD (n + 1) 0 else 0 } })
    else none
  else none

/-- A command is accepted: it waits in its queue, and its sequence number becomes the last accepted (R402). -/
def acceptCommand (q : Fin 4) (w : Waiting) (s : State) : State :=
  bump 0xE0C0 1 (modCmd q (fun c => { c with waiting := c.waiting ++ [w], lastSeq := some w.e.seq }) s)

/-- The command of a sequence number is queued or executing (R402). -/
def State.commandBusy (s : State) (q : Fin 4) (seq : BitVec 32) : Bool :=
  (s.io.cmd[q].waiting.any fun w => w.e.seq == seq) || s.io.taken[q].any fun r => r.seq == seq

/-- The completion queue of q has room for an entry beside what it holds back for the commands taken (R396, R397). -/
def State.completionRoom (s : State) (q : Fin 4) (c : Completion) : Bool :=
  decide (s.io.out[completionQueue q].used + 180 * s.io.taken[q].length + (Entry.completion c).size ≤ queueCapacity (q.val + 4))

/-- A COMMAND whose sequence number is not the next one (R402): a resubmission receives its retained completion with the repeat bit, or the single
completion of the original; any other is refused. A completion queue without room for the repeat refuses it as full (R396, R397; log 201). -/
def resubmitted (h : MailHeader) (q : Fin 4) (last seq : BitVec 32) (s : State) : State :=
  if (last - seq).toNat < s.actN 0xC000 3 then
    if s.commandBusy q seq then bump 0xE0C0 3 s
    else match s.io.cmd[q].retained.find? fun c => c.seq == seq with
      | some c =>
        if s.completionRoom q c then bump 0xE0C0 3 (pushEntry (completionQueue q) (.completion { c with repeated := true }) s)
        else refuseCommand h 2 0 (modCmd q (fun x => { x with armed := true }) s)
      | none => refuseCommand h 4 (last + 1).toNat s
  else refuseCommand h 4 (last + 1).toNat s

/-- A COMMAND is judged (R402, R403). -/
def mailCommand (h : MailHeader) (body : List Word) (s : State) : State :=
  match readCommand h body with
  | none => refuseCommand h 1 0 s
  | some (q, w) =>
    if h.session.toNat ≠ s.io.session then refuseCommand h 3 s.io.session s
    else if s.actN (0xC100 + q.val) 1 ≠ bindingOf h.transport then refuseCommand h 5 0 s
    else
      let room := decide (CmdQueue.used q s.io.cmd[q] + commandSize q w.e ≤ queueCapacity q.val)
      let full (s : State) : State := refuseCommand h 2 0 (modCmd q (fun c => { c with armed := true }) s)
      match s.io.cmd[q].lastSeq with
      | some last =>
        if w.e.seq ≠ last + 1 then resubmitted h q last w.e.seq s
        else if room then acceptCommand q w s else full s
      | none => if room then acceptCommand q w s else full s

/-- A mailbox message reaches Pelale: it has booted, and a UDP datagram has a network to come by (R33, R349). -/
def State.hears (s : State) (h : MailHeader) : Bool := !s.boot.booting && s.pwr.domains[2] && (h.transport != .udp || s.netRuns)

/-- MAILBOX_COMMAND: a UDP datagram to another port than the command port is not for the Vywick, so none reaches this row. -/
def execMailboxCommand (h : MailHeader) (body : List Word) (s : State) : Host.Outcome State Fault Refusal :=
  .next (if s.hears h then mailCommand h body s else s)

/-! FETCH (R404) -/

/-- The entries of an outbound queue before index i are released; a packet's ring space is freed, and stored packets follow (R404, R413). -/
def releaseTo (q : QueueId) (n : Nat) (s : State) : State :=
  let o := s.io.out[q]
  let fromRing := n - (o.entries.length - o.inRing)
  let ringFree : Nat := ((o.entries.take n).drop (o.entries.length - o.inRing)).foldl (fun m e => m + Entry.size e) 0
  let s := modOut q (fun o => { o with entries := o.entries.drop n, consumer := (o.consumer + n) % 2 ^ 32, inRing := o.inRing - fromRing }) s
  if hq : 12 ≤ q.val then
    let k : StreamId := ⟨q.val - 12, by have := q.2; omega⟩
    drainRing q k o.inRing (modStream k (fun x => { x with ringWords := x.ringWords - ringFree }) s)
  else if 8 ≤ q.val then settleLost q s
  else s

/-- The entries at the given positions are found damaged by their parity (R398): a completion gives way to its retained copy, any other entry is
dropped and counted as lost. -/
def parityDrop (q : QueueId) (bad : List Nat) (s : State) : State :=
  if bad.isEmpty then s
  else if q.val < 8 then bad.foldl (fun a k => retainedCopy q k a) s
  else
    let o := s.io.out[q]
    let gone := (bad.filter fun k => o.entries[k]?.any fun e => e != .dropped).eraseDups
    if gone.isEmpty then s
    else
      let ringFree : Nat := (gone.filter fun k => decide (o.entries.length - o.inRing ≤ k)).foldl (fun m k => m + ((o.entries[k]?.map Entry.size).getD 0)) 0
      let s := bumpBy 0xE0C0 7 gone.length (modOut q (fun o => { o with entries := gone.foldl (fun l k => l.set k .dropped) o.entries }) s)
      if hq : 12 ≤ q.val then
        let k : StreamId := ⟨q.val - 12, by have := q.2; omega⟩
        raise4 0xC001 [(gone.length : Int)] (modStream k (fun x => { x with ringWords := x.ringWords - ringFree }) s)
      else settleLost q (modOut q (fun o => { o with lost := o.lost + gone.length }) s)
where
  /-- The retained completion of the damaged one stands in its place. -/
  retainedCopy (q : QueueId) (k : Nat) (s : State) : State :=
    if hq : 4 ≤ q.val ∧ q.val < 8 then
      match s.io.out[q].entries[k]? with
      | some (.completion c) =>
        match s.io.cmd[q.val - 4].retained.find? fun d => d.seq == c.seq with
        | some d => modOut q (fun o => { o with entries := o.entries.set k (.completion { d with repeated := c.repeated }) }) s
        | none => s
      | _ => s
    else s

/-- The words of an entry in a DATA message: the descriptor with its index, word count and final sideband, then the entry (R401). -/
def describedWords (index : Nat) (e : Entry) : List Word :=
  BitVec.ofNat 64 (index % 2 ^ 32 + 2 ^ 32 * e.size + 2 ^ 48 * e.sideband) :: e.words

/-- DATA messages (R401): whole entries in index order, each message at most 1,472 bytes. `acc` holds the words of the message in progress. -/
def sendData (h : MailHeader) (index : Nat) (acc : List Word) : List Entry → State → State
  | [], s => sendMail h (s.mailBytes 4 h.queue.toNat acc) s
  | .dropped :: t, s => sendData h (index + 1) acc t s
  | e :: t, s =>
    let w := describedWords index e
    if !acc.isEmpty && decide (1472 < 8 + 8 * (acc.length + w.length)) then
      sendData h (index + 1) w t (sendMail h (s.mailBytes 4 h.queue.toNat acc) s)
    else sendData h (index + 1) (acc ++ w) t s

/-- A FETCH (R404). `bad` names the waiting entries, from the consumer index, whose words fail their parity (R398). -/
def mailFetch (h : MailHeader) (body : List Word) (bad : List Nat) (s : State) : State :=
  let w := (body.getD 0 0).toNat
  let most := w / 2 ^ 32 % 65536
  if hq : 4 ≤ h.queue.toNat ∧ h.queue.toNat < 16 then
    let q : QueueId := ⟨h.queue.toNat, hq.2⟩
    if h.kind != 3 || h.count != 1 || body.length != 1 || most == 0 || decide (64 < most) || decide (2 ^ 48 ≤ w) then refuseMail h 1 0 s
    else if h.session.toNat ≠ s.io.session then refuseMail h 3 s.io.session s
    else
      let o := s.io.out[q]
      let d := (w % 2 ^ 32 + 2 ^ 32 - o.consumer) % 2 ^ 32
      if o.entries.length < d then refuseMail h 6 (if d < 2 ^ 31 then o.producer else o.consumer) s
      else
        let s := parityDrop q (bad.filterMap fun k => if d ≤ k then some (k - d) else none) (releaseTo q d s)
        let o := s.io.out[q]
        sendData h o.consumer [] (o.entries.take most) s
  else refuseMail h 1 0 s

/-- MAILBOX_FETCH. -/
def execMailboxFetch (h : MailHeader) (body : List Word) (parityBad : List Nat) (s : State) : Host.Outcome State Fault Refusal :=
  .next (if s.hears h then mailFetch h body parityBad s else s)

/-! Notifications (R405) -/

/-- The tick at which a time since the last notification of queue q ends (R405). -/
def State.notifyDue (s : State) (q : QueueId) (time : Nat) : Nat := (s.io.notify[q].last.map (· + time)).getD s.now

/-- NOTIFY_HOLDOFF_EXPIRY: entries were completed during the holdoff. -/
def execNotifyHoldoffExpiry (q : QueueId) (s : State) : Host.Outcome State Fault Refusal :=
  .next (if s.io.notify[q].during then notifyNow q (setNow (s.notifyDue q (s.actN (0xC100 + q.val) 5 * ticksPerUs)) s) else s)

/-- NOTIFY_REPEAT_EXPIRY: unreleased entries remain. -/
def execNotifyRepeatExpiry (q : QueueId) (s : State) : Host.Outcome State Fault Refusal :=
  .next (if 4 ≤ q.val && !s.io.out[q].entries.isEmpty then notifyNow q (setNow (s.notifyDue q (s.actN (0xC100 + q.val) 6 * ticksPerMs)) s) else s)

/-! Messages over CAN (R474, R476) -/

/-- The mailbox message of a completed ISO 15765-2 message (R401, R476). -/
def deliverMail (c : CanId) (peer : Nat) (bytes : List Byte) (s : State) : State :=
  let byte (k : Nat) : Nat := (bytes.getD k 0).toNat
  let n := (bytes.length - 8) / 8
  let h : MailHeader := {
    transport := if c = 0 then .c1 else .c2, source := peer, kind := BitVec.ofNat 8 (byte 0), queue := BitVec.ofNat 8 (byte 1),
    count := BitVec.ofNat 16 (byte 2 + 256 * byte 3), session := BitVec.ofNat 32 (bytesNat ((bytes.drop 4).take 4)) }
  let body : List Word := (List.range n).map fun k => BitVec.ofNat 64 (bytesNat ((bytes.drop (8 + 8 * k)).take 8))
  let s := bump (0xE0B1 + c.val) 8 s
  if bytes.length < 8 ∨ bytes.length % 8 ≠ 0 ∨ h.count.toNat ≠ n then (if h.kind = 1 then refuseCommand h 1 0 s else refuseMail h 1 0 s)
  else if h.kind = 1 then mailCommand h body s
  else if h.kind = 3 then mailFetch h body [] s
  else refuseMail h 1 0 s

end Sys2Proof.Machine
end

