-- ==== Sys2Proof/Machine/CanRx.lean ====
section
/-! DEFINITION. CAN frames received, error states and the address claim (R468 to R479). -/

namespace Sys2Proof.Machine

/-! Where a frame belongs (R470, R474, R477) -/

/-- What a received frame is. -/
inductive CanMatch where
  | transport (peer : Nat)
  | announcement
  | schedule
  | claim (source : Nat)
  | request (source : Nat)
  | host                     -- a host filter takes it to the high-priority buffer
  | nothing
  deriving DecidableEq, Repr

/-- Priority bits of a 29-bit identifier left out. -/
def pgnOf (ident : Nat) : Nat := ident % 2 ^ 26

/-- A 29-bit identifier is the announcement (sub 0x19) or schedule (sub 0x1A) identifier; in mode 0x01 the low byte is the sender's address. -/
def State.isAnnounceIdent (s : State) (c : CanId) (sub : Nat) (f : CanFrame) : Bool :=
  let i := s.actN (0xB000 + c.val) sub
  f.extended && s.canAnnounces c && (if s.canJ1939 c then f.ident / 256 == i / 256 else f.ident == i)

/-- The first host filter that matches (R470). -/
def State.hostFilter (s : State) (c : CanId) (f : CanFrame) : Nat :=
  let hit (n : Nat) : Bool :=
    let i := 0xB100 + 32 * c.val + n
    s.actN i 4 != 0 && (s.act i 3 == 1) == f.extended && (Nat.xor f.ident (s.actN i 1)) &&& s.actN i 2 == 0
  match (List.range 32).find? hit with
  | some n => s.actN (0xB100 + 32 * c.val + n) 4
  | none => 0

/-- The filters decide in order (R470): the system filters, then the host filters. -/
def State.matchFrame (s : State) (c : CanId) (f : CanFrame) : CanMatch :=
  let j := s.canJ1939 c
  let p := pgnOf f.ident
  let own := s.can[c].address
  let toUs := p / 256 % 256 == 0xFF || (p / 256 % 256 == own && own != 0xFE)
  let fixed := s.actN (0xB000 + c.val) 0x12
  if !j && f.ident == fixed && f.extended == decide (0x7FF < fixed) then .transport 0
  else if j && f.extended && own != 0xFE && f.ident / 256 == 0x18DA00 + own then .transport (f.ident % 256)
  else if s.isAnnounceIdent c 0x19 f then .announcement
  else if s.isAnnounceIdent c 0x1A f then .schedule
  else if j && f.extended && p / 65536 == 0xEE && toUs then .claim (p % 256)
  else if j && f.extended && p / 65536 == 0xEA && toUs then .request (p % 256)
  else if s.hostFilter c f = 2 then .host else .nothing

/-! Transport (R476) -/

/-- A flow control frame with the block size and STmin. -/
def sendFlow (c : CanId) (peer status : Nat) (s : State) : State :=
  let i := 0xB000 + c.val
  if s.transportOn c then
    queueTransport c peer [BitVec.ofNat 8 (0x30 + status), BitVec.ofNat 8 (s.actN i 0x14), BitVec.ofNat 8 (s.actN i 0x15)] s
  else s

/-- A single frame (R476): SF_DL in the first byte, or the escape form. -/
def singleFrame (c : CanId) (peer : Nat) (d : List Byte) (s : State) : State :=
  let n := (d.getD 0 0).toNat % 16
  let m := (d.getD 1 0).toNat
  if n = 0 then
    if 8 < d.length ∧ 7 < m ∧ m ≤ 62 ∧ m + 2 ≤ d.length then deliverMail c peer ((d.drop 2).take m) (receptionFails c 10 peer s) else s
  else if n ≤ 7 ∧ n + 1 ≤ d.length ∧ d.length ≤ 8 then deliverMail c peer ((d.drop 1).take n) (receptionFails c 10 peer s)
  else s

/-- A first frame (R476): one above 1,472 bytes, the escape form and a fifth reception are refused with overflow (log 120). -/
def firstFrame (c : CanId) (peer : Nat) (d : List Byte) (s : State) : State :=
  let n := (d.getD 0 0).toNat % 16 * 256 + (d.getD 1 0).toNat
  if n ≠ 0 ∧ (n ≤ 7 ∨ n + 2 ≤ d.length) then s
  else
    let s := receptionFails c 10 peer s
    if n = 0 ∨ 1472 < n ∨ 4 ≤ s.can[c].rx.length then canFailed c 7 peer (sendFlow c peer 2 s)
    else sendFlow c peer 0 (modCan c (fun x => { x with rx := x.rx ++ [{ peer := peer, length := n, bytes := d.drop 2, next := 1 }] }) s)

/-- A consecutive frame (R476). -/
def consecutiveFrame (c : CanId) (peer : Nat) (d : List Byte) (s : State) : State :=
  match s.can[c].rx.find? fun x => x.peer == peer with
  | none => s
  | some x =>
    if (d.getD 0 0).toNat % 16 ≠ x.next % 16 then receptionFails c 9 peer s
    else
      let bytes := x.bytes ++ d.drop 1
      if x.length ≤ bytes.length then
        deliverMail c peer (bytes.take x.length) (modCan c (fun y => { y with rx := y.rx.filter fun z => z.peer != peer }) s)
      else
        let s := modCan c (fun y => { y with rx := y.rx.map fun z => if z.peer = peer then { z with bytes := bytes, next := z.next + 1 } else z }) s
        let bs := s.actN (0xB000 + c.val) 0x14
        if bs ≠ 0 ∧ x.next % bs = 0 then sendFlow c peer 0 s else s

/-- A transport frame is processed (R476). -/
def transportFrame (c : CanId) (peer : Nat) (d : List Byte) (s : State) : State :=
  match d with
  | [] => s
  | b :: _ => match b.toNat / 16 with
    | 0 => singleFrame c peer d s
    | 1 => firstFrame c peer d s
    | 2 => consecutiveFrame c peer d s
    | 3 => flowControl c peer d s
    | _ => s

/-! Announcements (R456, R477) -/

/-- A little-endian field of n bytes. -/
def field (d : List Byte) (a n : Nat) : Nat := bytesNat ((d.drop a).take n)

/-- The announcement of a frame (R456). -/
def readAnnouncement (d : List Byte) : Option Announcement :=
  let n := field d 18 1
  if field d 1 1 = 1 ∧ 20 + 8 * n ≤ d.length then
    some { version := field d 0 1, serial := field d 4 8, dcLink := field d 12 4, rank := field d 16 1, domain := field d 17 1,
           bridges := (List.range n).map fun k =>
             { bridge := field d (20 + 8 * k) 1, reload := field d (21 + 8 * k) 1, period := field d (22 + 8 * k) 4,
               current := toSigned 16 (field d (26 + 8 * k) 2) } }
  else none

/-- The offset schedule of a frame (R456). -/
def readSchedule (d : List Byte) : Option OffsetSchedule :=
  let n := field d 16 1
  if field d 1 1 = 2 ∧ 32 + 12 * n ≤ d.length then
    some { version := field d 0 1, leader := field d 4 8, dcLink := field d 12 4,
           time := field d 20 8 * unitsPerS + field d 28 4 * 65536,
           entries := (List.range n).map fun k =>
             { serial := field d (32 + 12 * k) 8, bridge := field d (40 + 12 * k) 1, offset := BitVec.ofNat 16 (field d (42 + 12 * k) 2) } }
  else none

/-! Address claim (R475) -/

/-- Another device's claim arrives: it is noted; a contending claim with a lower NAME takes the address, any other is answered. -/
def claimHeard (c : CanId) (source name : Nat) (s : State) : State :=
  if source = 0xFE ∨ source = 0xFF then s
  else
    let x := s.can[c]
    let s := modCan c (fun y => { y with claims := (source, name) :: y.claims.filter fun k => k.1 != source && k.2 != name }) s
    let lower := decide (name < s.actN 0xB008 1)
    if x.claiming = some source then (if lower then claimNext c s else canQueue c (claimFrame s source) none { s with can := s.can.set c { s.can[c] with claims := x.claims } })
    else if x.address = source then
      if lower then
        let s := canFailAll c 2 (modCan c (fun y => { y with address := 0xFE }) s)
        beginClaim c (raise4 0xB00A [(c.val + 1 : Int), (source : Int)] s)
      else canQueue c (claimFrame s source) none { s with can := s.can.set c { s.can[c] with claims := x.claims } }
    else s

/-- A request for address-claimed is answered with the claim, or with cannot-claim (R475). -/
def claimRequested (c : CanId) (d : List Byte) (s : State) : State :=
  if field d 0 3 = 0xEE00 ∧ s.canSends c then canQueue c (claimFrame s (s.can[c].claiming.getD s.can[c].address)) none s else s

/-- ADDRESS_CLAIM_TIMER: 250 ms without a contending claim; the address is held, with E-B009. -/
def claimTimer (c : CanId) (s : State) : State :=
  match s.can[c].claiming with
  | some a => raise4 0xB009 [(c.val + 1 : Int), (a : Int)] (modCan c (fun x => { x with claiming := none, address := a }) s)
  | none => s

/-- ADDRESS_CLAIM_TIMER. -/
def execAddressClaimTimer (c : CanId) (s : State) : Host.Outcome State Fault Refusal := .next (claimTimer c s)

/-! Reception (R468, R470, R471) -/

/-- The payload of E-B010: controller, identifier, format, DLC and the data in words (log 6). -/
def hostFramePayload (c : CanId) (f : CanFrame) : List Int :=
  [(c.val + 1 : Int), (f.ident : Int), (b2n f.extended : Int), (dlcOf f.data.length : Int)] ++
    (List.range ((f.data.length + 7) / 8)).map fun k => (field f.data (8 * k) 8 : Int)

/-- Pelale serves a frame (R471). -/
def serveFrame (c : CanId) (f : CanFrame) (s : State) : State :=
  match s.matchFrame c f with
  | .transport p => transportFrame c p f.data s
  | .announcement => match readAnnouncement f.data with
    | some a => announceRx a (.can c) s
    | none => s
  | .schedule => match readSchedule f.data with
    | some o => scheduleRx o (.can c) s
    | none => s
  | .claim a => claimHeard c a (field f.data 0 8) s
  | .request _ => claimRequested c f.data s
  | .host => raise4 0xB010 (hostFramePayload c f) s
  | .nothing => s

/-- A match goes to its store; a full store loses the frame (R471). -/
def storeFrame (c : CanId) (f : CanFrame) (s : State) : State :=
  let x := s.can[c]
  match s.matchFrame c f with
  | .nothing => s
  | .transport p =>
    let s := bump (0xE0B1 + c.val) 1 s
    if x.fifo.length < 64 then modCan c (fun y => { y with fifo := y.fifo ++ [f] }) s
    else receptionFails c 11 p (raiseFirst 0xB007 4 0 [(c.val + 1 : Int)] c.val (bump (0xE0B1 + c.val) 4 s))
  | _ =>
    let s := bump (0xE0B1 + c.val) 1 s
    if x.high.length < 8 then modCan c (fun y => { y with high := y.high ++ [f] }) s
    else raiseFirst 0xB008 4 0 [(c.val + 1 : Int)] c.val (bump (0xE0B1 + c.val) 5 s)

/-- Pelale serves the high-priority buffer and then the FIFO (R471), at once where it runs (log 121). -/
def serveCan (c : CanId) (s : State) : State :=
  if s.boot.booting then s
  else
    let high := s.can[c].high
    let s := high.foldl (fun a f => serveFrame c f a) (modCan c (fun y => { y with high := [] }) s)
    let fifo := s.can[c].fifo
    fifo.foldl (fun a f => serveFrame c f a) (modCan c (fun y => { y with fifo := [] }) s)

/-- CAN_FRAME_RECEIVED: a remote frame is discarded and counted; classical mode answers an FD frame with an error frame (R468). -/
def canReceived (c : CanId) (f : CanFrame) (s : State) : State :=
  if !s.canOn c || (f.fd && s.actN (0xB000 + c.val) 2 == 2) then s
  else if f.remote then bump (0xE0B1 + c.val) 0x0B s
  else serveCan c (storeFrame c f s)

/-- CAN_FRAME_RECEIVED. -/
def execCanFrameReceived (c : CanId) (f : CanFrame) (s : State) : Host.Outcome State Fault Refusal := .next (canReceived c f s)

/-- BOOT_COMPLETE: Pelale then serves what the controllers stored. -/
def execBootComplete (s : State) : Host.Outcome State Fault Refusal := .next (serveCan 1 (serveCan 0 (bootDone s)))

/-! Error states (R473) -/

/-- The error state of TEC and REC (R473). -/
def errorState (tec rec : Nat) : Nat :=
  if 255 < tec then 2 else if 127 < tec ∨ 127 < rec then 1 else if 96 ≤ tec ∨ 96 ≤ rec then 4 else 0

/-- Bus-off: messages fail, and the bus-off limit within the bus-off window stops the controller. -/
def busOff (c : CanId) (s : State) : State :=
  let i := 0xB000 + c.val
  let s := canFailAll c 1 (bump (0xE0B1 + c.val) 7 (raise4 0xB004 [(c.val + 1 : Int)] s))
  let offs := s.now :: s.can[c].busOffs.filter fun t => decide (s.now < t + s.actN i 0xF * ticksPerS)
  let s := modCan c (fun x => { x with busOffs := offs, recovering := false }) s
  if s.actN i 0xE ≤ offs.length then raise4 0xB006 [(c.val + 1 : Int)] (modCan c (fun x => { x with state := 3 }) s) else s

/-- CAN_ERROR_STATE_CHANGE: the counters take their values, and a change of state has its event. -/
def errorStateChange (c : CanId) (tec rec : Nat) (s : State) : State :=
  if !s.canOn c then s
  else
    let old := s.can[c].state
    let new := errorState tec rec
    let s := modCan c (fun x => { x with txErr := tec, rxErr := rec, state := new }) s
    let who : List Int := [(c.val + 1 : Int)]
    if new = old then s
    else match new with
      | 0 => if old = 1 then raise4 0xB003 who s else s
      | 1 => bump (0xE0B1 + c.val) 6 (raise4 0xB002 who s)
      | 2 => busOff c s
      | _ => raise4 (if old = 1 then 0xB003 else 0xB001) who s

/-- CAN_ERROR_STATE_CHANGE. -/
def execCanErrorStateChange (c : CanId) (tec rec : Nat) (s : State) : Host.Outcome State Fault Refusal := .next (errorStateChange c tec rec s)

/-- BUS_OFF_RECOVERY_DELAY: recovery begins. -/
def execBusOffRecoveryDelay (c : CanId) (s : State) : Host.Outcome State Fault Refusal :=
  .next (if s.can[c].state = 2 then
      modCan c (fun x => { x with recovering := true }) (setNow (s.can[c].busOffs.headD s.now + s.actN (0xB000 + c.val) 0xD * ticksPerMs) s)
    else s)

/-- BUS_OFF_RECOVERED: both counters at zero, with E-B005. -/
def execBusOffRecovered (c : CanId) (s : State) : Host.Outcome State Fault Refusal :=
  .next (if s.can[c].state = 2 && s.can[c].recovering then
      raise4 0xB005 [(c.val + 1 : Int)] (modCan c (fun x => { x with state := 0, txErr := 0, rxErr := 0, recovering := false }) s)
    else s)

end Sys2Proof.Machine
end

