-- ==== Sys2Proof/Machine/SelfTest.lean ====
section
/-! DEFINITION. Analogue self-tests: the catalogue, slices, intervals and host requests (R322, R484 to R492). -/

namespace Sys2Proof.Machine

/-- Update an instance of a self-test kind. -/
def modInst (k : Fin 12) (n : Nat) (f : TestInst → TestInst) (s : State) : State :=
  if h : n < 24 then
    { s with test := { s.test with inst := s.test.inst.set k ((s.test.inst[k]).set n (f s.test.inst[k][n])) } }
  else s

/-! The catalogue (R484) -/

/-- Slices of one instance. -/
def testSlices (k : Fin 12) : Nat := #v[1, 1, 1, 1, 1, 1, 1, 1, 16, 1, 20, 64][k]

/-- Extra power of a slice, 0.01 W. -/
def testPower (k : Fin 12) : Nat := #v[10, 10, 5, 10, 20, 20, 5, 5, 200, 10, 50, 30][k]

/-- A test that runs in STANDBY only. -/
def standbyOnly (k : Fin 12) : Bool := k.val == 1 || k.val == 8 || k.val == 9

/-- The bridge that an instance of a kind belongs to, if it belongs to one (legs and positions). -/
def testBridge (k : Fin 12) (n : Nat) : Option BridgeId :=
  let b := if k.val = 1 ∨ k.val = 9 then n / 3 else n / 6
  if h : b < 4 then (if k.val = 1 ∨ (4 ≤ k.val ∧ k.val ≤ 9) then some ⟨b, h⟩ else none) else none

/-- The test code of an instance (R485). -/
def testCode (k : Fin 12) (n : Nat) : Nat := 256 * (k.val + 1) + n + 1

/-- Level and index of an instance's events (R4, R503). -/
def testPlace (k : Fin 12) (n : Nat) : Nat × Nat :=
  if 4 ≤ k.val ∧ k.val ≤ 8 then (1, n + 1) else if k.val = 1 ∨ k.val = 9 then (2, n + 1) else (4, 0)

/-- An interface has no group, or its group is in STANDBY (R484, R490). -/
def State.loopbackAllowed (s : State) (n : Nat) : Bool :=
  if h : n < 8 then
    match s.ifaceGroup ⟨n, h⟩ with
    | some g => s.groupStandby g
    | none => true
  else false

/-- A pair is in shared-cache lockstep (R321, R484). -/
def State.inFallback (s : State) (n : Nat) : Bool := if h : n < 2 then decide (s.pairs[n].state = .cache) else false

/-- The catalogue and R490 permit an instance in the present state. -/
def State.testPermitted (s : State) (k : Fin 12) (n : Nat) : Bool :=
  if k.val = 10 then s.loopbackAllowed n
  else if k.val = 11 then s.inFallback n
  else if standbyOnly k then
    match testBridge k n with
    | some b => decide (s.br[b].state = .standby)
    | none => false
  else true

/-- A slice of an instance may be placed now: kind 0x09 needs open contactors too (R484). -/
def State.sliceAllowed (s : State) (k : Fin 12) (n : Nat) : Bool := s.testPermitted k n && (k.val != 8 || s.allOpen)

/-! Slices (R486, R487) -/

/-- Length of a slice with its guard, ticks (R484, R486). -/
def sliceTicks (k : Fin 12) : Nat := (#v[5, 20, 10, 50, 4, 2, 2, 3, 50, 10, 50, 20][k] + 1) * ticksPerUs

/-- A leg has no edge, and its bridge no shunt window, from now on for `n` ticks (R125, R486). -/
def State.legQuiet (s : State) (l : LegId) (n : Nat) : Bool :=
  let inside (t : Nat) : Bool := decide (s.now ≤ t ∧ t ≤ s.now + n)
  !s.switching (brOfLeg l) ||
    (!((s.edgeAt l true).any inside || (s.edgeAt l false).any inside) && !s.br[brOfLeg l].meas.plan.any fun p => p.any inside)

/-- A converter has no trigger from now on for `n` ticks (R116, R125, R486): a current converter has those of its bridge, the two others those of
every bridge that switches. -/
def State.converterQuiet (s : State) (ch : Nat) (n : Nat) : Bool :=
  let inside (t : Nat) : Bool := decide (s.now ≤ t ∧ t ≤ s.now + n)
  allBr.all fun b => !s.switching b || (ch < 12 && decide (ch / 3 ≠ b.val)) ||
    (!inside (s.nextReload b s.now) && !(ch == 12 && s.br[b].meas.plan.any fun p => p.any inside))

/-- The resource of an instance is idle for its slice (R486): the converter has no trigger; the multiplexer is between rounds (R484); the leg of the position no edge and its bridge no shunt
window, the position off for kinds 0x05, 0x06 and 0x08 (R484); and the bridge has had no slice in this carrier period (R492: one out of RUN takes
slices back to back). -/
def State.sliceIdle (s : State) (k : Fin 12) (n : Nat) : Bool :=
  let d := sliceTicks k
  let free (b : BridgeId) : Bool := !s.switching b || s.test.placed[b] != some s.br[b].car.period
  if k.val = 0 then s.converterQuiet n d
  else if k.val = 3 then !s.sense.roundRunning
  else if h : n < 24 then
    if 4 ≤ k.val ∧ k.val ≤ 8 then
      let p : PosId := ⟨n, h⟩
      !((k.val == 4 || k.val == 5 || k.val == 7) && (s.pos p).on) && s.legQuiet (legOfPos p) d && free (brOfPos p)
    else true
  else true

/-- A host request waits for another instance of the same bridge that could run in this window: its slice comes first (R490, R492). -/
def State.hostSliceFirst (s : State) (k : Fin 12) (n : Nat) : Bool :=
  !(s.test.reqs.any fun r => r.test / 256 == k.val + 1 && r.waiting.contains n) &&
    s.test.reqs.any fun r => r.waiting.any fun m =>
      if h : 1 ≤ r.test / 256 ∧ r.test / 256 ≤ 12 then
        let j : Fin 12 := ⟨r.test / 256 - 1, by omega⟩
        (testBridge k n).isSome && testBridge j m == testBridge k n && s.sliceAllowed j m && s.sliceIdle j m && !s.test.running.contains (j, m)
      else false

/-- A slice of an instance begins: the bridge has its slice of this carrier period (R486). -/
def beginSlice (k : Fin 12) (n : Nat) (s : State) : State :=
  { s with test := { s.test with
      running := s.test.running ++ [(k, n)],
      placed := match testBridge k n with
        | some b => s.test.placed.set b (some s.br[b].car.period)
        | none => s.test.placed } }

/-- The headroom H in W (R487). -/
def State.testHeadroom (s : State) : Rat :=
  if s.pwr.aux then 150 - (s.pwr.auxPower : Rat) / 10
  else (s.pwr.pg : Rat) / 10 - s.gateDemand (allBr.filter fun b => decide (s.br[b].state = .run) || s.starting b) s.carrierHz

/-- Extra power of the slices that run, W. -/
def State.slicesPower (s : State) : Rat := (((s.test.running.map fun r => testPower r.1).foldl (· + ·) 0 : Nat) : Rat) / 100

/-- An instance has a slice to run: it is due, or a host request waits for it. -/
def State.sliceWanted (s : State) (k : Fin 12) (n : Nat) : Bool :=
  (if h : n < 24 then s.test.inst[k][n].due else false) ||
    s.test.reqs.any fun r => r.test / 256 == k.val + 1 && r.waiting.contains n

/-- SELFTEST_SLICE_START: in an idle window of its resource (R486; without one the row has no cause, log 129), at most two slices, one at throttle levels 3 and 4, within the headroom (R487, R488). -/
def sliceStart (k : Fin 12) (n : Nat) (s : State) : State :=
  if testInstances k ≤ n || !s.sliceAllowed k n || !s.sliceWanted k n || s.test.running.contains (k, n) || !s.sliceIdle k n || s.hostSliceFirst k n then s
  else
    let most := if 3 ≤ s.die.level then 1 else 2
    if most ≤ s.test.running.length || decide (s.testHeadroom < s.slicesPower + (testPower k : Rat) / 100) then
      raiseFirst 0xD003 4 0 [(testCode k n : Int)] 0 (bump 0xE0D0 2 s)
    else bump 0xE0D0 1 (beginSlice k n s)

/-- SELFTEST_SLICE_START. -/
def execSelftestSliceStart (kind : Fin 12) (inst : Nat) (s : State) : Host.Outcome State Fault Refusal := .next (sliceStart kind inst s)

/-! Results (R322, R484, R489, R491) -/

/-- The action of a failed instance (R484). -/
def testFailed (k : Fin 12) (n : Nat) (s : State) : State :=
  if hk : k.val = 0 then (if h : n < 14 then confirmInvalid [(⟨n, by omega⟩, 5)] s else s)
  else if k.val = 2 then reactInputs 3 [] s
  else if k.val = 3 then { s with sense := { s.sense with discardRound := true } }
  else if k.val = 11 then (if h : n < 2 then modPair ⟨n, h⟩ (fun x => { x with replica := 0 }) s else s)
  else if h : n < 24 then
    if 4 ≤ k.val ∧ k.val ≤ 6 then latchPos ⟨n, h⟩ s
    else if k.val = 7 then
      modPos ⟨n, h⟩ (fun x => { x with onDelay := .replicate 4 [], offDelay := .replicate 4 [], onDvdt := .replicate 4 [], offDvdt := .replicate 4 [] }) s
    else s
  else s

/-- A pass of a replica (R322): the third in a row refills it, and the pair returns to full lockstep. -/
def replicaPassed (p : PairId) (s : State) : State :=
  let n := s.pairs[p].replica + 1
  if n < 3 then modPair p (fun x => { x with replica := n }) s
  else
    let s := modPair p (fun x => { x with replica := 0, state := .lockstep }) s
    settlePairs (endWindow ⟨p.val, by omega⟩ (raise4 0x8205 [(p.val + 1 : Int)] s))

/-- Host requests take the result of an instance; one whose instances are all done completes with OK (R491). -/
def noteRequests (k : Fin 12) (n : Nat) (pass : Bool) (value : Int) (s : State) : State :=
  let upd (r : TestReq) : TestReq :=
    if r.test / 256 = k.val + 1 ∧ r.waiting.contains n then
      { r with waiting := r.waiting.filter (· != n), passed := r.passed && pass,
               values := if r.test % 256 = 0xFF then r.values.set n value else [value] }
    else r
  let reqs := s.test.reqs.map upd
  let s := { s with test := { s.test with reqs := reqs.filter fun r => !r.waiting.isEmpty } }
  (reqs.filter fun r => r.waiting.isEmpty).foldl (fun a r => complete r.ref stOk (BitVec.ofNat 64 (b2n r.passed) :: r.values.map (BitVec.ofInt 64)) a) s

/-- An instance is complete: its result, the events and the action; the value of kinds 0x0A to 0x0C is 0 for a pass and 1 for a failure (R491). -/
def instanceDone (k : Fin 12) (n : Nat) (pass : Bool) (measured : Int) (s : State) : State :=
  let value : Int := if 9 ≤ k.val then (b2n (!pass) : Int) else measured
  let s := modInst k n (fun x => { x with
    result := if pass then 1 else 2, passedAt := if pass then some s.now else x.passedAt, slices := 0, due := false, missed := 0, overdue := false }) s
  let at0 := testPlace k n
  let s := if pass then bump 0xE0D0 3 s
    else testFailed k n (bump 0xE0D0 4 (raise 0xD001 at0.1 at0.2 [(testCode k n : Int), value] s))
  let s := if h : k.val = 11 ∧ n < 2 then (if pass && s.inFallback n then replicaPassed ⟨n, h.2⟩ s else s) else s
  noteRequests k n pass value s

/-- SELFTEST_SLICE_END: the last slice of an instance gives its result. A slice that was abandoned ends nothing (R492). -/
def sliceEnd (k : Fin 12) (n : Nat) (pass : Bool) (value : Int) (s : State) : State :=
  if !s.test.running.contains (k, n) then s
  else
    let s := { s with test := { s.test with running := s.test.running.erase (k, n) } }
    let s := modInst k n (fun x => { x with slices := x.slices + 1 }) s
    let done : Bool := if h : n < 24 then decide (testSlices k ≤ s.test.inst[k][n].slices) else false
    if done then instanceDone k n pass value s else s

/-- SELFTEST_SLICE_END. -/
def execSelftestSliceEnd (kind : Fin 12) (inst : Nat) (pass : Bool) (value : Int) (s : State) : Host.Outcome State Fault Refusal :=
  .next (sliceEnd kind inst pass value s)

/-! Intervals (R488) -/

/-- An instance at the end of an interval: one still due has missed it; past 0xD000.03 it is overdue, with E-D004 once. Then it is due. -/
def instanceInterval (k : Fin 12) (n : Nat) (s : State) : State :=
  if h : n < 24 then
    let x := s.test.inst[k][n]
    let missed := if x.due then x.missed + 1 else 0
    let late := !x.overdue && decide (s.actN 0xD000 3 ≤ missed)
    let s := modInst k n (fun y => { y with due := true, missed := missed, overdue := y.overdue || late }) s
    if late then
      let p := testPlace k n
      bump 0xE0D0 5 (raise 0xD004 p.1 p.2 [(testCode k n : Int)] s)
    else s
  else s

/-- Nominal intervals in one interval at the throttle level (R372). -/
def State.intervalFactor (s : State) : Nat := if 4 ≤ s.die.level then 4 else if s.die.level = 3 then 2 else 1

/-- SELFTEST_INTERVAL: a nominal interval of a kind has passed (log 199). At the end of an interval, the instances that the catalogue allows in the
present state. -/
def intervalEnds (k : Fin 12) (s : State) : State :=
  if s.act 0xD000 1 ≠ 1 then s
  else
    let n := s.test.nominal[k] + 1
    let ends := decide (s.intervalFactor ≤ n)
    let s : State := { s with test := { s.test with nominal := s.test.nominal.set k (if ends then 0 else n) } }
    if ends then ((List.range (testInstances k)).filter fun n => s.testPermitted k n).foldl (fun a n => instanceInterval k n a) s else s

/-- SELFTEST_INTERVAL. -/
def execSelftestInterval (kind : Fin 12) (s : State) : Host.Outcome State Fault Refusal := .next (intervalEnds kind s)

/-! Host requests (R490, R491) -/

/-- The instances that a test code names, none where it is outside R484. -/
def namedInstances (code : Nat) : Option (Fin 12 × List Nat) :=
  let k := code / 256 % 256
  let n := code % 256
  if h : 1 ≤ k ∧ k ≤ 12 then
    let kind : Fin 12 := ⟨k - 1, by omega⟩
    if n = 0xFF then some (kind, List.range (testInstances kind))
    else if 1 ≤ n ∧ n ≤ testInstances kind then some (kind, [n - 1]) else none
  else none

/-- The predicted time of a request, ticks (R490): (n + 1) carrier periods of the bridge that needs the most slices; for a resource that no
bridge owns, the slices times the longest interval between its idle windows, which is open (log 122). Twice at throttle levels 3 and 4. -/
def State.predicted (s : State) (k : Fin 12) (ns : List Nat) : Nat :=
  let need (b : BridgeId) : Nat := testSlices k * (ns.filter fun n => testBridge k n == some b).length
  let tied := ns.any fun n => (testBridge k n).isSome
  let time := if tied then allBr.foldl (fun m b => max m (if need b = 0 then 0 else (need b + 1) * s.periodTicks b)) 0
    else testSlices k * ns.length * (s.nextFree 26 + 1)
  if 3 ≤ s.die.level then 2 * time else time

/-- SELFTEST.REQUEST (R490). -/
def selftestRequest (e : CmdEntry) (r : CmdRef) (s : State) : State :=
  let code := bits 15 0 (e.word 1)
  let limit := bits 63 32 (e.word 1)
  match namedInstances code with
  | none => refuse r stRange 1 s
  | some (k, ns) =>
    if !ns.all (fun n => s.testPermitted k n) then refuse r stState 0 s
    else if s.test.reqs.any (fun q => q.test == code) || decide (4 ≤ s.test.reqs.length) then refuse r stState 0 s
    else if limit ≠ 0 ∧ limit * ticksPerMs < s.predicted k ns then complete r stDeferred [] (bump 0xE0D0 6 (drew s))
    else
      let q : TestReq := { ref := r, test := code, deadline := if limit = 0 then 0 else s.now + limit * ticksPerMs, waiting := ns, passed := true,
                           values := List.replicate (min 16 ns.length) 0 }
      { s with test := { s.test with reqs := s.test.reqs ++ [q] }, freeCount := s.freeCount + 1 }

/-- SELFTEST_REQUEST. -/
def execSelftestRequest (e : CmdEntry) (s : State) : Host.Outcome State Fault Refusal := .next (command e 0x0601 3 1 (selftestRequest e) s)

/-- An instance that neither the interval nor a request waits for stops, and its slices are discarded (R491). -/
def dropInstance (k : Fin 12) (n : Nat) (s : State) : State :=
  if s.sliceWanted k n then s
  else modInst k n (fun x => { x with slices := 0 }) { s with test := { s.test with running := s.test.running.filter (· != (k, n)) } }

/-- SELFTEST_DEADLINE: the request of a test code stops, and completes with DEFERRED. -/
def testDeadline (code : Nat) (s : State) : State :=
  match s.test.reqs.find? fun r => r.test == code && r.deadline != 0, namedInstances code with
  | some r, some (k, _) =>
    let s := setNow r.deadline { s with test := { s.test with reqs := s.test.reqs.filter fun q => q.test != code } }
    complete r.ref stDeferred [] (bump 0xE0D0 6 (r.waiting.foldl (fun a n => dropInstance k n a) s))
  | _, _ => s

/-- SELFTEST_DEADLINE. -/
def execSelftestDeadline (test : BitVec 16) (s : State) : Host.Outcome State Fault Refusal := .next (testDeadline test.toNat s)

end Sys2Proof.Machine
end

