-- ==== Sys2Proof/Machine/Inject.lean ====
section
/-! DEFINITION. Fault injection (R493 to R496). -/

namespace Sys2Proof.Machine

/-- Instances of an injection kind (R493), 0 for a kind that does not exist. -/
def pointInstances (kind : Nat) : Nat :=
  [0, 24, 24, 24, 24, 12, 12, 14, 8, 4, 2, 2, 1, 1, 2, 4, 4, 4, 4].getD kind 0

/-- A point of R493. -/
def pointExists (p : Nat) : Bool := decide (1 ≤ p % 256 ∧ p % 256 ≤ pointInstances (p / 256))

/-- A point is permitted in RUN (R493): converters for the PI only, an interface that is no group's source. -/
def State.pointInRun (s : State) (p : Nat) : Bool :=
  let n := p % 256
  match p / 256 with
  | 3 | 9 | 0xB | 0xC | 0xD | 0x10 | 0x11 | 0x12 => false
  | 7 => decide (n ≤ 12)
  | 8 => allGr.all fun g => s.actN 0x5000 (g.val + 1) != n
  | _ => true

/-- A point is permitted in the present state (R494, R495): injection enabled, no Sumac window open. -/
def State.pointPermitted (s : State) (p : Nat) : Bool :=
  s.act 0xD100 1 == 1 && (s.pointInRun p || s.allStandby) && !(s.clove.windows.any fun w => w.opened.isSome)

/-- An outstanding arm ends without a fire, with E-D105 (R495, R496). -/
def dropArm (s : State) : State :=
  match s.test.arm with
  | some (p, n, _) => raise4 0xD105 [(p : Int), (n : Int)] { s with test := { s.test with arm := none } }
  | none => s

/-- INJECT.ARM (R495): the challenge is renewed after every one that names a point of R493 (log 123). -/
def injectArm (e : CmdEntry) (r : CmdRef) (s : State) : State :=
  let p := bits 15 0 (e.word 1)
  if !pointExists p then refuse r stRange 1 s
  else
    let good := bits 63 32 (e.word 1) + s.test.challenge == 2 ^ 32 - 1
    let s := drew { s with test := { s.test with challenge := s.nextFree 32 } }
    if !good || !s.pointPermitted p then refuse r stState 0 s
    else
      let s := dropArm s
      let n := (s.test.armNumber + 1) % 2 ^ 32
      let s := { s with test := { s.test with arm := some (p, n, s.now), armNumber := n } }
      finish r [n] (bump 0xE0D1 1 (raise4 0xD101 [(p : Int), (n : Int)] s))

/-- INJECT_ARM. -/
def execInjectArm (e : CmdEntry) (s : State) : Host.Outcome State Fault Refusal := .next (command e 0x0307 0 1 (injectArm e) s)

/-- The first cause of R149 of an interface. -/
def firstCause (i : IfId) : Nat := if i.val < 2 then 1 else if i.val < 4 then 4 else if i.val < 6 then 7 else 9

/-- A count or speed beyond the limit that a group's selection monitors: SLS, else SDI, else SLP (R493). -/
def injectMotion (g : GroupId) (s : State) : State :=
  if (s.slsLimit g).isSome then slsReaction g s
  else if s.sdi g != 0 then
    safetyReaction g (s.actN 0x8031 (g.val + 6)) ss1FromSdi (bump (0xE081 + g.val) 4 (raiseG 0x8030 g [s.act 0x8033 (g.val + 1)] s))
  else if s.slpOn g then
    safetyReaction g (s.actN 0x8031 (g.val + 10)) ss1FromSlp (bump (0xE081 + g.val) 5 (raiseG 0x8031 g [s.gr[g].pos.count] s))
  else s

/-- Check-bit errors in a scratch word, which the scrub of A7 meets (R379, R493). -/
def injectDram (double : Bool) (s : State) : State :=
  if double then bump 0xE0A0 2 (raise4 0x6803 [7, ((0x0C000000 + s.nextFree 26 : Nat) : Int)] (drew s))
  else injectionCount 0x0E01 (bump 0xE0A0 1 s)

/-- A fault is injected (R493, R494): where the detector acts on an edge, a conversion, an input change or a monitor run, it waits for the next
one; every other detector acts at once. -/
def injectPoint (p : Nat) (s : State) : State :=
  let n := p % 256
  let wait (s : State) : State := { s with test := { s.test with inject := s.test.inject ++ [p] } }
  match p / 256 with
  | 1 | 2 | 5 | 7 | 0xF => wait s
  | 3 => if h : n - 1 < 24 then railUndervoltage ⟨n - 1, h⟩ s else s
  | 4 => if n - 1 < 24 then injectionCount p (bump (0xE031 + (n - 1) / 6) 0x0B s) else s
  | 6 => if h : n - 1 < 12 then
      let l : LegId := ⟨n - 1, h⟩
      classBTrip l true (max s.now ((s.leg l).lastEdge + s.actBN (brOfLeg l) 0x2050 5)) s
    else s
  | 8 => if h : n - 1 < 8 then confirmCause ⟨n - 1, h⟩ (firstCause ⟨n - 1, h⟩) s else s
  | 9 => if h : n - 1 < 4 then lostRotor ⟨n - 1, h⟩ 1 2 s else s
  | 0xA => if h : n - 1 < 2 then pairMismatch ⟨n - 1, h⟩ 2 s else s
  | 0xB => if h : n - 1 < 2 then pairWatchdog ⟨n - 1, h⟩ 0 s else s
  | 0xC => channelDisagreement s
  | 0xD => wait (stoInput true true s)
  | 0xE => injectDram (n == 2) s
  | 0x10 => if h : n - 1 < 4 then injectMotion ⟨n - 1, h⟩ s else s
  | 0x11 => if h : n - 1 < 4 then overTemperature ⟨n - 1, h⟩ (6 * (n - 1) + 1) 1 s else s
  | 0x12 => if h : n - 1 < 4 then cloveTrip ⟨n - 1, h⟩ s else s
  | _ => s

/-- INJECT.FIRE (R496): once per arm, within 0xD100.03 of it. -/
def injectFire (e : CmdEntry) (r : CmdRef) (s : State) : State :=
  let p := bits 15 0 (e.word 1)
  let n := bits 63 32 (e.word 1)
  let ok := s.test.arm.any fun a => a.1 == p && a.2.1 == n && decide (s.now ≤ a.2.2 + s.actN 0xD100 3 * ticksPerMs)
  if !ok || !s.pointPermitted p then refuse r stState 0 s
  else
    let s := bump 0xE0D1 2 (raise4 0xD102 [(p : Int), (n : Int)] { s with test := { s.test with arm := none } })
    let s := finish r [] { s with test := { s.test with fired := s.test.fired ++ [(p, s.now + s.actN 0xD100 4 * ticksPerMs)] } }
    injectPoint p s

/-- INJECT_FIRE. -/
def execInjectFire (e : CmdEntry) (s : State) : Host.Outcome State Fault Refusal := .next (command e 0x0308 0 1 (injectFire e) s)

/-- INJECT_ARM_EXPIRY: the arm lifetime ends without a fire. -/
def execInjectArmExpiry (s : State) : Host.Outcome State Fault Refusal :=
  .next (match s.test.arm with
    | some a => dropArm (setNow (a.2.2 + s.actN 0xD100 3 * ticksPerMs) s)
    | none => s)

/-- INJECT_OBSERVATION_EXPIRY: the oldest observation window ends without the expected event; an injection that still waited ends. -/
def observationEnd (s : State) : State :=
  match s.test.fired with
  | (p, limit) :: t =>
    let s := setNow limit { s with test := { s.test with fired := t, inject := s.test.inject.erase p } }
    bump 0xE0D1 4 (raise4 0xD104 [(p : Int)] s)
  | [] => s

/-- INJECT_OBSERVATION_EXPIRY. -/
def execInjectObservationExpiry (s : State) : Host.Outcome State Fault Refusal := .next (observationEnd s)

end Sys2Proof.Machine
end

