-- ==== Sys2Proof/Machine/Take.lean ====
section
/-! DEFINITION. Pelale takes the commands of Q0 to Q3 for execution (R397, R405, R420, R423, R424). -/

namespace Sys2Proof.Machine

/-- The command of a code is executed (R424); a transfer command by its phase (R432). An unknown code completes with REJECTED-COMMAND, a phase that
R432 does not define with REJECTED-OPERAND (R420). -/
def served (code : Nat) (e : CmdEntry) (s : State) : Host.Outcome State Fault Refusal :=
  match code with
  | 0x0101 => execDriveArm e s
  | 0x0102 => execDriveDisarm e s
  | 0x0103 => execDriveSleep e s
  | 0x0104 => execDriveReset e s
  | 0x0201 => execTorqueSet e s
  | 0x0202 => execBridgeEnable e s
  | 0x0203 => execBridgeDisable e s
  | 0x0204 => execCatchStart e s
  | 0x0205 => execPositionSet e s
  | 0x0301 => execSs1Request e s
  | 0x0302 => execSafetySelect e s
  | 0x0303 => execFaultClear e s
  | 0x0304 => execDebugFlagClear e s
  | 0x0305 => execPairSplit e s
  | 0x0306 => execPairRejoin e s
  | 0x0307 => execInjectArm e s
  | 0x0308 => execInjectFire e s
  | 0x0309 => execFirmwareActivate e s
  | 0x0401 => execParamRead e s
  | 0x0402 => execParamWrite e s
  | 0x0403 => execParamCommit e s
  | 0x0404 => match bits 7 0 (e.word 1) with
    | 1 => execParamUploadBegin e s
    | 2 => execParamUploadChunk e s
    | 3 => execParamUploadEnd e s
    | 4 => execParamUploadAbort e s
    | _ => .next (runCommand e 0x0404 [0, 3] false 0 false (fun _ a => a) s)
  | 0x0501 => execAtlasIdentify e s
  | 0x0502 => execAtlasCheckpoint e s
  | 0x0503 => execAtlasClear e s
  | 0x0504 => match bits 7 0 (e.word 1) with
    | 1 => execAtlasUploadBegin e s
    | 2 => execAtlasUploadChunk e s
    | 3 => execAtlasUploadEnd e s
    | 4 => execAtlasUploadAbort e s
    | _ => .next (runCommand e 0x0504 [3] false 0 false (fun _ a => a) s)
  | 0x0505 => execAtlasExport e s
  | 0x0601 => execSelftestRequest e s
  | 0x0701 => execStreamStart e s
  | 0x0702 => execStreamStop e s
  | 0x0703 => execStreamFlush e s
  | 0x0801 => match bits 7 0 (e.word 1) with
    | 1 => execFirmwareUploadBegin e s
    | 2 => execFirmwareUploadChunk e s
    | 3 => execFirmwareUploadEnd e s
    | 4 => execFirmwareUploadAbort e s
    | _ => .next (runCommand e 0x0801 [3] false 0 false (fun _ a => a) s)
  | _ => .next (refuse (e.ref code) stCommand 0 s)

/-- The commands marked long (R424), which let the next command of their queue start at once (R423); of a transfer only END waits for anything. -/
def longCodes : List Nat :=
  [0x0101, 0x0102, 0x0201, 0x0202, 0x0203, 0x0204, 0x0305, 0x0306, 0x0403, 0x0404, 0x0501, 0x0502, 0x0504, 0x0601, 0x0703, 0x0801]

/-- A command waits in queue q, no short command of it is still to complete (R423), and its completion queue has 180 free words beside those held
back for the commands taken (R397). -/
def State.commandReady (s : State) (q : Fin 4) : Bool :=
  !s.io.cmd[q].waiting.isEmpty && (s.io.taken[q].all fun r => longCodes.contains r.code) &&
    decide (s.io.out[completionQueue q].used + 180 * (s.io.taken[q].length + 1) ≤ queueCapacity (q.val + 4))

/-- Room for a command of maximum size has returned after a refusal for want of room: one notification (R405). -/
def settleRoom (q : Fin 4) (s : State) : State :=
  let most := 181 + if q = 0 then 1 else 0
  if s.io.cmd[q].armed && decide (CmdQueue.used q s.io.cmd[q] + most ≤ queueCapacity q.val) then
    notifyNow ⟨q.val, by omega⟩ (modCmd q (fun c => { c with armed := false }) s)
  else s

/-- The command at the head of queue q is taken. -/
def takeCommand (q : Fin 4) (w : Waiting) (s : State) : State :=
  let s := modCmd q (fun c => { c with waiting := c.waiting.drop 1, consumer := (c.consumer + 1) % 2 ^ 32 }) s
  settleRoom q { s with io := { s.io with taken := s.io.taken.set q (s.io.taken[q] ++ [w.e.ref w.code]) } }

/-- COMMAND_DISPATCH: the next command of the first queue, in the order Q0 to Q3, that has one ready; Pelale takes none while it boots (log 124). -/
def execCommandDispatch (s : State) : Host.Outcome State Fault Refusal :=
  if s.boot.booting || !s.pwr.domains[2] then .next s
  else match (List.finRange 4).find? fun q => s.commandReady q with
    | none => .next s
    | some q => match s.io.cmd[q].waiting with
      | w :: _ => served w.code w.e (takeCommand q w s)
      | [] => .next s

end Sys2Proof.Machine
end

