-- ==== Sys2Proof/Machine/Dispatch.lean ====
section
/-! DEFINITION. The dispatch of a command to its meaning: one arm per row of the table. -/

namespace Sys2Proof.Machine

/-- The effect of command i on everything but the queue. -/
def exec (i : Instr) (s : State) : Host.Outcome State Fault Refusal :=
  match i with
  | .driveArm e => Sys2Proof.Machine.execDriveArm e s
  | .driveDisarm e => Sys2Proof.Machine.execDriveDisarm e s
  | .driveSleep e => Sys2Proof.Machine.execDriveSleep e s
  | .driveReset e => Sys2Proof.Machine.execDriveReset e s
  | .torqueSet e => Sys2Proof.Machine.execTorqueSet e s
  | .bridgeEnable e => Sys2Proof.Machine.execBridgeEnable e s
  | .bridgeDisable e => Sys2Proof.Machine.execBridgeDisable e s
  | .catchStart e => Sys2Proof.Machine.execCatchStart e s
  | .positionSet e => Sys2Proof.Machine.execPositionSet e s
  | .ss1Request e => Sys2Proof.Machine.execSs1Request e s
  | .safetySelect e => Sys2Proof.Machine.execSafetySelect e s
  | .faultClear e => Sys2Proof.Machine.execFaultClear e s
  | .debugFlagClear e => Sys2Proof.Machine.execDebugFlagClear e s
  | .pairSplit e => Sys2Proof.Machine.execPairSplit e s
  | .pairRejoin e => Sys2Proof.Machine.execPairRejoin e s
  | .injectArm e => Sys2Proof.Machine.execInjectArm e s
  | .injectFire e => Sys2Proof.Machine.execInjectFire e s
  | .firmwareActivate e => Sys2Proof.Machine.execFirmwareActivate e s
  | .paramRead e => Sys2Proof.Machine.execParamRead e s
  | .paramWrite e => Sys2Proof.Machine.execParamWrite e s
  | .paramCommit e => Sys2Proof.Machine.execParamCommit e s
  | .paramUploadBegin e => Sys2Proof.Machine.execParamUploadBegin e s
  | .paramUploadChunk e => Sys2Proof.Machine.execParamUploadChunk e s
  | .paramUploadEnd e => Sys2Proof.Machine.execParamUploadEnd e s
  | .paramUploadAbort e => Sys2Proof.Machine.execParamUploadAbort e s
  | .atlasUploadBegin e => Sys2Proof.Machine.execAtlasUploadBegin e s
  | .atlasUploadChunk e => Sys2Proof.Machine.execAtlasUploadChunk e s
  | .atlasUploadEnd e => Sys2Proof.Machine.execAtlasUploadEnd e s
  | .atlasUploadAbort e => Sys2Proof.Machine.execAtlasUploadAbort e s
  | .firmwareUploadBegin e => Sys2Proof.Machine.execFirmwareUploadBegin e s
  | .firmwareUploadChunk e => Sys2Proof.Machine.execFirmwareUploadChunk e s
  | .firmwareUploadEnd e => Sys2Proof.Machine.execFirmwareUploadEnd e s
  | .firmwareUploadAbort e => Sys2Proof.Machine.execFirmwareUploadAbort e s
  | .atlasIdentify e => Sys2Proof.Machine.execAtlasIdentify e s
  | .atlasCheckpoint e => Sys2Proof.Machine.execAtlasCheckpoint e s
  | .atlasClear e => Sys2Proof.Machine.execAtlasClear e s
  | .atlasExport e => Sys2Proof.Machine.execAtlasExport e s
  | .selftestRequest e => Sys2Proof.Machine.execSelftestRequest e s
  | .streamStart e => Sys2Proof.Machine.execStreamStart e s
  | .streamStop e => Sys2Proof.Machine.execStreamStop e s
  | .streamFlush e => Sys2Proof.Machine.execStreamFlush e s
  | .faultRecordClear e => Sys2Proof.Machine.execFaultRecordClear e s
  | .transferIdleTimeout => Sys2Proof.Machine.execTransferIdleTimeout s
  | .hostResetDelayExpiry => Sys2Proof.Machine.execHostResetDelayExpiry s
  | .mailboxCommand h body => Sys2Proof.Machine.execMailboxCommand h body s
  | .mailboxFetch h body parityBad => Sys2Proof.Machine.execMailboxFetch h body parityBad s
  | .commandDispatch => Sys2Proof.Machine.execCommandDispatch s
  | .notifyHoldoffExpiry q => Sys2Proof.Machine.execNotifyHoldoffExpiry q s
  | .notifyRepeatExpiry q => Sys2Proof.Machine.execNotifyRepeatExpiry q s
  | .sampleInstant b t => Sys2Proof.Machine.execSampleInstant b t s
  | .fastConversionComplete ch code t => Sys2Proof.Machine.execFastConversionComplete ch code t s
  | .shuntWindowSample b k code t => Sys2Proof.Machine.execShuntWindowSample b k code t s
  | .controlStep b t => Sys2Proof.Machine.execControlStep b t s
  | .atlasLookupResult b t => Sys2Proof.Machine.execAtlasLookupResult b t s
  | .atlasResultTimeout b t => Sys2Proof.Machine.execAtlasResultTimeout b t s
  | .shortBrakeExit b => Sys2Proof.Machine.execShortBrakeExit b s
  | .carrierValley b t => Sys2Proof.Machine.execCarrierValley b t s
  | .carrierReload b atPeak t => Sys2Proof.Machine.execCarrierReload b atPeak t s
  | .compareMatch l rising t => Sys2Proof.Machine.execCompareMatch l rising t s
  | .offsetScheduleTime b t => Sys2Proof.Machine.execOffsetScheduleTime b t s
  | .classAInput src b active => Sys2Proof.Machine.execClassAInput src b active s
  | .ascDelayExpiry b => Sys2Proof.Machine.execAscDelayExpiry b s
  | .classBTrip l upper t => Sys2Proof.Machine.execClassBTrip l upper t s
  | .islandLinkTimeout p => Sys2Proof.Machine.execIslandLinkTimeout p s
  | .islandLinkReturn p => Sys2Proof.Machine.execIslandLinkReturn p s
  | .partnerLinkTimeout p => Sys2Proof.Machine.execPartnerLinkTimeout p s
  | .islandRailUndervoltage p => Sys2Proof.Machine.execIslandRailUndervoltage p s
  | .islandRailReady p => Sys2Proof.Machine.execIslandRailReady p s
  | .bootstrapPrimePulse b => Sys2Proof.Machine.execBootstrapPrimePulse b s
  | .edgeMeasured p turnOn delayPs dvdt charge => Sys2Proof.Machine.execEdgeMeasured p turnOn delayPs dvdt charge s
  | .shortCircuitDetection p desat t => Sys2Proof.Machine.execShortCircuitDetection p desat t s
  | .shortDetectionReport p => Sys2Proof.Machine.execShortDetectionReport p s
  | .softTurnOffStage2 p => Sys2Proof.Machine.execSoftTurnOffStage2 p s
  | .softTurnOffEnd p => Sys2Proof.Machine.execSoftTurnOffEnd p s
  | .retryWaitExpiry p => Sys2Proof.Machine.execRetryWaitExpiry p s
  | .crossCheckRelease p t => Sys2Proof.Machine.execCrossCheckRelease p t s
  | .crossCheckCancel p => Sys2Proof.Machine.execCrossCheckCancel p s
  | .offsetMeasurementDone pi bemf shunt => Sys2Proof.Machine.execOffsetMeasurementDone pi bemf shunt s
  | .legVoltagePeriod l mean lo hi => Sys2Proof.Machine.execLegVoltagePeriod l mean lo hi s
  | .zeroCrossing b phase rising legs t => Sys2Proof.Machine.execZeroCrossing b phase rising legs t s
  | .zeroCrossingTimeout b => Sys2Proof.Machine.execZeroCrossingTimeout b s
  | .housekeepingRoundStart => Sys2Proof.Machine.execHousekeepingRoundStart s
  | .housekeepingRoundComplete vals => Sys2Proof.Machine.execHousekeepingRoundComplete vals s
  | .housekeepingRoundTimeout => Sys2Proof.Machine.execHousekeepingRoundTimeout s
  | .messageInputTimeout g => Sys2Proof.Machine.execMessageInputTimeout g s
  | .digitalInputTimeout n => Sys2Proof.Machine.execDigitalInputTimeout n s
  | .interfaceCauseConfirmed n cause => Sys2Proof.Machine.execInterfaceCauseConfirmed n cause s
  | .interfaceValidAgain n => Sys2Proof.Machine.execInterfaceValidAgain n s
  | .resolverExcitationPeak r sin cos overcurrent => Sys2Proof.Machine.execResolverExcitationPeak r sin cos overcurrent s
  | .encoderEdge e a b z t => Sys2Proof.Machine.execEncoderEdge e a b z t s
  | .hallCodeChange h code t => Sys2Proof.Machine.execHallCodeChange h code t s
  | .sspFrameRequest p idleLow t => Sys2Proof.Machine.execSspFrameRequest p idleLow t s
  | .sspFrameComplete p frame second t => Sys2Proof.Machine.execSspFrameComplete p frame second t s
  | .captureEdge c rising t => Sys2Proof.Machine.execCaptureEdge c rising t s
  | .speedStandstillTimeout n => Sys2Proof.Machine.execSpeedStandstillTimeout n s
  | .cellRepair g cell => Sys2Proof.Machine.execCellRepair g cell s
  | .learningUpdate g cell steps residual psiD psiQ torque loss => Sys2Proof.Machine.execLearningUpdate g cell steps residual psiD psiQ torque loss s
  | .mtpaRebuildDone g tables => Sys2Proof.Machine.execMtpaRebuildDone g tables s
  | .identificationStepEnd g r => Sys2Proof.Machine.execIdentificationStepEnd g r s
  | .checkpointComplete g good => Sys2Proof.Machine.execCheckpointComplete g good s
  | .atlasLoad g => Sys2Proof.Machine.execAtlasLoad g s
  | .reacqSettleExpiry g => Sys2Proof.Machine.execReacqSettleExpiry g s
  | .acquisitionWindowEnd g estimates freq => Sys2Proof.Machine.execAcquisitionWindowEnd g estimates freq s
  | .acquisitionTimeout g => Sys2Proof.Machine.execAcquisitionTimeout g s
  | .resumeHoldExpiry g => Sys2Proof.Machine.execResumeHoldExpiry g s
  | .placementResult costs sensorPower inputs dcCurrents => Sys2Proof.Machine.execPlacementResult costs sensorPower inputs dcCurrents s
  | .interleaveAnnouncementTx => Sys2Proof.Machine.execInterleaveAnnouncementTx s
  | .interleaveAnnouncementRx a path => Sys2Proof.Machine.execInterleaveAnnouncementRx a path s
  | .offsetScheduleRx o path => Sys2Proof.Machine.execOffsetScheduleRx o path s
  | .partnerTimeout serial => Sys2Proof.Machine.execPartnerTimeout serial s
  | .listenMinimumExpiry g => Sys2Proof.Machine.execListenMinimumExpiry g s
  | .listenCeilingExpiry g => Sys2Proof.Machine.execListenCeilingExpiry g s
  | .rectificationDetected g => Sys2Proof.Machine.execRectificationDetected g s
  | .saliencySearchTimeout b => Sys2Proof.Machine.execSaliencySearchTimeout b s
  | .chargeLimitExpiry b => Sys2Proof.Machine.execChargeLimitExpiry b s
  | .disableRampEnd b => Sys2Proof.Machine.execDisableRampEnd b s
  | .safeOffToAsc b => Sys2Proof.Machine.execSafeOffToAsc b s
  | .ascToOff b freq => Sys2Proof.Machine.execAscToOff b freq s
  | .coilPullInExpiry c => Sys2Proof.Machine.execCoilPullInExpiry c s
  | .weldTestExpiry udc => Sys2Proof.Machine.execWeldTestExpiry udc s
  | .prechargeComplete udc => Sys2Proof.Machine.execPrechargeComplete udc s
  | .prechargeTimeout => Sys2Proof.Machine.execPrechargeTimeout s
  | .mirrorContactChange c shownOpen => Sys2Proof.Machine.execMirrorContactChange c shownOpen s
  | .prechargeOverlapExpiry => Sys2Proof.Machine.execPrechargeOverlapExpiry s
  | .contactorOpenCo1 current => Sys2Proof.Machine.execContactorOpenCo1 current s
  | .contactorOpenCo2 => Sys2Proof.Machine.execContactorOpenCo2 s
  | .weldCheckExpiry c => Sys2Proof.Machine.execWeldCheckExpiry c s
  | .dischargeFallTestExpiry udc => Sys2Proof.Machine.execDischargeFallTestExpiry udc s
  | .dischargeComplete udc => Sys2Proof.Machine.execDischargeComplete udc s
  | .dischargeTimeout => Sys2Proof.Machine.execDischargeTimeout s
  | .stoInputChange chB high => Sys2Proof.Machine.execStoInputChange chB high s
  | .stoDiscrepancy => Sys2Proof.Machine.execStoDiscrepancy s
  | .ss1EnvelopeViolation g => Sys2Proof.Machine.execSs1EnvelopeViolation g s
  | .ss1Timeout g => Sys2Proof.Machine.execSs1Timeout g s
  | .standstillConfirmed g => Sys2Proof.Machine.execStandstillConfirmed g s
  | .slsViolation g => Sys2Proof.Machine.execSlsViolation g s
  | .slpViolation g => Sys2Proof.Machine.execSlpViolation g s
  | .cloveOverspeed g => Sys2Proof.Machine.execCloveOverspeed g s
  | .cloveSpeedDisagreement g => Sys2Proof.Machine.execCloveSpeedDisagreement g s
  | .torqueMonitorRun b violation overBudget => Sys2Proof.Machine.execTorqueMonitorRun b violation overBudget s
  | .clovePowerCheck power t => Sys2Proof.Machine.execClovePowerCheck power t s
  | .brakeReleaseExpiry => Sys2Proof.Machine.execBrakeReleaseExpiry s
  | .brakeFeedbackChange released highFails lowFails => Sys2Proof.Machine.execBrakeFeedbackChange released highFails lowFails s
  | .brakeFeedbackTimeout => Sys2Proof.Machine.execBrakeFeedbackTimeout s
  | .brakeCloseExpiry => Sys2Proof.Machine.execBrakeCloseExpiry s
  | .sumacWindowExpiry w => Sys2Proof.Machine.execSumacWindowExpiry w s
  | .cloveChannelDisagreement => Sys2Proof.Machine.execCloveChannelDisagreement s
  | .ascLegFailure l => Sys2Proof.Machine.execAscLegFailure l s
  | .pairWatchdogExpiry p core => Sys2Proof.Machine.execPairWatchdogExpiry p core s
  | .cloveResetRequest => Sys2Proof.Machine.execCloveResetRequest s
  | .lockstepMismatch p grp => Sys2Proof.Machine.execLockstepMismatch p grp s
  | .pairResetRelease p => Sys2Proof.Machine.execPairResetRelease p s
  | .comparatorTestDone p caught => Sys2Proof.Machine.execComparatorTestDone p caught s
  | .cacheUncorrectable p both => Sys2Proof.Machine.execCacheUncorrectable p both s
  | .debugAttach d => Sys2Proof.Machine.execDebugAttach d s
  | .debugDetach d => Sys2Proof.Machine.execDebugDetach d s
  | .benchLimitExceeded l => Sys2Proof.Machine.execBenchLimitExceeded l s
  | .cloveStartupTestDone failed => Sys2Proof.Machine.execCloveStartupTestDone failed s
  | .testAgeReached => Sys2Proof.Machine.execTestAgeReached s
  | .referenceOscDeparted => Sys2Proof.Machine.execReferenceOscDeparted s
  | .heartbeatMissed t => Sys2Proof.Machine.execHeartbeatMissed t s
  | .dcLinkOvervoltage uC chB => Sys2Proof.Machine.execDcLinkOvervoltage uC chB s
  | .coilSupplyLoss => Sys2Proof.Machine.execCoilSupplyLoss s
  | .portPowerLoss p => Sys2Proof.Machine.execPortPowerLoss p s
  | .portPowerRestore p => Sys2Proof.Machine.execPortPowerRestore p s
  | .podlClassification p cls => Sys2Proof.Machine.execPodlClassification p cls s
  | .auxConverterStart => Sys2Proof.Machine.execAuxConverterStart s
  | .auxConverterStop => Sys2Proof.Machine.execAuxConverterStop s
  | .hvPresentChange present => Sys2Proof.Machine.execHvPresentChange present s
  | .inputOverBudget => Sys2Proof.Machine.execInputOverBudget s
  | .busCollapse => Sys2Proof.Machine.execBusCollapse s
  | .busSupplyLost => Sys2Proof.Machine.execBusSupplyLost s
  | .domainRailFault d => Sys2Proof.Machine.execDomainRailFault d s
  | .pllLockLoss p => Sys2Proof.Machine.execPllLockLoss p s
  | .wakeSourceAssert code => Sys2Proof.Machine.execWakeSourceAssert code s
  | .domainReady => Sys2Proof.Machine.execDomainReady s
  | .tc10SleepRequest p => Sys2Proof.Machine.execTc10SleepRequest p s
  | .sleepQueueWaitExpiry => Sys2Proof.Machine.execSleepQueueWaitExpiry s
  | .thermalUpdate b t => Sys2Proof.Machine.execThermalUpdate b t s
  | .thermalUpdateLate b => Sys2Proof.Machine.execThermalUpdateLate b s
  | .dieSensorRead temp t => Sys2Proof.Machine.execDieSensorRead temp t s
  | .dieCritical => Sys2Proof.Machine.execDieCritical s
  | .cycleGroupGrant reqs => Sys2Proof.Machine.execCycleGroupGrant reqs s
  | .refreshDue => Sys2Proof.Machine.execRefreshDue s
  | .nandOperationDone req image r => Sys2Proof.Machine.execNandOperationDone req image r s
  | .roundBoundary => Sys2Proof.Machine.execRoundBoundary s
  | .streamTrigger st samples t => Sys2Proof.Machine.execStreamTrigger st samples t s
  | .linkUp p gigabit master => Sys2Proof.Machine.execLinkUp p gigabit master s
  | .linkDown p => Sys2Proof.Machine.execLinkDown p s
  | .linkTrainingFailed p only100 => Sys2Proof.Machine.execLinkTrainingFailed p only100 s
  | .cableTestTimer p => Sys2Proof.Machine.execCableTestTimer p s
  | .cableTestDone p code dist => Sys2Proof.Machine.execCableTestDone p code dist s
  | .frameReceived p f => Sys2Proof.Machine.execFrameReceived p f s
  | .addressAgeing mac => Sys2Proof.Machine.execAddressAgeing mac s
  | .ringCheckTx => Sys2Proof.Machine.execRingCheckTx s
  | .ringCheckRx => Sys2Proof.Machine.execRingCheckRx s
  | .ringFlushRx p => Sys2Proof.Machine.execRingFlushRx p s
  | .tc10WakeRx p => Sys2Proof.Machine.execTc10WakeRx p s
  | .mkaChannelChange p live => Sys2Proof.Machine.execMkaChannelChange p live s
  | .lldpTx p => Sys2Proof.Machine.execLldpTx p s
  | .lldpRx p tlv => Sys2Proof.Machine.execLldpRx p tlv s
  | .syncReceived d offset t => Sys2Proof.Machine.execSyncReceived d offset t s
  | .announceReceived d grandmaster t => Sys2Proof.Machine.execAnnounceReceived d grandmaster t s
  | .ptpReceiptTimeout d announce => Sys2Proof.Machine.execPtpReceiptTimeout d announce s
  | .canFrameReceived c f => Sys2Proof.Machine.execCanFrameReceived c f s
  | .canTxTimeout c slot => Sys2Proof.Machine.execCanTxTimeout c slot s
  | .canErrorStateChange c tec rec => Sys2Proof.Machine.execCanErrorStateChange c tec rec s
  | .busOffRecoveryDelay c => Sys2Proof.Machine.execBusOffRecoveryDelay c s
  | .busOffRecovered c => Sys2Proof.Machine.execBusOffRecovered c s
  | .addressClaimTimer c => Sys2Proof.Machine.execAddressClaimTimer c s
  | .isotpTimeout c peer k => Sys2Proof.Machine.execIsotpTimeout c peer k s
  | .selftestInterval kind => Sys2Proof.Machine.execSelftestInterval kind s
  | .selftestSliceStart kind inst => Sys2Proof.Machine.execSelftestSliceStart kind inst s
  | .selftestSliceEnd kind inst pass value => Sys2Proof.Machine.execSelftestSliceEnd kind inst pass value s
  | .selftestDeadline test => Sys2Proof.Machine.execSelftestDeadline test s
  | .injectArmExpiry => Sys2Proof.Machine.execInjectArmExpiry s
  | .injectObservationExpiry => Sys2Proof.Machine.execInjectObservationExpiry s
  | .epochBoundary t => Sys2Proof.Machine.execEpochBoundary t s
  | .powerOnReset => Sys2Proof.Machine.execPowerOnReset s
  | .keepAliveLoss => Sys2Proof.Machine.execKeepAliveLoss s
  | .pelaleWatchdogExpiry storeGood => Sys2Proof.Machine.execPelaleWatchdogExpiry storeGood s
  | .servicePinRelease => Sys2Proof.Machine.execServicePinRelease s
  | .bootComplete => Sys2Proof.Machine.execBootComplete s
  | .alternateSlotCheckDone => Sys2Proof.Machine.execAlternateSlotCheckDone s
  | .firmwareConfirmationTimer => Sys2Proof.Machine.execFirmwareConfirmationTimer s
  | .pllLockRegained p => Sys2Proof.Machine.execPllLockRegained p s
  | .slsDecelerationTimeout g => Sys2Proof.Machine.execSlsDecelerationTimeout g s
  | .cloveSpeedTimeout g standstill => Sys2Proof.Machine.execCloveSpeedTimeout g standstill s
  | .servicePinAssert => Sys2Proof.Machine.execServicePinAssert s
  | .canFrameSent c slot => Sys2Proof.Machine.execCanFrameSent c slot s

end Sys2Proof.Machine
end

