-- ==== Sys2Proof/Safety.lean ====
section
/-! DEFINITION. What counts as a sound state of the block, and the terms in which the statements speak of commands, reports and frames. -/

namespace Sys2Proof.Machine

/-- Keys in strictly rising order. -/
def risingKeys (l : List (Nat × Int)) : Bool := decide ((l.map (·.1)).Pairwise (· < ·))

/-- The objects are in canonical form: each list of values, those of the parameter images among them, in strictly rising key order. -/
def Params.wf (p : Params) : Bool :=
  risingKeys p.stored && risingKeys p.active &&
    ((p.slots.all fun x => x.all fun i => risingKeys i.values) && p.commit.all fun c => risingKeys c.image)

/-- No counter exceeds its ceiling (R498). -/
def Stats.bounded (u : Stats) : Bool :=
  (u.running.all fun e => decide (e.2 ≤ 0xFFFFFFFF)) && u.snapshot.all fun e => decide (e.2 ≤ 0xFFFFFFFF)

/-- The state without what only reports it: the queues and messages, the statistics, the CAN controllers and the self-test unit, to which
every event and counter goes (R16, R400, R496, R498). -/
def State.silent (s : State) : State := { s with io := .reset, st := .reset, can := .replicate 2 .reset, test := .reset }

/-- Command c runs on s and answers a state that meets P. -/
def Completes (c : Instr) (s : State) (P : State → Prop) : Prop := ∃ t, exec c s = .next t ∧ P t

/-- Nothing but the reports has changed from s to t. -/
def Quiet (t s : State) : Prop := t.silent = s.silent

/-- The newest completion in the completion queue of r is that of r, with a status and its result words (R397, R400). -/
def State.answered (t : State) (r : CmdRef) (status : Nat) (results : List Word) : Prop :=
  ∃ c : Completion, t.io.out[completionQueue r.queue].entries.getLast? = some (.completion c) ∧ c.seq = r.seq ∧ c.code = r.code ∧
    c.status = status ∧ c.repeated = false ∧ c.results = results

/-- A host command on one of its queues with its operand count, authenticated on Q0, outside recovery mode (R421). -/
abbrev State.admits (s : State) (e : CmdEntry) (code : Nat) (queues : List Nat) (want : Nat) : Prop :=
  e.queue.val ∈ queues ∧ e.ops.length = want ∧ (e.queue.val = 0 → s.authOk code false e = true) ∧ s.boot.recovery = false

/-- Host rows: the code, the queues that take it, and the entry (R424, R432). -/
def hostForm : Instr → Option (Nat × List Nat × CmdEntry)
  | .driveArm e => some (0x0101, [1], e)
  | .driveDisarm e => some (0x0102, [1], e)
  | .driveSleep e => some (0x0103, [2], e)
  | .driveReset e => some (0x0104, [3], e)
  | .torqueSet e => some (0x0201, [1], e)
  | .bridgeEnable e => some (0x0202, [1], e)
  | .bridgeDisable e => some (0x0203, [1], e)
  | .catchStart e => some (0x0204, [1], e)
  | .positionSet e => some (0x0205, [1], e)
  | .ss1Request e => some (0x0301, [0], e)
  | .safetySelect e => some (0x0302, [0], e)
  | .faultClear e => some (0x0303, [0], e)
  | .debugFlagClear e => some (0x0304, [0], e)
  | .pairSplit e => some (0x0305, [0], e)
  | .pairRejoin e => some (0x0306, [0], e)
  | .injectArm e => some (0x0307, [0], e)
  | .injectFire e => some (0x0308, [0], e)
  | .firmwareActivate e => some (0x0309, [0], e)
  | .paramRead e => some (0x0401, [2, 3], e)
  | .paramWrite e => some (0x0402, [0, 2], e)
  | .faultRecordClear e => some (0x0402, [0, 2], e)
  | .paramCommit e => some (0x0403, [0, 2], e)
  | .paramUploadBegin e => some (0x0404, [0, 3], e)
  | .paramUploadChunk e => some (0x0404, [0, 3], e)
  | .paramUploadEnd e => some (0x0404, [0, 3], e)
  | .paramUploadAbort e => some (0x0404, [0, 3], e)
  | .atlasIdentify e => some (0x0501, [2], e)
  | .atlasCheckpoint e => some (0x0502, [2], e)
  | .atlasClear e => some (0x0503, [2], e)
  | .atlasUploadBegin e => some (0x0504, [3], e)
  | .atlasUploadChunk e => some (0x0504, [3], e)
  | .atlasUploadEnd e => some (0x0504, [3], e)
  | .atlasUploadAbort e => some (0x0504, [3], e)
  | .atlasExport e => some (0x0505, [3], e)
  | .selftestRequest e => some (0x0601, [3], e)
  | .streamStart e => some (0x0701, [3], e)
  | .streamStop e => some (0x0702, [3], e)
  | .streamFlush e => some (0x0703, [3], e)
  | .firmwareUploadBegin e => some (0x0801, [3], e)
  | .firmwareUploadChunk e => some (0x0801, [3], e)
  | .firmwareUploadEnd e => some (0x0801, [3], e)
  | .firmwareUploadAbort e => some (0x0801, [3], e)
  | _ => none

/-- The phase in [7:0] of word 1 that a transfer row stands for (R432); none for every other row. -/
def hostPhase : Instr → Option Nat
  | .paramUploadBegin _ | .atlasUploadBegin _ | .firmwareUploadBegin _ => some 1
  | .paramUploadChunk _ | .atlasUploadChunk _ | .firmwareUploadChunk _ => some 2
  | .paramUploadEnd _ | .atlasUploadEnd _ | .firmwareUploadEnd _ => some 3
  | .paramUploadAbort _ | .atlasUploadAbort _ | .firmwareUploadAbort _ => some 4
  | _ => none

/-- Entries pass from queue to host: the mailbox is served (R31, R33). -/
abbrev State.mailOpen (s : State) : Prop := s.boot.booting = false ∧ s.pwr.domains[2] = true

/-- The queue of an event code takes one more event at once: PD2 runs, nothing is lost there, and a largest event fits (R406). -/
abbrev State.logs (s : State) (code : Nat) : Prop :=
  s.pwr.domains[2] = true ∧ s.io.out[eventQueue code].lost = 0 ∧ s.io.out[eventQueue code].used + 35 ≤ queueCapacity (eventQueue code).val

/-- The newest event in its queue is this one (R16, R400). -/
def State.logged (t : State) (code level index : Nat) (payload : List Int) : Prop :=
  ∃ e : EventEntry, t.io.out[eventQueue code].entries.getLast? = some (.event e) ∧ e.code = code ∧ e.level = level ∧ e.index = index ∧
    e.payload = payload.map (BitVec.ofInt 64)

/-- No forcing, lockout, re-acquisition or identification stands anywhere. -/
def State.unforced (s : State) : Bool :=
  (allBr.all fun b => s.br[b].force.sources.isEmpty && s.br[b].force.pattern == 0 && decide (s.br[b].state ≠ .lockout)) &&
    allGr.all fun g => s.gr[g].reacq.phase == 0 && s.gr[g].atlas.ident.isNone

/-- Bridge b is in the safe state of the one source that is latched on it, with its level (R68, R70). -/
def State.safeAt (t : State) (b : BridgeId) (src : ClassASource) (level : Nat) : Prop :=
  t.br[b].force.sources = [(src, level)] ∧ t.br[b].force.pattern ≠ 0 ∧ t.br[b].state = patternState t.br[b].force.pattern

/-- No new assignment of a position source waits for group g, and its source in use is assigned (R147), so that a change of the drive state
leaves it as it is. -/
def State.sourceSettled (s : State) (g : GroupId) : Bool :=
  decide (s.sto 0x5000 (g.val + 1) = s.act 0x5000 (g.val + 1)) && decide (s.sto 0x5000 (g.val + 5) = s.act 0x5000 (g.val + 5)) &&
    (s.gr[g].pos.src == 0 || s.gr[g].pos.src == s.actN 0x5000 (g.val + 1) || s.gr[g].pos.src == s.actN 0x5000 (g.val + 5))

/-- What no safe state, stop or start touches: memory and journal, stored objects, network, time, sensors but for the offset measurement that
a change of the drive state begins or ends (R120), arbiter, pairs and placement. -/
def State.keeps (t s : State) : Prop :=
  t.mem = s.mem ∧ t.par.stored = s.par.stored ∧ t.net = s.net ∧ t.time = s.time ∧
    t.sense = { s.sense with offsetRun := t.sense.offsetRun } ∧ t.arb = s.arb ∧ t.pairs = s.pairs ∧
    t.place = s.place

/-- A bridge without the gate charges that its islands have averaged, which end with their supply PD7 (R95, R347). -/
def Bridge.uncharged (x : Bridge) : Bridge := { x with pos := x.pos.map fun p => { p with charge := [] } }

end Sys2Proof.Machine
end

