-- ==== Sys2Proof/Certificates/Slice0/Obligations.lean ====
section
/-! DEFINITION. The statements of this model: each is a proposition about the block, named in OBLIGATIONS.json. -/

open Sys2Proof Sys2Proof.Machine

/-- For every command c, queue rest and state s: a step of s with c at the front of its queue is exec of c on s with the rest of the queue. On
an empty queue the step answers the same state. This is the model's design choice (log 2): every time-driven effect of the block comes as
a command of the table. Rests on spec/INDEX.md, log 2. -/
def Obligations.StepRunsTheFrontCommand : Prop :=
  (∀ (c : Instr) (rest : List Instr) (s : State), step { s with pending := c :: rest } = exec c { s with pending := rest }) ∧
  (∀ s : State, s.pending = [] → step s = .next s)

/-- For every host row: where its entry stands in a queue that R424 does not give the row, the command completes at once with status 0x10 and
a zero result word, and nothing but the reports changes. For each of the Q0-only commands of one operand word and FIRMWARE.ACTIVATE: with
its operand count right and its tag not the CMAC of R408, it completes with status 0x12, the failure counter 0xE0C0.04 rises by one (up to
its ceiling), and nothing but the reports changes. A PARAM.WRITE on Q2 whose entries are not all accepted changes nothing but the reports,
whatever its other entries hold: no object keeps any part of the write. Rests on R420, R421, R424, R408, R427. -/
def Obligations.RefusedCommandsChangeNothing : Prop :=
  (∀ (i : Instr) (code : Nat) (qs : List Nat) (e : CmdEntry) (s : State), hostForm i = some (code, qs, e) → e.queue.val ∉ qs →
     Completes i s fun t => Quiet t s ∧ t.answered (e.ref code) stCommand [0]) ∧
  (∀ (e : CmdEntry) (s : State) (x : Instr × Nat × Nat),
     x ∈ [(Instr.ss1Request e, 0x0301, 1), (.safetySelect e, 0x0302, 1), (.faultClear e, 0x0303, 1), (.debugFlagClear e, 0x0304, 1),
       (.pairSplit e, 0x0305, 1), (.pairRejoin e, 0x0306, 1), (.injectArm e, 0x0307, 1), (.injectFire e, 0x0308, 1), (.firmwareActivate e, 0x0309, 0)] →
     e.queue = 0 → e.ops.length = x.2.2 → e.tag ≠ tagOf s.q0Key s.io.session x.2.1 e →
     Completes x.1 s fun t => Quiet t s ∧ t.answered (e.ref x.2.1) stAuth [0] ∧
       t.counter 0xE0C0 4 = min (s.counter 0xE0C0 4 + 1) 0xFFFFFFFF) ∧
  (∀ (e : CmdEntry) (s : State), e.queue = 2 → 1 ≤ e.ops.length → e.ops.length ≤ 180 → e.ops.length % 3 = 0 → s.boot.recovery = false →
     (s.judgeAll 2 1 (writeEntries e.ops) s.par).2 ≠ [] →
     Completes (.paramWrite e) s fun t => Quiet t s)

/-- With the drive booted and PD2 on, and q the first of Q0 to Q3 that has a ready command: the dispatch removes the head of that queue, and
gives exactly the next state of the host row of the head's code (and, for a transfer command, of its phase; for a write of serials to
0xF040.03, of either row) on the state without it. A code below the first or above the last of the table completes with REJECTED-COMMAND.
Taking the command changes nothing but the reports. With no command ready, or while Pelale boots or PD2 is off, nothing happens. Rests on
R397, R420, R423, R424, R432, R517. -/
def Obligations.DispatchRunsTakenRow : Prop :=
  ∀ s : State,
    ((s.boot.booting = true ∨ s.pwr.domains[2] = false ∨ ∀ q : Fin 4, s.commandReady q = false) → exec .commandDispatch s = .next s) ∧
    (∀ (q : Fin 4) (w : Waiting) (rest : List Waiting), s.mailOpen →
      (List.finRange 4).find? (fun k => s.commandReady k) = some q → s.io.cmd[q].waiting = w :: rest →
      (∀ (i : Instr) (qs : List Nat), hostForm i = some (w.code, qs, w.e) → (∀ ph, hostPhase i = some ph → bits 7 0 (w.e.word 1) = ph) →
        (i = .faultRecordClear w.e → w.e.ops.length = 3 ∧ ∀ x ∈ writeEntries w.e.ops, x.index = 0xF040 ∧ x.sub = 3) →
        ∃ t, exec .commandDispatch s = .next t ∧ exec i (takeCommand q w s) = .next t ∧ Quiet (takeCommand q w s) s ∧
          (takeCommand q w s).io.cmd[q].waiting = rest ∧ (takeCommand q w s).io.taken[q] = s.io.taken[q] ++ [w.e.ref w.code]) ∧
      (w.code < 0x0101 ∨ 0x0801 < w.code → ∃ t, exec .commandDispatch s = .next t ∧ Quiet t s ∧ t.io.cmd[q].waiting = rest ∧
        t.answered (w.e.ref w.code) stCommand [0]))

/-- A well-formed COMMAND with the session in force, on the queue's bound transport, with the next sequence number (or the first) and room for
its words: the entry is appended to the queue, its sequence number becomes the last accepted, the counter of accepted commands rises, and
no other report and nothing else changes. A COMMAND message that is malformed, names another session, or comes on another transport than
its queue is bound to adds no entry to any command queue, moves no last sequence number and leaves no completion; it changes nothing but
the reports. (Link transport UDP.) Rests on R400, R402, R403, R418. -/
def Obligations.CommandMessages : Prop :=
  (∀ (h : MailHeader) (body : List Word) (s : State) (q : Fin 4) (w : Waiting), s.mailOpen → (h.transport = .udp → s.netRuns = true) →
     readCommand h body = some (q, w) →
     h.session.toNat = s.io.session → s.actN (0xC100 + q.val) 1 = bindingOf h.transport →
     (∀ last, s.io.cmd[q].lastSeq = some last → w.e.seq = last + 1) →
     CmdQueue.used q s.io.cmd[q] + commandSize q w.e ≤ queueCapacity q.val →
     Completes (.mailboxCommand h body) s fun t => Quiet t s ∧ t.can = s.can ∧ t.test = s.test ∧
       t.io = { s.io with cmd := s.io.cmd.set q { s.io.cmd[q] with waiting := s.io.cmd[q].waiting ++ [w], lastSeq := some w.e.seq } } ∧
       t.counter 0xE0C0 1 = min (s.counter 0xE0C0 1 + 1) 0xFFFFFFFF) ∧
  (∀ (h : MailHeader) (body : List Word) (s : State), s.mailOpen → h.transport = .udp →
     (readCommand h body = none ∨ (∃ q w, readCommand h body = some (q, w) ∧
       (h.session.toNat ≠ s.io.session ∨ s.actN (0xC100 + q.val) 1 ≠ bindingOf h.transport))) →
     Completes (.mailboxCommand h body) s fun t => Quiet t s ∧ t.io.cmd = s.io.cmd ∧ t.io.taken = s.io.taken ∧
       (∀ q : Fin 4, t.io.out[completionQueue q] = s.io.out[completionQueue q]))

/-- A well-formed FETCH of an outbound queue Q4 to Q11 with no loss pending and no parity error, whose index lies d entries above the consumer
index: the first d entries leave the queue, the consumer index becomes the fetched index, every other outbound queue and every command
queue stays, and nothing but the reports changes. At the holdoff expiry of a queue whose entries were completed during the holdoff, and at
the repeat expiry of an outbound queue with unreleased entries: where the queue is bound to UDP with a destination and a port is up, the
NOTIFY with the producer index and the entries pending is the newest message sent; the notification record takes the time at which the
interval since the last one ends; no queue changes. Rests on R399, R404, R401, R405. -/
def Obligations.FetchAndNotification : Prop :=
  (∀ (h : MailHeader) (w : Word) (s : State) (q : QueueId) (d : Nat), s.mailOpen → s.netRuns = true → 4 ≤ q.val → q.val < 12 → h.queue.toNat = q.val → h.kind = 3 →
     h.count = 1 → h.session.toNat = s.io.session → h.transport = .udp → 1 ≤ w.toNat / 2 ^ 32 → w.toNat / 2 ^ 32 ≤ 64 →
     s.io.out[q].lost = 0 → s.io.out[q].consumer < 2 ^ 32 → s.io.out[q].inRing = 0 → d ≤ s.io.out[q].entries.length → d < 2 ^ 32 →
     w.toNat % 2 ^ 32 = (s.io.out[q].consumer + d) % 2 ^ 32 →
     Completes (.mailboxFetch h [w] []) s fun t => Quiet t s ∧ t.io.cmd = s.io.cmd ∧
       t.io.out[q] = { s.io.out[q] with entries := s.io.out[q].entries.drop d, consumer := w.toNat % 2 ^ 32 } ∧
       (∀ r : QueueId, r ≠ q → t.io.out[r] = s.io.out[r])) ∧
  (∀ (q : QueueId) (s : State) (c : Instr) (d : Nat), s.canNotify q = true → s.actN (0xC100 + q.val) 1 = 0 →
     ((c = .notifyHoldoffExpiry q ∧ s.io.notify[q].during = true ∧ d = s.actN (0xC100 + q.val) 5 * ticksPerUs) ∨
       (c = .notifyRepeatExpiry q ∧ 4 ≤ q.val ∧ s.io.out[q].entries ≠ [] ∧ d = s.actN (0xC100 + q.val) 6 * ticksPerMs)) →
     Completes c s fun t => t.silent = { s.silent with now := max s.now (s.notifyDue q d) } ∧ t.io.cmd = s.io.cmd ∧ t.io.out = s.io.out ∧
       t.io.notify = s.io.notify.set q { last := some t.now, during := false } ∧
       t.io.outbox = s.io.outbox ++ [.notify q.val (s.notifyCounts q).1 (s.notifyCounts q).2])

/-- TORQUE.SET on a group with a bridge in RUN, not in SS1, in range: the target takes the value, the command waits for the split step that
latches it, and nothing but that group, its input record and the reports changes. POSITION.SET on a group with no bridge in RUN: the count
takes the value and the group is referenced; the command completes with OK; nothing but that group and the reports changes. SS1.REQUEST
that names running groups not in SS1 or an identification: each of them has the host request among its waiting SS1 sources, the request
waits for their entry, and no other group changes. SAFETY.SELECT in range, with a reference where SLP is chosen and no excluded motion: on
a group with no bridge in RUN the selection is in force at once and the command completes with OK; on a running group it waits. Rests on
R158, R229, R424, R138, R272, R276. -/
def Obligations.TargetAndStopCommands : Prop :=
  (∀ (e : CmdEntry) (s : State) (g : GroupId), groupOperand (bits 7 0 (e.word 1)) = some g →
     (s.admits e 0x0201 [1] 1 → (toSigned 32 (bits 63 32 (e.word 1))).natAbs ≤ 200000 → s.running g ≠ [] →
       s.gr[g].ss1.any (fun x => decide (x.goal = 0)) = false →
       Completes (.torqueSet e) s fun t => t.silent = { s.silent with gr := t.gr, sense := { s.sense with inputs := t.sense.inputs } } ∧
         (∀ n : Fin 84, n ≠ messageInput g → t.sense.inputs[n] = s.sense.inputs[n]) ∧
         t.gr = s.gr.set g { s.gr[g] with target := toSigned 32 (bits 63 32 (e.word 1)), setRef := some (e.ref 0x0201),
                                          msgAt := s.now }) ∧
     (s.admits e 0x0205 [1] 2 → -(2 ^ 47) ≤ toSigned 64 (e.word 2) → toSigned 64 (e.word 2) < 2 ^ 47 → s.running g = [] →
       Completes (.positionSet e) s fun t => t.silent = { s.silent with gr := t.gr } ∧ (∀ k : GroupId, k ≠ g → t.gr[k] = s.gr[k]) ∧
         t.gr[g].pos.count = toSigned 64 (e.word 2) ∧ t.gr[g].pos.referenced = true ∧ t.gr[g].lastCount = toSigned 64 (e.word 2) ∧
         t.answered (e.ref 0x0205) stOk [])) ∧
  (∀ (e : CmdEntry) (s : State),
     (s.admits e 0x0301 [0] 1 → groupsOfMask (bits 3 0 (e.word 1)) ≠ [] →
       (∀ g ∈ groupsOfMask (bits 3 0 (e.word 1)), s.running g ≠ [] ∧ s.gr[g].atlas.ident = none ∧ s.gr[g].ss1.any (fun x => decide (x.goal = 0)) = false) →
       Completes (.ss1Request e) s fun t => t.silent = { s.silent with gr := t.gr, drive := t.drive } ∧
         (∀ g : GroupId, t.gr[g] = if g ∈ groupsOfMask (bits 3 0 (e.word 1)) then { s.gr[g] with ss1Due := s.gr[g].ss1Due ++ [1] } else s.gr[g]) ∧
         (∃ q ∈ t.drive.ss1Reqs, q.ref = e.ref 0x0301) ∧ t.drive = { s.drive with ss1Reqs := t.drive.ss1Reqs }) ∧
     (∀ g : GroupId, groupOperand (bits 7 0 (e.word 1)) = some g → s.admits e 0x0302 [0] 1 → selectionOk (bits 15 8 (e.word 1)) = true →
       (bits 15 8 (e.word 1) / 64 % 2 = 1 → s.gr[g].pos.referenced = true) → s.excludesMotion g (bits 15 8 (e.word 1)) = false →
       Completes (.safetySelect e) s fun t => t.silent = { s.silent with gr := t.gr } ∧ (∀ k : GroupId, k ≠ g → t.gr[k] = s.gr[k]) ∧
         (s.running g = [] → t.gr[g].select = bits 15 8 (e.word 1) ∧ t.gr[g].selectNext = none ∧
           t.answered (e.ref 0x0302) stOk [BitVec.ofNat 64 (bits 15 8 (e.word 1))]) ∧
         (s.running g ≠ [] → t.gr[g] = { s.gr[g] with selectNext := some (bits 15 8 (e.word 1)),
                                                      selectRefs := s.gr[g].selectRefs ++ [e.ref 0x0302] })))

/-- DRIVE.ARM in STANDBY with every mirror contact open and no contactor sequence in progress: coil 2 is commanded, the command waits, step 1
begins; nothing but the contactors, the drive record and the reports changes. DRIVE.DISARM in ARMED with every bridge in STANDBY, no
sequence in progress and coil 1 closed: coil 3 is open, the wait for the current of CO1 begins, a discharge is to follow, and the command
waits. Rests on R254, R256, R257, R424. -/
def Obligations.ArmAndDisarmCommands : Prop :=
  ∀ (e : CmdEntry) (s : State),
    (s.admits e 0x0101 [1] 0 → s.drive.state = .standby → s.drive.armRef = none → s.cont.opening = 0 → s.cont.active = false →
      s.cont.mirrorOpen.all id = true →
      Completes (.driveArm e) s fun t => t = { s with cont := t.cont, drive := t.drive } ∧ t.cont.coil = s.cont.coil.set 1 true ∧
        t.cont.mirrorOpen = s.cont.mirrorOpen ∧
        t.drive = { s.drive with armRef := some (e.ref 0x0101), armStep := 1, armUdc := s.drive.udc }) ∧
    (s.admits e 0x0102 [1] 0 → s.drive.state = .armed → s.drive.armRef = none → s.allStandby = true → s.cont.opening = 0 → s.cont.active = false →
      s.cont.afterOpen = false → s.cont.coil[0] = true →
      Completes (.driveDisarm e) s fun t => t = { s with cont := t.cont, drive := t.drive } ∧ t.cont.coil = s.cont.coil.set 2 false ∧
        t.cont.opening = 1 ∧ t.cont.openAt = s.now ∧ t.cont.afterOpen = true ∧
        t.drive = { s.drive with armStep := 0, overlap := false, disarmRefs := s.drive.disarmRefs ++ [e.ref 0x0102] })

/-- Where R235 allows every named bridge, none of them in a held catch ASC, and the gate power allows the start: after BRIDGE.ENABLE, and
after CATCH.START for every bridge of its group, each named bridge is in the Listen phase from the present time with every position off
and not yet in RUN, no other bridge has changed, and the command waits with no outcome. With the drive in RUN, at least one named bridge
in RUN, no named bridge in a start, no identification and no named bridge ramping down already: each named bridge in RUN begins its ramp
at the present time and stays in RUN, no other bridge changes, and the command waits for them; the drive shows STOPPING exactly where
every running bridge is then stopping (log 135). Rests on R235, R236, R424, R250. -/
def Obligations.StartAndDisableCommands : Prop :=
  (∀ (e : CmdEntry) (s : State) (c : Instr) (code : Nat) (named : List BridgeId), s.admits e code [1] 1 →
     (c = .bridgeEnable e ∧ code = 0x0202 ∧ named = bridgesOfMask (bits 3 0 (e.word 1)) ∨
       c = .catchStart e ∧ code = 0x0204 ∧ ∃ g, groupOperand (bits 7 0 (e.word 1)) = some g ∧ named = s.bridgesOf g) →
     named ≠ [] → (∀ b ∈ named, s.startAllowed b = true ∧ s.heldCatch b = false) → s.powerRefuses named = false →
     Completes c s fun t => t.silent = { s.silent with br := t.br, gr := t.gr, drive := t.drive } ∧
       (∀ b ∈ named, t.br[b].state = s.br[b].state ∧ t.br[b].start.phase = 1 ∧ t.br[b].start.since = s.now ∧ ∀ k : Fin 6, (t.br[b].pos[k]).on = false) ∧
       (∀ b, b ∉ named → t.br[b] = s.br[b]) ∧
       t.drive = { s.drive with starts := s.drive.starts ++ [{ ref := e.ref code, bridges := Vector.ofFn fun b => named.contains b,
                                                               outcome := .replicate 4 none }] }) ∧
  (∀ (e : CmdEntry) (s : State), s.admits e 0x0203 [1] 1 → s.boot.booting = false → s.drive.disables = [] → (∀ g : GroupId, s.gr[g].atlas.ident = none) →
     (∀ b ∈ bridgesOfMask (bits 3 0 (e.word 1)), s.starting b = false ∧ s.br[b].ctl.rampDown = none) →
     (∃ b ∈ bridgesOfMask (bits 3 0 (e.word 1)), s.br[b].state = .run ∧ s.heldCatch b = false) →
     s.drive.state = .run →
     Completes (.bridgeDisable e) s fun t =>
       (∀ b : BridgeId, t.br[b] = if b ∈ bridgesOfMask (bits 3 0 (e.word 1)) ∧ s.br[b].state = .run
         then { s.br[b] with ctl := { s.br[b].ctl with rampDown := some s.now } } else s.br[b]) ∧
       t.drive = { s.drive with disables := t.drive.disables, state := t.drive.state } ∧ (∃ d ∈ t.drive.disables, d.1 = e.ref 0x0203) ∧
       t.drive.state = (if t.allStopping then .stopping else .run) ∧ (t.allStopping = false → t = { s with br := t.br, drive := t.drive }) ∧
       t.cont = s.cont ∧ t.mem = s.mem ∧
       t.clove = { s.clove with bound := t.clove.bound, boundHigh := t.clove.boundHigh, windows := t.clove.windows })

/-- SLEEP_QUEUE_WAIT_EXPIRY of an entry in its queue wait in STANDBY, and BUS_SUPPLY_LOST of a bus that was there, outside SLEEP with no
forcing anywhere: the drive is in SLEEP, every bridge and group is as after reset, the command queues and the DRAM are empty, the NAND
stays, the count of every group is retained with its referenced flag. After BUS_SUPPLY_LOST no port delivers, nor the converter.
TC10_SLEEP_REQUEST on a port with a link, where R353 allows it and no atlas delays it, begins the queue wait. DRIVE.SLEEP where R353
allows it and no atlas delays it: the entry is in its queue wait from the present time, no request waits. DRIVE.RESET with nothing
running: the command completes with OK and a reset is due, 10 ms from now unless one was due already. FIRMWARE.ACTIVATE in STANDBY with a
checked alternate slot: a reset is due 10 ms from now and the command completes with the version and slot that it will try. Rests on R159,
R305, R353, R354, R356, R424, R425, R438. -/
def Obligations.SleepRows : Prop :=
  (∀ s : State,
     (∀ c : Instr, (c = .sleepQueueWaitExpiry ∧ s.drive.sleepStep = 2 ∧ s.drive.state = .standby ∨ c = .busSupplyLost ∧ s.unforced = true ∧ s.busSource = true ∧ s.drive.state ≠ .sleep) → Completes c s fun t =>
       t.drive.state = .sleep ∧ t.br = State.reset.br ∧ t.gr = State.reset.gr ∧ t.mem.dram = [] ∧ t.mem.nand = s.mem.nand ∧
       (∀ q : Fin 4, t.io.cmd[q].waiting = []) ∧
       (∀ g : GroupId, t.boot.retained[g] = some (s.gr[g].pos.count, s.gr[g].pos.referenced)) ∧
       (∀ q : PairId, t.pairs[q].flag = s.pairs[q].flag) ∧
       (c = .busSupplyLost → t.pwr.delivering = .replicate 2 false ∧ t.pwr.aux = false)) ∧
     (∀ p : PortId, s.net.port[p].up = true → s.drive.sleepStep = 0 → s.sleepAllowed = true → s.sleepDelayed = false →
       Completes (.tc10SleepRequest p) s fun t => t.drive = { s.drive with sleepStep := 2, sleepRef := none, sleepAt := s.now } ∧ t.br = s.br ∧
         t.gr = s.gr ∧ t.cont = s.cont ∧ t.clove = s.clove ∧ t.mem = s.mem ∧ t.pwr = s.pwr)) ∧
  (∀ (e : CmdEntry) (s : State),
     (s.admits e 0x0103 [2] 0 → s.drive.sleepStep = 0 → s.sleepAllowed = true → s.sleepDelayed = false → s.drive.sleepRef = none →
       Completes (.driveSleep e) s fun t => t.drive = { s.drive with sleepStep := 2, sleepRef := none, sleepAt := s.now } ∧ t.br = s.br ∧ t.gr = s.gr ∧
         t.cont = s.cont ∧ t.clove = s.clove ∧ t.mem = s.mem ∧ t.pwr = s.pwr) ∧
     (s.admits e 0x0104 [3] 0 → s.anyRun = false → allBr.any s.starting = false → s.par.commit = none → (∀ g : GroupId, s.gr[g].atlas.copying = false) →
       s.boot.resetAt = none →
       Completes (.driveReset e) s fun t => t.silent = { s.silent with boot := { s.boot with resetAt := some (s.now + 10 * ticksPerMs, 0x0104) } } ∧
         t.answered (e.ref 0x0104) stOk []) ∧
     (s.admits e 0x0309 [0] 0 → s.drive.state = .standby → s.allStandby = true → s.boot.alternateOk = true → s.transfer = none → s.par.commit = none →
       (∀ g : GroupId, s.gr[g].atlas.copying = false) → s.mem.journal.halves[s.mem.journal.half].length < halfRecords →
       Completes (.firmwareActivate e) s fun t =>
         t.silent = { s.silent with mem := t.mem, boot := { s.boot with resetAt := some (s.now + 10 * ticksPerMs, 0x0309) } } ∧
         t.mem = { s.mem with journal := t.mem.journal } ∧
         t.answered (e.ref 0x0309) stOk [BitVec.ofNat 64 (s.fwVersion (otherFw s.boot.slot) + 2 ^ 32 * (otherFw s.boot.slot).val)]))

/-- FAULT.CLEAR at level 2 of a leg whose fault is latched and whose positions are not, in STANDBY with no drive-level block: the leg's fault
and its runs are cleared, nothing else but reports changes, and the command completes with one item cleared. DEBUG.FLAG.CLEAR of a pair
with no debugger whose comparator test has passed since, with a pair that answers: the flag is clear, and no other pair changes.
PAIR.SPLIT of a permitted pair in lockstep, no debugger attached, every affected bridge at rest in STANDBY and no bridge in RUN: the pair
is split with both cores running and not held, the other pair is as before, and the command completes with OK. PAIR.REJOIN of a split pair
whose bridges are at rest: the pair is recovering, held in reset, the other pair is as before, and the command waits for the comparator
test. Rests on R325, R431, R327, R328. -/
def Obligations.ClearAndPairCommands : Prop :=
  (∀ (e : CmdEntry) (s : State),
     (∀ l : LegId, s.admits e 0x0303 [0] 1 → bits 2 0 (e.word 1) = 2 → bits 15 8 (e.word 1) = l.val + 1 → (s.leg l).fault ≠ 0 →
       (∀ p : PosId, legOfPos p = l → (s.pos p).latched = false) → s.drive.state = .standby → s.drive.rejoinRef = none → s.clove.disagree = false →
       s.clove.testFailed = false → s.clove.discrepancy = false → s.cont.deferred = false →
       Completes (.faultClear e) s fun t =>
         t.silent = (modLeg l (fun x => { x with fault := 0, overlapRun := 0, cancelRun := 0 }) s).silent ∧
         t.answered (e.ref 0x0303) stOk [1]) ∧
     (∀ p : PairId, pairOperand (bits 7 0 (e.word 1)) = some p → s.admits e 0x0304 [0] 1 → s.pairs[p].debugger = false →
       s.pairs[p].testedSince = true → (s.canRun 0 || s.canRun 1) = true →
       Completes (.debugFlagClear e) s fun t => t.pairs = s.pairs.set p { s.pairs[p] with flag := false } ∧
         t.silent = { s.silent with pairs := t.pairs, place := t.place, clove := t.clove } ∧ t.answered (e.ref 0x0304) stOk [])) ∧
  (∀ (e : CmdEntry) (s : State) (p : PairId), pairOperand (bits 7 0 (e.word 1)) = some p → s.anyRun = false →
     (s.admits e 0x0305 [0] 1 → bitAt p.val s.place.permit = true → s.pairs[p].state = .lockstep → (∀ q : PairId, s.pairs[q].debugger = false) →
       s.drive.splitRef = none → (∀ b : BridgeId, s.splitAffects p b = true → s.br[b].state = .standby ∧ s.starting b = false) →
       Completes (.pairSplit e) s fun t => t.pairs = s.pairs.set p { s.pairs[p] with state := .split, cores := .replicate 2 true, held := false } ∧
         t.par = s.par ∧ t.gr = s.gr ∧ t.mem = s.mem ∧ t.answered (e.ref 0x0305) stOk []) ∧
     (s.admits e 0x0306 [0] 1 → s.pairs[p].state = .split → s.drive.rejoinRef = none →
       (∀ b : BridgeId, s.br[b].pair = p ∨ s.br[b].monPair = p → s.br[b].state = .standby ∧ s.starting b = false) →
       Completes (.pairRejoin e) s fun t => t.pairs = s.pairs.set p { s.pairs[p] with state := .recovering, cores := .replicate 2 true, held := true } ∧
         t.drive = { s.drive with rejoinRef := some (e.ref 0x0306, p) } ∧ t.par = s.par ∧ t.gr = s.gr ∧ t.mem = s.mem))

/-- INJECT.ARM of a permitted point with the complement of the challenge: the point is armed with the next arm number at the present time, the
challenge is renewed with a free value, and the command completes with the number. INJECT.FIRE of a waiting point (an edge, a conversion,
a link) with its number in time: nothing stays armed, the point waits for its detector and is observed for 0xD100.04. INJECT_ARM_EXPIRY
leaves nothing armed and INJECT_OBSERVATION_EXPIRY ends the oldest observation. None of them changes anything outside the self-test unit
and the reports. SELFTEST.REQUEST of permitted instances with no deadline, fewer than four requests waiting and none of the same code: it
waits with all its instances. With self-test enabled each nominal interval counts, and at the end of an interval of the throttle level
each permitted instance is due. A slice that is wanted and allowed, in an idle window of its resource that no host slice takes, with room
for it and its power, runs, and its bridge has had its slice of the carrier period. The end of the only slice of an instance (of kind
0x0A, or a pass of kind 0x06) gives its result with the time, and it no longer runs or is due. A deadline removes its request and
completes it as deferred. Beyond self-test unit, time and reports the rows named change nothing, save the free value that a prediction
draws. Rests on R493, R495, R496, R484, R486, R487, R488, R490, R491. -/
def Obligations.InjectionAndSelfTestRows : Prop :=
  (∀ (e : CmdEntry) (s : State),
     (s.admits e 0x0307 [0] 1 → pointExists (bits 15 0 (e.word 1)) = true → bits 63 32 (e.word 1) + s.test.challenge = 2 ^ 32 - 1 →
       s.pointPermitted (bits 15 0 (e.word 1)) = true →
       Completes (.injectArm e) s fun t => t.silent = { s.silent with freeCount := s.freeCount + 1 } ∧
         t.test.arm = some (bits 15 0 (e.word 1), (s.test.armNumber + 1) % 2 ^ 32, s.now) ∧ t.test.armNumber = (s.test.armNumber + 1) % 2 ^ 32 ∧
         t.test.challenge = s.nextFree 32 ∧ t.answered (e.ref 0x0307) stOk [BitVec.ofNat 64 ((s.test.armNumber + 1) % 2 ^ 32)]) ∧
     (∀ n at0, s.admits e 0x0308 [0] 1 → s.test.arm = some (bits 15 0 (e.word 1), n, at0) → bits 63 32 (e.word 1) = n →
       s.now ≤ at0 + s.actN 0xD100 3 * ticksPerMs → s.pointPermitted (bits 15 0 (e.word 1)) = true →
       bits 15 0 (e.word 1) / 256 ∈ [1, 2, 5, 7, 0xF] →
       Completes (.injectFire e) s fun t => Quiet t s ∧ t.test.arm = none ∧ t.test.inject = s.test.inject ++ [bits 15 0 (e.word 1)] ∧
         t.test.fired = s.test.fired ++ [(bits 15 0 (e.word 1), s.now + s.actN 0xD100 4 * ticksPerMs)] ∧ t.answered (e.ref 0x0308) stOk []) ∧
     (∀ a, s.test.arm = some a → Completes .injectArmExpiry s fun t =>
       t.silent = { s.silent with now := max s.now (a.2.2 + s.actN 0xD100 3 * ticksPerMs) } ∧ t.test.arm = none) ∧
     (∀ f rest, s.test.fired = f :: rest → Completes .injectObservationExpiry s fun t =>
       t.silent = { s.silent with now := max s.now f.2 } ∧ t.test.fired = rest ∧ t.test.inject = s.test.inject.erase f.1)) ∧
  (∀ (s : State) (k : Fin 12) (n : Nat),
     (∀ (e : CmdEntry) (ns : List Nat), s.admits e 0x0601 [3] 1 → bits 63 32 (e.word 1) = 0 → namedInstances (bits 15 0 (e.word 1)) = some (k, ns) →
       (∀ m ∈ ns, s.testPermitted k m = true) → s.test.reqs.length < 4 → (∀ q ∈ s.test.reqs, q.test ≠ bits 15 0 (e.word 1)) →
       Completes (.selftestRequest e) s fun t => t = { s with test := t.test, freeCount := s.freeCount + 1 } ∧ ∃ q : TestReq,
         t.test = { s.test with reqs := s.test.reqs ++ [q] } ∧ q.ref = e.ref 0x0601 ∧ q.test = bits 15 0 (e.word 1) ∧ q.deadline = 0 ∧ q.waiting = ns) ∧
     (s.act 0xD000 1 = 1 → s.test.nominal[k] + 1 < s.intervalFactor → exec (.selftestInterval k) s = .next { s with
       test := { s.test with nominal := s.test.nominal.set k (s.test.nominal[k] + 1) } }) ∧
     (s.act 0xD000 1 = 1 → s.intervalFactor ≤ s.test.nominal[k] + 1 → n < testInstances k → s.testPermitted k n = true → ∀ h : n < 24,
       Completes (.selftestInterval k) s fun t => Quiet t s ∧ t.test.inst[k][n].due = true ∧
         t.test.inst[k][n].missed = if s.test.inst[k][n].due then s.test.inst[k][n].missed + 1 else 0) ∧
     (n < testInstances k → s.sliceAllowed k n = true → s.sliceWanted k n = true → s.sliceIdle k n = true → s.hostSliceFirst k n = false → (k, n) ∉ s.test.running →
       s.test.running.length < (if 3 ≤ s.die.level then 1 else 2) → s.slicesPower + (testPower k : Rat) / 100 ≤ s.testHeadroom →
       Completes (.selftestSliceStart k n) s fun t => Quiet t s ∧ t.test = { s.test with running := s.test.running ++ [(k, n)], placed := t.test.placed } ∧
         ∀ b : BridgeId, t.test.placed[b] = if testBridge k n = some b then some s.br[b].car.period else s.test.placed[b]) ∧
     (∀ (pass : Bool) (value : Int) (h : n < 24), s.test.running = [(k, n)] → (k = 5 ∨ k = 9) → s.test.inst[k][n].slices = 0 → s.test.reqs = [] →
       (k = 5 → pass = true) →
       Completes (.selftestSliceEnd k n pass value) s fun t => Quiet t s ∧ t.test.running = [] ∧
         t.test.inst[k][n].result = (if pass then 1 else 2) ∧ t.test.inst[k][n].due = false ∧
         t.test.inst[k][n].passedAt = if pass then some s.now else s.test.inst[k][n].passedAt) ∧
     (∀ (test : BitVec 16) (r : TestReq) (ns : List Nat), s.test.reqs = [r] → r.test = test.toNat → r.deadline ≠ 0 → namedInstances test.toNat = some (k, ns) →
       Completes (.selftestDeadline test) s fun t => t.silent = { s.silent with now := max s.now r.deadline } ∧ t.test.reqs = [] ∧
         t.answered r.ref stDeferred []))

/-- PARAM.COMMIT with no commit in progress, outside SLEEP and its entry, with nothing pending at commit: the commit waits for its image
write, of the stored values as they stand, with no object applied, the parameter slot that the image record does not name holds no valid
content from here on, and the values of every object stay. FAULT_RECORD_CLEAR of a held serial with every bridge in STANDBY: exactly the
records from the oldest to the newest with that serial are added to the cleared ones, no record is removed, and the command completes with
OK. PARAM.READ of 1 to 32 defined objects outside SLEEP completes with OK and the five words of each object, and changes nothing but the
reports. PARAM.WRITE of one entry that is not refused stores its value; an object of immediate effect becomes active with it, every other
keeps its active value; every other object keeps both values; nothing but the objects and the reports changes, and the command completes
with OK. Rests on R429, R517, R15, R426, R427. -/
def Obligations.ParameterRows : Prop :=
  (∀ (e : CmdEntry) (s : State),
     (s.admits e 0x0403 [2] 0 → s.par.commit = none → s.drive.state ≠ .sleep → s.drive.sleepStep = 0 → s.frozenSet = [] →
       Completes (.paramCommit e) s fun t => t.silent = { s.silent with par := t.par, clove := t.clove } ∧
         t.par = (spoilImage { s with par := { s.par with commit := some { ref := e.ref 0x0403, applied := 0, image := s.par.stored } } }).par ∧
         t.clove = { s.clove with signature := s.safetySignature }) ∧
     (∀ (x : WriteEntry) (serials : List Nat), s.admits e 0x0402 [2] 3 → writeEntries e.ops = [x] → x.index = 0xF040 → x.sub = 3 →
       s.judgeEntry 2 s.par x = 0 → s.clearedBy x.raw = some serials →
       Completes (.faultRecordClear e) s fun t => t.boot = { s.boot with cleared := s.boot.cleared ++ serials } ∧
         t.silent = { s.silent with boot := t.boot, par := t.par } ∧ t.answered (e.ref 0x0402) stOk [])) ∧
  (∀ (e : CmdEntry) (s : State),
     ((e.queue = 2 ∨ e.queue = 3) → 1 ≤ e.ops.length → e.ops.length ≤ 32 → s.boot.recovery = false → s.drive.state ≠ .sleep →
       (∀ w ∈ e.ops, (objInfo (bits 15 0 w.toNat) (bits 23 16 w.toNat)).isSome) →
       Completes (.paramRead e) s fun t => Quiet t s ∧ ∃ ws : List Word, ws.length = 5 * e.ops.length ∧ t.answered (e.ref 0x0401) stOk ws ∧
         ∀ w ty acc eff, e.ops = [w] → objInfo (bits 15 0 w.toNat) (bits 23 16 w.toNat) = some (ty, acc, eff) →
           ws = s.objectWords (bits 15 0 w.toNat) (bits 23 16 w.toNat) ty acc eff) ∧
     (∀ x : WriteEntry, s.admits e 0x0402 [2] 3 → writeEntries e.ops = [x] → s.judgeEntry 2 s.par x = 0 → x.index ≠ 0xF040 → x.index ≠ 0xC030 →
       s.par.wf = true →
       Completes (.paramWrite e) s fun t => t.silent = { s.silent with par := t.par } ∧ t.answered (e.ref 0x0402) stOk [] ∧
         t.par.storedOf x.index x.sub = x.value ∧
         t.par.activeOf x.index x.sub = (if effectOf (objKey x.index x.sub) = 0 then x.value else s.par.activeOf x.index x.sub) ∧
         ∀ i k, objKey i k ≠ objKey x.index x.sub → t.par.storedOf i k = s.par.storedOf i k ∧ t.par.activeOf i k = s.par.activeOf i k))

/-- For the atlas, firmware and parameter BEGIN commands, with a length that R433 admits, no transfer in progress and the target's own
conditions met: the transfer is open with nothing received, the command completes with OK and 1,400, and beside the reports only the slot
that the upload writes is marked as holding no valid content. A CHUNK of a firmware upload at the offset that is due, with its data words
and within the announced length: each of its n bytes stands in the NAND at the start of the other firmware slot plus its offset, every
other byte of the NAND and all of the DRAM read as before, the transfer has received n bytes more, and the command completes with the new
offset. A CHUNK at the offset that is due: of an atlas upload, past the header, each byte stands in the NAND at the slot's start plus its
offset in the body, and every other byte reads as before; of a parameter upload no memory byte changes and its bytes are kept. Both add n
to the bytes received and complete with the new offset. Rests on R432, R433, R434, R435, R200. -/
def Obligations.TransfersBeginAndWriteTheirBytes : Prop :=
  (∀ (e : CmdEntry) (s : State) (c : Instr) (k : TransferKind) (code : Nat) (qs : List Nat),
     (c = .atlasUploadBegin e ∧ code = 0x0504 ∧ qs = [3] ∧ (∃ g, groupOperand (bits 15 8 (e.word 1)) = some g ∧ k = .atlas g) ∨
       c = .firmwareUploadBegin e ∧ code = 0x0801 ∧ qs = [3] ∧ bits 15 8 (e.word 1) = 0 ∧ k = .firmware ∨
       c = .paramUploadBegin e ∧ code = 0x0404 ∧ qs = [3] ∧ bits 15 8 (e.word 1) = 0 ∧ k = .parameters) →
     s.admits e code qs 1 → bits 7 0 (e.word 1) = 1 → lengthOk k (bits 63 32 (e.word 1)) = true → s.transfer = none → s.transferAllowed k = true →
     Completes c s fun t =>
       t.silent = { (spoilSlot k s).silent with
         transfer := some { kind := k, length := bits 63 32 (e.word 1), received := 0, last := s.now, bytes := [] } } ∧
       t.answered (e.ref code) stOk [1400]) ∧
  (∀ (e : CmdEntry) (s : State) (t0 : Transfer), s.admits e 0x0801 [3] (1 + (bits 31 16 (e.word 1) + 7) / 8) → bits 7 0 (e.word 1) = 2 →
     1 ≤ bits 31 16 (e.word 1) → bits 31 16 (e.word 1) ≤ 1400 → s.transfer = some t0 → t0.kind = .firmware → bits 63 32 (e.word 1) = t0.received →
     t0.received + bits 31 16 (e.word 1) ≤ t0.length → s.mem.wf = true →
     Completes (.firmwareUploadChunk e) s fun t =>
       (∀ a : Nat, readByte a t.mem.nand =
         if fwSlotAddr (otherFw s.boot.slot).val + t0.received ≤ a ∧
             a < fwSlotAddr (otherFw s.boot.slot).val + t0.received + bits 31 16 (e.word 1)
         then (chunkBytes e).getD (a - (fwSlotAddr (otherFw s.boot.slot).val + t0.received)) 0 else readByte a s.mem.nand) ∧
       t.silent = { s.silent with mem := { s.mem with nand := t.mem.nand, pages := t.mem.pages }, transfer := t.transfer } ∧ (∀ p ∈ t.mem.pages, p ∈ s.mem.pages) ∧
       t.transfer = some { t0 with received := t0.received + bits 31 16 (e.word 1), last := s.now, bytes := [] } ∧
       t.answered (e.ref 0x0801) stOk [BitVec.ofNat 64 (t0.received + bits 31 16 (e.word 1))]) ∧
  (∀ (e : CmdEntry) (s : State) (t0 : Transfer), bits 7 0 (e.word 1) = 2 → 1 ≤ bits 31 16 (e.word 1) → bits 31 16 (e.word 1) ≤ 1400 →
     s.transfer = some t0 → bits 63 32 (e.word 1) = t0.received → t0.received + bits 31 16 (e.word 1) ≤ t0.length → s.mem.wf = true →
     (∀ g, t0.kind = .atlas g → atlasHead ≤ t0.received → s.admits e 0x0504 [3] (1 + (bits 31 16 (e.word 1) + 7) / 8) →
       Completes (.atlasUploadChunk e) s fun t =>
         (∀ a : Nat, readByte a t.mem.nand =
           if atlasSlotAddr g (s.uploadSlot (.atlas g)) + (t0.received - atlasHead) ≤ a ∧
               a < atlasSlotAddr g (s.uploadSlot (.atlas g)) + (t0.received - atlasHead) + bits 31 16 (e.word 1)
           then (chunkBytes e).getD (a - (atlasSlotAddr g (s.uploadSlot (.atlas g)) + (t0.received - atlasHead))) 0 else readByte a s.mem.nand) ∧
         t.silent = { s.silent with mem := { s.mem with nand := t.mem.nand, pages := t.mem.pages }, transfer := t.transfer } ∧ (∀ p ∈ t.mem.pages, p ∈ s.mem.pages) ∧
         t.transfer = some { t0 with received := t0.received + bits 31 16 (e.word 1), last := s.now } ∧
         t.answered (e.ref 0x0504) stOk [BitVec.ofNat 64 (t0.received + bits 31 16 (e.word 1))]) ∧
     (t0.kind = .parameters → s.admits e 0x0404 [3] (1 + (bits 31 16 (e.word 1) + 7) / 8) →
       Completes (.paramUploadChunk e) s fun t => t.silent = { s.silent with transfer := t.transfer } ∧
         t.transfer = some { t0 with received := t0.received + bits 31 16 (e.word 1), last := s.now, bytes := t0.bytes ++ chunkBytes e } ∧
         t.answered (e.ref 0x0404) stOk [BitVec.ofNat 64 (t0.received + bits 31 16 (e.word 1))]))

/-- With no sleep entry waiting: END of a complete parameter file whose records are all accepted applies each record as PARAM.WRITE does; END
of a complete firmware image, over readable pages, that passes R438 marks the alternate slot as checked, with the file's length, and one
that fails completes with the image status and marks nothing. ABORT of each kind, and the idle timeout, abandon the transfer and touch
neither memory nor objects. After each of them no transfer is in progress. END of a complete atlas upload at rest, with room in the
journal half. Where the file passes R201: the group's atlas is REFINED, its record names the uploaded slot with the next sequence number,
its MTPA table is due, and the command completes with OK and that number. Where it fails: the command completes with the image status and
no record is committed. Either way the transfer is over and no other group changes. Rests on R432, R434, R438, R440, R190, R201, R202. -/
def Obligations.TransferEndings : Prop :=
  (∀ (e : CmdEntry) (s : State) (t0 : Transfer), s.transfer = some t0 → s.drive.sleepStep = 0 →
     (∀ u : State, bits 7 0 (e.word 1) = 3 → t0.received = t0.length → s.admits e 0x0404 [3] 1 → t0.kind = .parameters → paramFileOk t0.bytes = true →
       applyWrites 3 (fileRecords (fieldAt t0.bytes 8 4) (t0.bytes.drop 64)) s = (u, none) →
       Completes (.paramUploadEnd e) s fun t => t.silent = { u.silent with transfer := none } ∧
         t.answered (e.ref 0x0404) stOk [BitVec.ofNat 64 (fieldAt t0.bytes 8 4 % 65536)]) ∧
     (bits 7 0 (e.word 1) = 3 → t0.received = t0.length → s.admits e 0x0801 [3] 1 → t0.kind = .firmware → s.mem.pages = [] →
       Completes (.firmwareUploadEnd e) s fun t =>
         (fwImageOk t0.length (fwSlotAddr (otherFw s.boot.slot).val) s.mem.nand = true →
           t.silent = { s.silent with transfer := none, boot := (
             { s.boot with alternateOk := true, fw := s.boot.fw.set (otherFw s.boot.slot) { delivered := false, fileLength := t0.length } }) } ∧
           ∃ version, t.answered (e.ref 0x0801) stOk [version]) ∧
         (fwImageOk t0.length (fwSlotAddr (otherFw s.boot.slot).val) s.mem.nand = false →
           t.silent = { s.silent with transfer := none } ∧ t.answered (e.ref 0x0801) stImage [])) ∧
     (bits 7 0 (e.word 1) = 4 → ∀ (c : Instr) (code : Nat), s.admits e code [3] 1 →
       (c = .atlasUploadAbort e ∧ code = 0x0504 ∧ t0.kind.code = 1 ∨ c = .firmwareUploadAbort e ∧ code = 0x0801 ∧ t0.kind.code = 2 ∨
         c = .paramUploadAbort e ∧ code = 0x0404 ∧ t0.kind.code = 3) →
       Completes c s fun t => t.silent = { s.silent with transfer := none } ∧ t.answered (e.ref code) stOk []) ∧
     Completes .transferIdleTimeout s fun t =>
       t.silent = { s.silent with transfer := none, now := max s.now (t0.last + s.actN 0x1101 6 * ticksPerMs) }) ∧
  (∀ (e : CmdEntry) (s : State) (t0 : Transfer) (g : GroupId), s.transfer = some t0 → s.drive.sleepStep = 0 → bits 7 0 (e.word 1) = 3 →
     t0.received = t0.length → s.admits e 0x0504 [3] 1 → t0.kind = .atlas g → s.atlasIdle g = true →
     s.mem.journal.halves[s.mem.journal.half].length < halfRecords →
     Completes (.atlasUploadEnd e) s fun t => t.transfer = none ∧ (∀ k : GroupId, k ≠ g → t.gr[k] = s.gr[k]) ∧ t.br = s.br ∧
       t.mem.nand = s.mem.nand ∧
       (s.atlasFileOk g (s.uploadSlot (.atlas g)) t0.bytes = true →
         t.gr[g].atlas.code = 3 ∧ t.gr[g].atlas.mtpaDue = true ∧
         (∃ r, t.gr[g].atlas.record = some r ∧ r.slot = s.uploadSlot (.atlas g) ∧ r.seq = s.nextSeq 1 (g.val + 1)) ∧
         t.answered (e.ref 0x0504) stOk [BitVec.ofNat 64 (s.nextSeq 1 (g.val + 1))]) ∧
       (s.atlasFileOk g (s.uploadSlot (.atlas g)) t0.bytes = false →
         t.silent = { s.silent with transfer := none } ∧ t.answered (e.ref 0x0504) stImage []))

/-- STREAM.START of a stopped stream whose trigger is chosen: the stream runs with no sample, packet number 0, and the trigger, channels and
sizes of its objects. STREAM.STOP ends a running stream: the packet in progress closes, no sample waits, and the command completes with OK
and the last packet number. STREAM.FLUSH with no packet in progress does the same; with one it waits for that packet, which is then the
last. No other stream changes. At a trigger of a running stream whose trigger source is live: before the decimation count is full the
trigger is only counted; when it is full one sample of each listed channel joins the packet, the first set taking the time stamp; the last
set closes the packet and the next begins, and ends a stream that a flush waits for. A trigger of a stream that does not run, or of a
bridge not in RUN, only moves the time. No other stream changes, and nothing outside the streams, the reports and the time. Rests on R410,
R412, R424, R411. -/
def Obligations.StreamRows : Prop :=
  (∀ (e : CmdEntry) (s : State) (k : StreamId), streamOperand e = k →
     (s.admits e 0x0701 [3] 1 → s.streams[k].running = false → s.sto (0xC120 + k.val) 1 ≠ 0 →
       ∃ t, exec (.streamStart e) s = .next t ∧ t.silent = { s.silent with par := t.par, streams := t.streams } ∧
         (∀ j : StreamId, j ≠ k → t.streams[j] = s.streams[j]) ∧ t.streams[k].running = true ∧ t.streams[k].number = 0 ∧ t.streams[k].sets = 0 ∧
         t.streams[k].samples = [] ∧ t.streams[k].trigger = t.actN (0xC120 + k.val) 1 ∧ t.streams[k].bridge = t.actN (0xC120 + k.val) 2 ∧
         t.streams[k].channels = (List.range (t.actN (0xC120 + k.val) 4)).map (fun j => t.actN (0xC120 + k.val) (17 + j)) ∧
         t.streams[k].setsPer = t.actN (0xC120 + k.val) 5 ∧ t.streams[k].decimation = t.actN (0xC120 + k.val) 6 ∧
         t.answered (e.ref 0x0701) stOk []) ∧
     (s.admits e 0x0702 [3] 1 → s.streams[k].running = true →
       ∃ t, exec (.streamStop e) s = .next t ∧ t.silent = { s.silent with streams := t.streams } ∧ (∀ j : StreamId, j ≠ k → t.streams[j] = s.streams[j]) ∧
         t.streams[k].running = false ∧ t.streams[k].sets = 0 ∧ t.streams[k].flush = [] ∧ t.streams[k].stopping = false ∧
         t.streams[k].lastNumber = (if s.streams[k].sets = 0 then s.streams[k].lastNumber else s.streams[k].number % 2 ^ 32) ∧
         t.answered (e.ref 0x0702) stOk [BitVec.ofNat 64 t.streams[k].lastNumber]) ∧
     (s.admits e 0x0703 [3] 1 → s.streams[k].running = true →
       (s.streams[k].sets = 0 →
         ∃ t, exec (.streamFlush e) s = .next t ∧ t.silent = { s.silent with streams := t.streams } ∧ (∀ j : StreamId, j ≠ k → t.streams[j] = s.streams[j]) ∧
           t.streams[k].running = false ∧ t.streams[k].flush = [] ∧ t.streams[k].lastNumber = s.streams[k].lastNumber ∧
           t.answered (e.ref 0x0703) stOk [BitVec.ofNat 64 s.streams[k].lastNumber]) ∧
       (s.streams[k].sets ≠ 0 →
         exec (.streamFlush e) s = .next { s with streams := (
           s.streams.set k { s.streams[k] with flush := s.streams[k].flush ++ [e.ref 0x0703], stopping := true }) }))) ∧
  (∀ (k : StreamId) (samples : List Int) (t0 : Nat) (s : State),
     ((s.streams[k].running = false ∨ (s.streams[k].trigger ≠ 3 ∧ s.streams[k].trigger ≠ 4 ∧ ∀ b : BridgeId, s.streams[k].bridge = b.val + 1 → s.br[b].state ≠ .run)) →
       exec (.streamTrigger k samples t0) s = .next { s with now := max s.now t0 }) ∧
     (s.streams[k].running = true →
       (s.streams[k].trigger = 3 ∨ s.streams[k].trigger = 4 ∨ ∃ b : BridgeId, s.streams[k].bridge = b.val + 1 ∧ s.br[b].state = .run) →
       (s.streams[k].count + 1 < s.streams[k].decimation →
         exec (.streamTrigger k samples t0) s = .next { s with now := max s.now t0, streams := (
             s.streams.set k { s.streams[k] with count := s.streams[k].count + 1 }) }) ∧
       (s.streams[k].decimation ≤ s.streams[k].count + 1 → s.streams[k].sets + 1 < s.streams[k].setsPer →
         ∃ t, exec (.streamTrigger k samples t0) s = .next t ∧ t = { s with now := max s.now t0, streams := t.streams } ∧
           (∀ j : StreamId, j ≠ k → t.streams[j] = s.streams[j]) ∧ t.streams[k].count = 0 ∧ t.streams[k].sets = s.streams[k].sets + 1 ∧
           t.streams[k].samples.length = s.streams[k].samples.length + s.streams[k].channels.length ∧
           (∃ new, t.streams[k].samples = s.streams[k].samples ++ new) ∧
           t.streams[k].first = if s.streams[k].sets = 0 then s.stamp t0 else s.streams[k].first) ∧
       (s.streams[k].decimation ≤ s.streams[k].count + 1 → s.streams[k].setsPer ≤ s.streams[k].sets + 1 →
         ∃ t, exec (.streamTrigger k samples t0) s = .next t ∧ t.silent = { s.silent with now := max s.now t0, streams := t.streams } ∧
           (∀ j : StreamId, j ≠ k → t.streams[j] = s.streams[j]) ∧ t.streams[k].sets = 0 ∧ t.streams[k].samples = [] ∧
           t.streams[k].number = s.streams[k].number + 1 ∧ t.streams[k].lastNumber = s.streams[k].number % 2 ^ 32 ∧
           t.streams[k].running = !s.streams[k].stopping ∧ (s.streams[k].stopping = true → t.streams[k].flush = []))))

/-- For a group that exists. ATLAS.CLEAR at rest with no upload of it: every DRAM byte of the group's atlas reads 0 and every other DRAM byte
reads as before, the NAND stays, the atlas is EMPTY, the command completes with OK. ATLAS.CHECKPOINT of an atlas that is not empty, with
no copy, upload or identification: the copy is in progress, the block CRCs of the unnamed slot no longer stand (R513 K1), and the command
waits. ATLAS.IDENTIFY in ARMED on an empty atlas, powered for RUN (R35): the options of the operand are kept, the command waits, each
bridge of the group is in the Listen phase from the present time, and no other bridge or group changes. Rests on R176, R185, R192, R436,
R513. -/
def Obligations.AtlasCommands : Prop :=
  ∀ (e : CmdEntry) (s : State) (g : GroupId), groupOperand (bits 7 0 (e.word 1)) = some g → s.groupExists g = true → s.uploading g = false →
    (s.admits e 0x0503 [2] 1 → s.atlasIdle g = true → s.mem.wf = true →
      Completes (.atlasClear e) s fun t =>
        (∀ a : Nat, readByte a t.mem.dram = if 8 * cellAddr g 0 ≤ a ∧ a < 8 * cellAddr g 0 + atlasBytes then 0 else readByte a s.mem.dram) ∧
        t.silent = { s.silent with mem := { s.mem with dram := t.mem.dram }, gr := t.gr } ∧ (∀ k : GroupId, k ≠ g → t.gr[k] = s.gr[k]) ∧
        t.gr[g].atlas.code = 0 ∧ t.gr[g].atlas.mtpa = .replicate 4 [] ∧ t.answered (e.ref 0x0503) stOk []) ∧
    (s.admits e 0x0502 [2] 1 → s.atlasEmpty g = false → s.gr[g].atlas.copying = false → s.gr[g].atlas.ident = none →
      exec (.atlasCheckpoint e) s = .next { s with
        mem := { s.mem with blockCrc := s.mem.blockCrc.set (crcIndex g (s.unnamedSlot g)) [] },
        gr := s.gr.set g { s.gr[g] with
        atlas := { s.gr[g].atlas with copying := true, learned := s.gr[g].atlas.accepted, accepted := false, copyRefs := s.gr[g].atlas.copyRefs ++ [e.ref 0x0502] } } }) ∧
    (s.admits e 0x0501 [2] 1 → s.drive.state = .armed → s.atlasIdle g = true → s.atlasEmpty g = true → s.runPowered = true →
      Completes (.atlasIdentify e) s fun t => t.gr[g].atlas.ident = some (0, bitAt 8 (e.word 1), bitAt 9 (e.word 1)) ∧
        t.gr[g].atlas.identRef = some (e.ref 0x0501) ∧ (∀ b ∈ s.bridgesOf g, t.br[b].start.phase = 1 ∧ t.br[b].start.since = s.now) ∧
        (∀ b, b ∉ s.bridgesOf g → t.br[b] = s.br[b]) ∧ (∀ k : GroupId, k ≠ g → t.gr[k] = s.gr[k]) ∧ t.mem = s.mem ∧ t.par = s.par)

/-- ATLAS.EXPORT of 1 to 1,400 bytes inside the file, over readable pages, at its start or with the record it started with: the command
completes with OK, the offset and length and the bytes, and only the note of the record exported changes. ATLAS_LOAD of a group whose
record names a slot that checks: the DRAM atlas takes the content of that slot, byte for byte where no confidence is reduced (R202), all
other DRAM bytes and the NAND stay, the record names the slot and the MTPA table is due; a group with no record keeps its DRAM. Rests on
R191, R437. -/
def Obligations.AtlasExportAndLoad : Prop :=
  ∀ (g : GroupId) (s : State),
    (∀ (e : CmdEntry) (a : AtlasRec), s.admits e 0x0505 [3] 1 → groupOperand (bits 7 0 (e.word 1)) = some g → 1 ≤ bits 31 16 (e.word 1) →
      bits 31 16 (e.word 1) ≤ 1400 → bits 63 32 (e.word 1) + bits 31 16 (e.word 1) ≤ 268436544 → s.gr[g].atlas.record = some a →
      (bits 63 32 (e.word 1) = 0 ∨ s.gr[g].atlas.exportSeq = a.seq) →
      s.mem.pages = [] → Completes (.atlasExport e) s fun t =>
        t.silent = { s.silent with gr := s.gr.set g { s.gr[g] with atlas := { s.gr[g].atlas with exportSeq := a.seq } } } ∧
        t.answered (e.ref 0x0505) stOk (BitVec.ofNat 64 (bits 63 32 (e.word 1) + 2 ^ 32 * bits 31 16 (e.word 1)) ::
          wordsOfBytes (s.exportBytes g a (bits 63 32 (e.word 1)) (bits 31 16 (e.word 1))))) ∧
    (s.bridgesOf g ≠ [] → s.mem.journal.valid 1 (g.val + 1) = none → Completes (.atlasLoad g) s fun t => Quiet t s) ∧
    (∀ r r' : JRecord, s.bridgesOf g ≠ [] → s.mem.journal.valid 1 (g.val + 1) = some r → r.slot < 2 → s.recordNaming g r.slot = some r' →
      s.mem.wf = true →
      Completes (.atlasLoad g) s fun t => t.mem.nand = s.mem.nand ∧ t.br = s.br ∧ t.drive = s.drive ∧
        (s.slotLoads g r.slot = true → s.mem.cut[crcIndex g r.slot] = false →
          (∀ a : Nat, readByte a t.mem.dram = if 8 * cellAddr g 0 ≤ a ∧ a < 8 * cellAddr g 0 + atlasBytes
            then readByte (atlasSlotAddr g r.slot + (a - 8 * cellAddr g 0)) s.mem.nand else readByte a s.mem.dram) ∧
          ∃ x, t.gr[g].atlas.record = some x ∧ x.slot = r'.slot ∧ x.seq = r'.seq) ∧
        (s.slotLoads g r.slot = true → t.mem.dram = (copyToDram g r.slot s).mem.dram ∧ t.gr[g].atlas.mtpaDue = true) ∧
        (∀ a : Nat, (a < 8 * cellAddr g 0 ∨ 8 * cellAddr g 0 + atlasBytes ≤ a) → readByte a t.mem.dram = readByte a s.mem.dram))

/-- With the pulse clock on (R33) for each converter row. FAST_CONVERSION_COMPLETE that passes its check behind its filter: of a phase-current
channel the current of its leg is stored as fresh; of a valid shunt with no winding discharge the current in use; of a valid DC link the
voltage in use. SHUNT_WINDOW_SAMPLE of a valid shunt at its placed tick stores the current of its window with its aperture, delayed while
the converter converts; at another tick nothing happens. OFFSET_MEASUREMENT_DONE with every offset in range stores, of a measurement
begun, the offsets of the bridges that are off, and the shunt's where all are. LEG_VOLTAGE_PERIOD of a valid channel that passes its check
stores the mean of a period that a set has driven and derives the clamp flag. ZERO_CROSSING that passes amplitude, hysteresis and
alternation on an unclamped off bridge is counted and kept, up to the one that may end a listen phase; one that passes but is too small
only turns the alternation. ZERO_CROSSING_TIMEOUT on an off bridge reports standstill. No other bridge changes. Rests on R33, R117, R118,
R120, R123, R125, R132, R133, R134. -/
def Obligations.MeasurementRows : Prop :=
  ∀ (s : State) (t0 : Nat),
    (∀ (l : LegId) (code : BitVec 16), s.pulseOn = true → s.test.inject = [] → s.unusedPhase (brOfLeg l) ≠ some (phaseOfLeg l) →
      (s.checked (piInput (brOfLeg l) (phaseOfLeg l)) (s.sifted (piInput (brOfLeg l) (phaseOfLeg l)) (s.piAmps l code))).2 = 0 →
      Completes (.fastConversionComplete ⟨l.val, by have := l.2; omega⟩ code t0) s fun t =>
        t.silent = { s.silent with now := max s.now t0, br := t.br, sense := { s.sense with inputs := t.sense.inputs } } ∧
        t.br = s.br.set (brOfLeg l) { s.br[brOfLeg l] with meas := { s.br[brOfLeg l].meas with
          pi := s.br[brOfLeg l].meas.pi.set (phaseOfLeg l) (s.sifted (piInput (brOfLeg l) (phaseOfLeg l)) (s.piAmps l code)),
          piFresh := s.br[brOfLeg l].meas.piFresh.set (phaseOfLeg l) true } }) ∧
    (∀ code : BitVec 16, s.pulseOn = true → s.test.inject = [] → s.cont.vector = none → s.sense.inputs[shuntInput].valid = true →
      (s.checked shuntInput (s.sifted shuntInput (s.shuntAmps code))).2 = 0 →
      Completes (.fastConversionComplete 12 code t0) s fun t => t.silent = { s.silent with
        now := max s.now t0, drive := { s.drive with shunt := (t.sense.inputs[shuntInput].lastGood : Rat) / 1000, shuntAt := t0 },
        sense := { s.sense with inputs := t.sense.inputs } }) ∧
    (∀ code : BitVec 16, s.pulseOn = true → s.test.inject = [] → (s.checked udcInput (s.sifted udcInput (udcVolts code))).2 = 0 →
      s.sense.inputs[udcInput].valid = true →
      Completes (.fastConversionComplete 13 code t0) s fun t => t.silent = ({ s.silent with
          now := max s.now t0, drive := t.drive, cont := { s.cont with lowSince := t.cont.lowSince }, sense := { s.sense with inputs := t.sense.inputs } }) ∧
        t.drive.udc = (t.sense.inputs[udcInput].lastGood : Rat) / 1000 ∧ t.drive.udcAt = t.now ∧ t.drive.state = s.drive.state) ∧
    (∀ (b : BridgeId) (k : Fin 3) (code : BitVec 16),
      ((∀ p, s.br[b].meas.plan = some p → p[k] ≠ t0) → exec (.shuntWindowSample b k code t0) s = .next s) ∧
      (∀ p, s.pulseOn = true → s.br[b].meas.plan = some p → p[k] = t0 → s.sense.inputs[shuntInput].valid = true →
        (s.checked shuntInput (s.sifted shuntInput (s.shuntAmps code))).2 = 0 → Completes (.shuntWindowSample b k code t0) s fun t =>
        t.silent = { s.silent with now := max s.now t0, br := t.br, sense := t.sense } ∧
        t.sense = { s.sense with convFree := t.sense.convFree, inputs := t.sense.inputs, windows := t.sense.windows } ∧
        t.sense.convFree = s.sense.convFree.set 12 (max t0 s.sense.convFree[12] + 40) ∧
        t.sense.windows = s.waitingWindows t0 ++ (if t0 < s.sense.convFree[12] then [(b, k, s.sense.convFree[12])] else []) ∧
        t.br = s.br.set b { s.br[b] with meas := { s.br[b].meas with
          shunt := s.br[b].meas.shunt.set k (some ((t.sense.inputs[shuntInput].lastGood : Rat) / 1000)),
          shuntAt := s.br[b].meas.shuntAt.set k (max t0 s.sense.convFree[12]) } })) ∧
    (∀ (pi : Vector Int 12) (bemf : Vector Nat 12) (shunt : Int), (∀ l : LegId, s.offsetFails pi[l] bemf[l] = false) →
      ((shunt.natAbs : Nat) : Int) ≤ s.act 0x4015 1 →
      (s.sense.offsetRun = false → exec (.offsetMeasurementDone pi bemf shunt) s = .next s) ∧
      (s.pulseOn = true → s.sense.offsetRun = true → (∀ b : BridgeId, s.allOff b = true) → exec (.offsetMeasurementDone pi bemf shunt) s =
        .next { s with sense := { s.sense with offsetRun := false, piOffset := pi, shuntOffset := shunt } }) ∧
      (s.pulseOn = true → s.sense.offsetRun = true → (∃ b : BridgeId, s.allOff b = false) → Completes (.offsetMeasurementDone pi bemf shunt) s fun t =>
        t = { s with sense := { s.sense with offsetRun := false, piOffset := t.sense.piOffset } } ∧
        ∀ l : LegId, t.sense.piOffset[l] = if s.allOff (brOfLeg l) then pi[l] else s.sense.piOffset[l])) ∧
    (∀ (l : LegId) (mean lo hi : Nat), s.pulseOn = true → (s.checked (lvInput l) (s.sifted (lvInput l) ((mean : Rat) / 10))).2 = 0 →
      s.sense.inputs[lvInput l].valid = true →
      Completes (.legVoltagePeriod l mean lo hi) s fun t =>
        t.silent = { s.silent with br := t.br, sense := { s.sense with inputs := t.sense.inputs } } ∧
        (t.leg l).mean = (if (s.leg l).meanCmd.isSome then some ((t.sense.inputs[lvInput l].lastGood : Rat) / 1000) else none) ∧
        t.br[brOfLeg l].bemf.clampFlag = (t.allOff (brOfLeg l) && t.br[brOfLeg l].legs.any fun x => x.clampSide != 0) ∧
        ∀ c : BridgeId, c ≠ brOfLeg l → t.br[c] = s.br[c]) ∧
    (∀ (b : BridgeId) (k : Fin 3) (rising : Bool) (legs : Vector Nat 3), s.allOff b = true → s.br[b].bemf.clampFlag = false →
      s.passes b k rising (phaseAmp legs k) = true → (s.br[b].start.phase ≠ 1 ∨ s.br[b].bemf.seen < 8) →
      Completes (.zeroCrossing b k rising legs t0) s fun t => t.br[b].bemf.last = s.br[b].bemf.last.set k (some rising) ∧
        (s.actN 0x4030 1 ≤ phaseAmp legs k → t.br[b].bemf.seen = s.br[b].bemf.seen + 1 ∧ t.br[b].bemf.amp = phaseAmp legs k ∧
          t.br[b].bemf.reached = true ∧ t.br[b].bemf.standstill = false ∧
          t.br[b].bemf.crossings = ((t0, k.val, rising) :: s.br[b].bemf.crossings).take 6) ∧
        (phaseAmp legs k < s.actN 0x4030 1 → t.br[b].bemf = { s.br[b].bemf with last := s.br[b].bemf.last.set k (some rising) }) ∧
        t.mem = s.mem ∧ (∀ c : BridgeId, c ≠ b → t.br[c] = s.br[c]) ∧ t.gr = s.gr ∧ t.par = s.par) ∧
    (∀ b : BridgeId, s.allOff b = true → Completes (.zeroCrossingTimeout b) s fun t => t = { s with now := t.now, br := t.br } ∧
      t.br = s.br.set b { s.br[b] with bemf := { s.br[b].bemf with standstill := true, crossings := [], freq := 0, amp := 0 } })

/-- SAMPLE_INSTANT at the carrier's sample instant with the pulse clock on: the half that ends there is noted and the step opens exactly where
R22 and R198 want one; a step without a reference is abandoned and counted; at another tick nothing happens. CONTROL_STEP with the core
pairs running, of an open step with fresh inputs, asks for its lookup at its time, with the currents of its frame: of the resume set where
the bridge waits for one, and in RUN under three sensors where nothing trips. ATLAS_LOOKUP_RESULT with a result, with the engines running
and no other lookup before it (R390), on a bridge that is not the first of its group and shorts, stores the atlas values and commits the
set under the next tag. ATLAS_RESULT_TIMEOUT uses the old values once, and the second time in a row gives no reference; a lookup that was
not queued counts as beyond the bound. SHORT_BRAKE_EXIT ends short braking. No other bridge changes. Rests on R22, R25, R28, R45, R53,
R121, R177, R198, R248, R390. -/
def Obligations.ControlStepRows : Prop :=
  ∀ (s : State) (b : BridgeId) (g : GroupId) (t0 : Nat), s.groupOf b = some g →
    ((s.sampleHalf b t0 = none ∨ s.pulseOn = false) → exec (.sampleInstant b t0) s = .next s) ∧
    (∀ h : Nat × Bool, s.sampleHalf b t0 = some h → s.pulseOn = true →
      ((s.br[b].ctl.opened = false ∨ s.br[b].ctl.gotRef = true) → ∃ t, exec (.sampleInstant b t0) s = .next t ∧
        t.br[b].ctl.opened = t.stepOpens b ∧ t.br[b].ctl.gotRef = false ∧ t.br[b].ctl.lookup = false ∧ t.br[b].ctl.lost = false ∧
        t.br[b].meas.sampleAt = t0 ∧ t.br[b].meas.halfAt = h.1 ∧ t.br[b].meas.halfUp = h.2 ∧ t.gr[g].pos.stampAt = t0 ∧
        (∀ c : BridgeId, c ≠ b → t.br[c] = s.br[c]) ∧ (∀ k : GroupId, k ≠ g → t.gr[k] = s.gr[k]) ∧ t.par = s.par ∧ t.mem = s.mem) ∧
      (s.br[b].ctl.opened = true → s.br[b].ctl.gotRef = false → s.br[b].ctl.lost = false → s.br[b].ctl.abandoned + 1 < s.actN 0x7021 1 →
        ∃ t, exec (.sampleInstant b t0) s = .next t ∧ t.br[b].ctl.abandoned = s.br[b].ctl.abandoned + 1 ∧ t.br[b].ctl.opened = t.stepOpens b ∧
          t.br[b].ctl.gotRef = false ∧ t.br[b].meas.sampleAt = t0 ∧ (∀ c : BridgeId, c ≠ b → t.br[c] = s.br[c]) ∧ t.par = s.par ∧ t.mem = s.mem)) ∧
    (s.watchBridge g ≠ some b → s.br[b].ctl.opened = true → s.br[b].ctl.lookup = false → s.br[b].ctl.gotRef = false →
      s.br[b].ctl.lost = false → s.br[b].meas.piFresh = .replicate 3 true → s.br[b].meas.sampleAt ≤ s.drive.udcAt →
      s.br[b].meas.sampleAt ≤ s.drive.shuntAt → s.gr[g].reacq.phase ≠ 2 → s.coresOn = true →
      (s.resuming b = true → ∃ t, exec (.controlStep b t0) s = .next t ∧ t.silent = { s.silent with now := max s.now t0, br := t.br, arb := t.arb } ∧
        t.br[b].ctl.lookup = true ∧ t.br[b].ctl.askAt = t0 ∧ t.br[b].ctl.stepUdc = s.drive.udc ∧ t.br[b].ctl.theta = s.frameAngle b g ∧
        (t.br[b].ctl.id, t.br[b].ctl.iq) = park (clarke (s.stepAmps b)) (s.frameAngle b g) ∧
        (∀ c : BridgeId, c ≠ b → t.br[c] = s.br[c]) ∧ t.arb = { s.arb with prefetch := s.arb.prefetch.filter fun x => decide (x.1 ≠ b.val) }) ∧
      (s.resuming b = false → s.br[b].state = .run → s.br[b].force.pattern = 0 → (s.running g).head? ≠ some b → s.gone g = [] →
        s.br[b].start.phase ≠ 3 → s.br[b].start.phase ≠ 4 → s.br[b].meas.mode = 0 → s.allowedMode b = 0 → s.sumFails b = false →
        s.br[b].meas.inValid + 1 < s.actN 0x4021 5 → s.br[b].meas.inTwo + 1 < s.actN 0x4021 5 → s.br[b].meas.implausible = false →
        (∀ k : Fin 3, (s.br[b].legs[k]).held = false) → (∀ k : Fin 6, (s.br[b].pos[k]).latched = false) →
        ∃ t, exec (.controlStep b t0) s = .next t ∧ t.br[b].ctl.opened = true ∧ t.br[b].ctl.lookup = true ∧ t.br[b].ctl.askAt = t0 ∧
          t.br[b].ctl.stepUdc = s.drive.udc ∧ t.br[b].ctl.theta = s.frameAngle b g ∧
          (t.br[b].ctl.id, t.br[b].ctl.iq) = park (clarke (s.stepAmps b)) (s.frameAngle b g) ∧ t.br[b].state = .run ∧
          (∀ c : BridgeId, c ≠ b → t.br[c] = s.br[c]) ∧ t.gr = s.gr ∧ t.par = s.par ∧ t.mem = s.mem ∧ t.drive = s.drive)) ∧
    (∀ l : Look, s.br[b].ctl.opened = true → s.br[b].ctl.lookup = true → s.br[b].ctl.lost = false → (s.running g).head? ≠ some b →
      s.br[b].ctl.shortNow = true → (∀ x, s.gr[g].slewNew = some x → x.1 ≠ b) →
      (s.lookup g s.br[b].ctl.id s.br[b].ctl.iq s.br[b].ctl.theta s.br[b].ctl.askTemp = some l →
        s.engineOn = true → s.served b = true → Completes (.atlasLookupResult b t0) s fun t => t.br[b].ctl.gotRef = true ∧ t.br[b].ctl.lookup = false ∧ t.br[b].ctl.staleLast = false ∧
          t.br[b].ctl.atlas = #v[l.psiD, l.psiQ, l.torque, l.loss] ∧ t.br[b].ctl.torque = l.torque ∧ t.br[b].ctl.conf = l.conf ∧
          t.br[b].car.shadow = some (s.shortSet b) ∧ t.br[b].car.tag = (s.br[b].car.tag + 1) % 65536 ∧
          (∀ c : BridgeId, c ≠ b → t.br[c] = s.br[c]) ∧ t.gr = s.gr ∧ t.par = s.par ∧ t.mem = s.mem) ∧
      (s.br[b].ctl.staleLast = false → Completes (.atlasResultTimeout b t0) s fun t => t.br[b].ctl.gotRef = true ∧ t.br[b].ctl.lookup = false ∧
          t.br[b].ctl.staleLast = true ∧ t.br[b].ctl.atlas = s.br[b].ctl.atlas ∧ t.br[b].car.shadow = some (s.shortSet b) ∧
          t.br[b].car.tag = (s.br[b].car.tag + 1) % 65536 ∧ t.counter (0xE061 + g.val) 1 = min (s.counter (0xE061 + g.val) 1 + 1) 0xFFFFFFFF ∧
          (∀ c : BridgeId, c ≠ b → t.br[c] = s.br[c]) ∧ t.gr = s.gr ∧ t.par = s.par ∧ t.mem = s.mem)) ∧
    (s.br[b].ctl.opened = true → s.br[b].ctl.lookup = true → s.br[b].ctl.lost = false → s.br[b].ctl.staleLast = true →
      Completes (.atlasResultTimeout b t0) s fun t => t.silent = { s.silent with now := max s.now t0, br := t.br } ∧
        t.br = s.br.set b { s.br[b] with ctl := { s.br[b].ctl with lookup := false } } ∧
        t.counter 0xE0A0 8 = (if s.br[b].ctl.queued = true then s.counter 0xE0A0 8 else min (s.counter 0xE0A0 8 + 1) 0xFFFFFFFF)) ∧
    (∀ t1, s.gr[g].shortOff = some t1 → s.br[b].ctl.shortSide ≠ 0 → Completes (.shortBrakeExit b) s fun t =>
      t.silent = { s.silent with now := max s.now (t1 + 50 * ticksPerMs), br := t.br } ∧
      t.br = s.br.set b { s.br[b] with ctl := { s.br[b].ctl with shortSide := 0, shortFrac := 0, shortNow := false } })

/-- Stages 2 to 5 (torque, power, voltage and speed limits with their direction rules) leave a torque no larger in magnitude than what stage 1
gives with the drag of departed bridges taken off, for limits that are not negative; and a torque reduced to nothing by a direction permit
is exactly zero. Rests on R208, R246, R247. -/
def Obligations.TorqueStagesOnlyReduce : Prop :=
  ∀ (s : State) (g : GroupId) (t1 : Rat) (regen : Bool), (∀ k : Nat, 0 ≤ s.act 0x7001 k ∧ 0 ≤ s.act 0x7002 k) →
    |(s.stages g t1 regen).t| ≤ |t1 + s.dragTorque g| ∧ ((s.stages g t1 regen).dirCut = true → (s.stages g t1 regen).t = 0)

/-- CARRIER_VALLEY with the pulse clock on advances the period number and the dither phase and ends every cut. CARRIER_RELOAD that is not one
of the bridge's, or without the clock, changes nothing; one that is transfers the set that waits, unless it came inside the guard window,
and takes a scheduled offset that is due. COMPARE_MATCH at the edge that the formed set gives a leg of a bridge that switches sets the
leg's reference, turns the other position off and the leg's own on after the dead time; elsewhere only the time moves.
OFFSET_SCHEDULE_TIME at its time makes the scheduled offset due at the next reload. No other bridge changes, save that it keeps the values
its own reload has still to take (R15). Rests on R15, R33, R44, R46, R47, R51, R53, R54, R57, R75. -/
def Obligations.CarrierRows : Prop :=
  ∀ (s : State) (b : BridgeId) (t0 : Nat),
    (s.pulseOn = false → exec (.carrierValley b t0) s = .next s) ∧
    (s.pulseOn = true → s.test.inject = [] → (∀ k : Fin 3, s.actN (0x4100 + (lvInput (legOf b k)).val) 9 = 0) →
      Completes (.carrierValley b t0) s fun t => t.br[b].car.period = (s.br[b].car.period + 1) % 2 ^ 48 ∧
        t.br[b].car.dither = s.br[b].car.dither + 1 ∧ t.br[b].car.valley = t0 ∧ (∀ k : Fin 3, (t.br[b].legs[k]).cut = none) ∧
        (∀ c : BridgeId, c ≠ b → t.br[c] = s.br[c]) ∧ t.gr = s.gr ∧ t.mem = s.mem) ∧
    (∀ atPeak : Bool, (s.isReload b atPeak = false ∨ s.pulseOn = false) → exec (.carrierReload b atPeak t0) s = .next s) ∧
    (∀ (atPeak : Bool) (c : CompareSet), s.pulseOn = true → s.isReload b atPeak = true → s.br[b].force.sources = [] → s.br[b].car.shadow = some c →
      s.br[b].car.skip = false → s.test.inject = [] →
      Completes (.carrierReload b atPeak t0) s fun t => t.br[b].car.active = some c ∧ t.br[b].car.shadow = none ∧
        t.br[b].car.updateTag = s.br[b].car.shadowTag ∧ t.br[b].car.reloadAt = t0 ∧ t.br[b].held = [] ∧
        (∀ d : BridgeId, d ≠ b → t.br[d] = { s.br[d] with held := t.br[d].held }) ∧ t.gr = s.gr ∧ t.mem = s.mem ∧
        ∀ o a : Nat, s.br[b].car.schedule = some (o, a) → s.br[b].car.due = true → t.br[b].car.offset = o % 65536 ∧ t.br[b].car.schedule = none) ∧
    (∀ (l : LegId) (rising : Bool), brOfLeg l = b →
      (s.switching b = true → (s.leg l).cut = none → s.test.inject = [] → (s.leg l).ref = !rising → s.edgeAt l rising = some t0 →
        Completes (.compareMatch l rising t0) s fun t => t.silent = { s.silent with now := max s.now t0, br := t.br } ∧ (t.leg l).ref = rising ∧
          (t.leg l).lastEdge = t0 ∧ (t.pos (posOfLeg l (!rising))).on = false ∧ (∀ c : BridgeId, c ≠ b → t.br[c] = s.br[c]) ∧
          ((s.leg l).held = false → s.canTurnOn (posOfLeg l rising) = true →
            (t.pos (posOfLeg l rising)).on = true ∧ (t.pos (posOfLeg l rising)).onAt = t0 + s.deadTime b)) ∧
      ((s.switching b = false ∨ (s.leg l).cut ≠ none ∨ (s.leg l).ref = rising ∨ s.edgeAt l rising ≠ some t0) →
        exec (.compareMatch l rising t0) s = .next { s with now := max s.now t0 })) ∧
    (∀ o at0 : Nat, s.br[b].car.schedule = some (o, at0) →
      (at0 ≤ s.time.at t0 → exec (.offsetScheduleTime b t0) s = .next { s with now := max s.now t0, br := (
        s.br.set b { s.br[b] with car := { s.br[b].car with due := true } }) }) ∧
      (s.time.at t0 < at0 → exec (.offsetScheduleTime b t0) s = .next { s with now := max s.now t0 }))

/-- CLASS_A_INPUT active, from a short-circuit escalation or a Clove request on a bridge without forcings: the source is latched with level 3,
its cause is present, the bridge is in the safe state of its pattern and not in RUN. Inactive, it ends the cause on that bridge only and
the forcing stays. ASC_DELAY_EXPIRY with no delay running changes nothing; at its end the delay is over and the drive-enable lines of the
shorting side are on. ASC_TO_OFF of a bridge that is not in ASC changes nothing. CLASS_B_TRIP on a leg of a bridge that switches, not cut
and past the edge blanking: the cut is in force until the next valley, the leg is driven to the other side and its count of cut periods
grows by one if this is the first cut of the period; below eight such periods nothing is forced. Otherwise only the time moves. Rests on
R68, R69, R70, R252, R71, R72. -/
def Obligations.ClassAAndClassBRows : Prop :=
  (∀ (s : State) (b : BridgeId),
     (∀ src : ClassASource, (src = .shortCircuit ∨ src = .cloveRequest) → s.br[b].force.sources = [] → s.br[b].force.pattern = 0 → s.br[b].state ≠ .lockout →
       (∀ g, s.groupOf b = some g → s.gr[g].reacq.phase = 0) →
       Completes (.classAInput src b true) s fun t => t.br[b].force.sources = [(src, 3)] ∧ src ∈ t.br[b].force.causes ∧
         t.br[b].force.pattern = (if src = .shortCircuit then 1 else s.safeChoice b) ∧ t.br[b].state = patternState t.br[b].force.pattern ∧
         t.br[b].state ≠ .run) ∧
     (∀ src : ClassASource, srcDrive src = false → exec (.classAInput src b false) s = .next { s with br := s.br.set b { s.br[b] with
       force := { s.br[b].force with causes := s.br[b].force.causes.filter fun c => decide (c ≠ src) } } }) ∧
     (s.br[b].force.ascTo = none → exec (.ascDelayExpiry b) s = .next s) ∧
     (∀ p : Fin 4, s.br[b].force.ascTo = some p → s.test.inject = [] → Completes (.ascDelayExpiry b) s fun t =>
       t.silent = { s.silent with br := t.br, pwr := t.pwr } ∧ t.br[b].force = { s.br[b].force with ascTo := none, ascAt := s.now } ∧
       (∀ k : Fin 6, slotHigh k = decide (p = 3) → (t.br[b].pos[k]).driveEnable = true) ∧ (∀ c : BridgeId, c ≠ b → (t.br[c]).uncharged = (s.br[c]).uncharged)) ∧
     (s.inAsc b = false → ∀ freq : Nat, exec (.ascToOff b freq) s = .next s)) ∧
  (∀ (s : State) (l : LegId) (upper : Bool) (t0 : Nat),
     (s.switching (brOfLeg l) = false ∨ (s.leg l).cut ≠ none ∨ t0 < (s.leg l).lastEdge + s.actBN (brOfLeg l) 0x2050 5 →
       exec (.classBTrip l upper t0) s = .next { s with now := max s.now t0 }) ∧
     (s.switching (brOfLeg l) = true → (s.leg l).cut = none → (s.leg l).lastEdge + s.actBN (brOfLeg l) 0x2050 5 ≤ t0 → s.test.inject = [] →
       (s.leg l).cutSeen = false → (s.leg l).cutRun + 1 ≠ 8 →
       Completes (.classBTrip l upper t0) s fun t => t.silent = { s.silent with now := max s.now t0, br := t.br } ∧ (t.leg l).cut = some upper ∧
         (t.leg l).cutSeen = true ∧ (t.leg l).cutRun = (s.leg l).cutRun + 1 ∧ (t.leg l).ref = !upper ∧
         (t.pos (posOfLeg l upper)).on = false ∧ (∀ c : BridgeId, c ≠ brOfLeg l → t.br[c] = s.br[c])))

/-- On a bridge not in an ASC, ISLAND_LINK_TIMEOUT turns the position off, marks its link invalid and latches it. ISLAND_LINK_RETURN makes the
link valid again and keeps the latch. PARTNER_LINK_TIMEOUT makes the partner count as unknown. There ISLAND_RAIL_UNDERVOLTAGE of an off
position marks the rail not ready. ISLAND_RAIL_READY outside the Prime and Charge phases marks it ready. BOOTSTRAP_PRIME_PULSE below the
number of pulses of a prime counts the pulse and commands on each low side that may turn on, for the next one. Each leaves every other
bridge, the groups, the objects and the memory as they were. ISLAND_RAIL_UNDERVOLTAGE of a position that conducts by command, on a bridge
not in ASC: the position is off and its rail not ready; where the bridge is in RUN with tries left, the retry wait of 0x3040.01 runs and
the position is not latched by it; otherwise the position is latched. No other position of the machine changes. Rests on R82, R83, R84,
R85, R86, R100. -/
def Obligations.IslandRows : Prop :=
  (∀ (s : State) (p : PosId) (b : BridgeId), brOfPos p = b →
     (s.inAsc b = false → Completes (.islandLinkTimeout p) s fun t => t.silent = { s.silent with br := t.br } ∧ (∀ c : BridgeId, c ≠ b → t.br[c] = s.br[c]) ∧
       (t.pos p).on = false ∧ (t.pos p).linkValid = false ∧ (t.pos p).latched = true ∧
       (∀ q : PosId, q ≠ p → t.pos q = s.pos q)) ∧
     ((s.pos p).linkValid = false → Completes (.islandLinkReturn p) s fun t => t.silent = (modPos p (fun x => { x with linkValid := true, partnerKnown := true }) s).silent) ∧
     exec (.partnerLinkTimeout p) s = .next (modPos p (fun x => { x with partnerKnown := false }) s) ∧
     (s.inAsc b = false → (s.pos p).railUv = false → (s.pos p).on = false → (s.pos p).hold = none → Completes (.islandRailUndervoltage p) s fun t =>
       t.silent = (modPos p (fun x => { x with railUv := true, railReady := false }) s).silent) ∧
     (s.br[b].start.phase ≠ 2 → s.br[b].start.phase ≠ 4 →
       exec (.islandRailReady p) s = .next (modPos p (fun x => { x with railReady := true, railUv := false }) s)) ∧
     (s.br[b].start.phase = 2 → s.br[b].start.pulses + 1 < s.actN 0x3050 2 →
       s.test.inject = [] → (∀ k : Fin 6, (s.br[b].pos[k]).hold = none) →
       Completes (.bootstrapPrimePulse b) s fun t => t = { s with now := max s.now (s.br[b].start.pulseAt + s.actN 0x3050 3 * ticksPerUs), br := t.br } ∧
         (∀ c : BridgeId, c ≠ b → t.br[c] = s.br[c]) ∧
         t.br[b].start = { s.br[b].start with pulses := s.br[b].start.pulses + 1, pulseAt := t.now } ∧
         (∀ k : Fin 6, slotHigh k = true → t.br[b].pos[k] = s.br[b].pos[k]) ∧
         (∀ k : Fin 6, slotHigh k = false → (t.br[b].pos[k]).on = s.canTurnOn (posOf b k)))) ∧
  (∀ (s : State) (p : PosId), (s.pos p).railUv = false → s.conducts p = true → s.inAsc (brOfPos p) = false →
     Completes (.islandRailUndervoltage p) s fun t => (t.pos p).on = false ∧ (t.pos p).railReady = false ∧ (t.pos p).railUv = true ∧
       (∀ q : PosId, q ≠ p → t.pos q = s.pos q) ∧ t.silent = { s.silent with br := t.br } ∧
       (s.mustLatch p = false → (t.pos p).retry = some (s.now + s.actN 0x3040 1 * ticksPerMs) ∧ (t.pos p).latched = (s.pos p).latched) ∧
       (s.mustLatch p = true → (t.pos p).latched = true))

/-- With the pulse clock on (R33), EDGE_MEASURED below the current threshold changes no delay average; at or above it, within the dv/dt limit,
the delay and the dv/dt join the newest 256 of the position's band and the dv/dt run ends. SHORT_CIRCUIT_DETECTION of a position that
conducts by command and is not blanked, with no detection pending: it is off, the detection waits with its time and kind, the soft turn-
off is in its first stage; of a position that is not armed, or a desaturation inside the blanking, only the time moves. The two stages of
the soft turn-off follow each other, and RETRY_WAIT_EXPIRY makes the retry due. No other position changes. Rests on R94, R96, R97, R100. -/
def Obligations.EdgeAndShortCircuitRows : Prop :=
  ∀ (s : State) (p : PosId),
    (∀ (turnOn : Bool) (d dv q : Nat), s.pulseOn = true → |s.br[brOfPos p].meas.pi[phaseOfLeg (legOfPos p)]| < s.actR 0x3052 1 →
      Completes (.edgeMeasured p turnOn d dv q) s fun t => (t.pos p).onDelay = (s.pos p).onDelay ∧ (t.pos p).offDelay = (s.pos p).offDelay ∧
        (t.pos p).above = turnOn ∧ (t.pos (partnerPos p)).partnerKnown = true ∧ t.silent = { s.silent with br := t.br }) ∧
    (∀ (d dv q : Nat), s.pulseOn = true → s.actR 0x3052 1 ≤ |s.br[brOfPos p].meas.pi[phaseOfLeg (legOfPos p)]| → dv ≤ s.actBN (brOfPos p) 0x3051 ((s.groupFor (brOfPos p)).val + 1) →
      Completes (.edgeMeasured p false d dv q) s fun t => t.silent = { s.silent with br := t.br } ∧
        (t.pos p).offDelay = (s.pos p).offDelay.set s.br[brOfPos p].th.applied (pushN 256 d (s.pos p).offDelay[s.br[brOfPos p].th.applied]) ∧
        (t.pos p).offDvdt = (s.pos p).offDvdt.set s.br[brOfPos p].th.applied (pushN 256 dv (s.pos p).offDvdt[s.br[brOfPos p].th.applied]) ∧
        (t.pos p).onDelay = (s.pos p).onDelay ∧ (t.pos p).dvdtRun = 0) ∧
    (∀ (desat : Bool) (t0 : Nat),
      ((setNow t0 s).conducts p = true → (desat = true → (setNow t0 s).blanked p = false) → (s.pos p).detected = none → (s.pos p).soft = 0 → Completes (.shortCircuitDetection p desat t0) s fun t =>
        t.silent = { s.silent with now := max s.now t0, br := t.br, pwr := t.pwr } ∧ (t.pos p).on = false ∧ (t.pos p).detected = some t0 ∧
        (t.pos p).byDesat = desat ∧ (t.pos p).soft = 1 ∧ (t.pos p).reported = false ∧
        (∀ q : PosId, q ≠ p → { t.pos q with charge := [] } = { s.pos q with charge := [] })) ∧
      (((setNow t0 s).armed p = false ∨ desat = true ∧ (setNow t0 s).blanked p = true) →
        exec (.shortCircuitDetection p desat t0) s = .next (setNow t0 s))) ∧
    ((s.pos p).soft = 1 → exec (.softTurnOffStage2 p) s = .next (modPos p (fun x => { x with soft := 2 }) s)) ∧
    ((s.pos p).soft ≠ 0 → Completes (.softTurnOffEnd p) s fun t => t = { s with br := t.br, pwr := t.pwr } ∧
      t.br.map Bridge.uncharged = (modPos p (fun x => { x with soft := 0, above := false }) s).br.map Bridge.uncharged) ∧
    (∀ t1, (s.pos p).retry = some t1 → exec (.retryWaitExpiry p) s = .next (modPos p (fun x => { x with retryDue := true }) { s with now := max s.now t1 }))

/-- SHORT_DETECTION_REPORT of a pending detection on a bridge in RUN without a forcing, with no other detection near it and no retry pending
on its partner: it is reported once; with tries left the position waits 0x3040.01 for its retry, otherwise it latches; no other position
and no other bridge changes, and a detection already reported changes nothing. CROSS_CHECK_RELEASE of a held turn-on ends the hold: the
position keeps its command, and its partner is below threshold and known. CROSS_CHECK_CANCEL of a held turn-on outside an ASC turns the
position off, and the first cancel of the period adds one to the leg's run; the third consecutive period makes the leg fault 0x300A with
both positions off. A position that holds nothing is not changed by a cancel. Rests on R99, R100, R103, R107, R108, R109. -/
def Obligations.DetectionAndCrossCheckRows : Prop :=
  (∀ (s : State) (p : PosId) (t1 : Nat), (s.pos p).detected = some t1 →
     ((s.pos p).reported = true → exec (.shortDetectionReport p) s = .next s) ∧
     ((s.pos p).reported = false → s.br[brOfPos p].state = .run → s.br[brOfPos p].force.sources = [] → s.inAsc (brOfPos p) = false →
       s.br[brOfPos p].start.phase ≠ 2 → s.nearby p t1 = [] → (s.pos (partnerPos p)).retry = none →
       Completes (.shortDetectionReport p) s fun t => (t.pos p).reported = true ∧ (t.pos p).on = false ∧ (∀ q : PosId, q ≠ p → t.pos q = s.pos q) ∧
         t.silent = { s.silent with br := t.br } ∧
         (s.mustLatch p = false → (t.pos p).retry = some (s.now + s.actN 0x3040 1 * ticksPerMs)) ∧ (s.mustLatch p = true → (t.pos p).latched = true))) ∧
  (∀ (s : State) (p : PosId),
     ((s.pos p).hold = none → exec (.crossCheckCancel p) s = .next s) ∧
     (∀ h t0 : Nat, (s.pos p).hold = some h → Completes (.crossCheckRelease p t0) s fun t =>
       t.silent = { s.silent with now := max s.now t0, br := t.br } ∧ (t.pos p).hold = none ∧ (t.pos p).on = (s.pos p).on ∧
       (t.pos p).partnerKnown = true ∧ (t.pos (partnerPos p)).above = false ∧ (∀ q : PosId, q ≠ p → q ≠ partnerPos p → t.pos q = s.pos q)) ∧
     (∀ h : Nat, (s.pos p).hold = some h → s.inAsc (brOfPos p) = false → (s.leg (legOfPos p)).cancelSeen = false → (s.leg (legOfPos p)).fault = 0 →
       Completes (.crossCheckCancel p) s fun t => (t.pos p).on = false ∧ (t.pos p).hold = none ∧ (t.leg (legOfPos p)).cancelSeen = true ∧
         (t.leg (legOfPos p)).cancelRun = (s.leg (legOfPos p)).cancelRun + 1 ∧
         (t.leg (legOfPos p)).fault = (if 3 ≤ (s.leg (legOfPos p)).cancelRun + 1 then 0x300A else 0) ∧
         (3 ≤ (s.leg (legOfPos p)).cancelRun + 1 → (t.pos (partnerPos p)).on = false) ∧
         t.silent = { s.silent with now := max s.now (h + ticksOfNs (s.actN 0x3003 1)), br := t.br } ∧
         (∀ c : BridgeId, c ≠ brOfPos p → t.br[c] = s.br[c])))

/-- INTERFACE_CAUSE_CONFIRMED of a valid assigned interface that is no group's source in use, and INTERFACE_VALID_AGAIN of an invalid one,
change exactly the validity, the cause and the check counts of that interface. An invalid interface has its first cause kept, and an
unassigned one is not supervised. With the pulse clock on (R33). CAPTURE_EDGE on an enabled edge with a group and no capture outstanding:
the low 32 bits of the position extrapolated to the edge are kept, its event is outstanding, and no group changes; with one outstanding
the kept value stays. SPEED_STANDSTILL_TIMEOUT makes the speed of an encoder or Hall interface zero, leaves a Hall angle where its
interpolation stands, and changes no other interface. Rests on R147, R149, R161, R162. -/
def Obligations.InterfaceAndCaptureRows : Prop :=
  (∀ (s : State) (i : IfId) (cause : BitVec 4),
     (s.sense.iface[i].valid = true → s.assigned i = true → (∀ g, s.ifaceGroup i = some g → s.gr[g].pos.src ≠ ifaceCode i) →
       Completes (.interfaceCauseConfirmed i cause) s fun t => t.silent = (modIface i (fun x => { x with
         valid := false, cause := cause.toNat, good := 0, bad := 0, zBad := 0, track := 0 }) s).silent) ∧
     ((s.sense.iface[i].valid = false ∨ s.assigned i = false) → exec (.interfaceCauseConfirmed i cause) s = .next s) ∧
     (s.sense.iface[i].valid = false → Completes (.interfaceValidAgain i) s fun t => t.silent = (modIface i (fun x => { x with
         valid := true, good := 0, bad := 0 }) s).silent)) ∧
  (∀ (s : State),
     (∀ (c : Fin 2) (g : GroupId) (t0 : Nat), s.pulseOn = true → groupOperand (s.actN 0x5050 (c.val + 3)) = some g → s.actN 0x5050 (c.val + 1) = 3 →
       ∀ rising : Bool,
       (s.captureHeld c = false → Completes (.captureEdge c rising t0) s fun t =>
         t.silent = { s.silent with now := max s.now t0, sense := t.sense } ∧ t.sense = { s.sense with capture := t.sense.capture } ∧
         t.sense.capture[c].last = toSigned 32 (ofSigned 32 (s.gr[g].pos.stampE + countsOver s.gr[g].pos.speed 1 s.gr[g].pos.stampAt t0)) ∧
         t.sense.capture[c].outstanding.isSome = true) ∧
       (s.captureHeld c = true → Completes (.captureEdge c rising t0) s fun t => t.silent = { s.silent with now := max s.now t0 })) ∧
     (∀ i : IfId, s.pulseOn = true → 2 ≤ i.val → i.val < 6 → s.sense.iface[i].waiting = none → Completes (.speedStandstillTimeout i) s fun t => t.sense.iface[i].speed = 0 ∧
       t.sense = { s.sense with iface := t.sense.iface } ∧ (∀ j : IfId, j ≠ i → t.sense.iface[j] = s.sense.iface[j]) ∧
       t.silent = { s.silent with now := t.now, sense := t.sense, gr := t.gr } ∧
       (i.val < 4 → t.gr = s.gr ∧ t.sense.iface[i] = { s.sense.iface[i] with speed := 0 }) ∧
       (4 ≤ i.val → t.sense.iface[i].theta = s.sensorAngle i t.now)))

/-- With the pulse clock on (R33), on a valid assigned interface that is no group's source in use. RESOLVER_EXCITATION_PEAK with its amplitude
and tracking error within their limits takes the tracked angle and is one good check more; far below the limit it is one bad check; with
overcurrent it invalidates the interface with cause 3. ENCODER_EDGE one quarter either way, past the minimum edge distance and the glitch
filter and without a Z check, moves the counts by one and gives their angle; the first Z references the encoder at count 0 and leaves E of
its group (log 180). HALL_CODE_CHANGE without a filter to the successor or predecessor takes the code at its time with its direction and
the entered edge of its sector; with one, a code other than the one taken only enters the filter. SSP_FRAME_REQUEST with the previous
frame over occupies the interface for its frame and monoflop time, a line low at idle being one frame error; one inside that time only
moves the time. SSP_FRAME_COMPLETE of an accepted frame takes its single-turn angle. The rest of the machine stays as it was. Rests on
R149, R151, R152, R153, R154, R155. -/
def Obligations.PositionSensorRows : Prop :=
  ∀ (s : State) (i : IfId) (t0 : Nat), s.pulseOn = true → s.assigned i = true → s.sense.iface[i].valid = true →
    (∀ g, s.ifaceGroup i = some g → s.gr[g].pos.src ≠ ifaceCode i) →
    (∀ r : Fin 2, i.val = r.val →
      (∀ sin cos : Int, Completes (.resolverExcitationPeak r sin cos true) s fun t =>
        t.silent = { s.silent with sense := t.sense } ∧ t.sense.iface[i].valid = false ∧ t.sense.iface[i].cause = 3) ∧
      (0 < s.act (ifaceObj i) 5 → s.sense.iface[i].bad + 1 < s.actN (ifaceObj i) 7 → s.sense.iface[i].track = 0 →
        Completes (.resolverExcitationPeak r 0 0 false) s fun t => t.silent = { s.silent with sense := t.sense } ∧
          t.sense.iface[i].bad = s.sense.iface[i].bad + 1 ∧ t.sense.iface[i].good = 0 ∧ t.sense.iface[i].valid = true ∧
          t.confirming i = true) ∧
      (∀ (sin cos pred err : Int) (f : Nat), f = max 1 (s.actN (ifaceObj i) 1) →
        pred = (s.sense.iface[i].theta : Int) + (s.sense.iface[i].speed * (s.sensorPoles i : Rat) / 60 * (s.direction i : Rat) * 65536 / (f : Rat)).floor →
        err = toSigned 16 (ofSigned 16 (Config.atan2Turn (sin : Rat) (cos : Rat) - pred)) → err.natAbs ≤ s.actN (ifaceObj i) 8 →
        (10 * s.act (ifaceObj i) 5) * (10 * s.act (ifaceObj i) 5) ≤ sin * sin + cos * cos →
        sin * sin + cos * cos ≤ (10 * s.act (ifaceObj i) 6) * (10 * s.act (ifaceObj i) 6) →
        Completes (.resolverExcitationPeak r sin cos false) s fun t => t.silent = { s.silent with sense := t.sense } ∧
          t.sense.iface[i].theta = ofSigned 16 (pred + (Config.trackLoop (s.actN (ifaceObj i) 4) f err).1) ∧
          t.sense.iface[i].good = s.sense.iface[i].good + 1 ∧ t.sense.iface[i].bad = 0 ∧ t.sense.iface[i].track = 0 ∧ t.sense.iface[i].valid = true)) ∧
    (∀ (e : Fin 2) (a b : Bool) (d : Int), i.val = e.val + 2 → d = (quadrature a b - quadrature s.sense.iface[i].lastA s.sense.iface[i].lastB) % 4 →
      s.sense.iface[i].lastEdge + ticksOfNs (s.actN (ifaceObj i) 4) ≤ t0 →
      (s.sense.iface[i].lastEdge + 20 ≤ t0 → (d = 1 ∨ d = 3) → s.act (ifaceObj i) 2 ≠ 1 →
        Completes (.encoderEdge e a b false t0) s fun t => t.silent = { s.silent with now := max s.now t0, sense := t.sense } ∧
          t.sense.iface[i].counts = s.sense.iface[i].counts + (if d = 1 then 1 else -1) ∧ t.sense.iface[i].lastEdge = t0 ∧
          t.sense.iface[i].lastA = a ∧ t.sense.iface[i].lastB = b ∧
          t.sense.iface[i].theta = ofSigned 16 (encoderTheta t.sense.iface[i].counts (s.act (ifaceObj i) 1))) ∧
      (d = 0 → s.act (ifaceObj i) 2 = 1 → s.sense.iface[i].zSeen = false →
        Completes (.encoderEdge e a b true t0) s fun t => t.silent = { s.silent with now := max s.now t0, sense := t.sense, gr := t.gr } ∧
          (∀ g : GroupId, t.gr[g] = { s.gr[g] with pos := { s.gr[g].pos with offsets := t.gr[g].pos.offsets } }) ∧
          t.sense.iface[i].zSeen = true ∧ t.sense.iface[i].referenced = true ∧ t.sense.iface[i].counts = 0 ∧ t.sense.iface[i].theta = 0)) ∧
    (∀ (h : Fin 2) (code : BitVec 3), i.val = h.val + 4 → (∀ g : GroupId, s.actN 0x8100 (g.val + 1) ≠ ifaceCode i) → code ≠ 0 → code ≠ 7 →
      s.sense.iface[i].badSince = 0 → hallPlace s.sense.iface[i].code ≠ 6 → s.sense.iface[i].waiting = none →
      (s.hallFilter i ≠ 0 → code.toNat ≠ s.sense.iface[i].code → exec (.hallCodeChange h code t0) s = .next { s with now := max s.now t0, sense := { s.sense with
        iface := s.sense.iface.set i { s.sense.iface[i] with waiting := some (code.toNat, t0) } } }) ∧
      ∀ back : Bool, s.hallFilter i = 0 → (hallPlace code.toNat + 6 - hallPlace s.sense.iface[i].code) % 6 = (if back then 5 else 1) →
      Completes (.hallCodeChange h code t0) s fun t => t.silent = { s.silent with now := max s.now t0, sense := t.sense } ∧
        t.sense.iface[i].code = code.toNat ∧ t.sense.iface[i].hallDir = (if back then -1 else 1) ∧ t.sense.iface[i].lastEdge = t0 ∧
        t.sense.iface[i].prevEdge = s.sense.iface[i].lastEdge ∧
        t.sense.iface[i].theta = ofSigned 16 (hallEntry (hallPlace code.toNat) + (if back then hallSector else 0 : Nat))) ∧
    (∀ p : Fin 2, i.val = p.val + 6 →
      (t0 < s.sense.iface[i].busyUntil → Completes (.sspFrameRequest p false t0) s fun t => t.silent = { s.silent with now := max s.now t0 }) ∧
      (s.sense.iface[i].busyUntil ≤ t0 → Completes (.sspFrameRequest p false t0) s fun t =>
        t.silent = { s.silent with now := max s.now t0, sense := t.sense } ∧
        t.sense.iface[i].busyUntil = t0 + (s.actN (ifaceObj i) 2 + 1) * (400000 / max 1 (s.actN (ifaceObj i) 1)) + s.actN (ifaceObj i) 7 * ticksPerUs ∧
        t.sense.iface[i].bad = s.sense.iface[i].bad) ∧
      (s.sense.iface[i].busyUntil ≤ t0 → s.sense.iface[i].bad < 2 → Completes (.sspFrameRequest p true t0) s fun t =>
        t.silent = { s.silent with now := max s.now t0, sense := t.sense } ∧ t.sense.iface[i].bad = s.sense.iface[i].bad + 1 ∧
        t.sense.iface[i].good = 0 ∧ t.sense.iface[i].valid = true) ∧
      (∀ frame : Nat, (∀ g, s.ifaceGroup i = some g → s.gr[g].pos.unjudged = none) → s.sense.iface[i].idleLow = false → s.act (ifaceObj i) 6 = 0xFF → s.act (ifaceObj i) 8 = 0 → s.sense.iface[i].frameAt = 0 → s.actN (ifaceObj i) 4 = 0 →
        Completes (.sspFrameComplete p frame frame t0) s fun t => t.silent = { s.silent with now := max s.now t0, sense := t.sense } ∧
          t.sense.iface[i].theta = ofSigned 16 (((s.sspFields i frame).2 * 65536 / 2 ^ s.actN (ifaceObj i) 3 : Nat) : Int) ∧
          t.sense.iface[i].frameAt = max 1 s.sense.iface[i].latchAt ∧ t.sense.iface[i].valid = true))

/-- With the engines and the core pairs running (R33). CELL_REPAIR of a bad word of a group with a record whose page can be read: the DRAM
word becomes the word of the record's slot as it loads (R202), every DRAM byte outside the word and the NAND stay, and the word is good.
CELL_REPAIR of a good word changes nothing. LEARNING_UPDATE with no steady run, where the group may not learn, without granted memory
time, or with a report of another run changes nothing (the model's choice, log 128). MTPA_REBUILD_DONE of tables that are due takes the
first 256 points of each temperature plane. CHECKPOINT_COMPLETE of a good copy outside an identification, with room in the journal half
and no sleep waiting: the record names the slot that was copied to with the next sequence number, the copy has ended, and the DRAM stays.
Of a bad one: estimates accepted before or during the copy still wait, the record stays and the memory stays. IDENTIFICATION_STEP_END with
none in progress changes nothing; I3 with its angle sets the angle and I4 begins; a failure in I1 to I3 aborts and empties the atlas; one
in I4 to I8 notes the step and goes on. LEARNING_UPDATE of an accepted estimate: while a checkpoint copies, or behind updates that it has
held, it is held, otherwise the cell becomes the merged cell and every DRAM byte outside its word stays. Rests on R178, R182, R209, R183,
R187, R188, R192, R193. -/
def Obligations.AtlasCellAndCheckpointRows : Prop :=
  (∀ (s : State) (g : GroupId),
     (∀ (cell : Nat) (r : AtlasRec), s.engineOn = true → s.mem.bad.contains (cellAddr g cell) = true → s.gr[g].atlas.record = some r →
       s.mem.unreadable (atlasSlotAddr g (r.slot % 2) + 8 * (cell % 0x02000000)) 8 = false → s.mem.wf = true →
       Completes (.cellRepair g cell) s fun t =>
         t.silent = { s.silent with mem := { s.mem with dram := t.mem.dram, bad := t.mem.bad }, arb := t.arb } ∧
         (s.mem.cut[crcIndex g r.slot] = false → ∀ k : Nat, k < 8 → readByte (8 * cellAddr g cell + k) t.mem.dram =
           readByte (atlasSlotAddr g (r.slot % 2) + 8 * (cell % 0x02000000) + k) s.mem.nand) ∧ t.cell g cell = s.slotWord g r.slot cell ∧
         (∀ a : Nat, (a < 8 * cellAddr g cell ∨ 8 * cellAddr g cell + 8 ≤ a) → readByte a t.mem.dram = readByte a s.mem.dram) ∧
         t.mem.bad.contains (cellAddr g cell) = false) ∧
     (∀ cell : Nat, s.mem.bad.contains (cellAddr g cell) = false → exec (.cellRepair g cell) s = .next s) ∧
     (∀ (cell steps residual loss : Nat) (pd pq tq : Int), (s.mayLearn g = false ∨ s.learnGranted = false ∨
         (s.gr[g].atlas.run.any fun r => s.reports g r cell steps residual pd pq tq loss) = false) →
       exec (.learningUpdate g cell steps residual pd pq tq loss) s = .next s) ∧
     (s.coresOn = true → ∀ tables : Vector (List (Int × Int × Int)) 4, s.gr[g].atlas.mtpaDue = true → exec (.mtpaRebuildDone g tables) s = .next { s with
       gr := s.gr.set g { s.gr[g] with atlas := { s.gr[g].atlas with mtpa := tables.map (fun l => l.take 256), mtpaDue := false } } })) ∧
  (∀ (s : State) (g : GroupId),
     (s.engineOn = true → s.drive.sleepStep = 0 → s.gr[g].atlas.ident = none → s.gr[g].atlas.copying = true →
       (s.mem.journal.halves[s.mem.journal.half].length < halfRecords →
         Completes (.checkpointComplete g true) s fun t => t.gr[g].atlas.copying = false ∧ t.mem.dram = s.mem.dram ∧ t.br = s.br ∧
           (∃ r, t.gr[g].atlas.record = some r ∧ r.slot = s.unnamedSlot g ∧ r.seq = s.nextSeq 1 (g.val + 1)) ∧
           ∀ k : GroupId, k ≠ g → t.gr[k] = s.gr[k]) ∧
       (Completes (.checkpointComplete g false) s fun t => t.gr[g].atlas.copying = false ∧
           t.gr[g].atlas.accepted = (s.gr[g].atlas.accepted || s.gr[g].atlas.learned) ∧ t.gr[g].atlas.record = s.gr[g].atlas.record ∧ t.mem = s.mem ∧
           t.br = s.br)) ∧
     (s.gr[g].atlas.ident = none → ∀ r : IdentResult, exec (.identificationStepEnd g r) s = .next s) ∧
     (∀ (a : Nat) (held high : Bool), s.coresOn = true → s.gr[g].atlas.ident = some (3, held, high) →
       exec (.identificationStepEnd g (.angle a)) s = .next { s with gr := (s.gr.set g { s.gr[g] with
         obs := { s.gr[g].obs with angle := a % 65536, speed := 0, stamp := s.now }, atlas := { s.gr[g].atlas with ident := some (4, held, high), stepAt := s.now } }) }) ∧
     (∀ (k cause : Nat) (held high : Bool), s.coresOn = true → s.gr[g].atlas.ident = some (k, held, high) → 1 ≤ k →
       (k ≤ 3 → Completes (.identificationStepEnd g (.failed cause)) s fun t => t.gr[g].atlas.ident = none ∧
         ∀ a : Nat, 8 * cellAddr g 0 ≤ a → a < 8 * cellAddr g 0 + atlasBytes → readByte a t.mem.dram = 0) ∧
       (4 ≤ k → k ≤ 8 → Completes (.identificationStepEnd g (.failed cause)) s fun t =>
         t.silent = { s.silent with gr := (s.gr.set g { s.gr[g] with atlas := (
           { s.gr[g].atlas with ident := some (k + 1, held, high), stepAt := s.now, result := withFailedStep s.gr[g].atlas.result k }) }) })) ∧
     (∀ (r : LearnRun) (ce : Nat) (w : Word), s.engineOn = true → s.gr[g].atlas.run = some r → s.mayLearn g = true → s.learnGranted = true →
       s.actN 0x6020 7 ≤ r.steps → r.cell < 0x02000000 → s.estimateConf g r.steps r.residual = some ce → w = s.estimate g r ce →
       s.judgeEstimate ce w (s.cell g r.cell) = 0 →
       (s.gr[g].atlas.copying = true ∨ s.gr[g].atlas.buffer ≠ [] → s.gr[g].atlas.buffer.length < 4096 →
         Completes (.learningUpdate g r.cell r.steps r.tenths (s.runFields g r).1 (s.runFields g r).2.1 (s.runFields g r).2.2 (s.runLoss g r)) s fun t =>
           t.silent = { s.silent with gr := (s.gr.set g { s.gr[g] with atlas := (
             { s.gr[g].atlas with run := none, accepted := true, buffer := s.gr[g].atlas.buffer ++ [(r.cell, ce, w)] }) }) }) ∧
       (s.gr[g].atlas.copying = false → s.gr[g].atlas.buffer = [] → s.mem.wf = true → Completes (.learningUpdate g r.cell r.steps r.tenths (s.runFields g r).1 (s.runFields g r).2.1 (s.runFields g r).2.2 (s.runLoss g r)) s fun t =>
         t.silent = { s.silent with gr := t.gr, mem := { s.mem with dram := t.mem.dram, bad := t.mem.bad }, arb := t.arb } ∧
         t.cell g r.cell = mergeCell ce w (s.cell g r.cell) ∧ t.gr[g].atlas.accepted = true ∧ t.gr[g].atlas.run = none ∧
         ∀ a : Nat, (a < 8 * cellAddr g r.cell ∨ 8 * cellAddr g r.cell + 8 ≤ a) → readByte a t.mem.dram = readByte a s.mem.dram)))

/-- REACQ_SETTLE_EXPIRY in the settling phase opens the window at the end of the settling time. ACQUISITION_WINDOW_END in the window phase
with the estimates and the frequency that the window gives: where the estimates disagree the window begins again; where they agree the
angle and frequency are acquired, and the observer takes them. RESUME_HOLD_EXPIRY of a re-acquisition ends it. ACQUISITION_TIMEOUT of a
re-acquisition below the limit of failures records the failure and begins again from the safe state. Outside their phases, or with a
report that is not the window's (the model's choice, log 167), they change nothing. Rests on R197, R198, R199. -/
def Obligations.AcquisitionRows : Prop :=
  ∀ (s : State) (g : GroupId),
    (s.gr[g].reacq.phase ≠ 1 → exec (.reacqSettleExpiry g) s = .next s) ∧
    (s.gr[g].reacq.phase = 1 → Completes (.reacqSettleExpiry g) s fun t =>
      t = { s with now := max s.now (s.gr[g].reacq.since + s.actN 0x6031 1 * ticksPerMs), gr := t.gr } ∧ t.gr[g].reacq.phase = 2 ∧
      t.gr[g].reacq.since = t.now ∧ ∀ k : GroupId, k ≠ g → t.gr[k] = s.gr[k]) ∧
    (s.gr[g].reacq.phase = 2 →
      (s.estimatesAgree ((s.windowOver g).acquired g).estimates = false → Completes (.acquisitionWindowEnd g ((s.windowOver g).acquired g).estimates ((s.windowOver g).acquired g).freq) s fun t =>
        t = { s.windowOver g with gr := t.gr, freeCount := t.freeCount } ∧ t.gr[g].reacq = { s.gr[g].reacq with since := (s.windowOver g).now, alphas := [] }) ∧
      (s.estimatesAgree ((s.windowOver g).acquired g).estimates = true → Completes (.acquisitionWindowEnd g ((s.windowOver g).acquired g).estimates ((s.windowOver g).acquired g).freq) s fun t =>
        t.silent = { (s.windowOver g).silent with gr := t.gr, br := t.br, freeCount := t.freeCount } ∧ t.gr[g].reacq.phase = 3 ∧
        t.gr[g].reacq.angle = ((s.windowOver g).acquired g).estimates.headD 0 ∧ t.gr[g].reacq.freq = ((s.windowOver g).acquired g).freq ∧
        t.gr[g].obs.angle = ((s.windowOver g).acquired g).estimates.headD 0 ∧ t.gr[g].obs.stamp = ((s.windowOver g).acquired g).at0 ∧
        ∀ b : BridgeId, t.br[b].state = s.br[b].state ∧ t.br[b].force = s.br[b].force)) ∧
    (∀ (es : List Nat) (f : Int), s.gr[g].reacq.phase ≠ 2 ∨ es ≠ ((s.windowOver g).acquired g).estimates ∨ f ≠ ((s.windowOver g).acquired g).freq →
      exec (.acquisitionWindowEnd g es f) s = .next s) ∧
    (s.gr[g].reacq.phase = 4 → s.gr[g].reacq.isCatch = false → Completes (.resumeHoldExpiry g) s fun t =>
      t.silent = { s.silent with now := t.now, gr := s.gr.set g { s.gr[g] with reacq := { s.gr[g].reacq with phase := 0 } } }) ∧
    (s.gr[g].reacq.phase = 2 → s.gr[g].reacq.isCatch = false → s.gr[g].reacq.failures = [] → 2 ≤ s.actN 0x6031 6 →
      Completes (.acquisitionTimeout g) s fun t => t.silent = { s.silent with now := t.now, gr := t.gr } ∧
        t.gr[g].reacq.failures.length ≤ 1 ∧ t.gr[g].reacq.since = t.now ∧
        t.gr[g].reacq.phase = if (s.bridgesOf g).any s.inAsc then 1 else 2)

/-- WELD_TEST_EXPIRY in step 1, in STANDBY: a rise within 0x7120.08 closes CO3 and the drive is in PRECHARGE; a larger one is a weld and
LOCKOUT. PRECHARGE_COMPLETE in step 2 at the voltage of R256 closes CO1. The mirror contact of CO1 that shows it closed in step 3 puts the
drive into ARMED, ends the arming and begins the overlap. PRECHARGE_TIMEOUT in step 2 opens CO1 and CO3 and leaves STANDBY.
PRECHARGE_OVERLAP_EXPIRY opens CO3. COIL_PULL_IN_EXPIRY of a closed coil whose contact has closed puts its economiser on.
WELD_CHECK_EXPIRY of an open coil whose contact shows closed is a weld and LOCKOUT. No row changes a bridge, save a weld and the gate
charges of R95, nor a group whose position source is settled. Rests on R254, R256, R258. -/
def Obligations.ArmingRows : Prop :=
  ∀ (s : State) (udc : Nat),
    (s.drive.armStep = 1 → s.drive.state = .standby → (udc : Rat) / 10 - s.drive.armUdc ≤ s.actR 0x7120 8 → Completes (.weldTestExpiry udc) s fun t =>
      t.drive.state = .precharge ∧ t.drive.armStep = 2 ∧ t.drive.armRef = s.drive.armRef ∧ t.drive.udc = (udc : Rat) / 10 ∧
      t.cont.coil = s.cont.coil.set 2 true ∧ t.cont.mirrorOpen = s.cont.mirrorOpen ∧ t.br.map Bridge.uncharged = s.br.map Bridge.uncharged ∧ (∀ k : GroupId, s.sourceSettled k = true → t.gr[k] = s.gr[k]) ∧ t.keeps s) ∧
    (s.drive.armStep = 1 → s.drive.state = .standby → s.actR 0x7120 8 < (udc : Rat) / 10 - s.drive.armUdc → s.cont.weld = false → Completes (.weldTestExpiry udc) s fun t =>
      t.cont.weld = true ∧ t.drive.state = .lockout ∧ t.cont.coil[0] = false ∧ t.cont.coil[2] = false ∧ t.drive.armStep = 0 ∧
      (∀ b : BridgeId, s.cont.chop = false → s.br[b].state ≠ .run → s.starting b = false → s.unforced = true → (t.br[b]).uncharged = (s.br[b]).uncharged) ∧ t.mem.nand = s.mem.nand) ∧
    (s.drive.armStep = 2 → s.prechargeReached ((udc : Rat) / 10) = true → Completes (.prechargeComplete udc) s fun t =>
      t = { s with cont := t.cont, drive := t.drive } ∧ t.cont.coil = s.cont.coil.set 0 true ∧ t.cont.mirrorOpen = s.cont.mirrorOpen ∧
      t.drive = { s.drive with armStep := 3, udc := (udc : Rat) / 10, udcAt := s.now, udcLog := t.drive.udcLog } ∧
      t.drive.udcLog.head? = some (s.now, (udc : Rat) / 10)) ∧
    (s.drive.armStep = 3 → s.drive.state = .precharge → s.cont.mirrorOpen[0] = true → Completes (.mirrorContactChange 0 false) s fun t =>
      t.drive.state = .armed ∧ t.drive.armStep = 0 ∧ t.drive.armRef = none ∧ t.drive.overlap = true ∧
      t.cont.mirrorOpen = s.cont.mirrorOpen.set 0 false ∧ t.cont.coil = s.cont.coil ∧ t.br = s.br ∧ (∀ k : GroupId, s.sourceSettled k = true → t.gr[k] = s.gr[k]) ∧ t.mem.dram = s.mem.dram ∧
      t.mem.nand = s.mem.nand ∧ t.par.stored = s.par.stored) ∧
    (s.drive.armStep = 2 → s.drive.state = .precharge → s.cont.afterOpen = false → Completes .prechargeTimeout s fun t =>
      t.drive.state = .standby ∧ t.drive.armStep = 0 ∧ t.drive.armRef = none ∧ t.cont.coil[0] = false ∧ t.cont.coil[2] = false ∧
      t.cont.weld = s.cont.weld ∧ t.br.map Bridge.uncharged = s.br.map Bridge.uncharged ∧ (∀ k : GroupId, s.sourceSettled k = true → t.gr[k] = s.gr[k]) ∧
      t.clove = { s.clove with bound := t.clove.bound, boundHigh := t.clove.boundHigh, windows := t.clove.windows } ∧ t.keeps s) ∧
    (s.drive.overlap = true → Completes .prechargeOverlapExpiry s fun t =>
      t = { s with now := max s.now (s.cont.openAt + s.actN 0x7120 6 * ticksPerMs), cont := t.cont, drive := t.drive } ∧
      t.drive = { s.drive with overlap := false } ∧ t.cont.coil = s.cont.coil.set 2 false ∧ t.cont.mirrorOpen = s.cont.mirrorOpen) ∧
    (∀ k : Fin 3,
      (s.cont.coil[k] = true → s.cont.mirrorOpen[k] = false → Completes (.coilPullInExpiry k) s fun t =>
        t = { s with now := max s.now (s.cont.coilAt[k] + s.actN 0x7120 1 * ticksPerMs), cont := t.cont } ∧
        t.cont = { s.cont with economiser := s.cont.economiser.set k true }) ∧
      (s.cont.coil[k] = false → s.cont.mirrorOpen[k] = false → s.cont.weld = false → Completes (.weldCheckExpiry k) s fun t =>
        t.cont.weld = true ∧ t.drive.state = .lockout ∧ t.cont.coil[0] = false ∧ t.cont.coil[2] = false ∧
        (∀ b : BridgeId, s.cont.chop = false → s.br[b].state ≠ .run → s.starting b = false → s.unforced = true → (t.br[b]).uncharged = (s.br[b]).uncharged) ∧ t.mem.nand = s.mem.nand))

/-- CONTACTOR_OPEN_CO1 with the current below 0x7120.09 opens CO1 and CO2 waits; CONTACTOR_OPEN_CO2 opens CO2 and ends the opening;
COIL_SUPPLY_LOSS opens CO1 and CO3 at once and CO2 waits, unless it waits already. DISCHARGE_FALL_TEST_EXPIRY below 80 % of the start
value lets the discharge go on. DISCHARGE_COMPLETE below 0x7130.02 ends it; in DISCHARGE with no forcing and no DRIVE.DISARM the drive is
in STANDBY. DISCHARGE_TIMEOUT of a discharge that is not one of a wake on HV alone latches the failure and leaves LOCKOUT. With no winding
pattern applied no row changes a bridge but the gate charges of R95, which end with PD7, nor a group whose position source is settled, nor
Clove but its bounds and windows. Rests on R257, R258, R259, R261. -/
def Obligations.OpeningAndDischargeRows : Prop :=
  ∀ (s : State) (v : Nat),
    (s.cont.opening = 1 → v < 10 * s.actN 0x7120 9 → s.cont.coil[1] = true → Completes (.contactorOpenCo1 v) s fun t =>
      t = { s with cont := t.cont } ∧ t.cont.coil = s.cont.coil.set 0 false ∧ t.cont.opening = 2 ∧ t.cont.openAt = s.now ∧
      t.cont.mirrorOpen = s.cont.mirrorOpen) ∧
    (s.cont.opening = 2 → s.cont.afterOpen = false → Completes .contactorOpenCo2 s fun t =>
      t = { s with now := max s.now (s.cont.openAt + 20 * ticksPerMs), cont := t.cont } ∧ t.cont.coil = s.cont.coil.set 1 false ∧
      t.cont.opening = 0 ∧ t.cont.mirrorOpen = s.cont.mirrorOpen) ∧
    (s.cont.coil[1] = true → s.cont.opening ≠ 2 → Completes .coilSupplyLoss s fun t => t = { s with cont := t.cont, drive := { s.drive with overlap := false } } ∧
      t.cont.coil = (s.cont.coil.set 2 false).set 0 false ∧ t.cont.opening = 2 ∧ t.cont.openAt = s.now ∧ t.cont.mirrorOpen = s.cont.mirrorOpen) ∧
    (s.cont.active = true → (v : Rat) / 10 < s.cont.startUdc * 4 / 5 → Completes (.dischargeFallTestExpiry v) s fun t =>
      t = { s with now := t.now, drive := { s.drive with udc := (v : Rat) / 10, udcAt := t.now, udcLog := t.drive.udcLog }, cont := { s.cont with lowSince := t.cont.lowSince } } ∧
      t.now = max s.now (s.cont.startAt + s.actN 0x7130 5 * ticksPerMs)) ∧
    (s.cont.active = true → (v : Rat) / 10 < s.actR 0x7130 2 → s.drive.state = .discharge → s.drive.disarmRefs = [] → s.cont.hvWake = false → s.cont.chop = false →
      (∀ b : BridgeId, s.br[b].force.sources = [] ∧ s.br[b].force.pattern = 0) →
      Completes (.dischargeComplete v) s fun t => t.drive.state = .standby ∧ t.cont.active = false ∧ t.cont.group = none ∧ t.cont.coil = s.cont.coil ∧
        t.drive.udc = (v : Rat) / 10 ∧ t.br.map Bridge.uncharged = s.br.map Bridge.uncharged ∧
        (∀ k : GroupId, s.sourceSettled k = true → t.gr[k] = s.gr[k]) ∧ t.clove = { s.clove with bound := t.clove.bound, boundHigh := t.clove.boundHigh, windows := t.clove.windows } ∧ t.keeps s) ∧
    (s.cont.active = true → s.cont.hvWake = false → s.cont.chop = false → Completes .dischargeTimeout s fun t => t.drive.state = .lockout ∧ t.cont.active = false ∧
      t.cont.failed = true ∧ t.cont.coil = s.cont.coil ∧ t.br.map Bridge.uncharged = s.br.map Bridge.uncharged ∧
      (∀ k : GroupId, s.sourceSettled k = true → t.gr[k] = s.gr[k]) ∧ t.clove = { s.clove with bound := t.clove.bound, boundHigh := t.clove.boundHigh, windows := t.clove.windows } ∧ t.keeps s)

/-- For a group outside an identification with listening bridges that join nothing, no source in use, and no window's cause present.
LISTEN_MINIMUM_EXPIRY with no phase voltage at the minimum amplitude: STANDSTILL; with the power of R35 each listening bridge is in the
Angle phase where its high-side rails are ready, in a prime otherwise. LISTEN_CEILING_EXPIRY with six crossings on the lowest: TURNING;
each is in RUN in the Charge phase; without the power that R35 asks for RUN each is in STANDBY again. RECTIFICATION_DETECTED where its
condition holds and each may short: each is in the Catch ASC phase in its ASC and the acquisition settles. Rests on R35, R236, R238, R239,
R240, R241. -/
def Obligations.ListenOutcomeRows : Prop :=
  ∀ (s : State) (g : GroupId), s.gr[g].atlas.ident = none → s.listening g ≠ [] → (∀ b ∈ s.listening g, s.br[b].start.joining = false) → s.usedSource g = none →
    0 ≤ s.act 0x3050 4 → (∀ w : Fin 16, s.clove.windows[w].cause = false) →
    ((∀ b ∈ s.listening g, s.br[b].bemf.reached = false) → s.runPowered = true → Completes (.listenMinimumExpiry g) s fun t =>
      t.gr[g].listen = 1 ∧ (∀ b ∈ s.listening g, t.br[b].start.phase = (if s.highRailsReady b then 3 else 2) ∧
        (s.highRailsReady b = true → t.br[b].state = .run)) ∧ (∀ b, b ∉ s.listening g → t.br[b] = s.br[b]) ∧ t.keeps s) ∧
    ((∃ b, (s.listening g).head? = some b ∧ 6 ≤ s.br[b].bemf.seen) →
      (s.runPowered = true → Completes (.listenCeilingExpiry g) s fun t =>
        t.gr[g].listen = 2 ∧ (∀ b ∈ s.listening g, t.br[b].start.phase = 4 ∧ t.br[b].state = .run) ∧
        (∀ b, b ∉ s.listening g → t.br[b] = s.br[b]) ∧ t.keeps s) ∧
      (s.runPowered = false → (∀ b ∈ s.listening g, s.br[b].force.pattern = 0 ∧ s.br[b].state = .standby) → Completes (.listenCeilingExpiry g) s fun t =>
        t.gr[g].listen = 2 ∧ (∀ b ∈ s.listening g, t.br[b].start.phase = 0 ∧ t.br[b].state = .standby) ∧
        (∀ b, b ∉ s.listening g → t.br[b] = s.br[b]) ∧ t.keeps s)) ∧
    (s.rectifies g = true → s.unforced = true → s.actN 0x7110 (g.val + 1) ≠ 1 → (∀ b ∈ s.listening g, 2 ≤ (s.ascSide b).val) → Completes (.rectificationDetected g) s fun t =>
      t.gr[g].listen = 3 ∧ (∀ b ∈ s.listening g, t.br[b].start.phase = 5 ∧ t.safeAt b .catchAsc 3 ∧ t.br[b].force.pattern = s.ascSide b) ∧
      t.gr[g].reacq.phase = 1 ∧ t.gr[g].reacq.isCatch = true ∧ (∀ b, b ∉ s.listening g → t.br[b] = s.br[b]) ∧ t.keeps s)

/-- With no identification in progress. SALIENCY_SEARCH_TIMEOUT in the Angle phase with no angle found and CHARGE_LIMIT_EXPIRY in a Charge
phase without ready rails: the bridge is in STANDBY, off, in no start. DISABLE_RAMP_END: where R251 chooses off the same; where it chooses
ASC, on a bridge without forcing, the held catch ASC. SAFE_OFF_TO_ASC with the clamp condition seen, under R252: the bridge is in SAFE-ASC
on the side of R105 with its sources. ASC_TO_OFF under its exit condition: a bridge in a latched ASC is in SAFE-OFF with its sources; a
held catch ASC ends in STANDBY. No other bridge and no memory changes. Rests on R242, R244, R250, R252, R253. -/
def Obligations.StartEndsAndSafeChanges : Prop :=
  ∀ (s : State) (b : BridgeId), (∀ g : GroupId, s.gr[g].atlas.ident = none) →
    (∀ c : Instr, c = .saliencySearchTimeout b ∧ s.br[b].start.phase = 3 ∧ s.br[b].start.found = false ∨
        c = .chargeLimitExpiry b ∧ s.br[b].start.phase = 4 ∧ s.highRailsReady b = false ∨
        c = .disableRampEnd b ∧ s.br[b].ctl.rampDown.isSome = true ∧ s.safeChoice b = 1 →
      Completes c s fun t => t.br[b].state = .standby ∧ t.br[b].start.phase = 0 ∧ t.br[b].force.sources = [] ∧
        (∀ k : Fin 6, (t.br[b].pos[k]).on = false) ∧ (∀ d : BridgeId, d ≠ b → t.br[d] = s.br[d]) ∧ t.keeps s) ∧
    (s.br[b].ctl.rampDown.isSome = true → 2 ≤ (s.safeChoice b).val → s.br[b].force.sources = [] → s.br[b].force.pattern = 0 →
      Completes (.disableRampEnd b) s fun t => t.br[b].state = .safeAsc ∧ t.br[b].start.phase = 7 ∧ t.br[b].force.pattern = s.safeChoice b ∧
        t.br[b].force.sources = [(.catchAsc, 3)] ∧ (∀ d : BridgeId, d ≠ b → t.br[d] = s.br[d]) ∧ t.keeps s) ∧
    (∀ g, s.groupOf b = some g → s.br[b].force.clampAt.isSome = true → s.br[b].state = .safeOff → s.br[b].force.sources ≠ [] → s.br[b].force.pattern = 1 →
      (∀ x ∈ s.br[b].force.sources, srcAlwaysOff x.1 = false) → s.actN 0x7110 (g.val + 1) ≠ 1 → 2 ≤ (s.ascSide b).val →
      Completes (.safeOffToAsc b) s fun t => t.br[b].state = .safeAsc ∧ t.br[b].force.pattern = s.ascSide b ∧
        t.br[b].force.sources = s.br[b].force.sources ∧ (∀ d : BridgeId, d ≠ b → t.br[d] = s.br[d]) ∧ t.keeps s) ∧
    (∀ g freq, s.groupOf b = some g → s.inAsc b = true → s.ascExit g freq = true → s.br[b].force.sources ≠ [] → s.br[b].state = .safeAsc →
      (s.br[b].start.phase = 0 → Completes (.ascToOff b freq) s fun t => t.br[b].state = .safeOff ∧ t.br[b].force.pattern = 1 ∧
        t.br[b].force.sources = s.br[b].force.sources ∧ (∀ k : Fin 6, (t.br[b].pos[k]).on = false) ∧ (∀ d : BridgeId, d ≠ b → t.br[d] = s.br[d]) ∧
        t.keeps s) ∧
      (s.br[b].start.phase = 7 → Completes (.ascToOff b freq) s fun t => t.br[b].state = .standby ∧ t.br[b].force.pattern = 0 ∧
        t.br[b].force.sources = [] ∧ (∀ k : Fin 6, (t.br[b].pos[k]).on = false) ∧ (∀ d : BridgeId, d ≠ b → t.br[d] = s.br[d]) ∧ t.keeps s))

/-- With PD1 on, no injection waiting and no forcing anywhere: an input that falls while both were high records its level and forces off on
every bridge with the source STO at level 4; the contactors stay as they are. With one input low that rises beside a high one: the cause
STO ends on every bridge and every forcing stays latched. STO_DISCREPANCY with differing inputs and no latch sets the latch and nothing
else. Rests on R68, R273, R274. -/
def Obligations.StoRows : Prop :=
  ∀ s : State, s.test.inject = [] →
    (∀ chB : Bool, s.pwr.domains[1] = true → s.clove.stoA = true → s.clove.stoB = true → s.unforced = true →
      Completes (.stoInputChange chB false) s fun t => t.clove.stoA = chB ∧ t.clove.stoB = !chB ∧
        (∀ b : BridgeId, t.safeAt b .sto 4 ∧ t.br[b].force.pattern = 1 ∧ t.br[b].state = .safeOff ∧ ∀ k : Fin 6, (t.br[b].pos[k]).on = false) ∧
        t.cont = s.cont ∧ t.keeps s) ∧
    (∀ chB : Bool, s.pwr.domains[1] = true → s.clove.stoA = chB → s.clove.stoB = !chB → s.clove.discrepancy = false →
      Completes (.stoInputChange chB true) s fun t =>
        t.silent = { s.silent with clove := { s.clove with stoA := true, stoB := true }, br := t.br } ∧
        ∀ b : BridgeId, t.br[b] = { s.br[b] with force := { s.br[b].force with causes := s.br[b].force.causes.filter (fun c => decide (c ≠ .sto)) } }) ∧
    (s.clove.stoA ≠ s.clove.stoB → s.clove.discrepancy = false → Completes .stoDiscrepancy s fun t =>
      t.silent = { s.silent with clove := { s.clove with discrepancy := true, bothLow := false } })

/-- With no forcing anywhere: SS1 envelope violation and timeout of an SS1 in progress, Clove's overspeed, its speed disagreement, the bench
limit of frequency, and the SLS violation, SLS deceleration timeout and SLP violation whose reaction is set to the safe state, each put
every bridge of the group into its safe state with a Clove request at level 3; every bridge outside the group, the memory, the stored
objects, the network, the pairs and the placement stay. Rests on R278, R280, R281, R282, R284, R324. -/
def Obligations.GroupSafetyRows : Prop :=
  ∀ (s : State) (g : GroupId) (c : Instr), s.unforced = true →
    (c = .ss1EnvelopeViolation g ∧ (∃ x t1, s.gr[g].ss1 = some x ∧ x.excess = some t1) ∨
      c = .ss1Timeout g ∧ (∃ x, s.gr[g].ss1 = some x ∧ x.goal = 0 ∧ x.confirmed = false) ∨
      c = .cloveOverspeed g ∧ s.clove.speed[g].valid = true ∧ 10 * s.actN 0x8032 (g.val + 1) < s.clove.speed[g].freq.natAbs ∨
      c = .cloveSpeedDisagreement g ∧ s.speedsDiffer g = true ∨
      c = .slsViolation g ∧ s.gr[g].slsOver.isSome = true ∧ s.actN 0x8031 (g.val + 2) = 1 ∨
      c = .slsDecelerationTimeout g ∧ s.gr[g].slsFrom.isSome = true ∧ s.actN 0x8031 (g.val + 2) = 1 ∨
      c = .slpViolation g ∧ s.gr[g].slpOver.isSome = true ∧ s.actN 0x8031 (g.val + 10) = 1 ∨
      c = .benchLimitExceeded (.frequency g) ∧ (∃ p : PairId, s.pairs[p].debugger = true) ∧ s.clove.speed[g].valid = true ∧
        s.actR 0x8110 2 < |(s.clove.speed[g].freq : Rat) / 10|) →
    Completes c s fun t => (∀ b ∈ s.bridgesOf g, t.safeAt b .cloveRequest 3) ∧ (∀ b, b ∉ s.bridgesOf g → t.br[b] = s.br[b]) ∧ t.keeps s

/-- With no start in progress, no identification and no SS1: after INPUT_OVER_BUDGET, and after DIE_CRITICAL with the die hot and not yet
counted as stopped, every group with a bridge in RUN has the source among its waiting SS1 sources, no other group and no bridge changes;
the supply is marked over budget, or the die as stopped until it is cool. A running group with no SS1 and no identification. SLS_VIOLATION
and SLP_VIOLATION with the reaction SS1, SUMAC_WINDOW_EXPIRY of a shunt-only or sensorless window, and the heartbeat miss that reaches
0x7020.01 with the reaction SS1 on every group: the source waits for the entry of the group, and no bridge changes. STANDSTILL_CONFIRMED
without a brake puts the running bridges of the group into their safe state; with the brake it confirms the standstill, applies the brake
and times its closing. BRAKE_CLOSE_EXPIRY then puts them into their safe state. Rests on R345, R373, R276, R38, R278, R280, R284, R290,
R293. -/
def Obligations.StopRows : Prop :=
  (∀ (s : State) (c : Instr) (src : Nat), (∀ b : BridgeId, s.starting b = false) → (∀ g : GroupId, s.gr[g].ss1 = none ∧ s.gr[g].atlas.ident = none) →
     (c = .inputOverBudget ∧ src = 13 ∨ c = .dieCritical ∧ src = 12 ∧ s.die.hot.isSome = true ∧ s.die.stopped = false) →
     Completes c s fun t => t.br = s.br ∧
       (∀ g : GroupId, t.gr[g] = if s.running g = [] then s.gr[g] else { s.gr[g] with ss1Due := s.gr[g].ss1Due ++ [src] }) ∧
       t.pwr = (if src = 13 then { s.pwr with overBudget := true } else s.pwr) ∧ t.die = (if src = 12 then { s.die with stopped := true } else s.die) ∧
       t.cont = s.cont ∧ t.clove = s.clove ∧ t.keeps s) ∧
  (∀ (s : State) (g : GroupId),
     (∀ (c : Instr) (src : Nat), s.running g ≠ [] → s.gr[g].ss1 = none → s.gr[g].atlas.ident = none →
       (c = .slsViolation g ∧ s.gr[g].slsOver.isSome = true ∧ s.actN 0x8031 (g.val + 2) ≠ 1 ∧ src = 5 ∨
         c = .slpViolation g ∧ s.gr[g].slpOver.isSome = true ∧ s.actN 0x8031 (g.val + 10) ≠ 1 ∧ src = 7 ∨
         (∃ w : Fin 16, c = .sumacWindowExpiry w ∧ s.clove.windows[w].opened.isSome = true ∧ (w = shuntWindow g ∨ w = sensorlessWindow g) ∧ src = 4) ∨
         (∃ t0, c = .heartbeatMissed t0 ∧ t0 < s.drive.hbAt + 2 * ticksPerMs ∧ s.drive.hbMissed + 1 = s.actN 0x7020 1 ∧ src = 2 ∧
           (∀ k : GroupId, k ≠ g → s.bridgesOf k = []) ∧ s.actN 0x7020 (g.val + 2) = 1 ∧ ∀ b ∈ s.bridgesOf g, s.starting b = false)) →
       Completes c s fun t => t.br = s.br ∧ t.gr = s.gr.set g { s.gr[g] with ss1Due := s.gr[g].ss1Due ++ [src] } ∧ t.cont = s.cont ∧ t.keeps s) ∧
     (∀ t0 : Nat, s.drive.hbAt + 2 * ticksPerMs ≤ t0 → s.actN 0x7020 1 ≠ 1 → exec (.heartbeatMissed t0) s =
       .next { s with now := max s.now t0, drive := { s.drive with hbMissed := 1, hbAt := t0 } }) ∧
     (∀ (x : Ss1) (t1 : Nat), s.gr[g].ss1 = some x → x.calm = some t1 → x.goal = 0 → x.confirmed = false →
       (s.brakeGroup ≠ some g → s.unforced = true → Completes (.standstillConfirmed g) s fun t =>
         (∀ b ∈ s.running g, t.safeAt b .cloveRequest 3) ∧ (∀ b, b ∉ s.running g → t.br[b] = s.br[b]) ∧ t.keeps s) ∧
       (s.brakeGroup = some g → Completes (.standstillConfirmed g) s fun t =>
         t.gr = s.gr.set g { s.gr[g] with ss1 := some { x with confirmed := true } } ∧ t.clove = { s.clove with brakeOn := false, brakeClose := some t.now, brakeAt := t.clove.brakeAt } ∧
         t.br = s.br ∧ t.keeps s)) ∧
     (∀ (x : Ss1) (t1 : Nat), s.clove.brakeClose = some t1 → s.brakeGroup = some g → s.gr[g].ss1 = some x → x.confirmed = true → s.unforced = true →
       Completes .brakeCloseExpiry s fun t => t.clove.brakeClose = none ∧ (∀ b ∈ s.running g, t.safeAt b .cloveRequest 3) ∧
         (∀ b, b ∉ s.running g → t.br[b] = s.br[b]) ∧ t.keeps s))

/-- With the core pairs running (R33), TORQUE_MONITOR_RUN of a bridge in RUN within its budget, not stale, with three currents: a passing run
clears the counts, a failing one below 0x8070.05 adds one; nothing else changes. BRAKE_RELEASE_EXPIRY ends the hold of the brake's group.
BRAKE_FEEDBACK_CHANGE of a valid input without failing switch test records what the feedback shows, and its filter keeps the level before.
BRAKE_FEEDBACK_TIMEOUT of an applied brake whose feedback shows it released latches the fault. SUMAC_WINDOW_EXPIRY closes its window with
nothing left of its time; the time domain window leaves the partner set, a pair's window withdraws the pair. CLOVE_POWER_CHECK within the
bound ends the excess; the first one above begins it. Rests on R286, R288, R289, R290, R292, R293. -/
def Obligations.MonitorBrakeAndWindowRows : Prop :=
  ∀ s : State,
    (∀ (b : BridgeId) (g : GroupId), s.groupOf b = some g → s.br[b].state = .run → s.canRun s.br[b].monPair = true → s.br[b].meas.stale = false →
      s.br[b].meas.mode ≠ 2 → s.test.inject = [] → s.coresOn = true →
      (s.runFails b g = false → exec (.torqueMonitorRun b false false) s = .next { s with br := s.br.set b { s.br[b] with
        ctl := { s.br[b].ctl with monFails := 0, monStale := 0 } } }) ∧
      (s.runFails b g = true → s.br[b].ctl.monFails + 1 < s.actN 0x8070 5 → exec (.torqueMonitorRun b false false) s = .next { s with br := (
        s.br.set b { s.br[b] with ctl := { s.br[b].ctl with monFails := s.br[b].ctl.monFails + 1, monStale := 0 } }) })) ∧
    (∀ g, s.brakeGroup = some g → s.gr[g].rampHold = true → Completes .brakeReleaseExpiry s fun t => t = { s with br := t.br, gr := t.gr } ∧
      t.gr = s.gr.set g { s.gr[g] with rampHold := false } ∧
      ∀ b : BridgeId, t.br[b] = if b ∈ s.bridgesOf g ∧ s.br[b].start.phase = 6 then { s.br[b] with start := { s.br[b].start with since := s.now } }
        else s.br[b]) ∧
    (∀ released : Bool, (∀ g : GroupId, s.gr[g].rampHold = false) → s.sense.inputs[digitalInput 3].valid = true → s.clove.brakeFb ≠ released →
      Completes (.brakeFeedbackChange released false false) s fun t => t = { s with clove := { s.clove with brakeFb := released, brakeFbAt := s.now },
                                                                                    sense := { s.sense with digital := t.sense.digital } }) ∧
    (∀ g, s.brakeGroup = some g → s.clove.brakeOn = false → s.clove.brakeFb = true → Completes .brakeFeedbackTimeout s fun t =>
      t.silent = { s.silent with clove := { s.clove with brakeLatch := true } }) ∧
    (∀ t1, s.clove.windows[(15 : Fin 16)].opened = some t1 → Completes (.sumacWindowExpiry 15) s fun t => t.silent = { s.silent with
      now := max s.now (t1 + s.clove.windows[(15 : Fin 16)].remaining), place := { s.place with left := true, partners := [], leader := 0 },
      clove := { s.clove with windows := s.clove.windows.set 15 { s.clove.windows[(15 : Fin 16)] with opened := none, remaining := 0 } } }) ∧
    (∀ (w : Fin 16) (p : PairId), w.val = p.val → s.clove.windows[w].opened.isSome = true → Completes (.sumacWindowExpiry w) s fun t =>
      t.clove.windows[w].opened = none ∧ t.pairs[p].state = .withdrawn) ∧
    (∀ (power : Int) (t0 : Nat),
      (((power.natAbs : Nat) : Rat) ≤ s.powerBound (decide (power < 0)) → exec (.clovePowerCheck power t0) s =
        .next { s with now := max s.now t0, clove := { s.clove with powerOver := none } }) ∧
      (s.powerBound (decide (power < 0)) < ((power.natAbs : Nat) : Rat) → s.clove.powerOver = none → exec (.clovePowerCheck power t0) s =
        .next { s with now := max s.now t0, clove := { s.clove with powerOver := some (max s.now t0) } }))

/-- With no forcing anywhere, the drive in ARMED, RUN or STOPPING, no opening in progress and CO1 closed: a channel disagreement of Clove, a
departed reference oscillator, an overvoltage of the DC link, a power bound exceeded for 10 ms, a rail fault of one of PD2 to PD6 that is
on, a collapse of the 12 V bus, and, with a bridge in RUN, the loss of the core or pulse PLL each force every bridge with their source at
level 4; the drive is in SAFE-ASC exactly where a bridge is in ASC, else in SAFE-OFF; CO3 is open and CO1 waits for its current. Rests on
R7, R34, R104, R255, R288, R304, R346, R348, R349, R525. -/
def Obligations.LevelFourRows : Prop :=
  ∀ (s : State) (c : Instr) (src : ClassASource), s.unforced = true → (s.drive.state = .armed ∨ s.drive.state = .run ∨ s.drive.state = .stopping) →
    s.cont.opening = 0 → s.cont.coil[0] = true →
    (c = .cloveChannelDisagreement ∧ src = .cloveRequest ∨ c = .referenceOscDeparted ∧ src = .cloveRequest ∨
      (∃ u chB, c = .dcLinkOvervoltage u chB ∧ src = .overvoltage ∧ s.actN 0x8105 1 < u) ∨
      (∃ (power : Int) (t0 u : Nat), c = .clovePowerCheck power t0 ∧ src = .cloveRequest ∧ s.clove.powerOver = some u ∧
        u + 10 * ticksPerMs ≤ t0 ∧ s.powerBound (decide (power < 0)) < ((power.natAbs : Nat) : Rat)) ∨
      (∃ d : Fin 8, c = .domainRailFault d ∧ src = .cloveRequest ∧ 2 ≤ d.val ∧ d.val ≤ 6 ∧ s.pwr.domains[d] = true) ∨ c = .busCollapse ∧ src = .cloveRequest ∨
      (∃ k : Fin 3, c = .pllLockLoss k ∧ src = .cloveRequest ∧ k.val < 2 ∧ s.pwr.pll[k] = true ∧ s.anyRun = true)) →
    Completes c s fun t => (∀ b : BridgeId, t.safeAt b src 4) ∧ t.drive.state = (if t.anyAsc then .safeAsc else .safeOff) ∧
      t.cont.coil = s.cont.coil.set 2 false ∧ t.cont.opening = 1 ∧ t.cont.openAt = t.now ∧ t.keeps s

/-- For a pair in lockstep beside one in lockstep with its debug flag clear, no split waiting and no earlier fault: LOCKSTEP_MISMATCH and
PAIR_WATCHDOG_EXPIRY put it into recovery, held in reset, and every step and monitor onto the other pair; no bridge or group changes its
state. CACHE_UNCORRECTABLE of one replica at rest: shared-cache lockstep and its window's cause. PAIR_RESET_RELEASE releases a recovering
pair. COMPARATOR_TEST_DONE with all six groups caught, outside boot and rejoin, restores lockstep; with one missed the pair stays out,
held. The watchdog of one core of a split pair stops that core only. Rests on R310, R317, R318, R320, R321. -/
def Obligations.PairFaultRows : Prop :=
  ∀ (s : State) (p : PairId),
    (∀ c : Instr, (s.pairs[p].state = .lockstep ∨ s.pairs[p].state = .cache) → s.inLock (otherPair p) = true → s.drive.splitRef = none →
      s.pairs[p].faults = [] → 2 ≤ s.actN 0x8122 1 → ((∃ grp, c = .lockstepMismatch p grp) ∨ ∃ core, c = .pairWatchdogExpiry p core) →
      Completes c s fun t => t.pairs[p].state = .recovering ∧ t.pairs[p].held = true ∧ t.pairs[otherPair p] = s.pairs[otherPair p] ∧
        (∀ b : BridgeId, t.br[b].pair = otherPair p ∧ t.br[b].monPair = otherPair p ∧ t.br[b].state = s.br[b].state ∧ t.br[b].force = s.br[b].force ∧
          t.br[b].pos = s.br[b].pos) ∧ t.gr = s.gr ∧ t.mem = s.mem ∧ t.par = s.par ∧ t.cont = s.cont) ∧
    (∀ w : Fin 16, w.val = p.val → s.pairs[p].state = .lockstep → s.anyRun = false → Completes (.cacheUncorrectable p false) s fun t =>
      t.silent = { s.silent with pairs := s.pairs.set p { s.pairs[p] with state := .cache, replica := 0 }, clove := { s.clove with windows := (
        s.clove.windows.set w { s.clove.windows[w] with cause := true }) } }) ∧
    (s.pairs[p].state = .recovering → s.pairs[p].held = true → s.pairs[p].debugger = false → s.pairs[p].failed = false →
      exec (.pairResetRelease p) s = .next { s with pairs := s.pairs.set p { s.pairs[p] with held := false } }) ∧
    (∀ caught : BitVec 6, s.pairs[p].state = .recovering → s.pairs[p].debugger = false → s.pairs[p].failed = false → s.drive.rejoinRef = none →
      s.boot.booting = false → Completes (.comparatorTestDone p caught) s fun t => t.pairs[otherPair p] = s.pairs[otherPair p] ∧
        (caught = 63 → t.pairs[p] = { s.pairs[p] with state := .lockstep, held := false, testedSince := true, cores := .replicate 2 true }) ∧
        (caught ≠ 63 → t.pairs[p].failed = true ∧ t.pairs[p].held = true ∧ t.pairs[p].state ≠ .lockstep)) ∧
    (∀ core : Fin 2, s.pairs[p].state = .split → s.pairs[p].cores = .replicate 2 true → s.pairs[p].faults = [] → 2 ≤ s.actN 0x8122 1 →
      Completes (.pairWatchdogExpiry p core) s fun t =>
        t.silent = { s.silent with pairs := s.pairs.set p { s.pairs[p] with cores := s.pairs[p].cores.set core false, faults := t.pairs[p].faults } })

/-- DEBUG_ATTACH to a pair in lockstep beside one in lockstep, below the bench limit: the debugger and the debug flag are set and the pair is
in debug, held. DEBUG_DETACH: the pair recovers, its flag stays. BENCH_LIMIT_EXCEEDED of the DC link with no forcing anywhere opens CO1
and CO3 and forces every bridge. CLOVE_STARTUP_TEST_DONE outside the boot: a pass clears the failure latches and the age; a failure
latches and leaves LOCKOUT. TEST_AGE_REACHED comes at the limit and each day after it, counted from the last passed test. ASC_LEG_FAILURE
latches the leg's shorting position and the bridge changes to the other side, or to off. CLOVE_SPEED_TIMEOUT of a standstill, on a group
with a Hall triplet named or its lowest bridge off: f_C is zero and valid and shows standstill, with the source that applies, at the end
of its time without an edge or crossing. On a group with neither it changes nothing. Of the source in use, 50 ms after its newest edge:
the first other source that applies and gives a frequency supplies f_C; without one it is invalid and shows no standstill. The other
tracks, every other group, and everything beside Clove's frequencies, the time and the reports stay. Rests on R308, R313, R314, R323,
R324, R306, R307. -/
def Obligations.CloveAndDebugRows : Prop :=
  (∀ s : State,
     (∀ p : PairId, s.pairs[p].state = .lockstep → s.inLock (otherPair p) = true → s.drive.splitRef = none → s.drive.udc ≤ s.actR 0x8110 1 →
       Completes (.debugAttach (.pair p)) s fun t => t.pairs[p].debugger = true ∧ t.pairs[p].flag = true ∧ t.pairs[p].testedSince = false ∧
         t.pairs[p].state = .debug ∧ t.pairs[p].held = true ∧ t.pairs[otherPair p] = s.pairs[otherPair p] ∧ t.gr = s.gr ∧ t.mem = s.mem ∧ t.par = s.par ∧
         ∀ b : BridgeId, t.br[b].state = s.br[b].state ∧ t.br[b].force = s.br[b].force) ∧
     (∀ p : PairId, s.pairs[p].debugger = true → s.pairs[p].state = .debug → Completes (.debugDetach (.pair p)) s fun t =>
       t.silent = { s.silent with pairs := s.pairs.set p { s.pairs[p] with debugger := false, state := .recovering, held := true } }) ∧
     (∀ u : Nat, s.unforced = true → (∃ p : PairId, s.pairs[p].debugger = true) → s.actN 0x8110 1 < u → s.drive.state = .run → s.cont.coil[1] = true → s.cont.opening ≠ 2 →
       Completes (.benchLimitExceeded (.dcLink u)) s fun t => (∀ b : BridgeId, t.safeAt b .cloveRequest 4) ∧
         t.cont.coil = (s.cont.coil.set 2 false).set 0 false ∧ t.cont.opening = 2 ∧ t.keeps s) ∧
     (∀ failed : BitVec 10, s.clove.testRun = true → s.boot.booting = false → Completes (.cloveStartupTestDone failed) s fun t =>
       (failed.toNat / 2 * 2 = 0 → t.silent = ({ s.silent with br := t.br, pwr := t.pwr, boot := { s.boot with testDue := false }, clove := (
         { s.clove with testRun := false, testResult := 1, testFailed := false, disagree := false, testAge := 0, testAt := s.now }) }) ∧
         t.br.map Bridge.uncharged = s.br.map Bridge.uncharged) ∧
       (failed.toNat / 2 * 2 ≠ 0 → t.clove = { s.clove with testRun := false, testResult := failed.toNat / 2 * 2, testFailed := true, bound := t.clove.bound,
                                                            boundHigh := t.clove.boundHigh, windows := t.clove.windows } ∧
         t.drive.state = .lockout ∧ (s.cont.chop = false → t.br.map Bridge.uncharged = s.br.map Bridge.uncharged) ∧ (∀ k : GroupId, s.sourceSettled k = true → t.gr[k] = s.gr[k]) ∧ t.cont = s.cont ∧ t.keeps s)) ∧
     (∀ age : Nat, age = (if s.clove.testAge < s.actN 0x8104 3 then s.actN 0x8104 3 else s.clove.testAge + 1) → Completes .testAgeReached s fun t =>
       t.silent = { s.silent with now := max s.now (s.clove.testAt + age * ticksPerDay), clove := { s.clove with testAge := age } }) ∧
     (∀ (l : LegId) (b : BridgeId), brOfLeg l = b → s.br[b].force.ascTo = none → s.br[b].state ≠ .lockout →
       (s.br[b].force.pattern = 2 ∨ s.br[b].force.pattern = 3) → Completes (.ascLegFailure l) s fun t =>
         (t.pos (posOf b (slotOf (phaseOfLeg l) (s.br[b].force.pattern == 3)))).latched = true ∧
         t.br[b].force.pattern = (if s.br[b].force.pattern = 2 then (if s.sideFree b true then 3 else 1) else (if s.sideFree b false then 2 else 1)) ∧
         t.br[b].force.sources = s.br[b].force.sources ∧ t.br[b].state = patternState t.br[b].force.pattern ∧
         ∀ d : BridgeId, d ≠ b → t.br[d] = s.br[d])) ∧
  (∀ (s : State) (g : GroupId),
     (∀ j : Fin 3, (j = 0 ∧ s.sourceApplies g 0 = true ∨ j = 1 ∧ s.sourceApplies g 0 = false ∧ s.sourceApplies g 1 = true) →
       ∃ t, exec (.cloveSpeedTimeout g true) s = .next t ∧
       t = { s with now := max s.now (s.clove.speed[g].tracks[j].lastEdge + s.actN 0x8100 10 * ticksPerMs), clove := { s.clove with speed := t.clove.speed } } ∧
       t.clove.speed[g] = { s.clove.speed[g] with freq := 0, valid := true, standstill := true, source := j.val + 1, tracks := (
         s.clove.speed[g].tracks.set j { s.clove.speed[g].tracks[j] with still := true }) } ∧
       (∀ k : GroupId, k ≠ g → t.clove.speed[k] = s.clove.speed[k])) ∧
     (s.sourceApplies g 0 = false → s.sourceApplies g 1 = false → exec (.cloveSpeedTimeout g true) s = .next s) ∧
     (s.clove.speed[g].source = 0 → exec (.cloveSpeedTimeout g false) s = .next s) ∧
     (∀ (j : Fin 3) (at0 : Nat), s.clove.speed[g].source = j.val + 1 → at0 = max s.now (s.clove.speed[g].tracks[j].lastEdge + 50 * ticksPerMs) →
       ∃ t, exec (.cloveSpeedTimeout g false) s = .next t ∧ t.silent = { s.silent with now := at0, clove := { s.clove with speed := t.clove.speed } } ∧
       t.clove.speed[g].tracks = s.clove.speed[g].tracks ∧ (∀ k : GroupId, k ≠ g → t.clove.speed[k] = s.clove.speed[k]) ∧
       ((∀ k : Fin 3, (s.sourceApplies g k && s.clove.speed[g].tracks[k].gives at0) = false) → t.clove.speed[g].valid = false ∧
         (s.clove.speed[g].valid = true → t.clove.speed[g].standstill = false ∧ t.clove.speed[g].source = 0)) ∧
       (∀ k : Fin 3, (List.finRange 3).find? (fun k => s.sourceApplies g k && s.clove.speed[g].tracks[k].gives at0) = some k →
         t.clove.speed[g].valid = true ∧ t.clove.speed[g].source = k.val + 1)))

/-- PORT_POWER_LOSS and PORT_POWER_RESTORE change the delivery of their port, AUX_CONVERTER_START and, without a winding discharge,
AUX_CONVERTER_STOP that of the converter; the line-port window has its cause exactly after a change that leaves one port alone without the
converter. PODL_CLASSIFICATION records the granted class. HV_PRESENT_CHANGE records the presence, with PD7. PLL_LOCK_LOSS of the network
PLL and PLL_LOCK_REGAINED record the lock. Nothing else but the reports changes. Rests on R337, R338, R339, R340, R347, R349. -/
def Obligations.SupplyRows : Prop :=
  ∀ (s : State) (p : PortId),
    (∀ (c : Instr) (port aux : Bool), s.cont.active = false →
      (c = .portPowerLoss p ∧ s.pwr.delivering[p] = true ∧ port = false ∧ aux = s.pwr.aux ∨
        c = .portPowerRestore p ∧ s.pwr.delivering[p] = false ∧ port = true ∧ aux = s.pwr.aux ∨
        c = .auxConverterStart ∧ s.pwr.aux = false ∧ port = s.pwr.delivering[p] ∧ aux = true ∨
        c = .auxConverterStop ∧ s.pwr.aux = true ∧ port = s.pwr.delivering[p] ∧ aux = false) →
      Completes c s fun t => t.silent = { s.silent with
          pwr := { s.pwr with delivering := s.pwr.delivering.set p port, aux := aux }, clove := { s.clove with windows := t.clove.windows } } ∧
        (∀ w : Fin 16, w.val ≠ 14 → t.clove.windows[w] = s.clove.windows[w]) ∧
        (aux = false → port ≠ s.pwr.delivering[otherPort p] → t.clove.windows[(14 : Fin 16)].cause = true) ∧
        (aux = true ∨ (port = true ∧ s.pwr.delivering[otherPort p] = true) →
          t.clove.windows[(14 : Fin 16)].cause = false ∧ t.clove.windows[(14 : Fin 16)].opened = none)) ∧
    (∀ cls : Nat, Completes (.podlClassification p cls) s fun t => t.silent = { s.silent with pwr := { s.pwr with granted := (
      s.pwr.granted.set p (if cls = 8 ∨ cls = 9 then cls else 0)) } }) ∧
    (∀ present : Bool, Completes (.hvPresentChange present) s fun t => t = { s with pwr := { s.pwr with
      hv := present, hvArmed := s.pwr.hvArmed || !present, domains := s.pwr.domains.set 7 t.pd7Wanted }, br := t.br } ∧
      t.br.map Bridge.uncharged = s.br.map Bridge.uncharged) ∧
    (s.pwr.pll[2] = true → Completes (.pllLockLoss 2) s fun t => t.silent = { s.silent with pwr := { s.pwr with pll := s.pwr.pll.set 2 false } }) ∧
    (∀ k : Fin 3, s.pwr.domains[2] = true → exec (.pllLockRegained k) s = .next { s with pwr := { s.pwr with pll := s.pwr.pll.set k true } })

/-- THERMAL_UPDATE with the core pairs running (R33) and no forcing anywhere: the power of each position is its energy over the time since the
last update, the nodes are the solution of the linear network of R365 (whose matrix exponential stays uninterpreted, log 12) from the
previous nodes at that power, or read 0x9110.06 before the first housekeeping round, and the update counts at its instant as not late; no
other bridge changes. THERMAL_UPDATE_LATE marks the bridge late. DIE_SENSOR_READ records the reading; a level reached above the present
one is in force at once, and otherwise the level falls by one at most. Rests on R364, R365, R367, R372. -/
def Obligations.ThermalRows : Prop :=
  ∀ (s : State) (b : BridgeId) (t0 : Nat),
    (s.coresOn = true → s.unforced = true → Completes (.thermalUpdate b t0) s fun t => t.br[b].th.last = t0 ∧ t.br[b].th.late = false ∧
      t.br[b].th.power = (if t0 - s.br[b].th.last = 0 then s.br[b].th.power
        else s.br[b].th.energy.map fun e => e * 400000000 / ((t0 - s.br[b].th.last : Nat) : Rat)) ∧
      (∀ (p : Fin 6) (n : Fin 4), t.br[b].th.nodes[p][n] = if s.die.firstRound = true then
        (s.nextNodes b (phaseOfSlot p) (t0 - s.br[b].th.last) t.br[b].th.power).getD ((if slotHigh p then 0 else 4) + n.val) 0
        else s.actR 0x9110 6) ∧
      (∀ d : BridgeId, d ≠ b → t.br[d] = s.br[d]) ∧ t.die = s.die ∧ t.keeps s) ∧
    (s.br[b].th.late = false → Completes (.thermalUpdateLate b) s fun t => t.silent = { s.silent with
      now := max s.now (s.br[b].th.last + s.actN 0x9110 7 * ticksPerUs), br := (
        s.br.set b { s.br[b] with th := { s.br[b].th with late := true } }) }) ∧
    (∀ temp : Int, Completes (.dieSensorRead temp t0) s fun t => t.silent = { s.silent with now := max s.now t0, die := t.die } ∧ t.die.temp = temp ∧
      (s.die.level < s.reachedLevel temp → t.die.level = s.reachedLevel temp) ∧
      (s.reachedLevel temp ≤ s.die.level → t.die.level = s.die.level ∨ t.die.level + 1 = s.die.level))

/-- With PD4 on and its PLL locked (R33), HOUSEKEEPING_ROUND_START outside SLEEP with no round running and the digital inputs valid starts
one. HOUSEKEEPING_ROUND_COMPLETE of a running round keeps its 32 values, or drops those of a spoilt round and changes nothing else.
HOUSEKEEPING_ROUND_TIMEOUT with no input timeout set ends the round and counts one stale check on each of its inputs.
MESSAGE_INPUT_TIMEOUT of a running group and DIGITAL_INPUT_TIMEOUT of an input that disagrees behind its filter make a valid input
invalid; without a reaction of R140 nothing else but the time and the reports changes. Rests on R136, R138, R139, R140, R484. -/
def Obligations.RoundAndTimeoutRows : Prop :=
  ∀ s : State,
    (s.pulseOn = true → s.sense.roundRunning = false → s.drive.state ≠ .sleep → (∀ i : Fin 4, s.sense.inputs[digitalInput i].valid = true) →
      Completes .housekeepingRoundStart s fun t =>
      t = { s with now := t.now, sense := { s.sense with roundRunning := true, roundAt := t.now } } ∧
      t.now = (if s.sense.roundAt = 0 then s.now else max s.now (s.sense.roundAt + 10 * ticksPerMs))) ∧
    (∀ vals : Vector Int 32, s.pulseOn = true → s.sense.roundRunning = true → Completes (.housekeepingRoundComplete vals) s fun t =>
      t.sense.roundRunning = false ∧ t.sense.discardRound = false ∧ t.par.stored = s.par.stored ∧ t.mem.nand = s.mem.nand ∧
      (s.sense.discardRound = false → t.sense.hk = vals ∧ t.die.firstRound = true) ∧
      (s.sense.discardRound = true → t.silent = { s.silent with now := max s.now (s.sense.roundAt + 9920 * ticksPerUs), sense := (
        { s.sense with roundRunning := false, discardRound := false }) })) ∧
    (s.sense.roundRunning = true → (∀ n : Fin 32, s.actN (0x4100 + (hkInput n).val) 9 = 0) → Completes .housekeepingRoundTimeout s fun t =>
      t = { s with now := max s.now (s.sense.roundAt + 11 * ticksPerMs), sense := (
        { s.sense with roundRunning := false, inputs := t.sense.inputs }) } ∧
      (∀ n : Fin 32, t.sense.inputs[hkInput n] = { s.sense.inputs[hkInput n] with stale := s.sense.inputs[hkInput n].stale + 1 }) ∧
      (∀ n : Fin 84, (∀ k : Fin 32, n ≠ hkInput k) → t.sense.inputs[n] = s.sense.inputs[n])) ∧
    (∀ (c : Instr) (n : Fin 84), s.sense.inputs[n].valid = true →
      ((∃ g, c = .messageInputTimeout g ∧ n = messageInput g ∧ s.running g ≠ [] ∧ s.actN (0x4150 + g.val) 9 ≠ 0) ∨
        ∃ i, c = .digitalInputTimeout i ∧ n = digitalInput i ∧ (s.digitalDue i).isSome = true) →
      Completes c s fun t => t.sense.inputs[n].valid = false ∧ (∀ m : Fin 84, m ≠ n → t.sense.inputs[m] = s.sense.inputs[m]) ∧
        (s.actN (0x4100 + n.val) 8 = 0 → t.silent = { s.silent with now := t.now, sense := { s.sense with inputs := t.sense.inputs } }))

/-- With the engines running (R33). CYCLE_GROUP_GRANT with no burst in progress and no refresh due: the granted owner of the slot writes its
word where its region admits it, and no other DRAM byte changes; outside its regions no memory changes and the refusal is marked. With no
request nothing moves. A due refresh takes a slot of A7. REFRESH_DUE notes it. ROUND_BOUNDARY begins the round with the committed table
and ranking, else the adapted table, else the present one. NAND_OPERATION_DONE outside a commit records a relocated block above 30
corrected bits, or the page that it could not correct with a parameter image in it, and nothing else; the end of an image write ends the
commit, and a good one puts the values that the commit took for its image into the slot that the record did not name. Rests on R378, R380,
R381, R382, R383, R385, R429. -/
def Obligations.ArbiterRows : Prop :=
  ∀ s : State,
    (∀ (reqs : Vector (List Burst) 8) (r : Fin 8) (u : Burst), s.engineOn = true → s.arb.burst = none → s.arb.refresh = false →
      s.arb.table.toList.getD s.arb.slot 0xFF = r.val → reqs[r] = [u] → u.write = true → u.count = 1 → u.stall = 0 →
      (r = 3 → s.die.level < 2 ∧ ∀ g : GroupId, s.gr[g].atlas.buffer = []) → (r = 4 → s.dmaRests = false) → (r = 7 → u.kind ≠ .scrub) →
      Completes (.cycleGroupGrant reqs) s fun t => t.arb.slot = (s.arb.slot + 1) % 64 ∧ t.silent = { s.silent with mem := t.mem, arb := t.arb } ∧
        (s.mayWrite r u.addr = true → t.mem = s.mem.setDramWord u.addr (u.words.getD 0 0)) ∧
        (s.mayWrite r u.addr = false → t.mem = s.mem ∧ t.arb.reqs[r].refused = true)) ∧
    (∀ reqs : Vector (List Burst) 8, s.engineOn = true → s.arb.burst = none → (∀ r : Fin 8, reqs[r] = []) → Completes (.cycleGroupGrant reqs) s fun t =>
      t.arb.slot = (s.arb.slot + 1) % 64 ∧ t.silent = { s.silent with arb := t.arb } ∧
      t.arb.refresh = (s.arb.refresh && s.arb.table.toList.getD s.arb.slot 0xFF != 7) ∧ t.arb.table = s.arb.table) ∧
    exec .refreshDue s = .next { s with arb := { s.arb with refresh := true } } ∧
    (s.engineOn = true → Completes .roundBoundary s fun t => t.silent = { s.silent with arb := t.arb } ∧ t.arb.slot = 0 ∧ t.arb.base = none ∧
      t.arb.table = (match s.arb.base with | some x => x.1 | none => s.arb.adapted.getD s.arb.table) ∧
      t.arb.ranks = (match s.arb.base with | some x => x.2 | none => s.arb.ranks) ∧ t.arb.adapted = none) ∧
    (∀ (req : Fin 8) (r : NandResult), s.engineOn = true → Completes (.nandOperationDone req false r) s fun t =>
      t.silent = ({ s.silent with mem := { s.mem with relocated := t.mem.relocated, pages := t.mem.pages }, par := { s.par with slots := t.par.slots } }) ∧
      (∀ corrected worst block, r = .ok corrected worst block → 30 < worst → block ∈ t.mem.relocated) ∧
      (∀ a, r = .uncorrectable a → a / 1024 ∈ t.mem.pages ∧ (a < 0x90000000 ∨ 0x92000000 ≤ a → t.par = s.par)) ∧
      ((∀ a, r ≠ .uncorrectable a) → t.par = s.par ∧ t.mem.pages = s.mem.pages ∧
        ((∀ corrected worst block, r = .ok corrected worst block → worst ≤ 30) → t.mem = s.mem))) ∧
    (∀ (req : Fin 8) (w : CommitRun), s.engineOn = true → s.par.commit = some w → Completes (.nandOperationDone req true .writeFailed) s fun t =>
      t.silent = { s.silent with par := { s.par with commit := none } } ∧ t.answered w.ref stHardware []) ∧
    (∀ (req : Fin 8) (w : CommitRun), s.engineOn = true → s.par.commit = some w → Completes (.nandOperationDone req true (.ok 0 0 0)) s fun t =>
      t.silent = { s.silent with mem := t.mem, par := { s.par with commit := none, slots := (
        s.par.slots.set (s.otherSlot 3 0 % 2) (some { values := w.image, good := true }) (Nat.mod_lt _ (by decide))) } } ∧
      t.mem = { s.mem with journal := t.mem.journal } ∧
      t.answered w.ref stOk [BitVec.ofNat 64 (s.nextSeq 3 0 % 2 ^ 32 + 2 ^ 32 * s.clove.signature)])

/-- LINK_UP of an allowed rate and role with no test running: the port is up with its rate and no failed training. LINK_DOWN: the port is
down, its key and fallback are gone, and a test starts where the port is enabled. LINK_TRAINING_FAILED counts, or falls back at the third
or at a partner of 100 Mbit/s under speed 0x00. CABLE_TEST_TIMER starts a test on an enabled port without link; CABLE_TEST_DONE ends one
with its code and distance. MKA_CHANNEL_CHANGE of a protected port records its key. Nothing but the port changes; LINK_TRAINING_FAILED and
MKA_CHANNEL_CHANGE with PD6 on and its PLL locked, CABLE_TEST_TIMER with PD6 on. With PD6 on and its PLL locked (R349). FRAME_RECEIVED of
a valid unprotected frame from a station on a port that is not blocked, with room in the table: the source is learned on its port; a frame
for this device is delivered, and one that leaves by the other port with room is forwarded. ADDRESS_AGEING forgets the address at 300 s
after it was seen. The ring manager: RING_CHECK_TX sends a check and awaits it, RING_CHECK_RX ends the wait and closes the ring.
RING_FLUSH_RX at a member clears the table and passes the flush on. LLDP_TX sends the partner TLV; LLDP_RX of no partner relays it with
one hop less. TC10_WAKE_RX is the assertion of its wake source: an enabled one abandons a queue wait, and in SLEEP it begins the boot with
its reason. Rests on R446, R447, R454, R448, R449, R452, R455, R351, R355. -/
def Obligations.NetworkRows : Prop :=
  (∀ (s : State) (p : PortId),
     (∀ gigabit master : Bool, s.net.port[p].up = false → s.netRuns = true → s.linkAllowed p gigabit master = true → s.net.port[p].testing = false →
       Completes (.linkUp p gigabit master) s fun t => t.silent = { s.silent with net := { s.net with port := (
         s.net.port.set p { s.net.port[p] with up := true, gigabit := gigabit, failed := 0 }) } }) ∧
     (s.net.port[p].up = true → Completes (.linkDown p) s fun t => t.silent = { s.silent with net := { s.net with port := t.net.port } } ∧
       t.net.port = s.net.port.set p { s.net.port[p] with up := false, gigabit := false, fallback := false, failed := 0, macsec := false, testing := (
         s.portOn p || s.net.port[p].testing) }) ∧
     (∀ only100 : Bool, s.net.port[p].up = false → s.netRuns = true → s.portOn p = true → Completes (.linkTrainingFailed p only100) s fun t =>
       t.silent = { s.silent with net := { s.net with port := (s.net.port.set p (
         if s.act 0xA001 (p.val + 3) = 0 ∧ s.net.port[p].fallback = false ∧ (only100 = true ∨ 2 ≤ s.net.port[p].failed)
         then { s.net.port[p] with fallback := true, failed := 0 } else { s.net.port[p] with failed := s.net.port[p].failed + 1 })) } }) ∧
     (s.pwr.domains[6] = true → s.portOn p = true → s.net.port[p].up = false → Completes (.cableTestTimer p) s fun t => t.silent = { s.silent with net := { s.net with port := (
       s.net.port.set p { s.net.port[p] with testing := true }) } }) ∧
     (∀ code dist : Nat, s.net.port[p].testing = true → Completes (.cableTestDone p code dist) s fun t =>
       t.silent = { s.silent with net := { s.net with port := (s.net.port.set p { s.net.port[p] with
         testing := false, testCode := min code 4, testDist := if code = 2 ∨ code = 3 then min dist 600 else 0xFFFF }) } }) ∧
     (∀ live : Bool, s.act 0xA020 (p.val + 1) = 1 → s.netRuns = true → Completes (.mkaChannelChange p live) s fun t =>
       t.silent = { s.silent with net := { s.net with port := (s.net.port.set p { s.net.port[p] with macsec := live }) } })) ∧
  (∀ (s : State) (p : PortId),
     (∀ f : EthFrame, s.net.port[p].up = true → s.netRuns = true → 64 ≤ f.length → f.length ≤ 1522 → (p = 1 → s.nbBlocked = false) →
       s.act 0xA020 (p.val + 1) ≠ 1 → groupAddress f.src = false → s.net.table.length < 256 → Completes (.frameReceived p f) s fun t =>
         t.silent = { s.silent with net := { s.net with table := s.net.table.filter (fun e => e.1 != f.src) ++ [(f.src, p, s.now)] } } ∧
         (f.dst = Config.macAddress → f.kind = .other → t.io.outbox = s.io.outbox ++ [.deliver f]) ∧
         (s.isForUs f = false → f.dst ≠ f.src → s.forwards p f = true → s.mayLeave (otherPort p) f = true → f.roomAhead = true →
           t.io.outbox = s.io.outbox ++ [.forward (otherPort p) f])) ∧
     (∀ mac : BitVec 48, Completes (.addressAgeing mac) s fun t =>
       t = { s with now := t.now, net := { s.net with table := s.net.table.filter fun e => e.1 != mac } } ∧
       ∀ e, s.net.table.find? (fun e => e.1 == mac) = some e → t.now = max s.now (e.2.2 + 300 * ticksPerS)) ∧
     (s.act 0xA011 1 = 1 → s.netRuns = true → s.net.awaiting = false → 1 ≤ s.actN 0xA011 3 → s.net.port[0].up = true → Completes .ringCheckTx s fun t =>
       t.silent = { s.silent with net := { s.net with missing := 0, awaiting := true } } ∧ t.io.outbox = s.io.outbox ++ [.ringCheck]) ∧
     (s.act 0xA011 1 = 1 → s.netRuns = true → Completes .ringCheckRx s fun t => t.silent = { s.silent with net := (
       { s.net with missing := 0, awaiting := false, ring := 1 }) }) ∧
     (s.act 0xA011 1 = 2 → s.netRuns = true → s.net.port[otherPort p].up = true → Completes (.ringFlushRx p) s fun t =>
       t.silent = { s.silent with net := { s.net with table := [] } } ∧ t.io.outbox = s.io.outbox ++ [.ringFlush (otherPort p)]) ∧
     (∀ w : Fin 11, w.val = p.val + 1 → exec (.tc10WakeRx p) s = exec (.wakeSourceAssert w) s) ∧
     (s.wakeEnabled (p.val + 1) = true → s.pwr.waking = false →
       (s.drive.sleepStep = 2 → ∃ t, exec (.tc10WakeRx p) s = .next t ∧
         t.silent = { s.silent with drive := { s.drive with sleepStep := 0 }, pwr := { s.pwr with reason := p.val + 1 } }) ∧
       (s.drive.sleepStep ≠ 2 → s.cont.hvWake = false → s.drive.state = .sleep → ∃ t, exec (.tc10WakeRx p) s = .next t ∧ t.boot.booting = true ∧
         t.pwr.reason = p.val + 1 ∧ t.pwr.waking = true ∧ t.br = s.br ∧ t.gr = s.gr ∧ t.mem.nand = s.mem.nand ∧ t.drive = s.drive)) ∧
     (s.actN 0x7060 1 ≠ 0 → s.netRuns = true → s.net.port[p].up = true → Completes (.lldpTx p) s fun t => Quiet t s ∧ ∃ tlv : PartnerTlv,
       t.io.outbox = s.io.outbox ++ [.lldp p tlv] ∧ tlv.dcLink = s.actN 0x7060 1 ∧ tlv.rank = s.actN 0x7060 6 ∧ tlv.serial = Config.serial ∧
         tlv.hops = s.actN 0xA030 3) ∧
     (∀ tlv : PartnerTlv, s.partnerOk tlv.serial tlv.dcLink tlv.domain = false → 2 ≤ tlv.hops → tlv.serial ≠ Config.serial →
       s.netRuns = true → s.net.port[otherPort p].up = true → Completes (.lldpRx p tlv) s fun t => Quiet t s ∧
         t.io.outbox = s.io.outbox ++ [.lldpRelay (otherPort p) { tlv with hops := tlv.hops - 1 }]))

/-- With PD6 on and its PLL locked (R349). SYNC_RECEIVED of the primary while it is valid, in use and not held, within the jump limit: its
offset and instant are renewed, one more Sync is good, and it stays in use; only the time unit changes. ANNOUNCE_RECEIVED of a valid
domain from its grandmaster, over which the Vywick's own clock does not win, renews its instant. PTP_RECEIPT_TIMEOUT of a valid domain
makes it lost, and it is no longer in use; no bridge, group, object or memory changes. INTERLEAVE_ANNOUNCEMENT_TX with partners and no CAN
announcements sends this device's announcement. INTERLEAVE_ANNOUNCEMENT_RX of a new acceptable device adds it as a partner with its
bridges, of a known one renews it; of one that R224 does not admit it changes nothing. OFFSET_SCHEDULE_RX of a partner's schedule with one
entry for an uncrowded bridge of this device schedules that offset with the bridge's own shift and no other; of a stranger's nothing.
PARTNER_TIMEOUT removes the partner after its missed announcements, and its loss waits for the next slot. PLACEMENT_RESULT takes its
measurements into the state, and, with no split waiting, no group, no memory and no forcing changes. Rests on R457, R459, R460, R219,
R223, R224, R230, R342, R456. -/
def Obligations.TimeAndPartnerRows : Prop :=
  (∀ s : State,
     (∀ (offset : Int) (t0 u : Nat), s.netRuns = true → s.time.dom[0].valid = true → s.time.dom[0].held = false → s.time.use = 1 → s.time.dom[0].lastSync = some u →
       (offset - Config.syncPrediction s.time.dom[0].offset s.time.rate (max s.now t0 - u)).natAbs ≤ s.actN 0xA102 4 →
       Completes (.syncReceived 0 offset t0) s fun t => t.silent = { s.silent with now := max s.now t0, time := t.time } ∧
         t.time.dom[0] = { s.time.dom[0] with offset := offset, lastSync := some (max s.now t0), good := s.time.dom[0].good + 1 } ∧ t.time.use = 1) ∧
     (∀ (d : DomainId) (x : Grandmaster) (t0 : Nat), s.netRuns = true → s.time.dom[d].valid = true → s.time.dom[d].grandmaster = some x →
       s.ownWins x = false → exec (.announceReceived d x t0) s =
       .next { s with now := max s.now t0, time := { s.time with dom := (
         s.time.dom.set d { s.time.dom[d] with lastAnnounce := some (max s.now t0) }) } }) ∧
     (∀ (d : DomainId) (announce : Bool), s.time.dom[d].valid = true → Completes (.ptpReceiptTimeout d announce) s fun t =>
       t.time.dom[d].valid = false ∧ t.time.dom[d].lost = true ∧ t.time.use ≠ d.val + 1 ∧ t.br = s.br ∧ t.gr = s.gr ∧ t.par = s.par ∧ t.mem = s.mem)) ∧
  (∀ s : State,
     (s.netRuns = true → s.actN 0x7060 1 ≠ 0 → s.place.left = false → s.place.partners ≠ [] → s.place.lossWait = false → (∀ k : CanId, s.canAnnounces k = false) →
       Completes .interleaveAnnouncementTx s fun t => Quiet t s ∧ t.io.outbox = s.io.outbox ++ [.announce s.announcement]) ∧
     (∀ (a : Announcement) (path : PartnerPath), s.pathOpen path = true → a.version = 1 →
       (s.partnerOk a.serial a.dcLink a.domain = false → exec (.interleaveAnnouncementRx a path) s = .next s) ∧
       (s.partnerOk a.serial a.dcLink a.domain = true → (∀ q ∈ s.place.partners, q.serial ≠ a.serial) →
         Completes (.interleaveAnnouncementRx a path) s fun t => t.silent = { s.silent with place := t.place } ∧ t.place = { s.place with
           leader := t.place.leader, partners := s.place.partners ++ [{ serial := a.serial, rank := a.rank, bridges := a.bridges, heardAt := s.now }] }) ∧
       (s.partnerOk a.serial a.dcLink a.domain = true → (∃ q ∈ s.place.partners, q.serial = a.serial) →
         Completes (.interleaveAnnouncementRx a path) s fun t => t.silent = { s.silent with place := t.place } ∧ t.place = { s.place with
           leader := t.place.leader, partners := s.place.partners.map fun q =>
             if q.serial = a.serial then { serial := a.serial, rank := a.rank, bridges := a.bridges, heardAt := s.now } else q })) ∧
     (∀ (o : OffsetSchedule) (path : PartnerPath),
       ((∀ q ∈ s.place.partners, q.serial ≠ o.leader) → exec (.offsetScheduleRx o path) s = .next s) ∧
       (∀ (q : Partner) (b : BridgeId) (x : BitVec 16), q ∈ s.place.partners → q.serial = o.leader → o.version = 1 → o.dcLink = s.actN 0x7060 1 →
         s.pathOpen path = true → s.clove.windows[(15 : Fin 16)].opened = none → s.time.use ≠ 0 →
         o.entries = [{ serial := Config.serial, bridge := b.val + 1, offset := x }] → s.place.crowded[b] = false → exec (.offsetScheduleRx o path) s = .next { s with br := (
           s.br.set b { s.br[b] with car := { s.br[b].car with schedule := some ((x + BitVec.ofNat 16 s.br[b].car.shift).toNat, o.time) } }) })) ∧
     (∀ q ∈ s.place.partners, Completes (.partnerTimeout q.serial) s fun t => t.silent = { s.silent with now := t.now, place := (
       { s.place with partners := s.place.partners.filter (fun x => x.serial != q.serial), lossWait := true, leader := t.place.leader }) } ∧
       ∃ p ∈ s.place.partners, p.serial = q.serial ∧ t.now = max s.now (p.heardAt + s.actN 0x7060 5 * s.actN 0x7060 4 * ticksPerMs)) ∧
     (∀ (costs : Vector Nat 4) (sensor : Nat) (inputs : Vector Nat 3) (dc : Vector Int 4), s.coresOn = true → s.drive.splitRef = none →
       Completes (.placementResult costs sensor inputs dc) s fun t => t.place.costs = costs ∧ t.pwr.ps = sensor ∧
         t.pwr.portPower = #v[inputs[0], inputs[1]] ∧ t.pwr.auxPower = inputs[2] ∧ t.gr = s.gr ∧ t.mem = s.mem ∧ t.par = s.par ∧ t.cont = s.cont ∧
         t.pairs = s.pairs ∧ t.drive = s.drive ∧
         ∀ b : BridgeId, t.br[b].ctl.dcMean = (dc[b] : Rat) / 10 ∧ t.br[b].state = s.br[b].state ∧ t.br[b].force = s.br[b].force ∧ t.br[b].pos = s.br[b].pos))

/-- CAN_FRAME_RECEIVED on a running controller with empty buffers: a remote frame is discarded; outside the boot a frame of a host filter is
reported as E-B010 with its data; during the boot it waits in the high-priority buffer. CAN_FRAME_SENT and CAN_TX_TIMEOUT take a frame of
no transport message from its buffer; a sent one leaves. CAN_ERROR_STATE_CHANGE takes the counters and their state; a first bus-off fails
every message. BUS_OFF_RECOVERY_DELAY begins, BUS_OFF_RECOVERED ends the recovery. ADDRESS_CLAIM_TIMER holds the claimed address.
ISOTP_TIMEOUT ends the reception or the only transmission of its peer. Rests on R468, R470, R471, R472, R473, R475, R476. -/
def Obligations.CanRows : Prop :=
  ∀ (s : State) (k : CanId),
    (∀ f : CanFrame, s.canOn k = true → f.fd = false → s.can[k].high = [] → s.can[k].fifo = [] →
      (f.remote = true → Completes (.canFrameReceived k f) s fun t => Quiet t s ∧ t.can = s.can ∧ t.io = s.io) ∧
      (f.remote = false → s.matchFrame k f = .host → s.boot.booting = false → s.test.fired = [] → f.data.length ≤ 64 → Completes (.canFrameReceived k f) s fun t =>
        Quiet t s ∧ (s.logs 0xB010 → t.logged 0xB010 4 0 (hostFramePayload k f))) ∧
      (f.remote = false → s.matchFrame k f = .host → s.boot.booting = true → Completes (.canFrameReceived k f) s fun t =>
        Quiet t s ∧ t.can = s.can.set k { s.can[k] with high := [f] })) ∧
    (∀ (slot : Nat) (f : CanTx), s.can[k].tx[slot]? = some f → f.peer = none →
      (Completes (.canTxTimeout k slot) s fun t => t.silent = { s.silent with now := max s.now (f.since + s.actN (0xB000 + k.val) 0x10 * ticksPerMs) } ∧ t.can = s.can.set k { s.can[k] with tx := s.can[k].tx.eraseIdx slot }) ∧
      (s.canSends k = true → slot < 16 → f.frame.brs = false → Completes (.canFrameSent k slot) s fun t => Quiet t s ∧
        t.can = s.can.set k { s.can[k] with tx := s.can[k].tx.eraseIdx slot } ∧ t.io.outbox = s.io.outbox ++ [.can k f.frame])) ∧
    (∀ tec rec : Nat, s.canOn k = true →
      (errorState tec rec ≠ 2 → Completes (.canErrorStateChange k tec rec) s fun t => Quiet t s ∧
        t.can[k].state = errorState tec rec ∧ t.can[k].txErr = tec ∧ t.can[k].rxErr = rec) ∧
      (errorState tec rec = 2 → s.can[k].busOffs = [] → 2 ≤ s.actN (0xB000 + k.val) 0xE → Completes (.canErrorStateChange k tec rec) s fun t =>
        Quiet t s ∧ t.can[k].state = 2 ∧ t.can[k].rx = [] ∧ t.can[k].send = [] ∧ t.can[k].busOffs = [s.now])) ∧
    (s.can[k].state = 2 → exec (.busOffRecoveryDelay k) s = .next { s with
      now := max s.now (s.can[k].busOffs.headD s.now + s.actN (0xB000 + k.val) 0xD * ticksPerMs), can := s.can.set k { s.can[k] with recovering := true } }) ∧
    (s.can[k].state = 2 → s.can[k].recovering = true → Completes (.busOffRecovered k) s fun t => Quiet t s ∧
      t.can[k].state = 0 ∧ t.can[k].txErr = 0 ∧ t.can[k].rxErr = 0 ∧ t.can[k].recovering = false) ∧
    (∀ a, s.can[k].claiming = some a → Completes (.addressClaimTimer k) s fun t => Quiet t s ∧ t.can[k].claiming = none ∧ t.can[k].address = a) ∧
    (∀ peer : Nat,
      (Completes (.isotpTimeout k peer .nCr) s fun t => Quiet t s ∧ t.can[k].rx = s.can[k].rx.filter (fun y => y.peer != peer) ∧
        t.can[k].send = s.can[k].send) ∧
      (∀ (x : CanSend) (why : IsoTpTimeout), s.can[k].send = [x] → x.peer = peer → (why = .nAs ∨ why = .nBs) →
        Completes (.isotpTimeout k peer why) s fun t => Quiet t s ∧ t.can[k].send = [] ∧ t.can[k].rx = s.can[k].rx))

/-- HOST_RESET_DELAY_EXPIRY of a scheduled reset, CLOVE_RESET_REQUEST with no pair answering and PD3 on, PELALE_WATCHDOG_EXPIRY with a bad
store and PD2 on, and SERVICE_PIN_RELEASE with HV present: the boot begins with their cause; every forced pattern, the contactors, the
drive state and Clove but for the brake are kept; the groups are as after reset, no command waits, the DRAM is empty, the NAND stays. A
first PELALE_WATCHDOG_EXPIRY with PD2 on and a good store resets Pelale only: bridges, contactors, Clove and DRAM stay, no command waits.
POWER_ON_RESET with a port that delivers, and SERVICE_PIN_RELEASE without HV: every bridge and group is as after reset, the DRAM is empty,
the NAND and the debug flags stay, no command waits, and a boot that reset Clove begins with its cause; the last, which leaves PD4
powered, keeps the period numbers and dither phases, and starts Clove's test in STANDBY. KEEP_ALIVE_LOSS beside another source only
records the loss; of the only source it loses the same, with its cause, and nothing boots. SERVICE_PIN_ASSERT records the pin. Rests on
R425, R504, R505, R506, R507, R323, R337, R409. -/
def Obligations.ResetRows : Prop :=
  (∀ s : State,
     (∀ (c : Instr) (cause : Nat),
       (c = .hostResetDelayExpiry ∧ s.boot.resetAt.isSome = true ∧ cause = 4 ∨
         c = .cloveResetRequest ∧ s.pwr.domains[3] = true ∧ s.canRun 0 = false ∧ s.canRun 1 = false ∧ cause = 5 ∨
         c = .pelaleWatchdogExpiry false ∧ s.pwr.domains[2] = true ∧ cause = 5 ∨
         c = .servicePinRelease ∧ s.pwr.hv = true ∧ cause = 6) →
       Completes c s fun t => t.boot.cause = cause ∧ t.boot.booting = true ∧ t.boot.resetAt = none ∧ t.cont = s.cont ∧
         t.clove = { s.clove with brakeOn := false, brakeAt := t.clove.brakeAt } ∧ t.gr = State.reset.gr ∧ t.drive.state = s.drive.state ∧
         (∀ b : BridgeId, t.br[b].force.pattern = s.br[b].force.pattern ∧ t.br[b].state ≠ .run) ∧ (∀ q : Fin 4, t.io.cmd[q].waiting = []) ∧
         t.mem.dram = [] ∧ t.mem.nand = s.mem.nand ∧ t.pending = s.pending) ∧
     (s.pwr.domains[2] = true → (∀ u, s.boot.watchdogAt = some u → u + 60 * ticksPerS ≤ s.now) → Completes (.pelaleWatchdogExpiry true) s fun t =>
       t.boot.cause = 3 ∧ t.boot.booting = true ∧ t.boot.watchdogAt = some s.now ∧ t.br = s.br ∧ t.cont = s.cont ∧ t.clove = s.clove ∧
       (∀ q : Fin 4, t.io.cmd[q].waiting = []) ∧ t.transfer = none ∧ t.mem.dram = s.mem.dram ∧ t.mem.nand = s.mem.nand)) ∧
  (∀ s : State,
     (∀ (c : Instr) (cause : Nat),
       (c = .powerOnReset ∧ (∃ p : PortId, s.pwr.delivering[p] = true) ∧ cause = 1 ∨
         c = .servicePinRelease ∧ s.pwr.hv = false ∧ cause = 6) →
       Completes c s fun t => t.boot.cause = cause ∧ t.boot.booting = true ∧ t.boot.cloveReset = true ∧
         (∀ b : BridgeId, t.br[b] = (if cause = 6 then { State.reset.br[b] with car := { State.reset.br[b].car with
           period := s.br[b].car.period, dither := s.br[b].car.dither } } else State.reset.br[b])) ∧ t.gr = State.reset.gr ∧
         t.mem.dram = [] ∧ t.mem.nand = s.mem.nand ∧ (∀ q : Fin 4, t.io.cmd[q].waiting = []) ∧ (∀ q : PairId, t.pairs[q].flag = s.pairs[q].flag) ∧
         t.drive.state = (if cause = 6 then .standby else .sleep) ∧ (cause = 6 → t.clove.testRun = true ∧ t.boot.servicePin = false)) ∧
     ((∃ p : PortId, s.pwr.delivering[p] = true) → exec .keepAliveLoss s = .next { s with pwr := { s.pwr with keepAlive := false } }) ∧
     (s.pwr.keepAlive = true → s.busSource = false → s.pwr.hv = false → Completes .keepAliveLoss s fun t => t.boot.cause = 2 ∧ t.boot.booting = false ∧
       t.pwr.keepAlive = false ∧ t.pwr.domains = State.reset.pwr.domains ∧ t.br = State.reset.br ∧ t.gr = State.reset.gr ∧ t.mem.dram = [] ∧
       t.mem.nand = s.mem.nand ∧ (∀ q : Fin 4, t.io.cmd[q].waiting = []) ∧ (∀ q : PairId, t.pairs[q].flag = s.pairs[q].flag) ∧ t.drive.state = .sleep) ∧
     exec .servicePinAssert s = .next { s with boot := { s.boot with servicePin := true } })

/-- WAKE_SOURCE_ASSERT of an enabled source: while waking it is noted; in the queue wait it abandons the entry; in SLEEP, with a source other
than HV, the boot begins with its reason. DOMAIN_READY while booting on the 12 V bus: PD1 and PD2 first, then the pulse and network PLLs
with PD4 after the core PLL, then PD7 with Clove's start-up test where Clove was reset. BOOT_COMPLETE of a powered boot with no start-up
test due or running and no CAN frame waiting ends the boot and opens a session that is not 0 (its number a free value, log 9); no NAND
byte changes. ALTERNATE_SLOT_CHECK_DONE records the check; FIRMWARE_CONFIRMATION_TIMER confirms a trial image. EPOCH_BOUNDARY with no free
run latches the running counts into the snapshot and counts the epoch. Rests on R350, R351, R355, R401, R497, R508, R509. -/
def Obligations.WakeAndBootRows : Prop :=
  ∀ s : State,
    (∀ k : Fin 11, s.wakeEnabled k.val = true →
      (s.pwr.waking = true → exec (.wakeSourceAssert k) s = .next { s with pwr := { s.pwr with later := Nat.lor s.pwr.later (2 ^ k.val) } }) ∧
      (s.pwr.waking = false → s.drive.sleepStep = 2 → Completes (.wakeSourceAssert k) s fun t =>
        t.silent = { s.silent with drive := { s.drive with sleepStep := 0 }, pwr := { s.pwr with reason := k.val } }) ∧
      (s.pwr.waking = false → s.drive.sleepStep ≠ 2 → s.cont.hvWake = false → s.drive.state = .sleep → k.val ≠ 8 →
        Completes (.wakeSourceAssert k) s fun t => t.boot.booting = true ∧ t.pwr.reason = k.val ∧ t.pwr.waking = true ∧ t.br = s.br ∧ t.gr = s.gr ∧
          t.mem.nand = s.mem.nand ∧ t.mem.dram = s.mem.dram ∧ t.drive = s.drive)) ∧
    (s.boot.booting = true → s.busSource = true →
      ((s.pwr.domains[1] = false ∨ s.pwr.domains[2] = false) → exec .domainReady s = .next { s with pwr := { s.pwr with
        domains := (s.pwr.domains.set 1 true).set 2 true } }) ∧
      (s.pwr.domains[1] = true → s.pwr.domains[2] = true → s.pwr.pll[0] = true → s.pwr.pll[1] = false → exec .domainReady s = .next { s with pwr := (
        { s.pwr with domains := s.pwr.domains.set 4 true, pll := .replicate 3 true }) }) ∧
      (s.pwr.domains[1] = true → s.pwr.domains[2] = true → s.pwr.pll[0] = true → s.pwr.pll[1] = true → s.boot.testDue = true → s.boot.cloveReset = true →
        s.clove.testRun = false → exec .domainReady s = .next { s with pwr := { s.pwr with domains := s.pwr.domains.set 7 true },
                                                                       clove := { s.clove with testRun := true } })) ∧
    (s.boot.booting = true → s.bootPowered = true → s.boot.testDue = false → s.clove.testRun = false → (∀ k : CanId, s.can[k].high = [] ∧ s.can[k].fifo = []) →
      Completes .bootComplete s fun t => t.boot.booting = false ∧ t.io.session = s.nextFree 32 % (2 ^ 32 - 1) + 1 ∧ t.mem.nand = s.mem.nand) ∧
    (s.boot.booting = false → Completes .alternateSlotCheckDone s fun t =>
      t.silent = { s.silent with boot := { s.boot with alternateOk := s.fwPasses (otherFw s.boot.slot) } }) ∧
    (∀ u, s.boot.standbyAt = some u → s.boot.confirmed = false → s.boot.recovery = false → Completes .firmwareConfirmationTimer s fun t =>
      t.silent = { s.silent with now := max s.now (u + s.actN 0xF020 2 * ticksPerS), mem := { s.mem with journal := t.mem.journal },
                                 boot := { s.boot with confirmed := true, trial := 0 } }) ∧
    (∀ t0 : Nat, (setNow t0 s).epochDue = true → s.time.freeSince = none → Completes (.epochBoundary t0) s fun t => t.st.snapshot = s.st.running ∧ t.st.snapNumber = s.st.epoch ∧
      t.st.epoch = (s.st.epoch + 1) % 2 ^ 32 ∧ t.silent = { s.silent with now := max s.now t0, arb := t.arb, par := (
        s.par.activateWhere fun x => effectOf x == 4) })

/-- For every command and every state, exec answers a next state. Where the spec rejects a command, the rejection is its completion; where a
value is open, it is a free value (log 9); where an event finds the machine in a state in which it cannot occur, it changes nothing. Rests
on spec/15_command_set.md, spec/00_scope.md. -/
def Obligations.EveryCommandRuns : Prop :=
  ∀ (c : Instr) (s : State), ∃ t, exec c s = .next t

/-- After reset the queue of commands is empty; every object has its default, stored and active; every command, completion and event queue is
empty with index 0; no transfer, stream or commit runs; the NAND and the DRAM read 0 (the model's choice, log 10) and are in canonical
form, the objects too; every position is off and no bridge is forced; every contactor is open and none welded; the reset cause is power-on
and the boot is in progress. That reset is the power-on of a unit as delivered is the model's choice (log 4). Rests on R255, R399, R504,
R506, R510, log 4, log 10. -/
def Obligations.ResetLeavesTheUnitAsDelivered : Prop :=
  State.reset.pending = [] ∧ (∀ i k : Nat, State.reset.act i k = objDefault i k ∧ State.reset.sto i k = objDefault i k) ∧
    (∀ q : Fin 4, State.reset.io.cmd[q].waiting = [] ∧ State.reset.io.cmd[q].consumer = 0) ∧
    (∀ q : QueueId, State.reset.io.out[q].entries = [] ∧ State.reset.io.out[q].consumer = 0) ∧
    State.reset.transfer = none ∧ State.reset.par.commit = none ∧ (∀ k : StreamId, State.reset.streams[k].running = false) ∧
    (∀ a : Nat, readByte a State.reset.mem.dram = 0 ∧ readByte a State.reset.mem.nand = 0) ∧
    State.reset.mem.wf = true ∧ State.reset.par.wf = true ∧ State.reset.st.bounded = true ∧
    (∀ b : BridgeId, State.reset.br[b].state = .standby ∧ State.reset.br[b].force.sources = [] ∧ ∀ k : Fin 6, (State.reset.br[b].pos[k]).on = false) ∧
    (∀ k : Fin 3, State.reset.cont.coil[k] = false) ∧ State.reset.cont.weld = false ∧ State.reset.boot.cause = 1 ∧ State.reset.boot.booting = true

/-- From every state whose two memories list rising addresses and no zero byte, a step to a next state, of whatever command, leaves both in
that form: equal memories stay equal data (log 10). Rests on R173, R378, R381, log 10. -/
def Obligations.StepKeepsMemoryCanonical : Prop :=
  ∀ s t : State, s.mem.wf = true → step s = .next t → t.mem.wf = true

/-- From every state whose object lists and parameter images, that of a commit in progress among them, have strictly rising keys, a step to a
next state leaves them so: each object has one stored and one active value (R15), whatever command writes it. Rests on R15, R427, R429,
R510. -/
def Obligations.StepKeepsObjectsCanonical : Prop :=
  ∀ s t : State, s.par.wf = true → step s = .next t → t.par.wf = true

/-- From every state in which no statistics counter and no latched counter exceeds 0xFFFF_FFFF, a step to a next state leaves none above it.
Rests on R498. -/
def Obligations.StepKeepsCountersBounded : Prop :=
  ∀ s t : State, s.st.bounded = true → step s = .next t → t.st.bounded = true

/-- For every command and every state: the next state has the same queue of commands, its clock has not gone back, and its count of free
values drawn has not fallen. This holds through resets, sleep and power loss too (the time model is log 1, free values are log 9). Rests
on R16, log 1, log 9. -/
def Obligations.CommandsLeaveTheQueueAndTheClock : Prop :=
  ∀ (c : Instr) (s t : State), exec c s = .next t → t.pending = s.pending ∧ s.now ≤ t.now ∧ s.freeCount ≤ t.freeCount

/-- For each BEGIN command, in its queue, with its operand count and its target: an atlas file of another length than 268,436,544 bytes, a
firmware file outside 129 to 134,217,728 bytes, and a parameter file outside 88 to 1,048,576 bytes or not 64 plus a multiple of 24,
completes with status 0x14 and word 1, and nothing but the reports changes; with a length that the rule gives, no transfer in progress and
the target's own conditions met, the transfer begins. Rests on R433. -/
def Obligations.FileLengthsAreChecked : Prop :=
  ∀ (e : CmdEntry) (s : State) (c : Instr) (k : TransferKind) (code : Nat) (good : Bool), bits 7 0 (e.word 1) = 1 → s.admits e code [3] 1 →
    (c = .atlasUploadBegin e ∧ code = 0x0504 ∧ (∃ g, groupOperand (bits 15 8 (e.word 1)) = some g ∧ k = .atlas g) ∧
        good = decide (bits 63 32 (e.word 1) = 268436544) ∨
      c = .firmwareUploadBegin e ∧ code = 0x0801 ∧ bits 15 8 (e.word 1) = 0 ∧ k = .firmware ∧
        good = decide (129 ≤ bits 63 32 (e.word 1) ∧ bits 63 32 (e.word 1) ≤ 134217728) ∨
      c = .paramUploadBegin e ∧ code = 0x0404 ∧ bits 15 8 (e.word 1) = 0 ∧ k = .parameters ∧
        good = decide (88 ≤ bits 63 32 (e.word 1) ∧ bits 63 32 (e.word 1) ≤ 1048576 ∧ (bits 63 32 (e.word 1) - 64) % 24 = 0)) →
    (good = false → Completes c s fun t => Quiet t s ∧ t.answered (e.ref code) stRange [1]) ∧
    (good = true → s.transfer = none → s.transferAllowed k = true → Completes c s fun t => t.answered (e.ref code) stOk [1400] ∧
      ∃ u, t.transfer = some u ∧ u.kind = k ∧ u.length = bits 63 32 (e.word 1) ∧ u.received = 0)

/-- For every slot s of the round, the default of 0x7081 for that slot, which is its value after reset, is the requester that R384 gives its
residue, and each requester owns the number of slots that R384 counts. Rests on R384. -/
def Obligations.DefaultBaseTable : Prop :=
  (∀ s : Fin 64, State.reset.act 0x7081 (s.val + 1) =
    (if s.val % 4 = 0 then 0 else if s.val % 8 = 2 then 1 else if s.val % 8 = 6 then 2 else if s.val % 8 = 1 then 3 else if s.val % 8 = 5 then 4
     else if s.val % 8 = 3 then 6 else if s.val % 16 = 7 then 5 else 7)) ∧
    (List.range 8).map (fun r => ((List.finRange 64).filter fun s : Fin 64 => State.reset.act 0x7081 (s.val + 1) == (r : Int)).length) =
      [16, 8, 8, 8, 8, 4, 8, 4]

/-- For every state and position: 0x306C reads a word below 2^11 whose bits 0 to 7 show rail ready, rail in undervoltage, retry pending,
latched, soft turn-off in progress, island link valid, gate above threshold and cross-check hold active, and whose bits 10 to 8 show the
tries within the retry window. Rests on R112. -/
def Obligations.IslandStateFields : Prop :=
  ∀ (s : State) (p : PosId), ∃ w : Nat, s.readback 0x306C (p.val + 1) = some (w : Int) ∧ w < 2 ^ 11 ∧
    bitAt 0 w = (s.pos p).railReady ∧ bitAt 1 w = (s.pos p).railUv ∧ bitAt 2 w = (s.pos p).retry.isSome ∧ bitAt 3 w = (s.pos p).latched ∧
    bitAt 4 w = decide ((s.pos p).soft ≠ 0) ∧ bitAt 5 w = (s.pos p).linkValid ∧ bitAt 6 w = (s.pos p).above ∧ bitAt 7 w = (s.pos p).hold.isSome ∧
    bits 10 8 w = ((s.pos p).tries.filter fun t => decide (s.now < t + s.actN 0x3040 3 * ticksPerS)).length % 8

/-- For a group with a bridge in RUN whose SS1 is in progress, every further source: nothing but the reports changes, so that neither n0 nor
the SS1 timer restarts, and where the event queue takes it the newest event is E-8010 of the group with the source and flag 0. SS1.REQUEST
on such a group alone is such a source. Rests on R279. -/
def Obligations.FurtherSs1Source : Prop :=
  ∀ (s : State) (g : GroupId), s.running g ≠ [] → s.gr[g].ss1.any (fun x => decide (x.goal = 0)) = true → s.test.fired = [] →
    (∀ src : Nat, Quiet (ss1Source g src s) s ∧
      (s.logs 0x8010 → (ss1Source g src s).logged 0x8010 3 (s.groupIndex g) [(g.val + 1 : Int), (src : Int), 0])) ∧
    (∀ e : CmdEntry, s.admits e 0x0301 [0] 1 → groupsOfMask (bits 3 0 (e.word 1)) = [g] → Completes (.ss1Request e) s fun t =>
      t.silent = { s.silent with drive := t.drive } ∧ (s.logs 0x8010 → t.logged 0x8010 3 (s.groupIndex g) [(g.val + 1 : Int), 1, 0]))

/-- A PARAM.WRITE of one of the objects of R501 on Q2, with every bridge in STANDBY or LOCKOUT: a value in the object's range is stored and
the command completes with OK; any other value completes with REJECTED-RANGE and changes nothing but the reports. The same for 0x8105.01
and .02 on Q0; on Q2 a write of these completes with the authentication-failure status and changes nothing but the reports. Rests on R501,
R539. -/
def Obligations.WritableRangesOfTests : Prop :=
  ∀ (e : CmdEntry) (s : State) (x : WriteEntry) (i k ty lo hi : Nat), writeEntries e.ops = [x] → e.ops.length = 3 → s.boot.recovery = false →
    x.clean = true → s.writable = true → s.par.wf = true → x.index = i → x.sub = k → x.ty = ty →
    (((i, k, ty, lo, hi) ∈ [(0xD000, 1, 1, 0, 1), (0xD100, 1, 1, 0, 1), (0xD000, 3, 1, 2, 64), (0xD100, 3, 2, 100, 60000), (0xD100, 4, 2, 10, 10000),
          (0xE000, 1, 3, 1, 60000)] ∨ 0xD010 ≤ i ∧ i ≤ 0xD01B ∧ k = 1 ∧ ty = 3 ∧ lo = 100 ∧ hi = 3600000) → e.queue = 2 →
      ((x.raw < lo ∨ hi < x.raw) → Completes (.paramWrite e) s fun t => Quiet t s ∧ ∃ w, t.answered (e.ref 0x0402) stRange [w]) ∧
      (lo ≤ x.raw → x.raw ≤ hi → Completes (.paramWrite e) s fun t => t.answered (e.ref 0x0402) stOk [] ∧ t.par.storedOf i k = x.raw)) ∧
    ((i, k, ty, lo, hi) ∈ [(0x8105, 1, 2, 100, 1620), (0x8105, 2, 2, 2, 1000)] →
      (e.queue = 2 → Completes (.paramWrite e) s fun t => Quiet t s ∧ ∃ w, t.answered (e.ref 0x0402) stAuth [w]) ∧
      (e.queue = 0 → s.authOk 0x0402 false e = true →
        ((x.raw < lo ∨ hi < x.raw) → Completes (.paramWrite e) s fun t => Quiet t s ∧ ∃ w, t.answered (e.ref 0x0402) stRange [w]) ∧
        (lo ≤ x.raw → x.raw ≤ hi → Completes (.paramWrite e) s fun t => t.answered (e.ref 0x0402) stOk [] ∧ t.par.storedOf i k = x.raw)))
end

