-- ==== Sys2Proof/Laws/State.lean ====
section
/-! SUPPORT. What each named update leaves alone: one lemma per field. -/

namespace Sys2Proof.Machine

@[simp] theorem modBr_pending (b : BridgeId) (f : Bridge → Bridge) (s : State) : (modBr b f s).pending = s.pending := rfl
@[simp] theorem modBr_now (b : BridgeId) (f : Bridge → Bridge) (s : State) : (modBr b f s).now = s.now := rfl
@[simp] theorem modBr_freeCount (b : BridgeId) (f : Bridge → Bridge) (s : State) : (modBr b f s).freeCount = s.freeCount := rfl
@[simp] theorem modBr_par (b : BridgeId) (f : Bridge → Bridge) (s : State) : (modBr b f s).par = s.par := rfl
@[simp] theorem modBr_io (b : BridgeId) (f : Bridge → Bridge) (s : State) : (modBr b f s).io = s.io := rfl
@[simp] theorem modBr_transfer (b : BridgeId) (f : Bridge → Bridge) (s : State) : (modBr b f s).transfer = s.transfer := rfl
@[simp] theorem modBr_st (b : BridgeId) (f : Bridge → Bridge) (s : State) : (modBr b f s).st = s.st := rfl
@[simp] theorem modBr_mem (b : BridgeId) (f : Bridge → Bridge) (s : State) : (modBr b f s).mem = s.mem := rfl
@[simp] theorem modBr_arb (b : BridgeId) (f : Bridge → Bridge) (s : State) : (modBr b f s).arb = s.arb := rfl
@[simp] theorem modBr_streams (b : BridgeId) (f : Bridge → Bridge) (s : State) : (modBr b f s).streams = s.streams := rfl
@[simp] theorem modBr_test (b : BridgeId) (f : Bridge → Bridge) (s : State) : (modBr b f s).test = s.test := rfl
@[simp] theorem modBr_boot (b : BridgeId) (f : Bridge → Bridge) (s : State) : (modBr b f s).boot = s.boot := rfl
@[simp] theorem modBr_gr (b : BridgeId) (f : Bridge → Bridge) (s : State) : (modBr b f s).gr = s.gr := rfl
@[simp] theorem modBr_drive (b : BridgeId) (f : Bridge → Bridge) (s : State) : (modBr b f s).drive = s.drive := rfl
@[simp] theorem modBr_cont (b : BridgeId) (f : Bridge → Bridge) (s : State) : (modBr b f s).cont = s.cont := rfl
@[simp] theorem modBr_clove (b : BridgeId) (f : Bridge → Bridge) (s : State) : (modBr b f s).clove = s.clove := rfl
@[simp] theorem modBr_pairs (b : BridgeId) (f : Bridge → Bridge) (s : State) : (modBr b f s).pairs = s.pairs := rfl
@[simp] theorem modBr_place (b : BridgeId) (f : Bridge → Bridge) (s : State) : (modBr b f s).place = s.place := rfl
@[simp] theorem modBr_pwr (b : BridgeId) (f : Bridge → Bridge) (s : State) : (modBr b f s).pwr = s.pwr := rfl
@[simp] theorem modBr_die (b : BridgeId) (f : Bridge → Bridge) (s : State) : (modBr b f s).die = s.die := rfl
@[simp] theorem modBr_sense (b : BridgeId) (f : Bridge → Bridge) (s : State) : (modBr b f s).sense = s.sense := rfl
@[simp] theorem modBr_net (b : BridgeId) (f : Bridge → Bridge) (s : State) : (modBr b f s).net = s.net := rfl
@[simp] theorem modBr_time (b : BridgeId) (f : Bridge → Bridge) (s : State) : (modBr b f s).time = s.time := rfl
@[simp] theorem modBr_can (b : BridgeId) (f : Bridge → Bridge) (s : State) : (modBr b f s).can = s.can := rfl
@[simp] theorem modGr_pending (g : GroupId) (f : Group → Group) (s : State) : (modGr g f s).pending = s.pending := rfl
@[simp] theorem modGr_now (g : GroupId) (f : Group → Group) (s : State) : (modGr g f s).now = s.now := rfl
@[simp] theorem modGr_freeCount (g : GroupId) (f : Group → Group) (s : State) : (modGr g f s).freeCount = s.freeCount := rfl
@[simp] theorem modGr_par (g : GroupId) (f : Group → Group) (s : State) : (modGr g f s).par = s.par := rfl
@[simp] theorem modGr_io (g : GroupId) (f : Group → Group) (s : State) : (modGr g f s).io = s.io := rfl
@[simp] theorem modGr_transfer (g : GroupId) (f : Group → Group) (s : State) : (modGr g f s).transfer = s.transfer := rfl
@[simp] theorem modGr_st (g : GroupId) (f : Group → Group) (s : State) : (modGr g f s).st = s.st := rfl
@[simp] theorem modGr_mem (g : GroupId) (f : Group → Group) (s : State) : (modGr g f s).mem = s.mem := rfl
@[simp] theorem modGr_arb (g : GroupId) (f : Group → Group) (s : State) : (modGr g f s).arb = s.arb := rfl
@[simp] theorem modGr_streams (g : GroupId) (f : Group → Group) (s : State) : (modGr g f s).streams = s.streams := rfl
@[simp] theorem modGr_test (g : GroupId) (f : Group → Group) (s : State) : (modGr g f s).test = s.test := rfl
@[simp] theorem modGr_boot (g : GroupId) (f : Group → Group) (s : State) : (modGr g f s).boot = s.boot := rfl
@[simp] theorem modGr_br (g : GroupId) (f : Group → Group) (s : State) : (modGr g f s).br = s.br := rfl
@[simp] theorem modGr_drive (g : GroupId) (f : Group → Group) (s : State) : (modGr g f s).drive = s.drive := rfl
@[simp] theorem modGr_cont (g : GroupId) (f : Group → Group) (s : State) : (modGr g f s).cont = s.cont := rfl
@[simp] theorem modGr_clove (g : GroupId) (f : Group → Group) (s : State) : (modGr g f s).clove = s.clove := rfl
@[simp] theorem modGr_pairs (g : GroupId) (f : Group → Group) (s : State) : (modGr g f s).pairs = s.pairs := rfl
@[simp] theorem modGr_place (g : GroupId) (f : Group → Group) (s : State) : (modGr g f s).place = s.place := rfl
@[simp] theorem modGr_pwr (g : GroupId) (f : Group → Group) (s : State) : (modGr g f s).pwr = s.pwr := rfl
@[simp] theorem modGr_die (g : GroupId) (f : Group → Group) (s : State) : (modGr g f s).die = s.die := rfl
@[simp] theorem modGr_sense (g : GroupId) (f : Group → Group) (s : State) : (modGr g f s).sense = s.sense := rfl
@[simp] theorem modGr_net (g : GroupId) (f : Group → Group) (s : State) : (modGr g f s).net = s.net := rfl
@[simp] theorem modGr_time (g : GroupId) (f : Group → Group) (s : State) : (modGr g f s).time = s.time := rfl
@[simp] theorem modGr_can (g : GroupId) (f : Group → Group) (s : State) : (modGr g f s).can = s.can := rfl
@[simp] theorem modLeg_pending (l : LegId) (f : Leg → Leg) (s : State) : (modLeg l f s).pending = s.pending := rfl
@[simp] theorem modLeg_now (l : LegId) (f : Leg → Leg) (s : State) : (modLeg l f s).now = s.now := rfl
@[simp] theorem modLeg_freeCount (l : LegId) (f : Leg → Leg) (s : State) : (modLeg l f s).freeCount = s.freeCount := rfl
@[simp] theorem modLeg_par (l : LegId) (f : Leg → Leg) (s : State) : (modLeg l f s).par = s.par := rfl
@[simp] theorem modLeg_io (l : LegId) (f : Leg → Leg) (s : State) : (modLeg l f s).io = s.io := rfl
@[simp] theorem modLeg_transfer (l : LegId) (f : Leg → Leg) (s : State) : (modLeg l f s).transfer = s.transfer := rfl
@[simp] theorem modLeg_st (l : LegId) (f : Leg → Leg) (s : State) : (modLeg l f s).st = s.st := rfl
@[simp] theorem modLeg_mem (l : LegId) (f : Leg → Leg) (s : State) : (modLeg l f s).mem = s.mem := rfl
@[simp] theorem modLeg_arb (l : LegId) (f : Leg → Leg) (s : State) : (modLeg l f s).arb = s.arb := rfl
@[simp] theorem modLeg_streams (l : LegId) (f : Leg → Leg) (s : State) : (modLeg l f s).streams = s.streams := rfl
@[simp] theorem modLeg_test (l : LegId) (f : Leg → Leg) (s : State) : (modLeg l f s).test = s.test := rfl
@[simp] theorem modLeg_boot (l : LegId) (f : Leg → Leg) (s : State) : (modLeg l f s).boot = s.boot := rfl
@[simp] theorem modLeg_gr (l : LegId) (f : Leg → Leg) (s : State) : (modLeg l f s).gr = s.gr := rfl
@[simp] theorem modLeg_drive (l : LegId) (f : Leg → Leg) (s : State) : (modLeg l f s).drive = s.drive := rfl
@[simp] theorem modLeg_cont (l : LegId) (f : Leg → Leg) (s : State) : (modLeg l f s).cont = s.cont := rfl
@[simp] theorem modLeg_clove (l : LegId) (f : Leg → Leg) (s : State) : (modLeg l f s).clove = s.clove := rfl
@[simp] theorem modLeg_pairs (l : LegId) (f : Leg → Leg) (s : State) : (modLeg l f s).pairs = s.pairs := rfl
@[simp] theorem modLeg_place (l : LegId) (f : Leg → Leg) (s : State) : (modLeg l f s).place = s.place := rfl
@[simp] theorem modLeg_pwr (l : LegId) (f : Leg → Leg) (s : State) : (modLeg l f s).pwr = s.pwr := rfl
@[simp] theorem modLeg_die (l : LegId) (f : Leg → Leg) (s : State) : (modLeg l f s).die = s.die := rfl
@[simp] theorem modLeg_sense (l : LegId) (f : Leg → Leg) (s : State) : (modLeg l f s).sense = s.sense := rfl
@[simp] theorem modLeg_net (l : LegId) (f : Leg → Leg) (s : State) : (modLeg l f s).net = s.net := rfl
@[simp] theorem modLeg_time (l : LegId) (f : Leg → Leg) (s : State) : (modLeg l f s).time = s.time := rfl
@[simp] theorem modLeg_can (l : LegId) (f : Leg → Leg) (s : State) : (modLeg l f s).can = s.can := rfl
@[simp] theorem modPos_pending (p : PosId) (f : Position → Position) (s : State) : (modPos p f s).pending = s.pending := rfl
@[simp] theorem modPos_now (p : PosId) (f : Position → Position) (s : State) : (modPos p f s).now = s.now := rfl
@[simp] theorem modPos_freeCount (p : PosId) (f : Position → Position) (s : State) : (modPos p f s).freeCount = s.freeCount := rfl
@[simp] theorem modPos_par (p : PosId) (f : Position → Position) (s : State) : (modPos p f s).par = s.par := rfl
@[simp] theorem modPos_io (p : PosId) (f : Position → Position) (s : State) : (modPos p f s).io = s.io := rfl
@[simp] theorem modPos_transfer (p : PosId) (f : Position → Position) (s : State) : (modPos p f s).transfer = s.transfer := rfl
@[simp] theorem modPos_st (p : PosId) (f : Position → Position) (s : State) : (modPos p f s).st = s.st := rfl
@[simp] theorem modPos_mem (p : PosId) (f : Position → Position) (s : State) : (modPos p f s).mem = s.mem := rfl
@[simp] theorem modPos_arb (p : PosId) (f : Position → Position) (s : State) : (modPos p f s).arb = s.arb := rfl
@[simp] theorem modPos_streams (p : PosId) (f : Position → Position) (s : State) : (modPos p f s).streams = s.streams := rfl
@[simp] theorem modPos_test (p : PosId) (f : Position → Position) (s : State) : (modPos p f s).test = s.test := rfl
@[simp] theorem modPos_boot (p : PosId) (f : Position → Position) (s : State) : (modPos p f s).boot = s.boot := rfl
@[simp] theorem modPos_gr (p : PosId) (f : Position → Position) (s : State) : (modPos p f s).gr = s.gr := rfl
@[simp] theorem modPos_drive (p : PosId) (f : Position → Position) (s : State) : (modPos p f s).drive = s.drive := rfl
@[simp] theorem modPos_cont (p : PosId) (f : Position → Position) (s : State) : (modPos p f s).cont = s.cont := rfl
@[simp] theorem modPos_clove (p : PosId) (f : Position → Position) (s : State) : (modPos p f s).clove = s.clove := rfl
@[simp] theorem modPos_pairs (p : PosId) (f : Position → Position) (s : State) : (modPos p f s).pairs = s.pairs := rfl
@[simp] theorem modPos_place (p : PosId) (f : Position → Position) (s : State) : (modPos p f s).place = s.place := rfl
@[simp] theorem modPos_pwr (p : PosId) (f : Position → Position) (s : State) : (modPos p f s).pwr = s.pwr := rfl
@[simp] theorem modPos_die (p : PosId) (f : Position → Position) (s : State) : (modPos p f s).die = s.die := rfl
@[simp] theorem modPos_sense (p : PosId) (f : Position → Position) (s : State) : (modPos p f s).sense = s.sense := rfl
@[simp] theorem modPos_net (p : PosId) (f : Position → Position) (s : State) : (modPos p f s).net = s.net := rfl
@[simp] theorem modPos_time (p : PosId) (f : Position → Position) (s : State) : (modPos p f s).time = s.time := rfl
@[simp] theorem modPos_can (p : PosId) (f : Position → Position) (s : State) : (modPos p f s).can = s.can := rfl
@[simp] theorem modOut_pending (q : QueueId) (f : OutQueue → OutQueue) (s : State) : (modOut q f s).pending = s.pending := rfl
@[simp] theorem modOut_now (q : QueueId) (f : OutQueue → OutQueue) (s : State) : (modOut q f s).now = s.now := rfl
@[simp] theorem modOut_freeCount (q : QueueId) (f : OutQueue → OutQueue) (s : State) : (modOut q f s).freeCount = s.freeCount := rfl
@[simp] theorem modOut_par (q : QueueId) (f : OutQueue → OutQueue) (s : State) : (modOut q f s).par = s.par := rfl
@[simp] theorem modOut_transfer (q : QueueId) (f : OutQueue → OutQueue) (s : State) : (modOut q f s).transfer = s.transfer := rfl
@[simp] theorem modOut_st (q : QueueId) (f : OutQueue → OutQueue) (s : State) : (modOut q f s).st = s.st := rfl
@[simp] theorem modOut_mem (q : QueueId) (f : OutQueue → OutQueue) (s : State) : (modOut q f s).mem = s.mem := rfl
@[simp] theorem modOut_arb (q : QueueId) (f : OutQueue → OutQueue) (s : State) : (modOut q f s).arb = s.arb := rfl
@[simp] theorem modOut_streams (q : QueueId) (f : OutQueue → OutQueue) (s : State) : (modOut q f s).streams = s.streams := rfl
@[simp] theorem modOut_test (q : QueueId) (f : OutQueue → OutQueue) (s : State) : (modOut q f s).test = s.test := rfl
@[simp] theorem modOut_boot (q : QueueId) (f : OutQueue → OutQueue) (s : State) : (modOut q f s).boot = s.boot := rfl
@[simp] theorem modOut_br (q : QueueId) (f : OutQueue → OutQueue) (s : State) : (modOut q f s).br = s.br := rfl
@[simp] theorem modOut_gr (q : QueueId) (f : OutQueue → OutQueue) (s : State) : (modOut q f s).gr = s.gr := rfl
@[simp] theorem modOut_drive (q : QueueId) (f : OutQueue → OutQueue) (s : State) : (modOut q f s).drive = s.drive := rfl
@[simp] theorem modOut_cont (q : QueueId) (f : OutQueue → OutQueue) (s : State) : (modOut q f s).cont = s.cont := rfl
@[simp] theorem modOut_clove (q : QueueId) (f : OutQueue → OutQueue) (s : State) : (modOut q f s).clove = s.clove := rfl
@[simp] theorem modOut_pairs (q : QueueId) (f : OutQueue → OutQueue) (s : State) : (modOut q f s).pairs = s.pairs := rfl
@[simp] theorem modOut_place (q : QueueId) (f : OutQueue → OutQueue) (s : State) : (modOut q f s).place = s.place := rfl
@[simp] theorem modOut_pwr (q : QueueId) (f : OutQueue → OutQueue) (s : State) : (modOut q f s).pwr = s.pwr := rfl
@[simp] theorem modOut_die (q : QueueId) (f : OutQueue → OutQueue) (s : State) : (modOut q f s).die = s.die := rfl
@[simp] theorem modOut_sense (q : QueueId) (f : OutQueue → OutQueue) (s : State) : (modOut q f s).sense = s.sense := rfl
@[simp] theorem modOut_net (q : QueueId) (f : OutQueue → OutQueue) (s : State) : (modOut q f s).net = s.net := rfl
@[simp] theorem modOut_time (q : QueueId) (f : OutQueue → OutQueue) (s : State) : (modOut q f s).time = s.time := rfl
@[simp] theorem modOut_can (q : QueueId) (f : OutQueue → OutQueue) (s : State) : (modOut q f s).can = s.can := rfl
@[simp] theorem modCmd_pending (q : Fin 4) (f : CmdQueue → CmdQueue) (s : State) : (modCmd q f s).pending = s.pending := rfl
@[simp] theorem modCmd_now (q : Fin 4) (f : CmdQueue → CmdQueue) (s : State) : (modCmd q f s).now = s.now := rfl
@[simp] theorem modCmd_freeCount (q : Fin 4) (f : CmdQueue → CmdQueue) (s : State) : (modCmd q f s).freeCount = s.freeCount := rfl
@[simp] theorem modCmd_par (q : Fin 4) (f : CmdQueue → CmdQueue) (s : State) : (modCmd q f s).par = s.par := rfl
@[simp] theorem modCmd_transfer (q : Fin 4) (f : CmdQueue → CmdQueue) (s : State) : (modCmd q f s).transfer = s.transfer := rfl
@[simp] theorem modCmd_st (q : Fin 4) (f : CmdQueue → CmdQueue) (s : State) : (modCmd q f s).st = s.st := rfl
@[simp] theorem modCmd_mem (q : Fin 4) (f : CmdQueue → CmdQueue) (s : State) : (modCmd q f s).mem = s.mem := rfl
@[simp] theorem modCmd_arb (q : Fin 4) (f : CmdQueue → CmdQueue) (s : State) : (modCmd q f s).arb = s.arb := rfl
@[simp] theorem modCmd_streams (q : Fin 4) (f : CmdQueue → CmdQueue) (s : State) : (modCmd q f s).streams = s.streams := rfl
@[simp] theorem modCmd_test (q : Fin 4) (f : CmdQueue → CmdQueue) (s : State) : (modCmd q f s).test = s.test := rfl
@[simp] theorem modCmd_boot (q : Fin 4) (f : CmdQueue → CmdQueue) (s : State) : (modCmd q f s).boot = s.boot := rfl
@[simp] theorem modCmd_br (q : Fin 4) (f : CmdQueue → CmdQueue) (s : State) : (modCmd q f s).br = s.br := rfl
@[simp] theorem modCmd_gr (q : Fin 4) (f : CmdQueue → CmdQueue) (s : State) : (modCmd q f s).gr = s.gr := rfl
@[simp] theorem modCmd_drive (q : Fin 4) (f : CmdQueue → CmdQueue) (s : State) : (modCmd q f s).drive = s.drive := rfl
@[simp] theorem modCmd_cont (q : Fin 4) (f : CmdQueue → CmdQueue) (s : State) : (modCmd q f s).cont = s.cont := rfl
@[simp] theorem modCmd_clove (q : Fin 4) (f : CmdQueue → CmdQueue) (s : State) : (modCmd q f s).clove = s.clove := rfl
@[simp] theorem modCmd_pairs (q : Fin 4) (f : CmdQueue → CmdQueue) (s : State) : (modCmd q f s).pairs = s.pairs := rfl
@[simp] theorem modCmd_place (q : Fin 4) (f : CmdQueue → CmdQueue) (s : State) : (modCmd q f s).place = s.place := rfl
@[simp] theorem modCmd_pwr (q : Fin 4) (f : CmdQueue → CmdQueue) (s : State) : (modCmd q f s).pwr = s.pwr := rfl
@[simp] theorem modCmd_die (q : Fin 4) (f : CmdQueue → CmdQueue) (s : State) : (modCmd q f s).die = s.die := rfl
@[simp] theorem modCmd_sense (q : Fin 4) (f : CmdQueue → CmdQueue) (s : State) : (modCmd q f s).sense = s.sense := rfl
@[simp] theorem modCmd_net (q : Fin 4) (f : CmdQueue → CmdQueue) (s : State) : (modCmd q f s).net = s.net := rfl
@[simp] theorem modCmd_time (q : Fin 4) (f : CmdQueue → CmdQueue) (s : State) : (modCmd q f s).time = s.time := rfl
@[simp] theorem modCmd_can (q : Fin 4) (f : CmdQueue → CmdQueue) (s : State) : (modCmd q f s).can = s.can := rfl
@[simp] theorem modCan_pending (c : CanId) (f : Can → Can) (s : State) : (modCan c f s).pending = s.pending := rfl
@[simp] theorem modCan_now (c : CanId) (f : Can → Can) (s : State) : (modCan c f s).now = s.now := rfl
@[simp] theorem modCan_freeCount (c : CanId) (f : Can → Can) (s : State) : (modCan c f s).freeCount = s.freeCount := rfl
@[simp] theorem modCan_par (c : CanId) (f : Can → Can) (s : State) : (modCan c f s).par = s.par := rfl
@[simp] theorem modCan_io (c : CanId) (f : Can → Can) (s : State) : (modCan c f s).io = s.io := rfl
@[simp] theorem modCan_transfer (c : CanId) (f : Can → Can) (s : State) : (modCan c f s).transfer = s.transfer := rfl
@[simp] theorem modCan_st (c : CanId) (f : Can → Can) (s : State) : (modCan c f s).st = s.st := rfl
@[simp] theorem modCan_mem (c : CanId) (f : Can → Can) (s : State) : (modCan c f s).mem = s.mem := rfl
@[simp] theorem modCan_arb (c : CanId) (f : Can → Can) (s : State) : (modCan c f s).arb = s.arb := rfl
@[simp] theorem modCan_streams (c : CanId) (f : Can → Can) (s : State) : (modCan c f s).streams = s.streams := rfl
@[simp] theorem modCan_test (c : CanId) (f : Can → Can) (s : State) : (modCan c f s).test = s.test := rfl
@[simp] theorem modCan_boot (c : CanId) (f : Can → Can) (s : State) : (modCan c f s).boot = s.boot := rfl
@[simp] theorem modCan_br (c : CanId) (f : Can → Can) (s : State) : (modCan c f s).br = s.br := rfl
@[simp] theorem modCan_gr (c : CanId) (f : Can → Can) (s : State) : (modCan c f s).gr = s.gr := rfl
@[simp] theorem modCan_drive (c : CanId) (f : Can → Can) (s : State) : (modCan c f s).drive = s.drive := rfl
@[simp] theorem modCan_cont (c : CanId) (f : Can → Can) (s : State) : (modCan c f s).cont = s.cont := rfl
@[simp] theorem modCan_clove (c : CanId) (f : Can → Can) (s : State) : (modCan c f s).clove = s.clove := rfl
@[simp] theorem modCan_pairs (c : CanId) (f : Can → Can) (s : State) : (modCan c f s).pairs = s.pairs := rfl
@[simp] theorem modCan_place (c : CanId) (f : Can → Can) (s : State) : (modCan c f s).place = s.place := rfl
@[simp] theorem modCan_pwr (c : CanId) (f : Can → Can) (s : State) : (modCan c f s).pwr = s.pwr := rfl
@[simp] theorem modCan_die (c : CanId) (f : Can → Can) (s : State) : (modCan c f s).die = s.die := rfl
@[simp] theorem modCan_sense (c : CanId) (f : Can → Can) (s : State) : (modCan c f s).sense = s.sense := rfl
@[simp] theorem modCan_net (c : CanId) (f : Can → Can) (s : State) : (modCan c f s).net = s.net := rfl
@[simp] theorem modCan_time (c : CanId) (f : Can → Can) (s : State) : (modCan c f s).time = s.time := rfl
@[simp] theorem modStream_pending (k : StreamId) (f : Stream → Stream) (s : State) : (modStream k f s).pending = s.pending := rfl
@[simp] theorem modStream_now (k : StreamId) (f : Stream → Stream) (s : State) : (modStream k f s).now = s.now := rfl
@[simp] theorem modStream_freeCount (k : StreamId) (f : Stream → Stream) (s : State) : (modStream k f s).freeCount = s.freeCount := rfl
@[simp] theorem modStream_par (k : StreamId) (f : Stream → Stream) (s : State) : (modStream k f s).par = s.par := rfl
@[simp] theorem modStream_io (k : StreamId) (f : Stream → Stream) (s : State) : (modStream k f s).io = s.io := rfl
@[simp] theorem modStream_transfer (k : StreamId) (f : Stream → Stream) (s : State) : (modStream k f s).transfer = s.transfer := rfl
@[simp] theorem modStream_st (k : StreamId) (f : Stream → Stream) (s : State) : (modStream k f s).st = s.st := rfl
@[simp] theorem modStream_mem (k : StreamId) (f : Stream → Stream) (s : State) : (modStream k f s).mem = s.mem := rfl
@[simp] theorem modStream_arb (k : StreamId) (f : Stream → Stream) (s : State) : (modStream k f s).arb = s.arb := rfl
@[simp] theorem modStream_test (k : StreamId) (f : Stream → Stream) (s : State) : (modStream k f s).test = s.test := rfl
@[simp] theorem modStream_boot (k : StreamId) (f : Stream → Stream) (s : State) : (modStream k f s).boot = s.boot := rfl
@[simp] theorem modStream_br (k : StreamId) (f : Stream → Stream) (s : State) : (modStream k f s).br = s.br := rfl
@[simp] theorem modStream_gr (k : StreamId) (f : Stream → Stream) (s : State) : (modStream k f s).gr = s.gr := rfl
@[simp] theorem modStream_drive (k : StreamId) (f : Stream → Stream) (s : State) : (modStream k f s).drive = s.drive := rfl
@[simp] theorem modStream_cont (k : StreamId) (f : Stream → Stream) (s : State) : (modStream k f s).cont = s.cont := rfl
@[simp] theorem modStream_clove (k : StreamId) (f : Stream → Stream) (s : State) : (modStream k f s).clove = s.clove := rfl
@[simp] theorem modStream_pairs (k : StreamId) (f : Stream → Stream) (s : State) : (modStream k f s).pairs = s.pairs := rfl
@[simp] theorem modStream_place (k : StreamId) (f : Stream → Stream) (s : State) : (modStream k f s).place = s.place := rfl
@[simp] theorem modStream_pwr (k : StreamId) (f : Stream → Stream) (s : State) : (modStream k f s).pwr = s.pwr := rfl
@[simp] theorem modStream_die (k : StreamId) (f : Stream → Stream) (s : State) : (modStream k f s).die = s.die := rfl
@[simp] theorem modStream_sense (k : StreamId) (f : Stream → Stream) (s : State) : (modStream k f s).sense = s.sense := rfl
@[simp] theorem modStream_net (k : StreamId) (f : Stream → Stream) (s : State) : (modStream k f s).net = s.net := rfl
@[simp] theorem modStream_time (k : StreamId) (f : Stream → Stream) (s : State) : (modStream k f s).time = s.time := rfl
@[simp] theorem modStream_can (k : StreamId) (f : Stream → Stream) (s : State) : (modStream k f s).can = s.can := rfl
@[simp] theorem modPair_pending (p : PairId) (f : Pair → Pair) (s : State) : (modPair p f s).pending = s.pending := rfl
@[simp] theorem modPair_now (p : PairId) (f : Pair → Pair) (s : State) : (modPair p f s).now = s.now := rfl
@[simp] theorem modPair_freeCount (p : PairId) (f : Pair → Pair) (s : State) : (modPair p f s).freeCount = s.freeCount := rfl
@[simp] theorem modPair_par (p : PairId) (f : Pair → Pair) (s : State) : (modPair p f s).par = s.par := rfl
@[simp] theorem modPair_io (p : PairId) (f : Pair → Pair) (s : State) : (modPair p f s).io = s.io := rfl
@[simp] theorem modPair_transfer (p : PairId) (f : Pair → Pair) (s : State) : (modPair p f s).transfer = s.transfer := rfl
@[simp] theorem modPair_st (p : PairId) (f : Pair → Pair) (s : State) : (modPair p f s).st = s.st := rfl
@[simp] theorem modPair_mem (p : PairId) (f : Pair → Pair) (s : State) : (modPair p f s).mem = s.mem := rfl
@[simp] theorem modPair_arb (p : PairId) (f : Pair → Pair) (s : State) : (modPair p f s).arb = s.arb := rfl
@[simp] theorem modPair_streams (p : PairId) (f : Pair → Pair) (s : State) : (modPair p f s).streams = s.streams := rfl
@[simp] theorem modPair_test (p : PairId) (f : Pair → Pair) (s : State) : (modPair p f s).test = s.test := rfl
@[simp] theorem modPair_boot (p : PairId) (f : Pair → Pair) (s : State) : (modPair p f s).boot = s.boot := rfl
@[simp] theorem modPair_br (p : PairId) (f : Pair → Pair) (s : State) : (modPair p f s).br = s.br := rfl
@[simp] theorem modPair_gr (p : PairId) (f : Pair → Pair) (s : State) : (modPair p f s).gr = s.gr := rfl
@[simp] theorem modPair_drive (p : PairId) (f : Pair → Pair) (s : State) : (modPair p f s).drive = s.drive := rfl
@[simp] theorem modPair_cont (p : PairId) (f : Pair → Pair) (s : State) : (modPair p f s).cont = s.cont := rfl
@[simp] theorem modPair_clove (p : PairId) (f : Pair → Pair) (s : State) : (modPair p f s).clove = s.clove := rfl
@[simp] theorem modPair_place (p : PairId) (f : Pair → Pair) (s : State) : (modPair p f s).place = s.place := rfl
@[simp] theorem modPair_pwr (p : PairId) (f : Pair → Pair) (s : State) : (modPair p f s).pwr = s.pwr := rfl
@[simp] theorem modPair_die (p : PairId) (f : Pair → Pair) (s : State) : (modPair p f s).die = s.die := rfl
@[simp] theorem modPair_sense (p : PairId) (f : Pair → Pair) (s : State) : (modPair p f s).sense = s.sense := rfl
@[simp] theorem modPair_net (p : PairId) (f : Pair → Pair) (s : State) : (modPair p f s).net = s.net := rfl
@[simp] theorem modPair_time (p : PairId) (f : Pair → Pair) (s : State) : (modPair p f s).time = s.time := rfl
@[simp] theorem modPair_can (p : PairId) (f : Pair → Pair) (s : State) : (modPair p f s).can = s.can := rfl
@[simp] theorem modPort_pending (p : PortId) (f : Port → Port) (s : State) : (modPort p f s).pending = s.pending := rfl
@[simp] theorem modPort_now (p : PortId) (f : Port → Port) (s : State) : (modPort p f s).now = s.now := rfl
@[simp] theorem modPort_freeCount (p : PortId) (f : Port → Port) (s : State) : (modPort p f s).freeCount = s.freeCount := rfl
@[simp] theorem modPort_par (p : PortId) (f : Port → Port) (s : State) : (modPort p f s).par = s.par := rfl
@[simp] theorem modPort_io (p : PortId) (f : Port → Port) (s : State) : (modPort p f s).io = s.io := rfl
@[simp] theorem modPort_transfer (p : PortId) (f : Port → Port) (s : State) : (modPort p f s).transfer = s.transfer := rfl
@[simp] theorem modPort_st (p : PortId) (f : Port → Port) (s : State) : (modPort p f s).st = s.st := rfl
@[simp] theorem modPort_mem (p : PortId) (f : Port → Port) (s : State) : (modPort p f s).mem = s.mem := rfl
@[simp] theorem modPort_arb (p : PortId) (f : Port → Port) (s : State) : (modPort p f s).arb = s.arb := rfl
@[simp] theorem modPort_streams (p : PortId) (f : Port → Port) (s : State) : (modPort p f s).streams = s.streams := rfl
@[simp] theorem modPort_test (p : PortId) (f : Port → Port) (s : State) : (modPort p f s).test = s.test := rfl
@[simp] theorem modPort_boot (p : PortId) (f : Port → Port) (s : State) : (modPort p f s).boot = s.boot := rfl
@[simp] theorem modPort_br (p : PortId) (f : Port → Port) (s : State) : (modPort p f s).br = s.br := rfl
@[simp] theorem modPort_gr (p : PortId) (f : Port → Port) (s : State) : (modPort p f s).gr = s.gr := rfl
@[simp] theorem modPort_drive (p : PortId) (f : Port → Port) (s : State) : (modPort p f s).drive = s.drive := rfl
@[simp] theorem modPort_cont (p : PortId) (f : Port → Port) (s : State) : (modPort p f s).cont = s.cont := rfl
@[simp] theorem modPort_clove (p : PortId) (f : Port → Port) (s : State) : (modPort p f s).clove = s.clove := rfl
@[simp] theorem modPort_pairs (p : PortId) (f : Port → Port) (s : State) : (modPort p f s).pairs = s.pairs := rfl
@[simp] theorem modPort_place (p : PortId) (f : Port → Port) (s : State) : (modPort p f s).place = s.place := rfl
@[simp] theorem modPort_pwr (p : PortId) (f : Port → Port) (s : State) : (modPort p f s).pwr = s.pwr := rfl
@[simp] theorem modPort_die (p : PortId) (f : Port → Port) (s : State) : (modPort p f s).die = s.die := rfl
@[simp] theorem modPort_sense (p : PortId) (f : Port → Port) (s : State) : (modPort p f s).sense = s.sense := rfl
@[simp] theorem modPort_time (p : PortId) (f : Port → Port) (s : State) : (modPort p f s).time = s.time := rfl
@[simp] theorem modPort_can (p : PortId) (f : Port → Port) (s : State) : (modPort p f s).can = s.can := rfl
@[simp] theorem modDom_pending (d : DomainId) (f : Domain → Domain) (s : State) : (modDom d f s).pending = s.pending := rfl
@[simp] theorem modDom_now (d : DomainId) (f : Domain → Domain) (s : State) : (modDom d f s).now = s.now := rfl
@[simp] theorem modDom_freeCount (d : DomainId) (f : Domain → Domain) (s : State) : (modDom d f s).freeCount = s.freeCount := rfl
@[simp] theorem modDom_par (d : DomainId) (f : Domain → Domain) (s : State) : (modDom d f s).par = s.par := rfl
@[simp] theorem modDom_io (d : DomainId) (f : Domain → Domain) (s : State) : (modDom d f s).io = s.io := rfl
@[simp] theorem modDom_transfer (d : DomainId) (f : Domain → Domain) (s : State) : (modDom d f s).transfer = s.transfer := rfl
@[simp] theorem modDom_st (d : DomainId) (f : Domain → Domain) (s : State) : (modDom d f s).st = s.st := rfl
@[simp] theorem modDom_mem (d : DomainId) (f : Domain → Domain) (s : State) : (modDom d f s).mem = s.mem := rfl
@[simp] theorem modDom_arb (d : DomainId) (f : Domain → Domain) (s : State) : (modDom d f s).arb = s.arb := rfl
@[simp] theorem modDom_streams (d : DomainId) (f : Domain → Domain) (s : State) : (modDom d f s).streams = s.streams := rfl
@[simp] theorem modDom_test (d : DomainId) (f : Domain → Domain) (s : State) : (modDom d f s).test = s.test := rfl
@[simp] theorem modDom_boot (d : DomainId) (f : Domain → Domain) (s : State) : (modDom d f s).boot = s.boot := rfl
@[simp] theorem modDom_br (d : DomainId) (f : Domain → Domain) (s : State) : (modDom d f s).br = s.br := rfl
@[simp] theorem modDom_gr (d : DomainId) (f : Domain → Domain) (s : State) : (modDom d f s).gr = s.gr := rfl
@[simp] theorem modDom_drive (d : DomainId) (f : Domain → Domain) (s : State) : (modDom d f s).drive = s.drive := rfl
@[simp] theorem modDom_cont (d : DomainId) (f : Domain → Domain) (s : State) : (modDom d f s).cont = s.cont := rfl
@[simp] theorem modDom_clove (d : DomainId) (f : Domain → Domain) (s : State) : (modDom d f s).clove = s.clove := rfl
@[simp] theorem modDom_pairs (d : DomainId) (f : Domain → Domain) (s : State) : (modDom d f s).pairs = s.pairs := rfl
@[simp] theorem modDom_place (d : DomainId) (f : Domain → Domain) (s : State) : (modDom d f s).place = s.place := rfl
@[simp] theorem modDom_pwr (d : DomainId) (f : Domain → Domain) (s : State) : (modDom d f s).pwr = s.pwr := rfl
@[simp] theorem modDom_die (d : DomainId) (f : Domain → Domain) (s : State) : (modDom d f s).die = s.die := rfl
@[simp] theorem modDom_sense (d : DomainId) (f : Domain → Domain) (s : State) : (modDom d f s).sense = s.sense := rfl
@[simp] theorem modDom_net (d : DomainId) (f : Domain → Domain) (s : State) : (modDom d f s).net = s.net := rfl
@[simp] theorem modDom_can (d : DomainId) (f : Domain → Domain) (s : State) : (modDom d f s).can = s.can := rfl
@[simp] theorem modDie_pending (f : Die → Die) (s : State) : (modDie f s).pending = s.pending := rfl
@[simp] theorem modDie_now (f : Die → Die) (s : State) : (modDie f s).now = s.now := rfl
@[simp] theorem modDie_freeCount (f : Die → Die) (s : State) : (modDie f s).freeCount = s.freeCount := rfl
@[simp] theorem modDie_par (f : Die → Die) (s : State) : (modDie f s).par = s.par := rfl
@[simp] theorem modDie_io (f : Die → Die) (s : State) : (modDie f s).io = s.io := rfl
@[simp] theorem modDie_transfer (f : Die → Die) (s : State) : (modDie f s).transfer = s.transfer := rfl
@[simp] theorem modDie_st (f : Die → Die) (s : State) : (modDie f s).st = s.st := rfl
@[simp] theorem modDie_mem (f : Die → Die) (s : State) : (modDie f s).mem = s.mem := rfl
@[simp] theorem modDie_arb (f : Die → Die) (s : State) : (modDie f s).arb = s.arb := rfl
@[simp] theorem modDie_streams (f : Die → Die) (s : State) : (modDie f s).streams = s.streams := rfl
@[simp] theorem modDie_test (f : Die → Die) (s : State) : (modDie f s).test = s.test := rfl
@[simp] theorem modDie_boot (f : Die → Die) (s : State) : (modDie f s).boot = s.boot := rfl
@[simp] theorem modDie_br (f : Die → Die) (s : State) : (modDie f s).br = s.br := rfl
@[simp] theorem modDie_gr (f : Die → Die) (s : State) : (modDie f s).gr = s.gr := rfl
@[simp] theorem modDie_drive (f : Die → Die) (s : State) : (modDie f s).drive = s.drive := rfl
@[simp] theorem modDie_cont (f : Die → Die) (s : State) : (modDie f s).cont = s.cont := rfl
@[simp] theorem modDie_clove (f : Die → Die) (s : State) : (modDie f s).clove = s.clove := rfl
@[simp] theorem modDie_pairs (f : Die → Die) (s : State) : (modDie f s).pairs = s.pairs := rfl
@[simp] theorem modDie_place (f : Die → Die) (s : State) : (modDie f s).place = s.place := rfl
@[simp] theorem modDie_pwr (f : Die → Die) (s : State) : (modDie f s).pwr = s.pwr := rfl
@[simp] theorem modDie_sense (f : Die → Die) (s : State) : (modDie f s).sense = s.sense := rfl
@[simp] theorem modDie_net (f : Die → Die) (s : State) : (modDie f s).net = s.net := rfl
@[simp] theorem modDie_time (f : Die → Die) (s : State) : (modDie f s).time = s.time := rfl
@[simp] theorem modDie_can (f : Die → Die) (s : State) : (modDie f s).can = s.can := rfl
@[simp] theorem modTh_pending (b : BridgeId) (f : Thermal → Thermal) (s : State) : (modTh b f s).pending = s.pending := rfl
@[simp] theorem modTh_now (b : BridgeId) (f : Thermal → Thermal) (s : State) : (modTh b f s).now = s.now := rfl
@[simp] theorem modTh_freeCount (b : BridgeId) (f : Thermal → Thermal) (s : State) : (modTh b f s).freeCount = s.freeCount := rfl
@[simp] theorem modTh_par (b : BridgeId) (f : Thermal → Thermal) (s : State) : (modTh b f s).par = s.par := rfl
@[simp] theorem modTh_io (b : BridgeId) (f : Thermal → Thermal) (s : State) : (modTh b f s).io = s.io := rfl
@[simp] theorem modTh_transfer (b : BridgeId) (f : Thermal → Thermal) (s : State) : (modTh b f s).transfer = s.transfer := rfl
@[simp] theorem modTh_st (b : BridgeId) (f : Thermal → Thermal) (s : State) : (modTh b f s).st = s.st := rfl
@[simp] theorem modTh_mem (b : BridgeId) (f : Thermal → Thermal) (s : State) : (modTh b f s).mem = s.mem := rfl
@[simp] theorem modTh_arb (b : BridgeId) (f : Thermal → Thermal) (s : State) : (modTh b f s).arb = s.arb := rfl
@[simp] theorem modTh_streams (b : BridgeId) (f : Thermal → Thermal) (s : State) : (modTh b f s).streams = s.streams := rfl
@[simp] theorem modTh_test (b : BridgeId) (f : Thermal → Thermal) (s : State) : (modTh b f s).test = s.test := rfl
@[simp] theorem modTh_boot (b : BridgeId) (f : Thermal → Thermal) (s : State) : (modTh b f s).boot = s.boot := rfl
@[simp] theorem modTh_gr (b : BridgeId) (f : Thermal → Thermal) (s : State) : (modTh b f s).gr = s.gr := rfl
@[simp] theorem modTh_drive (b : BridgeId) (f : Thermal → Thermal) (s : State) : (modTh b f s).drive = s.drive := rfl
@[simp] theorem modTh_cont (b : BridgeId) (f : Thermal → Thermal) (s : State) : (modTh b f s).cont = s.cont := rfl
@[simp] theorem modTh_clove (b : BridgeId) (f : Thermal → Thermal) (s : State) : (modTh b f s).clove = s.clove := rfl
@[simp] theorem modTh_pairs (b : BridgeId) (f : Thermal → Thermal) (s : State) : (modTh b f s).pairs = s.pairs := rfl
@[simp] theorem modTh_place (b : BridgeId) (f : Thermal → Thermal) (s : State) : (modTh b f s).place = s.place := rfl
@[simp] theorem modTh_pwr (b : BridgeId) (f : Thermal → Thermal) (s : State) : (modTh b f s).pwr = s.pwr := rfl
@[simp] theorem modTh_die (b : BridgeId) (f : Thermal → Thermal) (s : State) : (modTh b f s).die = s.die := rfl
@[simp] theorem modTh_sense (b : BridgeId) (f : Thermal → Thermal) (s : State) : (modTh b f s).sense = s.sense := rfl
@[simp] theorem modTh_net (b : BridgeId) (f : Thermal → Thermal) (s : State) : (modTh b f s).net = s.net := rfl
@[simp] theorem modTh_time (b : BridgeId) (f : Thermal → Thermal) (s : State) : (modTh b f s).time = s.time := rfl
@[simp] theorem modTh_can (b : BridgeId) (f : Thermal → Thermal) (s : State) : (modTh b f s).can = s.can := rfl
@[simp] theorem modMeas_pending (b : BridgeId) (f : Meas → Meas) (s : State) : (modMeas b f s).pending = s.pending := rfl
@[simp] theorem modMeas_now (b : BridgeId) (f : Meas → Meas) (s : State) : (modMeas b f s).now = s.now := rfl
@[simp] theorem modMeas_freeCount (b : BridgeId) (f : Meas → Meas) (s : State) : (modMeas b f s).freeCount = s.freeCount := rfl
@[simp] theorem modMeas_par (b : BridgeId) (f : Meas → Meas) (s : State) : (modMeas b f s).par = s.par := rfl
@[simp] theorem modMeas_io (b : BridgeId) (f : Meas → Meas) (s : State) : (modMeas b f s).io = s.io := rfl
@[simp] theorem modMeas_transfer (b : BridgeId) (f : Meas → Meas) (s : State) : (modMeas b f s).transfer = s.transfer := rfl
@[simp] theorem modMeas_st (b : BridgeId) (f : Meas → Meas) (s : State) : (modMeas b f s).st = s.st := rfl
@[simp] theorem modMeas_mem (b : BridgeId) (f : Meas → Meas) (s : State) : (modMeas b f s).mem = s.mem := rfl
@[simp] theorem modMeas_arb (b : BridgeId) (f : Meas → Meas) (s : State) : (modMeas b f s).arb = s.arb := rfl
@[simp] theorem modMeas_streams (b : BridgeId) (f : Meas → Meas) (s : State) : (modMeas b f s).streams = s.streams := rfl
@[simp] theorem modMeas_test (b : BridgeId) (f : Meas → Meas) (s : State) : (modMeas b f s).test = s.test := rfl
@[simp] theorem modMeas_boot (b : BridgeId) (f : Meas → Meas) (s : State) : (modMeas b f s).boot = s.boot := rfl
@[simp] theorem modMeas_gr (b : BridgeId) (f : Meas → Meas) (s : State) : (modMeas b f s).gr = s.gr := rfl
@[simp] theorem modMeas_drive (b : BridgeId) (f : Meas → Meas) (s : State) : (modMeas b f s).drive = s.drive := rfl
@[simp] theorem modMeas_cont (b : BridgeId) (f : Meas → Meas) (s : State) : (modMeas b f s).cont = s.cont := rfl
@[simp] theorem modMeas_clove (b : BridgeId) (f : Meas → Meas) (s : State) : (modMeas b f s).clove = s.clove := rfl
@[simp] theorem modMeas_pairs (b : BridgeId) (f : Meas → Meas) (s : State) : (modMeas b f s).pairs = s.pairs := rfl
@[simp] theorem modMeas_place (b : BridgeId) (f : Meas → Meas) (s : State) : (modMeas b f s).place = s.place := rfl
@[simp] theorem modMeas_pwr (b : BridgeId) (f : Meas → Meas) (s : State) : (modMeas b f s).pwr = s.pwr := rfl
@[simp] theorem modMeas_die (b : BridgeId) (f : Meas → Meas) (s : State) : (modMeas b f s).die = s.die := rfl
@[simp] theorem modMeas_sense (b : BridgeId) (f : Meas → Meas) (s : State) : (modMeas b f s).sense = s.sense := rfl
@[simp] theorem modMeas_net (b : BridgeId) (f : Meas → Meas) (s : State) : (modMeas b f s).net = s.net := rfl
@[simp] theorem modMeas_time (b : BridgeId) (f : Meas → Meas) (s : State) : (modMeas b f s).time = s.time := rfl
@[simp] theorem modMeas_can (b : BridgeId) (f : Meas → Meas) (s : State) : (modMeas b f s).can = s.can := rfl
@[simp] theorem setNow_pending (t : Nat) (s : State) : (setNow t s).pending = s.pending := rfl
@[simp] theorem setNow_freeCount (t : Nat) (s : State) : (setNow t s).freeCount = s.freeCount := rfl
@[simp] theorem setNow_par (t : Nat) (s : State) : (setNow t s).par = s.par := rfl
@[simp] theorem setNow_io (t : Nat) (s : State) : (setNow t s).io = s.io := rfl
@[simp] theorem setNow_transfer (t : Nat) (s : State) : (setNow t s).transfer = s.transfer := rfl
@[simp] theorem setNow_st (t : Nat) (s : State) : (setNow t s).st = s.st := rfl
@[simp] theorem setNow_mem (t : Nat) (s : State) : (setNow t s).mem = s.mem := rfl
@[simp] theorem setNow_arb (t : Nat) (s : State) : (setNow t s).arb = s.arb := rfl
@[simp] theorem setNow_streams (t : Nat) (s : State) : (setNow t s).streams = s.streams := rfl
@[simp] theorem setNow_test (t : Nat) (s : State) : (setNow t s).test = s.test := rfl
@[simp] theorem setNow_boot (t : Nat) (s : State) : (setNow t s).boot = s.boot := rfl
@[simp] theorem setNow_br (t : Nat) (s : State) : (setNow t s).br = s.br := rfl
@[simp] theorem setNow_gr (t : Nat) (s : State) : (setNow t s).gr = s.gr := rfl
@[simp] theorem setNow_drive (t : Nat) (s : State) : (setNow t s).drive = s.drive := rfl
@[simp] theorem setNow_cont (t : Nat) (s : State) : (setNow t s).cont = s.cont := rfl
@[simp] theorem setNow_clove (t : Nat) (s : State) : (setNow t s).clove = s.clove := rfl
@[simp] theorem setNow_pairs (t : Nat) (s : State) : (setNow t s).pairs = s.pairs := rfl
@[simp] theorem setNow_place (t : Nat) (s : State) : (setNow t s).place = s.place := rfl
@[simp] theorem setNow_pwr (t : Nat) (s : State) : (setNow t s).pwr = s.pwr := rfl
@[simp] theorem setNow_die (t : Nat) (s : State) : (setNow t s).die = s.die := rfl
@[simp] theorem setNow_sense (t : Nat) (s : State) : (setNow t s).sense = s.sense := rfl
@[simp] theorem setNow_net (t : Nat) (s : State) : (setNow t s).net = s.net := rfl
@[simp] theorem setNow_time (t : Nat) (s : State) : (setNow t s).time = s.time := rfl
@[simp] theorem setNow_can (t : Nat) (s : State) : (setNow t s).can = s.can := rfl
@[simp] theorem drew_pending (s : State) : (drew s).pending = s.pending := rfl
@[simp] theorem drew_now (s : State) : (drew s).now = s.now := rfl
@[simp] theorem drew_par (s : State) : (drew s).par = s.par := rfl
@[simp] theorem drew_io (s : State) : (drew s).io = s.io := rfl
@[simp] theorem drew_transfer (s : State) : (drew s).transfer = s.transfer := rfl
@[simp] theorem drew_st (s : State) : (drew s).st = s.st := rfl
@[simp] theorem drew_mem (s : State) : (drew s).mem = s.mem := rfl
@[simp] theorem drew_arb (s : State) : (drew s).arb = s.arb := rfl
@[simp] theorem drew_streams (s : State) : (drew s).streams = s.streams := rfl
@[simp] theorem drew_test (s : State) : (drew s).test = s.test := rfl
@[simp] theorem drew_boot (s : State) : (drew s).boot = s.boot := rfl
@[simp] theorem drew_br (s : State) : (drew s).br = s.br := rfl
@[simp] theorem drew_gr (s : State) : (drew s).gr = s.gr := rfl
@[simp] theorem drew_drive (s : State) : (drew s).drive = s.drive := rfl
@[simp] theorem drew_cont (s : State) : (drew s).cont = s.cont := rfl
@[simp] theorem drew_clove (s : State) : (drew s).clove = s.clove := rfl
@[simp] theorem drew_pairs (s : State) : (drew s).pairs = s.pairs := rfl
@[simp] theorem drew_place (s : State) : (drew s).place = s.place := rfl
@[simp] theorem drew_pwr (s : State) : (drew s).pwr = s.pwr := rfl
@[simp] theorem drew_die (s : State) : (drew s).die = s.die := rfl
@[simp] theorem drew_sense (s : State) : (drew s).sense = s.sense := rfl
@[simp] theorem drew_net (s : State) : (drew s).net = s.net := rfl
@[simp] theorem drew_time (s : State) : (drew s).time = s.time := rfl
@[simp] theorem drew_can (s : State) : (drew s).can = s.can := rfl
@[simp] theorem putObj_pending (i sub : Nat) (v : Int) (s : State) : (putObj i sub v s).pending = s.pending := rfl
@[simp] theorem putObj_now (i sub : Nat) (v : Int) (s : State) : (putObj i sub v s).now = s.now := rfl
@[simp] theorem putObj_freeCount (i sub : Nat) (v : Int) (s : State) : (putObj i sub v s).freeCount = s.freeCount := rfl
@[simp] theorem putObj_io (i sub : Nat) (v : Int) (s : State) : (putObj i sub v s).io = s.io := rfl
@[simp] theorem putObj_transfer (i sub : Nat) (v : Int) (s : State) : (putObj i sub v s).transfer = s.transfer := rfl
@[simp] theorem putObj_st (i sub : Nat) (v : Int) (s : State) : (putObj i sub v s).st = s.st := rfl
@[simp] theorem putObj_mem (i sub : Nat) (v : Int) (s : State) : (putObj i sub v s).mem = s.mem := rfl
@[simp] theorem putObj_arb (i sub : Nat) (v : Int) (s : State) : (putObj i sub v s).arb = s.arb := rfl
@[simp] theorem putObj_streams (i sub : Nat) (v : Int) (s : State) : (putObj i sub v s).streams = s.streams := rfl
@[simp] theorem putObj_test (i sub : Nat) (v : Int) (s : State) : (putObj i sub v s).test = s.test := rfl
@[simp] theorem putObj_boot (i sub : Nat) (v : Int) (s : State) : (putObj i sub v s).boot = s.boot := rfl
@[simp] theorem putObj_br (i sub : Nat) (v : Int) (s : State) : (putObj i sub v s).br = s.br := rfl
@[simp] theorem putObj_gr (i sub : Nat) (v : Int) (s : State) : (putObj i sub v s).gr = s.gr := rfl
@[simp] theorem putObj_drive (i sub : Nat) (v : Int) (s : State) : (putObj i sub v s).drive = s.drive := rfl
@[simp] theorem putObj_cont (i sub : Nat) (v : Int) (s : State) : (putObj i sub v s).cont = s.cont := rfl
@[simp] theorem putObj_clove (i sub : Nat) (v : Int) (s : State) : (putObj i sub v s).clove = s.clove := rfl
@[simp] theorem putObj_pairs (i sub : Nat) (v : Int) (s : State) : (putObj i sub v s).pairs = s.pairs := rfl
@[simp] theorem putObj_place (i sub : Nat) (v : Int) (s : State) : (putObj i sub v s).place = s.place := rfl
@[simp] theorem putObj_pwr (i sub : Nat) (v : Int) (s : State) : (putObj i sub v s).pwr = s.pwr := rfl
@[simp] theorem putObj_die (i sub : Nat) (v : Int) (s : State) : (putObj i sub v s).die = s.die := rfl
@[simp] theorem putObj_sense (i sub : Nat) (v : Int) (s : State) : (putObj i sub v s).sense = s.sense := rfl
@[simp] theorem putObj_net (i sub : Nat) (v : Int) (s : State) : (putObj i sub v s).net = s.net := rfl
@[simp] theorem putObj_time (i sub : Nat) (v : Int) (s : State) : (putObj i sub v s).time = s.time := rfl
@[simp] theorem putObj_can (i sub : Nat) (v : Int) (s : State) : (putObj i sub v s).can = s.can := rfl
@[simp] theorem setCounter_pending (i sub v : Nat) (s : State) : (setCounter i sub v s).pending = s.pending := rfl
@[simp] theorem setCounter_now (i sub v : Nat) (s : State) : (setCounter i sub v s).now = s.now := rfl
@[simp] theorem setCounter_freeCount (i sub v : Nat) (s : State) : (setCounter i sub v s).freeCount = s.freeCount := rfl
@[simp] theorem setCounter_par (i sub v : Nat) (s : State) : (setCounter i sub v s).par = s.par := rfl
@[simp] theorem setCounter_io (i sub v : Nat) (s : State) : (setCounter i sub v s).io = s.io := rfl
@[simp] theorem setCounter_transfer (i sub v : Nat) (s : State) : (setCounter i sub v s).transfer = s.transfer := rfl
@[simp] theorem setCounter_mem (i sub v : Nat) (s : State) : (setCounter i sub v s).mem = s.mem := rfl
@[simp] theorem setCounter_arb (i sub v : Nat) (s : State) : (setCounter i sub v s).arb = s.arb := rfl
@[simp] theorem setCounter_streams (i sub v : Nat) (s : State) : (setCounter i sub v s).streams = s.streams := rfl
@[simp] theorem setCounter_test (i sub v : Nat) (s : State) : (setCounter i sub v s).test = s.test := rfl
@[simp] theorem setCounter_boot (i sub v : Nat) (s : State) : (setCounter i sub v s).boot = s.boot := rfl
@[simp] theorem setCounter_br (i sub v : Nat) (s : State) : (setCounter i sub v s).br = s.br := rfl
@[simp] theorem setCounter_gr (i sub v : Nat) (s : State) : (setCounter i sub v s).gr = s.gr := rfl
@[simp] theorem setCounter_drive (i sub v : Nat) (s : State) : (setCounter i sub v s).drive = s.drive := rfl
@[simp] theorem setCounter_cont (i sub v : Nat) (s : State) : (setCounter i sub v s).cont = s.cont := rfl
@[simp] theorem setCounter_clove (i sub v : Nat) (s : State) : (setCounter i sub v s).clove = s.clove := rfl
@[simp] theorem setCounter_pairs (i sub v : Nat) (s : State) : (setCounter i sub v s).pairs = s.pairs := rfl
@[simp] theorem setCounter_place (i sub v : Nat) (s : State) : (setCounter i sub v s).place = s.place := rfl
@[simp] theorem setCounter_pwr (i sub v : Nat) (s : State) : (setCounter i sub v s).pwr = s.pwr := rfl
@[simp] theorem setCounter_die (i sub v : Nat) (s : State) : (setCounter i sub v s).die = s.die := rfl
@[simp] theorem setCounter_sense (i sub v : Nat) (s : State) : (setCounter i sub v s).sense = s.sense := rfl
@[simp] theorem setCounter_net (i sub v : Nat) (s : State) : (setCounter i sub v s).net = s.net := rfl
@[simp] theorem setCounter_time (i sub v : Nat) (s : State) : (setCounter i sub v s).time = s.time := rfl
@[simp] theorem setCounter_can (i sub v : Nat) (s : State) : (setCounter i sub v s).can = s.can := rfl
@[simp] theorem bumpBy_pending (i sub n : Nat) (s : State) : (bumpBy i sub n s).pending = s.pending := rfl
@[simp] theorem bumpBy_now (i sub n : Nat) (s : State) : (bumpBy i sub n s).now = s.now := rfl
@[simp] theorem bumpBy_freeCount (i sub n : Nat) (s : State) : (bumpBy i sub n s).freeCount = s.freeCount := rfl
@[simp] theorem bumpBy_par (i sub n : Nat) (s : State) : (bumpBy i sub n s).par = s.par := rfl
@[simp] theorem bumpBy_io (i sub n : Nat) (s : State) : (bumpBy i sub n s).io = s.io := rfl
@[simp] theorem bumpBy_transfer (i sub n : Nat) (s : State) : (bumpBy i sub n s).transfer = s.transfer := rfl
@[simp] theorem bumpBy_mem (i sub n : Nat) (s : State) : (bumpBy i sub n s).mem = s.mem := rfl
@[simp] theorem bumpBy_arb (i sub n : Nat) (s : State) : (bumpBy i sub n s).arb = s.arb := rfl
@[simp] theorem bumpBy_streams (i sub n : Nat) (s : State) : (bumpBy i sub n s).streams = s.streams := rfl
@[simp] theorem bumpBy_test (i sub n : Nat) (s : State) : (bumpBy i sub n s).test = s.test := rfl
@[simp] theorem bumpBy_boot (i sub n : Nat) (s : State) : (bumpBy i sub n s).boot = s.boot := rfl
@[simp] theorem bumpBy_br (i sub n : Nat) (s : State) : (bumpBy i sub n s).br = s.br := rfl
@[simp] theorem bumpBy_gr (i sub n : Nat) (s : State) : (bumpBy i sub n s).gr = s.gr := rfl
@[simp] theorem bumpBy_drive (i sub n : Nat) (s : State) : (bumpBy i sub n s).drive = s.drive := rfl
@[simp] theorem bumpBy_cont (i sub n : Nat) (s : State) : (bumpBy i sub n s).cont = s.cont := rfl
@[simp] theorem bumpBy_clove (i sub n : Nat) (s : State) : (bumpBy i sub n s).clove = s.clove := rfl
@[simp] theorem bumpBy_pairs (i sub n : Nat) (s : State) : (bumpBy i sub n s).pairs = s.pairs := rfl
@[simp] theorem bumpBy_place (i sub n : Nat) (s : State) : (bumpBy i sub n s).place = s.place := rfl
@[simp] theorem bumpBy_pwr (i sub n : Nat) (s : State) : (bumpBy i sub n s).pwr = s.pwr := rfl
@[simp] theorem bumpBy_die (i sub n : Nat) (s : State) : (bumpBy i sub n s).die = s.die := rfl
@[simp] theorem bumpBy_sense (i sub n : Nat) (s : State) : (bumpBy i sub n s).sense = s.sense := rfl
@[simp] theorem bumpBy_net (i sub n : Nat) (s : State) : (bumpBy i sub n s).net = s.net := rfl
@[simp] theorem bumpBy_time (i sub n : Nat) (s : State) : (bumpBy i sub n s).time = s.time := rfl
@[simp] theorem bumpBy_can (i sub n : Nat) (s : State) : (bumpBy i sub n s).can = s.can := rfl
@[simp] theorem bump_pending (i sub : Nat) (s : State) : (bump i sub s).pending = s.pending := rfl
@[simp] theorem bump_now (i sub : Nat) (s : State) : (bump i sub s).now = s.now := rfl
@[simp] theorem bump_freeCount (i sub : Nat) (s : State) : (bump i sub s).freeCount = s.freeCount := rfl
@[simp] theorem bump_par (i sub : Nat) (s : State) : (bump i sub s).par = s.par := rfl
@[simp] theorem bump_io (i sub : Nat) (s : State) : (bump i sub s).io = s.io := rfl
@[simp] theorem bump_transfer (i sub : Nat) (s : State) : (bump i sub s).transfer = s.transfer := rfl
@[simp] theorem bump_mem (i sub : Nat) (s : State) : (bump i sub s).mem = s.mem := rfl
@[simp] theorem bump_arb (i sub : Nat) (s : State) : (bump i sub s).arb = s.arb := rfl
@[simp] theorem bump_streams (i sub : Nat) (s : State) : (bump i sub s).streams = s.streams := rfl
@[simp] theorem bump_test (i sub : Nat) (s : State) : (bump i sub s).test = s.test := rfl
@[simp] theorem bump_boot (i sub : Nat) (s : State) : (bump i sub s).boot = s.boot := rfl
@[simp] theorem bump_br (i sub : Nat) (s : State) : (bump i sub s).br = s.br := rfl
@[simp] theorem bump_gr (i sub : Nat) (s : State) : (bump i sub s).gr = s.gr := rfl
@[simp] theorem bump_drive (i sub : Nat) (s : State) : (bump i sub s).drive = s.drive := rfl
@[simp] theorem bump_cont (i sub : Nat) (s : State) : (bump i sub s).cont = s.cont := rfl
@[simp] theorem bump_clove (i sub : Nat) (s : State) : (bump i sub s).clove = s.clove := rfl
@[simp] theorem bump_pairs (i sub : Nat) (s : State) : (bump i sub s).pairs = s.pairs := rfl
@[simp] theorem bump_place (i sub : Nat) (s : State) : (bump i sub s).place = s.place := rfl
@[simp] theorem bump_pwr (i sub : Nat) (s : State) : (bump i sub s).pwr = s.pwr := rfl
@[simp] theorem bump_die (i sub : Nat) (s : State) : (bump i sub s).die = s.die := rfl
@[simp] theorem bump_sense (i sub : Nat) (s : State) : (bump i sub s).sense = s.sense := rfl
@[simp] theorem bump_net (i sub : Nat) (s : State) : (bump i sub s).net = s.net := rfl
@[simp] theorem bump_time (i sub : Nat) (s : State) : (bump i sub s).time = s.time := rfl
@[simp] theorem bump_can (i sub : Nat) (s : State) : (bump i sub s).can = s.can := rfl
@[simp] theorem peak_pending (i sub v : Nat) (s : State) : (peak i sub v s).pending = s.pending := rfl
@[simp] theorem peak_now (i sub v : Nat) (s : State) : (peak i sub v s).now = s.now := rfl
@[simp] theorem peak_freeCount (i sub v : Nat) (s : State) : (peak i sub v s).freeCount = s.freeCount := rfl
@[simp] theorem peak_par (i sub v : Nat) (s : State) : (peak i sub v s).par = s.par := rfl
@[simp] theorem peak_io (i sub v : Nat) (s : State) : (peak i sub v s).io = s.io := rfl
@[simp] theorem peak_transfer (i sub v : Nat) (s : State) : (peak i sub v s).transfer = s.transfer := rfl
@[simp] theorem peak_mem (i sub v : Nat) (s : State) : (peak i sub v s).mem = s.mem := rfl
@[simp] theorem peak_arb (i sub v : Nat) (s : State) : (peak i sub v s).arb = s.arb := rfl
@[simp] theorem peak_streams (i sub v : Nat) (s : State) : (peak i sub v s).streams = s.streams := rfl
@[simp] theorem peak_test (i sub v : Nat) (s : State) : (peak i sub v s).test = s.test := rfl
@[simp] theorem peak_boot (i sub v : Nat) (s : State) : (peak i sub v s).boot = s.boot := rfl
@[simp] theorem peak_br (i sub v : Nat) (s : State) : (peak i sub v s).br = s.br := rfl
@[simp] theorem peak_gr (i sub v : Nat) (s : State) : (peak i sub v s).gr = s.gr := rfl
@[simp] theorem peak_drive (i sub v : Nat) (s : State) : (peak i sub v s).drive = s.drive := rfl
@[simp] theorem peak_cont (i sub v : Nat) (s : State) : (peak i sub v s).cont = s.cont := rfl
@[simp] theorem peak_clove (i sub v : Nat) (s : State) : (peak i sub v s).clove = s.clove := rfl
@[simp] theorem peak_pairs (i sub v : Nat) (s : State) : (peak i sub v s).pairs = s.pairs := rfl
@[simp] theorem peak_place (i sub v : Nat) (s : State) : (peak i sub v s).place = s.place := rfl
@[simp] theorem peak_pwr (i sub v : Nat) (s : State) : (peak i sub v s).pwr = s.pwr := rfl
@[simp] theorem peak_die (i sub v : Nat) (s : State) : (peak i sub v s).die = s.die := rfl
@[simp] theorem peak_sense (i sub v : Nat) (s : State) : (peak i sub v s).sense = s.sense := rfl
@[simp] theorem peak_net (i sub v : Nat) (s : State) : (peak i sub v s).net = s.net := rfl
@[simp] theorem peak_time (i sub v : Nat) (s : State) : (peak i sub v s).time = s.time := rfl
@[simp] theorem peak_can (i sub v : Nat) (s : State) : (peak i sub v s).can = s.can := rfl

/-- The clock after setNow. -/
@[simp] theorem setNow_now (t : Nat) (s : State) : (setNow t s).now = max s.now t := rfl
/-- The updated bridge. -/
@[simp] theorem modBr_br (b : BridgeId) (f : Bridge → Bridge) (s : State) : (modBr b f s).br = s.br.set b (f s.br[b]) := rfl
/-- The updated group. -/
@[simp] theorem modGr_gr (g : GroupId) (f : Group → Group) (s : State) : (modGr g f s).gr = s.gr.set g (f s.gr[g]) := rfl
/-- The updated pair. -/
@[simp] theorem modPair_pairs (p : PairId) (f : Pair → Pair) (s : State) : (modPair p f s).pairs = s.pairs.set p (f s.pairs[p]) := rfl
/-- The updated CAN controller. -/
@[simp] theorem modCan_can (c : CanId) (f : Can → Can) (s : State) : (modCan c f s).can = s.can.set c (f s.can[c]) := rfl
/-- The updated stream. -/
@[simp] theorem modStream_streams (k : StreamId) (f : Stream → Stream) (s : State) : (modStream k f s).streams = s.streams.set k (f s.streams[k]) := rfl
/-- A conditional update that does not happen. -/
@[simp] theorem onlyIf_false (f : State → State) (s : State) : onlyIf false f s = s := rfl
/-- A conditional update that happens. -/
@[simp] theorem onlyIf_true (f : State → State) (s : State) : onlyIf true f s = f s := rfl

end Sys2Proof.Machine
end

