-- ==== Sys2Proof/Laws/Events.lean ====
section
/-! SUPPORT. Events, counters, completions and messages reach only what the state reports by: its queues, statistics, CAN controllers and the
self-test unit. One lemma per operation, and from it one per field. -/

namespace Sys2Proof.Machine

@[simp] theorem silent_modOut (q : QueueId) (f : OutQueue → OutQueue) (s : State) : (modOut q f s).silent = s.silent := rfl
@[simp] theorem silent_modCmd (q : Fin 4) (f : CmdQueue → CmdQueue) (s : State) : (modCmd q f s).silent = s.silent := rfl
@[simp] theorem silent_modCan (c : CanId) (f : Can → Can) (s : State) : (modCan c f s).silent = s.silent := rfl
@[simp] theorem silent_bumpBy (i sub n : Nat) (s : State) : (bumpBy i sub n s).silent = s.silent := rfl
@[simp] theorem silent_bump (i sub : Nat) (s : State) : (bump i sub s).silent = s.silent := rfl
@[simp] theorem silent_peak (i sub v : Nat) (s : State) : (peak i sub v s).silent = s.silent := rfl
@[simp] theorem silent_nextSerial (s : State) : (nextSerial s).silent = s.silent := rfl
@[simp] theorem silent_canQueue (c : CanId) (f : CanFrame) (p : Option Nat) (s : State) : (canQueue c f p s).silent = s.silent := rfl
@[simp] theorem silent_sentOn (p : PortId) (s : State) : (sentOn p s).silent = s.silent := rfl

/-- A conditional update that reports only. -/
theorem silent_onlyIf (c : Bool) (f : State → State) (s : State) (h : ∀ u, (f u).silent = u.silent) : (onlyIf c f s).silent = s.silent := by
  unfold onlyIf; split
  · exact h s
  · rfl

@[simp] theorem silent_countSent (m : Msg) (s : State) : (countSent m s).silent = s.silent := by
  unfold countSent
  split <;> try rfl
  · exact (silent_onlyIf _ _ _ (silent_sentOn 1)).trans (silent_onlyIf _ _ _ (silent_sentOn 0))
  · exact (silent_onlyIf _ _ _ (silent_sentOn 1)).trans (silent_onlyIf _ _ _ (silent_sentOn 0))
  · split
    · rfl
    · split <;> rfl
  · split
    · rfl
    · split <;> rfl

@[simp] theorem silent_send (m : Msg) (s : State) : (send m s).silent = s.silent := by
  unfold send; split
  · rfl
  · exact (silent_countSent m _).trans rfl

@[simp] theorem silent_notifyNow (q : QueueId) (s : State) : (notifyNow q s).silent = s.silent := by
  unfold notifyNow
  simp only
  split
  · rw [silent_bump]
    split
    · exact (silent_canQueue _ _ _ _).trans rfl
    · exact (silent_canQueue _ _ _ _).trans rfl
    · exact (silent_send _ _).trans rfl
  · rfl

@[simp] theorem silent_notifyEntry (q : QueueId) (s : State) : (notifyEntry q s).silent = s.silent := by
  unfold notifyEntry
  simp only
  split
  · exact silent_notifyNow q s
  · rfl

@[simp] theorem silent_pushEntry (q : QueueId) (e : Entry) (s : State) : (pushEntry q e s).silent = s.silent := by
  unfold pushEntry; rw [silent_notifyEntry]; rfl

@[simp] theorem silent_settleLost (q : QueueId) (s : State) : (settleLost q s).silent = s.silent := by
  unfold settleLost
  simp only
  split
  · rw [silent_nextSerial, silent_pushEntry]; rfl
  · rfl

@[simp] theorem silent_enqueueOut (q : QueueId) (e : Entry) (s : State) : (enqueueOut q e s).silent = s.silent := by
  unfold enqueueOut
  simp only
  split
  · rw [silent_pushEntry, silent_settleLost]
  · rw [silent_bump, silent_modOut, silent_settleLost]

@[simp] theorem silent_raise0 (c l i : Nat) (p : List Int) (s : State) : (raise0 c l i p s).silent = s.silent := by
  unfold raise0
  split
  · rfl
  · simp

@[simp] theorem silent_injectionSeen (h : Nat → Bool) (n : Nat) (s : State) : (injectionSeen h n s).silent = s.silent := by
  unfold injectionSeen
  split
  · rw [silent_bump, silent_raise0]; rfl
  · rfl

@[simp] theorem silent_injectionCount (p : Nat) (s : State) : (injectionCount p s).silent = s.silent := silent_injectionSeen _ _ s

@[simp] theorem silent_raise (c l i : Nat) (p : List Int) (s : State) : (raise c l i p s).silent = s.silent :=
  (silent_injectionSeen _ _ _).trans (silent_raise0 c l i p s)

@[simp] theorem silent_raiseFirst (c l i : Nat) (p : List Int) (k : Nat) (s : State) : (raiseFirst c l i p k s).silent = s.silent := by
  unfold raiseFirst
  simp only
  split
  · rfl
  · rw [silent_raise]; rfl

@[simp] theorem silent_raise4 (c : Nat) (p : List Int) (s : State) : (raise4 c p s).silent = s.silent := silent_raise _ _ _ _ s
@[simp] theorem silent_raiseB (c : Nat) (b : BridgeId) (p : List Int) (s : State) : (raiseB c b p s).silent = s.silent := silent_raise _ _ _ _ s
@[simp] theorem silent_raiseG (c : Nat) (g : GroupId) (p : List Int) (s : State) : (raiseG c g p s).silent = s.silent := silent_raise _ _ _ _ s

@[simp] theorem silent_complete (r : CmdRef) (n : Nat) (ws : List Word) (s : State) : (complete r n ws s).silent = s.silent := by
  unfold complete
  simp only
  rw [silent_onlyIf _ _ _ (silent_bump _ _), silent_onlyIf _ _ _ (silent_bump _ _), silent_pushEntry]
  rfl

@[simp] theorem silent_refuse (r : CmdRef) (n w : Nat) (s : State) : (refuse r n w s).silent = s.silent := silent_complete _ _ _ s
@[simp] theorem silent_finish (r : CmdRef) (ws : List Nat) (s : State) : (finish r ws s).silent = s.silent := silent_complete _ _ _ s


/-! States that differ only in what they report by agree in every other field. -/

theorem silent_eq_pending {a b : State} (h : a.silent = b.silent) : a.pending = b.pending := have e := congrArg State.pending h; e
theorem silent_eq_now {a b : State} (h : a.silent = b.silent) : a.now = b.now := have e := congrArg State.now h; e
theorem silent_eq_freeCount {a b : State} (h : a.silent = b.silent) : a.freeCount = b.freeCount := have e := congrArg State.freeCount h; e
theorem silent_eq_par {a b : State} (h : a.silent = b.silent) : a.par = b.par := have e := congrArg State.par h; e
theorem silent_eq_transfer {a b : State} (h : a.silent = b.silent) : a.transfer = b.transfer := have e := congrArg State.transfer h; e
theorem silent_eq_mem {a b : State} (h : a.silent = b.silent) : a.mem = b.mem := have e := congrArg State.mem h; e
theorem silent_eq_arb {a b : State} (h : a.silent = b.silent) : a.arb = b.arb := have e := congrArg State.arb h; e
theorem silent_eq_streams {a b : State} (h : a.silent = b.silent) : a.streams = b.streams := have e := congrArg State.streams h; e
theorem silent_eq_boot {a b : State} (h : a.silent = b.silent) : a.boot = b.boot := have e := congrArg State.boot h; e
theorem silent_eq_br {a b : State} (h : a.silent = b.silent) : a.br = b.br := have e := congrArg State.br h; e
theorem silent_eq_gr {a b : State} (h : a.silent = b.silent) : a.gr = b.gr := have e := congrArg State.gr h; e
theorem silent_eq_drive {a b : State} (h : a.silent = b.silent) : a.drive = b.drive := have e := congrArg State.drive h; e
theorem silent_eq_cont {a b : State} (h : a.silent = b.silent) : a.cont = b.cont := have e := congrArg State.cont h; e
theorem silent_eq_clove {a b : State} (h : a.silent = b.silent) : a.clove = b.clove := have e := congrArg State.clove h; e
theorem silent_eq_pairs {a b : State} (h : a.silent = b.silent) : a.pairs = b.pairs := have e := congrArg State.pairs h; e
theorem silent_eq_place {a b : State} (h : a.silent = b.silent) : a.place = b.place := have e := congrArg State.place h; e
theorem silent_eq_pwr {a b : State} (h : a.silent = b.silent) : a.pwr = b.pwr := have e := congrArg State.pwr h; e
theorem silent_eq_die {a b : State} (h : a.silent = b.silent) : a.die = b.die := have e := congrArg State.die h; e
theorem silent_eq_sense {a b : State} (h : a.silent = b.silent) : a.sense = b.sense := have e := congrArg State.sense h; e
theorem silent_eq_net {a b : State} (h : a.silent = b.silent) : a.net = b.net := have e := congrArg State.net h; e
theorem silent_eq_time {a b : State} (h : a.silent = b.silent) : a.time = b.time := have e := congrArg State.time h; e

@[simp] theorem notifyNow_pending (q : QueueId) (s : State) : (notifyNow q s).pending = s.pending := silent_eq_pending (silent_notifyNow q s)
@[simp] theorem notifyNow_now (q : QueueId) (s : State) : (notifyNow q s).now = s.now := silent_eq_now (silent_notifyNow q s)
@[simp] theorem notifyNow_freeCount (q : QueueId) (s : State) : (notifyNow q s).freeCount = s.freeCount := silent_eq_freeCount (silent_notifyNow q s)
@[simp] theorem notifyNow_par (q : QueueId) (s : State) : (notifyNow q s).par = s.par := silent_eq_par (silent_notifyNow q s)
@[simp] theorem notifyNow_transfer (q : QueueId) (s : State) : (notifyNow q s).transfer = s.transfer := silent_eq_transfer (silent_notifyNow q s)
@[simp] theorem notifyNow_mem (q : QueueId) (s : State) : (notifyNow q s).mem = s.mem := silent_eq_mem (silent_notifyNow q s)
@[simp] theorem notifyNow_arb (q : QueueId) (s : State) : (notifyNow q s).arb = s.arb := silent_eq_arb (silent_notifyNow q s)
@[simp] theorem notifyNow_streams (q : QueueId) (s : State) : (notifyNow q s).streams = s.streams := silent_eq_streams (silent_notifyNow q s)
@[simp] theorem notifyNow_boot (q : QueueId) (s : State) : (notifyNow q s).boot = s.boot := silent_eq_boot (silent_notifyNow q s)
@[simp] theorem notifyNow_br (q : QueueId) (s : State) : (notifyNow q s).br = s.br := silent_eq_br (silent_notifyNow q s)
@[simp] theorem notifyNow_gr (q : QueueId) (s : State) : (notifyNow q s).gr = s.gr := silent_eq_gr (silent_notifyNow q s)
@[simp] theorem notifyNow_drive (q : QueueId) (s : State) : (notifyNow q s).drive = s.drive := silent_eq_drive (silent_notifyNow q s)
@[simp] theorem notifyNow_cont (q : QueueId) (s : State) : (notifyNow q s).cont = s.cont := silent_eq_cont (silent_notifyNow q s)
@[simp] theorem notifyNow_clove (q : QueueId) (s : State) : (notifyNow q s).clove = s.clove := silent_eq_clove (silent_notifyNow q s)
@[simp] theorem notifyNow_pairs (q : QueueId) (s : State) : (notifyNow q s).pairs = s.pairs := silent_eq_pairs (silent_notifyNow q s)
@[simp] theorem notifyNow_place (q : QueueId) (s : State) : (notifyNow q s).place = s.place := silent_eq_place (silent_notifyNow q s)
@[simp] theorem notifyNow_pwr (q : QueueId) (s : State) : (notifyNow q s).pwr = s.pwr := silent_eq_pwr (silent_notifyNow q s)
@[simp] theorem notifyNow_die (q : QueueId) (s : State) : (notifyNow q s).die = s.die := silent_eq_die (silent_notifyNow q s)
@[simp] theorem notifyNow_sense (q : QueueId) (s : State) : (notifyNow q s).sense = s.sense := silent_eq_sense (silent_notifyNow q s)
@[simp] theorem notifyNow_net (q : QueueId) (s : State) : (notifyNow q s).net = s.net := silent_eq_net (silent_notifyNow q s)
@[simp] theorem notifyNow_time (q : QueueId) (s : State) : (notifyNow q s).time = s.time := silent_eq_time (silent_notifyNow q s)

@[simp] theorem pushEntry_pending (q : QueueId) (e : Entry) (s : State) : (pushEntry q e s).pending = s.pending := silent_eq_pending (silent_pushEntry q e s)
@[simp] theorem pushEntry_now (q : QueueId) (e : Entry) (s : State) : (pushEntry q e s).now = s.now := silent_eq_now (silent_pushEntry q e s)
@[simp] theorem pushEntry_freeCount (q : QueueId) (e : Entry) (s : State) : (pushEntry q e s).freeCount = s.freeCount := silent_eq_freeCount (silent_pushEntry q e s)
@[simp] theorem pushEntry_par (q : QueueId) (e : Entry) (s : State) : (pushEntry q e s).par = s.par := silent_eq_par (silent_pushEntry q e s)
@[simp] theorem pushEntry_transfer (q : QueueId) (e : Entry) (s : State) : (pushEntry q e s).transfer = s.transfer := silent_eq_transfer (silent_pushEntry q e s)
@[simp] theorem pushEntry_mem (q : QueueId) (e : Entry) (s : State) : (pushEntry q e s).mem = s.mem := silent_eq_mem (silent_pushEntry q e s)
@[simp] theorem pushEntry_arb (q : QueueId) (e : Entry) (s : State) : (pushEntry q e s).arb = s.arb := silent_eq_arb (silent_pushEntry q e s)
@[simp] theorem pushEntry_streams (q : QueueId) (e : Entry) (s : State) : (pushEntry q e s).streams = s.streams := silent_eq_streams (silent_pushEntry q e s)
@[simp] theorem pushEntry_boot (q : QueueId) (e : Entry) (s : State) : (pushEntry q e s).boot = s.boot := silent_eq_boot (silent_pushEntry q e s)
@[simp] theorem pushEntry_br (q : QueueId) (e : Entry) (s : State) : (pushEntry q e s).br = s.br := silent_eq_br (silent_pushEntry q e s)
@[simp] theorem pushEntry_gr (q : QueueId) (e : Entry) (s : State) : (pushEntry q e s).gr = s.gr := silent_eq_gr (silent_pushEntry q e s)
@[simp] theorem pushEntry_drive (q : QueueId) (e : Entry) (s : State) : (pushEntry q e s).drive = s.drive := silent_eq_drive (silent_pushEntry q e s)
@[simp] theorem pushEntry_cont (q : QueueId) (e : Entry) (s : State) : (pushEntry q e s).cont = s.cont := silent_eq_cont (silent_pushEntry q e s)
@[simp] theorem pushEntry_clove (q : QueueId) (e : Entry) (s : State) : (pushEntry q e s).clove = s.clove := silent_eq_clove (silent_pushEntry q e s)
@[simp] theorem pushEntry_pairs (q : QueueId) (e : Entry) (s : State) : (pushEntry q e s).pairs = s.pairs := silent_eq_pairs (silent_pushEntry q e s)
@[simp] theorem pushEntry_place (q : QueueId) (e : Entry) (s : State) : (pushEntry q e s).place = s.place := silent_eq_place (silent_pushEntry q e s)
@[simp] theorem pushEntry_pwr (q : QueueId) (e : Entry) (s : State) : (pushEntry q e s).pwr = s.pwr := silent_eq_pwr (silent_pushEntry q e s)
@[simp] theorem pushEntry_die (q : QueueId) (e : Entry) (s : State) : (pushEntry q e s).die = s.die := silent_eq_die (silent_pushEntry q e s)
@[simp] theorem pushEntry_sense (q : QueueId) (e : Entry) (s : State) : (pushEntry q e s).sense = s.sense := silent_eq_sense (silent_pushEntry q e s)
@[simp] theorem pushEntry_net (q : QueueId) (e : Entry) (s : State) : (pushEntry q e s).net = s.net := silent_eq_net (silent_pushEntry q e s)
@[simp] theorem pushEntry_time (q : QueueId) (e : Entry) (s : State) : (pushEntry q e s).time = s.time := silent_eq_time (silent_pushEntry q e s)

@[simp] theorem settleLost_pending (q : QueueId) (s : State) : (settleLost q s).pending = s.pending := silent_eq_pending (silent_settleLost q s)
@[simp] theorem settleLost_now (q : QueueId) (s : State) : (settleLost q s).now = s.now := silent_eq_now (silent_settleLost q s)
@[simp] theorem settleLost_freeCount (q : QueueId) (s : State) : (settleLost q s).freeCount = s.freeCount := silent_eq_freeCount (silent_settleLost q s)
@[simp] theorem settleLost_par (q : QueueId) (s : State) : (settleLost q s).par = s.par := silent_eq_par (silent_settleLost q s)
@[simp] theorem settleLost_transfer (q : QueueId) (s : State) : (settleLost q s).transfer = s.transfer := silent_eq_transfer (silent_settleLost q s)
@[simp] theorem settleLost_mem (q : QueueId) (s : State) : (settleLost q s).mem = s.mem := silent_eq_mem (silent_settleLost q s)
@[simp] theorem settleLost_arb (q : QueueId) (s : State) : (settleLost q s).arb = s.arb := silent_eq_arb (silent_settleLost q s)
@[simp] theorem settleLost_streams (q : QueueId) (s : State) : (settleLost q s).streams = s.streams := silent_eq_streams (silent_settleLost q s)
@[simp] theorem settleLost_boot (q : QueueId) (s : State) : (settleLost q s).boot = s.boot := silent_eq_boot (silent_settleLost q s)
@[simp] theorem settleLost_br (q : QueueId) (s : State) : (settleLost q s).br = s.br := silent_eq_br (silent_settleLost q s)
@[simp] theorem settleLost_gr (q : QueueId) (s : State) : (settleLost q s).gr = s.gr := silent_eq_gr (silent_settleLost q s)
@[simp] theorem settleLost_drive (q : QueueId) (s : State) : (settleLost q s).drive = s.drive := silent_eq_drive (silent_settleLost q s)
@[simp] theorem settleLost_cont (q : QueueId) (s : State) : (settleLost q s).cont = s.cont := silent_eq_cont (silent_settleLost q s)
@[simp] theorem settleLost_clove (q : QueueId) (s : State) : (settleLost q s).clove = s.clove := silent_eq_clove (silent_settleLost q s)
@[simp] theorem settleLost_pairs (q : QueueId) (s : State) : (settleLost q s).pairs = s.pairs := silent_eq_pairs (silent_settleLost q s)
@[simp] theorem settleLost_place (q : QueueId) (s : State) : (settleLost q s).place = s.place := silent_eq_place (silent_settleLost q s)
@[simp] theorem settleLost_pwr (q : QueueId) (s : State) : (settleLost q s).pwr = s.pwr := silent_eq_pwr (silent_settleLost q s)
@[simp] theorem settleLost_die (q : QueueId) (s : State) : (settleLost q s).die = s.die := silent_eq_die (silent_settleLost q s)
@[simp] theorem settleLost_sense (q : QueueId) (s : State) : (settleLost q s).sense = s.sense := silent_eq_sense (silent_settleLost q s)
@[simp] theorem settleLost_net (q : QueueId) (s : State) : (settleLost q s).net = s.net := silent_eq_net (silent_settleLost q s)
@[simp] theorem settleLost_time (q : QueueId) (s : State) : (settleLost q s).time = s.time := silent_eq_time (silent_settleLost q s)

@[simp] theorem enqueueOut_pending (q : QueueId) (e : Entry) (s : State) : (enqueueOut q e s).pending = s.pending := silent_eq_pending (silent_enqueueOut q e s)
@[simp] theorem enqueueOut_now (q : QueueId) (e : Entry) (s : State) : (enqueueOut q e s).now = s.now := silent_eq_now (silent_enqueueOut q e s)
@[simp] theorem enqueueOut_freeCount (q : QueueId) (e : Entry) (s : State) : (enqueueOut q e s).freeCount = s.freeCount := silent_eq_freeCount (silent_enqueueOut q e s)
@[simp] theorem enqueueOut_par (q : QueueId) (e : Entry) (s : State) : (enqueueOut q e s).par = s.par := silent_eq_par (silent_enqueueOut q e s)
@[simp] theorem enqueueOut_transfer (q : QueueId) (e : Entry) (s : State) : (enqueueOut q e s).transfer = s.transfer := silent_eq_transfer (silent_enqueueOut q e s)
@[simp] theorem enqueueOut_mem (q : QueueId) (e : Entry) (s : State) : (enqueueOut q e s).mem = s.mem := silent_eq_mem (silent_enqueueOut q e s)
@[simp] theorem enqueueOut_arb (q : QueueId) (e : Entry) (s : State) : (enqueueOut q e s).arb = s.arb := silent_eq_arb (silent_enqueueOut q e s)
@[simp] theorem enqueueOut_streams (q : QueueId) (e : Entry) (s : State) : (enqueueOut q e s).streams = s.streams := silent_eq_streams (silent_enqueueOut q e s)
@[simp] theorem enqueueOut_boot (q : QueueId) (e : Entry) (s : State) : (enqueueOut q e s).boot = s.boot := silent_eq_boot (silent_enqueueOut q e s)
@[simp] theorem enqueueOut_br (q : QueueId) (e : Entry) (s : State) : (enqueueOut q e s).br = s.br := silent_eq_br (silent_enqueueOut q e s)
@[simp] theorem enqueueOut_gr (q : QueueId) (e : Entry) (s : State) : (enqueueOut q e s).gr = s.gr := silent_eq_gr (silent_enqueueOut q e s)
@[simp] theorem enqueueOut_drive (q : QueueId) (e : Entry) (s : State) : (enqueueOut q e s).drive = s.drive := silent_eq_drive (silent_enqueueOut q e s)
@[simp] theorem enqueueOut_cont (q : QueueId) (e : Entry) (s : State) : (enqueueOut q e s).cont = s.cont := silent_eq_cont (silent_enqueueOut q e s)
@[simp] theorem enqueueOut_clove (q : QueueId) (e : Entry) (s : State) : (enqueueOut q e s).clove = s.clove := silent_eq_clove (silent_enqueueOut q e s)
@[simp] theorem enqueueOut_pairs (q : QueueId) (e : Entry) (s : State) : (enqueueOut q e s).pairs = s.pairs := silent_eq_pairs (silent_enqueueOut q e s)
@[simp] theorem enqueueOut_place (q : QueueId) (e : Entry) (s : State) : (enqueueOut q e s).place = s.place := silent_eq_place (silent_enqueueOut q e s)
@[simp] theorem enqueueOut_pwr (q : QueueId) (e : Entry) (s : State) : (enqueueOut q e s).pwr = s.pwr := silent_eq_pwr (silent_enqueueOut q e s)
@[simp] theorem enqueueOut_die (q : QueueId) (e : Entry) (s : State) : (enqueueOut q e s).die = s.die := silent_eq_die (silent_enqueueOut q e s)
@[simp] theorem enqueueOut_sense (q : QueueId) (e : Entry) (s : State) : (enqueueOut q e s).sense = s.sense := silent_eq_sense (silent_enqueueOut q e s)
@[simp] theorem enqueueOut_net (q : QueueId) (e : Entry) (s : State) : (enqueueOut q e s).net = s.net := silent_eq_net (silent_enqueueOut q e s)
@[simp] theorem enqueueOut_time (q : QueueId) (e : Entry) (s : State) : (enqueueOut q e s).time = s.time := silent_eq_time (silent_enqueueOut q e s)

@[simp] theorem send_pending (m : Msg) (s : State) : (send m s).pending = s.pending := silent_eq_pending (silent_send m s)
@[simp] theorem send_now (m : Msg) (s : State) : (send m s).now = s.now := silent_eq_now (silent_send m s)
@[simp] theorem send_freeCount (m : Msg) (s : State) : (send m s).freeCount = s.freeCount := silent_eq_freeCount (silent_send m s)
@[simp] theorem send_par (m : Msg) (s : State) : (send m s).par = s.par := silent_eq_par (silent_send m s)
@[simp] theorem send_transfer (m : Msg) (s : State) : (send m s).transfer = s.transfer := silent_eq_transfer (silent_send m s)
@[simp] theorem send_mem (m : Msg) (s : State) : (send m s).mem = s.mem := silent_eq_mem (silent_send m s)
@[simp] theorem send_arb (m : Msg) (s : State) : (send m s).arb = s.arb := silent_eq_arb (silent_send m s)
@[simp] theorem send_streams (m : Msg) (s : State) : (send m s).streams = s.streams := silent_eq_streams (silent_send m s)
@[simp] theorem send_boot (m : Msg) (s : State) : (send m s).boot = s.boot := silent_eq_boot (silent_send m s)
@[simp] theorem send_br (m : Msg) (s : State) : (send m s).br = s.br := silent_eq_br (silent_send m s)
@[simp] theorem send_gr (m : Msg) (s : State) : (send m s).gr = s.gr := silent_eq_gr (silent_send m s)
@[simp] theorem send_drive (m : Msg) (s : State) : (send m s).drive = s.drive := silent_eq_drive (silent_send m s)
@[simp] theorem send_cont (m : Msg) (s : State) : (send m s).cont = s.cont := silent_eq_cont (silent_send m s)
@[simp] theorem send_clove (m : Msg) (s : State) : (send m s).clove = s.clove := silent_eq_clove (silent_send m s)
@[simp] theorem send_pairs (m : Msg) (s : State) : (send m s).pairs = s.pairs := silent_eq_pairs (silent_send m s)
@[simp] theorem send_place (m : Msg) (s : State) : (send m s).place = s.place := silent_eq_place (silent_send m s)
@[simp] theorem send_pwr (m : Msg) (s : State) : (send m s).pwr = s.pwr := silent_eq_pwr (silent_send m s)
@[simp] theorem send_die (m : Msg) (s : State) : (send m s).die = s.die := silent_eq_die (silent_send m s)
@[simp] theorem send_sense (m : Msg) (s : State) : (send m s).sense = s.sense := silent_eq_sense (silent_send m s)
@[simp] theorem send_net (m : Msg) (s : State) : (send m s).net = s.net := silent_eq_net (silent_send m s)
@[simp] theorem send_time (m : Msg) (s : State) : (send m s).time = s.time := silent_eq_time (silent_send m s)

@[simp] theorem canQueue_pending (c : CanId) (f : CanFrame) (p : Option Nat) (s : State) : (canQueue c f p s).pending = s.pending := silent_eq_pending (silent_canQueue c f p s)
@[simp] theorem canQueue_now (c : CanId) (f : CanFrame) (p : Option Nat) (s : State) : (canQueue c f p s).now = s.now := silent_eq_now (silent_canQueue c f p s)
@[simp] theorem canQueue_freeCount (c : CanId) (f : CanFrame) (p : Option Nat) (s : State) : (canQueue c f p s).freeCount = s.freeCount := silent_eq_freeCount (silent_canQueue c f p s)
@[simp] theorem canQueue_par (c : CanId) (f : CanFrame) (p : Option Nat) (s : State) : (canQueue c f p s).par = s.par := silent_eq_par (silent_canQueue c f p s)
@[simp] theorem canQueue_transfer (c : CanId) (f : CanFrame) (p : Option Nat) (s : State) : (canQueue c f p s).transfer = s.transfer := silent_eq_transfer (silent_canQueue c f p s)
@[simp] theorem canQueue_mem (c : CanId) (f : CanFrame) (p : Option Nat) (s : State) : (canQueue c f p s).mem = s.mem := silent_eq_mem (silent_canQueue c f p s)
@[simp] theorem canQueue_arb (c : CanId) (f : CanFrame) (p : Option Nat) (s : State) : (canQueue c f p s).arb = s.arb := silent_eq_arb (silent_canQueue c f p s)
@[simp] theorem canQueue_streams (c : CanId) (f : CanFrame) (p : Option Nat) (s : State) : (canQueue c f p s).streams = s.streams := silent_eq_streams (silent_canQueue c f p s)
@[simp] theorem canQueue_boot (c : CanId) (f : CanFrame) (p : Option Nat) (s : State) : (canQueue c f p s).boot = s.boot := silent_eq_boot (silent_canQueue c f p s)
@[simp] theorem canQueue_br (c : CanId) (f : CanFrame) (p : Option Nat) (s : State) : (canQueue c f p s).br = s.br := silent_eq_br (silent_canQueue c f p s)
@[simp] theorem canQueue_gr (c : CanId) (f : CanFrame) (p : Option Nat) (s : State) : (canQueue c f p s).gr = s.gr := silent_eq_gr (silent_canQueue c f p s)
@[simp] theorem canQueue_drive (c : CanId) (f : CanFrame) (p : Option Nat) (s : State) : (canQueue c f p s).drive = s.drive := silent_eq_drive (silent_canQueue c f p s)
@[simp] theorem canQueue_cont (c : CanId) (f : CanFrame) (p : Option Nat) (s : State) : (canQueue c f p s).cont = s.cont := silent_eq_cont (silent_canQueue c f p s)
@[simp] theorem canQueue_clove (c : CanId) (f : CanFrame) (p : Option Nat) (s : State) : (canQueue c f p s).clove = s.clove := silent_eq_clove (silent_canQueue c f p s)
@[simp] theorem canQueue_pairs (c : CanId) (f : CanFrame) (p : Option Nat) (s : State) : (canQueue c f p s).pairs = s.pairs := silent_eq_pairs (silent_canQueue c f p s)
@[simp] theorem canQueue_place (c : CanId) (f : CanFrame) (p : Option Nat) (s : State) : (canQueue c f p s).place = s.place := silent_eq_place (silent_canQueue c f p s)
@[simp] theorem canQueue_pwr (c : CanId) (f : CanFrame) (p : Option Nat) (s : State) : (canQueue c f p s).pwr = s.pwr := silent_eq_pwr (silent_canQueue c f p s)
@[simp] theorem canQueue_die (c : CanId) (f : CanFrame) (p : Option Nat) (s : State) : (canQueue c f p s).die = s.die := silent_eq_die (silent_canQueue c f p s)
@[simp] theorem canQueue_sense (c : CanId) (f : CanFrame) (p : Option Nat) (s : State) : (canQueue c f p s).sense = s.sense := silent_eq_sense (silent_canQueue c f p s)
@[simp] theorem canQueue_net (c : CanId) (f : CanFrame) (p : Option Nat) (s : State) : (canQueue c f p s).net = s.net := silent_eq_net (silent_canQueue c f p s)
@[simp] theorem canQueue_time (c : CanId) (f : CanFrame) (p : Option Nat) (s : State) : (canQueue c f p s).time = s.time := silent_eq_time (silent_canQueue c f p s)

@[simp] theorem injectionCount_pending (p : Nat) (s : State) : (injectionCount p s).pending = s.pending := silent_eq_pending (silent_injectionCount p s)
@[simp] theorem injectionCount_now (p : Nat) (s : State) : (injectionCount p s).now = s.now := silent_eq_now (silent_injectionCount p s)
@[simp] theorem injectionCount_freeCount (p : Nat) (s : State) : (injectionCount p s).freeCount = s.freeCount := silent_eq_freeCount (silent_injectionCount p s)
@[simp] theorem injectionCount_par (p : Nat) (s : State) : (injectionCount p s).par = s.par := silent_eq_par (silent_injectionCount p s)
@[simp] theorem injectionCount_transfer (p : Nat) (s : State) : (injectionCount p s).transfer = s.transfer := silent_eq_transfer (silent_injectionCount p s)
@[simp] theorem injectionCount_mem (p : Nat) (s : State) : (injectionCount p s).mem = s.mem := silent_eq_mem (silent_injectionCount p s)
@[simp] theorem injectionCount_arb (p : Nat) (s : State) : (injectionCount p s).arb = s.arb := silent_eq_arb (silent_injectionCount p s)
@[simp] theorem injectionCount_streams (p : Nat) (s : State) : (injectionCount p s).streams = s.streams := silent_eq_streams (silent_injectionCount p s)
@[simp] theorem injectionCount_boot (p : Nat) (s : State) : (injectionCount p s).boot = s.boot := silent_eq_boot (silent_injectionCount p s)
@[simp] theorem injectionCount_br (p : Nat) (s : State) : (injectionCount p s).br = s.br := silent_eq_br (silent_injectionCount p s)
@[simp] theorem injectionCount_gr (p : Nat) (s : State) : (injectionCount p s).gr = s.gr := silent_eq_gr (silent_injectionCount p s)
@[simp] theorem injectionCount_drive (p : Nat) (s : State) : (injectionCount p s).drive = s.drive := silent_eq_drive (silent_injectionCount p s)
@[simp] theorem injectionCount_cont (p : Nat) (s : State) : (injectionCount p s).cont = s.cont := silent_eq_cont (silent_injectionCount p s)
@[simp] theorem injectionCount_clove (p : Nat) (s : State) : (injectionCount p s).clove = s.clove := silent_eq_clove (silent_injectionCount p s)
@[simp] theorem injectionCount_pairs (p : Nat) (s : State) : (injectionCount p s).pairs = s.pairs := silent_eq_pairs (silent_injectionCount p s)
@[simp] theorem injectionCount_place (p : Nat) (s : State) : (injectionCount p s).place = s.place := silent_eq_place (silent_injectionCount p s)
@[simp] theorem injectionCount_pwr (p : Nat) (s : State) : (injectionCount p s).pwr = s.pwr := silent_eq_pwr (silent_injectionCount p s)
@[simp] theorem injectionCount_die (p : Nat) (s : State) : (injectionCount p s).die = s.die := silent_eq_die (silent_injectionCount p s)
@[simp] theorem injectionCount_sense (p : Nat) (s : State) : (injectionCount p s).sense = s.sense := silent_eq_sense (silent_injectionCount p s)
@[simp] theorem injectionCount_net (p : Nat) (s : State) : (injectionCount p s).net = s.net := silent_eq_net (silent_injectionCount p s)
@[simp] theorem injectionCount_time (p : Nat) (s : State) : (injectionCount p s).time = s.time := silent_eq_time (silent_injectionCount p s)

@[simp] theorem raise_pending (c l i : Nat) (p : List Int) (s : State) : (raise c l i p s).pending = s.pending := silent_eq_pending (silent_raise c l i p s)
@[simp] theorem raise_now (c l i : Nat) (p : List Int) (s : State) : (raise c l i p s).now = s.now := silent_eq_now (silent_raise c l i p s)
@[simp] theorem raise_freeCount (c l i : Nat) (p : List Int) (s : State) : (raise c l i p s).freeCount = s.freeCount := silent_eq_freeCount (silent_raise c l i p s)
@[simp] theorem raise_par (c l i : Nat) (p : List Int) (s : State) : (raise c l i p s).par = s.par := silent_eq_par (silent_raise c l i p s)
@[simp] theorem raise_transfer (c l i : Nat) (p : List Int) (s : State) : (raise c l i p s).transfer = s.transfer := silent_eq_transfer (silent_raise c l i p s)
@[simp] theorem raise_mem (c l i : Nat) (p : List Int) (s : State) : (raise c l i p s).mem = s.mem := silent_eq_mem (silent_raise c l i p s)
@[simp] theorem raise_arb (c l i : Nat) (p : List Int) (s : State) : (raise c l i p s).arb = s.arb := silent_eq_arb (silent_raise c l i p s)
@[simp] theorem raise_streams (c l i : Nat) (p : List Int) (s : State) : (raise c l i p s).streams = s.streams := silent_eq_streams (silent_raise c l i p s)
@[simp] theorem raise_boot (c l i : Nat) (p : List Int) (s : State) : (raise c l i p s).boot = s.boot := silent_eq_boot (silent_raise c l i p s)
@[simp] theorem raise_br (c l i : Nat) (p : List Int) (s : State) : (raise c l i p s).br = s.br := silent_eq_br (silent_raise c l i p s)
@[simp] theorem raise_gr (c l i : Nat) (p : List Int) (s : State) : (raise c l i p s).gr = s.gr := silent_eq_gr (silent_raise c l i p s)
@[simp] theorem raise_drive (c l i : Nat) (p : List Int) (s : State) : (raise c l i p s).drive = s.drive := silent_eq_drive (silent_raise c l i p s)
@[simp] theorem raise_cont (c l i : Nat) (p : List Int) (s : State) : (raise c l i p s).cont = s.cont := silent_eq_cont (silent_raise c l i p s)
@[simp] theorem raise_clove (c l i : Nat) (p : List Int) (s : State) : (raise c l i p s).clove = s.clove := silent_eq_clove (silent_raise c l i p s)
@[simp] theorem raise_pairs (c l i : Nat) (p : List Int) (s : State) : (raise c l i p s).pairs = s.pairs := silent_eq_pairs (silent_raise c l i p s)
@[simp] theorem raise_place (c l i : Nat) (p : List Int) (s : State) : (raise c l i p s).place = s.place := silent_eq_place (silent_raise c l i p s)
@[simp] theorem raise_pwr (c l i : Nat) (p : List Int) (s : State) : (raise c l i p s).pwr = s.pwr := silent_eq_pwr (silent_raise c l i p s)
@[simp] theorem raise_die (c l i : Nat) (p : List Int) (s : State) : (raise c l i p s).die = s.die := silent_eq_die (silent_raise c l i p s)
@[simp] theorem raise_sense (c l i : Nat) (p : List Int) (s : State) : (raise c l i p s).sense = s.sense := silent_eq_sense (silent_raise c l i p s)
@[simp] theorem raise_net (c l i : Nat) (p : List Int) (s : State) : (raise c l i p s).net = s.net := silent_eq_net (silent_raise c l i p s)
@[simp] theorem raise_time (c l i : Nat) (p : List Int) (s : State) : (raise c l i p s).time = s.time := silent_eq_time (silent_raise c l i p s)

@[simp] theorem raiseFirst_pending (c l i : Nat) (p : List Int) (k : Nat) (s : State) : (raiseFirst c l i p k s).pending = s.pending := silent_eq_pending (silent_raiseFirst c l i p k s)
@[simp] theorem raiseFirst_now (c l i : Nat) (p : List Int) (k : Nat) (s : State) : (raiseFirst c l i p k s).now = s.now := silent_eq_now (silent_raiseFirst c l i p k s)
@[simp] theorem raiseFirst_freeCount (c l i : Nat) (p : List Int) (k : Nat) (s : State) : (raiseFirst c l i p k s).freeCount = s.freeCount := silent_eq_freeCount (silent_raiseFirst c l i p k s)
@[simp] theorem raiseFirst_par (c l i : Nat) (p : List Int) (k : Nat) (s : State) : (raiseFirst c l i p k s).par = s.par := silent_eq_par (silent_raiseFirst c l i p k s)
@[simp] theorem raiseFirst_transfer (c l i : Nat) (p : List Int) (k : Nat) (s : State) : (raiseFirst c l i p k s).transfer = s.transfer := silent_eq_transfer (silent_raiseFirst c l i p k s)
@[simp] theorem raiseFirst_mem (c l i : Nat) (p : List Int) (k : Nat) (s : State) : (raiseFirst c l i p k s).mem = s.mem := silent_eq_mem (silent_raiseFirst c l i p k s)
@[simp] theorem raiseFirst_arb (c l i : Nat) (p : List Int) (k : Nat) (s : State) : (raiseFirst c l i p k s).arb = s.arb := silent_eq_arb (silent_raiseFirst c l i p k s)
@[simp] theorem raiseFirst_streams (c l i : Nat) (p : List Int) (k : Nat) (s : State) : (raiseFirst c l i p k s).streams = s.streams := silent_eq_streams (silent_raiseFirst c l i p k s)
@[simp] theorem raiseFirst_boot (c l i : Nat) (p : List Int) (k : Nat) (s : State) : (raiseFirst c l i p k s).boot = s.boot := silent_eq_boot (silent_raiseFirst c l i p k s)
@[simp] theorem raiseFirst_br (c l i : Nat) (p : List Int) (k : Nat) (s : State) : (raiseFirst c l i p k s).br = s.br := silent_eq_br (silent_raiseFirst c l i p k s)
@[simp] theorem raiseFirst_gr (c l i : Nat) (p : List Int) (k : Nat) (s : State) : (raiseFirst c l i p k s).gr = s.gr := silent_eq_gr (silent_raiseFirst c l i p k s)
@[simp] theorem raiseFirst_drive (c l i : Nat) (p : List Int) (k : Nat) (s : State) : (raiseFirst c l i p k s).drive = s.drive := silent_eq_drive (silent_raiseFirst c l i p k s)
@[simp] theorem raiseFirst_cont (c l i : Nat) (p : List Int) (k : Nat) (s : State) : (raiseFirst c l i p k s).cont = s.cont := silent_eq_cont (silent_raiseFirst c l i p k s)
@[simp] theorem raiseFirst_clove (c l i : Nat) (p : List Int) (k : Nat) (s : State) : (raiseFirst c l i p k s).clove = s.clove := silent_eq_clove (silent_raiseFirst c l i p k s)
@[simp] theorem raiseFirst_pairs (c l i : Nat) (p : List Int) (k : Nat) (s : State) : (raiseFirst c l i p k s).pairs = s.pairs := silent_eq_pairs (silent_raiseFirst c l i p k s)
@[simp] theorem raiseFirst_place (c l i : Nat) (p : List Int) (k : Nat) (s : State) : (raiseFirst c l i p k s).place = s.place := silent_eq_place (silent_raiseFirst c l i p k s)
@[simp] theorem raiseFirst_pwr (c l i : Nat) (p : List Int) (k : Nat) (s : State) : (raiseFirst c l i p k s).pwr = s.pwr := silent_eq_pwr (silent_raiseFirst c l i p k s)
@[simp] theorem raiseFirst_die (c l i : Nat) (p : List Int) (k : Nat) (s : State) : (raiseFirst c l i p k s).die = s.die := silent_eq_die (silent_raiseFirst c l i p k s)
@[simp] theorem raiseFirst_sense (c l i : Nat) (p : List Int) (k : Nat) (s : State) : (raiseFirst c l i p k s).sense = s.sense := silent_eq_sense (silent_raiseFirst c l i p k s)
@[simp] theorem raiseFirst_net (c l i : Nat) (p : List Int) (k : Nat) (s : State) : (raiseFirst c l i p k s).net = s.net := silent_eq_net (silent_raiseFirst c l i p k s)
@[simp] theorem raiseFirst_time (c l i : Nat) (p : List Int) (k : Nat) (s : State) : (raiseFirst c l i p k s).time = s.time := silent_eq_time (silent_raiseFirst c l i p k s)

@[simp] theorem raise4_pending (c : Nat) (p : List Int) (s : State) : (raise4 c p s).pending = s.pending := silent_eq_pending (silent_raise4 c p s)
@[simp] theorem raise4_now (c : Nat) (p : List Int) (s : State) : (raise4 c p s).now = s.now := silent_eq_now (silent_raise4 c p s)
@[simp] theorem raise4_freeCount (c : Nat) (p : List Int) (s : State) : (raise4 c p s).freeCount = s.freeCount := silent_eq_freeCount (silent_raise4 c p s)
@[simp] theorem raise4_par (c : Nat) (p : List Int) (s : State) : (raise4 c p s).par = s.par := silent_eq_par (silent_raise4 c p s)
@[simp] theorem raise4_transfer (c : Nat) (p : List Int) (s : State) : (raise4 c p s).transfer = s.transfer := silent_eq_transfer (silent_raise4 c p s)
@[simp] theorem raise4_mem (c : Nat) (p : List Int) (s : State) : (raise4 c p s).mem = s.mem := silent_eq_mem (silent_raise4 c p s)
@[simp] theorem raise4_arb (c : Nat) (p : List Int) (s : State) : (raise4 c p s).arb = s.arb := silent_eq_arb (silent_raise4 c p s)
@[simp] theorem raise4_streams (c : Nat) (p : List Int) (s : State) : (raise4 c p s).streams = s.streams := silent_eq_streams (silent_raise4 c p s)
@[simp] theorem raise4_boot (c : Nat) (p : List Int) (s : State) : (raise4 c p s).boot = s.boot := silent_eq_boot (silent_raise4 c p s)
@[simp] theorem raise4_br (c : Nat) (p : List Int) (s : State) : (raise4 c p s).br = s.br := silent_eq_br (silent_raise4 c p s)
@[simp] theorem raise4_gr (c : Nat) (p : List Int) (s : State) : (raise4 c p s).gr = s.gr := silent_eq_gr (silent_raise4 c p s)
@[simp] theorem raise4_drive (c : Nat) (p : List Int) (s : State) : (raise4 c p s).drive = s.drive := silent_eq_drive (silent_raise4 c p s)
@[simp] theorem raise4_cont (c : Nat) (p : List Int) (s : State) : (raise4 c p s).cont = s.cont := silent_eq_cont (silent_raise4 c p s)
@[simp] theorem raise4_clove (c : Nat) (p : List Int) (s : State) : (raise4 c p s).clove = s.clove := silent_eq_clove (silent_raise4 c p s)
@[simp] theorem raise4_pairs (c : Nat) (p : List Int) (s : State) : (raise4 c p s).pairs = s.pairs := silent_eq_pairs (silent_raise4 c p s)
@[simp] theorem raise4_place (c : Nat) (p : List Int) (s : State) : (raise4 c p s).place = s.place := silent_eq_place (silent_raise4 c p s)
@[simp] theorem raise4_pwr (c : Nat) (p : List Int) (s : State) : (raise4 c p s).pwr = s.pwr := silent_eq_pwr (silent_raise4 c p s)
@[simp] theorem raise4_die (c : Nat) (p : List Int) (s : State) : (raise4 c p s).die = s.die := silent_eq_die (silent_raise4 c p s)
@[simp] theorem raise4_sense (c : Nat) (p : List Int) (s : State) : (raise4 c p s).sense = s.sense := silent_eq_sense (silent_raise4 c p s)
@[simp] theorem raise4_net (c : Nat) (p : List Int) (s : State) : (raise4 c p s).net = s.net := silent_eq_net (silent_raise4 c p s)
@[simp] theorem raise4_time (c : Nat) (p : List Int) (s : State) : (raise4 c p s).time = s.time := silent_eq_time (silent_raise4 c p s)

@[simp] theorem raiseB_pending (c : Nat) (b : BridgeId) (p : List Int) (s : State) : (raiseB c b p s).pending = s.pending := silent_eq_pending (silent_raiseB c b p s)
@[simp] theorem raiseB_now (c : Nat) (b : BridgeId) (p : List Int) (s : State) : (raiseB c b p s).now = s.now := silent_eq_now (silent_raiseB c b p s)
@[simp] theorem raiseB_freeCount (c : Nat) (b : BridgeId) (p : List Int) (s : State) : (raiseB c b p s).freeCount = s.freeCount := silent_eq_freeCount (silent_raiseB c b p s)
@[simp] theorem raiseB_par (c : Nat) (b : BridgeId) (p : List Int) (s : State) : (raiseB c b p s).par = s.par := silent_eq_par (silent_raiseB c b p s)
@[simp] theorem raiseB_transfer (c : Nat) (b : BridgeId) (p : List Int) (s : State) : (raiseB c b p s).transfer = s.transfer := silent_eq_transfer (silent_raiseB c b p s)
@[simp] theorem raiseB_mem (c : Nat) (b : BridgeId) (p : List Int) (s : State) : (raiseB c b p s).mem = s.mem := silent_eq_mem (silent_raiseB c b p s)
@[simp] theorem raiseB_arb (c : Nat) (b : BridgeId) (p : List Int) (s : State) : (raiseB c b p s).arb = s.arb := silent_eq_arb (silent_raiseB c b p s)
@[simp] theorem raiseB_streams (c : Nat) (b : BridgeId) (p : List Int) (s : State) : (raiseB c b p s).streams = s.streams := silent_eq_streams (silent_raiseB c b p s)
@[simp] theorem raiseB_boot (c : Nat) (b : BridgeId) (p : List Int) (s : State) : (raiseB c b p s).boot = s.boot := silent_eq_boot (silent_raiseB c b p s)
@[simp] theorem raiseB_br (c : Nat) (b : BridgeId) (p : List Int) (s : State) : (raiseB c b p s).br = s.br := silent_eq_br (silent_raiseB c b p s)
@[simp] theorem raiseB_gr (c : Nat) (b : BridgeId) (p : List Int) (s : State) : (raiseB c b p s).gr = s.gr := silent_eq_gr (silent_raiseB c b p s)
@[simp] theorem raiseB_drive (c : Nat) (b : BridgeId) (p : List Int) (s : State) : (raiseB c b p s).drive = s.drive := silent_eq_drive (silent_raiseB c b p s)
@[simp] theorem raiseB_cont (c : Nat) (b : BridgeId) (p : List Int) (s : State) : (raiseB c b p s).cont = s.cont := silent_eq_cont (silent_raiseB c b p s)
@[simp] theorem raiseB_clove (c : Nat) (b : BridgeId) (p : List Int) (s : State) : (raiseB c b p s).clove = s.clove := silent_eq_clove (silent_raiseB c b p s)
@[simp] theorem raiseB_pairs (c : Nat) (b : BridgeId) (p : List Int) (s : State) : (raiseB c b p s).pairs = s.pairs := silent_eq_pairs (silent_raiseB c b p s)
@[simp] theorem raiseB_place (c : Nat) (b : BridgeId) (p : List Int) (s : State) : (raiseB c b p s).place = s.place := silent_eq_place (silent_raiseB c b p s)
@[simp] theorem raiseB_pwr (c : Nat) (b : BridgeId) (p : List Int) (s : State) : (raiseB c b p s).pwr = s.pwr := silent_eq_pwr (silent_raiseB c b p s)
@[simp] theorem raiseB_die (c : Nat) (b : BridgeId) (p : List Int) (s : State) : (raiseB c b p s).die = s.die := silent_eq_die (silent_raiseB c b p s)
@[simp] theorem raiseB_sense (c : Nat) (b : BridgeId) (p : List Int) (s : State) : (raiseB c b p s).sense = s.sense := silent_eq_sense (silent_raiseB c b p s)
@[simp] theorem raiseB_net (c : Nat) (b : BridgeId) (p : List Int) (s : State) : (raiseB c b p s).net = s.net := silent_eq_net (silent_raiseB c b p s)
@[simp] theorem raiseB_time (c : Nat) (b : BridgeId) (p : List Int) (s : State) : (raiseB c b p s).time = s.time := silent_eq_time (silent_raiseB c b p s)

@[simp] theorem raiseG_pending (c : Nat) (g : GroupId) (p : List Int) (s : State) : (raiseG c g p s).pending = s.pending := silent_eq_pending (silent_raiseG c g p s)
@[simp] theorem raiseG_now (c : Nat) (g : GroupId) (p : List Int) (s : State) : (raiseG c g p s).now = s.now := silent_eq_now (silent_raiseG c g p s)
@[simp] theorem raiseG_freeCount (c : Nat) (g : GroupId) (p : List Int) (s : State) : (raiseG c g p s).freeCount = s.freeCount := silent_eq_freeCount (silent_raiseG c g p s)
@[simp] theorem raiseG_par (c : Nat) (g : GroupId) (p : List Int) (s : State) : (raiseG c g p s).par = s.par := silent_eq_par (silent_raiseG c g p s)
@[simp] theorem raiseG_transfer (c : Nat) (g : GroupId) (p : List Int) (s : State) : (raiseG c g p s).transfer = s.transfer := silent_eq_transfer (silent_raiseG c g p s)
@[simp] theorem raiseG_mem (c : Nat) (g : GroupId) (p : List Int) (s : State) : (raiseG c g p s).mem = s.mem := silent_eq_mem (silent_raiseG c g p s)
@[simp] theorem raiseG_arb (c : Nat) (g : GroupId) (p : List Int) (s : State) : (raiseG c g p s).arb = s.arb := silent_eq_arb (silent_raiseG c g p s)
@[simp] theorem raiseG_streams (c : Nat) (g : GroupId) (p : List Int) (s : State) : (raiseG c g p s).streams = s.streams := silent_eq_streams (silent_raiseG c g p s)
@[simp] theorem raiseG_boot (c : Nat) (g : GroupId) (p : List Int) (s : State) : (raiseG c g p s).boot = s.boot := silent_eq_boot (silent_raiseG c g p s)
@[simp] theorem raiseG_br (c : Nat) (g : GroupId) (p : List Int) (s : State) : (raiseG c g p s).br = s.br := silent_eq_br (silent_raiseG c g p s)
@[simp] theorem raiseG_gr (c : Nat) (g : GroupId) (p : List Int) (s : State) : (raiseG c g p s).gr = s.gr := silent_eq_gr (silent_raiseG c g p s)
@[simp] theorem raiseG_drive (c : Nat) (g : GroupId) (p : List Int) (s : State) : (raiseG c g p s).drive = s.drive := silent_eq_drive (silent_raiseG c g p s)
@[simp] theorem raiseG_cont (c : Nat) (g : GroupId) (p : List Int) (s : State) : (raiseG c g p s).cont = s.cont := silent_eq_cont (silent_raiseG c g p s)
@[simp] theorem raiseG_clove (c : Nat) (g : GroupId) (p : List Int) (s : State) : (raiseG c g p s).clove = s.clove := silent_eq_clove (silent_raiseG c g p s)
@[simp] theorem raiseG_pairs (c : Nat) (g : GroupId) (p : List Int) (s : State) : (raiseG c g p s).pairs = s.pairs := silent_eq_pairs (silent_raiseG c g p s)
@[simp] theorem raiseG_place (c : Nat) (g : GroupId) (p : List Int) (s : State) : (raiseG c g p s).place = s.place := silent_eq_place (silent_raiseG c g p s)
@[simp] theorem raiseG_pwr (c : Nat) (g : GroupId) (p : List Int) (s : State) : (raiseG c g p s).pwr = s.pwr := silent_eq_pwr (silent_raiseG c g p s)
@[simp] theorem raiseG_die (c : Nat) (g : GroupId) (p : List Int) (s : State) : (raiseG c g p s).die = s.die := silent_eq_die (silent_raiseG c g p s)
@[simp] theorem raiseG_sense (c : Nat) (g : GroupId) (p : List Int) (s : State) : (raiseG c g p s).sense = s.sense := silent_eq_sense (silent_raiseG c g p s)
@[simp] theorem raiseG_net (c : Nat) (g : GroupId) (p : List Int) (s : State) : (raiseG c g p s).net = s.net := silent_eq_net (silent_raiseG c g p s)
@[simp] theorem raiseG_time (c : Nat) (g : GroupId) (p : List Int) (s : State) : (raiseG c g p s).time = s.time := silent_eq_time (silent_raiseG c g p s)

@[simp] theorem complete_pending (r : CmdRef) (n : Nat) (ws : List Word) (s : State) : (complete r n ws s).pending = s.pending := silent_eq_pending (silent_complete r n ws s)
@[simp] theorem complete_now (r : CmdRef) (n : Nat) (ws : List Word) (s : State) : (complete r n ws s).now = s.now := silent_eq_now (silent_complete r n ws s)
@[simp] theorem complete_freeCount (r : CmdRef) (n : Nat) (ws : List Word) (s : State) : (complete r n ws s).freeCount = s.freeCount := silent_eq_freeCount (silent_complete r n ws s)
@[simp] theorem complete_par (r : CmdRef) (n : Nat) (ws : List Word) (s : State) : (complete r n ws s).par = s.par := silent_eq_par (silent_complete r n ws s)
@[simp] theorem complete_transfer (r : CmdRef) (n : Nat) (ws : List Word) (s : State) : (complete r n ws s).transfer = s.transfer := silent_eq_transfer (silent_complete r n ws s)
@[simp] theorem complete_mem (r : CmdRef) (n : Nat) (ws : List Word) (s : State) : (complete r n ws s).mem = s.mem := silent_eq_mem (silent_complete r n ws s)
@[simp] theorem complete_arb (r : CmdRef) (n : Nat) (ws : List Word) (s : State) : (complete r n ws s).arb = s.arb := silent_eq_arb (silent_complete r n ws s)
@[simp] theorem complete_streams (r : CmdRef) (n : Nat) (ws : List Word) (s : State) : (complete r n ws s).streams = s.streams := silent_eq_streams (silent_complete r n ws s)
@[simp] theorem complete_boot (r : CmdRef) (n : Nat) (ws : List Word) (s : State) : (complete r n ws s).boot = s.boot := silent_eq_boot (silent_complete r n ws s)
@[simp] theorem complete_br (r : CmdRef) (n : Nat) (ws : List Word) (s : State) : (complete r n ws s).br = s.br := silent_eq_br (silent_complete r n ws s)
@[simp] theorem complete_gr (r : CmdRef) (n : Nat) (ws : List Word) (s : State) : (complete r n ws s).gr = s.gr := silent_eq_gr (silent_complete r n ws s)
@[simp] theorem complete_drive (r : CmdRef) (n : Nat) (ws : List Word) (s : State) : (complete r n ws s).drive = s.drive := silent_eq_drive (silent_complete r n ws s)
@[simp] theorem complete_cont (r : CmdRef) (n : Nat) (ws : List Word) (s : State) : (complete r n ws s).cont = s.cont := silent_eq_cont (silent_complete r n ws s)
@[simp] theorem complete_clove (r : CmdRef) (n : Nat) (ws : List Word) (s : State) : (complete r n ws s).clove = s.clove := silent_eq_clove (silent_complete r n ws s)
@[simp] theorem complete_pairs (r : CmdRef) (n : Nat) (ws : List Word) (s : State) : (complete r n ws s).pairs = s.pairs := silent_eq_pairs (silent_complete r n ws s)
@[simp] theorem complete_place (r : CmdRef) (n : Nat) (ws : List Word) (s : State) : (complete r n ws s).place = s.place := silent_eq_place (silent_complete r n ws s)
@[simp] theorem complete_pwr (r : CmdRef) (n : Nat) (ws : List Word) (s : State) : (complete r n ws s).pwr = s.pwr := silent_eq_pwr (silent_complete r n ws s)
@[simp] theorem complete_die (r : CmdRef) (n : Nat) (ws : List Word) (s : State) : (complete r n ws s).die = s.die := silent_eq_die (silent_complete r n ws s)
@[simp] theorem complete_sense (r : CmdRef) (n : Nat) (ws : List Word) (s : State) : (complete r n ws s).sense = s.sense := silent_eq_sense (silent_complete r n ws s)
@[simp] theorem complete_net (r : CmdRef) (n : Nat) (ws : List Word) (s : State) : (complete r n ws s).net = s.net := silent_eq_net (silent_complete r n ws s)
@[simp] theorem complete_time (r : CmdRef) (n : Nat) (ws : List Word) (s : State) : (complete r n ws s).time = s.time := silent_eq_time (silent_complete r n ws s)

@[simp] theorem refuse_pending (r : CmdRef) (n w : Nat) (s : State) : (refuse r n w s).pending = s.pending := silent_eq_pending (silent_refuse r n w s)
@[simp] theorem refuse_now (r : CmdRef) (n w : Nat) (s : State) : (refuse r n w s).now = s.now := silent_eq_now (silent_refuse r n w s)
@[simp] theorem refuse_freeCount (r : CmdRef) (n w : Nat) (s : State) : (refuse r n w s).freeCount = s.freeCount := silent_eq_freeCount (silent_refuse r n w s)
@[simp] theorem refuse_par (r : CmdRef) (n w : Nat) (s : State) : (refuse r n w s).par = s.par := silent_eq_par (silent_refuse r n w s)
@[simp] theorem refuse_transfer (r : CmdRef) (n w : Nat) (s : State) : (refuse r n w s).transfer = s.transfer := silent_eq_transfer (silent_refuse r n w s)
@[simp] theorem refuse_mem (r : CmdRef) (n w : Nat) (s : State) : (refuse r n w s).mem = s.mem := silent_eq_mem (silent_refuse r n w s)
@[simp] theorem refuse_arb (r : CmdRef) (n w : Nat) (s : State) : (refuse r n w s).arb = s.arb := silent_eq_arb (silent_refuse r n w s)
@[simp] theorem refuse_streams (r : CmdRef) (n w : Nat) (s : State) : (refuse r n w s).streams = s.streams := silent_eq_streams (silent_refuse r n w s)
@[simp] theorem refuse_boot (r : CmdRef) (n w : Nat) (s : State) : (refuse r n w s).boot = s.boot := silent_eq_boot (silent_refuse r n w s)
@[simp] theorem refuse_br (r : CmdRef) (n w : Nat) (s : State) : (refuse r n w s).br = s.br := silent_eq_br (silent_refuse r n w s)
@[simp] theorem refuse_gr (r : CmdRef) (n w : Nat) (s : State) : (refuse r n w s).gr = s.gr := silent_eq_gr (silent_refuse r n w s)
@[simp] theorem refuse_drive (r : CmdRef) (n w : Nat) (s : State) : (refuse r n w s).drive = s.drive := silent_eq_drive (silent_refuse r n w s)
@[simp] theorem refuse_cont (r : CmdRef) (n w : Nat) (s : State) : (refuse r n w s).cont = s.cont := silent_eq_cont (silent_refuse r n w s)
@[simp] theorem refuse_clove (r : CmdRef) (n w : Nat) (s : State) : (refuse r n w s).clove = s.clove := silent_eq_clove (silent_refuse r n w s)
@[simp] theorem refuse_pairs (r : CmdRef) (n w : Nat) (s : State) : (refuse r n w s).pairs = s.pairs := silent_eq_pairs (silent_refuse r n w s)
@[simp] theorem refuse_place (r : CmdRef) (n w : Nat) (s : State) : (refuse r n w s).place = s.place := silent_eq_place (silent_refuse r n w s)
@[simp] theorem refuse_pwr (r : CmdRef) (n w : Nat) (s : State) : (refuse r n w s).pwr = s.pwr := silent_eq_pwr (silent_refuse r n w s)
@[simp] theorem refuse_die (r : CmdRef) (n w : Nat) (s : State) : (refuse r n w s).die = s.die := silent_eq_die (silent_refuse r n w s)
@[simp] theorem refuse_sense (r : CmdRef) (n w : Nat) (s : State) : (refuse r n w s).sense = s.sense := silent_eq_sense (silent_refuse r n w s)
@[simp] theorem refuse_net (r : CmdRef) (n w : Nat) (s : State) : (refuse r n w s).net = s.net := silent_eq_net (silent_refuse r n w s)
@[simp] theorem refuse_time (r : CmdRef) (n w : Nat) (s : State) : (refuse r n w s).time = s.time := silent_eq_time (silent_refuse r n w s)

@[simp] theorem finish_pending (r : CmdRef) (ws : List Nat) (s : State) : (finish r ws s).pending = s.pending := silent_eq_pending (silent_finish r ws s)
@[simp] theorem finish_now (r : CmdRef) (ws : List Nat) (s : State) : (finish r ws s).now = s.now := silent_eq_now (silent_finish r ws s)
@[simp] theorem finish_freeCount (r : CmdRef) (ws : List Nat) (s : State) : (finish r ws s).freeCount = s.freeCount := silent_eq_freeCount (silent_finish r ws s)
@[simp] theorem finish_par (r : CmdRef) (ws : List Nat) (s : State) : (finish r ws s).par = s.par := silent_eq_par (silent_finish r ws s)
@[simp] theorem finish_transfer (r : CmdRef) (ws : List Nat) (s : State) : (finish r ws s).transfer = s.transfer := silent_eq_transfer (silent_finish r ws s)
@[simp] theorem finish_mem (r : CmdRef) (ws : List Nat) (s : State) : (finish r ws s).mem = s.mem := silent_eq_mem (silent_finish r ws s)
@[simp] theorem finish_arb (r : CmdRef) (ws : List Nat) (s : State) : (finish r ws s).arb = s.arb := silent_eq_arb (silent_finish r ws s)
@[simp] theorem finish_streams (r : CmdRef) (ws : List Nat) (s : State) : (finish r ws s).streams = s.streams := silent_eq_streams (silent_finish r ws s)
@[simp] theorem finish_boot (r : CmdRef) (ws : List Nat) (s : State) : (finish r ws s).boot = s.boot := silent_eq_boot (silent_finish r ws s)
@[simp] theorem finish_br (r : CmdRef) (ws : List Nat) (s : State) : (finish r ws s).br = s.br := silent_eq_br (silent_finish r ws s)
@[simp] theorem finish_gr (r : CmdRef) (ws : List Nat) (s : State) : (finish r ws s).gr = s.gr := silent_eq_gr (silent_finish r ws s)
@[simp] theorem finish_drive (r : CmdRef) (ws : List Nat) (s : State) : (finish r ws s).drive = s.drive := silent_eq_drive (silent_finish r ws s)
@[simp] theorem finish_cont (r : CmdRef) (ws : List Nat) (s : State) : (finish r ws s).cont = s.cont := silent_eq_cont (silent_finish r ws s)
@[simp] theorem finish_clove (r : CmdRef) (ws : List Nat) (s : State) : (finish r ws s).clove = s.clove := silent_eq_clove (silent_finish r ws s)
@[simp] theorem finish_pairs (r : CmdRef) (ws : List Nat) (s : State) : (finish r ws s).pairs = s.pairs := silent_eq_pairs (silent_finish r ws s)
@[simp] theorem finish_place (r : CmdRef) (ws : List Nat) (s : State) : (finish r ws s).place = s.place := silent_eq_place (silent_finish r ws s)
@[simp] theorem finish_pwr (r : CmdRef) (ws : List Nat) (s : State) : (finish r ws s).pwr = s.pwr := silent_eq_pwr (silent_finish r ws s)
@[simp] theorem finish_die (r : CmdRef) (ws : List Nat) (s : State) : (finish r ws s).die = s.die := silent_eq_die (silent_finish r ws s)
@[simp] theorem finish_sense (r : CmdRef) (ws : List Nat) (s : State) : (finish r ws s).sense = s.sense := silent_eq_sense (silent_finish r ws s)
@[simp] theorem finish_net (r : CmdRef) (ws : List Nat) (s : State) : (finish r ws s).net = s.net := silent_eq_net (silent_finish r ws s)
@[simp] theorem finish_time (r : CmdRef) (ws : List Nat) (s : State) : (finish r ws s).time = s.time := silent_eq_time (silent_finish r ws s)

end Sys2Proof.Machine
end

