-- ==== Sys2Proof/Laws/Commands.lean ====
section
/-! SUPPORT. Commands: what a completion leaves, and what each check of a command entry answers (R397, R400, R402, R420, R421). -/

namespace Sys2Proof.Machine

/-- A conditional update of a field that the update leaves alone. -/
theorem onlyIf_io (c : Bool) (f : State → State) (s : State) (h : ∀ u, (f u).io = u.io) : (onlyIf c f s).io = s.io := by
  unfold onlyIf; split
  · exact h s
  · rfl

@[simp] theorem countSent_out (m : Msg) (s : State) : (countSent m s).io = s.io := by
  have f (p : PortId) (u : State) : (sentOn p u).io = u.io := rfl
  unfold countSent
  split <;> try rfl
  · exact (onlyIf_io _ _ _ (f 1)).trans (onlyIf_io _ _ _ (f 0))
  · exact (onlyIf_io _ _ _ (f 1)).trans (onlyIf_io _ _ _ (f 0))
  · split
    · rfl
    · split <;> rfl
  · split
    · rfl
    · split <;> rfl

@[simp] theorem send_out (m : Msg) (s : State) : (send m s).io.out = s.io.out := by
  unfold send; split
  · rfl
  · rw [countSent_out]

@[simp] theorem notifyNow_out (q : QueueId) (s : State) : (notifyNow q s).io.out = s.io.out := by
  unfold notifyNow
  dsimp only
  split
  · rw [bump_io]
    split
    · rfl
    · rfl
    · rw [send_out]
  · rfl

@[simp] theorem notifyEntry_out (q : QueueId) (s : State) : (notifyEntry q s).io.out = s.io.out := by
  unfold notifyEntry
  dsimp only
  split
  · exact notifyNow_out q s
  · rfl

/-- An entry pushed is the newest of its queue; the entries before it, and every other queue, stay. -/
@[simp] theorem pushEntry_out (q : QueueId) (e : Entry) (s : State) :
    (pushEntry q e s).io.out = s.io.out.set q { s.io.out[q] with entries := s.io.out[q].entries ++ [e] } := by
  unfold pushEntry; rw [notifyEntry_out]; rfl

/-- A completion is the newest entry of the completion queue of its command queue. -/
theorem complete_out (r : CmdRef) (status : Nat) (results : List Word) (s : State) :
    (complete r status results s).io.out = s.io.out.set (completionQueue r.queue) { s.io.out[completionQueue r.queue] with
      entries := s.io.out[completionQueue r.queue].entries ++ [.completion { seq := r.seq, code := r.code, status := status, time := s.stamp s.now,
                                                                              repeated := false, results := results }] } := by
  unfold complete
  dsimp only
  rw [onlyIf_io _ _ _ (bump_io 0xE010 6), onlyIf_io _ _ _ (bump_io 0xE010 5), pushEntry_out]
  rfl

/-- A completed command is answered with its status and results. -/
theorem complete_answered (r : CmdRef) (status : Nat) (results : List Word) (s : State) :
    (complete r status results s).answered r status results := by
  refine ⟨{ seq := r.seq, code := r.code, status := status, time := s.stamp s.now, repeated := false, results := results }, ?_, rfl, rfl, rfl, rfl, rfl⟩
  rw [complete_out]
  simp

/-- A refusal answers one word, and reaches nothing but the reports. -/
theorem refuse_answered (r : CmdRef) (status w : Nat) (s : State) : (refuse r status w s).answered r status [refusalWord w 0 0] :=
  complete_answered r status _ s

theorem refuse_quiet (r : CmdRef) (status w : Nat) (s : State) : Quiet (refuse r status w s) s := silent_complete r status _ s

/-! The order of refusals (R421) -/

/-- A command on a queue that does not take it: REJECTED-COMMAND. -/
theorem runCommand_queue (e : CmdEntry) (code want : Nat) (queues : List Nat) (ok zero : Bool) (body : CmdRef → State → State) (s : State)
    (h : e.queue.val ∉ queues) : runCommand e code queues ok want zero body s = refuse (e.ref code) stCommand 0 s := by
  simp [runCommand, h]

/-- A command on its queue with a wrong operand count: REJECTED-OPERAND. -/
theorem runCommand_count (e : CmdEntry) (code want : Nat) (queues : List Nat) (zero : Bool) (body : CmdRef → State → State) (s : State)
    (h : e.queue.val ∈ queues) : runCommand e code queues false want zero body s = refuse (e.ref code) stOperand (min e.ops.length want + 1) s := by
  simp [runCommand, h]

/-- A Q0 command whose tag is not that of its key and session: REJECTED-AUTH. -/
theorem runCommand_auth (e : CmdEntry) (code want : Nat) (queues : List Nat) (zero : Bool) (body : CmdRef → State → State) (s : State)
    (h : e.queue.val ∈ queues) (h0 : e.queue = 0) (ha : s.authOk code zero e = false) :
    runCommand e code queues true want zero body s = authFailed e code s := by
  have hz : e.queue.val = 0 := by rw [h0]; rfl
  rw [hz] at h
  simp [runCommand, hz, h, ha]

/-- A command outside the recovery set in recovery mode: REJECTED-STATE. -/
theorem runCommand_recovery (e : CmdEntry) (code want : Nat) (queues : List Nat) (zero : Bool) (body : CmdRef → State → State) (s : State)
    (h : e.queue.val ∈ queues) (ha : e.queue.val = 0 → s.authOk code zero e = true) (hr : s.boot.recovery = true) (hc : code ∉ recoveryServes) :
    runCommand e code queues true want zero body s = refuse (e.ref code) stState 0 s := by
  have : (e.queue.val == 0 && !s.authOk code zero e) = false := by
    by_cases h0 : e.queue.val = 0
    · rw [ha h0]; simp
    · simp [h0]
  simp [runCommand, h, this, hr, hc]

/-- A command that passes every check runs. -/
theorem runCommand_body (e : CmdEntry) (code want : Nat) (queues : List Nat) (zero : Bool) (body : CmdRef → State → State) (s : State)
    (h : e.queue.val ∈ queues) (ha : e.queue.val = 0 → s.authOk code zero e = true) (hr : s.boot.recovery = false ∨ code ∈ recoveryServes) :
    runCommand e code queues true want zero body s = body (e.ref code) s := by
  have : (e.queue.val == 0 && !s.authOk code zero e) = false := by
    by_cases h0 : e.queue.val = 0
    · rw [ha h0]; simp
    · simp [h0]
  rcases hr with hr | hc
  · simp [runCommand, h, this, hr]
  · simp [runCommand, h, this, hc]

/-- An admitted command of one queue and a fixed count runs. -/
theorem command_body (e : CmdEntry) (code queue want : Nat) (body : CmdRef → State → State) (s : State) (h : s.admits e code [queue] want) :
    command e code queue want body s = body (e.ref code) s := by
  obtain ⟨h1, h2, h3, h4⟩ := h
  have hw : (e.ops.length == want) = true := by simp [h2]
  rw [command, hw, runCommand_body e code want [queue] false body s h1 h3 (.inl h4)]

/-- A failed authentication answers REJECTED-AUTH and reaches nothing but the reports (R408). -/
theorem authFailed_answered (e : CmdEntry) (code : Nat) (s : State) : (authFailed e code s).answered (e.ref code) stAuth [refusalWord 0 0 0] :=
  refuse_answered _ stAuth 0 _

/-- A completed command with number results. -/
theorem finish_answered (r : CmdRef) (results : List Nat) (s : State) :
    (finish r results s).answered r stOk (results.map (BitVec.ofNat 64)) := complete_answered r stOk _ s

end Sys2Proof.Machine
end

