-- ==== Sys2Proof/Laws/Memory.lean ====
section
/-! SUPPORT. Memory: the canonical form, what a write reads back as, and that every memory operation keeps the form (R12, R173, R378, R381; log 10). -/

namespace Sys2Proof.Machine

/-- The canonical form as a property of the pairs: strictly rising addresses and no zero byte. -/
theorem cellsWf_iff (m : List Host.Cell) :
    cellsWf m = true ↔ m.Pairwise (fun x y => x.1 < y.1) ∧ ∀ c ∈ m, c.2 ≠ 0 := by
  induction m with
  | nil => simp [cellsWf]
  | cons c t ih =>
    obtain ⟨a, v⟩ := c
    cases t with
    | nil => simp [cellsWf]
    | cons d t =>
      obtain ⟨b, w⟩ := d
      simp only [cellsWf, Bool.and_eq_true, bne_iff_ne, ne_eq, decide_eq_true_eq, ih, List.pairwise_cons, List.mem_cons, forall_eq_or_imp]
      constructor
      · rintro ⟨⟨h1, h2⟩, ⟨h3, h4⟩, h5, h6⟩
        exact ⟨⟨⟨h2, fun x hx => Nat.lt_trans h2 (h3 x hx)⟩, h3, h4⟩, h1, h5, h6⟩
      · rintro ⟨⟨⟨h2, _⟩, h3, h4⟩, h1, h5, h6⟩
        exact ⟨⟨h1, h2⟩, ⟨h3, h4⟩, h5, h6⟩

@[simp] theorem cellsWf_nil : cellsWf [] = true := rfl

/-- A list in canonical form: what stands first, and what follows. -/
theorem cellsWf_cons (a : Nat) (v : Byte) (t : List Host.Cell) :
    cellsWf ((a, v) :: t) = true ↔ v ≠ 0 ∧ (∀ c ∈ t, a < c.1) ∧ cellsWf t = true := by
  simp only [cellsWf_iff, List.pairwise_cons, List.mem_cons, forall_eq_or_imp]; tauto

/-- An address that nothing lists reads 0. -/
theorem readByte_absent (a : Nat) (m : List Host.Cell) (h : ∀ c ∈ m, c.1 ≠ a) : readByte a m = 0 := by
  induction m with
  | nil => rfl
  | cons c t ih =>
    obtain ⟨j, v⟩ := c
    rw [readByte, if_neg (h (j, v) (by simp)), ih fun c hc => h c (by simp [hc])]

/-- A listed pair of a canonical list is what its address reads as. -/
theorem readByte_mem (a : Nat) (v : Byte) (m : List Host.Cell) (hw : cellsWf m = true) (h : (a, v) ∈ m) : readByte a m = v := by
  induction m with
  | nil => cases h
  | cons c t ih =>
    obtain ⟨j, w⟩ := c
    obtain ⟨_, hl, ht⟩ := (cellsWf_cons j w t).1 hw
    rw [readByte]
    rcases List.mem_cons.1 h with e | e
    · cases e; rw [if_pos rfl]
    · rw [if_neg (Nat.ne_of_lt (hl _ e)), ih ht e]

/-- An address written is the one written or was there before. -/
theorem mem_writeByte {a : Nat} {v : Byte} {m : List Host.Cell} {c : Host.Cell} (h : c ∈ writeByte a v m) : c = (a, v) ∧ v ≠ 0 ∨ c ∈ m := by
  induction m with
  | nil =>
    rw [writeByte] at h; split at h
    · cases h
    · exact .inl ⟨List.mem_singleton.1 h, ‹_›⟩
  | cons d t ih =>
    obtain ⟨j, w⟩ := d
    rw [writeByte] at h
    split at h
    · rcases List.mem_cons.1 h with e | e
      · exact .inr (by simp [e])
      · rcases ih e with e | e
        · exact .inl e
        · exact .inr (by simp [e])
    · split at h
      · split at h
        · exact .inr (by simp [h])
        · rcases List.mem_cons.1 h with e | e
          · exact .inl ⟨e, ‹_›⟩
          · exact .inr (by simp [e])
      · split at h
        · exact .inr h
        · rcases List.mem_cons.1 h with e | e
          · exact .inl ⟨e, ‹_›⟩
          · exact .inr e

/-- A write keeps the canonical form. -/
theorem writeByte_wf (a : Nat) (v : Byte) (m : List Host.Cell) (h : cellsWf m = true) : cellsWf (writeByte a v m) = true := by
  induction m with
  | nil => rw [writeByte]; split <;> simp_all [cellsWf]
  | cons d t ih =>
    obtain ⟨j, w⟩ := d
    obtain ⟨hz, hl, ht⟩ := (cellsWf_cons j w t).1 h
    rw [writeByte]
    split
    · refine (cellsWf_cons ..).2 ⟨hz, fun c hc => ?_, ih ht⟩
      rcases mem_writeByte hc with ⟨rfl, _⟩ | e
      · assumption
      · exact hl c e
    · split
      · next e =>
        split
        · exact ht
        · exact (cellsWf_cons ..).2 ⟨‹_›, fun c hc => e ▸ hl c hc, ht⟩
      · split
        · exact h
        · refine (cellsWf_cons ..).2 ⟨‹_›, fun c hc => ?_, h⟩
          rcases List.mem_cons.1 hc with rfl | e
          · exact Nat.lt_of_le_of_ne (Nat.not_lt.1 ‹_›) fun x => ‹¬ j = a› x.symm
          · exact Nat.lt_of_le_of_lt (Nat.not_lt.1 ‹_›) (hl c e)

/-- What every address reads as after a write. -/
theorem readByte_writeByte (a b : Nat) (v : Byte) (m : List Host.Cell) (h : cellsWf m = true) :
    readByte b (writeByte a v m) = if b = a then v else readByte b m := by
  induction m with
  | nil =>
    rw [writeByte]; split
    · simp_all [readByte]
    · simp only [readByte, eq_comm]
  | cons d t ih =>
    obtain ⟨j, w⟩ := d
    obtain ⟨hz, hl, ht⟩ := (cellsWf_cons j w t).1 h
    rw [writeByte]
    split
    · next hj =>
      rw [readByte, readByte, ih ht]
      split
      · next e => rw [if_neg (by omega)]
      · rfl
    · next hj =>
      split
      · next e =>
        subst e
        split
        · next hv =>
          by_cases hb : b = j
          · rw [if_pos hb, hv, hb, readByte_absent]
            exact fun c hc => Nat.ne_of_gt (hl c hc)
          · rw [if_neg hb, readByte, if_neg (fun x => hb x.symm)]
        · by_cases hb : b = j
          · rw [if_pos hb, readByte, if_pos hb.symm]
          · rw [if_neg hb, readByte, readByte, if_neg (fun x => hb x.symm), if_neg (fun x => hb x.symm)]
      · next hne =>
        have habs : readByte a ((j, w) :: t) = 0 := readByte_absent a _ fun c hc => by
          rcases List.mem_cons.1 hc with rfl | e
          · exact hne
          · have := hl c e; omega
        split
        · next hv =>
          by_cases hb : b = a
          · rw [if_pos hb, hv, hb, habs]
          · rw [if_neg hb]
        · by_cases hb : b = a
          · rw [if_pos hb, readByte, if_pos hb.symm]
          · rw [if_neg hb, readByte, if_neg (fun x => hb x.symm)]

theorem writeBytes_wf (a : Nat) (l : List Byte) (m : List Host.Cell) (h : cellsWf m = true) : cellsWf (writeBytes a l m) = true := by
  induction l generalizing a m with
  | nil => exact h
  | cons v t ih => exact ih (a + 1) _ (writeByte_wf a v m h)

/-- What every address reads as after a block is written. -/
theorem readByte_writeBytes (a b : Nat) (l : List Byte) (m : List Host.Cell) (h : cellsWf m = true) :
    readByte b (writeBytes a l m) = if a ≤ b ∧ b < a + l.length then l.getD (b - a) 0 else readByte b m := by
  induction l generalizing a m with
  | nil => rw [writeBytes, if_neg (by simp)]
  | cons v t ih =>
    rw [writeBytes, ih (a + 1) _ (writeByte_wf a v m h), readByte_writeByte a b v m h]
    simp only [List.length_cons]
    by_cases hb : b = a
    · subst hb
      rw [if_neg (by omega), if_pos rfl, if_pos (by omega), Nat.sub_self]; rfl
    · rw [if_neg hb]
      by_cases hr : a + 1 ≤ b ∧ b < a + 1 + t.length
      · rw [if_pos hr, if_pos (by omega)]
        obtain ⟨k, hk⟩ : ∃ k, b - a = k + 1 := ⟨b - a - 1, by omega⟩
        rw [hk, show b - (a + 1) = k by omega]; rfl
      · rw [if_neg hr, if_neg (by omega)]

/-- What a filter leaves of a canonical list is canonical. -/
theorem filter_wf (p : Host.Cell → Bool) (m : List Host.Cell) (h : cellsWf m = true) : cellsWf (m.filter p) = true := by
  obtain ⟨h1, h2⟩ := (cellsWf_iff m).1 h
  exact (cellsWf_iff _).2 ⟨h1.filter p, fun c hc => h2 c (List.mem_filter.1 hc).1⟩

theorem eraseRange_wf (lo n : Nat) (m : List Host.Cell) (h : cellsWf m = true) : cellsWf (eraseRange lo n m) = true := filter_wf _ m h

/-- A filter on addresses: what it keeps reads as before, what it drops reads 0. -/
theorem readByte_filter (p : Nat → Bool) (a : Nat) (m : List Host.Cell) :
    readByte a (m.filter fun c => p c.1) = if p a then readByte a m else 0 := by
  induction m with
  | nil => simp [readByte]
  | cons c t ih =>
    obtain ⟨j, v⟩ := c
    by_cases hp : p j
    · rw [List.filter_cons_of_pos (by simpa using hp), readByte, readByte, ih]
      split
      · next e => rw [if_pos (e ▸ hp)]
      · rfl
    · rw [List.filter_cons_of_neg (by simpa using hp), ih, readByte]
      split
      · next hp' => rw [if_neg (by rintro rfl; exact hp hp')]
      · rfl

/-- What every address reads as after a range is erased. -/
theorem readByte_eraseRange (lo n a : Nat) (m : List Host.Cell) :
    readByte a (eraseRange lo n m) = if lo ≤ a ∧ a < lo + n then 0 else readByte a m := by
  rw [eraseRange, readByte_filter fun j => decide (j < lo ∨ lo + n ≤ j)]
  by_cases h : lo ≤ a ∧ a < lo + n
  · rw [if_pos h, if_neg (by simp; omega)]
  · rw [if_neg h, if_pos (by simp; omega)]

/-- Two lists, the first reading 0 at an address: the second decides there. -/
theorem readByte_append (a : Nat) (l m : List Host.Cell) (h : ∀ c ∈ l, c.2 ≠ 0) :
    readByte a (l ++ m) = if readByte a l = 0 then readByte a m else readByte a l := by
  induction l with
  | nil => simp [readByte]
  | cons c t ih =>
    obtain ⟨j, v⟩ := c
    rw [List.cons_append, readByte, readByte]
    split
    · rw [if_neg (h (j, v) (by simp))]
    · exact ih fun c hc => h c (by simp [hc])

/-- The part of a copy that comes from the source. -/
theorem readByte_moved (src dst n a : Nat) (m : List Host.Cell) :
    readByte a ((m.filter fun c => decide (src ≤ c.1 ∧ c.1 < src + n)).map fun c => (c.1 - src + dst, c.2)) =
      if dst ≤ a ∧ a < dst + n then readByte (src + (a - dst)) m else 0 := by
  induction m with
  | nil => simp [readByte]
  | cons c t ih =>
    obtain ⟨j, v⟩ := c
    by_cases hp : src ≤ j ∧ j < src + n
    · rw [List.filter_cons_of_pos (by simpa using hp), List.map_cons, readByte, ih]
      by_cases e : j - src + dst = a
      · rw [if_pos e, if_pos (by omega), readByte, if_pos (by omega)]
      · rw [if_neg e]
        by_cases hr : dst ≤ a ∧ a < dst + n
        · rw [if_pos hr, if_pos hr, readByte, if_neg (by omega)]
        · rw [if_neg hr, if_neg hr]
    · rw [List.filter_cons_of_neg (by simpa using hp), ih]
      by_cases hr : dst ≤ a ∧ a < dst + n
      · rw [if_pos hr, if_pos hr, readByte, if_neg (by omega)]
      · rw [if_neg hr, if_neg hr]

theorem copyRange_wf (src dst n : Nat) (fr m : List Host.Cell) (hf : cellsWf fr = true) (h : cellsWf m = true) :
    cellsWf (copyRange src dst n fr m) = true := by
  obtain ⟨f1, f2⟩ := (cellsWf_iff fr).1 hf
  obtain ⟨m1, m2⟩ := (cellsWf_iff m).1 h
  refine (cellsWf_iff _).2 ⟨?_, fun c hc => ?_⟩
  · rw [copyRange, List.pairwise_append, List.pairwise_append]
    refine ⟨⟨m1.filter _, ?_, fun x hx y hy => ?_⟩, m1.filter _, fun x hx y hy => ?_⟩
    · rw [List.pairwise_map, List.pairwise_filter]
      refine f1.imp fun {x y} hxy hx hy => ?_
      simp only [decide_eq_true_eq] at hx hy
      show x.1 - src + dst < y.1 - src + dst
      omega
    · simp only [List.mem_map, List.mem_filter, decide_eq_true_eq] at hx hy
      obtain ⟨z, ⟨_, hz⟩, rfl⟩ := hy
      show x.1 < z.1 - src + dst
      omega
    · simp only [List.mem_append, List.mem_map, List.mem_filter, decide_eq_true_eq] at hx hy
      rcases hx with hx | ⟨z, ⟨_, hz⟩, rfl⟩
      · omega
      · show z.1 - src + dst < y.1
        omega
  · simp only [copyRange, List.mem_append, List.mem_map, List.mem_filter] at hc
    rcases hc with (hc | ⟨z, hz, rfl⟩) | hc
    · exact m2 c hc.1
    · exact f2 z hz.1
    · exact m2 c hc.1

/-- What every address reads as after a range is replaced. -/
theorem readByte_copyRange (src dst n a : Nat) (fr m : List Host.Cell) (hf : cellsWf fr = true) (h : cellsWf m = true) :
    readByte a (copyRange src dst n fr m) = if dst ≤ a ∧ a < dst + n then readByte (src + (a - dst)) fr else readByte a m := by
  obtain ⟨_, f2⟩ := (cellsWf_iff fr).1 hf
  obtain ⟨_, m2⟩ := (cellsWf_iff m).1 h
  rw [copyRange, readByte_append, readByte_append, readByte_moved, readByte_filter fun j => decide (j < dst),
    readByte_filter fun j => decide (dst + n ≤ j)]
  · simp only [decide_eq_true_eq]
    by_cases hr : dst ≤ a ∧ a < dst + n
    · have e1 : ¬ a < dst := by omega
      have e2 : ¬ dst + n ≤ a := by omega
      simp only [hr, e1, e2, and_self, if_true, if_false]
      split
      · exact Eq.symm ‹_›
      · rfl
    · by_cases hl : a < dst
      · have e2 : ¬ dst + n ≤ a := by omega
        simp only [hr, hl, e2, if_true, if_false]
        by_cases hz : readByte a m = 0
        · simp [hz]
        · simp only [hz, if_false]
      · have e2 : dst + n ≤ a := by omega
        simp only [hr, hl, e2, if_true, if_false]
  · exact fun c hc => m2 c (List.mem_filter.1 hc).1
  · intro c hc
    simp only [List.mem_append, List.mem_map, List.mem_filter] at hc
    rcases hc with hc | ⟨z, hz, rfl⟩
    · exact m2 c hc.1
    · exact f2 z hz.1

/-- Equal reads make equal lists: the canonical form is the memory. -/
theorem cells_ext (l m : List Host.Cell) (hl : cellsWf l = true) (hm : cellsWf m = true) (h : ∀ a, readByte a l = readByte a m) : l = m := by
  induction l generalizing m with
  | nil =>
    cases m with
    | nil => rfl
    | cons c t =>
      obtain ⟨j, v⟩ := c
      have := h j
      rw [readByte, readByte, if_pos rfl] at this
      exact absurd this.symm ((cellsWf_cons j v t).1 hm).1
  | cons c t ih =>
    obtain ⟨j, v⟩ := c
    obtain ⟨z1, l1, w1⟩ := (cellsWf_cons j v t).1 hl
    cases m with
    | nil =>
      have := h j
      rw [readByte, readByte, if_pos rfl] at this
      exact absurd this z1
    | cons d u =>
      obtain ⟨k, w⟩ := d
      obtain ⟨z2, l2, w2⟩ := (cellsWf_cons k w u).1 hm
      have tj : ∀ a, a ≤ j → readByte a t = 0 := fun a ha => readByte_absent a t fun c hc => by have := l1 c hc; omega
      have uk : ∀ a, a ≤ k → readByte a u = 0 := fun a ha => readByte_absent a u fun c hc => by have := l2 c hc; omega
      have ej : j = k := by
        rcases Nat.lt_trichotomy j k with hlt | e | hlt
        · have := h j
          rw [readByte, readByte, if_pos rfl, if_neg (by omega), uk j (by omega)] at this
          exact absurd this z1
        · exact e
        · have := h k
          rw [readByte, readByte, if_pos rfl, if_neg (by omega), tj k (by omega)] at this
          exact absurd this.symm z2
      subst ej
      have ev : v = w := by have := h j; rwa [readByte, readByte, if_pos rfl, if_pos rfl] at this
      subst ev
      refine congrArg _ (ih u w1 w2 fun a => ?_)
      by_cases ha : a = j
      · rw [tj a (by omega), uk a (by omega)]
      · have := h a
        rwa [readByte, readByte, if_neg fun e => ha e.symm, if_neg fun e => ha e.symm] at this

theorem setDramWord_wf (m : Mem) (a : Nat) (w : Word) (h : m.wf = true) : (m.setDramWord a w).wf = true := by
  simp only [Mem.wf, Bool.and_eq_true] at h ⊢
  exact ⟨writeBytes_wf _ _ _ h.1, h.2⟩

@[simp] theorem setDramWord_nand (m : Mem) (a : Nat) (w : Word) : (m.setDramWord a w).nand = m.nand := rfl

@[simp] theorem wordBytes_length (w : Word) : (wordBytes w).length = 8 := by simp [wordBytes]

/-- What every DRAM byte reads as after a word is written. -/
theorem readByte_setDramWord (m : Mem) (a b : Nat) (w : Word) (h : m.wf = true) :
    readByte b (m.setDramWord a w).dram = if 8 * a ≤ b ∧ b < 8 * a + 8 then (wordBytes w).getD (b - 8 * a) 0 else readByte b m.dram := by
  simp only [Mem.wf, Bool.and_eq_true] at h
  rw [Mem.setDramWord, readByte_writeBytes _ _ _ _ h.1, wordBytes_length]

theorem putCell_wf (a : Nat) (w : Word) (s : State) (h : s.mem.wf = true) : (putCell a w s).mem.wf = true := setDramWord_wf s.mem a w h

/-- Holding confidences at 14 keeps the canonical form: a byte at or above 0xF0 stays above 0 (R202). -/
theorem reduceConf_wf (g : GroupId) (m : List Host.Cell) (h : cellsWf m = true) : cellsWf (reduceConf g m) = true := by
  rw [cellsWf_iff] at h ⊢
  refine ⟨?_, fun c hc => ?_⟩
  · rw [reduceConf, List.pairwise_map]
    refine h.1.imp fun {x y} hxy => ?_
    split <;> split <;> exact hxy
  · obtain ⟨d, hd, rfl⟩ := List.mem_map.mp hc
    split
    · next k => bv_omega
    · exact h.2 d hd

/-- A load of a slot keeps the memories canonical (R190, R202). -/
theorem copyToDram_wf (g : GroupId) (slot : Nat) (s : State) (h : s.mem.wf = true) : (copyToDram g slot s).mem.wf = true := by
  simp only [Mem.wf, Bool.and_eq_true] at h
  simp only [Mem.wf, Bool.and_eq_true, copyToDram]
  refine ⟨?_, h.2⟩
  split
  · exact reduceConf_wf g _ (copyRange_wf _ _ _ _ _ h.2 h.1)
  · exact copyRange_wf _ _ _ _ _ h.2 h.1

/-- The memories after reset list nothing. -/
theorem reset_mem_wf : Mem.reset.wf = true := rfl

end Sys2Proof.Machine
end

