-- ==== Sys2Proof/Laws/Objects.lean ====
section
/-! SUPPORT. Objects and counters: the canonical form of their lists, what a write reads back as, and their bounds (R15, R426, R498, R510). -/

namespace Sys2Proof.Machine

@[simp] theorem risingKeys_nil : risingKeys [] = true := rfl

/-- A rising list: what stands first is below every key that follows. -/
theorem risingKeys_cons (k : Nat) (v : Int) (t : List (Nat × Int)) :
    risingKeys ((k, v) :: t) = true ↔ (∀ e ∈ t, k < e.1) ∧ risingKeys t = true := by
  simp [risingKeys]

/-- A write into a list that lists something. -/
theorem putKey_cons (k j : Nat) (v : Option Int) (w : Int) (t : List (Nat × Int)) :
    putKey k v ((j, w) :: t) = if j < k then (j, w) :: putKey k v t
      else if j = k then (match v with | some x => (k, x) :: t | none => t)
      else (match v with | some x => (k, x) :: (j, w) :: t | none => (j, w) :: t) := by
  cases v <;> rfl

/-- An entry after a write is the one written or was there before. -/
theorem mem_putKey {k : Nat} {v : Option Int} {l : List (Nat × Int)} {e : Nat × Int} (h : e ∈ putKey k v l) : e.1 = k ∨ e ∈ l := by
  induction l with
  | nil =>
    cases v with
    | none => cases h
    | some x => exact .inl (by rw [List.mem_singleton.1 h])
  | cons d t ih =>
    obtain ⟨j, w⟩ := d
    rw [putKey_cons] at h
    split at h
    · rcases List.mem_cons.1 h with x | x
      · exact .inr (by simp [x])
      · exact (ih x).imp_right fun y => by simp [y]
    · split at h <;> cases v with
      | none => exact .inr (by first | exact h | exact List.mem_cons_of_mem _ h)
      | some x =>
        rcases List.mem_cons.1 h with y | y
        · exact .inl (by rw [y])
        · exact .inr (by first | exact y | exact List.mem_cons_of_mem _ y)

/-- A write keeps rising keys. -/
theorem putKey_rising (k : Nat) (v : Option Int) (l : List (Nat × Int)) (h : risingKeys l = true) : risingKeys (putKey k v l) = true := by
  induction l with
  | nil => cases v <;> rfl
  | cons d t ih =>
    obtain ⟨j, w⟩ := d
    obtain ⟨hl, ht⟩ := (risingKeys_cons j w t).1 h
    rw [putKey_cons]
    split
    · next hj =>
      refine (risingKeys_cons ..).2 ⟨fun e he => ?_, ih ht⟩
      rcases mem_putKey he with x | x
      · omega
      · exact hl e x
    · split
      · next e =>
        cases v with
        | none => exact ht
        | some x => exact (risingKeys_cons ..).2 ⟨fun c hc => e ▸ hl c hc, ht⟩
      · cases v with
        | none => exact h
        | some x =>
          refine (risingKeys_cons ..).2 ⟨fun c hc => ?_, h⟩
          rcases List.mem_cons.1 hc with rfl | y
          · show k < j; omega
          · have := hl c y; omega

/-- A key that nothing lists has no value. -/
theorem lookupKey_absent (k : Nat) (l : List (Nat × Int)) (h : ∀ e ∈ l, e.1 ≠ k) : lookupKey k l = none := by
  induction l with
  | nil => rfl
  | cons d t ih => rw [lookupKey, if_neg (h d (by simp)), ih fun e he => h e (by simp [he])]

/-- What every key reads as after a write. -/
theorem lookupKey_putKey (k b : Nat) (v : Option Int) (l : List (Nat × Int)) (h : risingKeys l = true) :
    lookupKey b (putKey k v l) = if b = k then v else lookupKey b l := by
  induction l with
  | nil =>
    cases v with
    | none => simp [putKey, lookupKey]
    | some x => simp only [putKey, lookupKey, eq_comm]
  | cons d t ih =>
    obtain ⟨j, w⟩ := d
    obtain ⟨hl, ht⟩ := (risingKeys_cons j w t).1 h
    rw [putKey_cons]
    split
    · next hj =>
      rw [lookupKey, lookupKey, ih ht]
      by_cases e : j = b
      · rw [if_pos e, if_pos e, if_neg (by omega)]
      · rw [if_neg e, if_neg e]
    · split
      · next e =>
        subst e
        cases v with
        | none =>
          by_cases hb : b = j
          · rw [if_pos hb, hb]; exact lookupKey_absent j t fun c hc => Nat.ne_of_gt (hl c hc)
          · rw [if_neg hb, lookupKey, if_neg fun e => hb e.symm]
        | some x =>
          simp only [lookupKey]
          by_cases hb : b = j
          · rw [if_pos hb, if_pos hb.symm]
          · rw [if_neg hb, if_neg fun e => hb e.symm, if_neg fun e => hb e.symm]
      · next hj hne =>
        cases v with
        | none =>
          by_cases hb : b = k
          · rw [if_pos hb, hb]
            refine lookupKey_absent k _ fun c hc => ?_
            rcases List.mem_cons.1 hc with rfl | y
            · exact hne
            · have := hl c y; omega
          · rw [if_neg hb]
        | some x =>
          by_cases hb : b = k
          · rw [if_pos hb]; simp only [lookupKey]; rw [if_pos hb.symm]
          · rw [if_neg hb]; simp only [lookupKey]; rw [if_neg fun e => hb e.symm]

/-- The stored value of every object after one is written; values that equal the default are not listed. -/
theorem storedOf_setStored (p : Params) (i k j m : Nat) (v : Int) (h : p.wf = true) :
    (p.setStored i k v).storedOf j m = if objKey j m = objKey i k then (if v = objDefault i k then objDefault j m else v) else p.storedOf j m := by
  simp only [Params.wf, Bool.and_eq_true] at h
  simp only [Params.storedOf, Params.setStored, lookupKey_putKey _ _ _ _ h.1.1, entryFor]
  split
  · split <;> rfl
  · rfl

/-- The active value of every object after one is written. -/
theorem activeOf_setActive (p : Params) (i k j m : Nat) (v : Int) (h : p.wf = true) :
    (p.setActive i k v).activeOf j m = if objKey j m = objKey i k then (if v = objDefault i k then objDefault j m else v) else p.activeOf j m := by
  simp only [Params.wf, Bool.and_eq_true] at h
  simp only [Params.activeOf, Params.setActive, lookupKey_putKey _ _ _ _ h.1.2, entryFor]
  split
  · split <;> rfl
  · rfl

/-- An object reads as the value just written. -/
theorem storedOf_setStored_self (p : Params) (i k : Nat) (v : Int) (h : p.wf = true) : (p.setStored i k v).storedOf i k = v := by
  rw [storedOf_setStored p i k i k v h, if_pos rfl]; split <;> simp_all

theorem activeOf_setActive_self (p : Params) (i k : Nat) (v : Int) (h : p.wf = true) : (p.setActive i k v).activeOf i k = v := by
  rw [activeOf_setActive p i k i k v h, if_pos rfl]; split <;> simp_all

@[simp] theorem activeOf_setStored (p : Params) (i k j m : Nat) (v : Int) : (p.setStored i k v).activeOf j m = p.activeOf j m := rfl

@[simp] theorem storedOf_setActive (p : Params) (i k j m : Nat) (v : Int) : (p.setActive i k v).storedOf j m = p.storedOf j m := rfl

theorem setStored_wf (p : Params) (i k : Nat) (v : Int) (h : p.wf = true) : (p.setStored i k v).wf = true := by
  simp only [Params.wf, Bool.and_eq_true] at h ⊢
  exact ⟨⟨putKey_rising _ _ _ h.1.1, h.1.2⟩, h.2⟩

theorem setActive_wf (p : Params) (i k : Nat) (v : Int) (h : p.wf = true) : (p.setActive i k v).wf = true := by
  simp only [Params.wf, Bool.and_eq_true] at h ⊢
  exact ⟨⟨h.1.1, putKey_rising _ _ _ h.1.2⟩, h.2⟩

theorem setBoth_wf (p : Params) (i k : Nat) (v : Int) (h : p.wf = true) : (p.setBoth i k v).wf = true :=
  setActive_wf _ i k v (setStored_wf p i k v h)

theorem activate_wf (p : Params) (i k : Nat) (h : p.wf = true) : (p.activate i k).wf = true := setActive_wf p i k _ h

/-- Activating any number of objects keeps the form. -/
theorem activateWhere_wf (p : Params) (sel : Nat → Bool) (h : p.wf = true) : (p.activateWhere sel).wf = true := by
  unfold Params.activateWhere
  generalize p.pendingKeys.filter sel = l
  induction l generalizing p with
  | nil => exact h
  | cons k t ih => exact ih _ (activate_wf p _ _ h)

theorem reset_par_wf : Params.reset.wf = true := by simp [Params.wf, Params.reset]

/-! Counters -/

/-- A counter after a write is the one written or was there before. -/
theorem mem_putCounter {k v : Nat} {l : List (Nat × Nat)} {e : Nat × Nat} (h : e ∈ putCounter k v l) : e = (k, v) ∨ e ∈ l := by
  induction l with
  | nil =>
    rw [putCounter] at h; split at h
    · cases h
    · exact .inl (List.mem_singleton.1 h)
  | cons d t ih =>
    obtain ⟨j, w⟩ := d
    rw [putCounter] at h
    split at h
    · rcases List.mem_cons.1 h with x | x
      · exact .inr (by simp [x])
      · exact (ih x).imp_right fun y => by simp [y]
    · split at h
      · split at h
        · exact .inr (by simp [h])
        · exact (List.mem_cons.1 h).imp_right fun y => by simp [y]
      · split at h
        · exact .inr h
        · exact List.mem_cons.1 h

/-- Every counter stays at or below its ceiling (R498). -/
theorem setCounter_bounded (i k v : Nat) (s : State) (h : s.st.bounded = true) : (setCounter i k v s).st.bounded = true := by
  simp only [Stats.bounded, Bool.and_eq_true, List.all_eq_true, decide_eq_true_eq] at h ⊢
  refine ⟨fun e he => ?_, h.2⟩
  rcases mem_putCounter he with rfl | x
  · exact Nat.min_le_right ..
  · exact h.1 e x

theorem bumpBy_bounded (i k n : Nat) (s : State) (h : s.st.bounded = true) : (bumpBy i k n s).st.bounded = true := setCounter_bounded i k _ s h

theorem bump_bounded (i k : Nat) (s : State) (h : s.st.bounded = true) : (bump i k s).st.bounded = true := bumpBy_bounded i k 1 s h

theorem peak_bounded (i k v : Nat) (s : State) (h : s.st.bounded = true) : (peak i k v s).st.bounded = true := setCounter_bounded i k _ s h

theorem reset_st_bounded : Stats.reset.bounded = true := rfl

end Sys2Proof.Machine
end

