-- ==== Sys2Proof/Tests/Base.lean ====
section
/-! SUPPORT. Small states that the tests start from. -/

namespace Sys2Proof.Tests
open Sys2Proof Sys2Proof.Machine

/-- A unit after its boot: every domain on, keep-alive and auxiliary supply present, both pairs in lockstep, one interface for each group. -/
def awake : State :=
  let s : State := { State.reset with
    boot := { State.reset.boot with booting := false },
    pwr := { State.reset.pwr with domains := .replicate 8 true, pll := .replicate 3 true, aux := true, keepAlive := true },
    drive := { State.reset.drive with state := .standby }, io := { State.reset.io with session := 1 },
    pairs := State.reset.pairs.map fun (p : Pair) => { p with state := .lockstep, held := false },
    die := { State.reset.die with firstRound := true } }
  putObj 0x5000 1 1 (putObj 0x5000 2 2 (putObj 0x5000 3 3 (putObj 0x5000 4 4 s)))

/-- Configuration 0x01: four groups of one bridge, every drive-enable line high. -/
def quad : State :=
  { putObj 0x1100 1 1 awake with br := awake.br.map fun (x : Bridge) =>
      { x with pos := x.pos.map fun (p : Position) => { p with driveEnable := true } } }

/-- Every bridge in RUN. -/
def runQ : State :=
  { quad with br := quad.br.map fun (x : Bridge) => { x with state := .run }, drive := { quad.drive with state := .run } }

/-- An entry of queue q. -/
def ent (q : Fin 4) (ops : List Word) : CmdEntry := { queue := q, seq := 7, ops := ops, tag := 1 }

/-- A Q0 key is set. -/
def keyed (s : State) : State := putObj 0xC030 1 5 s

/-- The entry with the tag that its key and session give. -/
def sealIt (code : Nat) (s : State) (e : CmdEntry) : CmdEntry := { e with tag := tagOf s.q0Key s.io.session code e }

/-- A sealed entry of Q0. -/
def sel (s : State) (code : Nat) (ops : List Word) : CmdEntry := sealIt code s (ent 0 ops)

/-- A sealed entry passes the checks of its command. -/
theorem sel_admits (s : State) (code n : Nat) (ops : List Word) (hl : ops.length = n) (hk : s.q0Key ≠ 0) (hr : s.boot.recovery = false) :
    s.admits (sel s code ops) code [0] n := by
  refine ⟨List.mem_singleton.mpr rfl, hl, fun _ => ?_, hr⟩
  have key : decide (s.q0Key ≠ 0) = true := decide_eq_true hk
  simp only [State.authOk, key, Bool.true_or, Bool.and_true, decide_eq_true_eq]
  rfl

/-- A tag is not the one after it. -/
theorem add_one_ne (w : Word) : w + 1 ≠ w := by
  simp

/-- A queue that has taken nothing has no last sequence number. -/
theorem noLast (o : Option (BitVec 32)) (p : BitVec 32 → Prop) (last : BitVec 32) (h : o = none) (e : o = some last) : p last := by
  rw [h] at e; cases e

end Sys2Proof.Tests
end

