-- ==== Sys2Proof/Tests/Commands.lean ====
section
/-! SUPPORT. States and operands that meet the premises of the statements on commands, the mailbox, parameters and transfers: `has_X_i_j` is for clause i, j of X. -/

namespace Sys2Proof.Tests.Commands
open Sys2Proof Sys2Proof.Machine
set_option Elab.async false

def hdr : MailHeader := { transport := .udp, source := 0x0A000001, kind := 1, queue := 2, count := 1, session := 1 }
def fhdr : MailHeader := { transport := .udp, source := 0x0A000001, kind := 3, queue := 8, count := 1, session := 1 }
def ev (n : Nat) : Entry := .event ⟨n, 4, 0, 1, ⟨0,0,0⟩, []⟩
def withEv : State := modOut 8 (fun o => { o with entries := [ev 1, ev 2, ev 3] }) quad
def notif : State := putObj 0xC108 2 7 { withEv with net := { withEv.net with port := withEv.net.port.map fun (p : Port) => { p with up := true } } }
def kq : State := keyed quad
def ss1k : State := keyed runQ
def chunkOps (off n : Nat) : List Word := BitVec.ofNat 64 (2 + n * 2 ^ 16 + off * 2 ^ 32) :: List.replicate ((n + 7) / 8) 0x1122334455667788#64
def xf (k : TransferKind) (len rec : Nat) (bs : List Byte) : State := { quad with transfer := some { kind := k, length := len, received := rec, last := 0, bytes := bs } }
def tr (k : TransferKind) (len rec : Nat) (bs : List Byte) : Transfer := { kind := k, length := len, received := rec, last := 0, bytes := bs }
/-- A parameter file of n records (R439, R440). -/
def paramFile (n : Nat) (records : List Byte) : List Byte :=
  let head := leBytes 4 0x52505956 ++ leBytes 2 1 ++ leBytes 1 3 ++ leBytes 1 0 ++ leBytes 4 n ++ leBytes 4 (crc32 records) ++ List.replicate 44 0
  head ++ leBytes 4 (crc32 head) ++ records
/-- A file that sets 0xD000.03 to 64. -/
def oneFile : List Byte := paramFile 1 (leBytes 2 0xD000 ++ leBytes 1 3 ++ leBytes 1 1 ++ leBytes 4 0 ++ leBytes 16 64)
/-- Every group stops by SS1. -/
def stopping (s : State) : State := { s with gr := s.gr.map fun (x : Group) => { x with ss1 := some { n0 := 100, goal := 0, start := 0, calm := none, confirmed := false, excess := none } } }
/-- A commit waits in Q2. -/
def waitingQ (w : Waiting) (q : Fin 4) : State := modCmd q (fun x => { x with waiting := [w] }) quad

theorem has_CommandMessages_0 :
    ∃ (h : MailHeader) (body : List Word) (s : State) (q : Fin 4) (w : Waiting),
      (s.mailOpen) ∧ (h.transport = Transport.udp → s.netRuns = true) ∧ (readCommand h body = some (q, w)) ∧ (h.session.toNat = s.io.session) ∧ (s.actN (49408 + (↑q : ℕ)) 1 = bindingOf h.transport) ∧ (∀ (last : BitVec 32), s.io.cmd[q].lastSeq = some last → w.e.seq = last + 1) ∧ (CmdQueue.used q s.io.cmd[q] + commandSize q w.e ≤ queueCapacity (↑q : ℕ)) :=
  ⟨hdr, [0x0000040300000007#64], (putObj 0xC102 1 0 quad), 2, (⟨0x0403, { ent 2 [] with tag := 0 }⟩), by refine ⟨?_, ?_, ?_, ?_, ?_, fun _ => noLast _ (fun _ => _) _ (by decide +kernel), ?_⟩ <;> decide +kernel⟩

theorem has_CommandMessages_1 :
    ∃ (h : MailHeader) (body : List Word) (s : State),
      (s.mailOpen) ∧ (h.transport = Transport.udp) ∧ (readCommand h body = none ∨ ∃ (q : Fin 4) (w : Waiting), readCommand h body = some (q, w) ∧ (h.session.toNat ≠ s.io.session ∨ s.actN (49408 + (↑q : ℕ)) 1 ≠ bindingOf h.transport)) :=
  ⟨({ hdr with session := 5 }), [0x0000040300000007#64], (putObj 0xC102 1 0 quad), by refine ⟨?_, ?_, .inr ⟨2, ⟨0x0403, { ent 2 [] with tag := 0 }⟩, by decide +kernel, by decide +kernel⟩⟩ <;> decide +kernel⟩

theorem has_CommandMessages_1_a :
    ∃ (h : MailHeader) (body : List Word) (s : State),
      (s.mailOpen) ∧ (h.transport = Transport.udp) ∧ (readCommand h body = none ∨ ∃ (q : Fin 4) (w : Waiting), readCommand h body = some (q, w) ∧ (h.session.toNat ≠ s.io.session ∨ s.actN (49408 + (↑q : ℕ)) 1 ≠ bindingOf h.transport)) :=
  ⟨hdr, [0x0002040300000007#64], (putObj 0xC102 1 0 quad), by refine ⟨?_, ?_, .inl (by decide +kernel)⟩ <;> decide +kernel⟩

theorem has_CommandMessages_1_b :
    ∃ (h : MailHeader) (body : List Word) (s : State),
      (s.mailOpen) ∧ (h.transport = Transport.udp) ∧ (readCommand h body = none ∨ ∃ (q : Fin 4) (w : Waiting), readCommand h body = some (q, w) ∧ (h.session.toNat ≠ s.io.session ∨ s.actN (49408 + (↑q : ℕ)) 1 ≠ bindingOf h.transport)) :=
  ⟨hdr, [0x0000040300000007#64], (putObj 0xC102 1 1 quad), by refine ⟨?_, ?_, .inr ⟨2, ⟨0x0403, { ent 2 [] with tag := 0 }⟩, by decide +kernel, by decide +kernel⟩⟩ <;> decide +kernel⟩

theorem has_FetchAndNotification_0 :
    ∃ (h : MailHeader) (w : Word) (s : State) (q : QueueId) (d : ℕ),
      (s.mailOpen) ∧ (s.netRuns = true) ∧ (4 ≤ (↑q : ℕ)) ∧ ((↑q : ℕ) < 12) ∧ (h.queue.toNat = (↑q : ℕ)) ∧ (h.kind = 3) ∧ (h.count = 1) ∧ (h.session.toNat = s.io.session) ∧ (h.transport = Transport.udp) ∧ (1 ≤ BitVec.toNat w / 2 ^ 32) ∧ (BitVec.toNat w / 2 ^ 32 ≤ 64) ∧ (s.io.out[q].lost = 0) ∧ (s.io.out[q].consumer < 2 ^ 32) ∧ (s.io.out[q].inRing = 0) ∧ (d ≤ s.io.out[q].entries.length) ∧ (d < 2 ^ 32) ∧ (BitVec.toNat w % 2 ^ 32 = (s.io.out[q].consumer + d) % 2 ^ 32) :=
  ⟨fhdr, 0x0000000500000002#64, withEv, 8, 2, by decide +kernel⟩

theorem has_FetchAndNotification_0_a :
    ∃ (h : MailHeader) (w : Word) (s : State) (q : QueueId) (d : ℕ),
      (s.mailOpen) ∧ (s.netRuns = true) ∧ (4 ≤ (↑q : ℕ)) ∧ ((↑q : ℕ) < 12) ∧ (h.queue.toNat = (↑q : ℕ)) ∧ (h.kind = 3) ∧ (h.count = 1) ∧ (h.session.toNat = s.io.session) ∧ (h.transport = Transport.udp) ∧ (1 ≤ BitVec.toNat w / 2 ^ 32) ∧ (BitVec.toNat w / 2 ^ 32 ≤ 64) ∧ (s.io.out[q].lost = 0) ∧ (s.io.out[q].consumer < 2 ^ 32) ∧ (s.io.out[q].inRing = 0) ∧ (d ≤ s.io.out[q].entries.length) ∧ (d < 2 ^ 32) ∧ (BitVec.toNat w % 2 ^ 32 = (s.io.out[q].consumer + d) % 2 ^ 32) :=
  ⟨fhdr, 0x0000000500000000#64, withEv, 8, 0, by decide +kernel⟩

theorem has_FetchAndNotification_1 :
    ∃ (q : QueueId) (s : State) (c : Instr) (d : ℕ),
      (s.canNotify q = true) ∧ (s.actN (49408 + (↑q : ℕ)) 1 = 0) ∧ (c = Instr.notifyHoldoffExpiry q ∧ s.io.notify[q].during = true ∧ d = s.actN (49408 + (↑q : ℕ)) 5 * ticksPerUs ∨ c = Instr.notifyRepeatExpiry q ∧ 4 ≤ (↑q : ℕ) ∧ s.io.out[q].entries ≠ [] ∧ d = s.actN (49408 + (↑q : ℕ)) 6 * ticksPerMs) :=
  ⟨8, ({ notif with io := { notif.io with notify := notif.io.notify.set 8 { last := some 0, during := true } } }), (.notifyHoldoffExpiry 8), (notif.actN 0xC108 5 * ticksPerUs), by decide +kernel⟩

theorem has_FetchAndNotification_1_a :
    ∃ (q : QueueId) (s : State) (c : Instr) (d : ℕ),
      (s.canNotify q = true) ∧ (s.actN (49408 + (↑q : ℕ)) 1 = 0) ∧ (c = Instr.notifyHoldoffExpiry q ∧ s.io.notify[q].during = true ∧ d = s.actN (49408 + (↑q : ℕ)) 5 * ticksPerUs ∨ c = Instr.notifyRepeatExpiry q ∧ 4 ≤ (↑q : ℕ) ∧ s.io.out[q].entries ≠ [] ∧ d = s.actN (49408 + (↑q : ℕ)) 6 * ticksPerMs) :=
  ⟨8, notif, (.notifyRepeatExpiry 8), (notif.actN 0xC108 6 * ticksPerMs), by decide +kernel⟩

theorem has_TargetAndStopCommands_0_0 :
    ∃ (e : CmdEntry) (s : State) (g : GroupId),
      (groupOperand (bits 7 0 (e.word 1)) = some g) ∧ (s.admits e 513 [1] 1) ∧ ((toSigned 32 (bits 63 32 (e.word 1))).natAbs ≤ 200000) ∧ (s.running g ≠ []) ∧ (Option.any (fun (x : Ss1) => decide (x.goal = 0)) s.gr[g].ss1 = false) :=
  ⟨(ent 1 [0x0000006400000001#64]), runQ, 0, by decide +kernel⟩

theorem has_TargetAndStopCommands_0_1 :
    ∃ (e : CmdEntry) (s : State) (g : GroupId),
      (groupOperand (bits 7 0 (e.word 1)) = some g) ∧ (s.admits e 517 [1] 2) ∧ (-2 ^ 47 ≤ toSigned 64 (e.word 2)) ∧ (toSigned 64 (e.word 2) < 2 ^ 47) ∧ (s.running g = []) :=
  ⟨(ent 1 [0x2#64, 5#64]), quad, 1, by decide +kernel⟩

theorem has_TargetAndStopCommands_1_0 :
    ∃ (e : CmdEntry) (s : State),
      (s.admits e 769 [0] 1) ∧ (groupsOfMask (bits 3 0 (e.word 1)) ≠ []) ∧ (∀ g ∈ groupsOfMask (bits 3 0 (e.word 1)), s.running g ≠ [] ∧ s.gr[g].atlas.ident = none ∧ Option.any (fun (x : Ss1) => decide (x.goal = 0)) s.gr[g].ss1 = false) :=
  ⟨(sel ss1k 0x0301 [0x3#64]), ss1k, by refine ⟨sel_admits _ _ _ _ (by decide +kernel) (by decide +kernel) (by decide +kernel), ?_, ?_⟩ <;> decide +kernel⟩

theorem has_TargetAndStopCommands_1_1 :
    ∃ (e : CmdEntry) (s : State) (g : GroupId),
      (groupOperand (bits 7 0 (e.word 1)) = some g) ∧ (s.admits e 770 [0] 1) ∧ (selectionOk (bits 15 8 (e.word 1)) = true) ∧ (bits 15 8 (e.word 1) / 64 % 2 = 1 → s.gr[g].pos.referenced = true) ∧ (s.excludesMotion g (bits 15 8 (e.word 1)) = false) :=
  ⟨(sel kq 0x0302 [0x0101#64]), kq, 0, by refine ⟨?_, sel_admits _ _ _ _ (by decide +kernel) (by decide +kernel) (by decide +kernel), ?_, ?_, ?_⟩ <;> decide +kernel⟩

theorem has_TargetAndStopCommands_1_1_a :
    ∃ (e : CmdEntry) (s : State) (g : GroupId),
      (groupOperand (bits 7 0 (e.word 1)) = some g) ∧ (s.admits e 770 [0] 1) ∧ (selectionOk (bits 15 8 (e.word 1)) = true) ∧ (bits 15 8 (e.word 1) / 64 % 2 = 1 → s.gr[g].pos.referenced = true) ∧ (s.excludesMotion g (bits 15 8 (e.word 1)) = false) :=
  ⟨(sel ss1k 0x0302 [0x0101#64]), ss1k, 0, by refine ⟨?_, sel_admits _ _ _ _ (by decide +kernel) (by decide +kernel) (by decide +kernel), ?_, ?_, ?_⟩ <;> decide +kernel⟩

theorem has_ParameterRows_1_0 :
    ∃ (e : CmdEntry) (s : State),
      (e.queue = 2 ∨ e.queue = 3) ∧ (1 ≤ e.ops.length) ∧ (e.ops.length ≤ 32) ∧ (s.boot.recovery = false) ∧ (s.drive.state ≠ DriveState.sleep) ∧ (∀ w ∈ e.ops, (objInfo (bits 15 0 (BitVec.toNat w)) (bits 23 16 (BitVec.toNat w))).isSome = true) :=
  ⟨(ent 2 [0x011100#64, 0x011101#64]), quad, by refine ⟨?_, ?_, ?_, ?_, ?_, List.forall_iff_forall_mem.mp (by decide +kernel)⟩ <;> decide +kernel⟩

theorem has_ParameterRows_1_1 :
    ∃ (e : CmdEntry) (s : State) (x : WriteEntry),
      (s.admits e 1026 [2] 3) ∧ (writeEntries e.ops = [x]) ∧ (s.judgeEntry 2 s.par x = 0) ∧ (x.index ≠ 61504) ∧ (x.index ≠ 49200) ∧ (s.par.wf = true) :=
  ⟨(ent 2 [0x03_01_D010#64, 500#64, 0]), quad, (⟨0xD010, 1, 3, 500, true⟩), by decide +kernel⟩

theorem has_ParameterRows_0_0 :
    ∃ (e : CmdEntry) (s : State),
      (s.admits e 1027 [2] 0) ∧ (s.par.commit = none) ∧ (s.drive.state ≠ DriveState.sleep) ∧ (s.drive.sleepStep = 0) ∧ (s.frozenSet = []) :=
  ⟨(ent 2 []), quad, by decide +kernel⟩

theorem has_TransfersBeginAndWriteTheirBytes_0 :
    ∃ (e : CmdEntry) (s : State) (c : Instr) (k : TransferKind) (code : ℕ) (qs : List ℕ),
      ((c = Instr.atlasUploadBegin e ∧ code = 1284 ∧ qs = [3] ∧ ∃ (g : GroupId), groupOperand (bits 15 8 (e.word 1)) = some g ∧ k = TransferKind.atlas g) ∨ c = Instr.firmwareUploadBegin e ∧ code = 2049 ∧ qs = [3] ∧ bits 15 8 (e.word 1) = 0 ∧ k = TransferKind.firmware ∨ c = Instr.paramUploadBegin e ∧ code = 1028 ∧ qs = [3] ∧ bits 15 8 (e.word 1) = 0 ∧ k = TransferKind.parameters) ∧ (s.admits e code qs 1) ∧ (bits 7 0 (e.word 1) = 1) ∧ (lengthOk k (bits 63 32 (e.word 1)) = true) ∧ (s.transfer = none) ∧ (s.transferAllowed k = true) :=
  ⟨(ent 3 [BitVec.ofNat 64 (1 + 0x100 + 268436544 * 2^32)]), quad, (.atlasUploadBegin (ent 3 [BitVec.ofNat 64 (1 + 0x100 + 268436544 * 2^32)])), (.atlas 0), 0x0504, [3], by decide +kernel⟩

theorem has_TransfersBeginAndWriteTheirBytes_0_a :
    ∃ (e : CmdEntry) (s : State) (c : Instr) (k : TransferKind) (code : ℕ) (qs : List ℕ),
      ((c = Instr.atlasUploadBegin e ∧ code = 1284 ∧ qs = [3] ∧ ∃ (g : GroupId), groupOperand (bits 15 8 (e.word 1)) = some g ∧ k = TransferKind.atlas g) ∨ c = Instr.firmwareUploadBegin e ∧ code = 2049 ∧ qs = [3] ∧ bits 15 8 (e.word 1) = 0 ∧ k = TransferKind.firmware ∨ c = Instr.paramUploadBegin e ∧ code = 1028 ∧ qs = [3] ∧ bits 15 8 (e.word 1) = 0 ∧ k = TransferKind.parameters) ∧ (s.admits e code qs 1) ∧ (bits 7 0 (e.word 1) = 1) ∧ (lengthOk k (bits 63 32 (e.word 1)) = true) ∧ (s.transfer = none) ∧ (s.transferAllowed k = true) :=
  ⟨(ent 3 [BitVec.ofNat 64 (1 + 1000 * 2^32)]), quad, (.firmwareUploadBegin (ent 3 [BitVec.ofNat 64 (1 + 1000 * 2^32)])), .firmware, 0x0801, [3], by decide +kernel⟩

theorem has_TransfersBeginAndWriteTheirBytes_0_b :
    ∃ (e : CmdEntry) (s : State) (c : Instr) (k : TransferKind) (code : ℕ) (qs : List ℕ),
      ((c = Instr.atlasUploadBegin e ∧ code = 1284 ∧ qs = [3] ∧ ∃ (g : GroupId), groupOperand (bits 15 8 (e.word 1)) = some g ∧ k = TransferKind.atlas g) ∨ c = Instr.firmwareUploadBegin e ∧ code = 2049 ∧ qs = [3] ∧ bits 15 8 (e.word 1) = 0 ∧ k = TransferKind.firmware ∨ c = Instr.paramUploadBegin e ∧ code = 1028 ∧ qs = [3] ∧ bits 15 8 (e.word 1) = 0 ∧ k = TransferKind.parameters) ∧ (s.admits e code qs 1) ∧ (bits 7 0 (e.word 1) = 1) ∧ (lengthOk k (bits 63 32 (e.word 1)) = true) ∧ (s.transfer = none) ∧ (s.transferAllowed k = true) :=
  ⟨(ent 3 [BitVec.ofNat 64 (1 + 88 * 2^32)]), quad, (.paramUploadBegin (ent 3 [BitVec.ofNat 64 (1 + 88 * 2^32)])), .parameters, 0x0404, [3], by decide +kernel⟩

theorem has_TransfersBeginAndWriteTheirBytes_1 :
    ∃ (e : CmdEntry) (s : State) (t0 : Transfer),
      (s.admits e 2049 [3] (1 + (bits 31 16 (e.word 1) + 7) / 8)) ∧ (bits 7 0 (e.word 1) = 2) ∧ (1 ≤ bits 31 16 (e.word 1)) ∧ (bits 31 16 (e.word 1) ≤ 1400) ∧ (s.transfer = some t0) ∧ (t0.kind = TransferKind.firmware) ∧ (bits 63 32 (e.word 1) = t0.received) ∧ (t0.received + bits 31 16 (e.word 1) ≤ t0.length) ∧ (s.mem.wf = true) :=
  ⟨(ent 3 (chunkOps 0 13)), (xf .firmware 2000 0 []), (tr .firmware 2000 0 []), by decide +kernel⟩

theorem has_TransfersBeginAndWriteTheirBytes_1_a :
    ∃ (e : CmdEntry) (s : State) (t0 : Transfer),
      (s.admits e 2049 [3] (1 + (bits 31 16 (e.word 1) + 7) / 8)) ∧ (bits 7 0 (e.word 1) = 2) ∧ (1 ≤ bits 31 16 (e.word 1)) ∧ (bits 31 16 (e.word 1) ≤ 1400) ∧ (s.transfer = some t0) ∧ (t0.kind = TransferKind.firmware) ∧ (bits 63 32 (e.word 1) = t0.received) ∧ (t0.received + bits 31 16 (e.word 1) ≤ t0.length) ∧ (s.mem.wf = true) :=
  ⟨(ent 3 (chunkOps 1400 600)), (xf .firmware 2000 1400 []), (tr .firmware 2000 1400 []), by decide +kernel⟩

theorem has_TransfersBeginAndWriteTheirBytes_2_0 :
    ∃ (e : CmdEntry) (s : State) (t0 : Transfer) (g : GroupId),
      (bits 7 0 (e.word 1) = 2) ∧ (1 ≤ bits 31 16 (e.word 1)) ∧ (bits 31 16 (e.word 1) ≤ 1400) ∧ (s.transfer = some t0) ∧ (bits 63 32 (e.word 1) = t0.received) ∧ (t0.received + bits 31 16 (e.word 1) ≤ t0.length) ∧ (s.mem.wf = true) ∧ (t0.kind = TransferKind.atlas g) ∧ (atlasHead ≤ t0.received) ∧ (s.admits e 1284 [3] (1 + (bits 31 16 (e.word 1) + 7) / 8)) :=
  ⟨(ent 3 (chunkOps 1400 16)), (xf (.atlas 1) 268436544 1400 [1]), (tr (.atlas 1) 268436544 1400 [1]), 1, by decide +kernel⟩

theorem has_TransfersBeginAndWriteTheirBytes_2_1 :
    ∃ (e : CmdEntry) (s : State) (t0 : Transfer),
      (bits 7 0 (e.word 1) = 2) ∧ (1 ≤ bits 31 16 (e.word 1)) ∧ (bits 31 16 (e.word 1) ≤ 1400) ∧ (s.transfer = some t0) ∧ (bits 63 32 (e.word 1) = t0.received) ∧ (t0.received + bits 31 16 (e.word 1) ≤ t0.length) ∧ (s.mem.wf = true) ∧ (t0.kind = TransferKind.parameters) ∧ (s.admits e 1028 [3] (1 + (bits 31 16 (e.word 1) + 7) / 8)) :=
  ⟨(ent 3 (chunkOps 0 64)), (xf .parameters 88 0 []), (tr .parameters 88 0 []), by decide +kernel⟩

theorem has_TransferEndings_0_1 :
    ∃ (e : CmdEntry) (s : State) (t0 : Transfer),
      (s.transfer = some t0) ∧ (s.drive.sleepStep = 0) ∧ (bits 7 0 (e.word 1) = 3) ∧ (t0.received = t0.length) ∧ (s.admits e 2049 [3] 1) ∧ (t0.kind = TransferKind.firmware) ∧ (s.mem.pages = []) :=
  ⟨(ent 3 [3#64]), (xf .firmware 200 200 []), (tr .firmware 200 200 []), by decide +kernel⟩

theorem has_TransferEndings_0_2 :
    ∃ (e : CmdEntry) (s : State) (t0 : Transfer) (c : Instr) (code : ℕ),
      (s.transfer = some t0) ∧ (s.drive.sleepStep = 0) ∧ (bits 7 0 (e.word 1) = 4) ∧ (s.admits e code [3] 1) ∧ (c = Instr.atlasUploadAbort e ∧ code = 1284 ∧ t0.kind.code = 1 ∨ c = Instr.firmwareUploadAbort e ∧ code = 2049 ∧ t0.kind.code = 2 ∨ c = Instr.paramUploadAbort e ∧ code = 1028 ∧ t0.kind.code = 3) :=
  ⟨(ent 3 [4#64]), (xf .firmware 200 200 []), (tr .firmware 200 200 []), (.firmwareUploadAbort (ent 3 [4#64])), 0x0801, by decide +kernel⟩

theorem has_TransferEndings_0_2_a :
    ∃ (e : CmdEntry) (s : State) (t0 : Transfer) (c : Instr) (code : ℕ),
      (s.transfer = some t0) ∧ (s.drive.sleepStep = 0) ∧ (bits 7 0 (e.word 1) = 4) ∧ (s.admits e code [3] 1) ∧ (c = Instr.atlasUploadAbort e ∧ code = 1284 ∧ t0.kind.code = 1 ∨ c = Instr.firmwareUploadAbort e ∧ code = 2049 ∧ t0.kind.code = 2 ∨ c = Instr.paramUploadAbort e ∧ code = 1028 ∧ t0.kind.code = 3) :=
  ⟨(ent 3 [4#64]), (xf (.atlas 2) 200 20 []), (tr (.atlas 2) 200 20 []), (.atlasUploadAbort (ent 3 [4#64])), 0x0504, by decide +kernel⟩

theorem has_TransferEndings_0_2_b :
    ∃ (e : CmdEntry) (s : State) (t0 : Transfer) (c : Instr) (code : ℕ),
      (s.transfer = some t0) ∧ (s.drive.sleepStep = 0) ∧ (bits 7 0 (e.word 1) = 4) ∧ (s.admits e code [3] 1) ∧ (c = Instr.atlasUploadAbort e ∧ code = 1284 ∧ t0.kind.code = 1 ∨ c = Instr.firmwareUploadAbort e ∧ code = 2049 ∧ t0.kind.code = 2 ∨ c = Instr.paramUploadAbort e ∧ code = 1028 ∧ t0.kind.code = 3) :=
  ⟨(ent 3 [4#64]), (xf .parameters 200 20 []), (tr .parameters 200 20 []), (.paramUploadAbort (ent 3 [4#64])), 0x0404, by decide +kernel⟩

theorem has_TransferEndings_0_3 :
    ∃ (s : State) (t0 : Transfer),
      (s.transfer = some t0) ∧ (s.drive.sleepStep = 0) :=
  ⟨(xf .parameters 200 20 []), (tr .parameters 200 20 []), by decide +kernel⟩

theorem has_TransferEndings_1 :
    ∃ (e : CmdEntry) (s : State) (t0 : Transfer) (g : GroupId),
      (s.transfer = some t0) ∧ (s.drive.sleepStep = 0) ∧ (bits 7 0 (e.word 1) = 3) ∧ (t0.received = t0.length) ∧ (s.admits e 1284 [3] 1) ∧ (t0.kind = TransferKind.atlas g) ∧ (s.atlasIdle g = true) ∧ (s.mem.journal.halves[s.mem.journal.half].length < halfRecords) :=
  ⟨(ent 3 [3#64]), (xf (.atlas 1) 200 200 []), (tr (.atlas 1) 200 200 []), 1, by decide +kernel⟩

theorem has_TransferEndings_0_0 :
    ∃ (e : CmdEntry) (s : State) (t0 : Transfer) (u : State),
      (s.transfer = some t0) ∧ (s.drive.sleepStep = 0) ∧ (bits 7 0 (e.word 1) = 3) ∧ (t0.received = t0.length) ∧ (s.admits e 1028 [3] 1) ∧ (t0.kind = TransferKind.parameters) ∧ (paramFileOk t0.bytes = true) ∧ (applyWrites 3 (fileRecords (fieldAt t0.bytes 8 4) (List.drop 64 t0.bytes)) s = (u, none)) :=
  ⟨(ent 3 [3#64]), (xf .parameters 88 88 oneFile), (tr .parameters 88 88 oneFile), (applyWrites 3 (fileRecords 1 (oneFile.drop 64)) (xf .parameters 88 88 oneFile)).1, by refine ⟨?_, ?_, ?_, ?_, ?_, ?_, ?_, Prod.ext rfl (by decide +kernel)⟩ <;> decide +kernel⟩

theorem has_CommandsLeaveTheQueueAndTheClock :
    ∃ (c : Instr) (s : State) (t : State),
      (exec c s = Host.Outcome.next t) :=
  ⟨.refreshDue, quad, ({ quad with arb := { quad.arb with refresh := true } }), rfl⟩

theorem has_StepKeepsMemoryCanonical :
    ∃ (s : State) (t : State),
      (s.mem.wf = true) ∧ (step s = Host.Outcome.next t) :=
  ⟨({ quad with pending := [.refreshDue] }), ({ quad with pending := [], arb := { quad.arb with refresh := true } }), by refine ⟨?_, rfl⟩ <;> decide +kernel⟩

theorem has_StepKeepsObjectsCanonical :
    ∃ (s : State) (t : State),
      (s.par.wf = true) ∧ (step s = Host.Outcome.next t) :=
  ⟨({ quad with pending := [.refreshDue] }), ({ quad with pending := [], arb := { quad.arb with refresh := true } }), by refine ⟨?_, rfl⟩ <;> decide +kernel⟩

theorem has_StepKeepsCountersBounded :
    ∃ (s : State) (t : State),
      (s.st.bounded = true) ∧ (step s = Host.Outcome.next t) :=
  ⟨({ quad with pending := [.refreshDue] }), ({ quad with pending := [], arb := { quad.arb with refresh := true } }), by refine ⟨?_, rfl⟩ <;> decide +kernel⟩

theorem has_FurtherSs1Source_0_0 :
    ∃ (s : State) (g : GroupId),
      (s.running g ≠ []) ∧ (Option.any (fun (x : Ss1) => decide (x.goal = 0)) s.gr[g].ss1 = true) ∧ (s.test.fired = []) :=
  ⟨(stopping runQ), 0, by decide +kernel⟩

theorem has_FurtherSs1Source_0_1 :
    ∃ (s : State) (g : GroupId),
      (s.running g ≠ []) ∧ (Option.any (fun (x : Ss1) => decide (x.goal = 0)) s.gr[g].ss1 = true) ∧ (s.test.fired = []) ∧ (s.logs 32784) :=
  ⟨(stopping runQ), 0, by decide +kernel⟩

theorem has_FurtherSs1Source_1 :
    ∃ (s : State) (g : GroupId) (e : CmdEntry),
      (s.running g ≠ []) ∧ (Option.any (fun (x : Ss1) => decide (x.goal = 0)) s.gr[g].ss1 = true) ∧ (s.test.fired = []) ∧ (s.admits e 769 [0] 1) ∧ (groupsOfMask (bits 3 0 (e.word 1)) = [g]) :=
  ⟨(stopping ss1k), 1, (sel (stopping ss1k) 0x0301 [0x2#64]), by refine ⟨?_, ?_, ?_, sel_admits _ _ _ _ (by decide +kernel) (by decide +kernel) (by decide +kernel), ?_⟩ <;> decide +kernel⟩

theorem has_WritableRangesOfTests_0_0 :
    ∃ (e : CmdEntry) (s : State) (x : WriteEntry) (i : ℕ) (k : ℕ) (ty : ℕ) (lo : ℕ) (hi : ℕ),
      (writeEntries e.ops = [x]) ∧ (e.ops.length = 3) ∧ (s.boot.recovery = false) ∧ (x.clean = true) ∧ (s.writable = true) ∧ (s.par.wf = true) ∧ (x.index = i) ∧ (x.sub = k) ∧ (x.ty = ty) ∧ ((i, k, ty, lo, hi) ∈ [(53248, 1, 1, 0, 1), (53504, 1, 1, 0, 1), (53248, 3, 1, 2, 64), (53504, 3, 2, 100, 60000), (53504, 4, 2, 10, 10000), (57344, 1, 3, 1, 60000)] ∨ 53264 ≤ i ∧ i ≤ 53275 ∧ k = 1 ∧ ty = 3 ∧ lo = 100 ∧ hi = 3600000) ∧ (e.queue = 2) ∧ (x.raw < lo ∨ hi < x.raw) :=
  ⟨(ent 2 [0x01_03_D000#64, 65#64, 0]), quad, (⟨0xD000, 3, 1, 65, true⟩), 0xD000, 3, 1, 2, 64, by decide +kernel⟩

theorem has_WritableRangesOfTests_0_1 :
    ∃ (e : CmdEntry) (s : State) (x : WriteEntry) (i : ℕ) (k : ℕ) (ty : ℕ) (lo : ℕ) (hi : ℕ),
      (writeEntries e.ops = [x]) ∧ (e.ops.length = 3) ∧ (s.boot.recovery = false) ∧ (x.clean = true) ∧ (s.writable = true) ∧ (s.par.wf = true) ∧ (x.index = i) ∧ (x.sub = k) ∧ (x.ty = ty) ∧ ((i, k, ty, lo, hi) ∈ [(53248, 1, 1, 0, 1), (53504, 1, 1, 0, 1), (53248, 3, 1, 2, 64), (53504, 3, 2, 100, 60000), (53504, 4, 2, 10, 10000), (57344, 1, 3, 1, 60000)] ∨ 53264 ≤ i ∧ i ≤ 53275 ∧ k = 1 ∧ ty = 3 ∧ lo = 100 ∧ hi = 3600000) ∧ (e.queue = 2) ∧ (lo ≤ x.raw) ∧ (x.raw ≤ hi) :=
  ⟨(ent 2 [0x01_03_D000#64, 64#64, 0]), quad, (⟨0xD000, 3, 1, 64, true⟩), 0xD000, 3, 1, 2, 64, by decide +kernel⟩

theorem has_WritableRangesOfTests_0_0_a :
    ∃ (e : CmdEntry) (s : State) (x : WriteEntry) (i : ℕ) (k : ℕ) (ty : ℕ) (lo : ℕ) (hi : ℕ),
      (writeEntries e.ops = [x]) ∧ (e.ops.length = 3) ∧ (s.boot.recovery = false) ∧ (x.clean = true) ∧ (s.writable = true) ∧ (s.par.wf = true) ∧ (x.index = i) ∧ (x.sub = k) ∧ (x.ty = ty) ∧ ((i, k, ty, lo, hi) ∈ [(53248, 1, 1, 0, 1), (53504, 1, 1, 0, 1), (53248, 3, 1, 2, 64), (53504, 3, 2, 100, 60000), (53504, 4, 2, 10, 10000), (57344, 1, 3, 1, 60000)] ∨ 53264 ≤ i ∧ i ≤ 53275 ∧ k = 1 ∧ ty = 3 ∧ lo = 100 ∧ hi = 3600000) ∧ (e.queue = 2) ∧ (x.raw < lo ∨ hi < x.raw) :=
  ⟨(ent 2 [0x03_01_D01B#64, 99#64, 0]), quad, (⟨0xD01B, 1, 3, 99, true⟩), 0xD01B, 1, 3, 100, 3600000, by decide +kernel⟩

theorem has_WritableRangesOfTests_0_1_a :
    ∃ (e : CmdEntry) (s : State) (x : WriteEntry) (i : ℕ) (k : ℕ) (ty : ℕ) (lo : ℕ) (hi : ℕ),
      (writeEntries e.ops = [x]) ∧ (e.ops.length = 3) ∧ (s.boot.recovery = false) ∧ (x.clean = true) ∧ (s.writable = true) ∧ (s.par.wf = true) ∧ (x.index = i) ∧ (x.sub = k) ∧ (x.ty = ty) ∧ ((i, k, ty, lo, hi) ∈ [(53248, 1, 1, 0, 1), (53504, 1, 1, 0, 1), (53248, 3, 1, 2, 64), (53504, 3, 2, 100, 60000), (53504, 4, 2, 10, 10000), (57344, 1, 3, 1, 60000)] ∨ 53264 ≤ i ∧ i ≤ 53275 ∧ k = 1 ∧ ty = 3 ∧ lo = 100 ∧ hi = 3600000) ∧ (e.queue = 2) ∧ (lo ≤ x.raw) ∧ (x.raw ≤ hi) :=
  ⟨(ent 2 [0x03_01_E000#64, 60000#64, 0]), quad, (⟨0xE000, 1, 3, 60000, true⟩), 0xE000, 1, 3, 1, 60000, by decide +kernel⟩

theorem has_WritableRangesOfTests_1_0 :
    ∃ (e : CmdEntry) (s : State) (x : WriteEntry) (i : ℕ) (k : ℕ) (ty : ℕ) (lo : ℕ) (hi : ℕ),
      (writeEntries e.ops = [x]) ∧ (e.ops.length = 3) ∧ (s.boot.recovery = false) ∧ (x.clean = true) ∧ (s.writable = true) ∧ (s.par.wf = true) ∧ (x.index = i) ∧ (x.sub = k) ∧ (x.ty = ty) ∧ ((i, k, ty, lo, hi) ∈ [(33029, 1, 2, 100, 1620), (33029, 2, 2, 2, 1000)]) ∧ (e.queue = 2) :=
  ⟨(ent 2 [0x02_02_8105#64, 10#64, 0]), kq, (⟨0x8105, 2, 2, 10, true⟩), 0x8105, 2, 2, 2, 1000, by decide +kernel⟩

theorem has_WritableRangesOfTests_1_1_0 :
    ∃ (e : CmdEntry) (s : State) (x : WriteEntry) (i : ℕ) (k : ℕ) (ty : ℕ) (lo : ℕ) (hi : ℕ),
      (writeEntries e.ops = [x]) ∧ (e.ops.length = 3) ∧ (s.boot.recovery = false) ∧ (x.clean = true) ∧ (s.writable = true) ∧ (s.par.wf = true) ∧ (x.index = i) ∧ (x.sub = k) ∧ (x.ty = ty) ∧ ((i, k, ty, lo, hi) ∈ [(33029, 1, 2, 100, 1620), (33029, 2, 2, 2, 1000)]) ∧ (e.queue = 0) ∧ (s.authOk 1026 false e = true) ∧ (x.raw < lo ∨ hi < x.raw) :=
  ⟨(sel kq 0x0402 [0x02_01_8105#64, 1621#64, 0]), kq, (⟨0x8105, 1, 2, 1621, true⟩), 0x8105, 1, 2, 100, 1620, by refine ⟨?_, ?_, ?_, ?_, ?_, ?_, ?_, ?_, ?_, ?_, ?_, (sel_admits _ _ 3 _ (by decide +kernel) (by decide +kernel) (by decide +kernel)).2.2.1 rfl, ?_⟩ <;> decide +kernel⟩

theorem has_WritableRangesOfTests_1_1_1 :
    ∃ (e : CmdEntry) (s : State) (x : WriteEntry) (i : ℕ) (k : ℕ) (ty : ℕ) (lo : ℕ) (hi : ℕ),
      (writeEntries e.ops = [x]) ∧ (e.ops.length = 3) ∧ (s.boot.recovery = false) ∧ (x.clean = true) ∧ (s.writable = true) ∧ (s.par.wf = true) ∧ (x.index = i) ∧ (x.sub = k) ∧ (x.ty = ty) ∧ ((i, k, ty, lo, hi) ∈ [(33029, 1, 2, 100, 1620), (33029, 2, 2, 2, 1000)]) ∧ (e.queue = 0) ∧ (s.authOk 1026 false e = true) ∧ (lo ≤ x.raw) ∧ (x.raw ≤ hi) :=
  ⟨(sel kq 0x0402 [0x02_02_8105#64, 2#64, 0]), kq, (⟨0x8105, 2, 2, 2, true⟩), 0x8105, 2, 2, 2, 1000, by refine ⟨?_, ?_, ?_, ?_, ?_, ?_, ?_, ?_, ?_, ?_, ?_, (sel_admits _ _ 3 _ (by decide +kernel) (by decide +kernel) (by decide +kernel)).2.2.1 rfl, ?_, ?_⟩ <;> decide +kernel⟩

theorem has_FileLengthsAreChecked_0 :
    ∃ (e : CmdEntry) (s : State) (c : Instr) (k : TransferKind) (code : ℕ) (good : Bool),
      (bits 7 0 (e.word 1) = 1) ∧ (s.admits e code [3] 1) ∧ (c = Instr.atlasUploadBegin e ∧ code = 1284 ∧ (∃ (g : GroupId), groupOperand (bits 15 8 (e.word 1)) = some g ∧ k = TransferKind.atlas g) ∧ good = decide (bits 63 32 (e.word 1) = 268436544) ∨ c = Instr.firmwareUploadBegin e ∧ code = 2049 ∧ bits 15 8 (e.word 1) = 0 ∧ k = TransferKind.firmware ∧ good = decide (129 ≤ bits 63 32 (e.word 1) ∧ bits 63 32 (e.word 1) ≤ 134217728) ∨ c = Instr.paramUploadBegin e ∧ code = 1028 ∧ bits 15 8 (e.word 1) = 0 ∧ k = TransferKind.parameters ∧ good = decide (88 ≤ bits 63 32 (e.word 1) ∧ bits 63 32 (e.word 1) ≤ 1048576 ∧ (bits 63 32 (e.word 1) - 64) % 24 = 0)) ∧ (good = false) :=
  ⟨(ent 3 [BitVec.ofNat 64 (1 + 89 * 2^32)]), quad, (.paramUploadBegin (ent 3 [BitVec.ofNat 64 (1 + 89 * 2^32)])), .parameters, 0x0404, false, by decide +kernel⟩

theorem has_FileLengthsAreChecked_0_a :
    ∃ (e : CmdEntry) (s : State) (c : Instr) (k : TransferKind) (code : ℕ) (good : Bool),
      (bits 7 0 (e.word 1) = 1) ∧ (s.admits e code [3] 1) ∧ (c = Instr.atlasUploadBegin e ∧ code = 1284 ∧ (∃ (g : GroupId), groupOperand (bits 15 8 (e.word 1)) = some g ∧ k = TransferKind.atlas g) ∧ good = decide (bits 63 32 (e.word 1) = 268436544) ∨ c = Instr.firmwareUploadBegin e ∧ code = 2049 ∧ bits 15 8 (e.word 1) = 0 ∧ k = TransferKind.firmware ∧ good = decide (129 ≤ bits 63 32 (e.word 1) ∧ bits 63 32 (e.word 1) ≤ 134217728) ∨ c = Instr.paramUploadBegin e ∧ code = 1028 ∧ bits 15 8 (e.word 1) = 0 ∧ k = TransferKind.parameters ∧ good = decide (88 ≤ bits 63 32 (e.word 1) ∧ bits 63 32 (e.word 1) ≤ 1048576 ∧ (bits 63 32 (e.word 1) - 64) % 24 = 0)) ∧ (good = false) :=
  ⟨(ent 3 [BitVec.ofNat 64 (1 + 128 * 2^32)]), quad, (.firmwareUploadBegin (ent 3 [BitVec.ofNat 64 (1 + 128 * 2^32)])), .firmware, 0x0801, false, by decide +kernel⟩

theorem has_FileLengthsAreChecked_0_b :
    ∃ (e : CmdEntry) (s : State) (c : Instr) (k : TransferKind) (code : ℕ) (good : Bool),
      (bits 7 0 (e.word 1) = 1) ∧ (s.admits e code [3] 1) ∧ (c = Instr.atlasUploadBegin e ∧ code = 1284 ∧ (∃ (g : GroupId), groupOperand (bits 15 8 (e.word 1)) = some g ∧ k = TransferKind.atlas g) ∧ good = decide (bits 63 32 (e.word 1) = 268436544) ∨ c = Instr.firmwareUploadBegin e ∧ code = 2049 ∧ bits 15 8 (e.word 1) = 0 ∧ k = TransferKind.firmware ∧ good = decide (129 ≤ bits 63 32 (e.word 1) ∧ bits 63 32 (e.word 1) ≤ 134217728) ∨ c = Instr.paramUploadBegin e ∧ code = 1028 ∧ bits 15 8 (e.word 1) = 0 ∧ k = TransferKind.parameters ∧ good = decide (88 ≤ bits 63 32 (e.word 1) ∧ bits 63 32 (e.word 1) ≤ 1048576 ∧ (bits 63 32 (e.word 1) - 64) % 24 = 0)) ∧ (good = false) :=
  ⟨(ent 3 [BitVec.ofNat 64 (0x301 + 128 * 2^32)]), quad, (.atlasUploadBegin (ent 3 [BitVec.ofNat 64 (0x301 + 128 * 2^32)])), (.atlas 2), 0x0504, false, by decide +kernel⟩

theorem has_FileLengthsAreChecked_1 :
    ∃ (e : CmdEntry) (s : State) (c : Instr) (k : TransferKind) (code : ℕ) (good : Bool),
      (bits 7 0 (e.word 1) = 1) ∧ (s.admits e code [3] 1) ∧ (c = Instr.atlasUploadBegin e ∧ code = 1284 ∧ (∃ (g : GroupId), groupOperand (bits 15 8 (e.word 1)) = some g ∧ k = TransferKind.atlas g) ∧ good = decide (bits 63 32 (e.word 1) = 268436544) ∨ c = Instr.firmwareUploadBegin e ∧ code = 2049 ∧ bits 15 8 (e.word 1) = 0 ∧ k = TransferKind.firmware ∧ good = decide (129 ≤ bits 63 32 (e.word 1) ∧ bits 63 32 (e.word 1) ≤ 134217728) ∨ c = Instr.paramUploadBegin e ∧ code = 1028 ∧ bits 15 8 (e.word 1) = 0 ∧ k = TransferKind.parameters ∧ good = decide (88 ≤ bits 63 32 (e.word 1) ∧ bits 63 32 (e.word 1) ≤ 1048576 ∧ (bits 63 32 (e.word 1) - 64) % 24 = 0)) ∧ (good = true) ∧ (s.transfer = none) ∧ (s.transferAllowed k = true) :=
  ⟨(ent 3 [BitVec.ofNat 64 (0x301 + 268436544 * 2^32)]), quad, (.atlasUploadBegin (ent 3 [BitVec.ofNat 64 (0x301 + 268436544 * 2^32)])), (.atlas 2), 0x0504, true, by decide +kernel⟩

theorem has_StepRunsTheFrontCommand_1 :
    ∃ (s : State),
      (s.pending = []) :=
  ⟨quad, by decide +kernel⟩

theorem has_RefusedCommandsChangeNothing_0 :
    ∃ (i : Instr) (code : ℕ) (qs : List ℕ) (e : CmdEntry),
      (hostForm i = some (code, qs, e)) ∧ ((↑e.queue : ℕ) ∉ qs) :=
  ⟨(.driveArm (ent 2 [])), 0x0101, [1], (ent 2 []), by decide +kernel⟩

theorem has_RefusedCommandsChangeNothing_1 :
    ∃ (e : CmdEntry) (s : State) (x : Instr × ℕ × ℕ),
      (x ∈ [(Instr.ss1Request e, 769, 1), (Instr.safetySelect e, 770, 1), (Instr.faultClear e, 771, 1), (Instr.debugFlagClear e, 772, 1), (Instr.pairSplit e, 773, 1), (Instr.pairRejoin e, 774, 1), (Instr.injectArm e, 775, 1), (Instr.injectFire e, 776, 1), (Instr.firmwareActivate e, 777, 0)]) ∧ (e.queue = 0) ∧ (e.ops.length = x.2.2) ∧ (e.tag ≠ tagOf s.q0Key s.io.session x.2.1 e) :=
  ⟨({ ent 0 [1] with tag := tagOf kq.q0Key kq.io.session 0x0303 (ent 0 [1]) + 1 }), kq, (.faultClear { ent 0 [1] with tag := tagOf kq.q0Key kq.io.session 0x0303 (ent 0 [1]) + 1 }, 0x0303, 1), by refine ⟨List.mem_cons_of_mem _ (List.mem_cons_of_mem _ List.mem_cons_self), ?_, ?_, add_one_ne _⟩ <;> decide +kernel⟩

theorem has_RefusedCommandsChangeNothing_2 :
    ∃ (e : CmdEntry) (s : State),
      (e.queue = 2) ∧ (1 ≤ e.ops.length) ∧ (e.ops.length ≤ 180) ∧ (e.ops.length % 3 = 0) ∧ (s.boot.recovery = false) ∧ ((s.judgeAll 2 1 (writeEntries e.ops) s.par).2 ≠ []) :=
  ⟨(ent 2 [0x01_03_D000#64, 65#64, 0]), quad, by decide +kernel⟩

theorem has_DispatchRunsTakenRow_0 :
    ∃ (s : State),
      (s.boot.booting = true ∨ s.pwr.domains[2] = false ∨ ∀ (q : Fin 4), s.commandReady q = false) :=
  ⟨quad, by decide +kernel⟩

theorem has_DispatchRunsTakenRow_1_0 :
    ∃ (s : State) (q : Fin 4) (w : Waiting) (rest : List Waiting) (i : Instr) (qs : List ℕ),
      (s.mailOpen) ∧ (List.find? (fun (k : Fin 4) => s.commandReady k) (List.finRange 4) = some q) ∧ (s.io.cmd[q].waiting = w :: rest) ∧ (hostForm i = some (w.code, qs, w.e)) ∧ (∀ (ph : ℕ), hostPhase i = some ph → bits 7 0 (w.e.word 1) = ph) ∧ (i = Instr.faultRecordClear w.e → w.e.ops.length = 3 ∧ ∀ x ∈ writeEntries w.e.ops, x.index = 61504 ∧ x.sub = 3) :=
  ⟨(waitingQ ⟨0x0403, ent 2 []⟩ 2), 2, (⟨0x0403, ent 2 []⟩), [], (.paramCommit (ent 2 [])), ([0, 2]), by refine ⟨?_, ?_, ?_, ?_, by rintro ph ⟨⟩, fun h => nomatch h⟩ <;> decide +kernel⟩

theorem has_DispatchRunsTakenRow_1_0_a :
    ∃ (s : State) (q : Fin 4) (w : Waiting) (rest : List Waiting) (i : Instr) (qs : List ℕ),
      (s.mailOpen) ∧ (List.find? (fun (k : Fin 4) => s.commandReady k) (List.finRange 4) = some q) ∧ (s.io.cmd[q].waiting = w :: rest) ∧ (hostForm i = some (w.code, qs, w.e)) ∧ (∀ (ph : ℕ), hostPhase i = some ph → bits 7 0 (w.e.word 1) = ph) ∧ (i = Instr.faultRecordClear w.e → w.e.ops.length = 3 ∧ ∀ x ∈ writeEntries w.e.ops, x.index = 61504 ∧ x.sub = 3) :=
  ⟨(waitingQ ⟨0x0801, ent 3 [0x100000001#64]⟩ 3), 3, (⟨0x0801, ent 3 [0x100000001#64]⟩), [], (.firmwareUploadBegin (ent 3 [0x100000001#64])), [3], by refine ⟨?_, ?_, ?_, ?_, by rintro ph ⟨⟩; decide +kernel, fun h => nomatch h⟩ <;> decide +kernel⟩

theorem has_DispatchRunsTakenRow_1_0_b :
    ∃ (s : State) (q : Fin 4) (w : Waiting) (rest : List Waiting) (i : Instr) (qs : List ℕ),
      (s.mailOpen) ∧ (List.find? (fun (k : Fin 4) => s.commandReady k) (List.finRange 4) = some q) ∧ (s.io.cmd[q].waiting = w :: rest) ∧ (hostForm i = some (w.code, qs, w.e)) ∧ (∀ (ph : ℕ), hostPhase i = some ph → bits 7 0 (w.e.word 1) = ph) ∧ (i = Instr.faultRecordClear w.e → w.e.ops.length = 3 ∧ ∀ x ∈ writeEntries w.e.ops, x.index = 61504 ∧ x.sub = 3) :=
  ⟨(waitingQ ⟨0x0402, ent 2 [0x02_03_F040#64, 2#64, 0]⟩ 2), 2, (⟨0x0402, ent 2 [0x02_03_F040#64, 2#64, 0]⟩), [], (.faultRecordClear (ent 2 [0x02_03_F040#64, 2#64, 0])), ([0, 2]), by refine ⟨?_, ?_, ?_, ?_, by rintro ph ⟨⟩, fun _ => by decide +kernel⟩ <;> decide +kernel⟩

theorem has_DispatchRunsTakenRow_1_1 :
    ∃ (s : State) (q : Fin 4) (w : Waiting) (rest : List Waiting),
      (s.mailOpen) ∧ (List.find? (fun (k : Fin 4) => s.commandReady k) (List.finRange 4) = some q) ∧ (s.io.cmd[q].waiting = w :: rest) ∧ (w.code < 257 ∨ 2049 < w.code) :=
  ⟨(waitingQ ⟨0x0900, ent 3 []⟩ 3), 3, (⟨0x0900, ent 3 []⟩), [], by decide +kernel⟩

end Sys2Proof.Tests.Commands
end

