-- ==== Sys2Proof/Tests/Faults.lean ====
section
/-! SUPPORT. States and operands that meet the premises of the statements on starts that end, learning, pairs, supply and temperatures: `has_X_i_j` is for clause i, j of X. -/

namespace Sys2Proof.Tests.Faults
open Sys2Proof Sys2Proof.Machine
set_option Elab.async false

def one : State := putObj 0x1100 1 3 { runQ with drive := { runQ.drive with hbMissed := 4, hbAt := 1000 } }
def exitS (k : Nat) : State := { quad with drive := { quad.drive with udc := 600 }, br := quad.br.map fun (x : Bridge) => { x with state := .safeAsc, force := { x.force with pattern := 2, sources := [(.cloveRequest, 3)] }, start := { x.start with phase := k } } }
def rampA : State := putObj 0x7110 2 2 { runQ with br := runQ.br.map fun (x : Bridge) => { x with ctl := { x.ctl with rampDown := some 3 }, pos := x.pos.map fun (p : Position) => { p with railReady := true, linkValid := true, partnerKnown := true } } }
def mon : State := putObj 0x8070 2 1 { runQ with br := runQ.br.map fun (x : Bridge) => { x with ctl := { x.ctl with torque := 700, portion := 0 } } }
def badC : State := { quad with mem := { quad.mem with bad := [0x02000000 + 9], nand := [(0x20000048, 5), (0x30000048, 6)] }, gr := quad.gr.map fun (x : Group) => { x with atlas := { x.atlas with record := some ⟨1, 5, 1, 0⟩ } } }
def cop (f : Atlas → Atlas) (s : State) : State := { s with gr := s.gr.map fun (x : Group) => { x with atlas := f { x.atlas with copying := true } } }
def idn (k : Nat) (s : State) : State := { s with gr := s.gr.map fun (x : Group) => { x with atlas := { x.atlas with ident := some (k, true, false) } } }
def rq (k : Nat) (c : Bool) (s : State) : State := { s with gr := s.gr.map fun (x : Group) => { x with reacq := { x.reacq with phase := k, isCatch := c } } }
def lrun : LearnRun := { steps := 5000, residual := 0, psi := (500, 100), amps := (1000, 2000), cell := 77, at0 := (0, 0, 0), power := 4000000, omega := 300 }
/-- Six crossings of a turning machine at one angle. -/
def crossed (s : State) : State := putObj 0x6031 8 65535 { s with br := s.br.map fun (x : Bridge) => { x with bemf := { x.bemf with crossings := [(60, 0, true), (50, 2, false), (40, 1, true), (30, 0, false), (20, 2, true), (10, 1, false)], seen := 6, reached := true, freq := 0 } } }
def learnS (c : Bool) : State := putObj 0x6020 1 1 { runQ with arb := { runQ.arb with reqs := runQ.arb.reqs.set 3 { runQ.arb.reqs[3] with requesting := true } }, gr := runQ.gr.map fun (x : Group) => { x with pos := { x.pos with src := 1 }, atlas := { x.atlas with copying := c, run := some lrun } }, br := runQ.br.map fun (x : Bridge) => { x with ctl := { x.ctl with share := 1 } }, sense := { runQ.sense with iface := runQ.sense.iface.map fun (i : Iface) => { i with valid := true, referenced := true } } }
def pr (f : Pair → Pair) (s : State) : State := { s with pairs := s.pairs.set 0 (f s.pairs[0]) }
def l4 : State := { runQ with cont := { runQ.cont with coil := #v[true, true, false], mirrorOpen := #v[false, false, true] } }
def ascS : State := { quad with br := quad.br.map fun (x : Bridge) => { x with state := .safeAsc, force := { x.force with pattern := 2, sources := [(.cloveRequest, 3)] }, pos := x.pos.map fun (p : Position) => { p with railReady := true, linkValid := true, partnerKnown := true } } }
def up : State := { quad with net := { quad.net with port := quad.net.port.map fun (p : Port) => { p with up := true } } }
def slp : State := putObj 0x9030 1 1 up
def rnd : State := { quad with sense := { quad.sense with roundRunning := true } }
def inOk (s : State) : State := { s with sense := { s.sense with inputs := s.sense.inputs.map fun (i : Input) => { i with valid := true } } }
def timed : State := { quad with time := { quad.time with use := 1, dom := quad.time.dom.map fun (d : Domain) => { d with valid := true, everUsed := true, lastSync := some 0, grandmaster := some ⟨1, 6, 0x20, 0x4E5D, 1, 9⟩ } } }
def P : Partner := ⟨77, 3, [], 0⟩
def par : State := putObj 0x7060 1 5 { timed with place := { timed.place with partners := [P] }, net := up.net }
def ann : Announcement := { version := 1, serial := 99, dcLink := 5, rank := 1, domain := 1, bridges := [⟨1, 5, 6, 7⟩] }
def sch : OffsetSchedule := { version := 1, leader := 77, dcLink := 5, time := 1000, entries := [{ serial := Config.serial, bridge := 2, offset := 9 }] }

theorem has_StartEndsAndSafeChanges_1 :
    ∃ (s : State) (b : BridgeId),
      (∀ (g : GroupId), s.gr[g].atlas.ident = none) ∧ (s.br[b].ctl.rampDown.isSome = true) ∧ (2 ≤ (↑(s.safeChoice b) : ℕ)) ∧ (s.br[b].force.sources = []) ∧ (s.br[b].force.pattern = 0) :=
  ⟨rampA, 1, by decide +kernel⟩

theorem has_StartEndsAndSafeChanges_3_0 :
    ∃ (s : State) (b : BridgeId) (g : GroupId) (freq : ℕ),
      (∀ (g : GroupId), s.gr[g].atlas.ident = none) ∧ (s.groupOf b = some g) ∧ (s.inAsc b = true) ∧ (s.ascExit g freq = true) ∧ (s.br[b].force.sources ≠ []) ∧ (s.br[b].state = BrState.safeAsc) ∧ (s.br[b].start.phase = 0) :=
  ⟨(exitS 0), 1, 1, 0, by decide +kernel⟩

theorem has_StartEndsAndSafeChanges_3_1 :
    ∃ (s : State) (b : BridgeId) (g : GroupId) (freq : ℕ),
      (∀ (g : GroupId), s.gr[g].atlas.ident = none) ∧ (s.groupOf b = some g) ∧ (s.inAsc b = true) ∧ (s.ascExit g freq = true) ∧ (s.br[b].force.sources ≠ []) ∧ (s.br[b].state = BrState.safeAsc) ∧ (s.br[b].start.phase = 7) :=
  ⟨(exitS 7), 1, 1, 0, by decide +kernel⟩

theorem has_MonitorBrakeAndWindowRows_0_1 :
    ∃ (s : State) (b : BridgeId) (g : GroupId),
      (s.groupOf b = some g) ∧ (s.br[b].state = BrState.run) ∧ (s.canRun s.br[b].monPair = true) ∧ (s.br[b].meas.stale = false) ∧ (s.br[b].meas.mode ≠ 2) ∧ (s.test.inject = []) ∧ (s.coresOn = true) ∧ (s.runFails b g = true) ∧ (s.br[b].ctl.monFails + 1 < s.actN 32880 5) :=
  ⟨mon, 1, 1, by decide +kernel⟩

theorem has_AtlasCellAndCheckpointRows_0_0 :
    ∃ (s : State) (g : GroupId) (cell : ℕ) (r : AtlasRec),
      (s.engineOn = true) ∧ (s.mem.bad.contains (cellAddr g cell) = true) ∧ (s.gr[g].atlas.record = some r) ∧ (s.mem.unreadable (atlasSlotAddr g (r.slot % 2) + 8 * (cell % 33554432)) 8 = false) ∧ (s.mem.wf = true) :=
  ⟨badC, 1, 9, (⟨1, 5, 1, 0⟩), by decide +kernel⟩

theorem has_AtlasCellAndCheckpointRows_0_1 :
    ∃ (s : State) (g : GroupId) (cell : ℕ),
      (s.mem.bad.contains (cellAddr g cell) = false) :=
  ⟨quad, 1, 9, by decide +kernel⟩

theorem has_AtlasCellAndCheckpointRows_0_2 :
    ∃ (s : State) (g : GroupId) (cell : ℕ) (steps : ℕ) (residual : ℕ) (loss : ℕ) (pd : ℤ) (pq : ℤ) (tq : ℤ),
      (s.mayLearn g = false ∨ s.learnGranted = false ∨ Option.any (fun (r : LearnRun) => s.reports g r cell steps residual pd pq tq loss) s.gr[g].atlas.run = false) :=
  ⟨quad, 1, 7, 9, 0, 900, 1, 2, 3, by decide +kernel⟩

theorem has_AtlasCellAndCheckpointRows_0_2_a :
    ∃ (s : State) (g : GroupId) (cell : ℕ) (steps : ℕ) (residual : ℕ) (loss : ℕ) (pd : ℤ) (pq : ℤ) (tq : ℤ),
      (s.mayLearn g = false ∨ s.learnGranted = false ∨ Option.any (fun (r : LearnRun) => s.reports g r cell steps residual pd pq tq loss) s.gr[g].atlas.run = false) :=
  ⟨(learnS true), 0, lrun.cell, 7, 0, 900, 1, 2, 3, by decide +kernel⟩

theorem has_AtlasCellAndCheckpointRows_0_3 :
    ∃ (s : State) (g : GroupId),
      (s.coresOn = true) ∧ (s.gr[g].atlas.mtpaDue = true) :=
  ⟨({ quad with gr := quad.gr.map fun (x : Group) => { x with atlas := { x.atlas with mtpaDue := true } } }), 1, by decide +kernel⟩

theorem has_AtlasCellAndCheckpointRows_1_0_0 :
    ∃ (s : State) (g : GroupId),
      (s.engineOn = true) ∧ (s.drive.sleepStep = 0) ∧ (s.gr[g].atlas.ident = none) ∧ (s.gr[g].atlas.copying = true) ∧ (s.mem.journal.halves[s.mem.journal.half].length < halfRecords) :=
  ⟨(cop id quad), 1, by decide +kernel⟩

theorem has_AtlasCellAndCheckpointRows_1_0_1 :
    ∃ (s : State) (g : GroupId),
      (s.engineOn = true) ∧ (s.drive.sleepStep = 0) ∧ (s.gr[g].atlas.ident = none) ∧ (s.gr[g].atlas.copying = true) :=
  ⟨(cop id quad), 1, by decide +kernel⟩

theorem has_AtlasCellAndCheckpointRows_1_1 :
    ∃ (s : State) (g : GroupId),
      (s.gr[g].atlas.ident = none) :=
  ⟨quad, 1, by decide +kernel⟩

theorem has_AtlasCellAndCheckpointRows_1_2 :
    ∃ (s : State) (g : GroupId) (held : Bool) (high : Bool),
      (s.coresOn = true) ∧ (s.gr[g].atlas.ident = some (3, held, high)) :=
  ⟨(idn 3 runQ), 1, true, false, by decide +kernel⟩

theorem has_AtlasCellAndCheckpointRows_1_3_0 :
    ∃ (s : State) (g : GroupId) (k : ℕ) (held : Bool) (high : Bool),
      (s.coresOn = true) ∧ (s.gr[g].atlas.ident = some (k, held, high)) ∧ (1 ≤ k) ∧ (k ≤ 3) :=
  ⟨(idn 2 { runQ with mem := badC.mem }), 1, 2, true, false, by decide +kernel⟩

theorem has_AtlasCellAndCheckpointRows_1_3_1 :
    ∃ (s : State) (g : GroupId) (k : ℕ) (held : Bool) (high : Bool),
      (s.coresOn = true) ∧ (s.gr[g].atlas.ident = some (k, held, high)) ∧ (1 ≤ k) ∧ (4 ≤ k) ∧ (k ≤ 8) :=
  ⟨(idn 8 runQ), 1, 8, true, false, by decide +kernel⟩

theorem has_AtlasCellAndCheckpointRows_1_4_0 :
    ∃ (s : State) (g : GroupId) (r : LearnRun) (ce : ℕ) (w : Word),
      (s.engineOn = true) ∧ (s.gr[g].atlas.run = some r) ∧ (s.mayLearn g = true) ∧ (s.learnGranted = true) ∧ (s.actN 24608 7 ≤ r.steps) ∧ (r.cell < 33554432) ∧ (s.estimateConf g r.steps r.residual = some ce) ∧ (w = s.estimate g r ce) ∧ (s.judgeEstimate ce w (s.cell g r.cell) = 0) ∧ (s.gr[g].atlas.copying = true ∨ s.gr[g].atlas.buffer ≠ []) ∧ (s.gr[g].atlas.buffer.length < 4096) :=
  ⟨(learnS true), 0, lrun, 11, (learnS true).estimate 0 lrun 11, by decide +kernel⟩

theorem has_AtlasCellAndCheckpointRows_1_4_1 :
    ∃ (s : State) (g : GroupId) (r : LearnRun) (ce : ℕ) (w : Word),
      (s.engineOn = true) ∧ (s.gr[g].atlas.run = some r) ∧ (s.mayLearn g = true) ∧ (s.learnGranted = true) ∧ (s.actN 24608 7 ≤ r.steps) ∧ (r.cell < 33554432) ∧ (s.estimateConf g r.steps r.residual = some ce) ∧ (w = s.estimate g r ce) ∧ (s.judgeEstimate ce w (s.cell g r.cell) = 0) ∧ (s.gr[g].atlas.copying = false) ∧ (s.gr[g].atlas.buffer = []) ∧ (s.mem.wf = true) :=
  ⟨(learnS false), 0, lrun, 11, (learnS false).estimate 0 lrun 11, by decide +kernel⟩

theorem has_AcquisitionRows_0 :
    ∃ (s : State) (g : GroupId),
      (s.gr[g].reacq.phase ≠ 1) :=
  ⟨quad, 1, by decide +kernel⟩

theorem has_AcquisitionRows_1 :
    ∃ (s : State) (g : GroupId),
      (s.gr[g].reacq.phase = 1) :=
  ⟨(rq 1 false quad), 1, by decide +kernel⟩

theorem has_AcquisitionRows_2_0 :
    ∃ (s : State) (g : GroupId),
      (s.gr[g].reacq.phase = 2) ∧ (s.estimatesAgree ((s.windowOver g).acquired g).estimates = false) :=
  ⟨(rq 2 false quad), 1, by decide +kernel⟩

theorem has_AcquisitionRows_2_1 :
    ∃ (s : State) (g : GroupId),
      (s.gr[g].reacq.phase = 2) ∧ (s.estimatesAgree ((s.windowOver g).acquired g).estimates = true) :=
  ⟨(crossed (rq 2 false quad)), 1, by decide +kernel⟩

theorem has_AcquisitionRows_3 :
    ∃ (s : State) (g : GroupId) (es : List ℕ) (f : ℤ),
      (s.gr[g].reacq.phase ≠ 2 ∨ es ≠ ((s.windowOver g).acquired g).estimates ∨ f ≠ ((s.windowOver g).acquired g).freq) :=
  ⟨quad, 1, [5], 7, by decide +kernel⟩

theorem has_AcquisitionRows_3_a :
    ∃ (s : State) (g : GroupId) (es : List ℕ) (f : ℤ),
      (s.gr[g].reacq.phase ≠ 2 ∨ es ≠ ((s.windowOver g).acquired g).estimates ∨ f ≠ ((s.windowOver g).acquired g).freq) :=
  ⟨(crossed (rq 2 false quad)), 1, [5], 7, by decide +kernel⟩

theorem has_AcquisitionRows_4 :
    ∃ (s : State) (g : GroupId),
      (s.gr[g].reacq.phase = 4) ∧ (s.gr[g].reacq.isCatch = false) :=
  ⟨(rq 4 false quad), 1, by decide +kernel⟩

theorem has_AcquisitionRows_5 :
    ∃ (s : State) (g : GroupId),
      (s.gr[g].reacq.phase = 2) ∧ (s.gr[g].reacq.isCatch = false) ∧ (s.gr[g].reacq.failures = []) ∧ (2 ≤ s.actN 24625 6) :=
  ⟨(rq 2 false quad), 1, by decide +kernel⟩

theorem has_PairFaultRows_0 :
    ∃ (s : State) (p : PairId) (c : Instr),
      (s.pairs[p].state = PairState.lockstep ∨ s.pairs[p].state = PairState.cache) ∧ (s.inLock (otherPair p) = true) ∧ (s.drive.splitRef = none) ∧ (s.pairs[p].faults = []) ∧ (2 ≤ s.actN 33058 1) ∧ ((∃ (grp : Fin 6), c = Instr.lockstepMismatch p grp) ∨ ∃ (core : Fin 2), c = Instr.pairWatchdogExpiry p core) :=
  ⟨runQ, 0, (.lockstepMismatch 0 3), by decide +kernel⟩

theorem has_PairFaultRows_0_a :
    ∃ (s : State) (p : PairId) (c : Instr),
      (s.pairs[p].state = PairState.lockstep ∨ s.pairs[p].state = PairState.cache) ∧ (s.inLock (otherPair p) = true) ∧ (s.drive.splitRef = none) ∧ (s.pairs[p].faults = []) ∧ (2 ≤ s.actN 33058 1) ∧ ((∃ (grp : Fin 6), c = Instr.lockstepMismatch p grp) ∨ ∃ (core : Fin 2), c = Instr.pairWatchdogExpiry p core) :=
  ⟨runQ, 0, (.pairWatchdogExpiry 0 1), by decide +kernel⟩

theorem has_PairFaultRows_1 :
    ∃ (s : State) (p : PairId) (w : Fin 16),
      ((↑w : ℕ) = (↑p : ℕ)) ∧ (s.pairs[p].state = PairState.lockstep) ∧ (s.anyRun = false) :=
  ⟨quad, 1, 1, by decide +kernel⟩

theorem has_PairFaultRows_2 :
    ∃ (s : State) (p : PairId),
      (s.pairs[p].state = PairState.recovering) ∧ (s.pairs[p].held = true) ∧ (s.pairs[p].debugger = false) ∧ (s.pairs[p].failed = false) :=
  ⟨(pr (fun p => { p with state := .recovering, held := true }) quad), 0, by decide +kernel⟩

theorem has_PairFaultRows_3 :
    ∃ (s : State) (p : PairId),
      (s.pairs[p].state = PairState.recovering) ∧ (s.pairs[p].debugger = false) ∧ (s.pairs[p].failed = false) ∧ (s.drive.rejoinRef = none) ∧ (s.boot.booting = false) :=
  ⟨(pr (fun p => { p with state := .recovering, held := true }) quad), 0, by decide +kernel⟩

theorem has_PairFaultRows_3_a :
    ∃ (s : State) (p : PairId),
      (s.pairs[p].state = PairState.recovering) ∧ (s.pairs[p].debugger = false) ∧ (s.pairs[p].failed = false) ∧ (s.drive.rejoinRef = none) ∧ (s.boot.booting = false) :=
  ⟨(pr (fun p => { p with state := .recovering, held := true }) quad), 0, by decide +kernel⟩

theorem has_PairFaultRows_4 :
    ∃ (s : State) (p : PairId),
      (s.pairs[p].state = PairState.split) ∧ (s.pairs[p].cores = Vector.replicate 2 true) ∧ (s.pairs[p].faults = []) ∧ (2 ≤ s.actN 33058 1) :=
  ⟨(pr (fun p => { p with state := .split, cores := .replicate 2 true }) quad), 0, by decide +kernel⟩

theorem has_CloveAndDebugRows_0_0 :
    ∃ (s : State) (p : PairId),
      (s.pairs[p].state = PairState.lockstep) ∧ (s.inLock (otherPair p) = true) ∧ (s.drive.splitRef = none) ∧ (s.drive.udc ≤ s.actR 33040 1) :=
  ⟨quad, 0, by decide +kernel⟩

theorem has_CloveAndDebugRows_0_1 :
    ∃ (s : State) (p : PairId),
      (s.pairs[p].debugger = true) ∧ (s.pairs[p].state = PairState.debug) :=
  ⟨(pr (fun p => { p with state := .debug, debugger := true, held := true }) quad), 0, by decide +kernel⟩

theorem has_CloveAndDebugRows_0_2 :
    ∃ (s : State) (u : ℕ),
      (s.unforced = true) ∧ (∃ (p : PairId), s.pairs[p].debugger = true) ∧ (s.actN 33040 1 < u) ∧ (s.drive.state = DriveState.run) ∧ (s.cont.coil[1] = true) ∧ (s.cont.opening ≠ 2) :=
  ⟨(pr (fun p => { p with debugger := true }) l4), 60000, by decide +kernel⟩

theorem has_CloveAndDebugRows_0_3 :
    ∃ (s : State),
      (s.clove.testRun = true) ∧ (s.boot.booting = false) :=
  ⟨({ quad with clove := { quad.clove with testRun := true } }), by decide +kernel⟩

theorem has_CloveAndDebugRows_0_3_a :
    ∃ (s : State),
      (s.clove.testRun = true) ∧ (s.boot.booting = false) :=
  ⟨({ quad with clove := { quad.clove with testRun := true } }), by decide +kernel⟩

theorem has_CloveAndDebugRows_0_4 :
    ∃ (s : State) (age : ℕ),
      (age = if s.clove.testAge < s.actN 33028 3 then s.actN 33028 3 else s.clove.testAge + 1) :=
  ⟨quad, (quad.actN 0x8104 3), by decide +kernel⟩

theorem has_CloveAndDebugRows_0_5 :
    ∃ (s : State) (l : LegId) (b : BridgeId),
      (brOfLeg l = b) ∧ (s.br[b].force.ascTo = none) ∧ (s.br[b].state ≠ BrState.lockout) ∧ (s.br[b].force.pattern = 2 ∨ s.br[b].force.pattern = 3) :=
  ⟨ascS, 4, 1, by decide +kernel⟩

theorem has_SupplyRows_0 :
    ∃ (s : State) (p : PortId) (c : Instr) (port : Bool) (aux : Bool),
      (s.cont.active = false) ∧ (c = Instr.portPowerLoss p ∧ s.pwr.delivering[p] = true ∧ port = false ∧ aux = s.pwr.aux ∨ c = Instr.portPowerRestore p ∧ s.pwr.delivering[p] = false ∧ port = true ∧ aux = s.pwr.aux ∨ c = Instr.auxConverterStart ∧ s.pwr.aux = false ∧ port = s.pwr.delivering[p] ∧ aux = true ∨ c = Instr.auxConverterStop ∧ s.pwr.aux = true ∧ port = s.pwr.delivering[p] ∧ aux = false) :=
  ⟨({ quad with pwr := { quad.pwr with delivering := .replicate 2 true } }), 0, (.portPowerLoss 0), false, true, by decide +kernel⟩

theorem has_SupplyRows_3 :
    ∃ (s : State),
      (s.pwr.pll[2] = true) :=
  ⟨quad, by decide +kernel⟩

theorem has_SupplyRows_4 :
    ∃ (s : State),
      (s.pwr.domains[2] = true) :=
  ⟨quad, by decide +kernel⟩

theorem has_StopRows_0 :
    ∃ (s : State) (c : Instr) (src : ℕ),
      (∀ (b : BridgeId), s.starting b = false) ∧ (∀ (g : GroupId), s.gr[g].ss1 = none ∧ s.gr[g].atlas.ident = none) ∧ (c = Instr.inputOverBudget ∧ src = 13 ∨ c = Instr.dieCritical ∧ src = 12 ∧ s.die.hot.isSome = true ∧ s.die.stopped = false) :=
  ⟨runQ, .inputOverBudget, 13, by decide +kernel⟩

theorem has_StopRows_0_a :
    ∃ (s : State) (c : Instr) (src : ℕ),
      (∀ (b : BridgeId), s.starting b = false) ∧ (∀ (g : GroupId), s.gr[g].ss1 = none ∧ s.gr[g].atlas.ident = none) ∧ (c = Instr.inputOverBudget ∧ src = 13 ∨ c = Instr.dieCritical ∧ src = 12 ∧ s.die.hot.isSome = true ∧ s.die.stopped = false) :=
  ⟨({ runQ with die := { runQ.die with hot := some 3 } }), .dieCritical, 12, by decide +kernel⟩

theorem has_SleepRows_0_0 :
    ∃ (s : State) (c : Instr),
      (c = Instr.sleepQueueWaitExpiry ∧ s.drive.sleepStep = 2 ∧ s.drive.state = DriveState.standby ∨ c = Instr.busSupplyLost ∧ s.unforced = true ∧ s.busSource = true ∧ s.drive.state ≠ DriveState.sleep) :=
  ⟨({ quad with drive := { quad.drive with sleepStep := 2 } }), .sleepQueueWaitExpiry, by decide +kernel⟩

theorem has_SleepRows_0_0_a :
    ∃ (s : State) (c : Instr),
      (c = Instr.sleepQueueWaitExpiry ∧ s.drive.sleepStep = 2 ∧ s.drive.state = DriveState.standby ∨ c = Instr.busSupplyLost ∧ s.unforced = true ∧ s.busSource = true ∧ s.drive.state ≠ DriveState.sleep) :=
  ⟨runQ, .busSupplyLost, by decide +kernel⟩

theorem has_SleepRows_0_1 :
    ∃ (s : State) (p : PortId),
      (s.net.port[p].up = true) ∧ (s.drive.sleepStep = 0) ∧ (s.sleepAllowed = true) ∧ (s.sleepDelayed = false) :=
  ⟨slp, 1, by decide +kernel⟩

theorem has_ThermalRows_0 :
    ∃ (s : State),
      (s.coresOn = true) ∧ (s.unforced = true) :=
  ⟨runQ, by decide +kernel⟩

theorem has_ThermalRows_1 :
    ∃ (s : State) (b : BridgeId),
      (s.br[b].th.late = false) :=
  ⟨quad, 1, by decide +kernel⟩

theorem has_RoundAndTimeoutRows_0 :
    ∃ (s : State),
      (s.pulseOn = true) ∧ (s.sense.roundRunning = false) ∧ (s.drive.state ≠ DriveState.sleep) ∧ (∀ (i : Fin 4), s.sense.inputs[digitalInput i].valid = true) :=
  ⟨quad, by decide +kernel⟩

theorem has_RoundAndTimeoutRows_1 :
    ∃ (s : State),
      (s.pulseOn = true) ∧ (s.sense.roundRunning = true) :=
  ⟨rnd, by decide +kernel⟩

theorem has_RoundAndTimeoutRows_1_a :
    ∃ (s : State),
      (s.pulseOn = true) ∧ (s.sense.roundRunning = true) :=
  ⟨({ rnd with sense := { rnd.sense with discardRound := true } }), by decide +kernel⟩

theorem has_RoundAndTimeoutRows_2 :
    ∃ (s : State),
      (s.sense.roundRunning = true) ∧ (∀ (n : Fin 32), s.actN (16640 + (↑(hkInput n) : ℕ)) 9 = 0) :=
  ⟨(List.range 84).foldl (fun a n => putObj (0x4100 + n) 9 0 a) rnd, by decide +kernel⟩

theorem has_RoundAndTimeoutRows_3 :
    ∃ (s : State) (c : Instr) (n : Fin 84),
      (s.sense.inputs[n].valid = true) ∧ ((∃ (g : GroupId), c = Instr.messageInputTimeout g ∧ n = messageInput g ∧ s.running g ≠ [] ∧ s.actN (16720 + (↑g : ℕ)) 9 ≠ 0) ∨ ∃ (i : Fin 4), c = Instr.digitalInputTimeout i ∧ n = digitalInput i ∧ (s.digitalDue i).isSome = true) :=
  ⟨(putObj 0x4151 9 100 (inOk runQ)), (.messageInputTimeout 1), (messageInput 1), by decide +kernel⟩

end Sys2Proof.Tests.Faults
end

