-- ==== Sys2Proof/Tests/Links.lean ====
section
/-! SUPPORT. States and operands that meet the premises of the statements on the arbiter, the network, time, CAN, resets and the boot: `has_X_i_j` is for clause i, j of X. -/

namespace Sys2Proof.Tests.Links
open Sys2Proof Sys2Proof.Machine
set_option Elab.async false

def one : State := putObj 0x1100 1 3 { runQ with drive := { runQ.drive with hbMissed := 4, hbAt := 1000 } }
def idn (k : Nat) (s : State) : State := { s with gr := s.gr.map fun (x : Group) => { x with atlas := { x.atlas with ident := some (k, true, false) } } }
def nodel : State := { quad with pwr := { quad.pwr with delivering := #v[false, true], aux := false } }
def burst (r : Fin 8) (w : Bool) (addr : Nat) : Vector (List Burst) 8 := (Vector.replicate 8 []).set r [{ kind := .data, write := w, addr := addr, words := [7], count := 1, first := 1, stall := 0, flips1 := [], flips2 := [] }]
def B (w : Bool) (addr : Nat) : Burst := { kind := .data, write := w, addr := addr, words := [7], count := 1, first := 1, stall := 0, flips1 := [], flips2 := [] }
def tab (r : Nat) : State := { quad with arb := { quad.arb with table := .replicate 64 r } }
def cm : State := { quad with par := { quad.par with commit := some ⟨⟨2, 8, 0x403⟩, 4, []⟩ } }
def up : State := { quad with net := { quad.net with port := quad.net.port.map fun (p : Port) => { p with up := true } } }
def tst : State := { quad with net := { quad.net with port := quad.net.port.map fun (p : Port) => { p with testing := true } } }
def frm (dst : BitVec 48) : EthFrame := { kind := .other, dst := dst, src := 0x0A0000000001#48, length := 100, secured := false, icvGood := false, roomAhead := true }
def tlv : PartnerTlv := { dcLink := 5, rank := 1, serial := 99, domain := 1, hops := 3 }
def timed : State := { quad with time := { quad.time with use := 1, dom := quad.time.dom.map fun (d : Domain) => { d with valid := true, everUsed := true, lastSync := some 0, grandmaster := some ⟨1, 6, 0x20, 0x4E5D, 1, 9⟩ } } }
def P : Partner := ⟨77, 3, [], 0⟩
def par : State := putObj 0x7060 1 5 { timed with place := { timed.place with partners := [P] }, net := up.net }
def ann : Announcement := { version := 1, serial := 99, dcLink := 5, rank := 1, domain := 1, bridges := [⟨1, 5, 6, 7⟩] }
def sch : OffsetSchedule := { version := 1, leader := 77, dcLink := 5, time := 1000, entries := [{ serial := Config.serial, bridge := 2, offset := 9 }] }
def can : State := putObj 0xB000 1 1 (putObj 0xB001 1 1 quad)
def cf (remote : Bool) : CanFrame := { ident := 5, extended := true, fd := false, brs := false, remote := remote, data := [1, 2] }
def canh : State := (List.range 16).foldl (fun a k => putObj 0xB010 (k + 1) 1 a) can
def cf0 : CanFrame := { cf false with ident := 0 }
def setCan (f : Can → Can) (s : State) : State := { s with can := s.can.map f }
def snd1 : CanSend := ⟨4, [1,2], 1, true, 0, 0, false⟩
def wk (w : Bool) : State := putObj 0x9030 1 0x7F { quad with pwr := { quad.pwr with waking := w } }
def bt : State := { quad with boot := { quad.boot with booting := true, testDue := false } }
def due : State := { quad with boot := { quad.boot with booting := true, testDue := true, cloveReset := true } }
def pw (d : Vector Bool 8) (p : Vector Bool 3) (s : State) : State := { s with pwr := { s.pwr with domains := d, pll := p } }
def uncf : State := { quad with boot := { quad.boot with standbyAt := some 3, confirmed := false, trial := 2 } }
def lone : State := { par with place := { par.place with partners := [] } }
def known : State := { par with place := { par.place with partners := [⟨Config.serial + 1, 4, [], 0⟩, P] } }
theorem lone_ok : lone.partnerOk (Config.serial + 1) 5 (lone.actN 0xA100 1) = true := by
  have h : ((Config.serial + 1) != Config.serial) = true := by simp
  rw [State.partnerOk, h]
  decide +kernel
theorem known_ok : known.partnerOk (Config.serial + 1) 5 (known.actN 0xA100 1) = true := by
  have h : ((Config.serial + 1) != Config.serial) = true := by simp
  rw [State.partnerOk, h]
  decide +kernel
def filt (s : State) : State := putObj 0xB100 4 2 (putObj 0xB100 3 1 s)

theorem has_StopRows_1_0 :
    ∃ (s : State) (g : GroupId) (c : Instr) (src : ℕ),
      (s.running g ≠ []) ∧ (s.gr[g].ss1 = none) ∧ (s.gr[g].atlas.ident = none) ∧ (c = Instr.slsViolation g ∧ s.gr[g].slsOver.isSome = true ∧ s.actN 32817 ((↑g : ℕ) + 2) ≠ 1 ∧ src = 5 ∨ c = Instr.slpViolation g ∧ s.gr[g].slpOver.isSome = true ∧ s.actN 32817 ((↑g : ℕ) + 10) ≠ 1 ∧ src = 7 ∨ (∃ (w : Fin 16), c = Instr.sumacWindowExpiry w ∧ s.clove.windows[w].opened.isSome = true ∧ (w = shuntWindow g ∨ w = sensorlessWindow g) ∧ src = 4) ∨ ∃ (t0 : ℕ), c = Instr.heartbeatMissed t0 ∧ t0 < s.drive.hbAt + 2 * ticksPerMs ∧ s.drive.hbMissed + 1 = s.actN 28704 1 ∧ src = 2 ∧ (∀ (k : GroupId), k ≠ g → s.bridgesOf k = []) ∧ s.actN 28704 ((↑g : ℕ) + 2) = 1 ∧ ∀ b ∈ s.bridgesOf g, s.starting b = false) :=
  ⟨({ one with drive := { one.drive with hbAt := 10 } }), 0, (.heartbeatMissed 100), 2, by refine ⟨?_, ?_, ?_, .inr (.inr (.inr (⟨100, by decide +kernel⟩)))⟩ <;> decide +kernel⟩

theorem has_AtlasCellAndCheckpointRows_1_3_0 :
    ∃ (s : State) (g : GroupId) (k : ℕ) (held : Bool) (high : Bool),
      (s.coresOn = true) ∧ (s.gr[g].atlas.ident = some (k, held, high)) ∧ (1 ≤ k) ∧ (k ≤ 3) :=
  ⟨(idn 2 { runQ with mem := { runQ.mem with dram := [(0x10000003, 7), (0x20000000, 9)] } }), 1, 2, true, false, by decide +kernel⟩

theorem has_SupplyRows_0 :
    ∃ (s : State) (p : PortId) (c : Instr) (port : Bool) (aux : Bool),
      (s.cont.active = false) ∧ (c = Instr.portPowerLoss p ∧ s.pwr.delivering[p] = true ∧ port = false ∧ aux = s.pwr.aux ∨ c = Instr.portPowerRestore p ∧ s.pwr.delivering[p] = false ∧ port = true ∧ aux = s.pwr.aux ∨ c = Instr.auxConverterStart ∧ s.pwr.aux = false ∧ port = s.pwr.delivering[p] ∧ aux = true ∨ c = Instr.auxConverterStop ∧ s.pwr.aux = true ∧ port = s.pwr.delivering[p] ∧ aux = false) :=
  ⟨nodel, 0, (.portPowerRestore 0), true, false, by decide +kernel⟩

theorem has_SupplyRows_0_a :
    ∃ (s : State) (p : PortId) (c : Instr) (port : Bool) (aux : Bool),
      (s.cont.active = false) ∧ (c = Instr.portPowerLoss p ∧ s.pwr.delivering[p] = true ∧ port = false ∧ aux = s.pwr.aux ∨ c = Instr.portPowerRestore p ∧ s.pwr.delivering[p] = false ∧ port = true ∧ aux = s.pwr.aux ∨ c = Instr.auxConverterStart ∧ s.pwr.aux = false ∧ port = s.pwr.delivering[p] ∧ aux = true ∨ c = Instr.auxConverterStop ∧ s.pwr.aux = true ∧ port = s.pwr.delivering[p] ∧ aux = false) :=
  ⟨nodel, 0, .auxConverterStart, false, true, by decide +kernel⟩

theorem has_SupplyRows_0_b :
    ∃ (s : State) (p : PortId) (c : Instr) (port : Bool) (aux : Bool),
      (s.cont.active = false) ∧ (c = Instr.portPowerLoss p ∧ s.pwr.delivering[p] = true ∧ port = false ∧ aux = s.pwr.aux ∨ c = Instr.portPowerRestore p ∧ s.pwr.delivering[p] = false ∧ port = true ∧ aux = s.pwr.aux ∨ c = Instr.auxConverterStart ∧ s.pwr.aux = false ∧ port = s.pwr.delivering[p] ∧ aux = true ∨ c = Instr.auxConverterStop ∧ s.pwr.aux = true ∧ port = s.pwr.delivering[p] ∧ aux = false) :=
  ⟨({ nodel with pwr := { nodel.pwr with aux := true } }), 0, .auxConverterStop, false, false, by decide +kernel⟩

theorem has_ArbiterRows_0 :
    ∃ (s : State) (reqs : Vector (List Burst) 8) (r : Fin 8) (u : Burst),
      (s.engineOn = true) ∧ (s.arb.burst = none) ∧ (s.arb.refresh = false) ∧ (s.arb.table.toList.getD s.arb.slot 255 = (↑r : ℕ)) ∧ (reqs[r] = [u]) ∧ (u.write = true) ∧ (u.count = 1) ∧ (u.stall = 0) ∧ (r = 3 → s.die.level < 2 ∧ ∀ (g : GroupId), s.gr[g].atlas.buffer = []) ∧ (r = 4 → s.dmaRests = false) ∧ (r = 7 → u.kind ≠ BurstKind.scrub) :=
  ⟨(tab 0), (burst 0 true 9), 0, (B true 9), by decide +kernel⟩

theorem has_ArbiterRows_0_a :
    ∃ (s : State) (reqs : Vector (List Burst) 8) (r : Fin 8) (u : Burst),
      (s.engineOn = true) ∧ (s.arb.burst = none) ∧ (s.arb.refresh = false) ∧ (s.arb.table.toList.getD s.arb.slot 255 = (↑r : ℕ)) ∧ (reqs[r] = [u]) ∧ (u.write = true) ∧ (u.count = 1) ∧ (u.stall = 0) ∧ (r = 3 → s.die.level < 2 ∧ ∀ (g : GroupId), s.gr[g].atlas.buffer = []) ∧ (r = 4 → s.dmaRests = false) ∧ (r = 7 → u.kind ≠ BurstKind.scrub) :=
  ⟨(tab 6), (burst 6 true 9), 6, (B true 9), by decide +kernel⟩

theorem has_ArbiterRows_1 :
    ∃ (s : State) (reqs : Vector (List Burst) 8),
      (s.engineOn = true) ∧ (s.arb.burst = none) ∧ (∀ (r : Fin 8), reqs[r] = []) :=
  ⟨quad, (.replicate 8 []), by decide +kernel⟩

theorem has_ArbiterRows_1_a :
    ∃ (s : State) (reqs : Vector (List Burst) 8),
      (s.engineOn = true) ∧ (s.arb.burst = none) ∧ (∀ (r : Fin 8), reqs[r] = []) :=
  ⟨({ quad with arb := { quad.arb with refresh := true } }), (.replicate 8 []), by decide +kernel⟩

theorem has_ArbiterRows_3 :
    ∃ (s : State),
      (s.engineOn = true) :=
  ⟨quad, by decide +kernel⟩

theorem has_ArbiterRows_4 :
    ∃ (s : State),
      (s.engineOn = true) :=
  ⟨quad, by decide +kernel⟩

theorem has_ArbiterRows_4_a :
    ∃ (s : State),
      (s.engineOn = true) :=
  ⟨quad, by decide +kernel⟩

theorem has_ArbiterRows_4_b :
    ∃ (s : State),
      (s.engineOn = true) :=
  ⟨quad, by decide +kernel⟩

theorem has_ArbiterRows_4_c :
    ∃ (s : State),
      (s.engineOn = true) :=
  ⟨quad, by decide +kernel⟩

theorem has_ArbiterRows_5 :
    ∃ (s : State) (w : CommitRun),
      (s.engineOn = true) ∧ (s.par.commit = some w) :=
  ⟨cm, (⟨⟨2, 8, 0x403⟩, 4, []⟩), by decide +kernel⟩

theorem has_ArbiterRows_6 :
    ∃ (s : State) (w : CommitRun),
      (s.engineOn = true) ∧ (s.par.commit = some w) :=
  ⟨cm, (⟨⟨2, 8, 0x403⟩, 4, []⟩), by decide +kernel⟩

theorem has_NetworkRows_0_0 :
    ∃ (s : State) (p : PortId) (gigabit : Bool) (master : Bool),
      (s.net.port[p].up = false) ∧ (s.netRuns = true) ∧ (s.linkAllowed p gigabit master = true) ∧ (s.net.port[p].testing = false) :=
  ⟨quad, 1, true, true, by decide +kernel⟩

theorem has_NetworkRows_0_0_a :
    ∃ (s : State) (p : PortId) (gigabit : Bool) (master : Bool),
      (s.net.port[p].up = false) ∧ (s.netRuns = true) ∧ (s.linkAllowed p gigabit master = true) ∧ (s.net.port[p].testing = false) :=
  ⟨(modPort 0 (fun y => { y with fallback := true }) quad), 0, false, true, by decide +kernel⟩

theorem has_NetworkRows_0_1 :
    ∃ (s : State) (p : PortId),
      (s.net.port[p].up = true) :=
  ⟨up, 1, by decide +kernel⟩

theorem has_NetworkRows_0_2 :
    ∃ (s : State) (p : PortId),
      (s.net.port[p].up = false) ∧ (s.netRuns = true) ∧ (s.portOn p = true) :=
  ⟨quad, 1, by decide +kernel⟩

theorem has_NetworkRows_0_2_a :
    ∃ (s : State) (p : PortId),
      (s.net.port[p].up = false) ∧ (s.netRuns = true) ∧ (s.portOn p = true) :=
  ⟨quad, 1, by decide +kernel⟩

theorem has_NetworkRows_0_3 :
    ∃ (s : State) (p : PortId),
      (s.pwr.domains[6] = true) ∧ (s.portOn p = true) ∧ (s.net.port[p].up = false) :=
  ⟨quad, 1, by decide +kernel⟩

theorem has_NetworkRows_0_4 :
    ∃ (s : State) (p : PortId),
      (s.net.port[p].testing = true) :=
  ⟨tst, 1, by decide +kernel⟩

theorem has_NetworkRows_0_5 :
    ∃ (s : State) (p : PortId),
      (s.act 40992 ((↑p : ℕ) + 1) = 1) ∧ (s.netRuns = true) :=
  ⟨(putObj 0xA020 2 1 quad), 1, by decide +kernel⟩

theorem has_NetworkRows_1_0 :
    ∃ (s : State) (p : PortId) (f : EthFrame),
      (s.net.port[p].up = true) ∧ (s.netRuns = true) ∧ (64 ≤ f.length) ∧ (f.length ≤ 1522) ∧ (p = 1 → s.nbBlocked = false) ∧ (s.act 40992 ((↑p : ℕ) + 1) ≠ 1) ∧ (groupAddress f.src = false) ∧ (s.net.table.length < 256) :=
  ⟨up, 0, (frm 0x0A0000000002#48), by decide +kernel⟩

theorem has_NetworkRows_1_0_a :
    ∃ (s : State) (p : PortId) (f : EthFrame),
      (s.net.port[p].up = true) ∧ (s.netRuns = true) ∧ (64 ≤ f.length) ∧ (f.length ≤ 1522) ∧ (p = 1 → s.nbBlocked = false) ∧ (s.act 40992 ((↑p : ℕ) + 1) ≠ 1) ∧ (groupAddress f.src = false) ∧ (s.net.table.length < 256) :=
  ⟨up, 1, (frm Config.macAddress), by decide +kernel⟩

theorem has_NetworkRows_1_2 :
    ∃ (s : State),
      (s.act 40977 1 = 1) ∧ (s.netRuns = true) ∧ (s.net.awaiting = false) ∧ (1 ≤ s.actN 40977 3) ∧ (s.net.port[0].up = true) :=
  ⟨(putObj 0xA011 1 1 up), by decide +kernel⟩

theorem has_NetworkRows_1_3 :
    ∃ (s : State),
      (s.act 40977 1 = 1) ∧ (s.netRuns = true) :=
  ⟨(putObj 0xA011 1 1 up), by decide +kernel⟩

theorem has_NetworkRows_1_4 :
    ∃ (s : State) (p : PortId),
      (s.act 40977 1 = 2) ∧ (s.netRuns = true) ∧ (s.net.port[otherPort p].up = true) :=
  ⟨(putObj 0xA011 1 2 up), 1, by decide +kernel⟩

theorem has_NetworkRows_1_5 :
    ∃ (p : PortId) (w : Fin 11),
      ((↑w : ℕ) = (↑p : ℕ) + 1) :=
  ⟨1, 2, by decide +kernel⟩

theorem has_NetworkRows_1_6_0 :
    ∃ (s : State) (p : PortId),
      (s.wakeEnabled ((↑p : ℕ) + 1) = true) ∧ (s.pwr.waking = false) ∧ (s.drive.sleepStep = 2) :=
  ⟨({ wk false with drive := { quad.drive with sleepStep := 2 } }), 1, by decide +kernel⟩

theorem has_NetworkRows_1_6_1 :
    ∃ (s : State) (p : PortId),
      (s.wakeEnabled ((↑p : ℕ) + 1) = true) ∧ (s.pwr.waking = false) ∧ (s.drive.sleepStep ≠ 2) ∧ (s.cont.hvWake = false) ∧ (s.drive.state = DriveState.sleep) :=
  ⟨({ wk false with drive := { quad.drive with state := .sleep } }), 0, by decide +kernel⟩

theorem has_CloveAndDebugRows_1_0 :
    ∃ (s : State) (g : GroupId) (j : Fin 3),
      (j = 0 ∧ s.sourceApplies g 0 = true ∨ j = 1 ∧ s.sourceApplies g 0 = false ∧ s.sourceApplies g 1 = true) :=
  ⟨quad, 1, 1, by decide +kernel⟩

theorem has_CloveAndDebugRows_1_0_a :
    ∃ (s : State) (g : GroupId) (j : Fin 3),
      (j = 0 ∧ s.sourceApplies g 0 = true ∨ j = 1 ∧ s.sourceApplies g 0 = false ∧ s.sourceApplies g 1 = true) :=
  ⟨(putObj 0x8100 2 5 runQ), 1, 0, by decide +kernel⟩

theorem has_CloveAndDebugRows_1_1 :
    ∃ (s : State) (g : GroupId),
      (s.sourceApplies g 0 = false) ∧ (s.sourceApplies g 1 = false) :=
  ⟨({ runQ with br := runQ.br.map fun (x : Bridge) => { x with pos := x.pos.map fun (p : Position) => { p with on := true } } }), 1, by decide +kernel⟩

theorem has_CloveAndDebugRows_1_2 :
    ∃ (s : State) (g : GroupId),
      (s.clove.speed[g].source = 0) :=
  ⟨quad, 1, by decide +kernel⟩

theorem has_CloveAndDebugRows_1_3 :
    ∃ (s : State) (g : GroupId) (j : Fin 3) (at0 : ℕ),
      (s.clove.speed[g].source = (↑j : ℕ) + 1) ∧ (at0 = max s.now (s.clove.speed[g].tracks[j].lastEdge + 50 * ticksPerMs)) :=
  ⟨({ quad with clove := { quad.clove with speed := quad.clove.speed.map fun (x : CloveSpeed) => { x with source := 2 } } }), 1, 1, 20000000, by decide +kernel⟩

theorem has_NetworkRows_1_7 :
    ∃ (s : State) (p : PortId),
      (s.actN 28768 1 ≠ 0) ∧ (s.netRuns = true) ∧ (s.net.port[p].up = true) :=
  ⟨(putObj 0x7060 1 5 up), 1, by decide +kernel⟩

theorem has_NetworkRows_1_8 :
    ∃ (s : State) (p : PortId) (tlv : PartnerTlv),
      (s.partnerOk tlv.serial tlv.dcLink tlv.domain = false) ∧ (2 ≤ tlv.hops) ∧ (tlv.serial ≠ Config.serial) ∧ (s.netRuns = true) ∧ (s.net.port[otherPort p].up = true) :=
  ⟨up, 1, ({ tlv with serial := Config.serial + 1 }), by refine ⟨?_, ?_, Nat.succ_ne_self _, ?_, ?_⟩ <;> decide +kernel⟩

theorem has_TimeAndPartnerRows_0_0 :
    ∃ (s : State) (offset : ℤ) (t0 : ℕ) (u : ℕ),
      (s.netRuns = true) ∧ (s.time.dom[0].valid = true) ∧ (s.time.dom[0].held = false) ∧ (s.time.use = 1) ∧ (s.time.dom[0].lastSync = some u) ∧ ((offset - Config.syncPrediction s.time.dom[0].offset s.time.rate (max s.now t0 - u)).natAbs ≤ s.actN 41218 4) :=
  ⟨timed, (Config.syncPrediction (timed.time.dom[0]).offset timed.time.rate (max timed.now 500 - 0)), 500, 0, by refine ⟨?_, ?_, ?_, ?_, ?_, by rw [Int.sub_self]; exact Nat.zero_le _⟩ <;> decide +kernel⟩

theorem has_TimeAndPartnerRows_0_1 :
    ∃ (s : State) (d : DomainId) (x : Grandmaster),
      (s.netRuns = true) ∧ (s.time.dom[d].valid = true) ∧ (s.time.dom[d].grandmaster = some x) ∧ (s.ownWins x = false) :=
  ⟨timed, 1, (⟨1, 6, 0x20, 0x4E5D, 1, 9⟩), by decide +kernel⟩

theorem has_TimeAndPartnerRows_0_2 :
    ∃ (s : State) (d : DomainId),
      (s.time.dom[d].valid = true) :=
  ⟨timed, 0, by decide +kernel⟩

theorem has_TimeAndPartnerRows_0_2_a :
    ∃ (s : State) (d : DomainId),
      (s.time.dom[d].valid = true) :=
  ⟨timed, 1, by decide +kernel⟩

theorem has_TimeAndPartnerRows_1_0 :
    ∃ (s : State),
      (s.netRuns = true) ∧ (s.actN 28768 1 ≠ 0) ∧ (s.place.left = false) ∧ (s.place.partners ≠ []) ∧ (s.place.lossWait = false) ∧ (∀ (k : CanId), s.canAnnounces k = false) :=
  ⟨par, by decide +kernel⟩

theorem has_TimeAndPartnerRows_1_1_0 :
    ∃ (s : State) (a : Announcement) (path : PartnerPath),
      (s.pathOpen path = true) ∧ (a.version = 1) ∧ (s.partnerOk a.serial a.dcLink a.domain = false) :=
  ⟨up, ann, .ethernet, by decide +kernel⟩

theorem has_TimeAndPartnerRows_1_1_1 :
    ∃ (s : State) (a : Announcement) (path : PartnerPath),
      (s.pathOpen path = true) ∧ (a.version = 1) ∧ (s.partnerOk a.serial a.dcLink a.domain = true) ∧ (∀ q ∈ s.place.partners, q.serial ≠ a.serial) :=
  ⟨lone, ({ ann with serial := Config.serial + 1, domain := lone.actN 0xA100 1 }), .ethernet, by refine ⟨?_, ?_, lone_ok, ?_⟩ <;> decide +kernel⟩

theorem has_TimeAndPartnerRows_1_1_2 :
    ∃ (s : State) (a : Announcement) (path : PartnerPath),
      (s.pathOpen path = true) ∧ (a.version = 1) ∧ (s.partnerOk a.serial a.dcLink a.domain = true) ∧ (∃ q ∈ s.place.partners, q.serial = a.serial) :=
  ⟨known, ({ ann with serial := Config.serial + 1, domain := known.actN 0xA100 1 }), .ethernet, by refine ⟨?_, ?_, known_ok, ⟨_, List.mem_cons_self, rfl⟩⟩ <;> decide +kernel⟩

theorem has_TimeAndPartnerRows_1_2_0 :
    ∃ (s : State) (o : OffsetSchedule),
      (∀ q ∈ s.place.partners, q.serial ≠ o.leader) :=
  ⟨up, sch, by decide +kernel⟩

theorem has_TimeAndPartnerRows_1_2_1 :
    ∃ (s : State) (o : OffsetSchedule) (path : PartnerPath) (q : Partner) (b : BridgeId) (x : BitVec 16),
      (q ∈ s.place.partners) ∧ (q.serial = o.leader) ∧ (o.version = 1) ∧ (o.dcLink = s.actN 28768 1) ∧ (s.pathOpen path = true) ∧ (s.clove.windows[15].opened = none) ∧ (s.time.use ≠ 0) ∧ (o.entries = [{ serial := Config.serial, bridge := (↑b : ℕ) + 1, offset := x }]) ∧ (s.place.crowded[b] = false) :=
  ⟨par, sch, .ethernet, P, 1, 9#16, by refine ⟨?_, ?_, ?_, ?_, ?_, ?_, ?_, rfl, ?_⟩ <;> decide +kernel⟩

theorem has_TimeAndPartnerRows_1_3 :
    ∃ (s : State) (q : Partner),
      (q ∈ s.place.partners) :=
  ⟨par, P, by decide +kernel⟩

theorem has_TimeAndPartnerRows_1_4 :
    ∃ (s : State),
      (s.coresOn = true) ∧ (s.drive.splitRef = none) :=
  ⟨runQ, by decide +kernel⟩

theorem has_CanRows_0_0 :
    ∃ (s : State) (k : CanId) (f : CanFrame),
      (s.canOn k = true) ∧ (f.fd = false) ∧ (s.can[k].high = []) ∧ (s.can[k].fifo = []) ∧ (f.remote = true) :=
  ⟨can, 0, (cf true), by decide +kernel⟩

theorem has_CanRows_0_1 :
    ∃ (s : State) (k : CanId) (f : CanFrame),
      (s.canOn k = true) ∧ (f.fd = false) ∧ (s.can[k].high = []) ∧ (s.can[k].fifo = []) ∧ (f.remote = false) ∧ (s.matchFrame k f = CanMatch.host) ∧ (s.boot.booting = false) ∧ (s.test.fired = []) ∧ (f.data.length ≤ 64) :=
  ⟨(filt can), 0, ({ cf0 with ident := 0x123456 }), by decide +kernel⟩

theorem has_CanRows_0_2 :
    ∃ (s : State) (k : CanId) (f : CanFrame),
      (s.canOn k = true) ∧ (f.fd = false) ∧ (s.can[k].high = []) ∧ (s.can[k].fifo = []) ∧ (f.remote = false) ∧ (s.matchFrame k f = CanMatch.host) ∧ (s.boot.booting = true) :=
  ⟨(filt { can with boot := { can.boot with booting := true } }), 0, ({ cf0 with ident := 0x123456 }), by decide +kernel⟩

theorem has_CanRows_1_0 :
    ∃ (s : State) (k : CanId) (slot : ℕ) (f : CanTx),
      (s.can[k].tx[slot]? = some f) ∧ (f.peer = none) :=
  ⟨(setCan (fun c => { c with tx := [⟨cf false, 0, none⟩] }) can), 0, 0, (⟨cf false, 0, none⟩), by decide +kernel⟩

theorem has_CanRows_1_1 :
    ∃ (s : State) (k : CanId) (slot : ℕ) (f : CanTx),
      (s.can[k].tx[slot]? = some f) ∧ (f.peer = none) ∧ (s.canSends k = true) ∧ (slot < 16) ∧ (f.frame.brs = false) :=
  ⟨(setCan (fun c => { c with tx := [⟨cf false, 0, none⟩] }) can), 0, 0, (⟨cf false, 0, none⟩), by decide +kernel⟩

theorem has_CanRows_2_0 :
    ∃ (s : State) (k : CanId) (tec : ℕ) (rec : ℕ),
      (s.canOn k = true) ∧ (errorState tec rec ≠ 2) :=
  ⟨can, 0, 100, 5, by decide +kernel⟩

theorem has_CanRows_2_0_a :
    ∃ (s : State) (k : CanId) (tec : ℕ) (rec : ℕ),
      (s.canOn k = true) ∧ (errorState tec rec ≠ 2) :=
  ⟨can, 0, 5, 130, by decide +kernel⟩

theorem has_CanRows_2_1 :
    ∃ (s : State) (k : CanId) (tec : ℕ) (rec : ℕ),
      (s.canOn k = true) ∧ (errorState tec rec = 2) ∧ (s.can[k].busOffs = []) ∧ (2 ≤ s.actN (45056 + (↑k : ℕ)) 14) :=
  ⟨can, 0, 256, 5, by decide +kernel⟩

theorem has_CanRows_3 :
    ∃ (s : State) (k : CanId),
      (s.can[k].state = 2) :=
  ⟨(setCan (fun c => { c with state := 2 }) can), 0, by decide +kernel⟩

theorem has_CanRows_4 :
    ∃ (s : State) (k : CanId),
      (s.can[k].state = 2) ∧ (s.can[k].recovering = true) :=
  ⟨(setCan (fun c => { c with state := 2, recovering := true }) can), 0, by decide +kernel⟩

theorem has_CanRows_5 :
    ∃ (s : State) (k : CanId) (a : ℕ),
      (s.can[k].claiming = some a) :=
  ⟨(setCan (fun c => { c with claiming := some 9 }) can), 0, 9, by decide +kernel⟩

theorem has_CanRows_6_1 :
    ∃ (s : State) (k : CanId) (peer : ℕ) (x : CanSend) (why : IsoTpTimeout),
      (s.can[k].send = [x]) ∧ (x.peer = peer) ∧ (why = IsoTpTimeout.nAs ∨ why = IsoTpTimeout.nBs) :=
  ⟨(setCan (fun c => { c with send := [snd1] }) can), 0, 4, snd1, .nBs, by decide +kernel⟩

theorem has_ResetRows_0_0 :
    ∃ (s : State) (c : Instr) (cause : ℕ),
      (c = Instr.hostResetDelayExpiry ∧ s.boot.resetAt.isSome = true ∧ cause = 4 ∨ c = Instr.cloveResetRequest ∧ s.pwr.domains[3] = true ∧ s.canRun 0 = false ∧ s.canRun 1 = false ∧ cause = 5 ∨ c = Instr.pelaleWatchdogExpiry false ∧ s.pwr.domains[2] = true ∧ cause = 5 ∨ c = Instr.servicePinRelease ∧ s.pwr.hv = true ∧ cause = 6) :=
  ⟨({ runQ with boot := { runQ.boot with resetAt := some (5, 0x104) } }), .hostResetDelayExpiry, 4, by decide +kernel⟩

theorem has_ResetRows_0_0_a :
    ∃ (s : State) (c : Instr) (cause : ℕ),
      (c = Instr.hostResetDelayExpiry ∧ s.boot.resetAt.isSome = true ∧ cause = 4 ∨ c = Instr.cloveResetRequest ∧ s.pwr.domains[3] = true ∧ s.canRun 0 = false ∧ s.canRun 1 = false ∧ cause = 5 ∨ c = Instr.pelaleWatchdogExpiry false ∧ s.pwr.domains[2] = true ∧ cause = 5 ∨ c = Instr.servicePinRelease ∧ s.pwr.hv = true ∧ cause = 6) :=
  ⟨({ runQ with pairs := runQ.pairs.map fun (p : Pair) => { p with state := .withdrawn } }), .cloveResetRequest, 5, by decide +kernel⟩

theorem has_ResetRows_0_0_b :
    ∃ (s : State) (c : Instr) (cause : ℕ),
      (c = Instr.hostResetDelayExpiry ∧ s.boot.resetAt.isSome = true ∧ cause = 4 ∨ c = Instr.cloveResetRequest ∧ s.pwr.domains[3] = true ∧ s.canRun 0 = false ∧ s.canRun 1 = false ∧ cause = 5 ∨ c = Instr.pelaleWatchdogExpiry false ∧ s.pwr.domains[2] = true ∧ cause = 5 ∨ c = Instr.servicePinRelease ∧ s.pwr.hv = true ∧ cause = 6) :=
  ⟨runQ, (.pelaleWatchdogExpiry false), 5, by decide +kernel⟩

theorem has_ResetRows_0_0_c :
    ∃ (s : State) (c : Instr) (cause : ℕ),
      (c = Instr.hostResetDelayExpiry ∧ s.boot.resetAt.isSome = true ∧ cause = 4 ∨ c = Instr.cloveResetRequest ∧ s.pwr.domains[3] = true ∧ s.canRun 0 = false ∧ s.canRun 1 = false ∧ cause = 5 ∨ c = Instr.pelaleWatchdogExpiry false ∧ s.pwr.domains[2] = true ∧ cause = 5 ∨ c = Instr.servicePinRelease ∧ s.pwr.hv = true ∧ cause = 6) :=
  ⟨({ runQ with pwr := { runQ.pwr with hv := true }, boot := { runQ.boot with servicePin := true } }), .servicePinRelease, 6, by decide +kernel⟩

theorem has_ResetRows_0_1 :
    ∃ (s : State),
      (s.pwr.domains[2] = true) ∧ (∀ (u : ℕ), s.boot.watchdogAt = some u → u + 60 * ticksPerS ≤ s.now) :=
  ⟨runQ, by decide +kernel⟩

theorem has_ResetRows_1_0 :
    ∃ (s : State) (c : Instr) (cause : ℕ),
      (c = Instr.powerOnReset ∧ (∃ (p : PortId), s.pwr.delivering[p] = true) ∧ cause = 1 ∨ c = Instr.servicePinRelease ∧ s.pwr.hv = false ∧ cause = 6) :=
  ⟨runQ, .powerOnReset, 1, by decide +kernel⟩

theorem has_ResetRows_1_2 :
    ∃ (s : State),
      (s.pwr.keepAlive = true) ∧ (s.busSource = false) ∧ (s.pwr.hv = false) :=
  ⟨({ quad with pwr := { quad.pwr with delivering := .replicate 2 false, aux := false } }), by decide +kernel⟩

theorem has_ResetRows_1_0_a :
    ∃ (s : State) (c : Instr) (cause : ℕ),
      (c = Instr.powerOnReset ∧ (∃ (p : PortId), s.pwr.delivering[p] = true) ∧ cause = 1 ∨ c = Instr.servicePinRelease ∧ s.pwr.hv = false ∧ cause = 6) :=
  ⟨({ quad with boot := { quad.boot with servicePin := true } }), .servicePinRelease, 6, by decide +kernel⟩

theorem has_ResetRows_1_1 :
    ∃ (s : State),
      (∃ (p : PortId), s.pwr.delivering[p] = true) :=
  ⟨quad, by decide +kernel⟩

theorem has_WakeAndBootRows_0_0 :
    ∃ (s : State) (k : Fin 11),
      (s.wakeEnabled (↑k : ℕ) = true) ∧ (s.pwr.waking = true) :=
  ⟨(wk true), 1, by decide +kernel⟩

theorem has_WakeAndBootRows_0_1 :
    ∃ (s : State) (k : Fin 11),
      (s.wakeEnabled (↑k : ℕ) = true) ∧ (s.pwr.waking = false) ∧ (s.drive.sleepStep = 2) :=
  ⟨({ wk false with drive := { quad.drive with sleepStep := 2 } }), 1, by decide +kernel⟩

theorem has_WakeAndBootRows_0_2 :
    ∃ (s : State) (k : Fin 11),
      (s.wakeEnabled (↑k : ℕ) = true) ∧ (s.pwr.waking = false) ∧ (s.drive.sleepStep ≠ 2) ∧ (s.cont.hvWake = false) ∧ (s.drive.state = DriveState.sleep) ∧ ((↑k : ℕ) ≠ 8) :=
  ⟨({ wk false with drive := { quad.drive with state := .sleep } }), 1, by decide +kernel⟩

theorem has_WakeAndBootRows_1_0 :
    ∃ (s : State),
      (s.boot.booting = true) ∧ (s.busSource = true) ∧ (s.pwr.domains[1] = false ∨ s.pwr.domains[2] = false) :=
  ⟨(pw (.replicate 8 false) (.replicate 3 false) bt), by decide +kernel⟩

theorem has_WakeAndBootRows_1_1 :
    ∃ (s : State),
      (s.boot.booting = true) ∧ (s.busSource = true) ∧ (s.pwr.domains[1] = true) ∧ (s.pwr.domains[2] = true) ∧ (s.pwr.pll[0] = true) ∧ (s.pwr.pll[1] = false) :=
  ⟨(pw (.replicate 8 true) #v[true, false, false] bt), by decide +kernel⟩

theorem has_WakeAndBootRows_1_2 :
    ∃ (s : State),
      (s.boot.booting = true) ∧ (s.busSource = true) ∧ (s.pwr.domains[1] = true) ∧ (s.pwr.domains[2] = true) ∧ (s.pwr.pll[0] = true) ∧ (s.pwr.pll[1] = true) ∧ (s.boot.testDue = true) ∧ (s.boot.cloveReset = true) ∧ (s.clove.testRun = false) :=
  ⟨(pw ((Vector.replicate 8 true).set 7 false) (.replicate 3 true) due), by decide +kernel⟩

theorem has_WakeAndBootRows_2 :
    ∃ (s : State),
      (s.boot.booting = true) ∧ (s.bootPowered = true) ∧ (s.boot.testDue = false) ∧ (s.clove.testRun = false) ∧ (∀ (k : CanId), s.can[k].high = [] ∧ s.can[k].fifo = []) :=
  ⟨bt, by decide +kernel⟩

theorem has_WakeAndBootRows_3 :
    ∃ (s : State),
      (s.boot.booting = false) :=
  ⟨quad, by decide +kernel⟩

theorem has_WakeAndBootRows_4 :
    ∃ (s : State) (u : ℕ),
      (s.boot.standbyAt = some u) ∧ (s.boot.confirmed = false) ∧ (s.boot.recovery = false) :=
  ⟨uncf, 3, by decide +kernel⟩

theorem has_WakeAndBootRows_5 :
    ∃ (s : State) (t0 : ℕ),
      ((setNow t0 s).epochDue = true) ∧ (s.time.freeSince = none) :=
  ⟨({ quad with time := { quad.time with freeSince := none } }), 800000000, by decide +kernel⟩

end Sys2Proof.Tests.Links
end

