-- ==== Sys2Proof/Tests/Services.lean ====
section
/-! SUPPORT. States and operands that meet the premises of the statements on commands that start and stop, streams, self-test and atlases: `has_X_i_j` is for clause i, j of X. -/

namespace Sys2Proof.Tests.Services
open Sys2Proof Sys2Proof.Machine
set_option Elab.async false

def kq : State := keyed quad
def closed : State := { quad with drive := { quad.drive with state := .armed }, cont := { quad.cont with coil := .replicate 3 true, mirrorOpen := .replicate 3 false } }
def lf : State := { kq with br := kq.br.map fun (x : Bridge) => { x with legs := x.legs.map fun (l : Leg) => { l with fault := 0x2004 } } }
def pt : State := { kq with pairs := kq.pairs.map fun (p : Pair) => { p with testedSince := true, flag := true }, place := { kq.place with permit := 3 } }
def spl : State := { kq with pairs := kq.pairs.set 0 { kq.pairs[0] with state := .split, cores := .replicate 2 true } }
def alt : State := { kq with boot := { kq.boot with alternateOk := true } }
def injS : State := putObj 0xD100 1 1 { kq with test := { kq.test with challenge := 5 } }
def firS : State := putObj 0xD100 1 1 { kq with test := { kq.test with arm := some (0x0101, 4, 0), armNumber := 4 } }
def stS : State := putObj 0xC120 1 3 (putObj 0xC120 4 2 (putObj 0xC120 17 5 (putObj 0xC120 5 4 (putObj 0xC120 6 2 quad))))
def stR : State := { stS with streams := stS.streams.map fun (x : Stream) => { x with running := true, trigger := 3, decimation := 2, setsPer := 4, channels := [1, 2], lastNumber := 6 } }
def armedQ : State := { quad with drive := { quad.drive with state := .armed }, cont := closed.cont, clove := { quad.clove with testRun := true } }
def nz : State := { quad with mem := { quad.mem with dram := [(7, 0x50)] } }
def recS : State := { quad with mem := { quad.mem with journal := { quad.mem.journal with halves := quad.mem.journal.halves.set 0 [⟨1, 1, 1, 0, false, 5, 256, List.replicate 22 0, 0, true⟩] } }, gr := quad.gr.set 0 { quad.gr[0] with atlas := { quad.gr[0].atlas with record := some ⟨1, 5, 1, 0⟩ } } }
def slp : State := putObj 0x9030 1 1 { quad with pwr := { quad.pwr with keepAlive := true } }
def due : State := { quad with test := { quad.test with inst := quad.test.inst.map fun v => v.map fun (x : TestInst) => { x with due := true } } }
def rq : TestReq := { ref := ⟨3, 8, 0x601⟩, test := 0x0601, deadline := 100, waiting := [0], passed := true, values := [] }
def stS1 : State := putObj 0xC121 1 3 (putObj 0xC121 4 2 (putObj 0xC121 17 5 (putObj 0xC121 5 4 (putObj 0xC121 6 2 quad))))
def stR1 : State := { stS1 with streams := stS1.streams.map fun (x : Stream) => { x with running := true, trigger := 3, decimation := 2, setsPer := 4, channels := [1, 2], lastNumber := 6 } }
def stMid : State := { stR1 with streams := stR1.streams.map fun (x : Stream) => { x with sets := 2, number := 7, samples := [1, 2, 3, 4] } }
def stLast : State := { stR with streams := stR.streams.map fun (x : Stream) => { x with count := 1, sets := 3, samples := [1, 2, 3, 4, 5, 6] } }
/-- Armed, with a current limit of 0, so that no cell of the atlas is needed (R179). -/
def armedZ : State := (List.range 4).foldl (fun a k => putObj 0x7000 (k + 1) 0 a) { quad with drive := { quad.drive with state := .armed }, clove := { quad.clove with testRun := true } }
theorem ready_of_zero (s : State) (g : GroupId) (hi : s.act 0x7000 (g.val + 1) = 0) (hq : s.act (0x6001 + g.val) 3 ≠ 0) : s.atlasReady g = true := by
  have none (d q : Nat) : s.inRegion g d q = false := by
    have hy : (2 * (q : Int) - 255) * s.act (0x6001 + g.val) 3 ≠ 0 := Int.mul_ne_zero (by omega) hq
    have h1 : 0 < ((2 * (q : Int) - 255) * s.act (0x6001 + g.val) 3) * ((2 * (q : Int) - 255) * s.act (0x6001 + g.val) 3) := mul_self_pos.mpr hy
    simp only [State.inRegion, hi, Bool.and_eq_false_iff, decide_eq_false_iff_not]
    exact .inl (by nlinarith [mul_self_nonneg (127 * s.act (0x6001 + g.val) 1 + (d : Int) * (s.act (0x6001 + g.val) 2 - s.act (0x6001 + g.val) 1))])
  simp [State.atlasReady, none]
theorem allowed_of (s : State) (b : BridgeId) (g : GroupId) (hg : s.groupOf b = some g) (ha : s.atlasReady g = true)
    (hr : ((decide (s.drive.state = .armed) || decide (s.drive.state = .run)) &&
      ((decide (s.br[b].state = .standby) && !s.starting b) || s.heldCatch b) &&
      decide (s.act 0x5000 (g.val + 1) ≠ 0) && decide (s.gr[g].cond ≠ .stopped) && !s.windowSpent b &&
      s.die.firstRound && !s.die.stopped && !(s.clove.brakeLatch && decide (s.brakeGroup = some g)) && !s.testHolds b g &&
      s.splitAllows b && s.runPowered) = true) : s.startAllowed b = true := by
  simp only [State.startAllowed, hg, ha, Bool.and_true]
  exact hr
theorem armedZ_allowed (b : BridgeId) : armedZ.startAllowed b = true ∧ armedZ.heldCatch b = false :=
  ⟨allowed_of _ b b (by revert b; decide +kernel) (ready_of_zero _ b (by revert b; decide +kernel) (by revert b; decide +kernel)) (by revert b; decide +kernel),
   by revert b; decide +kernel⟩


theorem has_ArmAndDisarmCommands_0 :
    ∃ (e : CmdEntry) (s : State),
      (s.admits e 257 [1] 0) ∧ (s.drive.state = DriveState.standby) ∧ (s.drive.armRef = none) ∧ (s.cont.opening = 0) ∧ (s.cont.active = false) ∧ (s.cont.mirrorOpen.all id = true) :=
  ⟨(ent 1 []), quad, by decide +kernel⟩

theorem has_ArmAndDisarmCommands_1 :
    ∃ (e : CmdEntry) (s : State),
      (s.admits e 258 [1] 0) ∧ (s.drive.state = DriveState.armed) ∧ (s.drive.armRef = none) ∧ (s.allStandby = true) ∧ (s.cont.opening = 0) ∧ (s.cont.active = false) ∧ (s.cont.afterOpen = false) ∧ (s.cont.coil[0] = true) :=
  ⟨(ent 1 []), closed, by decide +kernel⟩

theorem has_StartAndDisableCommands_1 :
    ∃ (e : CmdEntry) (s : State),
      (s.admits e 515 [1] 1) ∧ (s.boot.booting = false) ∧ (s.drive.disables = []) ∧ (∀ (g : GroupId), s.gr[g].atlas.ident = none) ∧ (∀ b ∈ bridgesOfMask (bits 3 0 (e.word 1)), s.starting b = false ∧ s.br[b].ctl.rampDown = none) ∧ (∃ b ∈ bridgesOfMask (bits 3 0 (e.word 1)), s.br[b].state = BrState.run ∧ s.heldCatch b = false) ∧ (s.drive.state = DriveState.run) :=
  ⟨(ent 1 [3#64]), runQ, by decide +kernel⟩

theorem has_StartAndDisableCommands_1_a :
    ∃ (e : CmdEntry) (s : State),
      (s.admits e 515 [1] 1) ∧ (s.boot.booting = false) ∧ (s.drive.disables = []) ∧ (∀ (g : GroupId), s.gr[g].atlas.ident = none) ∧ (∀ b ∈ bridgesOfMask (bits 3 0 (e.word 1)), s.starting b = false ∧ s.br[b].ctl.rampDown = none) ∧ (∃ b ∈ bridgesOfMask (bits 3 0 (e.word 1)), s.br[b].state = BrState.run ∧ s.heldCatch b = false) ∧ (s.drive.state = DriveState.run) :=
  ⟨(ent 1 [15#64]), runQ, by decide +kernel⟩

theorem has_SleepRows_1_1 :
    ∃ (e : CmdEntry) (s : State),
      (s.admits e 260 [3] 0) ∧ (s.anyRun = false) ∧ (allBr.any s.starting = false) ∧ (s.par.commit = none) ∧ (∀ (g : GroupId), s.gr[g].atlas.copying = false) ∧ (s.boot.resetAt = none) :=
  ⟨(ent 3 []), quad, by decide +kernel⟩

theorem has_SleepRows_1_2 :
    ∃ (e : CmdEntry) (s : State),
      (s.admits e 777 [0] 0) ∧ (s.drive.state = DriveState.standby) ∧ (s.allStandby = true) ∧ (s.boot.alternateOk = true) ∧ (s.transfer = none) ∧ (s.par.commit = none) ∧ (∀ (g : GroupId), s.gr[g].atlas.copying = false) ∧ (s.mem.journal.halves[s.mem.journal.half].length < halfRecords) :=
  ⟨(sel alt 0x0309 []), alt, by refine ⟨sel_admits _ _ _ _ (by decide +kernel) (by decide +kernel) (by decide +kernel), ?_, ?_, ?_, ?_, ?_, ?_, ?_⟩ <;> decide +kernel⟩

theorem has_ClearAndPairCommands_0_0 :
    ∃ (e : CmdEntry) (s : State) (l : LegId),
      (s.admits e 771 [0] 1) ∧ (bits 2 0 (e.word 1) = 2) ∧ (bits 15 8 (e.word 1) = (↑l : ℕ) + 1) ∧ ((s.leg l).fault ≠ 0) ∧ (∀ (p : PosId), legOfPos p = l → (s.pos p).latched = false) ∧ (s.drive.state = DriveState.standby) ∧ (s.drive.rejoinRef = none) ∧ (s.clove.disagree = false) ∧ (s.clove.testFailed = false) ∧ (s.clove.discrepancy = false) ∧ (s.cont.deferred = false) :=
  ⟨(sel lf 0x0303 [0x0402#64]), lf, 3, by refine ⟨sel_admits _ _ _ _ (by decide +kernel) (by decide +kernel) (by decide +kernel), ?_, ?_, ?_, ?_, ?_, ?_, ?_, ?_, ?_, ?_⟩ <;> decide +kernel⟩

theorem has_ClearAndPairCommands_1_1 :
    ∃ (e : CmdEntry) (s : State) (p : PairId),
      (pairOperand (bits 7 0 (e.word 1)) = some p) ∧ (s.anyRun = false) ∧ (s.admits e 774 [0] 1) ∧ (s.pairs[p].state = PairState.split) ∧ (s.drive.rejoinRef = none) ∧ (∀ (b : BridgeId), s.br[b].pair = p ∨ s.br[b].monPair = p → s.br[b].state = BrState.standby ∧ s.starting b = false) :=
  ⟨(sel spl 0x0306 [1#64]), spl, 0, by refine ⟨?_, ?_, sel_admits _ _ _ _ (by decide +kernel) (by decide +kernel) (by decide +kernel), ?_, ?_, ?_⟩ <;> decide +kernel⟩

theorem has_InjectionAndSelfTestRows_0_0 :
    ∃ (e : CmdEntry) (s : State),
      (s.admits e 775 [0] 1) ∧ (pointExists (bits 15 0 (e.word 1)) = true) ∧ (bits 63 32 (e.word 1) + s.test.challenge = 2 ^ 32 - 1) ∧ (s.pointPermitted (bits 15 0 (e.word 1)) = true) :=
  ⟨(sel injS 0x0307 [BitVec.ofNat 64 (0x0101 + (2^32 - 6) * 2^32)]), injS, by refine ⟨sel_admits _ _ _ _ (by decide +kernel) (by decide +kernel) (by decide +kernel), ?_, ?_, ?_⟩ <;> decide +kernel⟩

theorem has_InjectionAndSelfTestRows_0_1 :
    ∃ (e : CmdEntry) (s : State) (n : ℕ) (at0 : ℕ),
      (s.admits e 776 [0] 1) ∧ (s.test.arm = some (bits 15 0 (e.word 1), n, at0)) ∧ (bits 63 32 (e.word 1) = n) ∧ (s.now ≤ at0 + s.actN 53504 3 * ticksPerMs) ∧ (s.pointPermitted (bits 15 0 (e.word 1)) = true) ∧ (bits 15 0 (e.word 1) / 256 ∈ [1, 2, 5, 7, 15]) :=
  ⟨(sel firS 0x0308 [BitVec.ofNat 64 (0x0101 + 4 * 2^32)]), firS, 4, 0, by refine ⟨sel_admits _ _ _ _ (by decide +kernel) (by decide +kernel) (by decide +kernel), ?_, ?_, ?_, ?_, ?_⟩ <;> decide +kernel⟩

theorem has_InjectionAndSelfTestRows_0_2 :
    ∃ (s : State) (a : ℕ × ℕ × ℕ),
      (s.test.arm = some a) :=
  ⟨firS, (0x0101, 4, 0), by decide +kernel⟩

theorem has_InjectionAndSelfTestRows_0_3 :
    ∃ (s : State) (f : ℕ × ℕ) (rest : List (ℕ × ℕ)),
      (s.test.fired = f :: rest) :=
  ⟨({ quad with test := { quad.test with fired := [(0x0101, 10), (0x0201, 12)], inject := [0x101] } }), (0x0101, 10), ([(0x0201, 12)]), by decide +kernel⟩

theorem has_InjectionAndSelfTestRows_1_2 :
    ∃ (s : State) (k : Fin 12) (n : ℕ) (h : n < 24),
      (s.act 53248 1 = 1) ∧ (s.intervalFactor ≤ s.test.nominal[k] + 1) ∧ (n < testInstances k) ∧ (s.testPermitted k n = true) :=
  ⟨quad, 5, 0, (by decide), by decide +kernel⟩

theorem has_InjectionAndSelfTestRows_1_2_a :
    ∃ (s : State) (k : Fin 12) (n : ℕ) (h : n < 24),
      (s.act 53248 1 = 1) ∧ (s.intervalFactor ≤ s.test.nominal[k] + 1) ∧ (n < testInstances k) ∧ (s.testPermitted k n = true) :=
  ⟨quad, 0, 1, (by decide), by decide +kernel⟩

theorem has_InjectionAndSelfTestRows_1_4 :
    ∃ (s : State) (k : Fin 12) (n : ℕ) (pass : Bool) (h : n < 24),
      (s.test.running = [(k, n)]) ∧ (k = 5 ∨ k = 9) ∧ (s.test.inst[k][n].slices = 0) ∧ (s.test.reqs = []) ∧ (k = 5 → pass = true) :=
  ⟨({ quad with test := { quad.test with running := [(5, 0)] } }), 5, 0, true, (by decide), by decide +kernel⟩

theorem has_InjectionAndSelfTestRows_1_4_a :
    ∃ (s : State) (k : Fin 12) (n : ℕ) (pass : Bool) (h : n < 24),
      (s.test.running = [(k, n)]) ∧ (k = 5 ∨ k = 9) ∧ (s.test.inst[k][n].slices = 0) ∧ (s.test.reqs = []) ∧ (k = 5 → pass = true) :=
  ⟨({ quad with test := { quad.test with running := [(9, 0)] } }), 9, 0, true, (by decide), by decide +kernel⟩

theorem has_InjectionAndSelfTestRows_1_4_b :
    ∃ (s : State) (k : Fin 12) (n : ℕ) (pass : Bool) (h : n < 24),
      (s.test.running = [(k, n)]) ∧ (k = 5 ∨ k = 9) ∧ (s.test.inst[k][n].slices = 0) ∧ (s.test.reqs = []) ∧ (k = 5 → pass = true) :=
  ⟨({ quad with test := { quad.test with running := [(9, 0)] } }), 9, 0, false, (by decide), by decide +kernel⟩

theorem has_AtlasCommands_0 :
    ∃ (e : CmdEntry) (s : State) (g : GroupId),
      (groupOperand (bits 7 0 (e.word 1)) = some g) ∧ (s.groupExists g = true) ∧ (s.uploading g = false) ∧ (s.admits e 1283 [2] 1) ∧ (s.atlasIdle g = true) ∧ (s.mem.wf = true) :=
  ⟨(ent 2 [1#64]), nz, 0, by decide +kernel⟩

theorem has_AtlasCommands_1 :
    ∃ (e : CmdEntry) (s : State) (g : GroupId),
      (groupOperand (bits 7 0 (e.word 1)) = some g) ∧ (s.groupExists g = true) ∧ (s.uploading g = false) ∧ (s.admits e 1282 [2] 1) ∧ (s.atlasEmpty g = false) ∧ (s.gr[g].atlas.copying = false) ∧ (s.gr[g].atlas.ident = none) :=
  ⟨(ent 2 [1#64]), nz, 0, by decide +kernel⟩

theorem has_AtlasCommands_2 :
    ∃ (e : CmdEntry) (s : State) (g : GroupId),
      (groupOperand (bits 7 0 (e.word 1)) = some g) ∧ (s.groupExists g = true) ∧ (s.uploading g = false) ∧ (s.admits e 1281 [2] 1) ∧ (s.drive.state = DriveState.armed) ∧ (s.atlasIdle g = true) ∧ (s.atlasEmpty g = true) ∧ (s.runPowered = true) :=
  ⟨(ent 2 [0x101#64]), armedQ, 0, by decide +kernel⟩

theorem has_AtlasExportAndLoad_0 :
    ∃ (g : GroupId) (s : State) (e : CmdEntry) (a : AtlasRec),
      (s.admits e 1285 [3] 1) ∧ (groupOperand (bits 7 0 (e.word 1)) = some g) ∧ (1 ≤ bits 31 16 (e.word 1)) ∧ (bits 31 16 (e.word 1) ≤ 1400) ∧ (bits 63 32 (e.word 1) + bits 31 16 (e.word 1) ≤ 268436544) ∧ (s.gr[g].atlas.record = some a) ∧ (bits 63 32 (e.word 1) = 0 ∨ s.gr[g].atlas.exportSeq = a.seq) ∧ (s.mem.pages = []) :=
  ⟨0, recS, (ent 3 [BitVec.ofNat 64 (1 + 100 * 2 ^ 16)]), (⟨1, 5, 1, 0⟩), by decide +kernel⟩

theorem has_AtlasExportAndLoad_1 :
    ∃ (g : GroupId) (s : State),
      (s.bridgesOf g ≠ []) ∧ (s.mem.journal.valid 1 ((↑g : ℕ) + 1) = none) :=
  ⟨0, quad, by decide +kernel⟩

theorem has_AtlasExportAndLoad_2 :
    ∃ (g : GroupId) (s : State) (r : JRecord) (r' : JRecord),
      (s.bridgesOf g ≠ []) ∧ (s.mem.journal.valid 1 ((↑g : ℕ) + 1) = some r) ∧ (r.slot < 2) ∧ (s.recordNaming g r.slot = some r') ∧ (s.mem.wf = true) :=
  ⟨0, recS, (⟨1, 1, 1, 0, false, 5, 256, List.replicate 22 0, 0, true⟩), (⟨1, 1, 1, 0, false, 5, 256, List.replicate 22 0, 0, true⟩), by decide +kernel⟩

theorem has_ParameterRows_1_0 :
    ∃ (e : CmdEntry) (s : State),
      (e.queue = 2 ∨ e.queue = 3) ∧ (1 ≤ e.ops.length) ∧ (e.ops.length ≤ 32) ∧ (s.boot.recovery = false) ∧ (s.drive.state ≠ DriveState.sleep) ∧ (∀ w ∈ e.ops, (objInfo (bits 15 0 (BitVec.toNat w)) (bits 23 16 (BitVec.toNat w))).isSome = true) :=
  ⟨(ent 2 [0x011100#64, 0x011101#64]), quad, by refine ⟨?_, ?_, ?_, ?_, ?_, List.forall_iff_forall_mem.mp (by decide +kernel)⟩ <;> decide +kernel⟩

theorem has_ParameterRows_0_1 :
    ∃ (e : CmdEntry) (s : State) (x : WriteEntry) (serials : List ℕ),
      (s.admits e 1026 [2] 3) ∧ (writeEntries e.ops = [x]) ∧ (x.index = 61504) ∧ (x.sub = 3) ∧ (s.judgeEntry 2 s.par x = 0) ∧ (s.clearedBy x.raw = some serials) :=
  ⟨(ent 2 [0x02_03_F040#64, 2#64, 0]), ({ quad with boot := { quad.boot with records := [⟨3, []⟩, ⟨2, []⟩, ⟨1, []⟩] } }), (⟨0xF040, 3, 2, 2, true⟩), ([2, 1]), by decide +kernel⟩

theorem has_StartAndDisableCommands_0 :
    ∃ (e : CmdEntry) (s : State) (c : Instr) (code : ℕ) (named : List BridgeId),
      (s.admits e code [1] 1) ∧ (c = Instr.bridgeEnable e ∧ code = 514 ∧ named = bridgesOfMask (bits 3 0 (e.word 1)) ∨ c = Instr.catchStart e ∧ code = 516 ∧ ∃ (g : GroupId), groupOperand (bits 7 0 (e.word 1)) = some g ∧ named = s.bridgesOf g) ∧ (named ≠ []) ∧ (∀ b ∈ named, s.startAllowed b = true ∧ s.heldCatch b = false) ∧ (s.powerRefuses named = false) :=
  ⟨(ent 1 [3#64]), armedZ, (.bridgeEnable (ent 1 [3#64])), 0x0202, (bridgesOfMask (bits 3 0 ((ent 1 [3#64]).word 1))), by refine ⟨?_, .inl (by decide +kernel), ?_, fun b _ => armedZ_allowed b, ?_⟩ <;> decide +kernel⟩

theorem has_StartAndDisableCommands_0_a :
    ∃ (e : CmdEntry) (s : State) (c : Instr) (code : ℕ) (named : List BridgeId),
      (s.admits e code [1] 1) ∧ (c = Instr.bridgeEnable e ∧ code = 514 ∧ named = bridgesOfMask (bits 3 0 (e.word 1)) ∨ c = Instr.catchStart e ∧ code = 516 ∧ ∃ (g : GroupId), groupOperand (bits 7 0 (e.word 1)) = some g ∧ named = s.bridgesOf g) ∧ (named ≠ []) ∧ (∀ b ∈ named, s.startAllowed b = true ∧ s.heldCatch b = false) ∧ (s.powerRefuses named = false) :=
  ⟨(ent 1 [2#64]), armedZ, (.catchStart (ent 1 [2#64])), 0x0204, [1], by refine ⟨?_, .inr ⟨rfl, rfl, 1, by decide +kernel⟩, ?_, fun b _ => armedZ_allowed b, ?_⟩ <;> decide +kernel⟩

theorem has_SleepRows_1_0 :
    ∃ (e : CmdEntry) (s : State),
      (s.admits e 259 [2] 0) ∧ (s.drive.sleepStep = 0) ∧ (s.sleepAllowed = true) ∧ (s.sleepDelayed = false) ∧ (s.drive.sleepRef = none) :=
  ⟨(ent 2 []), slp, by decide +kernel⟩

theorem has_ClearAndPairCommands_0_1 :
    ∃ (e : CmdEntry) (s : State) (p : PairId),
      (pairOperand (bits 7 0 (e.word 1)) = some p) ∧ (s.admits e 772 [0] 1) ∧ (s.pairs[p].debugger = false) ∧ (s.pairs[p].testedSince = true) ∧ ((s.canRun 0 || s.canRun 1) = true) :=
  ⟨(sel pt 0x0304 [2#64]), pt, 1, by refine ⟨?_, sel_admits _ _ _ _ (by decide +kernel) (by decide +kernel) (by decide +kernel), ?_, ?_, ?_⟩ <;> decide +kernel⟩

theorem has_ClearAndPairCommands_1_0 :
    ∃ (e : CmdEntry) (s : State) (p : PairId),
      (pairOperand (bits 7 0 (e.word 1)) = some p) ∧ (s.anyRun = false) ∧ (s.admits e 773 [0] 1) ∧ (bitAt (↑p : ℕ) s.place.permit = true) ∧ (s.pairs[p].state = PairState.lockstep) ∧ (∀ (q : PairId), s.pairs[q].debugger = false) ∧ (s.drive.splitRef = none) ∧ (∀ (b : BridgeId), s.splitAffects p b = true → s.br[b].state = BrState.standby ∧ s.starting b = false) :=
  ⟨(sel pt 0x0305 [1#64]), pt, 0, by refine ⟨?_, ?_, sel_admits _ _ _ _ (by decide +kernel) (by decide +kernel) (by decide +kernel), ?_, ?_, ?_, ?_, ?_⟩ <;> decide +kernel⟩

theorem has_InjectionAndSelfTestRows_1_0 :
    ∃ (s : State) (k : Fin 12) (e : CmdEntry) (ns : List ℕ),
      (s.admits e 1537 [3] 1) ∧ (bits 63 32 (e.word 1) = 0) ∧ (namedInstances (bits 15 0 (e.word 1)) = some (k, ns)) ∧ (∀ m ∈ ns, s.testPermitted k m = true) ∧ (s.test.reqs.length < 4) ∧ (∀ q ∈ s.test.reqs, q.test ≠ bits 15 0 (e.word 1)) :=
  ⟨quad, 5, (ent 3 [0x0601#64]), [0], by decide +kernel⟩

theorem has_InjectionAndSelfTestRows_1_0_a :
    ∃ (s : State) (k : Fin 12) (e : CmdEntry) (ns : List ℕ),
      (s.admits e 1537 [3] 1) ∧ (bits 63 32 (e.word 1) = 0) ∧ (namedInstances (bits 15 0 (e.word 1)) = some (k, ns)) ∧ (∀ m ∈ ns, s.testPermitted k m = true) ∧ (s.test.reqs.length < 4) ∧ (∀ q ∈ s.test.reqs, q.test ≠ bits 15 0 (e.word 1)) :=
  ⟨quad, 1, (ent 3 [0x02FF#64]), (List.range 12), by decide +kernel⟩

theorem has_InjectionAndSelfTestRows_1_3 :
    ∃ (s : State) (k : Fin 12) (n : ℕ),
      (n < testInstances k) ∧ (s.sliceAllowed k n = true) ∧ (s.sliceWanted k n = true) ∧ (s.sliceIdle k n = true) ∧ (s.hostSliceFirst k n = false) ∧ ((k, n) ∉ s.test.running) ∧ (s.test.running.length < if 3 ≤ s.die.level then 1 else 2) ∧ (s.slicesPower + (↑(testPower k) : ℚ) / 100 ≤ s.testHeadroom) :=
  ⟨due, 5, 0, by decide +kernel⟩

theorem has_InjectionAndSelfTestRows_1_3_a :
    ∃ (s : State) (k : Fin 12) (n : ℕ),
      (n < testInstances k) ∧ (s.sliceAllowed k n = true) ∧ (s.sliceWanted k n = true) ∧ (s.sliceIdle k n = true) ∧ (s.hostSliceFirst k n = false) ∧ ((k, n) ∉ s.test.running) ∧ (s.test.running.length < if 3 ≤ s.die.level then 1 else 2) ∧ (s.slicesPower + (↑(testPower k) : ℚ) / 100 ≤ s.testHeadroom) :=
  ⟨due, 0, 0, by decide +kernel⟩

theorem has_InjectionAndSelfTestRows_1_5 :
    ∃ (s : State) (k : Fin 12) (test : BitVec 16) (r : TestReq) (ns : List ℕ),
      (s.test.reqs = [r]) ∧ (r.test = test.toNat) ∧ (r.deadline ≠ 0) ∧ (namedInstances test.toNat = some (k, ns)) :=
  ⟨({ quad with test := { quad.test with reqs := [rq] } }), 5, 0x0601#16, rq, [0], by decide +kernel⟩

theorem has_StreamRows_0_0 :
    ∃ (e : CmdEntry) (s : State) (k : StreamId),
      (streamOperand e = k) ∧ (s.admits e 1793 [3] 1) ∧ (s.streams[k].running = false) ∧ (s.sto (49440 + (↑k : ℕ)) 1 ≠ 0) :=
  ⟨(ent 3 [0#64]), stS, 0, by decide +kernel⟩

theorem has_StreamRows_0_0_a :
    ∃ (e : CmdEntry) (s : State) (k : StreamId),
      (streamOperand e = k) ∧ (s.admits e 1793 [3] 1) ∧ (s.streams[k].running = false) ∧ (s.sto (49440 + (↑k : ℕ)) 1 ≠ 0) :=
  ⟨(ent 3 [1#64]), stS1, 1, by decide +kernel⟩

theorem has_StreamRows_0_1 :
    ∃ (e : CmdEntry) (s : State) (k : StreamId),
      (streamOperand e = k) ∧ (s.admits e 1794 [3] 1) ∧ (s.streams[k].running = true) :=
  ⟨(ent 3 [1#64]), stR1, 1, by decide +kernel⟩

theorem has_StreamRows_0_1_a :
    ∃ (e : CmdEntry) (s : State) (k : StreamId),
      (streamOperand e = k) ∧ (s.admits e 1794 [3] 1) ∧ (s.streams[k].running = true) :=
  ⟨(ent 3 [1#64]), stMid, 1, by decide +kernel⟩

theorem has_StreamRows_0_2_0 :
    ∃ (e : CmdEntry) (s : State) (k : StreamId),
      (streamOperand e = k) ∧ (s.admits e 1795 [3] 1) ∧ (s.streams[k].running = true) ∧ (s.streams[k].sets = 0) :=
  ⟨(ent 3 [1#64]), stR1, 1, by decide +kernel⟩

theorem has_StreamRows_0_2_1 :
    ∃ (e : CmdEntry) (s : State) (k : StreamId),
      (streamOperand e = k) ∧ (s.admits e 1795 [3] 1) ∧ (s.streams[k].running = true) ∧ (s.streams[k].sets ≠ 0) :=
  ⟨(ent 3 [1#64]), stMid, 1, by decide +kernel⟩

theorem has_StreamRows_1_0 :
    ∃ (k : StreamId) (s : State),
      (s.streams[k].running = false ∨ s.streams[k].trigger ≠ 3 ∧ s.streams[k].trigger ≠ 4 ∧ ∀ (b : BridgeId), s.streams[k].bridge = (↑b : ℕ) + 1 → s.br[b].state ≠ BrState.run) :=
  ⟨1, stS, by decide +kernel⟩

theorem has_StreamRows_1_1_0 :
    ∃ (k : StreamId) (s : State),
      (s.streams[k].running = true) ∧ (s.streams[k].trigger = 3 ∨ s.streams[k].trigger = 4 ∨ ∃ (b : BridgeId), s.streams[k].bridge = (↑b : ℕ) + 1 ∧ s.br[b].state = BrState.run) ∧ (s.streams[k].count + 1 < s.streams[k].decimation) :=
  ⟨1, stR, by decide +kernel⟩

theorem has_StreamRows_1_1_1 :
    ∃ (k : StreamId) (s : State),
      (s.streams[k].running = true) ∧ (s.streams[k].trigger = 3 ∨ s.streams[k].trigger = 4 ∨ ∃ (b : BridgeId), s.streams[k].bridge = (↑b : ℕ) + 1 ∧ s.br[b].state = BrState.run) ∧ (s.streams[k].decimation ≤ s.streams[k].count + 1) ∧ (s.streams[k].sets + 1 < s.streams[k].setsPer) :=
  ⟨1, ({ stR with streams := stR.streams.map fun (x : Stream) => { x with count := 1 } }), by decide +kernel⟩

theorem has_StreamRows_1_1_2 :
    ∃ (k : StreamId) (s : State),
      (s.streams[k].running = true) ∧ (s.streams[k].trigger = 3 ∨ s.streams[k].trigger = 4 ∨ ∃ (b : BridgeId), s.streams[k].bridge = (↑b : ℕ) + 1 ∧ s.br[b].state = BrState.run) ∧ (s.streams[k].decimation ≤ s.streams[k].count + 1) ∧ (s.streams[k].setsPer ≤ s.streams[k].sets + 1) :=
  ⟨1, stLast, by decide +kernel⟩

theorem has_StreamRows_1_1_2_a :
    ∃ (k : StreamId) (s : State),
      (s.streams[k].running = true) ∧ (s.streams[k].trigger = 3 ∨ s.streams[k].trigger = 4 ∨ ∃ (b : BridgeId), s.streams[k].bridge = (↑b : ℕ) + 1 ∧ s.br[b].state = BrState.run) ∧ (s.streams[k].decimation ≤ s.streams[k].count + 1) ∧ (s.streams[k].setsPer ≤ s.streams[k].sets + 1) :=
  ⟨1, ({ stLast with streams := stLast.streams.map fun (x : Stream) => { x with stopping := true, flush := [⟨3, 8, 0x703⟩] } }), by decide +kernel⟩

theorem has_InjectionAndSelfTestRows_1_1 :
    ∃ (s : State) (k : Fin 12),
      (s.act 53248 1 = 1) ∧ (s.test.nominal[k] + 1 < s.intervalFactor) :=
  ⟨({ quad with die := { quad.die with level := 3 } }), 5, by decide +kernel⟩

end Sys2Proof.Tests.Services
end

