-- ==== Sys2Proof/WellFormed.lean ====
section
/-! DEFINITION. Well-formed commands: the bounds that the spec's formats set on the operands of a row. -/

namespace Sys2Proof

/-- A command entry carries at most 180 operand words, and a tag on Q0 only (R400). -/
def commandOk (e : CmdEntry) : Bool := Nat.ble e.ops.length 180 && (e.queue == 0 || e.tag == 0)

/-- A mailbox message fits one transport message: at most 1,472 bytes with its 8-byte header (R401, R476). -/
def headerOk (h : MailHeader) (body : List Word) : Bool :=
  Nat.ble body.length 183 && (h.transport == .udp || Nat.blt h.source 256)

/-- A burst moves at most 8 words, and a write supplies as many as it asks for (R379). -/
def burstOk (b : Burst) : Bool :=
  Nat.ble 1 b.count && Nat.ble b.count 8 && Nat.ble b.first b.count && (!b.write || b.words.length == b.count)

/-- A CAN frame of R468: an identifier of its format, and a data length that a DLC of its format can name. -/
def canFrameOk (f : CanFrame) : Bool :=
  Nat.blt f.ident (if f.extended then 536870912 else 2048) && (f.fd || !f.brs) && !(f.fd && f.remote) &&
    (Nat.ble f.data.length 8 || (f.fd && [12, 16, 20, 24, 32, 48, 64].contains f.data.length))

/-- The cells that an identification step fills lie in an atlas (R173), and each capture of I6 has its 400 samples (R135). -/
def identOk : IdentResult → Bool
  | .cells points => points.all fun p => Nat.blt p.1 33554432
  | .cable edges => edges.all fun e => e.samples.length == 400
  | _ => true

/-- A command whose operands keep the bounds of the spec's formats. -/
def Instr.wf : Instr → Bool
  | .driveArm e => commandOk e
  | .driveDisarm e => commandOk e
  | .driveSleep e => commandOk e
  | .driveReset e => commandOk e
  | .torqueSet e => commandOk e
  | .bridgeEnable e => commandOk e
  | .bridgeDisable e => commandOk e
  | .catchStart e => commandOk e
  | .positionSet e => commandOk e
  | .ss1Request e => commandOk e
  | .safetySelect e => commandOk e
  | .faultClear e => commandOk e
  | .debugFlagClear e => commandOk e
  | .pairSplit e => commandOk e
  | .pairRejoin e => commandOk e
  | .injectArm e => commandOk e
  | .injectFire e => commandOk e
  | .firmwareActivate e => commandOk e
  | .paramRead e => commandOk e
  | .paramWrite e => commandOk e
  | .paramCommit e => commandOk e
  | .paramUploadBegin e => commandOk e
  | .paramUploadChunk e => commandOk e
  | .paramUploadEnd e => commandOk e
  | .paramUploadAbort e => commandOk e
  | .atlasUploadBegin e => commandOk e
  | .atlasUploadChunk e => commandOk e
  | .atlasUploadEnd e => commandOk e
  | .atlasUploadAbort e => commandOk e
  | .firmwareUploadBegin e => commandOk e
  | .firmwareUploadChunk e => commandOk e
  | .firmwareUploadEnd e => commandOk e
  | .firmwareUploadAbort e => commandOk e
  | .atlasIdentify e => commandOk e
  | .atlasCheckpoint e => commandOk e
  | .atlasClear e => commandOk e
  | .atlasExport e => commandOk e
  | .selftestRequest e => commandOk e
  | .streamStart e => commandOk e
  | .streamStop e => commandOk e
  | .streamFlush e => commandOk e
  | .faultRecordClear e => commandOk e
  | .transferIdleTimeout => true
  | .hostResetDelayExpiry => true
  | .mailboxCommand h body => headerOk h body
  | .mailboxFetch h body _ => headerOk h body
  | .commandDispatch => true
  | .notifyHoldoffExpiry _ => true
  | .notifyRepeatExpiry _ => true
  | .sampleInstant _ _ => true
  | .fastConversionComplete _ _ _ => true
  | .shuntWindowSample _ _ _ _ => true
  | .controlStep _ _ => true
  | .atlasLookupResult _ _ => true
  | .atlasResultTimeout _ _ => true
  | .shortBrakeExit _ => true
  | .carrierValley _ _ => true
  | .carrierReload _ _ _ => true
  | .compareMatch _ _ _ => true
  | .offsetScheduleTime _ _ => true
  | .classAInput _ _ _ => true
  | .ascDelayExpiry _ => true
  | .classBTrip _ _ _ => true
  | .islandLinkTimeout _ => true
  | .islandLinkReturn _ => true
  | .partnerLinkTimeout _ => true
  | .islandRailUndervoltage _ => true
  | .islandRailReady _ => true
  | .bootstrapPrimePulse _ => true
  | .edgeMeasured _ _ _ _ _ => true
  | .shortCircuitDetection _ _ _ => true
  | .shortDetectionReport _ => true
  | .softTurnOffStage2 _ => true
  | .softTurnOffEnd _ => true
  | .retryWaitExpiry _ => true
  | .crossCheckRelease _ _ => true
  | .crossCheckCancel _ => true
  | .offsetMeasurementDone _ _ _ => true
  | .legVoltagePeriod _ _ _ _ => true
  | .zeroCrossing _ _ _ _ _ => true
  | .zeroCrossingTimeout _ => true
  | .housekeepingRoundStart => true
  | .housekeepingRoundComplete _ => true
  | .housekeepingRoundTimeout => true
  | .messageInputTimeout _ => true
  | .digitalInputTimeout _ => true
  | .interfaceCauseConfirmed _ _ => true
  | .interfaceValidAgain _ => true
  | .resolverExcitationPeak _ _ _ _ => true
  | .encoderEdge _ _ _ _ _ => true
  | .hallCodeChange _ _ _ => true
  | .sspFrameRequest _ _ _ => true
  | .sspFrameComplete _ _ _ _ => true
  | .captureEdge _ _ _ => true
  | .speedStandstillTimeout _ => true
  | .cellRepair _ cell => Nat.blt cell 33554432
  | .learningUpdate _ cell _ _ _ _ _ loss => Nat.blt cell 33554432 && Nat.ble loss 4095
  | .mtpaRebuildDone _ _ => true
  | .identificationStepEnd _ r => identOk r
  | .checkpointComplete _ _ => true
  | .atlasLoad _ => true
  | .reacqSettleExpiry _ => true
  | .acquisitionWindowEnd _ estimates _ => estimates.all fun a => Nat.blt a 65536
  | .acquisitionTimeout _ => true
  | .resumeHoldExpiry _ => true
  | .placementResult _ _ _ _ => true
  | .interleaveAnnouncementTx => true
  | .interleaveAnnouncementRx a _ => Nat.ble a.bridges.length 4
  | .offsetScheduleRx o _ => Nat.ble o.entries.length 255
  | .partnerTimeout _ => true
  | .listenMinimumExpiry _ => true
  | .listenCeilingExpiry _ => true
  | .rectificationDetected _ => true
  | .saliencySearchTimeout _ => true
  | .chargeLimitExpiry _ => true
  | .disableRampEnd _ => true
  | .safeOffToAsc _ => true
  | .ascToOff _ _ => true
  | .coilPullInExpiry _ => true
  | .weldTestExpiry _ => true
  | .prechargeComplete _ => true
  | .prechargeTimeout => true
  | .mirrorContactChange _ _ => true
  | .prechargeOverlapExpiry => true
  | .contactorOpenCo1 _ => true
  | .contactorOpenCo2 => true
  | .weldCheckExpiry _ => true
  | .dischargeFallTestExpiry _ => true
  | .dischargeComplete _ => true
  | .dischargeTimeout => true
  | .stoInputChange _ _ => true
  | .stoDiscrepancy => true
  | .ss1EnvelopeViolation _ => true
  | .ss1Timeout _ => true
  | .standstillConfirmed _ => true
  | .slsViolation _ => true
  | .slpViolation _ => true
  | .cloveOverspeed _ => true
  | .cloveSpeedDisagreement _ => true
  | .torqueMonitorRun _ _ _ => true
  | .clovePowerCheck _ _ => true
  | .brakeReleaseExpiry => true
  | .brakeFeedbackChange _ _ _ => true
  | .brakeFeedbackTimeout => true
  | .brakeCloseExpiry => true
  | .sumacWindowExpiry _ => true
  | .cloveChannelDisagreement => true
  | .ascLegFailure _ => true
  | .pairWatchdogExpiry _ _ => true
  | .cloveResetRequest => true
  | .lockstepMismatch _ _ => true
  | .pairResetRelease _ => true
  | .comparatorTestDone _ _ => true
  | .cacheUncorrectable _ _ => true
  | .debugAttach _ => true
  | .debugDetach _ => true
  | .benchLimitExceeded _ => true
  | .cloveStartupTestDone _ => true
  | .testAgeReached => true
  | .referenceOscDeparted => true
  | .heartbeatMissed _ => true
  | .dcLinkOvervoltage _ _ => true
  | .coilSupplyLoss => true
  | .portPowerLoss _ => true
  | .portPowerRestore _ => true
  | .podlClassification _ cls => Nat.ble cls 9
  | .auxConverterStart => true
  | .auxConverterStop => true
  | .hvPresentChange _ => true
  | .inputOverBudget => true
  | .busCollapse => true
  | .busSupplyLost => true
  | .domainRailFault _ => true
  | .pllLockLoss _ => true
  | .wakeSourceAssert _ => true
  | .domainReady => true
  | .tc10SleepRequest _ => true
  | .sleepQueueWaitExpiry => true
  | .thermalUpdate _ _ => true
  | .thermalUpdateLate _ => true
  | .dieSensorRead _ _ => true
  | .dieCritical => true
  | .cycleGroupGrant reqs => reqs.all fun r => r.all burstOk
  | .refreshDue => true
  | .nandOperationDone _ _ _ => true
  | .roundBoundary => true
  | .streamTrigger _ samples _ => Nat.ble samples.length 16
  | .linkUp _ _ _ => true
  | .linkDown _ => true
  | .linkTrainingFailed _ _ => true
  | .cableTestTimer _ => true
  | .cableTestDone _ code _ => Nat.ble code 4
  | .frameReceived _ f => Nat.ble f.length 1522
  | .addressAgeing _ => true
  | .ringCheckTx => true
  | .ringCheckRx => true
  | .ringFlushRx _ => true
  | .tc10WakeRx _ => true
  | .mkaChannelChange _ _ => true
  | .lldpTx _ => true
  | .lldpRx _ _ => true
  | .syncReceived _ _ _ => true
  | .announceReceived _ _ _ => true
  | .ptpReceiptTimeout _ _ => true
  | .canFrameReceived _ f => canFrameOk f
  | .canTxTimeout _ slot => Nat.blt slot 16
  | .canErrorStateChange _ tec rec => Nat.ble tec 65535 && Nat.ble rec 65535
  | .busOffRecoveryDelay _ => true
  | .busOffRecovered _ => true
  | .addressClaimTimer _ => true
  | .isotpTimeout _ peer _ => Nat.blt peer 256
  | .selftestInterval _ => true
  | .selftestSliceStart _ inst => Nat.blt inst 24
  | .selftestSliceEnd _ inst _ _ => Nat.blt inst 24
  | .selftestDeadline _ => true
  | .injectArmExpiry => true
  | .injectObservationExpiry => true
  | .epochBoundary _ => true
  | .powerOnReset => true
  | .keepAliveLoss => true
  | .pelaleWatchdogExpiry _ => true
  | .servicePinRelease => true
  | .bootComplete => true
  | .alternateSlotCheckDone => true
  | .firmwareConfirmationTimer => true
  | .pllLockRegained _ => true
  | .slsDecelerationTimeout _ => true
  | .cloveSpeedTimeout _ _ => true
  | .servicePinAssert => true
  | .canFrameSent _ slot => Nat.blt slot 16

end Sys2Proof
end

