-- ==== Sys2Proof/Tests/Slice0.lean ====
section
/-! SUPPORT. The smoke test of WellFormed, one ill-formed term for each check, and small tests whose expected values come from the spec's own
tables and worked examples. The witnesses of the statements' premises stand in the other files of this folder. -/

namespace Sys2Proof.Tests
open Sys2Proof Sys2Proof.Machine
set_option Elab.async false

/-! Well-formed commands -/

theorem test_wf_command : (Instr.torqueSet { ent 1 [0, 0] with tag := 0 }).wf = true := by decide +kernel

/-- An entry carries at most 180 operand words (R400). -/
theorem test_ill_operands : (Instr.paramWrite (ent 2 (.replicate 181 0))).wf = false := by decide +kernel

/-- Only Q0 carries a tag (R400). -/
theorem test_ill_tag : (Instr.driveArm { ent 1 [] with tag := 1 }).wf = false := by decide +kernel

def udp : MailHeader := { transport := .udp, source := 0x0A000001, kind := 1, queue := 2, count := 1, session := 1 }

theorem test_wf_message : (Instr.mailboxCommand udp (.replicate 183 0)).wf = true := by decide +kernel

/-- A message holds at most 1,472 bytes (R401, R476). -/
theorem test_ill_message : (Instr.mailboxCommand udp (.replicate 184 0)).wf = false := by decide +kernel

/-- A CAN source address has 8 bits (R476). -/
theorem test_ill_source : (Instr.mailboxFetch { udp with transport := .c1, source := 256 } [] []).wf = false := by decide +kernel

def burst : Burst := { kind := .data, write := true, addr := 0, words := [1, 2], count := 2, first := 2, stall := 0, flips1 := [], flips2 := [] }
def grant (b : Burst) : Instr := .cycleGroupGrant #v[[b], [], [], [], [], [], [], []]

theorem test_wf_burst : (grant burst).wf = true := by decide +kernel
theorem test_ill_burst_empty : (grant { burst with count := 0, words := [], first := 0 }).wf = false := by decide +kernel
/-- A burst moves at most 8 words (R379). -/
theorem test_ill_burst_long : (grant { burst with count := 9, words := .replicate 9 0 }).wf = false := by decide +kernel
theorem test_ill_burst_first : (grant { burst with first := 3 }).wf = false := by decide +kernel
theorem test_ill_burst_words : (grant { burst with words := [1] }).wf = false := by decide +kernel

def frame : CanFrame := { ident := 0x7FF, extended := false, fd := true, brs := true, remote := false, data := .replicate 64 0 }

theorem test_wf_frame : (Instr.canFrameReceived 0 frame).wf = true := by decide +kernel
/-- A standard identifier has 11 bits, an extended one 29 (R468). -/
theorem test_ill_standard_ident : (Instr.canFrameReceived 0 { frame with ident := 0x800 }).wf = false := by decide +kernel
theorem test_ill_extended_ident : (Instr.canFrameReceived 0 { frame with extended := true, ident := 0x20000000 }).wf = false := by decide +kernel
theorem test_ill_bit_rate : (Instr.canFrameReceived 0 { frame with fd := false, data := [] }).wf = false := by decide +kernel
theorem test_ill_remote : (Instr.canFrameReceived 0 { frame with remote := true }).wf = false := by decide +kernel
theorem test_ill_classic_length : (Instr.canFrameReceived 0 { frame with fd := false, brs := false, data := .replicate 12 0 }).wf = false := by decide +kernel
theorem test_ill_fd_length : (Instr.canFrameReceived 0 { frame with data := .replicate 13 0 }).wf = false := by decide +kernel

/-- An atlas has 2^25 cells (R173). -/
theorem test_ill_ident_cell : (Instr.identificationStepEnd 0 (.cells [(33554432, 0)])).wf = false := by decide +kernel
theorem test_ill_repair_cell : (Instr.cellRepair 0 33554432).wf = false := by decide +kernel
/-- The loss field of a cell has twelve bits (R174). -/
theorem test_ill_learning_loss : (Instr.learningUpdate 0 0 0 0 0 0 0 4096).wf = false := by decide +kernel
theorem test_ill_learning_cell : (Instr.learningUpdate 0 33554432 0 0 0 0 0 0).wf = false := by decide +kernel
theorem test_wf_learning : (Instr.learningUpdate 0 33554431 0 0 0 0 0 4095).wf = true := by decide +kernel
theorem test_ill_estimate : (Instr.acquisitionWindowEnd 0 [0, 65536] 0).wf = false := by decide +kernel

def announcement (n : Nat) : Announcement :=
  { version := 1, serial := 1, dcLink := 1, rank := 0, domain := 1, bridges := .replicate n { bridge := 1, reload := 0, period := 0, current := 0 } }

theorem test_wf_announcement : (Instr.interleaveAnnouncementRx (announcement 4) .ethernet).wf = true := by decide +kernel
theorem test_ill_announcement : (Instr.interleaveAnnouncementRx (announcement 5) .ethernet).wf = false := by decide +kernel
/-- The count of entries is one byte (R456). -/
theorem test_ill_schedule :
    (Instr.offsetScheduleRx { version := 1, leader := 1, dcLink := 1, time := 0, entries := .replicate 256 ⟨1, 1, 0⟩ } .ethernet).wf = false := by decide +kernel
theorem test_ill_class : (Instr.podlClassification 0 10).wf = false := by decide +kernel
/-- A stream has at most 16 channels (R412). -/
theorem test_ill_samples : (Instr.streamTrigger 0 (.replicate 17 0) 0).wf = false := by decide +kernel
theorem test_ill_cable : (Instr.cableTestDone 0 5 0).wf = false := by decide +kernel
theorem test_ill_length : (Instr.frameReceived 0 ⟨.other, 0, 0, 1523, false, true, true⟩).wf = false := by decide +kernel
theorem test_ill_buffer : (Instr.canTxTimeout 0 16).wf = false := by decide +kernel
theorem test_ill_sent : (Instr.canFrameSent 0 16).wf = false := by decide +kernel
theorem test_ill_tec : (Instr.canErrorStateChange 0 65536 0).wf = false := by decide +kernel
theorem test_ill_rec : (Instr.canErrorStateChange 0 0 65536).wf = false := by decide +kernel
theorem test_ill_peer : (Instr.isotpTimeout 0 256 .nAs).wf = false := by decide +kernel
theorem test_ill_slice_start : (Instr.selftestSliceStart 0 24).wf = false := by decide +kernel
theorem test_ill_slice_end : (Instr.selftestSliceEnd 0 24 true 0).wf = false := by decide +kernel

/-! Values of the spec's worked examples and tables -/

/-- The check value of the IEEE 802.3 CRC-32 over the nine digits (R200 names that CRC). -/
theorem test_crc32 : crc32 [0x31, 0x32, 0x33, 0x34, 0x35, 0x36, 0x37, 0x38, 0x39] = 0xCBF43926 := by decide +kernel

/-- Machine A: 20,000 Hz gives TOP 10,000; machine B: 16,000 Hz gives 12,500 (R42). -/
theorem test_top : topOf 0 20000 = 10000 ∧ topOf 0 16000 = 12500 ∧ topOf 1 16000 = 25000 := by decide +kernel

/-- Cell d = 64, q = 200, a = 37, t = 2 has index 0x0112_E440, and that of M2 lies at 0x0312_E440 (R173). -/
theorem test_cell : cellIndex 2 37 200 64 = 0x0112E440 ∧ cellAddr 1 (cellIndex 2 37 200 64) = 0x0312E440 := by decide +kernel

/-- Position index 14 is L7L, the low side of phase U of bridge B3 (R8). -/
theorem test_position : brOfPos 13 = 2 ∧ slotOfPos 13 = 1 ∧ legOfPos 13 = 6 ∧ isHigh 13 = false := by decide +kernel

/-- The first sixteen slots of the default base table (R384). -/
theorem test_slots : (List.range 16).map slotDefault = [0, 3, 1, 6, 0, 4, 2, 5, 0, 3, 1, 6, 0, 4, 2, 7] := by decide +kernel

/-- Gray code 1010 is 1100. -/
theorem test_gray : grayToBinary 4 10 = 12 := by decide +kernel

/-- A unit whose group M1 runs at a carrier frequency. -/
def atHz (f : Int) : State :=
  let s := putObj 0x2010 1 f quad
  { s with br := s.br.map fun (x : Bridge) => { x with car := { x.car with top := topOf 0 f.toNat } } }

/-- Machine A at 20 kHz: the torque monitor bound is 120 µs; machine B at 16 kHz: the SLS bound reads 1,083 (R270). -/
theorem test_bounds : (atHz 20000).torqueBound 0 = 120 ∧ (atHz 16000).speedBound 0 = 1083 := by decide +kernel

/-- A unit whose islands of M1 measure a gate charge, with gate voltages in 0.1 V. -/
def charged (nC : Nat) (up down : Int) : State :=
  let s := putObj 0x3000 1 up (putObj 0x3001 1 down quad)
  { s with br := s.br.map fun (x : Bridge) => { x with pos := x.pos.map fun (p : Position) => { p with charge := [nC] } } }

/-- Machine A, 1,900 nC and 23 V: an island ceiling of 68,600 Hz; machine B, 1,100 nC and 22 V: none (R344). -/
theorem test_island_ceiling : (charged 1900 180 (-50)).islandTarget 0 = 68600 ∧ (charged 1100 180 (-40)).islandTarget 0 = 0 := by decide +kernel

/-! Single steps -/

/-- No word spells a command, and an empty queue idles. -/
theorem test_no_words : decodeTableWord 64 0 = none ∧ (State.reset.withFetchWord 64 0).pending = [] := by decide +kernel

/-- A property of the state after one step. -/
def stepped (c : Instr) (s : State) (p : State → Bool) : Bool :=
  match step { s with pending := [c] } with
  | .next t => p t && t.pending.isEmpty
  | _ => false

/-- A refresh that is due goes first (R383). -/
theorem test_refresh : stepped .refreshDue State.reset (·.arb.refresh) = true := by decide +kernel

/-- PARAM.WRITE of 0xE000.01 from Q2: stored at once, active only at the next epoch (R15, R427, R497). -/
theorem test_param_write :
    stepped (.paramWrite (ent 2 [BitVec.ofNat 64 (0xE000 + 65536 * 1 + 16777216 * 3), 500, 0])) (keyed quad)
      (fun t => t.sto 0xE000 1 == 500 && t.act 0xE000 1 == 1000) = true := by decide +kernel

/-- A Q0 command on Q2 is refused and sets nothing (R421). -/
theorem test_wrong_queue : stepped (.ss1Request (ent 2 [15])) runQ (fun t => t.br == runQ.br && t.gr == runQ.gr) = true := by decide +kernel

/-- A short-circuit input takes its bridge out of RUN, and no other (R68, R70). -/
theorem test_class_a : stepped (.classAInput .shortCircuit 2 true) runQ
    (fun t => t.br[2].state != .run && t.br[0].state == .run && t.br[3].state == .run) = true := by decide +kernel

end Sys2Proof.Tests
end

