-- ==== Sys2Proof/Tests/Stage.lean ====
section
/-! SUPPORT. States and operands that meet the premises of the statements on the pulse engine, islands, measurement and position feedback: `has_X_i_j` is for clause i, j of X. -/

namespace Sys2Proof.Tests.Stage
open Sys2Proof Sys2Proof.Machine
set_option Elab.async false

/-- The pulse engine has no clock. -/
def pd4off (s : State) : State := { s with pwr := { s.pwr with domains := s.pwr.domains.set 4 false } }
def inVal (s : State) : State := { s with sense := { s.sense with inputs := s.sense.inputs.map fun (i : Input) => { i with valid := true } } }
def swb : State := { runQ with br := runQ.br.map fun (x : Bridge) => { x with car := { x.car with active := some ⟨#v[100,100,100], #v[100,100,100], .replicate 3 0, .replicate 3 0, .replicate 3 0, false⟩ } } }
def qon : State := { runQ with br := runQ.br.map fun (x : Bridge) => { x with pos := x.pos.map fun (p : Position) => { p with on := true, linkValid := true, partnerKnown := true, railReady := true } } }
def ring (f : Ctl → Ctl) (s : State) : State := { s with br := s.br.map fun (x : Bridge) => { x with ctl := f x.ctl } }
def opn : State := ring (fun y => { y with opened := true, lookup := true, shortNow := true }) runQ
def resum : State := { runQ with br := runQ.br.map fun (x : Bridge) => { x with ctl := { x.ctl with opened := true }, meas := { x.meas with piFresh := .replicate 3 true }, force := { x.force with sources := [(.reacquisition, 3)], pattern := 2 }, state := .safeAsc }, gr := runQ.gr.map fun (x : Group) => { x with reacq := { x.reacq with phase := 3 } } }
def shortS : State := { ring (fun y => { y with shortSide := 1 }) runQ with gr := runQ.gr.map fun (x : Group) => { x with shortOff := some 5 } }
def sched : State := { quad with br := quad.br.map fun (x : Bridge) => { x with car := { x.car with schedule := some (77, 0) } } }
def ascD : State := { quad with br := quad.br.map fun (x : Bridge) => { x with state := .safeAsc, force := { x.force with pattern := 2, sources := [(.cloveRequest, 3)], ascTo := some 2 } } }
def ifaceS (f : Iface → Iface) (s : State) : State := { s with sense := { s.sense with iface := s.sense.iface.map f } }
def asg : State := ifaceS (fun i => { i with valid := true, code := 1 }) (putObj 0x5000 1 5 (putObj 0x5000 2 1 (putObj 0x5000 3 3 (putObj 0x5000 4 7 quad))))
def posS (f : Position → Position) (s : State) : State := { s with br := s.br.map fun (x : Bridge) => { x with pos := x.pos.map f } }
/-- One group of four bridges whose atlas holds the cells about the point of the step. -/
def lookS : State :=
  let s := putObj 0x1100 1 3 opn
  let p := (s.pointOf 0 s.br[1].ctl.id s.br[1].ctl.iq s.br[1].ctl.theta s.br[1].ctl.askTemp).1
  { s with mem := corners.foldl (fun m k => m.setDramWord (cellAddr 0 (p.index k)) 0xF000000000000000) s.mem }
def shadS : State := { swb with br := swb.br.map fun (x : Bridge) => { x with car := { x.car with shadow := x.car.active } } }
/-- The event of a capture still waits in Q10. -/
def heldS : State :=
  let s : State := modOut 10 (fun o => { o with entries := [.event ⟨0x5020, 4, 0, 5, ⟨0, 0, 0⟩, []⟩] }) (putObj 0x5050 3 2 (putObj 0x5050 1 3 quad))
  { s with sense := { s.sense with capture := .replicate 2 { last := 0, outstanding := some 5 } } }
/-- Offset measurements have begun. -/
def offM (s : State) : State := { s with sense := { s.sense with offsetRun := true } }
theorem natAbs_signed (z : Int) : (toSigned 16 (ofSigned 16 z)).natAbs ≤ 65535 := by
  have h (u : Nat) (hu : u < 65536) : (if 32768 ≤ u then (u : Int) - 65536 else u).natAbs ≤ 65535 := by
    by_cases c : 32768 ≤ u
    · rw [if_pos c]; omega
    · rw [if_neg c]; omega
  exact h _ (Nat.mod_lt _ (by decide))
theorem look_some : (lookS.lookup 0 lookS.br[1].ctl.id lookS.br[1].ctl.iq lookS.br[1].ctl.theta lookS.br[1].ctl.askTemp).isSome = true := by decide +kernel
/-- A step of bridge 1 in one group of four has its currents. -/
def stepS : State := ring (fun y => { y with opened := true }) { putObj 0x1100 1 3 runQ with br := (putObj 0x1100 1 3 runQ).br.map fun (x : Bridge) => { x with meas := { x.meas with piFresh := .replicate 3 true } } }
/-- Every leg has edges 100 ticks about the peak. -/
def edgS : State := { swb with br := swb.br.map fun (x : Bridge) => { x with car := { x.car with top := 20000 }, legs := x.legs.map fun (l : Leg) => { l with up := 100, dn := 100 }, pos := x.pos.map fun (p : Position) => { p with railReady := true, linkValid := true, partnerKnown := true, driveEnable := true } } }
def schD : State := { shadS with br := shadS.br.map fun (x : Bridge) => { x with car := { x.car with schedule := some (70000, 0), due := true } } }

theorem has_MeasurementRows_0 :
    ∃ (s : State) (l : LegId) (code : BitVec 16),
      (s.pulseOn = true) ∧ (s.test.inject = []) ∧ (s.unusedPhase (brOfLeg l) ≠ some (phaseOfLeg l)) ∧ ((s.checked (piInput (brOfLeg l) (phaseOfLeg l)) (s.sifted (piInput (brOfLeg l) (phaseOfLeg l)) (s.piAmps l code))).2 = 0) :=
  ⟨quad, 4, 0x4000#16, by decide +kernel⟩

theorem has_MeasurementRows_1 :
    ∃ (s : State) (code : BitVec 16),
      (s.pulseOn = true) ∧ (s.test.inject = []) ∧ (s.cont.vector = none) ∧ (s.sense.inputs[shuntInput].valid = true) ∧ ((s.checked shuntInput (s.sifted shuntInput (s.shuntAmps code))).2 = 0) :=
  ⟨quad, 0x4000#16, by decide +kernel⟩

theorem has_MeasurementRows_2 :
    ∃ (s : State) (code : BitVec 16),
      (s.pulseOn = true) ∧ (s.test.inject = []) ∧ ((s.checked udcInput (s.sifted udcInput (udcVolts code))).2 = 0) ∧ (s.sense.inputs[udcInput].valid = true) :=
  ⟨(inVal quad), 0x4000#16, by decide +kernel⟩

theorem has_MeasurementRows_4_0 :
    ∃ (s : State) (pi : Vector ℤ 12) (bemf : Vector ℕ 12) (shunt : ℤ),
      (∀ (l : LegId), s.offsetFails pi[l] bemf[l] = false) ∧ ((↑shunt.natAbs : ℤ) ≤ s.act 16405 1) ∧ (s.sense.offsetRun = false) :=
  ⟨quad, (.replicate 12 5), (.replicate 12 0), 3, by decide +kernel⟩

theorem has_MeasurementRows_4_1 :
    ∃ (s : State) (pi : Vector ℤ 12) (bemf : Vector ℕ 12) (shunt : ℤ),
      (∀ (l : LegId), s.offsetFails pi[l] bemf[l] = false) ∧ ((↑shunt.natAbs : ℤ) ≤ s.act 16405 1) ∧ (s.pulseOn = true) ∧ (s.sense.offsetRun = true) ∧ (∀ (b : BridgeId), s.allOff b = true) :=
  ⟨(offM quad), (.replicate 12 5), (.replicate 12 0), 3, by decide +kernel⟩

theorem has_MeasurementRows_4_2 :
    ∃ (s : State) (pi : Vector ℤ 12) (bemf : Vector ℕ 12) (shunt : ℤ),
      (∀ (l : LegId), s.offsetFails pi[l] bemf[l] = false) ∧ ((↑shunt.natAbs : ℤ) ≤ s.act 16405 1) ∧ (s.pulseOn = true) ∧ (s.sense.offsetRun = true) ∧ (∃ (b : BridgeId), s.allOff b = false) :=
  ⟨(offM qon), (.replicate 12 5), (.replicate 12 0), 3, by decide +kernel⟩

theorem has_MeasurementRows_5 :
    ∃ (s : State) (l : LegId) (mean : ℕ),
      (s.pulseOn = true) ∧ ((s.checked (lvInput l) (s.sifted (lvInput l) ((↑mean : ℚ) / 10))).2 = 0) ∧ (s.sense.inputs[lvInput l].valid = true) :=
  ⟨(inVal quad), 4, 3000, by decide +kernel⟩

theorem has_MeasurementRows_6 :
    ∃ (s : State) (b : BridgeId) (k : Fin 3) (rising : Bool) (legs : Vector ℕ 3),
      (s.allOff b = true) ∧ (s.br[b].bemf.clampFlag = false) ∧ (s.passes b k rising (phaseAmp legs k) = true) ∧ (s.br[b].start.phase ≠ 1 ∨ s.br[b].bemf.seen < 8) :=
  ⟨quad, 2, 1, true, (#v[0, 600, 0]), by decide +kernel⟩

theorem has_MeasurementRows_7 :
    ∃ (s : State) (b : BridgeId),
      (s.allOff b = true) :=
  ⟨quad, 2, by decide +kernel⟩

theorem has_ControlStepRows_0 :
    ∃ (s : State) (b : BridgeId) (g : GroupId) (t0 : ℕ),
      (s.groupOf b = some g) ∧ (s.sampleHalf b t0 = none ∨ s.pulseOn = false) :=
  ⟨runQ, 1, 1, 1000, by decide +kernel⟩

theorem has_ControlStepRows_1_0 :
    ∃ (s : State) (b : BridgeId) (g : GroupId) (t0 : ℕ) (h : ℕ × Bool),
      (s.groupOf b = some g) ∧ (s.sampleHalf b t0 = some h) ∧ (s.pulseOn = true) ∧ (s.br[b].ctl.opened = false ∨ s.br[b].ctl.gotRef = true) :=
  ⟨runQ, 1, 1, runQ.br[1].car.top, (0, true), by decide +kernel⟩

theorem has_ControlStepRows_1_1 :
    ∃ (s : State) (b : BridgeId) (g : GroupId) (t0 : ℕ) (h : ℕ × Bool),
      (s.groupOf b = some g) ∧ (s.sampleHalf b t0 = some h) ∧ (s.pulseOn = true) ∧ (s.br[b].ctl.opened = true) ∧ (s.br[b].ctl.gotRef = false) ∧ (s.br[b].ctl.lost = false) ∧ (s.br[b].ctl.abandoned + 1 < s.actN 28705 1) :=
  ⟨opn, 1, 1, runQ.br[1].car.top, (0, true), by decide +kernel⟩

theorem has_ControlStepRows_2_0 :
    ∃ (s : State) (b : BridgeId) (g : GroupId),
      (s.groupOf b = some g) ∧ (s.watchBridge g ≠ some b) ∧ (s.br[b].ctl.opened = true) ∧ (s.br[b].ctl.lookup = false) ∧ (s.br[b].ctl.gotRef = false) ∧ (s.br[b].ctl.lost = false) ∧ (s.br[b].meas.piFresh = Vector.replicate 3 true) ∧ (s.br[b].meas.sampleAt ≤ s.drive.udcAt) ∧ (s.br[b].meas.sampleAt ≤ s.drive.shuntAt) ∧ (s.gr[g].reacq.phase ≠ 2) ∧ (s.coresOn = true) ∧ (s.resuming b = true) :=
  ⟨(putObj 0x1100 1 3 resum), 1, 0, by decide +kernel⟩

theorem has_ControlStepRows_2_1 :
    ∃ (s : State) (b : BridgeId) (g : GroupId),
      (s.groupOf b = some g) ∧ (s.watchBridge g ≠ some b) ∧ (s.br[b].ctl.opened = true) ∧ (s.br[b].ctl.lookup = false) ∧ (s.br[b].ctl.gotRef = false) ∧ (s.br[b].ctl.lost = false) ∧ (s.br[b].meas.piFresh = Vector.replicate 3 true) ∧ (s.br[b].meas.sampleAt ≤ s.drive.udcAt) ∧ (s.br[b].meas.sampleAt ≤ s.drive.shuntAt) ∧ (s.gr[g].reacq.phase ≠ 2) ∧ (s.coresOn = true) ∧ (s.resuming b = false) ∧ (s.br[b].state = BrState.run) ∧ (s.br[b].force.pattern = 0) ∧ ((s.running g).head? ≠ some b) ∧ (s.gone g = []) ∧ (s.br[b].start.phase ≠ 3) ∧ (s.br[b].start.phase ≠ 4) ∧ (s.br[b].meas.mode = 0) ∧ (s.allowedMode b = 0) ∧ (s.sumFails b = false) ∧ (s.br[b].meas.inValid + 1 < s.actN 16417 5) ∧ (s.br[b].meas.inTwo + 1 < s.actN 16417 5) ∧ (s.br[b].meas.implausible = false) ∧ (∀ (k : Fin 3), s.br[b].legs[k].held = false) ∧ (∀ (k : Fin 6), s.br[b].pos[k].latched = false) :=
  ⟨stepS, 1, 0, by decide +kernel⟩

theorem has_ControlStepRows_3_0 :
    ∃ (s : State) (b : BridgeId) (g : GroupId) (l : Look),
      (s.groupOf b = some g) ∧ (s.br[b].ctl.opened = true) ∧ (s.br[b].ctl.lookup = true) ∧ (s.br[b].ctl.lost = false) ∧ ((s.running g).head? ≠ some b) ∧ (s.br[b].ctl.shortNow = true) ∧ (∀ (x : Fin 4 × ℚ), s.gr[g].slewNew = some x → x.1 ≠ b) ∧ (s.lookup g s.br[b].ctl.id s.br[b].ctl.iq s.br[b].ctl.theta s.br[b].ctl.askTemp = some l) ∧ (s.engineOn = true) ∧ (s.served b = true) :=
  ⟨lookS, 1, 0, (lookS.lookup 0 lookS.br[1].ctl.id lookS.br[1].ctl.iq lookS.br[1].ctl.theta lookS.br[1].ctl.askTemp).get look_some, by decide +kernel⟩

theorem has_ControlStepRows_3_1 :
    ∃ (s : State) (b : BridgeId) (g : GroupId),
      (s.groupOf b = some g) ∧ (s.br[b].ctl.opened = true) ∧ (s.br[b].ctl.lookup = true) ∧ (s.br[b].ctl.lost = false) ∧ ((s.running g).head? ≠ some b) ∧ (s.br[b].ctl.shortNow = true) ∧ (∀ (x : Fin 4 × ℚ), s.gr[g].slewNew = some x → x.1 ≠ b) ∧ (s.br[b].ctl.staleLast = false) :=
  ⟨lookS, 1, 0, by decide +kernel⟩

theorem has_ControlStepRows_4 :
    ∃ (s : State) (b : BridgeId) (g : GroupId),
      (s.groupOf b = some g) ∧ (s.br[b].ctl.opened = true) ∧ (s.br[b].ctl.lookup = true) ∧ (s.br[b].ctl.lost = false) ∧ (s.br[b].ctl.staleLast = true) :=
  ⟨(ring (fun y => { y with staleLast := true }) opn), 1, 1, by decide +kernel⟩

theorem has_ControlStepRows_5 :
    ∃ (s : State) (b : BridgeId) (g : GroupId) (t1 : ℕ),
      (s.groupOf b = some g) ∧ (s.gr[g].shortOff = some t1) ∧ (s.br[b].ctl.shortSide ≠ 0) :=
  ⟨shortS, 2, 2, 5, by decide +kernel⟩

theorem has_CarrierRows_0 :
    ∃ (s : State),
      (s.pulseOn = false) :=
  ⟨(pd4off runQ), by decide +kernel⟩

theorem has_CarrierRows_1 :
    ∃ (s : State) (b : BridgeId),
      (s.pulseOn = true) ∧ (s.test.inject = []) ∧ (∀ (k : Fin 3), s.actN (16640 + (↑(lvInput (legOf b k)) : ℕ)) 9 = 0) :=
  ⟨(putObj 0x4113 9 0 (putObj 0x4114 9 0 (putObj 0x4115 9 0 runQ))), 1, by decide +kernel⟩

theorem has_CarrierRows_2 :
    ∃ (s : State) (b : BridgeId) (atPeak : Bool),
      (s.isReload b atPeak = false ∨ s.pulseOn = false) :=
  ⟨runQ, 1, true, by decide +kernel⟩

theorem has_CarrierRows_3 :
    ∃ (s : State) (b : BridgeId) (atPeak : Bool) (c : CompareSet),
      (s.pulseOn = true) ∧ (s.isReload b atPeak = true) ∧ (s.br[b].force.sources = []) ∧ (s.br[b].car.shadow = some c) ∧ (s.br[b].car.skip = false) ∧ (s.test.inject = []) :=
  ⟨schD, 1, false, (⟨#v[100,100,100], #v[100,100,100], .replicate 3 0, .replicate 3 0, .replicate 3 0, false⟩), by decide +kernel⟩

theorem has_CarrierRows_4_0 :
    ∃ (s : State) (b : BridgeId) (t0 : ℕ) (l : LegId) (rising : Bool),
      (brOfLeg l = b) ∧ (s.switching b = true) ∧ ((s.leg l).cut = none) ∧ (s.test.inject = []) ∧ ((s.leg l).ref = !rising) ∧ (s.edgeAt l rising = some t0) :=
  ⟨edgS, 1, 19900, 4, true, by decide +kernel⟩

theorem has_CarrierRows_4_0_a :
    ∃ (s : State) (b : BridgeId) (t0 : ℕ) (l : LegId) (rising : Bool),
      (brOfLeg l = b) ∧ (s.switching b = true) ∧ ((s.leg l).cut = none) ∧ (s.test.inject = []) ∧ ((s.leg l).ref = !rising) ∧ (s.edgeAt l rising = some t0) :=
  ⟨({ edgS with br := edgS.br.map fun (x : Bridge) => { x with legs := x.legs.map fun (l : Leg) => { l with ref := true } } }), 1, 20100, 4, false, by decide +kernel⟩

theorem has_CarrierRows_4_1 :
    ∃ (s : State) (b : BridgeId) (t0 : ℕ) (l : LegId) (rising : Bool),
      (brOfLeg l = b) ∧ (s.switching b = false ∨ (s.leg l).cut ≠ none ∨ (s.leg l).ref = rising ∨ s.edgeAt l rising ≠ some t0) :=
  ⟨edgS, 1, 19901, 4, true, by decide +kernel⟩

theorem has_CarrierRows_5_0 :
    ∃ (s : State) (b : BridgeId) (t0 : ℕ) (o : ℕ) (at0 : ℕ),
      (s.br[b].car.schedule = some (o, at0)) ∧ (at0 ≤ s.time.at t0) :=
  ⟨sched, 1, 1000, 77, 0, by decide +kernel⟩

theorem has_CarrierRows_5_1 :
    ∃ (s : State) (b : BridgeId) (t0 : ℕ) (o : ℕ) (at0 : ℕ),
      (s.br[b].car.schedule = some (o, at0)) ∧ (s.time.at t0 < at0) :=
  ⟨({ sched with br := quad.br.map fun (x : Bridge) => { x with car := { x.car with schedule := some (77, 100000000000000) } } }), 1, 1000, 77, 100000000000000, by decide +kernel⟩

theorem has_ClassAAndClassBRows_0_0 :
    ∃ (s : State) (b : BridgeId) (src : ClassASource),
      (src = ClassASource.shortCircuit ∨ src = ClassASource.cloveRequest) ∧ (s.br[b].force.sources = []) ∧ (s.br[b].force.pattern = 0) ∧ (s.br[b].state ≠ BrState.lockout) ∧ (∀ (g : GroupId), s.groupOf b = some g → s.gr[g].reacq.phase = 0) :=
  ⟨runQ, 1, .shortCircuit, by decide +kernel⟩

theorem has_ClassAAndClassBRows_0_0_a :
    ∃ (s : State) (b : BridgeId) (src : ClassASource),
      (src = ClassASource.shortCircuit ∨ src = ClassASource.cloveRequest) ∧ (s.br[b].force.sources = []) ∧ (s.br[b].force.pattern = 0) ∧ (s.br[b].state ≠ BrState.lockout) ∧ (∀ (g : GroupId), s.groupOf b = some g → s.gr[g].reacq.phase = 0) :=
  ⟨quad, 1, .cloveRequest, by decide +kernel⟩

theorem has_ClassAAndClassBRows_0_1 :
    ∃ (src : ClassASource),
      (srcDrive src = false) :=
  ⟨.cloveRequest, by decide +kernel⟩

theorem has_ClassAAndClassBRows_0_2 :
    ∃ (s : State) (b : BridgeId),
      (s.br[b].force.ascTo = none) :=
  ⟨quad, 1, by decide +kernel⟩

theorem has_ClassAAndClassBRows_0_3 :
    ∃ (s : State) (b : BridgeId) (p : Fin 4),
      (s.br[b].force.ascTo = some p) ∧ (s.test.inject = []) :=
  ⟨ascD, 1, 2, by decide +kernel⟩

theorem has_ClassAAndClassBRows_0_4 :
    ∃ (s : State) (b : BridgeId),
      (s.inAsc b = false) :=
  ⟨quad, 1, by decide +kernel⟩

theorem has_ClassAAndClassBRows_1_0 :
    ∃ (s : State) (l : LegId) (t0 : ℕ),
      (s.switching (brOfLeg l) = false ∨ (s.leg l).cut ≠ none ∨ t0 < (s.leg l).lastEdge + s.actBN (brOfLeg l) 8272 5) :=
  ⟨quad, 4, 1000, by decide +kernel⟩

theorem has_ClassAAndClassBRows_1_1 :
    ∃ (s : State) (l : LegId) (t0 : ℕ),
      (s.switching (brOfLeg l) = true) ∧ ((s.leg l).cut = none) ∧ ((s.leg l).lastEdge + s.actBN (brOfLeg l) 8272 5 ≤ t0) ∧ (s.test.inject = []) ∧ ((s.leg l).cutSeen = false) ∧ ((s.leg l).cutRun + 1 ≠ 8) :=
  ⟨swb, 4, 100000, by decide +kernel⟩

theorem has_ClassAAndClassBRows_1_1_a :
    ∃ (s : State) (l : LegId) (t0 : ℕ),
      (s.switching (brOfLeg l) = true) ∧ ((s.leg l).cut = none) ∧ ((s.leg l).lastEdge + s.actBN (brOfLeg l) 8272 5 ≤ t0) ∧ (s.test.inject = []) ∧ ((s.leg l).cutSeen = false) ∧ ((s.leg l).cutRun + 1 ≠ 8) :=
  ⟨swb, 4, 100000, by decide +kernel⟩

theorem has_IslandRows_0_0 :
    ∃ (s : State) (p : PosId) (b : BridgeId),
      (brOfPos p = b) ∧ (s.inAsc b = false) :=
  ⟨qon, 8, 1, by decide +kernel⟩

theorem has_IslandRows_0_1 :
    ∃ (s : State) (p : PosId) (b : BridgeId),
      (brOfPos p = b) ∧ ((s.pos p).linkValid = false) :=
  ⟨quad, 8, 1, by decide +kernel⟩

theorem has_IslandRows_0_2 :
    ∃ (p : PosId) (b : BridgeId),
      (brOfPos p = b) :=
  ⟨8, 1, by decide +kernel⟩

theorem has_IslandRows_0_3 :
    ∃ (s : State) (p : PosId) (b : BridgeId),
      (brOfPos p = b) ∧ (s.inAsc b = false) ∧ ((s.pos p).railUv = false) ∧ ((s.pos p).on = false) ∧ ((s.pos p).hold = none) :=
  ⟨quad, 8, 1, by decide +kernel⟩

theorem has_IslandRows_0_4 :
    ∃ (s : State) (p : PosId) (b : BridgeId),
      (brOfPos p = b) ∧ (s.br[b].start.phase ≠ 2) ∧ (s.br[b].start.phase ≠ 4) :=
  ⟨quad, 8, 1, by decide +kernel⟩

theorem has_IslandRows_0_5 :
    ∃ (s : State) (p : PosId) (b : BridgeId),
      (brOfPos p = b) ∧ (s.br[b].start.phase = 2) ∧ (s.br[b].start.pulses + 1 < s.actN 12368 2) ∧ (s.test.inject = []) ∧ (∀ (k : Fin 6), s.br[b].pos[k].hold = none) :=
  ⟨({ quad with br := quad.br.map fun (x : Bridge) => { x with start := { x.start with phase := 2 } } }), 8, 1, by decide +kernel⟩

theorem has_IslandRows_1 :
    ∃ (s : State) (p : PosId),
      ((s.pos p).railUv = false) ∧ (s.conducts p = true) ∧ (s.inAsc (brOfPos p) = false) :=
  ⟨qon, 8, by decide +kernel⟩

theorem has_EdgeAndShortCircuitRows_0 :
    ∃ (s : State) (p : PosId),
      (s.pulseOn = true) ∧ (|s.br[brOfPos p].meas.pi[phaseOfLeg (legOfPos p)]| < s.actR 12370 1) :=
  ⟨quad, 8, by decide +kernel⟩

theorem has_EdgeAndShortCircuitRows_1 :
    ∃ (s : State) (p : PosId) (dv : ℕ),
      (s.pulseOn = true) ∧ (s.actR 12370 1 ≤ |s.br[brOfPos p].meas.pi[phaseOfLeg (legOfPos p)]|) ∧ (dv ≤ s.actBN (brOfPos p) 12369 ((↑(s.groupFor (brOfPos p)) : ℕ) + 1)) :=
  ⟨({ quad with br := quad.br.map fun (x : Bridge) => { x with meas := { x.meas with pi := .replicate 3 1000 } } }), 8, 50, by decide +kernel⟩

theorem has_EdgeAndShortCircuitRows_2_0 :
    ∃ (s : State) (p : PosId) (desat : Bool) (t0 : ℕ),
      ((setNow t0 s).conducts p = true) ∧ (desat = true → (setNow t0 s).blanked p = false) ∧ ((s.pos p).detected = none) ∧ ((s.pos p).soft = 0) :=
  ⟨qon, 8, true, 1000, by decide +kernel⟩

theorem has_EdgeAndShortCircuitRows_2_1 :
    ∃ (s : State) (p : PosId) (desat : Bool) (t0 : ℕ),
      ((setNow t0 s).armed p = false ∨ desat = true ∧ (setNow t0 s).blanked p = true) :=
  ⟨quad, 8, true, 1000, by decide +kernel⟩

theorem has_EdgeAndShortCircuitRows_3 :
    ∃ (s : State) (p : PosId),
      ((s.pos p).soft = 1) :=
  ⟨(posS (fun p => { p with soft := 1 }) quad), 8, by decide +kernel⟩

theorem has_EdgeAndShortCircuitRows_4 :
    ∃ (s : State) (p : PosId),
      ((s.pos p).soft ≠ 0) :=
  ⟨(posS (fun p => { p with soft := 1 }) quad), 8, by decide +kernel⟩

theorem has_EdgeAndShortCircuitRows_5 :
    ∃ (s : State) (p : PosId) (t1 : ℕ),
      ((s.pos p).retry = some t1) :=
  ⟨(posS (fun p => { p with retry := some 9 }) quad), 8, 9, by decide +kernel⟩

theorem has_DetectionAndCrossCheckRows_0_0 :
    ∃ (s : State) (p : PosId) (t1 : ℕ),
      ((s.pos p).detected = some t1) ∧ ((s.pos p).reported = true) :=
  ⟨(posS (fun p => { p with detected := some 9, reported := true }) quad), 8, 9, by decide +kernel⟩

theorem has_DetectionAndCrossCheckRows_0_1 :
    ∃ (s : State) (p : PosId) (t1 : ℕ),
      ((s.pos p).detected = some t1) ∧ ((s.pos p).reported = false) ∧ (s.br[brOfPos p].state = BrState.run) ∧ (s.br[brOfPos p].force.sources = []) ∧ (s.inAsc (brOfPos p) = false) ∧ (s.br[brOfPos p].start.phase ≠ 2) ∧ (s.nearby p t1 = []) ∧ ((s.pos (partnerPos p)).retry = none) :=
  ⟨(modPos 8 (fun p => { p with detected := some 9 }) qon), 8, 9, by decide +kernel⟩

theorem has_DetectionAndCrossCheckRows_1_0 :
    ∃ (s : State) (p : PosId),
      ((s.pos p).hold = none) :=
  ⟨quad, 8, by decide +kernel⟩

theorem has_DetectionAndCrossCheckRows_1_1 :
    ∃ (s : State) (p : PosId) (h : ℕ),
      ((s.pos p).hold = some h) :=
  ⟨(posS (fun p => { p with hold := some 9 }) qon), 8, 9, by decide +kernel⟩

theorem has_DetectionAndCrossCheckRows_1_2 :
    ∃ (s : State) (p : PosId) (h : ℕ),
      ((s.pos p).hold = some h) ∧ (s.inAsc (brOfPos p) = false) ∧ ((s.leg (legOfPos p)).cancelSeen = false) ∧ ((s.leg (legOfPos p)).fault = 0) :=
  ⟨(posS (fun p => { p with hold := some 9 }) qon), 8, 9, by decide +kernel⟩

theorem has_DetectionAndCrossCheckRows_1_2_a :
    ∃ (s : State) (p : PosId) (h : ℕ),
      ((s.pos p).hold = some h) ∧ (s.inAsc (brOfPos p) = false) ∧ ((s.leg (legOfPos p)).cancelSeen = false) ∧ ((s.leg (legOfPos p)).fault = 0) :=
  ⟨({ posS (fun p => { p with hold := some 9 }) qon with br := (posS (fun p => { p with hold := some 9 }) qon).br.map fun (x : Bridge) => { x with legs := x.legs.map fun (l : Leg) => { l with cancelRun := 2 } } }), 8, 9, by decide +kernel⟩

theorem has_InterfaceAndCaptureRows_0_0 :
    ∃ (s : State) (i : IfId),
      (s.sense.iface[i].valid = true) ∧ (s.assigned i = true) ∧ (∀ (g : GroupId), s.ifaceGroup i = some g → s.gr[g].pos.src ≠ ifaceCode i) :=
  ⟨asg, 4, by decide +kernel⟩

theorem has_InterfaceAndCaptureRows_0_1 :
    ∃ (s : State) (i : IfId),
      (s.sense.iface[i].valid = false ∨ s.assigned i = false) :=
  ⟨quad, 4, by decide +kernel⟩

theorem has_InterfaceAndCaptureRows_0_2 :
    ∃ (s : State) (i : IfId),
      (s.sense.iface[i].valid = false) :=
  ⟨(ifaceS (fun i => { i with valid := false }) quad), 4, by decide +kernel⟩

theorem has_InterfaceAndCaptureRows_1_0_0 :
    ∃ (s : State) (c : Fin 2) (g : GroupId),
      (s.pulseOn = true) ∧ (groupOperand (s.actN 20560 ((↑c : ℕ) + 3)) = some g) ∧ (s.actN 20560 ((↑c : ℕ) + 1) = 3) ∧ (s.captureHeld c = false) :=
  ⟨(putObj 0x5050 3 2 (putObj 0x5050 1 3 quad)), 0, 1, by decide +kernel⟩

theorem has_InterfaceAndCaptureRows_1_0_1 :
    ∃ (s : State) (c : Fin 2) (g : GroupId),
      (s.pulseOn = true) ∧ (groupOperand (s.actN 20560 ((↑c : ℕ) + 3)) = some g) ∧ (s.actN 20560 ((↑c : ℕ) + 1) = 3) ∧ (s.captureHeld c = true) :=
  ⟨heldS, 0, 1, by decide +kernel⟩

theorem has_InterfaceAndCaptureRows_1_1 :
    ∃ (s : State) (i : IfId),
      (s.pulseOn = true) ∧ (2 ≤ (↑i : ℕ)) ∧ ((↑i : ℕ) < 6) ∧ (s.sense.iface[i].waiting = none) :=
  ⟨quad, 3, by decide +kernel⟩

theorem has_PositionSensorRows_0_0 :
    ∃ (s : State) (i : IfId) (r : Fin 2),
      (s.pulseOn = true) ∧ (s.assigned i = true) ∧ (s.sense.iface[i].valid = true) ∧ (∀ (g : GroupId), s.ifaceGroup i = some g → s.gr[g].pos.src ≠ ifaceCode i) ∧ ((↑i : ℕ) = (↑r : ℕ)) :=
  ⟨asg, 0, 0, by decide +kernel⟩

theorem has_PositionSensorRows_0_1 :
    ∃ (s : State) (i : IfId) (r : Fin 2),
      (s.pulseOn = true) ∧ (s.assigned i = true) ∧ (s.sense.iface[i].valid = true) ∧ (∀ (g : GroupId), s.ifaceGroup i = some g → s.gr[g].pos.src ≠ ifaceCode i) ∧ ((↑i : ℕ) = (↑r : ℕ)) ∧ (0 < s.act (ifaceObj i) 5) ∧ (s.sense.iface[i].bad + 1 < s.actN (ifaceObj i) 7) ∧ (s.sense.iface[i].track = 0) :=
  ⟨(putObj 0x5010 7 5 (putObj 0x5010 5 5 asg)), 0, 0, by decide +kernel⟩

theorem has_PositionSensorRows_0_2 :
    ∃ (s : State) (i : IfId) (r : Fin 2) (sin : ℤ) (cos : ℤ) (pred : ℤ) (err : ℤ) (f : ℕ),
      (s.pulseOn = true) ∧ (s.assigned i = true) ∧ (s.sense.iface[i].valid = true) ∧ (∀ (g : GroupId), s.ifaceGroup i = some g → s.gr[g].pos.src ≠ ifaceCode i) ∧ ((↑i : ℕ) = (↑r : ℕ)) ∧ (f = max 1 (s.actN (ifaceObj i) 1)) ∧ (pred = (↑s.sense.iface[i].theta : ℤ) + (s.sense.iface[i].speed * (↑(s.sensorPoles i) : ℚ) / 60 * (↑(s.direction i) : ℚ) * 65536 / (↑f : ℚ)).floor) ∧ (err = toSigned 16 (ofSigned 16 (Config.atan2Turn (↑sin : ℚ) (↑cos : ℚ) - pred))) ∧ (err.natAbs ≤ s.actN (ifaceObj i) 8) ∧ (10 * s.act (ifaceObj i) 5 * (10 * s.act (ifaceObj i) 5) ≤ sin * sin + cos * cos) ∧ (sin * sin + cos * cos ≤ 10 * s.act (ifaceObj i) 6 * (10 * s.act (ifaceObj i) 6)) :=
  ⟨(putObj 0x5010 5 0 (putObj 0x5010 8 65535 asg)), 0, 0, 0, 0, 0, (toSigned 16 (ofSigned 16 (Config.atan2Turn ((0 : Int) : Rat) ((0 : Int) : Rat) - 0))), (max 1 ((putObj 0x5010 5 0 (putObj 0x5010 8 65535 asg)).actN (ifaceObj 0) 1)), by refine ⟨?_, ?_, ?_, ?_, ?_, ?_, ?_, rfl, le_trans (natAbs_signed _) (by decide +kernel), ?_, ?_⟩ <;> decide +kernel⟩

theorem has_PositionSensorRows_1_0 :
    ∃ (s : State) (i : IfId) (t0 : ℕ) (e : Fin 2) (a : Bool) (b : Bool) (d : ℤ),
      (s.pulseOn = true) ∧ (s.assigned i = true) ∧ (s.sense.iface[i].valid = true) ∧ (∀ (g : GroupId), s.ifaceGroup i = some g → s.gr[g].pos.src ≠ ifaceCode i) ∧ ((↑i : ℕ) = (↑e : ℕ) + 2) ∧ (d = (quadrature a b - quadrature s.sense.iface[i].lastA s.sense.iface[i].lastB) % 4) ∧ (s.sense.iface[i].lastEdge + ticksOfNs (s.actN (ifaceObj i) 4) ≤ t0) ∧ (s.sense.iface[i].lastEdge + 20 ≤ t0) ∧ (d = 1 ∨ d = 3) ∧ (s.act (ifaceObj i) 2 ≠ 1) :=
  ⟨(putObj 0x5012 2 0 asg), 2, 1000, 0, true, false, (quadrature true false - quadrature false false) % 4, by decide +kernel⟩

theorem has_PositionSensorRows_1_1 :
    ∃ (s : State) (i : IfId) (t0 : ℕ) (e : Fin 2) (a : Bool) (b : Bool) (d : ℤ),
      (s.pulseOn = true) ∧ (s.assigned i = true) ∧ (s.sense.iface[i].valid = true) ∧ (∀ (g : GroupId), s.ifaceGroup i = some g → s.gr[g].pos.src ≠ ifaceCode i) ∧ ((↑i : ℕ) = (↑e : ℕ) + 2) ∧ (d = (quadrature a b - quadrature s.sense.iface[i].lastA s.sense.iface[i].lastB) % 4) ∧ (s.sense.iface[i].lastEdge + ticksOfNs (s.actN (ifaceObj i) 4) ≤ t0) ∧ (d = 0) ∧ (s.act (ifaceObj i) 2 = 1) ∧ (s.sense.iface[i].zSeen = false) :=
  ⟨(putObj 0x5012 2 1 asg), 2, 1000, 0, false, false, 0, by decide +kernel⟩

theorem has_PositionSensorRows_2_1 :
    ∃ (s : State) (i : IfId) (h : Fin 2) (code : BitVec 3) (back : Bool),
      (s.pulseOn = true) ∧ (s.assigned i = true) ∧ (s.sense.iface[i].valid = true) ∧ (∀ (g : GroupId), s.ifaceGroup i = some g → s.gr[g].pos.src ≠ ifaceCode i) ∧ ((↑i : ℕ) = (↑h : ℕ) + 4) ∧ (∀ (g : GroupId), s.actN 33024 ((↑g : ℕ) + 1) ≠ ifaceCode i) ∧ (code ≠ 0) ∧ (code ≠ 7) ∧ (s.sense.iface[i].badSince = 0) ∧ (hallPlace s.sense.iface[i].code ≠ 6) ∧ (s.sense.iface[i].waiting = none) ∧ (s.hallFilter i = 0) ∧ ((hallPlace code.toNat + 6 - hallPlace s.sense.iface[i].code) % 6 = if back = true then 5 else 1) :=
  ⟨(putObj 0x5014 2 0 asg), 4, 0, 3#3, false, by decide +kernel⟩

theorem has_PositionSensorRows_2_1_a :
    ∃ (s : State) (i : IfId) (h : Fin 2) (code : BitVec 3) (back : Bool),
      (s.pulseOn = true) ∧ (s.assigned i = true) ∧ (s.sense.iface[i].valid = true) ∧ (∀ (g : GroupId), s.ifaceGroup i = some g → s.gr[g].pos.src ≠ ifaceCode i) ∧ ((↑i : ℕ) = (↑h : ℕ) + 4) ∧ (∀ (g : GroupId), s.actN 33024 ((↑g : ℕ) + 1) ≠ ifaceCode i) ∧ (code ≠ 0) ∧ (code ≠ 7) ∧ (s.sense.iface[i].badSince = 0) ∧ (hallPlace s.sense.iface[i].code ≠ 6) ∧ (s.sense.iface[i].waiting = none) ∧ (s.hallFilter i = 0) ∧ ((hallPlace code.toNat + 6 - hallPlace s.sense.iface[i].code) % 6 = if back = true then 5 else 1) :=
  ⟨(ifaceS (fun i => { i with code := 3 }) (putObj 0x5014 2 0 asg)), 4, 0, 1#3, true, by decide +kernel⟩

theorem has_PositionSensorRows_2_0 :
    ∃ (s : State) (i : IfId) (h : Fin 2) (code : BitVec 3),
      (s.pulseOn = true) ∧ (s.assigned i = true) ∧ (s.sense.iface[i].valid = true) ∧ (∀ (g : GroupId), s.ifaceGroup i = some g → s.gr[g].pos.src ≠ ifaceCode i) ∧ ((↑i : ℕ) = (↑h : ℕ) + 4) ∧ (∀ (g : GroupId), s.actN 33024 ((↑g : ℕ) + 1) ≠ ifaceCode i) ∧ (code ≠ 0) ∧ (code ≠ 7) ∧ (s.sense.iface[i].badSince = 0) ∧ (hallPlace s.sense.iface[i].code ≠ 6) ∧ (s.sense.iface[i].waiting = none) ∧ (s.hallFilter i ≠ 0) ∧ (code.toNat ≠ s.sense.iface[i].code) :=
  ⟨asg, 4, 0, 3#3, by decide +kernel⟩

theorem has_PositionSensorRows_3_0 :
    ∃ (s : State) (i : IfId) (t0 : ℕ) (p : Fin 2),
      (s.pulseOn = true) ∧ (s.assigned i = true) ∧ (s.sense.iface[i].valid = true) ∧ (∀ (g : GroupId), s.ifaceGroup i = some g → s.gr[g].pos.src ≠ ifaceCode i) ∧ ((↑i : ℕ) = (↑p : ℕ) + 6) ∧ (t0 < s.sense.iface[i].busyUntil) :=
  ⟨(ifaceS (fun i => { i with busyUntil := 5000 }) asg), 6, 1000, 0, by decide +kernel⟩

theorem has_PositionSensorRows_3_1 :
    ∃ (s : State) (i : IfId) (t0 : ℕ) (p : Fin 2),
      (s.pulseOn = true) ∧ (s.assigned i = true) ∧ (s.sense.iface[i].valid = true) ∧ (∀ (g : GroupId), s.ifaceGroup i = some g → s.gr[g].pos.src ≠ ifaceCode i) ∧ ((↑i : ℕ) = (↑p : ℕ) + 6) ∧ (s.sense.iface[i].busyUntil ≤ t0) :=
  ⟨asg, 6, 1000, 0, by decide +kernel⟩

theorem has_PositionSensorRows_3_2 :
    ∃ (s : State) (i : IfId) (t0 : ℕ) (p : Fin 2),
      (s.pulseOn = true) ∧ (s.assigned i = true) ∧ (s.sense.iface[i].valid = true) ∧ (∀ (g : GroupId), s.ifaceGroup i = some g → s.gr[g].pos.src ≠ ifaceCode i) ∧ ((↑i : ℕ) = (↑p : ℕ) + 6) ∧ (s.sense.iface[i].busyUntil ≤ t0) ∧ (s.sense.iface[i].bad < 2) :=
  ⟨asg, 6, 1000, 0, by decide +kernel⟩

theorem has_PositionSensorRows_3_3 :
    ∃ (s : State) (i : IfId) (p : Fin 2),
      (s.pulseOn = true) ∧ (s.assigned i = true) ∧ (s.sense.iface[i].valid = true) ∧ (∀ (g : GroupId), s.ifaceGroup i = some g → s.gr[g].pos.src ≠ ifaceCode i) ∧ ((↑i : ℕ) = (↑p : ℕ) + 6) ∧ (∀ (g : GroupId), s.ifaceGroup i = some g → s.gr[g].pos.unjudged = none) ∧ (s.sense.iface[i].idleLow = false) ∧ (s.act (ifaceObj i) 6 = 255) ∧ (s.act (ifaceObj i) 8 = 0) ∧ (s.sense.iface[i].frameAt = 0) ∧ (s.actN (ifaceObj i) 4 = 0) :=
  ⟨(putObj 0x5016 6 0xFF (putObj 0x5016 4 0 (putObj 0x5016 8 0 asg))), 6, 0, by decide +kernel⟩

end Sys2Proof.Tests.Stage
end

