-- ==== Sys2Proof/Tests/Stops.lean ====
section
/-! SUPPORT. States and operands that meet the premises of the statements on arming, opening, stops and the safety functions: `has_X_i_j` is for clause i, j of X. -/

namespace Sys2Proof.Tests.Stops
open Sys2Proof Sys2Proof.Machine
set_option Elab.async false

def arm (k : Nat) : State := { quad with drive := { quad.drive with armStep := k, armRef := some ⟨1, 4, 0x101⟩, state := if k = 1 then .standby else .precharge }, cont := { quad.cont with coil := #v[false, true, true], mirrorOpen := #v[true, false, false] } }
def opn (k : Nat) : State := { quad with cont := { quad.cont with coil := #v[true, true, false], mirrorOpen := #v[false, false, true], opening := k } }
def dis : State := { quad with drive := { quad.drive with state := .discharge }, cont := { quad.cont with active := true, startUdc := 600 } }
def startS (k : Nat) (s : State) : State := { s with br := s.br.map fun (x : Bridge) => { x with start := { x.start with phase := k } } }
def rails (s : State) : State := { s with br := s.br.map fun (x : Bridge) => { x with pos := x.pos.map fun (p : Position) => { p with railReady := true, linkValid := true, partnerKnown := true } } }
def rampS : State := { runQ with br := runQ.br.map fun (x : Bridge) => { x with ctl := { x.ctl with rampDown := some 3 } } }
def fast (s : State) : State := { s with clove := { s.clove with speed := s.clove.speed.map fun (x : CloveSpeed) => { x with valid := true, freq := 20000, source := 1 } }, gr := s.gr.map fun (x : Group) => { x with pos := { x.pos with speed := 9000 }, obs := { x.obs with speed := 9000 } } }
def offS : State := { rails quad with br := (rails quad).br.map fun (x : Bridge) => { x with state := .safeOff, force := { x.force with pattern := 1, sources := [(.cloveRequest, 3)] } } }
def noPll (s : State) : State := { s with pwr := { s.pwr with pll := .replicate 3 false } }
/-- The clamp condition stands on every bridge. -/
def clampS (s : State) : State := { s with br := s.br.map fun (x : Bridge) => { x with bemf := { x.bemf with clampFlag := true }, force := { x.force with clampAt := some 3 } } }
def ascS (k : Nat) : State := { quad with br := quad.br.map fun (x : Bridge) => { x with state := .safeAsc, force := { x.force with pattern := 2, sources := [(.cloveRequest, 3)] }, start := { x.start with phase := k } } }
def ss (f : Ss1) (s : State) : State := { s with gr := s.gr.map fun (x : Group) => { x with ss1 := some f } }
def S : Ss1 := { n0 := 100, goal := 0, start := 0, calm := none, confirmed := false, excess := none }
def dbg : State := { quad with pairs := quad.pairs.map fun (p : Pair) => { p with debugger := true } }
def win (f : Window → Window) (s : State) : State := { s with clove := { s.clove with windows := s.clove.windows.map f } }
def brk (s : State) : State := putObj 0x8040 1 2 s
def l4 : State := { runQ with cont := { runQ.cont with coil := #v[true, true, false], mirrorOpen := #v[false, false, true] } }
def sto : State := { quad with clove := { quad.clove with stoA := true, stoB := true } }
def one : State := putObj 0x1100 1 3 (putObj 0x7020 2 1 (putObj 0x7020 1 1 runQ))
theorem lookup_mem (k : Nat) (v : Int) (l : List (Nat × Int)) (h : lookupKey k l = some v) : (k, v) ∈ l := by
  induction l with
  | nil => cases h
  | cons e l ih =>
    rw [lookupKey] at h
    split at h
    · cases h; subst k; simp
    · simp [ih h]
theorem torque_rows : ∀ r ∈ objectsOf 7, (r.i0 ≤ 0x7001 ∧ 0x7001 ≤ r.i1) ∨ (r.i0 ≤ 0x7002 ∧ 0x7002 ≤ r.i1) → r.s1 < 9 := by decide +kernel
theorem row_none (i k : Nat) (hi : i = 0x7001 ∨ i = 0x7002) (hk : 9 ≤ k) : objRow? i k = none := by
  have h2 : objRow? i k = (objectsOf 7).find? fun r => Nat.ble r.i0 i && Nat.ble i r.i1 && Nat.ble r.s0 k && Nat.ble k r.s1 := by
    have h7 : i / 0x1000 = 7 := by omega
    unfold objRow?
    rw [if_neg (by omega), h7]
  rw [h2, List.find?_eq_none]
  intro r hr
  simp only [Bool.and_eq_true, Nat.ble_eq, not_and, Nat.not_le]
  intro ⟨⟨a, b⟩, _⟩
  have := torque_rows r hr (by obtain rfl | rfl := hi <;> omega)
  omega
theorem small_subs : ∀ k < 9, 0 ≤ objDefault 0x7001 k ∧ 0 ≤ objDefault 0x7002 k := by decide +kernel
theorem default_pos (i k : Nat) (hi : i = 0x7001 ∨ i = 0x7002) : 0 ≤ objDefault i k := by
  by_cases hk : k < 9
  · obtain rfl | rfl := hi
    · exact (small_subs k hk).1
    · exact (small_subs k hk).2
  · have hr := row_none i k hi (by omega)
    unfold objDefault
    rw [if_neg (by omega), if_neg (by omega), if_neg (by omega), if_neg (by omega), if_neg (by omega), if_neg (by omega), if_neg (by omega), hr]
theorem act_pos (s : State) (h : ∀ e ∈ s.par.active, 0 ≤ e.2) (i k : Nat) (hi : i = 0x7001 ∨ i = 0x7002) : 0 ≤ s.act i k := by
  simp only [State.act, Params.activeOf]
  cases hv : lookupKey (objKey i k) s.par.active with
  | none => exact default_pos i k hi
  | some v => exact h _ (lookup_mem _ _ _ hv)

theorem has_ArmingRows_0 :
    ∃ (s : State) (udc : ℕ),
      (s.drive.armStep = 1) ∧ (s.drive.state = DriveState.standby) ∧ ((↑udc : ℚ) / 10 - s.drive.armUdc ≤ s.actR 28960 8) :=
  ⟨(arm 1), 50, by decide +kernel⟩

theorem has_ArmingRows_1 :
    ∃ (s : State) (udc : ℕ),
      (s.drive.armStep = 1) ∧ (s.drive.state = DriveState.standby) ∧ (s.actR 28960 8 < (↑udc : ℚ) / 10 - s.drive.armUdc) ∧ (s.cont.weld = false) :=
  ⟨(arm 1), 9000, by decide +kernel⟩

theorem has_ArmingRows_2 :
    ∃ (s : State) (udc : ℕ),
      (s.drive.armStep = 2) ∧ (s.prechargeReached ((↑udc : ℚ) / 10) = true) :=
  ⟨(putObj 0x7120 3 800 (arm 2)), 9000, by decide +kernel⟩

theorem has_ArmingRows_3 :
    ∃ (s : State),
      (s.drive.armStep = 3) ∧ (s.drive.state = DriveState.precharge) ∧ (s.cont.mirrorOpen[0] = true) :=
  ⟨(arm 3), by decide +kernel⟩

theorem has_ArmingRows_4 :
    ∃ (s : State),
      (s.drive.armStep = 2) ∧ (s.drive.state = DriveState.precharge) ∧ (s.cont.afterOpen = false) :=
  ⟨(arm 2), by decide +kernel⟩

theorem has_ArmingRows_5 :
    ∃ (s : State),
      (s.drive.overlap = true) :=
  ⟨({ arm 2 with drive := { (arm 2).drive with overlap := true } }), by decide +kernel⟩

theorem has_ArmingRows_6_0 :
    ∃ (s : State) (k : Fin 3),
      (s.cont.coil[k] = true) ∧ (s.cont.mirrorOpen[k] = false) :=
  ⟨(arm 2), 1, by decide +kernel⟩

theorem has_ArmingRows_6_1 :
    ∃ (s : State) (k : Fin 3),
      (s.cont.coil[k] = false) ∧ (s.cont.mirrorOpen[k] = false) ∧ (s.cont.weld = false) :=
  ⟨({ quad with cont := { quad.cont with mirrorOpen := .replicate 3 false } }), 2, by decide +kernel⟩

theorem has_OpeningAndDischargeRows_0 :
    ∃ (s : State) (v : ℕ),
      (s.cont.opening = 1) ∧ (v < 10 * s.actN 28960 9) ∧ (s.cont.coil[1] = true) :=
  ⟨(opn 1), 5, by decide +kernel⟩

theorem has_OpeningAndDischargeRows_1 :
    ∃ (s : State),
      (s.cont.opening = 2) ∧ (s.cont.afterOpen = false) :=
  ⟨(opn 2), by decide +kernel⟩

theorem has_OpeningAndDischargeRows_2 :
    ∃ (s : State),
      (s.cont.coil[1] = true) ∧ (s.cont.opening ≠ 2) :=
  ⟨(opn 0), by decide +kernel⟩

theorem has_OpeningAndDischargeRows_3 :
    ∃ (s : State) (v : ℕ),
      (s.cont.active = true) ∧ ((↑v : ℚ) / 10 < s.cont.startUdc * 4 / 5) :=
  ⟨dis, 4000, by decide +kernel⟩

theorem has_OpeningAndDischargeRows_4 :
    ∃ (s : State) (v : ℕ),
      (s.cont.active = true) ∧ ((↑v : ℚ) / 10 < s.actR 28976 2) ∧ (s.drive.state = DriveState.discharge) ∧ (s.drive.disarmRefs = []) ∧ (s.cont.hvWake = false) ∧ (s.cont.chop = false) ∧ (∀ (b : BridgeId), s.br[b].force.sources = [] ∧ s.br[b].force.pattern = 0) :=
  ⟨dis, 100, by decide +kernel⟩

theorem has_OpeningAndDischargeRows_5 :
    ∃ (s : State),
      (s.cont.active = true) ∧ (s.cont.hvWake = false) ∧ (s.cont.chop = false) :=
  ⟨dis, by decide +kernel⟩

theorem has_ListenOutcomeRows_0 :
    ∃ (s : State) (g : GroupId),
      (s.gr[g].atlas.ident = none) ∧ (s.listening g ≠ []) ∧ (∀ b ∈ s.listening g, s.br[b].start.joining = false) ∧ (s.usedSource g = none) ∧ (0 ≤ s.act 12368 4) ∧ (∀ (w : Fin 16), s.clove.windows[w].cause = false) ∧ (∀ b ∈ s.listening g, s.br[b].bemf.reached = false) ∧ (s.runPowered = true) :=
  ⟨(startS 1 quad), 1, by decide +kernel⟩

theorem has_ListenOutcomeRows_0_a :
    ∃ (s : State) (g : GroupId),
      (s.gr[g].atlas.ident = none) ∧ (s.listening g ≠ []) ∧ (∀ b ∈ s.listening g, s.br[b].start.joining = false) ∧ (s.usedSource g = none) ∧ (0 ≤ s.act 12368 4) ∧ (∀ (w : Fin 16), s.clove.windows[w].cause = false) ∧ (∀ b ∈ s.listening g, s.br[b].bemf.reached = false) ∧ (s.runPowered = true) :=
  ⟨(rails (startS 1 quad)), 1, by decide +kernel⟩

theorem has_ListenOutcomeRows_1_0 :
    ∃ (s : State) (g : GroupId),
      (s.gr[g].atlas.ident = none) ∧ (s.listening g ≠ []) ∧ (∀ b ∈ s.listening g, s.br[b].start.joining = false) ∧ (s.usedSource g = none) ∧ (0 ≤ s.act 12368 4) ∧ (∀ (w : Fin 16), s.clove.windows[w].cause = false) ∧ (∃ (b : BridgeId), (s.listening g).head? = some b ∧ 6 ≤ s.br[b].bemf.seen) ∧ (s.runPowered = true) :=
  ⟨({ startS 1 quad with br := (startS 1 quad).br.map fun (x : Bridge) => { x with bemf := { x.bemf with seen := 7, reached := true, freq := 50000 } } }), 1, by decide +kernel⟩

theorem has_ListenOutcomeRows_1_1 :
    ∃ (s : State) (g : GroupId),
      (s.gr[g].atlas.ident = none) ∧ (s.listening g ≠ []) ∧ (∀ b ∈ s.listening g, s.br[b].start.joining = false) ∧ (s.usedSource g = none) ∧ (0 ≤ s.act 12368 4) ∧ (∀ (w : Fin 16), s.clove.windows[w].cause = false) ∧ (∃ (b : BridgeId), (s.listening g).head? = some b ∧ 6 ≤ s.br[b].bemf.seen) ∧ (s.runPowered = false) ∧ (∀ b ∈ s.listening g, s.br[b].force.pattern = 0 ∧ s.br[b].state = BrState.standby) :=
  ⟨(noPll ({ startS 1 quad with br := (startS 1 quad).br.map fun (x : Bridge) => { x with bemf := { x.bemf with seen := 7, reached := true, freq := 50000 } } })), 1, by decide +kernel⟩

theorem has_ListenOutcomeRows_2 :
    ∃ (s : State) (g : GroupId),
      (s.gr[g].atlas.ident = none) ∧ (s.listening g ≠ []) ∧ (∀ b ∈ s.listening g, s.br[b].start.joining = false) ∧ (s.usedSource g = none) ∧ (0 ≤ s.act 12368 4) ∧ (∀ (w : Fin 16), s.clove.windows[w].cause = false) ∧ (s.rectifies g = true) ∧ (s.unforced = true) ∧ (s.actN 28944 ((↑g : ℕ) + 1) ≠ 1) ∧ (∀ b ∈ s.listening g, 2 ≤ (↑(s.ascSide b) : ℕ)) :=
  ⟨(clampS (startS 1 (rails quad))), 1, by decide +kernel⟩

theorem has_StartEndsAndSafeChanges_0 :
    ∃ (s : State) (b : BridgeId) (c : Instr),
      (∀ (g : GroupId), s.gr[g].atlas.ident = none) ∧ (c = Instr.saliencySearchTimeout b ∧ s.br[b].start.phase = 3 ∧ s.br[b].start.found = false ∨ c = Instr.chargeLimitExpiry b ∧ s.br[b].start.phase = 4 ∧ s.highRailsReady b = false ∨ c = Instr.disableRampEnd b ∧ s.br[b].ctl.rampDown.isSome = true ∧ s.safeChoice b = 1) :=
  ⟨(startS 3 runQ), 1, (.saliencySearchTimeout 1), by decide +kernel⟩

theorem has_StartEndsAndSafeChanges_0_a :
    ∃ (s : State) (b : BridgeId) (c : Instr),
      (∀ (g : GroupId), s.gr[g].atlas.ident = none) ∧ (c = Instr.saliencySearchTimeout b ∧ s.br[b].start.phase = 3 ∧ s.br[b].start.found = false ∨ c = Instr.chargeLimitExpiry b ∧ s.br[b].start.phase = 4 ∧ s.highRailsReady b = false ∨ c = Instr.disableRampEnd b ∧ s.br[b].ctl.rampDown.isSome = true ∧ s.safeChoice b = 1) :=
  ⟨(startS 4 runQ), 1, (.chargeLimitExpiry 1), by decide +kernel⟩

theorem has_StartEndsAndSafeChanges_0_b :
    ∃ (s : State) (b : BridgeId) (c : Instr),
      (∀ (g : GroupId), s.gr[g].atlas.ident = none) ∧ (c = Instr.saliencySearchTimeout b ∧ s.br[b].start.phase = 3 ∧ s.br[b].start.found = false ∨ c = Instr.chargeLimitExpiry b ∧ s.br[b].start.phase = 4 ∧ s.highRailsReady b = false ∨ c = Instr.disableRampEnd b ∧ s.br[b].ctl.rampDown.isSome = true ∧ s.safeChoice b = 1) :=
  ⟨rampS, 1, (.disableRampEnd 1), by decide +kernel⟩

theorem has_StartEndsAndSafeChanges_2 :
    ∃ (s : State) (b : BridgeId) (g : GroupId),
      (∀ (g : GroupId), s.gr[g].atlas.ident = none) ∧ (s.groupOf b = some g) ∧ (s.br[b].force.clampAt.isSome = true) ∧ (s.br[b].state = BrState.safeOff) ∧ (s.br[b].force.sources ≠ []) ∧ (s.br[b].force.pattern = 1) ∧ (∀ x ∈ s.br[b].force.sources, srcAlwaysOff x.1 = false) ∧ (s.actN 28944 ((↑g : ℕ) + 1) ≠ 1) ∧ (2 ≤ (↑(s.ascSide b) : ℕ)) :=
  ⟨(clampS offS), 1, 1, by decide +kernel⟩

theorem has_StoRows_0 :
    ∃ (s : State),
      (s.test.inject = []) ∧ (s.pwr.domains[1] = true) ∧ (s.clove.stoA = true) ∧ (s.clove.stoB = true) ∧ (s.unforced = true) :=
  ⟨sto, by decide +kernel⟩

theorem has_StoRows_0_a :
    ∃ (s : State),
      (s.test.inject = []) ∧ (s.pwr.domains[1] = true) ∧ (s.clove.stoA = true) ∧ (s.clove.stoB = true) ∧ (s.unforced = true) :=
  ⟨sto, by decide +kernel⟩

theorem has_StoRows_1 :
    ∃ (s : State) (chB : Bool),
      (s.test.inject = []) ∧ (s.pwr.domains[1] = true) ∧ (s.clove.stoA = chB) ∧ (s.clove.stoB = !chB) ∧ (s.clove.discrepancy = false) :=
  ⟨({ sto with clove := { sto.clove with stoA := false } }), false, by decide +kernel⟩

theorem has_StoRows_1_a :
    ∃ (s : State) (chB : Bool),
      (s.test.inject = []) ∧ (s.pwr.domains[1] = true) ∧ (s.clove.stoA = chB) ∧ (s.clove.stoB = !chB) ∧ (s.clove.discrepancy = false) :=
  ⟨({ sto with clove := { sto.clove with stoB := false } }), true, by decide +kernel⟩

theorem has_StoRows_2 :
    ∃ (s : State),
      (s.test.inject = []) ∧ (s.clove.stoA ≠ s.clove.stoB) ∧ (s.clove.discrepancy = false) :=
  ⟨({ sto with clove := { sto.clove with stoB := false } }), by decide +kernel⟩

theorem has_GroupSafetyRows :
    ∃ (s : State) (g : GroupId) (c : Instr),
      (s.unforced = true) ∧ ((c = Instr.ss1EnvelopeViolation g ∧ ∃ (x : Ss1) (t1 : ℕ), s.gr[g].ss1 = some x ∧ x.excess = some t1) ∨ (c = Instr.ss1Timeout g ∧ ∃ (x : Ss1), s.gr[g].ss1 = some x ∧ x.goal = 0 ∧ x.confirmed = false) ∨ c = Instr.cloveOverspeed g ∧ s.clove.speed[g].valid = true ∧ 10 * s.actN 32818 ((↑g : ℕ) + 1) < s.clove.speed[g].freq.natAbs ∨ c = Instr.cloveSpeedDisagreement g ∧ s.speedsDiffer g = true ∨ c = Instr.slsViolation g ∧ s.gr[g].slsOver.isSome = true ∧ s.actN 32817 ((↑g : ℕ) + 2) = 1 ∨ c = Instr.slsDecelerationTimeout g ∧ s.gr[g].slsFrom.isSome = true ∧ s.actN 32817 ((↑g : ℕ) + 2) = 1 ∨ c = Instr.slpViolation g ∧ s.gr[g].slpOver.isSome = true ∧ s.actN 32817 ((↑g : ℕ) + 10) = 1 ∨ c = Instr.benchLimitExceeded (BenchLimit.frequency g) ∧ (∃ (p : PairId), s.pairs[p].debugger = true) ∧ s.clove.speed[g].valid = true ∧ s.actR 33040 2 < |(↑s.clove.speed[g].freq : ℚ) / 10|) :=
  ⟨(ss { S with excess := some 3 } runQ), 1, (.ss1EnvelopeViolation 1), by refine ⟨?_, .inl (⟨rfl, { S with excess := some 3 }, 3, by decide +kernel⟩)⟩ <;> decide +kernel⟩

theorem has_GroupSafetyRows_a :
    ∃ (s : State) (g : GroupId) (c : Instr),
      (s.unforced = true) ∧ ((c = Instr.ss1EnvelopeViolation g ∧ ∃ (x : Ss1) (t1 : ℕ), s.gr[g].ss1 = some x ∧ x.excess = some t1) ∨ (c = Instr.ss1Timeout g ∧ ∃ (x : Ss1), s.gr[g].ss1 = some x ∧ x.goal = 0 ∧ x.confirmed = false) ∨ c = Instr.cloveOverspeed g ∧ s.clove.speed[g].valid = true ∧ 10 * s.actN 32818 ((↑g : ℕ) + 1) < s.clove.speed[g].freq.natAbs ∨ c = Instr.cloveSpeedDisagreement g ∧ s.speedsDiffer g = true ∨ c = Instr.slsViolation g ∧ s.gr[g].slsOver.isSome = true ∧ s.actN 32817 ((↑g : ℕ) + 2) = 1 ∨ c = Instr.slsDecelerationTimeout g ∧ s.gr[g].slsFrom.isSome = true ∧ s.actN 32817 ((↑g : ℕ) + 2) = 1 ∨ c = Instr.slpViolation g ∧ s.gr[g].slpOver.isSome = true ∧ s.actN 32817 ((↑g : ℕ) + 10) = 1 ∨ c = Instr.benchLimitExceeded (BenchLimit.frequency g) ∧ (∃ (p : PairId), s.pairs[p].debugger = true) ∧ s.clove.speed[g].valid = true ∧ s.actR 33040 2 < |(↑s.clove.speed[g].freq : ℚ) / 10|) :=
  ⟨(ss S runQ), 1, (.ss1Timeout 1), by refine ⟨?_, .inr (.inl (⟨rfl, S, by decide +kernel⟩))⟩ <;> decide +kernel⟩

theorem has_GroupSafetyRows_b :
    ∃ (s : State) (g : GroupId) (c : Instr),
      (s.unforced = true) ∧ ((c = Instr.ss1EnvelopeViolation g ∧ ∃ (x : Ss1) (t1 : ℕ), s.gr[g].ss1 = some x ∧ x.excess = some t1) ∨ (c = Instr.ss1Timeout g ∧ ∃ (x : Ss1), s.gr[g].ss1 = some x ∧ x.goal = 0 ∧ x.confirmed = false) ∨ c = Instr.cloveOverspeed g ∧ s.clove.speed[g].valid = true ∧ 10 * s.actN 32818 ((↑g : ℕ) + 1) < s.clove.speed[g].freq.natAbs ∨ c = Instr.cloveSpeedDisagreement g ∧ s.speedsDiffer g = true ∨ c = Instr.slsViolation g ∧ s.gr[g].slsOver.isSome = true ∧ s.actN 32817 ((↑g : ℕ) + 2) = 1 ∨ c = Instr.slsDecelerationTimeout g ∧ s.gr[g].slsFrom.isSome = true ∧ s.actN 32817 ((↑g : ℕ) + 2) = 1 ∨ c = Instr.slpViolation g ∧ s.gr[g].slpOver.isSome = true ∧ s.actN 32817 ((↑g : ℕ) + 10) = 1 ∨ c = Instr.benchLimitExceeded (BenchLimit.frequency g) ∧ (∃ (p : PairId), s.pairs[p].debugger = true) ∧ s.clove.speed[g].valid = true ∧ s.actR 33040 2 < |(↑s.clove.speed[g].freq : ℚ) / 10|) :=
  ⟨(putObj 0x8032 2 100 (fast runQ)), 1, (.cloveOverspeed 1), by refine ⟨?_, .inr (.inr (.inl (⟨rfl, by decide +kernel⟩)))⟩ <;> decide +kernel⟩

theorem has_GroupSafetyRows_c :
    ∃ (s : State) (g : GroupId) (c : Instr),
      (s.unforced = true) ∧ ((c = Instr.ss1EnvelopeViolation g ∧ ∃ (x : Ss1) (t1 : ℕ), s.gr[g].ss1 = some x ∧ x.excess = some t1) ∨ (c = Instr.ss1Timeout g ∧ ∃ (x : Ss1), s.gr[g].ss1 = some x ∧ x.goal = 0 ∧ x.confirmed = false) ∨ c = Instr.cloveOverspeed g ∧ s.clove.speed[g].valid = true ∧ 10 * s.actN 32818 ((↑g : ℕ) + 1) < s.clove.speed[g].freq.natAbs ∨ c = Instr.cloveSpeedDisagreement g ∧ s.speedsDiffer g = true ∨ c = Instr.slsViolation g ∧ s.gr[g].slsOver.isSome = true ∧ s.actN 32817 ((↑g : ℕ) + 2) = 1 ∨ c = Instr.slsDecelerationTimeout g ∧ s.gr[g].slsFrom.isSome = true ∧ s.actN 32817 ((↑g : ℕ) + 2) = 1 ∨ c = Instr.slpViolation g ∧ s.gr[g].slpOver.isSome = true ∧ s.actN 32817 ((↑g : ℕ) + 10) = 1 ∨ c = Instr.benchLimitExceeded (BenchLimit.frequency g) ∧ (∃ (p : PairId), s.pairs[p].debugger = true) ∧ s.clove.speed[g].valid = true ∧ s.actR 33040 2 < |(↑s.clove.speed[g].freq : ℚ) / 10|) :=
  ⟨({ fast runQ with gr := runQ.gr }), 1, (.cloveSpeedDisagreement 1), by refine ⟨?_, .inr (.inr (.inr (.inl (⟨rfl, by decide +kernel⟩))))⟩ <;> decide +kernel⟩

theorem has_GroupSafetyRows_d :
    ∃ (s : State) (g : GroupId) (c : Instr),
      (s.unforced = true) ∧ ((c = Instr.ss1EnvelopeViolation g ∧ ∃ (x : Ss1) (t1 : ℕ), s.gr[g].ss1 = some x ∧ x.excess = some t1) ∨ (c = Instr.ss1Timeout g ∧ ∃ (x : Ss1), s.gr[g].ss1 = some x ∧ x.goal = 0 ∧ x.confirmed = false) ∨ c = Instr.cloveOverspeed g ∧ s.clove.speed[g].valid = true ∧ 10 * s.actN 32818 ((↑g : ℕ) + 1) < s.clove.speed[g].freq.natAbs ∨ c = Instr.cloveSpeedDisagreement g ∧ s.speedsDiffer g = true ∨ c = Instr.slsViolation g ∧ s.gr[g].slsOver.isSome = true ∧ s.actN 32817 ((↑g : ℕ) + 2) = 1 ∨ c = Instr.slsDecelerationTimeout g ∧ s.gr[g].slsFrom.isSome = true ∧ s.actN 32817 ((↑g : ℕ) + 2) = 1 ∨ c = Instr.slpViolation g ∧ s.gr[g].slpOver.isSome = true ∧ s.actN 32817 ((↑g : ℕ) + 10) = 1 ∨ c = Instr.benchLimitExceeded (BenchLimit.frequency g) ∧ (∃ (p : PairId), s.pairs[p].debugger = true) ∧ s.clove.speed[g].valid = true ∧ s.actR 33040 2 < |(↑s.clove.speed[g].freq : ℚ) / 10|) :=
  ⟨(putObj 0x8031 3 1 { runQ with gr := runQ.gr.map fun (x : Group) => { x with slsOver := some 3, slsFrom := some 2, slpOver := some 4 } }), 1, (.slsViolation 1), by refine ⟨?_, .inr (.inr (.inr (.inr (.inl (⟨rfl, by decide +kernel⟩)))))⟩ <;> decide +kernel⟩

theorem has_GroupSafetyRows_e :
    ∃ (s : State) (g : GroupId) (c : Instr),
      (s.unforced = true) ∧ ((c = Instr.ss1EnvelopeViolation g ∧ ∃ (x : Ss1) (t1 : ℕ), s.gr[g].ss1 = some x ∧ x.excess = some t1) ∨ (c = Instr.ss1Timeout g ∧ ∃ (x : Ss1), s.gr[g].ss1 = some x ∧ x.goal = 0 ∧ x.confirmed = false) ∨ c = Instr.cloveOverspeed g ∧ s.clove.speed[g].valid = true ∧ 10 * s.actN 32818 ((↑g : ℕ) + 1) < s.clove.speed[g].freq.natAbs ∨ c = Instr.cloveSpeedDisagreement g ∧ s.speedsDiffer g = true ∨ c = Instr.slsViolation g ∧ s.gr[g].slsOver.isSome = true ∧ s.actN 32817 ((↑g : ℕ) + 2) = 1 ∨ c = Instr.slsDecelerationTimeout g ∧ s.gr[g].slsFrom.isSome = true ∧ s.actN 32817 ((↑g : ℕ) + 2) = 1 ∨ c = Instr.slpViolation g ∧ s.gr[g].slpOver.isSome = true ∧ s.actN 32817 ((↑g : ℕ) + 10) = 1 ∨ c = Instr.benchLimitExceeded (BenchLimit.frequency g) ∧ (∃ (p : PairId), s.pairs[p].debugger = true) ∧ s.clove.speed[g].valid = true ∧ s.actR 33040 2 < |(↑s.clove.speed[g].freq : ℚ) / 10|) :=
  ⟨(putObj 0x8031 3 1 { runQ with gr := runQ.gr.map fun (x : Group) => { x with slsOver := some 3, slsFrom := some 2, slpOver := some 4 } }), 1, (.slsDecelerationTimeout 1), by refine ⟨?_, .inr (.inr (.inr (.inr (.inr (.inl (⟨rfl, by decide +kernel⟩))))))⟩ <;> decide +kernel⟩

theorem has_GroupSafetyRows_f :
    ∃ (s : State) (g : GroupId) (c : Instr),
      (s.unforced = true) ∧ ((c = Instr.ss1EnvelopeViolation g ∧ ∃ (x : Ss1) (t1 : ℕ), s.gr[g].ss1 = some x ∧ x.excess = some t1) ∨ (c = Instr.ss1Timeout g ∧ ∃ (x : Ss1), s.gr[g].ss1 = some x ∧ x.goal = 0 ∧ x.confirmed = false) ∨ c = Instr.cloveOverspeed g ∧ s.clove.speed[g].valid = true ∧ 10 * s.actN 32818 ((↑g : ℕ) + 1) < s.clove.speed[g].freq.natAbs ∨ c = Instr.cloveSpeedDisagreement g ∧ s.speedsDiffer g = true ∨ c = Instr.slsViolation g ∧ s.gr[g].slsOver.isSome = true ∧ s.actN 32817 ((↑g : ℕ) + 2) = 1 ∨ c = Instr.slsDecelerationTimeout g ∧ s.gr[g].slsFrom.isSome = true ∧ s.actN 32817 ((↑g : ℕ) + 2) = 1 ∨ c = Instr.slpViolation g ∧ s.gr[g].slpOver.isSome = true ∧ s.actN 32817 ((↑g : ℕ) + 10) = 1 ∨ c = Instr.benchLimitExceeded (BenchLimit.frequency g) ∧ (∃ (p : PairId), s.pairs[p].debugger = true) ∧ s.clove.speed[g].valid = true ∧ s.actR 33040 2 < |(↑s.clove.speed[g].freq : ℚ) / 10|) :=
  ⟨(putObj 0x8031 11 1 { runQ with gr := runQ.gr.map fun (x : Group) => { x with slsOver := some 3, slsFrom := some 2, slpOver := some 4 } }), 1, (.slpViolation 1), by refine ⟨?_, .inr (.inr (.inr (.inr (.inr (.inr (.inl (⟨rfl, by decide +kernel⟩)))))))⟩ <;> decide +kernel⟩

theorem has_GroupSafetyRows_g :
    ∃ (s : State) (g : GroupId) (c : Instr),
      (s.unforced = true) ∧ ((c = Instr.ss1EnvelopeViolation g ∧ ∃ (x : Ss1) (t1 : ℕ), s.gr[g].ss1 = some x ∧ x.excess = some t1) ∨ (c = Instr.ss1Timeout g ∧ ∃ (x : Ss1), s.gr[g].ss1 = some x ∧ x.goal = 0 ∧ x.confirmed = false) ∨ c = Instr.cloveOverspeed g ∧ s.clove.speed[g].valid = true ∧ 10 * s.actN 32818 ((↑g : ℕ) + 1) < s.clove.speed[g].freq.natAbs ∨ c = Instr.cloveSpeedDisagreement g ∧ s.speedsDiffer g = true ∨ c = Instr.slsViolation g ∧ s.gr[g].slsOver.isSome = true ∧ s.actN 32817 ((↑g : ℕ) + 2) = 1 ∨ c = Instr.slsDecelerationTimeout g ∧ s.gr[g].slsFrom.isSome = true ∧ s.actN 32817 ((↑g : ℕ) + 2) = 1 ∨ c = Instr.slpViolation g ∧ s.gr[g].slpOver.isSome = true ∧ s.actN 32817 ((↑g : ℕ) + 10) = 1 ∨ c = Instr.benchLimitExceeded (BenchLimit.frequency g) ∧ (∃ (p : PairId), s.pairs[p].debugger = true) ∧ s.clove.speed[g].valid = true ∧ s.actR 33040 2 < |(↑s.clove.speed[g].freq : ℚ) / 10|) :=
  ⟨({ fast runQ with pairs := dbg.pairs }), 1, (.benchLimitExceeded (.frequency 1)), by refine ⟨?_, .inr (.inr (.inr (.inr (.inr (.inr (.inr (⟨rfl, by decide +kernel⟩)))))))⟩ <;> decide +kernel⟩

theorem has_StopRows_1_0 :
    ∃ (s : State) (g : GroupId) (c : Instr) (src : ℕ),
      (s.running g ≠ []) ∧ (s.gr[g].ss1 = none) ∧ (s.gr[g].atlas.ident = none) ∧ (c = Instr.slsViolation g ∧ s.gr[g].slsOver.isSome = true ∧ s.actN 32817 ((↑g : ℕ) + 2) ≠ 1 ∧ src = 5 ∨ c = Instr.slpViolation g ∧ s.gr[g].slpOver.isSome = true ∧ s.actN 32817 ((↑g : ℕ) + 10) ≠ 1 ∧ src = 7 ∨ (∃ (w : Fin 16), c = Instr.sumacWindowExpiry w ∧ s.clove.windows[w].opened.isSome = true ∧ (w = shuntWindow g ∨ w = sensorlessWindow g) ∧ src = 4) ∨ ∃ (t0 : ℕ), c = Instr.heartbeatMissed t0 ∧ t0 < s.drive.hbAt + 2 * ticksPerMs ∧ s.drive.hbMissed + 1 = s.actN 28704 1 ∧ src = 2 ∧ (∀ (k : GroupId), k ≠ g → s.bridgesOf k = []) ∧ s.actN 28704 ((↑g : ℕ) + 2) = 1 ∧ ∀ b ∈ s.bridgesOf g, s.starting b = false) :=
  ⟨(putObj 0x8031 3 2 { runQ with gr := runQ.gr.map fun (x : Group) => { x with slsOver := some 3, slpOver := some 4 } }), 1, (.slsViolation 1), 5, by refine ⟨?_, ?_, ?_, .inl (⟨rfl, by decide +kernel⟩)⟩ <;> decide +kernel⟩

theorem has_StopRows_1_0_a :
    ∃ (s : State) (g : GroupId) (c : Instr) (src : ℕ),
      (s.running g ≠ []) ∧ (s.gr[g].ss1 = none) ∧ (s.gr[g].atlas.ident = none) ∧ (c = Instr.slsViolation g ∧ s.gr[g].slsOver.isSome = true ∧ s.actN 32817 ((↑g : ℕ) + 2) ≠ 1 ∧ src = 5 ∨ c = Instr.slpViolation g ∧ s.gr[g].slpOver.isSome = true ∧ s.actN 32817 ((↑g : ℕ) + 10) ≠ 1 ∧ src = 7 ∨ (∃ (w : Fin 16), c = Instr.sumacWindowExpiry w ∧ s.clove.windows[w].opened.isSome = true ∧ (w = shuntWindow g ∨ w = sensorlessWindow g) ∧ src = 4) ∨ ∃ (t0 : ℕ), c = Instr.heartbeatMissed t0 ∧ t0 < s.drive.hbAt + 2 * ticksPerMs ∧ s.drive.hbMissed + 1 = s.actN 28704 1 ∧ src = 2 ∧ (∀ (k : GroupId), k ≠ g → s.bridgesOf k = []) ∧ s.actN 28704 ((↑g : ℕ) + 2) = 1 ∧ ∀ b ∈ s.bridgesOf g, s.starting b = false) :=
  ⟨(putObj 0x8031 11 2 { runQ with gr := runQ.gr.map fun (x : Group) => { x with slsOver := some 3, slpOver := some 4 } }), 1, (.slpViolation 1), 7, by refine ⟨?_, ?_, ?_, .inr (.inl (⟨rfl, by decide +kernel⟩))⟩ <;> decide +kernel⟩

theorem has_StopRows_1_0_b :
    ∃ (s : State) (g : GroupId) (c : Instr) (src : ℕ),
      (s.running g ≠ []) ∧ (s.gr[g].ss1 = none) ∧ (s.gr[g].atlas.ident = none) ∧ (c = Instr.slsViolation g ∧ s.gr[g].slsOver.isSome = true ∧ s.actN 32817 ((↑g : ℕ) + 2) ≠ 1 ∧ src = 5 ∨ c = Instr.slpViolation g ∧ s.gr[g].slpOver.isSome = true ∧ s.actN 32817 ((↑g : ℕ) + 10) ≠ 1 ∧ src = 7 ∨ (∃ (w : Fin 16), c = Instr.sumacWindowExpiry w ∧ s.clove.windows[w].opened.isSome = true ∧ (w = shuntWindow g ∨ w = sensorlessWindow g) ∧ src = 4) ∨ ∃ (t0 : ℕ), c = Instr.heartbeatMissed t0 ∧ t0 < s.drive.hbAt + 2 * ticksPerMs ∧ s.drive.hbMissed + 1 = s.actN 28704 1 ∧ src = 2 ∧ (∀ (k : GroupId), k ≠ g → s.bridgesOf k = []) ∧ s.actN 28704 ((↑g : ℕ) + 2) = 1 ∧ ∀ b ∈ s.bridgesOf g, s.starting b = false) :=
  ⟨(win (fun w => { w with opened := some 3 }) runQ), 1, (.sumacWindowExpiry (sensorlessWindow 1)), 4, by refine ⟨?_, ?_, ?_, .inr (.inr (.inl (⟨sensorlessWindow 1, by decide +kernel⟩)))⟩ <;> decide +kernel⟩

theorem has_StopRows_1_0_c :
    ∃ (s : State) (g : GroupId) (c : Instr) (src : ℕ),
      (s.running g ≠ []) ∧ (s.gr[g].ss1 = none) ∧ (s.gr[g].atlas.ident = none) ∧ (c = Instr.slsViolation g ∧ s.gr[g].slsOver.isSome = true ∧ s.actN 32817 ((↑g : ℕ) + 2) ≠ 1 ∧ src = 5 ∨ c = Instr.slpViolation g ∧ s.gr[g].slpOver.isSome = true ∧ s.actN 32817 ((↑g : ℕ) + 10) ≠ 1 ∧ src = 7 ∨ (∃ (w : Fin 16), c = Instr.sumacWindowExpiry w ∧ s.clove.windows[w].opened.isSome = true ∧ (w = shuntWindow g ∨ w = sensorlessWindow g) ∧ src = 4) ∨ ∃ (t0 : ℕ), c = Instr.heartbeatMissed t0 ∧ t0 < s.drive.hbAt + 2 * ticksPerMs ∧ s.drive.hbMissed + 1 = s.actN 28704 1 ∧ src = 2 ∧ (∀ (k : GroupId), k ≠ g → s.bridgesOf k = []) ∧ s.actN 28704 ((↑g : ℕ) + 2) = 1 ∧ ∀ b ∈ s.bridgesOf g, s.starting b = false) :=
  ⟨(win (fun w => { w with opened := some 3 }) runQ), 1, (.sumacWindowExpiry (shuntWindow 1)), 4, by refine ⟨?_, ?_, ?_, .inr (.inr (.inl (⟨shuntWindow 1, by decide +kernel⟩)))⟩ <;> decide +kernel⟩

theorem has_StopRows_1_1 :
    ∃ (s : State) (t0 : ℕ),
      (s.drive.hbAt + 2 * ticksPerMs ≤ t0) ∧ (s.actN 28704 1 ≠ 1) :=
  ⟨(putObj 0x7020 1 3 runQ), 10000000, by decide +kernel⟩

theorem has_StopRows_1_2_0 :
    ∃ (s : State) (g : GroupId) (x : Ss1) (t1 : ℕ),
      (s.gr[g].ss1 = some x) ∧ (x.calm = some t1) ∧ (x.goal = 0) ∧ (x.confirmed = false) ∧ (s.brakeGroup ≠ some g) ∧ (s.unforced = true) :=
  ⟨(ss { S with calm := some 3 } runQ), 1, ({ S with calm := some 3 }), 3, by decide +kernel⟩

theorem has_StopRows_1_2_1 :
    ∃ (s : State) (g : GroupId) (x : Ss1) (t1 : ℕ),
      (s.gr[g].ss1 = some x) ∧ (x.calm = some t1) ∧ (x.goal = 0) ∧ (x.confirmed = false) ∧ (s.brakeGroup = some g) :=
  ⟨(brk (ss { S with calm := some 3 } runQ)), 1, ({ S with calm := some 3 }), 3, by decide +kernel⟩

theorem has_StopRows_1_3 :
    ∃ (s : State) (g : GroupId) (x : Ss1) (t1 : ℕ),
      (s.clove.brakeClose = some t1) ∧ (s.brakeGroup = some g) ∧ (s.gr[g].ss1 = some x) ∧ (x.confirmed = true) ∧ (s.unforced = true) :=
  ⟨({ brk (ss { S with confirmed := true } runQ) with clove := { runQ.clove with brakeClose := some 5 } }), 1, ({ S with confirmed := true }), 5, by decide +kernel⟩

theorem has_MonitorBrakeAndWindowRows_0_0 :
    ∃ (s : State) (b : BridgeId) (g : GroupId),
      (s.groupOf b = some g) ∧ (s.br[b].state = BrState.run) ∧ (s.canRun s.br[b].monPair = true) ∧ (s.br[b].meas.stale = false) ∧ (s.br[b].meas.mode ≠ 2) ∧ (s.test.inject = []) ∧ (s.coresOn = true) ∧ (s.runFails b g = false) :=
  ⟨runQ, 1, 1, by decide +kernel⟩

theorem has_MonitorBrakeAndWindowRows_1 :
    ∃ (s : State) (g : GroupId),
      (s.brakeGroup = some g) ∧ (s.gr[g].rampHold = true) :=
  ⟨({ brk runQ with gr := runQ.gr.map fun (x : Group) => { x with rampHold := true } }), 1, by decide +kernel⟩

theorem has_MonitorBrakeAndWindowRows_2 :
    ∃ (s : State) (released : Bool),
      (∀ (g : GroupId), s.gr[g].rampHold = false) ∧ (s.sense.inputs[digitalInput 3].valid = true) ∧ (s.clove.brakeFb ≠ released) :=
  ⟨runQ, true, by decide +kernel⟩

theorem has_MonitorBrakeAndWindowRows_3 :
    ∃ (s : State) (g : GroupId),
      (s.brakeGroup = some g) ∧ (s.clove.brakeOn = false) ∧ (s.clove.brakeFb = true) :=
  ⟨({ brk runQ with clove := { runQ.clove with brakeFb := true } }), 1, by decide +kernel⟩

theorem has_MonitorBrakeAndWindowRows_4 :
    ∃ (s : State) (t1 : ℕ),
      (s.clove.windows[15].opened = some t1) :=
  ⟨(win (fun w => { w with opened := some 3 }) quad), 3, by decide +kernel⟩

theorem has_MonitorBrakeAndWindowRows_5 :
    ∃ (s : State) (w : Fin 16) (p : PairId),
      ((↑w : ℕ) = (↑p : ℕ)) ∧ (s.clove.windows[w].opened.isSome = true) :=
  ⟨(win (fun w => { w with opened := some 3 }) quad), 1, 1, by decide +kernel⟩

theorem has_MonitorBrakeAndWindowRows_6_0 :
    ∃ (s : State) (power : ℤ),
      ((↑power.natAbs : ℚ) ≤ s.powerBound (decide (power < 0))) :=
  ⟨quad, 0, by decide +kernel⟩

theorem has_MonitorBrakeAndWindowRows_6_1 :
    ∃ (s : State) (power : ℤ),
      (s.powerBound (decide (power < 0)) < (↑power.natAbs : ℚ)) ∧ (s.clove.powerOver = none) :=
  ⟨quad, 10000000000, by decide +kernel⟩

theorem has_LevelFourRows :
    ∃ (s : State) (c : Instr) (src : ClassASource),
      (s.unforced = true) ∧ (s.drive.state = DriveState.armed ∨ s.drive.state = DriveState.run ∨ s.drive.state = DriveState.stopping) ∧ (s.cont.opening = 0) ∧ (s.cont.coil[0] = true) ∧ (c = Instr.cloveChannelDisagreement ∧ src = ClassASource.cloveRequest ∨ c = Instr.referenceOscDeparted ∧ src = ClassASource.cloveRequest ∨ (∃ (u : ℕ) (chB : Bool), c = Instr.dcLinkOvervoltage u chB ∧ src = ClassASource.overvoltage ∧ s.actN 33029 1 < u) ∨ (∃ (power : ℤ) (t0 : ℕ) (u : ℕ), c = Instr.clovePowerCheck power t0 ∧ src = ClassASource.cloveRequest ∧ s.clove.powerOver = some u ∧ u + 10 * ticksPerMs ≤ t0 ∧ s.powerBound (decide (power < 0)) < (↑power.natAbs : ℚ)) ∨ (∃ (d : Fin 8), c = Instr.domainRailFault d ∧ src = ClassASource.cloveRequest ∧ 2 ≤ (↑d : ℕ) ∧ (↑d : ℕ) ≤ 6 ∧ s.pwr.domains[d] = true) ∨ c = Instr.busCollapse ∧ src = ClassASource.cloveRequest ∨ ∃ (k : Fin 3), c = Instr.pllLockLoss k ∧ src = ClassASource.cloveRequest ∧ (↑k : ℕ) < 2 ∧ s.pwr.pll[k] = true ∧ s.anyRun = true) :=
  ⟨l4, .cloveChannelDisagreement, .cloveRequest, by refine ⟨?_, ?_, ?_, ?_, .inl (⟨rfl, by decide +kernel⟩)⟩ <;> decide +kernel⟩

theorem has_LevelFourRows_a :
    ∃ (s : State) (c : Instr) (src : ClassASource),
      (s.unforced = true) ∧ (s.drive.state = DriveState.armed ∨ s.drive.state = DriveState.run ∨ s.drive.state = DriveState.stopping) ∧ (s.cont.opening = 0) ∧ (s.cont.coil[0] = true) ∧ (c = Instr.cloveChannelDisagreement ∧ src = ClassASource.cloveRequest ∨ c = Instr.referenceOscDeparted ∧ src = ClassASource.cloveRequest ∨ (∃ (u : ℕ) (chB : Bool), c = Instr.dcLinkOvervoltage u chB ∧ src = ClassASource.overvoltage ∧ s.actN 33029 1 < u) ∨ (∃ (power : ℤ) (t0 : ℕ) (u : ℕ), c = Instr.clovePowerCheck power t0 ∧ src = ClassASource.cloveRequest ∧ s.clove.powerOver = some u ∧ u + 10 * ticksPerMs ≤ t0 ∧ s.powerBound (decide (power < 0)) < (↑power.natAbs : ℚ)) ∨ (∃ (d : Fin 8), c = Instr.domainRailFault d ∧ src = ClassASource.cloveRequest ∧ 2 ≤ (↑d : ℕ) ∧ (↑d : ℕ) ≤ 6 ∧ s.pwr.domains[d] = true) ∨ c = Instr.busCollapse ∧ src = ClassASource.cloveRequest ∨ ∃ (k : Fin 3), c = Instr.pllLockLoss k ∧ src = ClassASource.cloveRequest ∧ (↑k : ℕ) < 2 ∧ s.pwr.pll[k] = true ∧ s.anyRun = true) :=
  ⟨l4, .referenceOscDeparted, .cloveRequest, by refine ⟨?_, ?_, ?_, ?_, .inr (.inl (⟨rfl, by decide +kernel⟩))⟩ <;> decide +kernel⟩

theorem has_LevelFourRows_b :
    ∃ (s : State) (c : Instr) (src : ClassASource),
      (s.unforced = true) ∧ (s.drive.state = DriveState.armed ∨ s.drive.state = DriveState.run ∨ s.drive.state = DriveState.stopping) ∧ (s.cont.opening = 0) ∧ (s.cont.coil[0] = true) ∧ (c = Instr.cloveChannelDisagreement ∧ src = ClassASource.cloveRequest ∨ c = Instr.referenceOscDeparted ∧ src = ClassASource.cloveRequest ∨ (∃ (u : ℕ) (chB : Bool), c = Instr.dcLinkOvervoltage u chB ∧ src = ClassASource.overvoltage ∧ s.actN 33029 1 < u) ∨ (∃ (power : ℤ) (t0 : ℕ) (u : ℕ), c = Instr.clovePowerCheck power t0 ∧ src = ClassASource.cloveRequest ∧ s.clove.powerOver = some u ∧ u + 10 * ticksPerMs ≤ t0 ∧ s.powerBound (decide (power < 0)) < (↑power.natAbs : ℚ)) ∨ (∃ (d : Fin 8), c = Instr.domainRailFault d ∧ src = ClassASource.cloveRequest ∧ 2 ≤ (↑d : ℕ) ∧ (↑d : ℕ) ≤ 6 ∧ s.pwr.domains[d] = true) ∨ c = Instr.busCollapse ∧ src = ClassASource.cloveRequest ∨ ∃ (k : Fin 3), c = Instr.pllLockLoss k ∧ src = ClassASource.cloveRequest ∧ (↑k : ℕ) < 2 ∧ s.pwr.pll[k] = true ∧ s.anyRun = true) :=
  ⟨l4, (.dcLinkOvervoltage 60000 true), .overvoltage, by refine ⟨?_, ?_, ?_, ?_, .inr (.inr (.inl (⟨60000, true, rfl, by decide +kernel⟩)))⟩ <;> decide +kernel⟩

theorem has_LevelFourRows_c :
    ∃ (s : State) (c : Instr) (src : ClassASource),
      (s.unforced = true) ∧ (s.drive.state = DriveState.armed ∨ s.drive.state = DriveState.run ∨ s.drive.state = DriveState.stopping) ∧ (s.cont.opening = 0) ∧ (s.cont.coil[0] = true) ∧ (c = Instr.cloveChannelDisagreement ∧ src = ClassASource.cloveRequest ∨ c = Instr.referenceOscDeparted ∧ src = ClassASource.cloveRequest ∨ (∃ (u : ℕ) (chB : Bool), c = Instr.dcLinkOvervoltage u chB ∧ src = ClassASource.overvoltage ∧ s.actN 33029 1 < u) ∨ (∃ (power : ℤ) (t0 : ℕ) (u : ℕ), c = Instr.clovePowerCheck power t0 ∧ src = ClassASource.cloveRequest ∧ s.clove.powerOver = some u ∧ u + 10 * ticksPerMs ≤ t0 ∧ s.powerBound (decide (power < 0)) < (↑power.natAbs : ℚ)) ∨ (∃ (d : Fin 8), c = Instr.domainRailFault d ∧ src = ClassASource.cloveRequest ∧ 2 ≤ (↑d : ℕ) ∧ (↑d : ℕ) ≤ 6 ∧ s.pwr.domains[d] = true) ∨ c = Instr.busCollapse ∧ src = ClassASource.cloveRequest ∨ ∃ (k : Fin 3), c = Instr.pllLockLoss k ∧ src = ClassASource.cloveRequest ∧ (↑k : ℕ) < 2 ∧ s.pwr.pll[k] = true ∧ s.anyRun = true) :=
  ⟨({ l4 with clove := { l4.clove with powerOver := some 0 } }), (.clovePowerCheck 10000000000 4000000), .cloveRequest, by refine ⟨?_, ?_, ?_, ?_, .inr (.inr (.inr (.inl (⟨10000000000, 4000000, 0, rfl, by decide +kernel⟩))))⟩ <;> decide +kernel⟩

theorem has_LevelFourRows_d :
    ∃ (s : State) (c : Instr) (src : ClassASource),
      (s.unforced = true) ∧ (s.drive.state = DriveState.armed ∨ s.drive.state = DriveState.run ∨ s.drive.state = DriveState.stopping) ∧ (s.cont.opening = 0) ∧ (s.cont.coil[0] = true) ∧ (c = Instr.cloveChannelDisagreement ∧ src = ClassASource.cloveRequest ∨ c = Instr.referenceOscDeparted ∧ src = ClassASource.cloveRequest ∨ (∃ (u : ℕ) (chB : Bool), c = Instr.dcLinkOvervoltage u chB ∧ src = ClassASource.overvoltage ∧ s.actN 33029 1 < u) ∨ (∃ (power : ℤ) (t0 : ℕ) (u : ℕ), c = Instr.clovePowerCheck power t0 ∧ src = ClassASource.cloveRequest ∧ s.clove.powerOver = some u ∧ u + 10 * ticksPerMs ≤ t0 ∧ s.powerBound (decide (power < 0)) < (↑power.natAbs : ℚ)) ∨ (∃ (d : Fin 8), c = Instr.domainRailFault d ∧ src = ClassASource.cloveRequest ∧ 2 ≤ (↑d : ℕ) ∧ (↑d : ℕ) ≤ 6 ∧ s.pwr.domains[d] = true) ∨ c = Instr.busCollapse ∧ src = ClassASource.cloveRequest ∨ ∃ (k : Fin 3), c = Instr.pllLockLoss k ∧ src = ClassASource.cloveRequest ∧ (↑k : ℕ) < 2 ∧ s.pwr.pll[k] = true ∧ s.anyRun = true) :=
  ⟨l4, (.domainRailFault 3), .cloveRequest, by refine ⟨?_, ?_, ?_, ?_, .inr (.inr (.inr (.inr (.inl (⟨3, by decide +kernel⟩)))))⟩ <;> decide +kernel⟩

theorem has_LevelFourRows_e :
    ∃ (s : State) (c : Instr) (src : ClassASource),
      (s.unforced = true) ∧ (s.drive.state = DriveState.armed ∨ s.drive.state = DriveState.run ∨ s.drive.state = DriveState.stopping) ∧ (s.cont.opening = 0) ∧ (s.cont.coil[0] = true) ∧ (c = Instr.cloveChannelDisagreement ∧ src = ClassASource.cloveRequest ∨ c = Instr.referenceOscDeparted ∧ src = ClassASource.cloveRequest ∨ (∃ (u : ℕ) (chB : Bool), c = Instr.dcLinkOvervoltage u chB ∧ src = ClassASource.overvoltage ∧ s.actN 33029 1 < u) ∨ (∃ (power : ℤ) (t0 : ℕ) (u : ℕ), c = Instr.clovePowerCheck power t0 ∧ src = ClassASource.cloveRequest ∧ s.clove.powerOver = some u ∧ u + 10 * ticksPerMs ≤ t0 ∧ s.powerBound (decide (power < 0)) < (↑power.natAbs : ℚ)) ∨ (∃ (d : Fin 8), c = Instr.domainRailFault d ∧ src = ClassASource.cloveRequest ∧ 2 ≤ (↑d : ℕ) ∧ (↑d : ℕ) ≤ 6 ∧ s.pwr.domains[d] = true) ∨ c = Instr.busCollapse ∧ src = ClassASource.cloveRequest ∨ ∃ (k : Fin 3), c = Instr.pllLockLoss k ∧ src = ClassASource.cloveRequest ∧ (↑k : ℕ) < 2 ∧ s.pwr.pll[k] = true ∧ s.anyRun = true) :=
  ⟨l4, (.domainRailFault 2), .cloveRequest, by refine ⟨?_, ?_, ?_, ?_, .inr (.inr (.inr (.inr (.inl (⟨2, by decide +kernel⟩)))))⟩ <;> decide +kernel⟩

theorem has_LevelFourRows_f :
    ∃ (s : State) (c : Instr) (src : ClassASource),
      (s.unforced = true) ∧ (s.drive.state = DriveState.armed ∨ s.drive.state = DriveState.run ∨ s.drive.state = DriveState.stopping) ∧ (s.cont.opening = 0) ∧ (s.cont.coil[0] = true) ∧ (c = Instr.cloveChannelDisagreement ∧ src = ClassASource.cloveRequest ∨ c = Instr.referenceOscDeparted ∧ src = ClassASource.cloveRequest ∨ (∃ (u : ℕ) (chB : Bool), c = Instr.dcLinkOvervoltage u chB ∧ src = ClassASource.overvoltage ∧ s.actN 33029 1 < u) ∨ (∃ (power : ℤ) (t0 : ℕ) (u : ℕ), c = Instr.clovePowerCheck power t0 ∧ src = ClassASource.cloveRequest ∧ s.clove.powerOver = some u ∧ u + 10 * ticksPerMs ≤ t0 ∧ s.powerBound (decide (power < 0)) < (↑power.natAbs : ℚ)) ∨ (∃ (d : Fin 8), c = Instr.domainRailFault d ∧ src = ClassASource.cloveRequest ∧ 2 ≤ (↑d : ℕ) ∧ (↑d : ℕ) ≤ 6 ∧ s.pwr.domains[d] = true) ∨ c = Instr.busCollapse ∧ src = ClassASource.cloveRequest ∨ ∃ (k : Fin 3), c = Instr.pllLockLoss k ∧ src = ClassASource.cloveRequest ∧ (↑k : ℕ) < 2 ∧ s.pwr.pll[k] = true ∧ s.anyRun = true) :=
  ⟨l4, .busCollapse, .cloveRequest, by refine ⟨?_, ?_, ?_, ?_, .inr (.inr (.inr (.inr (.inr (.inl (⟨rfl, by decide +kernel⟩))))))⟩ <;> decide +kernel⟩

theorem has_LevelFourRows_g :
    ∃ (s : State) (c : Instr) (src : ClassASource),
      (s.unforced = true) ∧ (s.drive.state = DriveState.armed ∨ s.drive.state = DriveState.run ∨ s.drive.state = DriveState.stopping) ∧ (s.cont.opening = 0) ∧ (s.cont.coil[0] = true) ∧ (c = Instr.cloveChannelDisagreement ∧ src = ClassASource.cloveRequest ∨ c = Instr.referenceOscDeparted ∧ src = ClassASource.cloveRequest ∨ (∃ (u : ℕ) (chB : Bool), c = Instr.dcLinkOvervoltage u chB ∧ src = ClassASource.overvoltage ∧ s.actN 33029 1 < u) ∨ (∃ (power : ℤ) (t0 : ℕ) (u : ℕ), c = Instr.clovePowerCheck power t0 ∧ src = ClassASource.cloveRequest ∧ s.clove.powerOver = some u ∧ u + 10 * ticksPerMs ≤ t0 ∧ s.powerBound (decide (power < 0)) < (↑power.natAbs : ℚ)) ∨ (∃ (d : Fin 8), c = Instr.domainRailFault d ∧ src = ClassASource.cloveRequest ∧ 2 ≤ (↑d : ℕ) ∧ (↑d : ℕ) ≤ 6 ∧ s.pwr.domains[d] = true) ∨ c = Instr.busCollapse ∧ src = ClassASource.cloveRequest ∨ ∃ (k : Fin 3), c = Instr.pllLockLoss k ∧ src = ClassASource.cloveRequest ∧ (↑k : ℕ) < 2 ∧ s.pwr.pll[k] = true ∧ s.anyRun = true) :=
  ⟨l4, (.pllLockLoss 1), .cloveRequest, by refine ⟨?_, ?_, ?_, ?_, .inr (.inr (.inr (.inr (.inr (.inr (⟨1, by decide +kernel⟩))))))⟩ <;> decide +kernel⟩

theorem has_TorqueStagesOnlyReduce_0 :
    ∃ (s : State),
      (∀ (k : ℕ), 0 ≤ s.act 28673 k ∧ 0 ≤ s.act 28674 k) :=
  ⟨(fast runQ), fun k => ⟨act_pos _ (by decide +kernel) _ k (.inl rfl), act_pos _ (by decide +kernel) _ k (.inr rfl)⟩⟩

theorem has_TorqueStagesOnlyReduce_0_a :
    ∃ (s : State),
      (∀ (k : ℕ), 0 ≤ s.act 28673 k ∧ 0 ≤ s.act 28674 k) :=
  ⟨(fast runQ), fun k => ⟨act_pos _ (by decide +kernel) _ k (.inl rfl), act_pos _ (by decide +kernel) _ k (.inr rfl)⟩⟩

theorem has_TorqueStagesOnlyReduce_1 :
    ∃ (s : State) (g : GroupId) (t1 : ℚ) (regen : Bool),
      (∀ (k : ℕ), 0 ≤ s.act 28673 k ∧ 0 ≤ s.act 28674 k) ∧ ((s.stages g t1 regen).dirCut = true) :=
  ⟨(putObj 0x7101 2 2 runQ), 1, 300, true, by refine ⟨fun k => ⟨act_pos _ (by decide +kernel) _ k (.inl rfl), act_pos _ (by decide +kernel) _ k (.inr rfl)⟩, ?_⟩ <;> decide +kernel⟩

end Sys2Proof.Tests.Stops
end

section
/-! What every step keeps: the queue of commands, the direction of the clock and of the count of free values, and the canonical forms of objects,
memories and counters. One rule per operation of the model, in the order of its files: where a state follows o, so does what the operation
makes of it. -/

namespace Sys2Proof.Machine

/-! The relation -/

/-- State s follows o: the queue of commands is the same, the clock and the count of free values have not gone back, and objects, memory
and counters are in their canonical form if they were in o. -/
structure Follows (o s : State) : Prop where
  pending : s.pending = o.pending
  now : o.now ≤ s.now
  freeCount : o.freeCount ≤ s.freeCount
  par : o.par.wf = true → s.par.wf = true
  mem : o.mem.wf = true → s.mem.wf = true
  st : o.st.bounded = true → s.st.bounded = true

/-- Each state that a command answers follows o. -/
def Ends (o : State) (r : Host.Outcome State Fault Refusal) : Prop := ∀ t, r = .next t → Follows o t

/-! The form of the objects -/

theorem Params.wf_iff (p : Params) : p.wf = true ↔ risingKeys p.stored = true ∧ risingKeys p.active = true ∧
    (∀ k : Fin 2, ∀ i ∈ p.slots[k], risingKeys i.values = true) ∧ ∀ c ∈ p.commit, risingKeys c.image = true := by
  simp only [Params.wf, Bool.and_eq_true, Vector.all_eq_true, Option.all_eq_true, and_assoc, Option.mem_def, Fin.forall_iff, Fin.getElem_fin]

/-- An image that is written keeps the form where its own values are rising. -/
theorem setSlot_wf (p : Params) (k : Nat) (hk : k < 2) (x : Option ParamImage) (hx : ∀ i ∈ x, risingKeys i.values = true) (h : p.wf = true) :
    Params.wf { p with slots := p.slots.set k x } = true := by
  obtain ⟨hs, ha, hi, hc⟩ := (Params.wf_iff p).1 h
  refine (Params.wf_iff _).2 ⟨hs, ha, fun j i hj => ?_, hc⟩
  simp only [Fin.getElem_fin, Vector.getElem_set] at hj
  split at hj
  · exact hx i hj
  · exact hi j i hj

theorem dropCommit_wf (p : Params) (h : p.wf = true) : Params.wf { p with commit := none } = true := by
  obtain ⟨hs, ha, hi, -⟩ := (Params.wf_iff p).1 h
  exact (Params.wf_iff _).2 ⟨hs, ha, hi, by simp⟩

/-- The image that a commit takes is that of the stored values. -/
theorem beginCommit_wf (p : Params) (r : CmdRef) (n : Nat) (h : p.wf = true) :
    Params.wf { p with commit := some { ref := r, applied := n, image := p.stored } } = true := by
  obtain ⟨hs, ha, hi, -⟩ := (Params.wf_iff p).1 h
  exact (Params.wf_iff _).2 ⟨hs, ha, hi, by rintro c ⟨⟩; exact hs⟩

/-- Values that are rising are loaded as stored and active values. -/
theorem loaded_wf (p : Params) (vs : List (Nat × Int)) (hv : Vector Bool 2) (hr : risingKeys vs = true) (h : p.wf = true) :
    Params.wf { stored := vs, active := vs, commit := none, slots := p.slots, halves := hv } = true := by
  obtain ⟨-, -, hi, -⟩ := (Params.wf_iff p).1 h
  exact (Params.wf_iff _).2 ⟨hr, hr, hi, by simp⟩

/-- The image that loads is one of the slots. -/
theorem imageToLoad_rising (s : State) (i : ParamImage) (h : s.par.wf = true) (hi : s.imageToLoad = some i) : risingKeys i.values = true := by
  obtain ⟨-, -, hs, -⟩ := (Params.wf_iff s.par).1 h
  have pick (n : Nat) (j : ParamImage) (hj : (if hn : n < 2 then s.par.slots[n].filter (·.good) else none) = some j) :
      risingKeys j.values = true := by
    split at hj
    · next hn => exact hs ⟨n, hn⟩ j (Option.filter_eq_some_iff.1 hj).1
    · cases hj
  unfold State.imageToLoad at hi
  split at hi
  · cases hi
  · next r _ =>
    dsimp only at hi
    generalize hf : (if hn : r.slot < 2 then s.par.slots[r.slot].filter (·.good) else none) = first at hi
    cases first with
    | none => exact pick _ i hi
    | some j => exact pick _ i (hf.trans hi)

/-! The form of the memories -/

theorem Mem.wf_iff (m : Mem) : m.wf = true ↔ cellsWf m.dram = true ∧ cellsWf m.nand = true := by rw [Mem.wf, Bool.and_eq_true]

/-! Rules that every operation uses -/

section
variable {o s : State}

theorem Follows.refl (s : State) : Follows s s := ⟨rfl, Nat.le_refl _, Nat.le_refl _, id, id, id⟩

theorem Ends.next (h : Follows o s) : Ends o (.next s) := fun _ e => by cases e; exact h

theorem Ends.ite {c : Prop} [Decidable c] {a b : Host.Outcome State Fault Refusal} (ha : Ends o a) (hb : Ends o b) :
    Ends o (if c then a else b) := by split <;> assumption

/-- An update of what no canonical form, clock or count speaks of. -/
theorem Follows.frame {io tr ar sm te bo br gr dr co cl pa pl pw di se ne ti ca} (h : Follows o s) :
    Follows o { s with io := io, transfer := tr, arb := ar, streams := sm, test := te, boot := bo, br := br, gr := gr, drive := dr, cont := co,
                       clove := cl, pairs := pa, place := pl, pwr := pw, die := di, sense := se, net := ne, time := ti, can := ca } :=
  ⟨h.pending, h.now, h.freeCount, h.par, h.mem, h.st⟩

/-- An update of the objects that keeps their form. -/
theorem Follows.withPar {p : Params} {io tr ar sm te bo br gr dr co cl pa pl pw di se ne ti ca} (hp : s.par.wf = true → p.wf = true)
    (h : Follows o s) :
    Follows o { s with par := p, io := io, transfer := tr, arb := ar, streams := sm, test := te, boot := bo, br := br, gr := gr, drive := dr,
                       cont := co, clove := cl, pairs := pa, place := pl, pwr := pw, die := di, sense := se, net := ne, time := ti, can := ca } :=
  ⟨h.pending, h.now, h.freeCount, hp ∘ h.par, h.mem, h.st⟩

/-- An update of the memories that keeps their form. -/
theorem Follows.withMem {m : Mem} {io tr ar sm te bo br gr dr co cl pa pl pw di se ne ti ca} (hm : s.mem.wf = true → m.wf = true)
    (h : Follows o s) :
    Follows o { s with mem := m, io := io, transfer := tr, arb := ar, streams := sm, test := te, boot := bo, br := br, gr := gr, drive := dr,
                       cont := co, clove := cl, pairs := pa, place := pl, pwr := pw, die := di, sense := se, net := ne, time := ti, can := ca } :=
  ⟨h.pending, h.now, h.freeCount, h.par, hm ∘ h.mem, h.st⟩

/-- An update of the counters that keeps their bound. -/
theorem Follows.withSt {u : Stats} {io tr ar sm te bo br gr dr co cl pa pl pw di se ne ti ca} (hu : s.st.bounded = true → u.bounded = true)
    (h : Follows o s) :
    Follows o { s with st := u, io := io, transfer := tr, arb := ar, streams := sm, test := te, boot := bo, br := br, gr := gr, drive := dr,
                       cont := co, clove := cl, pairs := pa, place := pl, pwr := pw, die := di, sense := se, net := ne, time := ti, can := ca } :=
  ⟨h.pending, h.now, h.freeCount, h.par, h.mem, hu ∘ h.st⟩

theorem Follows.ite {c : Prop} [Decidable c] {a b : State} (ha : Follows o a) (hb : Follows o b) : Follows o (if c then a else b) := by
  split <;> assumption

theorem Follows.dite {c : Prop} [Decidable c] {a : c → State} {b : ¬c → State} (ha : ∀ x, Follows o (a x)) (hb : ∀ x, Follows o (b x)) :
    Follows o (if x : c then a x else b x) := by
  split
  · exact ha _
  · exact hb _

theorem Follows.foldl {α : Type} {l : List α} {f : State → α → State} (hf : ∀ {u x}, Follows o u → Follows o (f u x)) (h : Follows o s) :
    Follows o (l.foldl f s) := by
  induction l generalizing s with
  | nil => exact h
  | cons x t ih => exact ih (hf h)

/-! Ops -/

theorem Follows.modBr {b f} (h : Follows o s) : Follows o (modBr b f s) := .frame h

theorem Follows.modGr {g f} (h : Follows o s) : Follows o (modGr g f s) := .frame h

theorem Follows.modLeg {l f} (h : Follows o s) : Follows o (modLeg l f s) := .modBr h

theorem Follows.modPos {p f} (h : Follows o s) : Follows o (modPos p f s) := .modBr h

theorem Follows.forBr {l f} (hf : ∀ {b u}, Follows o u → Follows o (f b u)) (h : Follows o s) : Follows o (forBr l f s) := .foldl hf h

theorem Follows.forGr {l f} (hf : ∀ {g u}, Follows o u → Follows o (f g u)) (h : Follows o s) : Follows o (forGr l f s) := .foldl hf h

theorem Follows.onlyIf {c f} (hf : ∀ {u}, Follows o u → Follows o (f u)) (h : Follows o s) : Follows o (onlyIf c f s) := .ite (hf h) h

theorem Follows.setNow {t} (h : Follows o s) : Follows o (setNow t s) := { h with now := h.now.trans (Nat.le_max_left _ _) }

theorem Follows.putObj {i sub v} (h : Follows o s) : Follows o (putObj i sub v s) := .withPar (setBoth_wf _ _ _ _) h

theorem Follows.drew (h : Follows o s) : Follows o (drew s) := { h with freeCount := h.freeCount.trans (Nat.le_succ _) }

theorem Follows.setCounter {i sub v} (h : Follows o s) : Follows o (setCounter i sub v s) := .withSt (setCounter_bounded i sub v s) h

theorem Follows.bumpBy {i sub n} (h : Follows o s) : Follows o (bumpBy i sub n s) := .setCounter h

theorem Follows.bump {i sub} (h : Follows o s) : Follows o (bump i sub s) := .bumpBy h

theorem Follows.peak {i sub v} (h : Follows o s) : Follows o (peak i sub v s) := .setCounter h

theorem Follows.modOut {q f} (h : Follows o s) : Follows o (modOut q f s) := .frame h

theorem Follows.modCmd {q f} (h : Follows o s) : Follows o (modCmd q f s) := .frame h

theorem Follows.sentOn {p} (h : Follows o s) : Follows o (sentOn p s) := .bump h

theorem Follows.countSent {m} (h : Follows o s) : Follows o (countSent m s) := by
  unfold Machine.countSent
  split
  · exact .sentOn h
  · exact .sentOn h
  · exact .sentOn h
  · exact .sentOn h
  · exact .sentOn h
  · exact .sentOn h
  · exact .sentOn h
  · exact .onlyIf .sentOn (.onlyIf .sentOn h)
  · exact .onlyIf .sentOn (.onlyIf .sentOn h)
  · exact .ite (.sentOn h) (.ite (.sentOn h) h)
  · exact .ite (.sentOn h) (.ite (.sentOn h) h)
  · exact h
  · exact h
  · exact h

theorem Follows.send {m} (h : Follows o s) : Follows o (send m s) := .ite h (.countSent (.frame h))

theorem Follows.modCan {c f} (h : Follows o s) : Follows o (modCan c f s) := .frame h

theorem Follows.canQueue {c f peer} (h : Follows o s) : Follows o (canQueue c f peer s) := .modCan h

theorem Follows.notifyFrame {c q counts} (h : Follows o s) : Follows o (State.notifyFrame s c q counts) := .canQueue h

theorem Follows.notifyNow {q} (h : Follows o s) : Follows o (notifyNow q s) := by
  unfold Machine.notifyNow
  extract_lets
  split
  · refine .bump ?_
    split
    · exact .notifyFrame (.frame h)
    · exact .notifyFrame (.frame h)
    · exact .send (.frame h)
  · exact .bump (.frame h)

theorem Follows.notifyEntry {q} (h : Follows o s) : Follows o (notifyEntry q s) := .ite (.notifyNow h) (.frame h)

theorem Follows.pushEntry {q e} (h : Follows o s) : Follows o (pushEntry q e s) := .notifyEntry (.modOut h)

theorem Follows.nextSerial (h : Follows o s) : Follows o (nextSerial s) := .frame h

theorem Follows.settleLost {q} (h : Follows o s) : Follows o (settleLost q s) := .ite (.nextSerial (.pushEntry (.modOut h))) h

theorem Follows.enqueueOut {q e} (h : Follows o s) : Follows o (enqueueOut q e s) :=
  .ite (.pushEntry (.settleLost h)) (.bump (.modOut (.settleLost h)))

theorem Follows.raise0 {code level index payload} (h : Follows o s) : Follows o (raise0 code level index payload s) :=
  .ite h (.enqueueOut (.nextSerial h))

theorem Follows.injectionSeen {hit serial} (h : Follows o s) : Follows o (injectionSeen hit serial s) := by
  unfold Machine.injectionSeen
  split
  · exact .bump (.raise0 (.frame h))
  · exact h

theorem Follows.raise {code level index payload} (h : Follows o s) : Follows o (raise code level index payload s) := .injectionSeen (.raise0 h)

theorem Follows.injectionCount {point} (h : Follows o s) : Follows o (injectionCount point s) := .injectionSeen h

theorem Follows.raiseFirst {code level index payload key} (h : Follows o s) : Follows o (raiseFirst code level index payload key s) :=
  .ite h (.raise (.withSt id h))

theorem Follows.raise4 {code payload} (h : Follows o s) : Follows o (raise4 code payload s) := .raise h

theorem Follows.raiseB {code b payload} (h : Follows o s) : Follows o (raiseB code b payload s) := .raise h

theorem Follows.raiseG {code g payload} (h : Follows o s) : Follows o (raiseG code g payload s) := .raise h

theorem Follows.complete {r status results} (h : Follows o s) : Follows o (complete r status results s) :=
  .onlyIf .bump (.onlyIf .bump (.pushEntry (.modCmd (.frame h))))

theorem Follows.refuse {r status word} (h : Follows o s) : Follows o (refuse r status word s) := .complete h

theorem Follows.putCell {a w} (h : Follows o s) : Follows o (putCell a w s) := .withMem (putCell_wf a w s) h

/-! Journal -/

theorem Follows.appendRecord {r} (h : Follows o s) : Follows o (appendRecord r s) := .ite (.withMem id h) (.raise4 (.withMem id h))

theorem Follows.confirmFirmware (h : Follows o s) : Follows o (confirmFirmware s) := .ite h (.raise4 (.frame (.appendRecord h)))

/-! Packets -/

theorem Follows.modStream {k f} (h : Follows o s) : Follows o (modStream k f s) := .frame h

theorem Follows.drainRing {q k n} (h : Follows o s) : Follows o (drainRing q k n s) := by
  induction n generalizing s with
  | zero => exact h
  | succ n ih =>
    unfold Machine.drainRing
    extract_lets
    split
    · exact .ite (ih (.modStream (.modOut h))) h
    · exact h

theorem Follows.discardOldest {k need n} (h : Follows o s) : Follows o (discardOldest k need n s) := by
  induction n generalizing s with
  | zero => exact h
  | succ n ih =>
    unfold Machine.discardOldest
    extract_lets
    split
    · exact h
    · split
      · exact h
      · exact ih (.drainRing (.bump (.onlyIf .modStream (.modOut h))))

theorem Follows.packetLost {k} (h : Follows o s) : Follows o (packetLost k s) := .raiseFirst h

theorem Follows.toRing {k p} (h : Follows o s) : Follows o (toRing k p s) := .peak (.bump (.modStream (.pushEntry (.modOut h))))

theorem Follows.enqueuePacket {k p} (h : Follows o s) : Follows o (enqueuePacket k p s) := by
  unfold Machine.enqueuePacket
  extract_lets _ _ _ _ _ _ s1
  have h1 : Follows o s1 := .packetLost (.discardOldest (.bump h))
  split
  · exact .pushEntry (.bump h)
  · exact .ite (.toRing (.bump h)) (.ite (.ite (.toRing h1) (.toRing (.modOut h1))) (.packetLost (.bump (.modStream (.bump h)))))

theorem Follows.stopStream {k} (h : Follows o s) : Follows o (stopStream k s) := .foldl .complete (.raise4 (.modStream h))

theorem Follows.closePacket {k truncated final} (h : Follows o s) : Follows o (closePacket k truncated final s) :=
  .ite h (.enqueuePacket (.onlyIf .bump (.modStream h)))

theorem Follows.streamBridgeLost {b} (h : Follows o s) : Follows o (streamBridgeLost b s) :=
  .foldl (fun h => .ite (.ite (.stopStream (.closePacket h)) (.closePacket h)) h) h

/-! CanLink -/

theorem Follows.canFailed {c cause source} (h : Follows o s) : Follows o (canFailed c cause source s) := .raiseFirst (.bump h)

theorem Follows.canFailAll {c cause} (h : Follows o s) : Follows o (canFailAll c cause s) := .foldl .canFailed (.modCan h)

theorem Follows.claimAddress {c a} (h : Follows o s) : Follows o (claimAddress c a s) := .canQueue (.modCan h)

theorem Follows.claimNext {c} (h : Follows o s) : Follows o (claimNext c s) := by
  unfold Machine.claimNext
  split
  · exact .claimAddress h
  · exact .raise4 (.canQueue (.modCan h))

theorem Follows.beginClaim {c} (h : Follows o s) : Follows o (beginClaim c s) := .ite (.claimNext h) (.claimAddress h)

theorem Follows.startCan {c} (h : Follows o s) : Follows o (startCan c s) := .ite (.beginClaim (.modCan (.canFailAll h))) (.modCan (.canFailAll h))

theorem Follows.restartCan {old standby c} (h : Follows o s) : Follows o (restartCan old standby c s) := .ite (.startCan h) h

/-! Losses -/

theorem Follows.modTh {b f} (h : Follows o s) : Follows o (modTh b f s) := .modBr h

theorem Follows.modDie {f} (h : Follows o s) : Follows o (modDie f s) := .frame h

theorem Follows.seedBridge {b} (h : Follows o s) : Follows o (seedBridge b s) := by
  unfold Machine.seedBridge
  exact .modTh h

theorem Follows.addEnergy {b f} (h : Follows o s) : Follows o (addEnergy b f s) := .modBr h

theorem Follows.chargeDriven {b} (h : Follows o s) : Follows o (chargeDriven b s) := by
  unfold Machine.chargeDriven
  exact .addEnergy h

theorem Follows.uncharge {b} (h : Follows o s) : Follows o (uncharge b s) := .modBr h

theorem Follows.chargeSet {b e} (h : Follows o s) : Follows o (chargeSet b e s) := .modBr (.addEnergy h)

theorem Follows.drivePending {b} (h : Follows o s) : Follows o (drivePending b s) := .modBr h

theorem Follows.chargeShort {b p ticks} (h : Follows o s) : Follows o (chargeShort b p ticks s) := by
  unfold Machine.chargeShort
  exact .addEnergy h

theorem Follows.chargeForced {p b} (h : Follows o s) : Follows o (chargeForced p b s) := .chargeShort (.addEnergy (.uncharge h))

theorem Follows.chargeCut {b k upper} (h : Follows o s) : Follows o (chargeCut b k upper s) := by
  unfold Machine.chargeCut
  exact .addEnergy h

/-! Sources -/

theorem Follows.modIface {i f} (h : Follows o s) : Follows o (modIface i f s) := .frame h

theorem Follows.settleLimits {g} (h : Follows o s) : Follows o (settleLimits g s) :=
  .ite (.bump (.raiseG (.modGr h))) (.ite (.raiseG (.modGr h)) (.modGr h))

theorem Follows.putCount {g e} (h : Follows o s) : Follows o (putCount g e s) := .settleLimits (.modGr h)

theorem Follows.moveCount {g d} (h : Follows o s) : Follows o (moveCount g d s) := .ite h (.putCount h)

theorem Follows.switchSource {g i} (h : Follows o s) : Follows o (switchSource g i s) := .putCount (.bump (.raiseG (.modGr h)))

theorem Follows.dropOffsets {g} (h : Follows o s) : Follows o (dropOffsets g s) := .modGr h

theorem Follows.takeAssigned {old g} (h : Follows o s) : Follows o (takeAssigned old g s) := by
  unfold Machine.takeAssigned
  extract_lets
  split
  · exact .onlyIf .dropOffsets h
  · split
    · exact .ite (.onlyIf .dropOffsets h) (.switchSource (.onlyIf .dropOffsets h))
    · exact .modGr (.onlyIf .dropOffsets h)

theorem Follows.refreshBounds (h : Follows o s) : Follows o (refreshBounds s) :=
  .forGr (fun h => .ite h (.onlyIf .raise4 (.onlyIf .raise (.frame h)))) (.forBr (fun h => .onlyIf .raise4 (.onlyIf .raise (.frame h))) h)

/-! Safe -/

theorem Follows.modAllPos {b f} (h : Follows o s) : Follows o (modAllPos b f s) := .modBr h

theorem Follows.endHold {p} (h : Follows o s) : Follows o (endHold p s) := by
  unfold Machine.endHold
  split
  · exact h
  · exact .onlyIf .bump (.modPos h)

theorem Follows.turnOff {p} (h : Follows o s) : Follows o (turnOff p s) := .modPos (.endHold h)

theorem Follows.noteEdge {l rising t} (h : Follows o s) : Follows o (noteEdge l rising t s) := .modBr h

theorem Follows.noteOff {b} (h : Follows o s) : Follows o (noteOff b s) := .foldl (fun h => .onlyIf .noteEdge h) h

theorem Follows.turnAllOff {b} (h : Follows o s) : Follows o (turnAllOff b s) := .foldl .turnOff (.noteOff h)

theorem Follows.clearCharges (h : Follows o s) : Follows o (clearCharges s) := .frame h

theorem Follows.settlePd7 (h : Follows o s) : Follows o (settlePd7 s) := .frame (.onlyIf .clearCharges h)

theorem Follows.restoreWindows (h : Follows o s) : Follows o (restoreWindows s) := .frame h

theorem Follows.stopChop (h : Follows o s) : Follows o (stopChop s) := by
  unfold Machine.stopChop
  split
  · exact h
  · extract_lets
    split
    · exact .frame h
    · exact .forBr (fun h => .foldl (fun k => .modPos (.turnOff k)) h) (.frame h)

theorem Follows.setDrive {d} (h : Follows o s) : Follows o (setDrive d s) := by
  unfold Machine.setDrive
  split
  · exact h
  · extract_lets _ _ _ _ _ _ s1
    have h1 : Follows o s1 := .withPar (activateWhere_wf _ _) (.onlyIf .stopChop h)
    exact .settlePd7 (.refreshBounds (.restoreWindows (.forGr .takeAssigned (.restartCan (.restartCan h1)))))

theorem Follows.settleDrive (h : Follows o s) : Follows o (settleDrive s) := by
  unfold Machine.settleDrive
  split
  · exact .setDrive h
  · exact .setDrive h
  · exact .setDrive h
  · exact .setDrive h
  · exact .setDrive h
  · exact .onlyIf .setDrive h
  · exact h

theorem Follows.startOutcome {b cause} (h : Follows o s) : Follows o (startOutcome b cause s) := .foldl .complete (.frame h)

theorem Follows.applyBrake (h : Follows o s) : Follows o (applyBrake s) := by
  unfold Machine.applyBrake
  split
  · exact h
  · exact .ite (.bump (.raiseG (.frame h))) h

theorem Follows.releaseBrake (h : Follows o s) : Follows o (releaseBrake s) := by
  unfold Machine.releaseBrake
  split
  · exact h
  · exact .ite h (.raiseG (.frame h))

theorem Follows.applyBrakeOf {g} (h : Follows o s) : Follows o (applyBrakeOf g s) := .onlyIf .applyBrake h

theorem Follows.modWin {w f} (h : Follows o s) : Follows o (modWin w f s) := .frame h

theorem Follows.raiseWindow {code w payload} (h : Follows o s) : Follows o (raiseWindow code w payload s) := by
  unfold Machine.raiseWindow
  split
  · exact .raiseG h
  · exact .raise4 h

theorem Follows.closeWindow {w} (h : Follows o s) : Follows o (closeWindow w s) := .ite (.raiseWindow (.modWin h)) h

theorem Follows.endWindow {w} (h : Follows o s) : Follows o (endWindow w s) := .restoreWindows (.closeWindow (.modWin h))

theorem Follows.settleGroup {g} (h : Follows o s) : Follows o (settleGroup g s) := by
  unfold Machine.settleGroup
  extract_lets _ _ _ _ _ s1
  have h1 : Follows o s1 := .onlyIf (fun h => .closeWindow (.raiseG (.modGr h))) h
  exact .ite (.onlyIf .modGr h1) (.restoreWindows (.modWin (.onlyIf .modGr h1)))

theorem Follows.clearAtlasCells {g} (h : Follows o s) : Follows o (clearAtlasCells g s) :=
  .withMem (fun hm => have ⟨hd, hn⟩ := (Mem.wf_iff _).1 hm; (Mem.wf_iff _).2 ⟨eraseRange_wf _ _ _ hd, hn⟩) h

theorem Follows.setAtlasState {g c} (h : Follows o s) : Follows o (setAtlasState g c s) := .ite h (.raiseG (.modGr h))

theorem Follows.abortIdent {g} (h : Follows o s) : Follows o (abortIdent g s) := by
  unfold Machine.abortIdent
  extract_lets
  split
  · exact h
  · extract_lets s1 _ s2
    have h1 : Follows o s1 := .onlyIf (fun h => .forBr .modBr h) h
    have h2 : Follows o s2 := .setAtlasState (.clearAtlasCells (.modGr h1))
    split
    · exact .complete h2
    · exact h2

theorem Follows.settleSs1Reqs (h : Follows o s) : Follows o (settleSs1Reqs s) := .foldl .complete (.frame h)

theorem Follows.noteSs1 {g n0} (h : Follows o s) : Follows o (noteSs1 g n0 s) := .settleSs1Reqs (.frame h)

theorem Follows.takeSelection {g} (h : Follows o s) : Follows o (takeSelection g s) := by
  unfold Machine.takeSelection
  split
  · exact h
  · exact .foldl .complete (.raiseG (.modGr h))

theorem Follows.refuseTorque {x} (h : Follows o s) : Follows o (refuseTorque x s) := .foldl .complete h

theorem Follows.unlatchTorque {g} (h : Follows o s) : Follows o (unlatchTorque g s) := by
  unfold Machine.unlatchTorque
  split
  · exact h
  · exact .ite (.complete (.modGr h)) (.modGr h)

theorem Follows.groupOut {g} (h : Follows o s) : Follows o (groupOut g s) :=
  .ite h (.abortIdent (.applyBrakeOf (.refuseTorque (.onlyIf .noteSs1 (.takeSelection (.modGr (.foldl .raiseG h)))))))

theorem Follows.latchFor {code p} (h : Follows o s) : Follows o (latchFor code p s) := .ite h (.bump (.modPos (.turnOff h)))

theorem Follows.latchPos {p} (h : Follows o s) : Follows o (latchPos p s) := .ite h (.raise (.latchFor h))

theorem Follows.loseSplit {b} (h : Follows o s) : Follows o (loseSplit b s) := by
  unfold Machine.loseSplit
  split
  · exact h
  · split
    · exact .ite (.unlatchTorque (.modGr h)) h
    · exact h

theorem Follows.leaveRun {b} (h : Follows o s) : Follows o (leaveRun b s) :=
  .streamBridgeLost (.modBr (.foldl (fun h => .ite (.latchPos h) h) (.loseSplit h)))

theorem Follows.dueStandbyTests {b} (h : Follows o s) : Follows o (dueStandbyTests b s) := .frame h

theorem Follows.startCheckpoint {g} (h : Follows o s) : Follows o (startCheckpoint g s) := by
  unfold Machine.startCheckpoint
  exact .modGr (.withMem id h)

theorem Follows.groupStandbyEntry {g} (h : Follows o s) : Follows o (groupStandbyEntry g s) := by
  unfold Machine.groupStandbyEntry
  split
  · exact h
  · extract_lets _ _ _ _ _ s1 _ s2
    have h1 : Follows o s1 := by
      unfold s1
      split
      · exact .onlyIf .switchSource (.modGr (.takeSelection h))
      · exact .modGr (.takeSelection h)
    have h2 : Follows o s2 := .onlyIf .setAtlasState (.onlyIf .raiseG h1)
    exact .onlyIf .startCheckpoint h2

theorem Follows.emptySets {b} (h : Follows o s) : Follows o (emptySets b s) := .modBr (.uncharge h)

theorem Follows.enterStandby {b} (h : Follows o s) : Follows o (enterStandby b s) := by
  unfold Machine.enterStandby
  extract_lets _ _ s1 s2
  have h1 : Follows o s1 := .dueStandbyTests (.turnAllOff (.emptySets (.modBr h)))
  have h2 : Follows o s2 := by
    unfold s2
    split
    · exact .groupStandbyEntry h1
    · exact h1
  exact .restoreWindows h2

theorem Follows.settleDisables (h : Follows o s) : Follows o (settleDisables s) := .foldl .complete (.frame h)

theorem Follows.settleBridge {b} (h : Follows o s) : Follows o (settleBridge b s) := by
  unfold Machine.settleBridge
  extract_lets s1
  have h1 : Follows o s1 := by
    unfold s1
    split
    · exact .settleGroup (.groupOut h)
    · exact h
  exact .settleDrive (.settleDisables h1)

theorem Follows.bridgeTo {st b} (h : Follows o s) : Follows o (bridgeTo st b s) :=
  .ite h (.settleBridge (.onlyIf .enterStandby (.onlyIf .leaveRun (.modBr h))))

theorem Follows.abortStart {b cause} (h : Follows o s) : Follows o (abortStart b cause s) := by
  unfold Machine.abortStart
  split
  · extract_lets _ _ s1
    have h1 : Follows o s1 := by
      unfold s1
      split
      · exact .bump (.raiseB (.modBr h))
      · exact .raiseB (.modBr h)
    exact .startOutcome h1
  · exact h

theorem Follows.recordLost (h : Follows o s) : Follows o (recordLost s) := by
  unfold Machine.recordLost
  split
  · exact .ite h (.raise4 h)
  · exact h

theorem Follows.writeRecord {event level index kind} (h : Follows o s) : Follows o (writeRecord event level index kind s) := .frame (.recordLost h)

theorem Follows.snapshotFault {src level b} (h : Follows o s) : Follows o (snapshotFault src level b s) := .bump (.raise4 (.writeRecord h))

theorem Follows.forceOutputs {p b} (h : Follows o s) : Follows o (forceOutputs p b s) :=
  .foldl (fun h => .modPos (.ite h (.turnOff h))) (.onlyIf .noteOff h)

theorem Follows.cloveInvalid {g} (h : Follows o s) : Follows o (cloveInvalid g s) := .ite h (.onlyIf .raiseG (.bump (.frame h)))

theorem Follows.ascSpeed {b} (h : Follows o s) : Follows o (ascSpeed b s) := by
  unfold Machine.ascSpeed
  split
  · exact .ite (.cloveInvalid h) h
  · exact h

theorem Follows.setCoil {c on} (h : Follows o s) : Follows o (setCoil c on s) := .ite h (.frame h)

theorem Follows.deferDischarge (h : Follows o s) : Follows o (deferDischarge s) := .ite (.bump (.raise4 (.frame (.stopChop h)))) h

theorem Follows.hvSleep (h : Follows o s) : Follows o (hvSleep s) := .frame (.setDrive h)

theorem Follows.failDischarge (h : Follows o s) : Follows o (failDischarge s) := by
  unfold Machine.failDischarge
  extract_lets _ _ _ _ _ _ s1 s2
  have h1 : Follows o s1 := .bump (.raise4 (.frame (.stopChop h)))
  have h2 : Follows o s2 := .foldl .complete h1
  exact .ite (.hvSleep (.writeRecord h2)) (.setDrive h2)

theorem Follows.runDischarge {winding} (h : Follows o s) : Follows o (runDischarge winding s) := by
  unfold Machine.runDischarge
  split
  · split
    · exact .failDischarge h
    · exact .bump (.raise4 (.frame h))
  · exact .bump (.raise4 (.frame h))

theorem Follows.startDischarge (h : Follows o s) : Follows o (startDischarge s) :=
  .ite h (.ite (.ite h (.bump (.raise4 (.frame h)))) (.runDischarge (.onlyIf .setDrive (.frame h))))

theorem Follows.settleOpen (h : Follows o s) : Follows o (settleOpen s) := .ite (.startDischarge h) h

theorem Follows.openCoil {c} (h : Follows o s) : Follows o (openCoil c s) := .onlyIf .raise4 (.setCoil h)

theorem Follows.settleDischarge (h : Follows o s) : Follows o (settleDischarge s) := by
  unfold Machine.settleDischarge
  split
  · exact h
  · split
    · exact .startDischarge h
    · split
      · split
        · exact .setDrive h
        · exact .setDrive h
        · exact h
      · exact h

theorem Follows.setPattern {p b} (h : Follows o s) : Follows o (setPattern p b s) := by
  unfold Machine.setPattern
  extract_lets _ _ _ s1 _ _ s2 _ s3
  have h1 : Follows o s1 := .onlyIf .turnAllOff (.onlyIf .chargeForced h)
  have h2 : Follows o s2 := .modBr (.forceOutputs (.modBr h1))
  have h3 : Follows o s3 := .ite (.onlyIf .ascSpeed h2) (.bridgeTo (.onlyIf .ascSpeed h2))
  exact .settlePd7 (.ite (.deferDischarge h3) (.onlyIf .settleDischarge h3))

theorem Follows.raiseForced {src level b p} (h : Follows o s) : Follows o (raiseForced src level b p s) := .raise h

theorem Follows.changePattern {p b} (h : Follows o s) : Follows o (changePattern p b s) := .ite h (.raiseForced (.setPattern h))

theorem Follows.reacqFailed {g case} (h : Follows o s) : Follows o (reacqFailed g case s) :=
  .ite (.forBr (fun h => .bridgeTo (.changePattern (.modBr h))) (.raiseG (.bump (.raiseG (.modGr h))))) (.modGr (.bump (.raiseG (.modGr h))))

theorem Follows.abandonSlices {sel} (h : Follows o s) : Follows o (abandonSlices sel s) := .frame h

theorem Follows.detect {p desat t} (h : Follows o s) : Follows o (detect p desat t s) := .ite h (.abandonSlices (.modPos (.turnOff h)))

theorem Follows.injected {point} (h : Follows o s) : Follows o (injected point s) := .frame h

theorem Follows.turnOn {p due} (h : Follows o s) : Follows o (turnOn p due s) :=
  .ite h (.ite (.detect (.injected (.modPos h))) (.ite (.detect (.injected (.modPos h))) (.modPos h)))

theorem Follows.reacqBroken {g} (h : Follows o s) : Follows o (reacqBroken g s) := .ite h (.reacqFailed h)

theorem Follows.latchForce {src p level b} (h : Follows o s) : Follows o (latchForce src p level b s) := by
  unfold Machine.latchForce
  extract_lets _ _ _ s1 _ s2 _ s3
  have h1 : Follows o s1 := by
    unfold s1
    split
    · exact .onlyIf .applyBrakeOf (.abandonSlices (.modBr h))
    · exact .abandonSlices (.modBr h)
  have h2 : Follows o s2 := by
    unfold s2
    split
    · exact .onlyIf .reacqBroken (.modBr h1)
    · exact .modBr h1
  have h3 : Follows o s3 := .onlyIf .modBr (.onlyIf .abortStart h2)
  exact .ite (.ite (.snapshotFault (.raiseForced (.modBr (.modBr h)))) (.modBr h)) (.snapshotFault (.raiseForced (.onlyIf .setPattern h3)))

theorem Follows.dropForce {b} (h : Follows o s) : Follows o (dropForce b s) := .ite h (.raise (.modAllPos (.turnAllOff (.modBr h))))

theorem Follows.toHeldCatch {b} (h : Follows o s) : Follows o (toHeldCatch b s) := .settleBridge (.bridgeTo (.modBr (.onlyIf .latchForce h)))

theorem Follows.toRest {b} (h : Follows o s) : Follows o (toRest b s) :=
  .ite (.toHeldCatch h) (.settleDischarge (.ite (.settleBridge (.enterStandby (.turnAllOff (.dropForce h)))) (.bridgeTo (.turnAllOff (.dropForce
      h)))))

theorem Follows.abortToStandby {b cause} (h : Follows o s) : Follows o (abortToStandby b cause s) := by
  unfold Machine.abortToStandby
  split
  · extract_lets s1
    have h1 : Follows o s1 := .turnAllOff (.dropForce (.abortStart h))
    exact .settleDischarge (.ite (.settleBridge (.enterStandby h1)) (.bridgeTo h1))
  · exact h

theorem Follows.abortToRest {b cause} (h : Follows o s) : Follows o (abortToRest b cause s) := .ite (.toRest (.abortStart h)) h

theorem Follows.identBroken {b} (h : Follows o s) : Follows o (identBroken b s) := by
  unfold Machine.identBroken
  split
  · exact .ite (.forBr .toRest (.abortIdent h)) h
  · exact h

theorem Follows.forceBridge {src p level b} (h : Follows o s) : Follows o (forceBridge src p level b s) := .identBroken (.latchForce h)

theorem Follows.safeBridge {src level b} (h : Follows o s) : Follows o (safeBridge src level b s) := .forceBridge h

theorem Follows.endCause {src b} (h : Follows o s) : Follows o (endCause src b s) := .modBr h

theorem Follows.safeRequest {src level b} (h : Follows o s) : Follows o (safeRequest src level b s) := by
  unfold Machine.safeRequest
  exact .endCause (.safeBridge h)

theorem Follows.safeGroup {g} (h : Follows o s) : Follows o (safeGroup g s) := .forBr .safeRequest h

theorem Follows.openContactors {noWait after} (h : Follows o s) : Follows o (openContactors noWait after s) := by
  unfold Machine.openContactors
  extract_lets _ _ _ _ _ _ s1
  have h1 : Follows o s1 := .openCoil (.frame (.openCoil (.frame h)))
  exact .ite (.frame (.openCoil (.frame h))) (.ite (.frame (.frame (.openCoil (.frame h)))) (.ite (.frame h1) (.settleOpen (.frame h1))))

theorem Follows.settleCoils (h : Follows o s) : Follows o (settleCoils s) := by
  unfold Machine.settleCoils
  split
  · exact .setCoil (.frame h)
  · exact .setCoil (.frame h)
  · exact .setCoil (.frame h)
  · exact h
  · exact h
  · exact h
  · exact .onlyIf .openContactors h

theorem Follows.endArm {status} (h : Follows o s) : Follows o (endArm status s) := by
  unfold Machine.endArm
  dsimp only
  split
  · exact .complete (.frame h)
  · exact .frame h

theorem Follows.declareWeld {test c} (h : Follows o s) : Follows o (declareWeld test c s) :=
  .ite h (.setDrive (.forBr .safeRequest (.foldl .complete (.frame (.openContactors (.endArm (.bump (.raise4 (.frame (.stopChop
      h))))))))))

theorem Follows.driveSafe {sto} (h : Follows o s) : Follows o (driveSafe sto s) := by
  unfold Machine.driveSafe
  split
  · exact h
  · exact h
  · exact .settleDrive h
  · exact .ite (.setDrive (.endArm h)) (.openContactors (.setDrive (.endArm h)))

theorem Follows.safeDrive {src} (h : Follows o s) : Follows o (safeDrive src s) := .driveSafe (.forBr .safeBridge h)

theorem Follows.safeDriveOnce {src} (h : Follows o s) : Follows o (safeDriveOnce src s) := .forBr .endCause (.safeDrive h)

theorem Follows.externalFault (h : Follows o s) : Follows o (externalFault s) := .ite (.driveSafe (.forBr .forceBridge h)) (.safeDrive h)

theorem Follows.stoRequest (h : Follows o s) : Follows o (stoRequest s) := .safeDrive (.onlyIf .applyBrake (.bump (.raise4 h)))

theorem Follows.abortGroupStarts {g cause} (h : Follows o s) : Follows o (abortGroupStarts g cause s) := .forBr .abortToRest h

theorem Follows.ss1Source {g src} (h : Follows o s) : Follows o (ss1Source g src s) :=
  .ite h (.ite (.abortGroupStarts (.raiseG h)) (.ite (.raiseG h) (.onlyIf (fun h => .forBr .toRest h) (.modGr h))))

theorem Follows.stopGroup {g} (h : Follows o s) : Follows o (stopGroup g s) := .ite h (.ss1Source (.raiseG (.modGr h)))

theorem Follows.endSs1 {g} (h : Follows o s) : Follows o (endSs1 g s) := .forBr .safeRequest h

/-! AtlasOps -/

theorem Follows.modAtlas {g f} (h : Follows o s) : Follows o (modAtlas g f s) := .modGr h

theorem Follows.putAxis {g bs} (h : Follows o s) : Follows o (putAxis g bs s) := .foldl .putObj h

theorem Follows.copyToDram {g slot} (h : Follows o s) : Follows o (copyToDram g slot s) := .withMem (copyToDram_wf g slot s) h

theorem Follows.copyToNand {g slot} (h : Follows o s) : Follows o (copyToNand g slot s) :=
  .withMem (fun hm => have ⟨hd, hn⟩ := (Mem.wf_iff _).1 hm; (Mem.wf_iff _).2 ⟨hd, copyRange_wf _ _ _ _ _ hd hn⟩) h

theorem Follows.commitAtlas {g slot} (h : Follows o s) : Follows o (commitAtlas g slot s) := by
  unfold Machine.commitAtlas
  exact .modAtlas (.appendRecord h)

theorem Follows.loadSlot {g slot} (h : Follows o s) : Follows o (loadSlot g slot s) := by
  unfold Machine.loadSlot
  split
  · exact h
  · exact .setAtlasState (.modAtlas (.drew (.putAxis (.copyToDram h))))

theorem Follows.loadAtlas {g report} (h : Follows o s) : Follows o (loadAtlas g report s) := by
  unfold Machine.loadAtlas
  split
  · exact h
  · split
    · exact .onlyIf .raiseG h
    · exact .ite (.loadSlot h) (.ite (.loadSlot h) (.onlyIf .raiseG h))

theorem Ends.execAtlasLoad {g} (h : Follows o s) : Ends o (execAtlasLoad g s) := .next (.loadAtlas h)

theorem Follows.unbindGroup {g} (h : Follows o s) : Follows o (unbindGroup g s) := by
  unfold Machine.unbindGroup
  extract_lets _ s1
  have h1 : Follows o s1 := .setAtlasState (.modAtlas (.clearAtlasCells h))
  exact .ite (.foldl .complete (.raiseG h1)) h1

theorem Follows.unbindGroups {new} (h : Follows o s) : Follows o (unbindGroups new s) := .forGr .unbindGroup h

theorem Follows.rebindGroups {old} (h : Follows o s) : Follows o (rebindGroups old s) := .forGr .loadAtlas h

/-! Duties -/

theorem Follows.modPair {p f} (h : Follows o s) : Follows o (modPair p f s) := .frame h

theorem Follows.raiseMove {task b src dst planned} (h : Follows o s) : Follows o (raiseMove task b src dst planned s) := .bump (.raise4 h)

theorem Follows.moveStep {planned b p} (h : Follows o s) : Follows o (moveStep planned b p s) := .ite h (.modBr (.raiseMove h))

theorem Follows.moveWatch {planned b} (h : Follows o s) : Follows o (moveWatch planned b s) :=
  .ite (.ite h (.modBr (.raiseMove h))) (.modBr (.raiseMove (.ite h (.modBr (.raiseMove h)))))

theorem Follows.finishPlacement (h : Follows o s) : Follows o (finishPlacement s) := by
  unfold Machine.finishPlacement
  split
  · exact h
  · exact .ite (.frame h) (.raiseMove (.frame (.frame h)))

theorem Follows.movePlacement {planned} (h : Follows o s) : Follows o (movePlacement planned s) := .ite (.frame h) (.finishPlacement (.frame h))

theorem Follows.evacuate {p} (h : Follows o s) : Follows o (evacuate p s) :=
  .forBr (fun h => .ite (.moveWatch h) h) (.forBr (fun h => .ite (.moveStep h) h) (.movePlacement h))

theorem Follows.setDecim {p d} (h : Follows o s) : Follows o (setDecim p d s) := .ite h (.bump (.raise4 (.frame h)))

theorem Follows.setPairCeiling {c f} (h : Follows o s) : Follows o (setPairCeiling c f s) := .ite (.frame h) (.onlyIf .bump (.raise4 (.frame h)))

theorem Follows.settleLoad {p} (h : Follows o s) : Follows o (settleLoad p s) := by
  unfold Machine.settleLoad
  extract_lets
  split
  · exact .ite (.setDecim (.setDecim h)) (.ite (.setDecim (.setDecim h)) (.setPairCeiling (.setDecim (.setDecim h))))
  · split
    · exact .setDecim h
    · exact .ite (.ite (.setDecim (.setDecim h)) (.setDecim h)) (.ite (.ite (.setDecim (.setDecim h)) (.setDecim h)) (.setDecim h))

theorem Follows.settleLoads (h : Follows o s) : Follows o (settleLoads s) := .ite (.setPairCeiling (.frame h)) (.settleLoad (.settleLoad (.frame h)))

theorem Follows.settleRating (h : Follows o s) : Follows o (settleRating s) := .ite h (.onlyIf .raise4 (.frame h))

theorem Follows.settleNoPair (h : Follows o s) : Follows o (settleNoPair s) := .ite h (.driveSafe (.forBr .safeRequest h))

theorem Follows.settlePairs (h : Follows o s) : Follows o (settlePairs s) := .refreshBounds (.settleNoPair (.settleRating (.settleLoads h)))

theorem Follows.withdrawPair {p} (h : Follows o s) : Follows o (withdrawPair p s) := .ite h (.settlePairs (.evacuate (.raise4 (.modPair h))))

theorem Follows.countPairFault {p} (h : Follows o s) : Follows o (countPairFault p s) := .ite (.withdrawPair (.modPair h)) (.modPair h)

theorem Follows.abandonSplit (h : Follows o s) : Follows o (abandonSplit s) := by
  unfold Machine.abandonSplit
  split
  · exact .complete (.frame h)
  · exact h

theorem Follows.leaveLockstep {p st} (h : Follows o s) : Follows o (leaveLockstep p st s) := .settlePairs (.evacuate (.abandonSplit (.modPair h)))

theorem Follows.leavePartners (h : Follows o s) : Follows o (leavePartners s) := .frame h

theorem Follows.stopAll {src} (h : Follows o s) : Follows o (stopAll src s) := .forGr .ss1Source h

theorem Follows.windowAction {w} (h : Follows o s) : Follows o (windowAction w s) := by
  unfold Machine.windowAction
  split
  · exact .ite (.stopGroup h) (.ss1Source (.onlyIf .raiseG h))
  · exact .dite (fun _ => .ite (.withdrawPair h) (.stopAll (.withdrawPair h))) (fun _ => .ite (.stopAll h) (.leavePartners h))

theorem Follows.expireWindow {early w} (h : Follows o s) : Follows o (expireWindow early w s) := by
  unfold Machine.expireWindow
  extract_lets _ _ s1 s2
  have h1 : Follows o s1 := .onlyIf .raiseWindow (.raiseWindow (.modWin h))
  have h2 : Follows o s2 := by
    unfold s2
    split <;> exact .bump h1
  exact .windowAction h2

theorem Follows.openWindow {w} (h : Follows o s) : Follows o (openWindow w s) := by
  unfold Machine.openWindow
  extract_lets _ _ s1
  have h1 : Follows o s1 := by
    unfold s1
    split
    · exact .onlyIf .raiseG (.bump (.raiseWindow (.modWin h)))
    · exact .bump (.raiseWindow (.modWin h))
  split
  · exact h
  · split
    · exact .ite (.expireWindow h1) h1
    · exact h1

theorem Follows.beginWindow {w} (h : Follows o s) : Follows o (beginWindow w s) := .openWindow (.modWin h)

theorem Follows.settleLine (h : Follows o s) : Follows o (settleLine s) := .ite (.endWindow h) (.ite (.beginWindow h) h)

theorem Follows.judgeRetained {g e flag multi c} (h : Follows o s) : Follows o (judgeRetained g e flag multi c s) :=
  .ite (.modGr h) (.ite (.ss1Source (.raiseG (.raiseG (.modGr h)))) (.raiseG (.modGr h)))

theorem Follows.enterRun {b} (h : Follows o s) : Follows o (enterRun b s) := by
  unfold Machine.enterRun
  split
  · exact h
  · split
    · exact .ite (.abortToStandby h) (.bridgeTo h)
    · extract_lets _ s1
      have h1 : Follows o s1 := by
        unfold s1
        split
        · exact .settleGroup (.modBr h)
        · exact .modBr h
      exact .settleDrive (.foldl .openWindow h1)

/-! Operands -/

theorem Follows.authFailed {e code} (h : Follows o s) : Follows o (authFailed e code s) := .refuse (.bump (.raise4 h))

theorem Follows.runCommand {e code queues lenOk want zeroKeyOk body} (hf : ∀ {r u}, Follows o u → Follows o (body r u)) (h : Follows o s) :
    Follows o (runCommand e code queues lenOk want zeroKeyOk body s) :=
  .ite (.refuse h) (.ite (.refuse h) (.ite (.authFailed h) (.ite (.refuse h) (hf h))))

theorem Follows.command {e code queue want body} (hf : ∀ {r u}, Follows o u → Follows o (body r u)) (h : Follows o s) :
    Follows o (command e code queue want body s) := .runCommand hf h

theorem Follows.withGroup {e body r} (hf : ∀ {g r u}, Follows o u → Follows o (body g r u)) (h : Follows o s) :
    Follows o (withGroup e body r s) := by
  unfold Machine.withGroup
  split
  · exact hf h
  · exact .refuse h

theorem Follows.withPair {e body r} (hf : ∀ {p r u}, Follows o u → Follows o (body p r u)) (h : Follows o s) :
    Follows o (withPair e body r s) := by
  unfold Machine.withPair
  split
  · exact hf h
  · exact .refuse h

theorem Follows.withBridges {e body r} (hf : ∀ {l r u}, Follows o u → Follows o (body l r u)) (h : Follows o s) :
    Follows o (withBridges e body r s) := .ite (.refuse h) (hf h)

theorem Follows.finish {r results} (h : Follows o s) : Follows o (finish r results s) := .complete h

/-! Motion -/

theorem Follows.setPhase {b ph} (h : Follows o s) : Follows o (setPhase b ph s) := .modBr h

theorem Follows.noteJoin {b arrival} (h : Follows o s) : Follows o (noteJoin b arrival s) := .modBr h

theorem Follows.enterRamp {b} (h : Follows o s) : Follows o (enterRamp b s) := by
  unfold Machine.enterRamp
  extract_lets _ _ s1 s2 s3
  have h1 : Follows o s1 := .raiseB (.setPhase (.enterRun h))
  have h2 : Follows o s2 := .onlyIf (fun h => .modBr (.noteJoin h)) h1
  have h3 : Follows o s3 := by
    unfold s3
    split
    · exact .onlyIf .modGr (.onlyIf .releaseBrake h2)
    · exact h2
  exact .ite (.enterRun h) (.startOutcome h3)

theorem Follows.runPhase {b ph} (h : Follows o s) : Follows o (runPhase b ph s) := .ite (.setPhase (.onlyIf .noteJoin (.enterRun h))) (.enterRun h)

theorem Follows.enterAngle {b} (h : Follows o s) : Follows o (enterAngle b s) := .runPhase h

theorem Follows.primeOn {b} (h : Follows o s) : Follows o (primeOn b s) := .foldl (fun h => .ite h (.turnOn h)) (.modBr h)

theorem Follows.endPulse {b} (h : Follows o s) : Follows o (endPulse b s) := .foldl (fun h => .ite h (.turnOff h)) h

theorem Follows.beginPrime {b} (h : Follows o s) : Follows o (beginPrime b s) := .primeOn (.bump (.modBr h))

theorem Follows.refusePrime {b} (h : Follows o s) : Follows o (refusePrime b s) := .ite h (.bump (.raiseB h))

theorem Follows.catchBridge {g b} (h : Follows o s) : Follows o (catchBridge g b s) := .ite (.abortToStandby h) (.setPhase (.forceBridge h))

theorem Follows.beginAcquire {g asc held entered} (h : Follows o s) : Follows o (beginAcquire g asc held entered s) := by
  unfold Machine.beginAcquire
  exact .modGr h

theorem Follows.takeCrossings {g b} (h : Follows o s) : Follows o (takeCrossings g b s) := .ite (.modGr h) (.forBr .modBr (.modGr h))

theorem Follows.identListened {g still} (h : Follows o s) : Follows o (identListened g still s) := by
  unfold Machine.identListened
  extract_lets _ _ s1 s2
  have h1 : Follows o s1 := .modGr (.forBr .modBr h)
  have h2 : Follows o s2 := .modGr (.forBr .modBr h)
  split
  · exact .settlePd7 (.forBr .enterRun (.raiseG h1))
  · refine .settlePd7 ?_
    split
    · exact .refuse h2
    · exact h2

theorem Follows.standStill {g} (h : Follows o s) : Follows o (standStill g s) := .ite h (.modGr h)

theorem Follows.listenOutcome {g oc} (h : Follows o s) : Follows o (listenOutcome g oc s) := by
  unfold Machine.listenOutcome
  extract_lets bs s1 _ _ _ s2
  have h2 : Follows o s2 := .modGr (.forBr (.onlyIf .modBr) h)
  clear_value s1 s2 bs
  cases bs with
  | nil => exact h
  | cons low t =>
    have h3 {n m c p} : Follows o (Machine.bump n m (Machine.raiseG c g p s2)) := .bump (.raiseG h2)
    refine .ite (.identListened h3) (.ite (.forBr (fun k => .ite (.enterAngle k) (.beginPrime k)) (.standStill h3)) (.ite ?_ ?_))
    · exact .ite (.forBr .abortToStandby (.forBr .refusePrime h3)) (.forBr .runPhase (.onlyIf .takeCrossings (.forBr .refusePrime h3)))
    · exact .ite (.forBr .catchBridge (.forBr .refusePrime h3)) (.beginAcquire (.forBr .catchBridge (.forBr .refusePrime h3)))

theorem Follows.beginListen {g bs joining} (h : Follows o s) : Follows o (beginListen g bs joining s) :=
  .ite h (.bump (.forBr (fun h => .turnAllOff (.modBr h)) (.modGr h)))

theorem Follows.startHeld {g bs joining} (h : Follows o s) : Follows o (startHeld g bs joining s) := by
  unfold Machine.startHeld
  split
  · exact h
  · exact .ite (.forBr .modBr h) (.beginAcquire (.modGr (.forBr .modBr h)))

theorem Follows.startBridges {named r} (h : Follows o s) : Follows o (startBridges named r s) :=
  .ite (.refuse h) (.ite (.refuse (.bump (.raise4 h))) (.forGr (fun h => .startHeld (.beginListen h)) (.frame h)))

theorem Follows.bridgeEnable {e} (h : Follows o s) : Follows o (bridgeEnable e s) := .command (fun h => .withBridges .startBridges h) h

theorem Follows.catchStart {e} (h : Follows o s) : Follows o (catchStart e s) :=
  .command (fun h => .withGroup (fun k => .ite (.startBridges k) (.refuse k)) h) h

theorem Follows.disableBridges {named r} (h : Follows o s) : Follows o (disableBridges named r s) := by
  unfold Machine.disableBridges
  extract_lets _ _ _ _ s1 s2
  have h1 : Follows o s1 := .forBr (fun h => .ite (.abortToRest h) (.ite h (.modBr h))) (.frame h)
  have h2 : Follows o s2 := .forGr (fun h => .onlyIf .abortIdent h) h1
  exact .ite (.refuse h) (.settleDrive (.settleDisables h2))

theorem Follows.bridgeDisable {e} (h : Follows o s) : Follows o (bridgeDisable e s) := .command (fun h => .withBridges .disableBridges h) h

theorem Ends.execBridgeEnable {e} (h : Follows o s) : Ends o (execBridgeEnable e s) := .next (.bridgeEnable h)

theorem Ends.execBridgeDisable {e} (h : Follows o s) : Ends o (execBridgeDisable e s) := .next (.bridgeDisable h)

theorem Ends.execCatchStart {e} (h : Follows o s) : Ends o (execCatchStart e s) := .next (.catchStart h)

theorem Follows.listenMinimum {g} (h : Follows o s) : Follows o (listenMinimum g s) := by
  unfold Machine.listenMinimum
  extract_lets
  split
  · exact .setNow h
  · exact .ite (.listenOutcome (.setNow h)) (.ite (.listenOutcome (.setNow h)) (.setNow h))

theorem Ends.execListenMinimumExpiry {g} (h : Follows o s) : Ends o (execListenMinimumExpiry g s) := .next (.listenMinimum h)

theorem Follows.listenCeiling {g} (h : Follows o s) : Follows o (listenCeiling g s) := by
  unfold Machine.listenCeiling
  extract_lets
  split
  · exact .setNow h
  · exact .listenOutcome (.setNow h)

theorem Ends.execListenCeilingExpiry {g} (h : Follows o s) : Ends o (execListenCeilingExpiry g s) := .next (.listenCeiling h)

theorem Follows.saliencyTimeout {b} (h : Follows o s) : Follows o (saliencyTimeout b s) := .ite (.abortToStandby (.setNow h)) (.setNow h)

theorem Ends.execSaliencySearchTimeout {b} (h : Follows o s) : Ends o (execSaliencySearchTimeout b s) := .next (.saliencyTimeout h)

theorem Follows.chargeLimit {b} (h : Follows o s) : Follows o (chargeLimit b s) := .ite (.abortToStandby (.setNow h)) (.setNow h)

theorem Ends.execChargeLimitExpiry {b} (h : Follows o s) : Ends o (execChargeLimitExpiry b s) := .next (.chargeLimit h)

theorem Follows.disableRampEnd {b} (h : Follows o s) : Follows o (disableRampEnd b s) := by
  unfold Machine.disableRampEnd
  split
  · exact .toRest (.modBr (.setNow h))
  · exact h

theorem Ends.execDisableRampEnd {b} (h : Follows o s) : Ends o (execDisableRampEnd b s) := .next (.disableRampEnd h)

theorem Follows.safeChange {p b} (h : Follows o s) : Follows o (safeChange p b s) := by
  unfold Machine.safeChange
  extract_lets _ s1
  have h1 : Follows o s1 := by
    unfold s1
    split
    · exact .bump (.raiseB h)
    · exact .raiseB h
  exact .changePattern h1

theorem Follows.safeOffToAsc {b} (h : Follows o s) : Follows o (safeOffToAsc b s) := by
  unfold Machine.safeOffToAsc
  extract_lets _ s1
  have h1 : Follows o s1 := by
    unfold s1
    split
    · exact .setNow h
    · exact h
  exact .ite (.settleDrive (.safeChange h1)) h1

theorem Ends.execSafeOffToAsc {b} (h : Follows o s) : Ends o (execSafeOffToAsc b s) := .next (.safeOffToAsc h)

theorem Follows.ascToOff {b freq} (h : Follows o s) : Follows o (ascToOff b freq s) := by
  unfold Machine.ascToOff
  split
  · exact h
  · exact .ite h (.ite (.settleDischarge (.raiseB (.bridgeTo (.dropForce h)))) (.ite h (.settleDrive (.safeChange h))))

theorem Ends.execAscToOff {b freq} (h : Follows o s) : Ends o (execAscToOff b freq s) := .next (.ascToOff h)

/-! Supervise -/

theorem Follows.modInput {n f} (h : Follows o s) : Follows o (modInput n f s) := .frame h

theorem Follows.reactInputs {code ns} (h : Follows o s) : Follows o (reactInputs code ns s) := by
  unfold Machine.reactInputs
  split
  · exact .forGr .ss1Source h
  · exact .forBr .safeRequest h
  · exact .safeDriveOnce h
  · exact h

theorem Follows.markInvalid {n cause} (h : Follows o s) : Follows o (markInvalid n cause s) := .ite h (.raise (.bump (.modInput h)))

theorem Follows.confirmInvalid {ns} (h : Follows o s) : Follows o (confirmInvalid ns s) := .reactInputs (.foldl .markInvalid h)

theorem Follows.markValid {n} (h : Follows o s) : Follows o (markValid n s) := .ite h (.raise (.modInput h))

theorem Follows.checkInputs {vs} (h : Follows o s) : Follows o (checkInputs vs s) :=
  .confirmInvalid (.foldl (fun h => .ite (.markValid h) h) (.foldl .modInput h))

theorem Follows.missInputs {ns} (h : Follows o s) : Follows o (missInputs ns s) := .confirmInvalid (.foldl .modInput h)

theorem Follows.keepDigital {i} (h : Follows o s) : Follows o (keepDigital i s) := .frame h

theorem Follows.goodInput {n} (h : Follows o s) : Follows o (goodInput n s) := .ite (.markValid (.modInput h)) (.modInput h)

theorem Follows.digitalAgrees {i} (h : Follows o s) : Follows o (digitalAgrees i s) := .ite h (.ite (.goodInput h) (.modInput h))

theorem Follows.mirrorFault {c} (h : Follows o s) : Follows o (mirrorFault c s) := .confirmInvalid (.raise4 h)

theorem Follows.digitalTimeout {i} (h : Follows o s) : Follows o (digitalTimeout i s) := by
  unfold Machine.digitalTimeout
  split
  · exact h
  · exact .dite (fun _ => .ite (.mirrorFault (.setNow h)) (.confirmInvalid (.setNow h))) (fun _ => .confirmInvalid (.setNow h))

theorem Ends.execDigitalInputTimeout {i} (h : Follows o s) : Ends o (execDigitalInputTimeout i s) := .next (.digitalTimeout h)

theorem Follows.messageTimeout {g} (h : Follows o s) : Follows o (messageTimeout g s) := .ite h (.confirmInvalid (.setNow h))

theorem Ends.execMessageInputTimeout {g} (h : Follows o s) : Ends o (execMessageInputTimeout g s) := .next (.messageTimeout h)

theorem Follows.messageArrived {g} (h : Follows o s) : Follows o (messageArrived g s) := .goodInput (.modGr h)

/-! Contact -/

theorem Follows.noteUdc {v} (h : Follows o s) : Follows o (noteUdc v s) := .frame h

theorem Follows.driveArm {r} (h : Follows o s) : Follows o (driveArm r s) := .ite (.refuse h) (.ite (.refuse (.raise4 h)) (.frame (.setCoil h)))

theorem Ends.execDriveArm {e} (h : Follows o s) : Ends o (execDriveArm e s) := .next (.command .driveArm h)

theorem Follows.weldTest {udc} (h : Follows o s) : Follows o (weldTest udc s) :=
  .ite h (.ite (.declareWeld (.noteUdc (.setNow h))) (.bump (.raise4 (.setCoil (.setDrive (.frame (.noteUdc (.setNow h))))))))

theorem Ends.execWeldTestExpiry {udc} (h : Follows o s) : Ends o (execWeldTestExpiry udc s) := .next (.weldTest h)

theorem Follows.prechargeDone {udc} (h : Follows o s) : Follows o (prechargeDone udc s) := .ite h (.ite (.setCoil (.frame (.noteUdc h))) (.noteUdc h))

theorem Ends.execPrechargeComplete {udc} (h : Follows o s) : Ends o (execPrechargeComplete udc s) := .next (.prechargeDone h)

theorem Follows.prechargeLate (h : Follows o s) : Follows o (prechargeLate s) :=
  .ite h (.endArm (.setDrive (.bump (.raise4 (.openContactors (.setNow h))))))

theorem Ends.execPrechargeTimeout (h : Follows o s) : Ends o (execPrechargeTimeout s) := .next (.prechargeLate h)

theorem Follows.enterArmed (h : Follows o s) : Follows o (enterArmed s) := .endArm (.raise4 (.frame (.confirmFirmware (.setDrive h))))

theorem Follows.mirrorChange {c shownOpen} (h : Follows o s) : Follows o (mirrorChange c shownOpen s) := by
  unfold Machine.mirrorChange
  split
  · exact h
  · extract_lets _ _ _ s1
    have h1 : Follows o s1 := .digitalAgrees (.frame (.keepDigital h))
    exact .ite (.enterArmed h1) (.ite (.declareWeld h1) (.ite (.settleOpen (.raise4 h1)) h1))

theorem Ends.execMirrorContactChange {c shownOpen} (h : Follows o s) : Ends o (execMirrorContactChange c shownOpen s) := .next (.mirrorChange h)

theorem Follows.overlapEnd (h : Follows o s) : Follows o (overlapEnd s) := .ite (.setCoil (.frame (.setNow h))) h

theorem Ends.execPrechargeOverlapExpiry (h : Follows o s) : Ends o (execPrechargeOverlapExpiry s) := .next (.overlapEnd h)

theorem Follows.openCo1 {current} (h : Follows o s) : Follows o (openCo1 current s) :=
  .ite h (.ite (.frame (.openCoil (.ite h (.bump (.setNow h))))) (.settleOpen (.frame (.openCoil (.ite h (.bump (.setNow h)))))))

theorem Ends.execContactorOpenCo1 {current} (h : Follows o s) : Ends o (execContactorOpenCo1 current s) := .next (.openCo1 h)

theorem Follows.openCo2 (h : Follows o s) : Follows o (openCo2 s) := .ite h (.settleOpen (.frame (.openCoil (.setNow h))))

theorem Ends.execContactorOpenCo2 (h : Follows o s) : Ends o (execContactorOpenCo2 s) := .next (.openCo2 h)

theorem Follows.pullIn {c} (h : Follows o s) : Follows o (pullIn c s) := .ite h (.ite (.mirrorFault (.frame (.setNow h))) (.frame (.setNow h)))

theorem Ends.execCoilPullInExpiry {c} (h : Follows o s) : Ends o (execCoilPullInExpiry c s) := .next (.pullIn h)

theorem Follows.weldCheck {c} (h : Follows o s) : Follows o (weldCheck c s) := .ite h (.declareWeld (.setNow h))

theorem Ends.execWeldCheckExpiry {c} (h : Follows o s) : Ends o (execWeldCheckExpiry c s) := .next (.weldCheck h)

theorem Follows.fallTest {udc} (h : Follows o s) : Follows o (fallTest udc s) := by
  unfold Machine.fallTest
  split
  · exact h
  · extract_lets
    split
    · exact .noteUdc (.setNow h)
    · exact .ite (.failDischarge (.noteUdc (.setNow h))) (.ite (.runDischarge (.noteUdc (.setNow h))) (.declareWeld (.noteUdc (.setNow h))))

theorem Ends.execDischargeFallTestExpiry {udc} (h : Follows o s) : Ends o (execDischargeFallTestExpiry udc s) := .next (.fallTest h)

theorem Follows.dischargeDone {udc} (h : Follows o s) : Follows o (dischargeDone udc s) := by
  unfold Machine.dischargeDone
  split
  · exact h
  · extract_lets _ _ _ _ _ s1 _ s2
    have h1 : Follows o s1 := .frame (.stopChop (.noteUdc h))
    have h2 : Follows o s2 := .foldl .complete (.raise4 h1)
    exact .ite (.hvSleep h2) (.ite (.setDrive h2) h2)

theorem Ends.execDischargeComplete {udc} (h : Follows o s) : Ends o (execDischargeComplete udc s) := .next (.dischargeDone h)

theorem Follows.dischargeLate (h : Follows o s) : Follows o (dischargeLate s) := .ite (.failDischarge (.setNow h)) h

theorem Ends.execDischargeTimeout (h : Follows o s) : Ends o (execDischargeTimeout s) := .next (.dischargeLate h)

theorem Follows.driveDisarm {r} (h : Follows o s) : Follows o (driveDisarm r s) :=
  .ite (.refuse h) (.ite (.frame h) (.openContactors (.endArm (.frame h))))

theorem Ends.execDriveDisarm {e} (h : Follows o s) : Ends o (execDriveDisarm e s) := .next (.command .driveDisarm h)

/-! Params -/

theorem Follows.paramRead {e r} (h : Follows o s) : Follows o (paramRead e r s) := by
  unfold Machine.paramRead
  extract_lets
  split
  · exact .complete h
  · exact .ite (.refuse h) (.complete h)

theorem Ends.execParamRead {e} (h : Follows o s) : Ends o (execParamRead e s) := .next (.runCommand .paramRead h)

/-- A stored entry keeps rising keys, active at once or not. -/
theorem storedEntry_wf (e : WriteEntry) (p : Params) (now : Bool) (h : p.wf = true) :
    (if now then p.setBoth e.index e.sub e.value else p.setStored e.index e.sub e.value).wf = true := by
  split
  · exact setBoth_wf p _ _ _ h
  · exact setStored_wf p _ _ _ h

theorem Follows.storeEntry {e} (h : Follows o s) : Follows o (storeEntry e s) :=
  .ite (.frame (.onlyIf (.withPar id) (.withPar (storedEntry_wf _ _ _) h))) (.onlyIf (.withPar id) (.withPar (storedEntry_wf _ _ _) h))

theorem Follows.applyWrites {queue es} (h : Follows o s) : Follows o (applyWrites queue es s).1 := by
  unfold Machine.applyWrites
  split
  · exact h
  · exact .foldl .storeEntry h

theorem Follows.paramWrite {e r} (h : Follows o s) : Follows o (paramWrite e r s) := by
  unfold Machine.paramWrite
  have hw := h.applyWrites (queue := e.queue.val) (es := writeEntries e.ops)
  split
  · next t ht => rw [ht] at hw; exact .complete hw
  · exact .complete h

theorem Follows.runWrite {e lenOk want zeroKeyOk} (h : Follows o s) : Follows o (runWrite e lenOk want zeroKeyOk s) := by
  unfold Machine.runWrite
  split
  · exact .ite (.complete h) (.runCommand .paramWrite h)
  · exact .runCommand .paramWrite h

theorem Ends.execParamWrite {e} (h : Follows o s) : Ends o (execParamWrite e s) := .next (.runWrite h)

theorem Follows.refreshSignature (h : Follows o s) : Follows o (refreshSignature s) := .ite h (.raise4 (.frame h))

theorem Follows.applyFrozen {ks} (h : Follows o s) : Follows o (applyFrozen ks s) := by
  unfold Machine.applyFrozen
  extract_lets _ _ s1 _ s2 s3
  have h1 : Follows o s1 := .withPar (activateWhere_wf _ _) (.onlyIf .unbindGroups h)
  have h2 : Follows o s2 := .onlyIf .frame (.onlyIf .rebindGroups h1)
  have h3 : Follows o s3 := .onlyIf (fun h => .raise4 (.withPar id h)) h2
  exact .frame h3

theorem Follows.spoilImage (h : Follows o s) : Follows o (spoilImage s) := .withPar (setSlot_wf _ _ _ none (by simp)) h

theorem Follows.paramCommit {r} (h : Follows o s) : Follows o (paramCommit r s) := by
  unfold Machine.paramCommit
  extract_lets
  split
  · exact .refuse (.bump h)
  · split
    · exact .complete (.bump (.onlyIf .raise4 (.raise4 h)))
    · exact .spoilImage (.withPar (beginCommit_wf _ _ _) (.refreshSignature (.ite h (.applyFrozen h))))

theorem Follows.commitEnd {good} (h : Follows o s) : Follows o (commitEnd good s) := by
  unfold Machine.commitEnd
  split
  · exact h
  · next c hc =>
    have h1 : Follows o { s with par := { s.par with commit := none } } := .withPar (dropCommit_wf _) h
    have hi (hp : o.par.wf = true) : risingKeys c.image = true := by
      obtain ⟨-, -, -, hr⟩ := (Params.wf_iff s.par).1 (h.par hp)
      exact hr c hc
    dsimp only
    split
    · refine .complete (.raise4 (.bump (.appendRecord ?_)))
      exact { h1 with par := fun hp => setSlot_wf _ _ _ _ (by rintro i ⟨⟩; exact hi hp) (h1.par hp) }
    · exact .complete (.bump (.raise4 h1))

/-! FaultClear -/

theorem Follows.clearForce {b} (h : Follows o s) : Follows o (clearForce b s) :=
  .ite (.settleBridge (.modBr (.emptySets (.raise (.modBr h))))) (.bridgeTo (.dropForce (.modBr h)))

theorem Follows.clearItem {i} (h : Follows o s) : Follows o (clearItem i s) := by
  unfold Machine.clearItem
  split
  · exact .ite (.clearForce h) h
  · exact .ite (.clearForce h) h
  · exact .modLeg h
  · exact .modPos h
  · exact .frame h
  · exact .frame h
  · exact .frame h
  · exact h
  · exact h
  · exact .frame h
  · exact .frame h

theorem Follows.driveAfterClear (h : Follows o s) : Follows o (driveAfterClear s) := by
  unfold Machine.driveAfterClear
  extract_lets
  split
  · exact .ite (.settleDrive h) (.settleCoils (.settleDrive (.setDrive h)))
  · exact .ite (.settleDrive h) (.settleCoils (.settleDrive (.setDrive h)))
  · exact .ite h (.setDrive h)
  · exact h

theorem Follows.faultClear {e r} (h : Follows o s) : Follows o (faultClear e r s) := by
  unfold Machine.faultClear
  extract_lets _ _ _ _ _ _ _ s1 s2
  have h1 : Follows o s1 := .foldl .clearItem h
  have h2 : Follows o s2 := .settleDischarge (.driveAfterClear h1)
  exact .ite (.refuse h) (.ite (.frame h) (.ite (.refuse h) (.ite (.refuse h) (.complete h2))))

theorem Ends.execFaultClear {e} (h : Follows o s) : Ends o (execFaultClear e s) := .next (.command .faultClear h)

/-! Epoch -/

theorem Follows.countFreeRun (h : Follows o s) : Follows o (countFreeRun s) := by
  unfold Machine.countFreeRun
  split
  · exact .bumpBy (.frame h)
  · exact h

/-- An epoch that ends latches its counters into the snapshot, and they restart at 0 (R498). -/
theorem latched_bounded {u v : Stats} (hr : v.running = []) (hs : v.snapshot = u.running) (h : u.bounded = true) : v.bounded = true := by
  simp only [Stats.bounded, Bool.and_eq_true] at h ⊢
  rw [hr, hs]
  exact ⟨rfl, h.1⟩

theorem Follows.closeEpoch {cut} (h : Follows o s) : Follows o (closeEpoch cut s) := by
  unfold Machine.closeEpoch
  extract_lets n s1 _ _ s2 _ s3 s4
  have h1 : Follows o s1 := .countFreeRun h
  have h2 : Follows o s2 := { h1 with
    par := fun hp => activateWhere_wf _ _ (h1.par hp)
    st := fun hs => latched_bounded rfl rfl (h1.st hs) }
  exact .enqueueOut (.onlyIf .raise4 (.withSt id h2))

theorem Ends.execEpochBoundary {t} (h : Follows o s) : Ends o (execEpochBoundary t s) := .next (.onlyIf .closeEpoch (.setNow h))

/-! Boot -/

theorem Follows.bootEvent {code payload} (h : Follows o s) : Follows o (bootEvent code payload s) := .frame h

theorem Follows.bootFrom {k trial confirmed} (h : Follows o s) : Follows o (bootFrom k trial confirmed s) := .frame h

theorem Follows.fallBack {k write} (h : Follows o s) : Follows o (fallBack k write s) :=
  .ite (.bootEvent (.bootFrom (.onlyIf .appendRecord h))) (.bootEvent (.frame h))

theorem Follows.reportRecords (h : Follows o s) : Follows o (reportRecords s) := .foldl .bootEvent h

theorem Follows.endTrials {k} (h : Follows o s) : Follows o (endTrials k s) :=
  .ite (.bootFrom (.bootEvent (.appendRecord h))) (.fallBack (.bootEvent (.appendRecord h)))

theorem Follows.chooseFirmware (h : Follows o s) : Follows o (chooseFirmware s) := by
  unfold Machine.chooseFirmware
  dsimp only
  split
  · exact .ite (.ite (.bootFrom (.frame (.reportRecords h))) (.fallBack (.frame (.reportRecords h))))
      (.ite (.ite (.bootEvent (.bootFrom (.appendRecord (.frame (.reportRecords h))))) (.fallBack (.appendRecord (.frame (.reportRecords h)))))
        (.endTrials (.frame (.reportRecords h))))
  · exact .ite (.bootFrom (.frame (.reportRecords h))) (.fallBack (.frame (.reportRecords h)))

theorem Follows.loadParams (h : Follows o s) : Follows o (loadParams s) := by
  unfold Machine.loadParams
  extract_lets load
  split
  · next i hi => exact .withPar (fun hp => loaded_wf _ _ _ (imageToLoad_rising s i hp hi) hp) h
  · exact .bootEvent (.withPar (loaded_wf _ _ _ risingKeys_nil) h)

theorem Follows.dropRefs (h : Follows o s) : Follows o (dropRefs s) := .withPar (dropCommit_wf _) h

theorem Follows.emptyQueues (h : Follows o s) : Follows o (emptyQueues s) := .dropRefs (.frame h)

/-- A reset of PD2 empties the DRAM and the counters. -/
theorem Follows.cleared {m u io tr ar sm te bo br gr dr co cl pa pl pw di se ne ti ca} (h : Follows o s) (hd : m.dram = []) (hn : m.nand = s.mem.nand)
    (hu : u = Stats.reset) :
    Follows o { s with st := u, mem := m, io := io, transfer := tr, arb := ar, streams := sm, test := te, boot := bo, br := br, gr := gr, drive := dr,
                       cont := co, clove := cl, pairs := pa, place := pl, pwr := pw, die := di, sense := se, net := ne, time := ti, can := ca } where
  pending := h.pending
  now := h.now
  freeCount := h.freeCount
  par := h.par
  mem hm := (Mem.wf_iff _).2 ⟨by rw [hd]; rfl, by rw [hn]; exact ((Mem.wf_iff _).1 (h.mem hm)).2⟩
  st _ := by rw [hu]; exact reset_st_bounded

theorem Follows.warmReset {cause} (h : Follows o s) : Follows o (warmReset cause s) := by
  unfold Machine.warmReset
  refine .loadParams (.chooseFirmware (.frame (.cleared (.writeRecord (.frame h)) rfl rfl rfl)))

/-- Without power the images stay, and the values of the objects are those of a unit as delivered. -/
theorem slots_wf (p : Params) (h : p.wf = true) : Params.wf { Params.reset with slots := p.slots } = true := loaded_wf p [] _ rfl h

theorem Follows.coldState (h : Follows o s) : Follows o (coldState s) where
  pending := h.pending
  now := h.now
  freeCount := h.freeCount
  par hp := slots_wf _ (h.par hp)
  mem hm := have ⟨_, hn⟩ := (Mem.wf_iff _).1 (h.mem hm); (Mem.wf_iff _).2 ⟨rfl, hn⟩
  st _ := reset_st_bounded

theorem Follows.beginBoot {reason} (h : Follows o s) : Follows o (beginBoot reason s) := .loadParams (.chooseFirmware (.frame h))

theorem Follows.countReset {cause} (h : Follows o s) : Follows o (countReset cause s) := .frame h

theorem Follows.coldReset {cause reason} (h : Follows o s) : Follows o (coldReset cause reason s) := .beginBoot (.countReset (.coldState h))

theorem Ends.execKeepAliveLoss (h : Follows o s) : Ends o (execKeepAliveLoss s) := .next (.ite (.frame h) (.countReset (.coldState (.frame h))))

theorem Follows.hostReset (h : Follows o s) : Follows o (hostReset s) := by
  unfold Machine.hostReset
  split
  · exact .warmReset (.setNow h)
  · exact h

theorem Ends.execHostResetDelayExpiry (h : Follows o s) : Ends o (execHostResetDelayExpiry s) := .next (.hostReset h)

theorem Follows.pelaleWatchdog {storeGood} (h : Follows o s) : Follows o (pelaleWatchdog storeGood s) :=
  .ite (.bootEvent (.warmReset (.frame h))) (.bootEvent (.chooseFirmware (.frame (.countReset (.emptyQueues (.frame (.writeRecord (.frame h))))))))

theorem Ends.execPelaleWatchdogExpiry {storeGood} (h : Follows o s) : Ends o (execPelaleWatchdogExpiry storeGood s) :=
  .next (.onlyIf .pelaleWatchdog h)

theorem Ends.execServicePinAssert (h : Follows o s) : Ends o (execServicePinAssert s) := .next (.frame h)

theorem Follows.servicePinReset (h : Follows o s) : Follows o (servicePinReset s) :=
  .ite (.warmReset (.frame h)) (.settlePd7 (.beginBoot (.countReset (.frame (.coldState (.frame (.writeRecord (.frame (.frame h)))))))))

theorem Ends.execServicePinRelease (h : Follows o s) : Ends o (execServicePinRelease s) := .next (.servicePinReset h)

theorem Follows.driveAfterBoot (h : Follows o s) : Follows o (driveAfterBoot s) := by
  unfold Machine.driveAfterBoot
  extract_lets
  exact .settleCoils (.ite (.setDrive (.onlyIf .safeDriveOnce (.frame h))) (.ite (.setDrive (.frame h)) (.ite (.setDrive (.frame h)) (.ite
      (.setDrive (.frame h)) (.ite (.setDrive (.frame h)) (.setDrive (.frame h)))))))

theorem Follows.noteFlagLost {g} (h : Follows o s) : Follows o (noteFlagLost g s) := .ite (.ss1Source (.raiseG h)) h

theorem Follows.restorePosition {g} (h : Follows o s) : Follows o (restorePosition g s) := by
  unfold Machine.restorePosition
  split
  · exact .noteFlagLost h
  · dsimp only
    split
    · exact .judgeRetained h
    · exact .ite (.modGr h) (.judgeRetained h)

theorem Follows.loadArbiter (h : Follows o s) : Follows o (loadArbiter s) := .frame h

theorem Follows.freshStart (h : Follows o s) : Follows o (freshStart s) := by
  unfold Machine.freshStart
  extract_lets _ _ _ _ s1 s2
  have h1 : Follows o s1 := .restoreWindows (.loadArbiter (.withSt id h))
  have h2 : Follows o s2 := .modDie (.forBr .seedBridge h1)
  exact .refreshBounds (.forGr .modGr (.forBr .modBr h2))

theorem Follows.bootDone (h : Follows o s) : Follows o (bootDone s) := by
  unfold Machine.bootDone
  split
  · exact h
  · extract_lets _ _ _ _ _ _ s1 _ s2 _ s3 _ s4 s5 _ _ s6 _ _ _ s7
    have h1 : Follows o s1 := .ite (.drew (.frame h)) (.drew (.frame (.drew (.frame h))))
    have h2 : Follows o s2 := .onlyIf .driveAfterBoot (.onlyIf .freshStart h1)
    have h3 : Follows o s3 := .onlyIf .stoRequest (.settlePd7 (.settleLine h2))
    have h4 : Follows o s4 := .onlyIf .writeRecord (.onlyIf .externalFault h3)
    have h5 : Follows o s5 := .foldl .raise4 h4
    have h6 : Follows o s6 := .onlyIf (fun h => .startCan (.startCan (.onlyIf .raise4 h))) (.raise4 (.frame h5))
    have h7 : Follows o s7 := .bump (.raise4 (.frame (.forGr .restorePosition h6)))
    exact .ite (.ite (.startDischarge h7) h7) h6

theorem Follows.alternateCheck (h : Follows o s) : Follows o (alternateCheck s) := .ite h (.ite (.frame h) (.raise4 (.frame h)))

theorem Ends.execAlternateSlotCheckDone (h : Follows o s) : Ends o (execAlternateSlotCheckDone s) := .next (.alternateCheck h)

theorem Follows.confirmationTimer (h : Follows o s) : Follows o (confirmationTimer s) := by
  unfold Machine.confirmationTimer
  split
  · exact .confirmFirmware (.setNow h)
  · exact h

theorem Ends.execFirmwareConfirmationTimer (h : Follows o s) : Ends o (execFirmwareConfirmationTimer s) := .next (.confirmationTimer h)

/-! Sleep -/

theorem Follows.beginSleep (h : Follows o s) : Follows o (beginSleep s) := by
  unfold Machine.beginSleep
  refine .raise4 ?_
  dsimp only
  split
  · exact .complete (.closeEpoch (.frame h))
  · exact .closeEpoch (.frame h)

theorem Follows.dropSleep (h : Follows o s) : Follows o (dropSleep s) := by
  unfold Machine.dropSleep
  dsimp only
  split
  · exact .refuse (.frame h)
  · exact .frame h

theorem Follows.settleSleep (h : Follows o s) : Follows o (settleSleep s) := .ite (.ite (.beginSleep h) (.dropSleep h)) h

theorem Follows.requestSleep {r} (h : Follows o s) : Follows o (requestSleep r s) := .settleSleep (.frame h)

theorem Ends.execParamCommit {e} (h : Follows o s) : Ends o (execParamCommit e s) := .next (.settleSleep (.runCommand .paramCommit h))

theorem Follows.driveSleep {r} (h : Follows o s) : Follows o (driveSleep r s) := .ite (.complete h) (.ite (.refuse h) (.requestSleep h))

theorem Ends.execDriveSleep {e} (h : Follows o s) : Ends o (execDriveSleep e s) := .next (.command .driveSleep h)

theorem Ends.execTc10SleepRequest {p} (h : Follows o s) : Ends o (execTc10SleepRequest p s) := .next (.ite (.requestSleep h) h)

theorem Follows.sleepState (h : Follows o s) : Follows o (sleepState s) := by
  unfold Machine.sleepState
  extract_lets s1 keep c
  have h1 : Follows o s1 := .withPar (activateWhere_wf _ _) h
  have hc : Follows o c := .coldState h1
  refine { hc with par := fun hp => ?_ }
  obtain ⟨hs, ha, -, -⟩ := (Params.wf_iff _).1 (h1.par hp)
  obtain ⟨-, -, hi, hr⟩ := (Params.wf_iff _).1 (hc.par hp)
  exact (Params.wf_iff _).2 ⟨hs, ha, hi, hr⟩

theorem Follows.sleepEntry (h : Follows o s) : Follows o (sleepEntry s) :=
  .ite h (.ite (.dropSleep h) (.sleepState (.foldl (fun h => .ite (.send h) h) (.setNow h))))

theorem Ends.execSleepQueueWaitExpiry (h : Follows o s) : Ends o (execSleepQueueWaitExpiry s) := .next (.sleepEntry h)

theorem Follows.hvWake (h : Follows o s) : Follows o (hvWake s) := .ite (.bump (.raise4 (.setDrive (.frame (.frame (.frame h)))))) (.frame (.frame h))

theorem Follows.beginWake {code} (h : Follows o s) : Follows o (beginWake code s) := .beginBoot (.frame h)

theorem Follows.wakeAssert {c} (h : Follows o s) : Follows o (wakeAssert c s) :=
  .ite h (.ite (.frame h) (.ite (.bump (.bump (.raise4 (.frame h)))) (.ite (.beginWake h) (.ite (.ite (.hvWake h) (.beginWake h)) h))))

theorem Ends.execWakeSourceAssert {code} (h : Follows o s) : Ends o (execWakeSourceAssert code s) := .next (.wakeAssert h)

theorem Follows.powerOn (h : Follows o s) : Follows o (powerOn s) :=
  .ite (.coldReset h) (.ite (.hvWake (.countReset (.coldState h))) (.countReset (.coldState (.frame h))))

theorem Ends.execPowerOnReset (h : Follows o s) : Ends o (execPowerOnReset s) := .next (.powerOn h)

theorem Follows.startCableTest {p} (h : Follows o s) : Follows o (startCableTest p s) := .ite h (.bump (.send (.frame h)))

theorem Follows.forwardWake (h : Follows o s) : Follows o (forwardWake s) := .ite h (.ite (.send h) (.ite (.send h) h))

theorem Follows.domainStep (h : Follows o s) : Follows o (domainStep s) :=
  .ite h (.ite (.frame h) (.ite (.startCableTest (.startCableTest (.forwardWake (.frame h)))) (.ite (.frame h) (.ite (.settlePd7 (.frame h)) h))))

theorem Ends.execDomainReady (h : Follows o s) : Ends o (execDomainReady s) := .next (.domainStep h)

/-! Transfer -/

theorem Follows.raiseTransfer {code k payload} (h : Follows o s) : Follows o (raiseTransfer code k payload s) := by
  unfold Machine.raiseTransfer
  split
  · exact .raiseG h
  · exact .raise4 h

theorem Follows.spoilSlot {k} (h : Follows o s) : Follows o (spoilSlot k s) := by
  unfold Machine.spoilSlot
  split
  · exact .withMem id h
  · exact .frame h
  · exact .spoilImage h

theorem Follows.uploadBegin {k e r} (h : Follows o s) : Follows o (uploadBegin k e r s) := by
  unfold Machine.uploadBegin
  extract_lets
  split
  · exact .refuse h
  · exact .ite (.refuse h) (.ite (.refuse h) (.finish (.raiseTransfer (.spoilSlot (.frame h)))))

/-- Bytes of a file are written where its transfer stores them (R434). -/
theorem Follows.storeChunk {t bs} (h : Follows o s) : Follows o (storeChunk t bs s) := by
  unfold Machine.storeChunk
  refine .withMem (fun hm => ?_) h
  obtain ⟨hd, hn⟩ := (Mem.wf_iff _).1 hm
  split
  · exact (Mem.wf_iff _).2 ⟨hd, writeBytes_wf _ _ _ hn⟩
  · exact (Mem.wf_iff _).2 ⟨hd, writeBytes_wf _ _ _ hn⟩
  · exact hm

theorem Follows.uploadChunk {kind e r} (h : Follows o s) : Follows o (uploadChunk kind e r s) := by
  unfold Machine.uploadChunk
  extract_lets
  split
  · exact .refuse h
  · split
    · exact .refuse h
    · exact .ite (.refuse h) (.ite (.complete h) (.finish (.storeChunk h)))

theorem Follows.endTransfer {t r status results} (h : Follows o s) : Follows o (endTransfer t r status results s) :=
  .settleSleep (.complete (.bump (.raiseTransfer (.frame h))))

theorem Follows.atlasEnd {t g r} (h : Follows o s) : Follows o (atlasEnd t g r s) :=
  .ite (.endTransfer h) (.endTransfer (.raiseG (.setAtlasState (.modAtlas (.commitAtlas (.copyToDram (.putAxis (.withMem id h))))))))

theorem Follows.firmwareEnd {t r} (h : Follows o s) : Follows o (firmwareEnd t r s) := .ite (.endTransfer (.frame h)) (.endTransfer h)

theorem Follows.paramEnd {t r} (h : Follows o s) : Follows o (paramEnd t r s) := by
  unfold Machine.paramEnd
  split
  · exact .endTransfer h
  · have hw := h.applyWrites (queue := r.queue.val) (es := fileRecords (fieldAt t.bytes 8 4) (t.bytes.drop 64))
    dsimp only
    split
    · next u hu => rw [hu] at hw; exact .endTransfer hw
    · exact .endTransfer h

theorem Follows.uploadEnd {kind r} (h : Follows o s) : Follows o (uploadEnd kind r s) := by
  unfold Machine.uploadEnd
  split
  · exact .refuse h
  · split
    · exact .refuse h
    · split
      · exact .ite (.atlasEnd h) (.refuse h)
      · exact .firmwareEnd h
      · exact .paramEnd h

theorem Follows.abandonTransfer (h : Follows o s) : Follows o (abandonTransfer s) := by
  unfold Machine.abandonTransfer
  split
  · exact h
  · exact .settleSleep (.bump (.raiseTransfer (.frame h)))

theorem Follows.uploadAbort {kind r} (h : Follows o s) : Follows o (uploadAbort kind r s) := by
  unfold Machine.uploadAbort
  split
  · exact .refuse h
  · exact .ite (.finish (.abandonTransfer h)) (.refuse h)

theorem Follows.transferCommand {e code queues phase body} (hf : ∀ {r u}, Follows o u → Follows o (body r u)) (h : Follows o s) :
    Follows o (transferCommand e code queues phase body s) := .runCommand hf h

theorem Ends.execAtlasUploadBegin {e} (h : Follows o s) : Ends o (execAtlasUploadBegin e s) := .next (.transferCommand .uploadBegin h)

theorem Ends.execAtlasUploadChunk {e} (h : Follows o s) : Ends o (execAtlasUploadChunk e s) := .next (.transferCommand .uploadChunk h)

theorem Ends.execAtlasUploadEnd {e} (h : Follows o s) : Ends o (execAtlasUploadEnd e s) := .next (.transferCommand .uploadEnd h)

theorem Ends.execAtlasUploadAbort {e} (h : Follows o s) : Ends o (execAtlasUploadAbort e s) := .next (.transferCommand .uploadAbort h)

theorem Ends.execFirmwareUploadBegin {e} (h : Follows o s) : Ends o (execFirmwareUploadBegin e s) := .next (.transferCommand .uploadBegin h)

theorem Ends.execFirmwareUploadChunk {e} (h : Follows o s) : Ends o (execFirmwareUploadChunk e s) := .next (.transferCommand .uploadChunk h)

theorem Ends.execFirmwareUploadEnd {e} (h : Follows o s) : Ends o (execFirmwareUploadEnd e s) := .next (.transferCommand .uploadEnd h)

theorem Ends.execFirmwareUploadAbort {e} (h : Follows o s) : Ends o (execFirmwareUploadAbort e s) := .next (.transferCommand .uploadAbort h)

theorem Ends.execParamUploadBegin {e} (h : Follows o s) : Ends o (execParamUploadBegin e s) := .next (.transferCommand .uploadBegin h)

theorem Ends.execParamUploadChunk {e} (h : Follows o s) : Ends o (execParamUploadChunk e s) := .next (.transferCommand .uploadChunk h)

theorem Ends.execParamUploadEnd {e} (h : Follows o s) : Ends o (execParamUploadEnd e s) := .next (.transferCommand .uploadEnd h)

theorem Ends.execParamUploadAbort {e} (h : Follows o s) : Ends o (execParamUploadAbort e s) := .next (.transferCommand .uploadAbort h)

theorem Follows.transferIdle (h : Follows o s) : Follows o (transferIdle s) := by
  unfold Machine.transferIdle
  split
  · exact h
  · exact .abandonTransfer (.setNow h)

theorem Ends.execTransferIdleTimeout (h : Follows o s) : Ends o (execTransferIdleTimeout s) := .next (.transferIdle h)

theorem Follows.atlasExport {e g r} (h : Follows o s) : Follows o (atlasExport e g r s) := by
  unfold Machine.atlasExport
  extract_lets
  split
  · exact .refuse h
  · split
    · exact .refuse h
    · exact .ite (.complete (.ite (.modAtlas h) h)) (.ite (.complete (.ite (.modAtlas h) h)) (.complete (.ite (.modAtlas h) h)))

theorem Ends.execAtlasExport {e} (h : Follows o s) : Ends o (execAtlasExport e s) := .next (.command (fun h => .withGroup .atlasExport h) h)

/-! HostCmd -/

theorem Follows.torqueSet {e g r} (h : Follows o s) : Follows o (torqueSet e g r s) := by
  unfold Machine.torqueSet
  extract_lets _ s1
  have h1 : Follows o s1 := by
    unfold s1
    split
    · exact .complete h
    · exact h
  exact .ite (.refuse h) (.ite (.refuse h) (.messageArrived (.modGr h1)))

theorem Ends.execTorqueSet {e} (h : Follows o s) : Ends o (execTorqueSet e s) := .next (.command (fun h => .withGroup .torqueSet h) h)

theorem Follows.positionSet {e g r} (h : Follows o s) : Follows o (positionSet e g r s) :=
  .ite (.refuse h) (.ite (.refuse h) (.finish (.settleLimits (.raiseG (.modGr h)))))

theorem Ends.execPositionSet {e} (h : Follows o s) : Ends o (execPositionSet e s) := .next (.command (fun h => .withGroup .positionSet h) h)

theorem Follows.ss1Request {e r} (h : Follows o s) : Follows o (ss1Request e r s) :=
  .ite (.refuse h) (.ite (.refuse h) (.settleSs1Reqs (.forGr .ss1Source (.frame h))))

theorem Ends.execSs1Request {e} (h : Follows o s) : Ends o (execSs1Request e s) := .next (.command .ss1Request h)

theorem Follows.safetySelect {e g r} (h : Follows o s) : Follows o (safetySelect e g r s) :=
  .ite (.refuse h) (.ite (.refuse h) (.ite (.takeSelection (.modGr h)) (.modGr h)))

theorem Ends.execSafetySelect {e} (h : Follows o s) : Ends o (execSafetySelect e s) := .next (.command (fun h => .withGroup .safetySelect h) h)

theorem Follows.debugFlagClear {p r} (h : Follows o s) : Follows o (debugFlagClear p r s) :=
  .ite (.refuse h) (.finish (.settlePairs (.raise4 (.modPair h))))

theorem Ends.execDebugFlagClear {e} (h : Follows o s) : Ends o (execDebugFlagClear e s) := .next (.command (fun h => .withPair .debugFlagClear h) h)

theorem Follows.finishSplit {p r} (h : Follows o s) : Follows o (finishSplit p r s) := by
  unfold Machine.finishSplit
  extract_lets _ _ s1 s2 _ s3
  have h1 : Follows o s1 := .movePlacement (.modPair (.frame h))
  have h2 : Follows o s2 := .forBr (fun h => .ite (.moveStep h) (.ite (.moveStep h) h)) h1
  have h3 : Follows o s3 := .bump (.raise4 (.forBr .moveWatch h2))
  exact .finish (.settlePairs h3)

theorem Follows.pairSplit {p r} (h : Follows o s) : Follows o (pairSplit p r s) := .ite (.refuse h) (.ite (.frame h) (.finishSplit h))

theorem Ends.execPairSplit {e} (h : Follows o s) : Ends o (execPairSplit e s) := .next (.command (fun h => .withPair .pairSplit h) h)

theorem Follows.pairRejoin {p r} (h : Follows o s) : Follows o (pairRejoin p r s) := .ite (.refuse h) (.settlePairs (.evacuate (.frame (.modPair h))))

theorem Ends.execPairRejoin {e} (h : Follows o s) : Ends o (execPairRejoin e s) := .next (.command (fun h => .withPair .pairRejoin h) h)

theorem Follows.driveReset {r} (h : Follows o s) : Follows o (driveReset r s) := .ite (.refuse h) (.frame (.finish h))

theorem Ends.execDriveReset {e} (h : Follows o s) : Ends o (execDriveReset e s) := .next (.command .driveReset h)

theorem Follows.firmwareActivate {r} (h : Follows o s) : Follows o (firmwareActivate r s) :=
  .ite (.refuse h) (.frame (.finish (.raise4 (.appendRecord h))))

theorem Ends.execFirmwareActivate {e} (h : Follows o s) : Ends o (execFirmwareActivate e s) := .next (.command .firmwareActivate h)

theorem Ends.execFaultRecordClear {e} (h : Follows o s) : Ends o (execFaultRecordClear e s) := .next (.runWrite h)

theorem Follows.streamStart {k r} (h : Follows o s) : Follows o (streamStart k r s) :=
  .ite (.refuse h) (.finish (.raise4 (.modStream (.withPar (activateWhere_wf _ _) h))))

theorem Ends.execStreamStart {e} (h : Follows o s) : Ends o (execStreamStart e s) := .next (.command .streamStart h)

theorem Follows.streamStop {k r} (h : Follows o s) : Follows o (streamStop k r s) := .ite (.refuse h) (.finish (.stopStream (.closePacket h)))

theorem Ends.execStreamStop {e} (h : Follows o s) : Ends o (execStreamStop e s) := .next (.command .streamStop h)

theorem Follows.streamFlush {k r} (h : Follows o s) : Follows o (streamFlush k r s) :=
  .ite (.refuse h) (.ite (.stopStream (.modStream h)) (.modStream h))

theorem Ends.execStreamFlush {e} (h : Follows o s) : Ends o (execStreamFlush e s) := .next (.command .streamFlush h)

theorem Follows.atlasClear {g r} (h : Follows o s) : Follows o (atlasClear g r s) :=
  .ite (.refuse h) (.finish (.setAtlasState (.modAtlas (.clearAtlasCells h))))

theorem Ends.execAtlasClear {e} (h : Follows o s) : Ends o (execAtlasClear e s) := .next (.command (fun h => .withGroup .atlasClear h) h)

theorem Follows.atlasCheckpoint {g r} (h : Follows o s) : Follows o (atlasCheckpoint g r s) := .ite (.refuse h) (.startCheckpoint (.modAtlas h))

theorem Ends.execAtlasCheckpoint {e} (h : Follows o s) : Ends o (execAtlasCheckpoint e s) :=
  .next (.command (fun h => .withGroup .atlasCheckpoint h) h)

theorem Follows.atlasIdentify {e g r} (h : Follows o s) : Follows o (atlasIdentify e g r s) := .ite (.refuse h) (.beginListen (.modAtlas h))

theorem Ends.execAtlasIdentify {e} (h : Follows o s) : Ends o (execAtlasIdentify e s) := .next (.command (fun h => .withGroup .atlasIdentify h) h)

/-! Edges -/

theorem Follows.interlockHit {l high t} (h : Follows o s) : Follows o (interlockHit l high t s) := by
  unfold Machine.interlockHit
  extract_lets _ _ s1
  have h1 : Follows o s1 := .bump (.raiseFirst (.turnOff (.turnOff h)))
  exact .ite (.raise (.modLeg (.ite h1 (.modLeg h1)))) (.turnOn (.ite h1 (.modLeg h1)))

theorem Follows.overlapLeg {l} (h : Follows o s) : Follows o (overlapLeg l s) := .ite (.modPos (.modPos (.injected h))) h

theorem Follows.driveLeg {l high t} (h : Follows o s) : Follows o (driveLeg l high t s) := by
  unfold Machine.driveLeg
  extract_lets _ _ _ s1 _ s2
  have h1 : Follows o s1 := .noteEdge (.modLeg (.onlyIf .bump h))
  have h2 : Follows o s2 := .overlapLeg (.turnOn (.turnOff h1))
  exact .ite (.turnOff (.turnOff h1)) (.ite (.interlockHit h2) h2)

theorem Follows.compareMatch {l rising t} (h : Follows o s) : Follows o (compareMatch l rising t s) := .ite (.setNow h) (.driveLeg (.setNow h))

theorem Ends.execCompareMatch {l rising t} (h : Follows o s) : Ends o (execCompareMatch l rising t s) := .next (.compareMatch h)

theorem Follows.classBTrip {l upper t} (h : Follows o s) : Follows o (classBTrip l upper t s) := by
  unfold Machine.classBTrip
  extract_lets _ _ _ _ s1 s2 _ s3
  have h1 : Follows o s1 := .modLeg (.onlyIf .chargeCut (.setNow h))
  have h2 : Follows o s2 := .ite (.turnOff h1) (.driveLeg h1)
  have h3 : Follows o s3 := .injectionCount (.bump (.modLeg h2))
  exact .ite (.setNow h) (.ite h2 (.ite (.safeRequest (.raiseB h3)) h3))

theorem Ends.execClassBTrip {l upper t} (h : Follows o s) : Ends o (execClassBTrip l upper t s) := .next (.classBTrip h)

/-! Pulse -/

theorem Follows.takeReload {b} (h : Follows o s) : Follows o (takeReload b s) := .forBr .modBr (.withPar (activateWhere_wf _ _) h)

theorem Follows.refreshDead {b} (h : Follows o s) : Follows o (refreshDead b s) := .foldl (fun h => .onlyIf .raiseB (.modBr h)) h

theorem Follows.applyBand {b} (h : Follows o s) : Follows o (applyBand b s) := .refreshDead (.modBr (.takeReload h))

theorem Follows.takeRetries {b} (h : Follows o s) : Follows o (takeRetries b s) := .foldl (fun h => .ite (.bump (.raise (.modPos h))) h) h

theorem Follows.transferSet {b} (h : Follows o s) : Follows o (transferSet b s) := .modBr h

theorem Follows.releaseForcing {b} (h : Follows o s) : Follows o (releaseForcing b s) := by
  unfold Machine.releaseForcing
  extract_lets
  split
  · exact h
  · split
    · exact .modBr (.dropForce h)
    · extract_lets _ s1 _ s2 s3
      have h1 : Follows o s1 := .onlyIf .modGr (.modBr (.dropForce h))
      have h2 : Follows o s2 := .onlyIf .modGr (.enterRamp h1)
      have h3 : Follows o s3 := .onlyIf (fun h => .raiseG (.modGr h)) (.modBr (.dropForce h))
      exact .ite (.onlyIf .modGr h2) (.modGr (.enterRun h3))

theorem Follows.takeCarrier {b} (h : Follows o s) : Follows o (takeCarrier b s) := .onlyIf (.withPar (activateWhere_wf _ _)) h

theorem Follows.formLeg {b k c fresh atPeak t} (h : Follows o s) : Follows o (formLeg b k c fresh atPeak t s) := .bumpBy (.bumpBy (.modLeg h))

theorem Follows.driveBridge {b fresh again atPeak t} (h : Follows o s) : Follows o (driveBridge b fresh again atPeak t s) :=
  .foldl (fun h => .ite h (.ite (.driveLeg h) (.ite (.turnOn h) h))) h

theorem Follows.clearAcc {b} (h : Follows o s) : Follows o (clearAcc b s) := .modBr h

theorem Follows.beginMove {b} (h : Follows o s) : Follows o (beginMove b s) := by
  unfold Machine.beginMove
  split
  · exact h
  · exact .ite h (.modBr h)

theorem Follows.placeWindows {b fresh atPeak t} (h : Follows o s) : Follows o (placeWindows b fresh atPeak t s) := by
  unfold Machine.placeWindows
  exact .modBr h

theorem Follows.carrierReload {b atPeak t} (h : Follows o s) : Follows o (carrierReload b atPeak t s) := by
  unfold Machine.carrierReload
  split
  · exact h
  · extract_lets _ _ s1 _ _ s2 _ _ _ s3
    have h1 : Follows o s1 := .applyBand (.beginMove (.setNow h))
    have h2 : Follows o s2 := .takeRetries (.onlyIf .clearAcc h1)
    have h3 : Follows o s3 := .releaseForcing (.transferSet (.modBr h2))
    split
    · exact .modBr (.uncharge (.onlyIf .chargeShort h3))
    · split
      · exact h3
      · extract_lets s4
        have h4 : Follows o s4 := .placeWindows (.foldl .formLeg h3)
        split
        · exact .drivePending (.driveBridge h4)
        · exact .chargeDriven (.driveBridge h4)

theorem Ends.execCarrierReload {b atPeak t} (h : Follows o s) : Ends o (execCarrierReload b atPeak t s) := .next (.carrierReload h)

theorem Follows.ageLedgers {b} (h : Follows o s) : Follows o (ageLedgers b s) :=
  .foldl (fun h => .ite (.modLeg h) (.ite (.bump (.modLeg h)) (.modLeg h))) h

theorem Follows.settleLock {b err} (h : Follows o s) : Follows o (settleLock b err s) :=
  .ite (.raiseB (.modBr h)) (.ite (.bump (.raiseB (.modBr h))) (.modBr h))

theorem Follows.lockPhase {b t} (h : Follows o s) : Follows o (lockPhase b t s) := by
  unfold Machine.lockPhase
  extract_lets _ _ _ _ s1 _ _ s2
  have h1 : Follows o s1 := .ite (.settleLock h) (.ite (.raiseB (.modBr h)) h)
  have h2 : Follows o s2 := .onlyIf (fun h => .raiseB (.modBr h)) h1
  exact .ite h2 (.ite (.modBr h2) (.modBr h2))

theorem Follows.carrierValley {b t} (h : Follows o s) : Follows o (carrierValley b t s) := by
  unfold Machine.carrierValley
  split
  · exact h
  · extract_lets _ _ _ _ _ _ _ s1 _ s2 s3
    have h1 : Follows o s1 := .modBr (.takeCarrier (.setNow h))
    have h2 : Follows o s2 := .missInputs (.ageLedgers (.onlyIf .refreshBounds h1))
    have h3 : Follows o s3 := .onlyIf (fun h => .foldl (fun k => .ite k (.driveLeg k)) h) h2
    exact .lockPhase h3

theorem Ends.execCarrierValley {b t} (h : Follows o s) : Ends o (execCarrierValley b t s) := .next (.carrierValley h)

theorem Follows.offsetDue {b t} (h : Follows o s) : Follows o (offsetDue b t s) := by
  unfold Machine.offsetDue
  extract_lets
  split
  · exact .setNow h
  · exact .ite (.setNow h) (.modBr (.setNow h))

theorem Ends.execOffsetScheduleTime {b t} (h : Follows o s) : Ends o (execOffsetScheduleTime b t s) := .next (.offsetDue h)

theorem Follows.classAInput {src b active} (h : Follows o s) : Follows o (classAInput src b active s) := by
  unfold Machine.classAInput
  extract_lets
  split
  · exact .ite (.forBr .endCause (.ite (.frame h) h)) (.endCause (.ite (.frame h) h))
  · split
    · exact .externalFault (.ite (.frame h) h)
    · exact .ite (.safeDrive (.ite (.frame h) h)) (.ite (.forceBridge (.ite (.frame h) h)) (.safeBridge (.ite (.frame h) h)))

theorem Ends.execClassAInput {src b active} (h : Follows o s) : Ends o (execClassAInput src b active s) := .next (.classAInput h)

theorem Follows.ascDelayEnd {b} (h : Follows o s) : Follows o (ascDelayEnd b s) := by
  unfold Machine.ascDelayEnd
  split
  · exact h
  · exact .onlyIf .raiseB (.settlePd7 (.foldl .noteEdge (.foldl (fun h => .ite (.turnOn (.modPos h)) h) (.modBr h))))

theorem Ends.execAscDelayExpiry {b} (h : Follows o s) : Ends o (execAscDelayExpiry b s) := .next (.ascDelayEnd h)

/-! Islands -/

theorem Follows.leaveSide {p} (h : Follows o s) : Follows o (leaveSide p s) := .ite (.settleDrive (.changePattern h)) h

theorem Follows.linkLost {p} (h : Follows o s) : Follows o (linkLost p s) := .leaveSide (.latchFor (.modPos (.turnOff h)))

theorem Ends.execIslandLinkTimeout {p} (h : Follows o s) : Ends o (execIslandLinkTimeout p s) := .next (.linkLost h)

theorem Follows.linkReturn {p} (h : Follows o s) : Follows o (linkReturn p s) := .ite h (.onlyIf .raise (.modPos h))

theorem Ends.execIslandLinkReturn {p} (h : Follows o s) : Ends o (execIslandLinkReturn p s) := .next (.linkReturn h)

theorem Ends.execPartnerLinkTimeout {p} (h : Follows o s) : Ends o (execPartnerLinkTimeout p s) := .next (.modPos h)

theorem Follows.retryOrLatch {p latch} (h : Follows o s) : Follows o (retryOrLatch p latch s) := .ite (.modPos h) (.leaveSide (.latchPos h))

theorem Follows.railUndervoltage {p} (h : Follows o s) : Follows o (railUndervoltage p s) :=
  .ite h (.ite (.leaveSide (.onlyIf .turnOff (.bump (.modPos h)))) (.retryOrLatch (.raise (.turnOff (.bump (.modPos h))))))

theorem Ends.execIslandRailUndervoltage {p} (h : Follows o s) : Ends o (execIslandRailUndervoltage p s) := .next (.railUndervoltage h)

theorem Follows.railReadyNow {p} (h : Follows o s) : Follows o (railReadyNow p s) :=
  .ite (.modPos h) (.ite (.enterAngle (.raiseB (.endPulse (.modPos h)))) (.ite (.enterRamp (.modPos h)) (.modPos h)))

theorem Ends.execIslandRailReady {p} (h : Follows o s) : Ends o (execIslandRailReady p s) := .next (.railReadyNow h)

theorem Follows.primePulse {b} (h : Follows o s) : Follows o (primePulse b s) := by
  unfold Machine.primePulse
  extract_lets _ _ _ _ _ s1
  have h1 : Follows o s1 := .foldl (fun h => .raise (.latchFor h)) (.modBr (.endPulse (.setNow h)))
  exact .ite h (.ite (.primeOn (.modBr (.endPulse (.setNow h)))) (.ite (.beginPrime (.modBr (.endPulse (.setNow h)))) (.abortToStandby h1)))

theorem Ends.execBootstrapPrimePulse {b} (h : Follows o s) : Ends o (execBootstrapPrimePulse b s) := .next (.primePulse h)

theorem Follows.noteCharge {p q} (h : Follows o s) : Follows o (noteCharge p q s) := .onlyIf .raiseFirst (.modPos h)

theorem Follows.checkDvdt {p dvdt} (h : Follows o s) : Follows o (checkDvdt p dvdt s) :=
  .ite (.modPos h) (.ite (.bump (.modPos h)) (.raise (.onlyIf .modBr (.modPos (.bump (.modPos h))))))

theorem Follows.edgeMeasured {p turnOn delayPs dvdt charge} (h : Follows o s) : Follows o (edgeMeasured p turnOn delayPs dvdt charge s) := by
  unfold Machine.edgeMeasured
  extract_lets _ _ _ s1 _ _ s2
  have h1 : Follows o s1 := .onlyIf .endHold (.modPos (.modPos h))
  have h2 : Follows o s2 := .modPos (.onlyIf .noteCharge h1)
  exact .ite (.bump (.onlyIf .noteCharge h1)) (.checkDvdt h2)

theorem Ends.execEdgeMeasured {p turnOn delayPs dvdt charge} (h : Follows o s) : Ends o (execEdgeMeasured p turnOn delayPs dvdt charge s) :=
  .next (.onlyIf .edgeMeasured h)

theorem Ends.execShortCircuitDetection {p desat t} (h : Follows o s) : Ends o (execShortCircuitDetection p desat t s) :=
  .next (.ite (.settlePd7 (.detect (.setNow h))) (.setNow h))

theorem Follows.sameLeg {p} (h : Follows o s) : Follows o (sameLeg p s) := .safeRequest (.raiseB (.raise (.modLeg (.latchFor (.latchFor h)))))

theorem Follows.twoLegs {p near} (h : Follows o s) : Follows o (twoLegs p near s) := by
  unfold Machine.twoLegs
  extract_lets _ _ s1 _ s2
  have h1 : Follows o s1 := .foldl .latchFor h
  have h2 : Follows o s2 := .safeRequest (.raiseB (.modBr h1))
  exact .ite h2 (.driveSafe (.forBr .safeRequest (.raise4 h2)))

theorem Follows.detectionReport {p} (h : Follows o s) : Follows o (detectionReport p s) := by
  unfold Machine.detectionReport
  dsimp only
  split
  · exact h
  · refine .ite h ?_
    have hs {n k : Nat} : Follows o (Machine.bump n k (Machine.modPos p (fun y => { y with reported := true }) (Machine.turnOff p s))) :=
      .bump (.modPos (.turnOff h))
    exact .ite (.latchFor (.onlyIf .abortToStandby (.raise hs))) (.ite (.sameLeg (.onlyIf .abortToStandby (.raise hs)))
      (.ite (.twoLegs (.onlyIf .abortToStandby (.raise hs))) (.retryOrLatch (.onlyIf .abortToStandby (.raise hs)))))

theorem Ends.execShortDetectionReport {p} (h : Follows o s) : Ends o (execShortDetectionReport p s) := .next (.detectionReport h)

theorem Ends.execSoftTurnOffStage2 {p} (h : Follows o s) : Ends o (execSoftTurnOffStage2 p s) := .next (.modPos h)

theorem Follows.softEnd {p} (h : Follows o s) : Follows o (softEnd p s) := .ite h (.settlePd7 (.modPos h))

theorem Ends.execSoftTurnOffEnd {p} (h : Follows o s) : Ends o (execSoftTurnOffEnd p s) := .next (.softEnd h)

theorem Follows.retryEnd {p} (h : Follows o s) : Follows o (retryEnd p s) := by
  unfold Machine.retryEnd
  split
  · exact .modPos (.setNow h)
  · exact h

theorem Ends.execRetryWaitExpiry {p} (h : Follows o s) : Ends o (execRetryWaitExpiry p s) := .next (.retryEnd h)

theorem Follows.crossRelease {p t} (h : Follows o s) : Follows o (crossRelease p t s) := .endHold (.modPos (.modPos (.setNow h)))

theorem Ends.execCrossCheckRelease {p t} (h : Follows o s) : Ends o (execCrossCheckRelease p t s) := .next (.crossRelease h)

theorem Follows.crossCancel {p} (h : Follows o s) : Follows o (crossCancel p s) := by
  unfold Machine.crossCancel
  extract_lets
  split
  · exact h
  · split
    · exact h
    · extract_lets _ s1 _ s2
      have h1 : Follows o s1 := .raiseFirst (.bump (.turnOff (.setNow h)))
      have h2 : Follows o s2 := .raise (.modLeg (.ite h1 (.modLeg h1)))
      exact .ite (.turnOff (.turnOff h2)) (.ite h1 (.modLeg h1))

theorem Ends.execCrossCheckCancel {p} (h : Follows o s) : Ends o (execCrossCheckCancel p s) := .next (.crossCancel h)

/-! Diverse -/

theorem Follows.modClove {g f} (h : Follows o s) : Follows o (modClove g f s) := .frame h

theorem Follows.settleClove {g} (h : Follows o s) : Follows o (settleClove g s) := by
  unfold Machine.settleClove
  extract_lets
  split
  · exact .modClove h
  · exact .cloveInvalid h

theorem Follows.cloveEdge {g k place t} (h : Follows o s) : Follows o (cloveEdge g k place t s) := .settleClove (.modClove (.setNow h))

theorem Follows.cloveTimeout {g standstill} (h : Follows o s) : Follows o (cloveTimeout g standstill s) := by
  unfold Machine.cloveTimeout
  extract_lets
  split
  · split
    · exact .settleClove (.modClove (.setNow h))
    · exact h
  · split
    · exact h
    · exact .settleClove (.setNow h)

theorem Ends.execCloveSpeedTimeout {g standstill} (h : Follows o s) : Ends o (execCloveSpeedTimeout g standstill s) := .next (.cloveTimeout h)

/-! Position -/

theorem Follows.moveTheta {i theta} (h : Follows o s) : Follows o (moveTheta i theta s) := by
  unfold Machine.moveTheta
  extract_lets
  split
  · exact .ite (.moveCount (.modIface h)) (.modIface h)
  · exact .modIface h

theorem Follows.raiseI {code i payload} (h : Follows o s) : Follows o (raiseI code i payload s) := by
  unfold Machine.raiseI
  split
  · exact .raiseG h
  · exact .raise4 h

theorem Follows.raiseFirstI {code i} (h : Follows o s) : Follows o (raiseFirstI code i s) := by
  unfold Machine.raiseFirstI
  split <;> exact .raiseFirst h

theorem Follows.bumpI {i sub} (h : Follows o s) : Follows o (bumpI i sub s) := .bump h

theorem Follows.sourceLost {g} (h : Follows o s) : Follows o (sourceLost g s) := by
  unfold Machine.sourceLost
  extract_lets
  split
  · exact .switchSource h
  · exact .beginWindow (.modGr h)

theorem Follows.confirmCause {i cause} (h : Follows o s) : Follows o (confirmCause i cause s) := by
  unfold Machine.confirmCause
  split
  · exact h
  · extract_lets
    split
    · exact .ite (.sourceLost (.raiseI (.bumpI (.modIface h)))) (.raiseI (.bumpI (.modIface h)))
    · exact .raiseI (.bumpI (.modIface h))

theorem Ends.execInterfaceCauseConfirmed {i cause} (h : Follows o s) : Ends o (execInterfaceCauseConfirmed i cause s) := .next (.confirmCause h)

theorem Follows.ifaceValid {i} (h : Follows o s) : Follows o (ifaceValid i s) := .ite h (.raiseI (.modIface h))

theorem Ends.execInterfaceValidAgain {i} (h : Follows o s) : Ends o (execInterfaceValidAgain i s) := .next (.ifaceValid h)

theorem Follows.goodCheck {i} (h : Follows o s) : Follows o (goodCheck i s) := .ite (.ifaceValid (.modIface h)) (.modIface h)

theorem Follows.badCheck {i cause need} (h : Follows o s) : Follows o (badCheck i cause need s) := .ite (.confirmCause (.modIface h)) (.modIface h)

theorem Follows.resolverPeak {r sin cos overcurrent} (h : Follows o s) : Follows o (resolverPeak r sin cos overcurrent s) := by
  unfold Machine.resolverPeak
  extract_lets _ _ _ _ _ _ _ _ _ _ _ _ _ _ s1 s2
  have h1 : Follows o s1 := .onlyIf .bumpI (.onlyIf .bumpI (.modIface (.moveTheta h)))
  have h2 : Follows o s2 := .ite (.badCheck h1) (.ite (.modIface h1) (.goodCheck h1))
  exact .ite h (.ite (.confirmCause h) (.ite (.confirmCause h2) h2))

theorem Ends.execResolverExcitationPeak {r sin cos overcurrent} (h : Follows o s) : Ends o (execResolverExcitationPeak r sin cos overcurrent s) :=
  .next (.onlyIf .resolverPeak h)

theorem Follows.zError {i d} (h : Follows o s) : Follows o (zError i d s) :=
  .ite (.confirmCause (.raiseI (.bumpI (.modIface h)))) (.raiseI (.bumpI (.modIface h)))

theorem Follows.encoderZ {i} (h : Follows o s) : Follows o (encoderZ i s) := by
  unfold Machine.encoderZ
  extract_lets
  split
  · exact h
  · split
    · refine .modIface ?_
      split
      · exact .dropOffsets h
      · exact h
    · exact .ite (.modIface (.modIface h)) (.zError (.modIface h))

theorem Follows.encoderIllegal {i t} (h : Follows o s) : Follows o (encoderIllegal i t s) :=
  .ite (.confirmCause (.bumpI (.modIface h))) (.bumpI (.modIface h))

theorem Follows.setCounts {i a b edge c} (h : Follows o s) : Follows o (setCounts i a b edge c s) := .moveTheta (.modIface h)

theorem Follows.encoderStep {i a b t} (h : Follows o s) : Follows o (encoderStep i a b t s) := by
  unfold Machine.encoderStep
  extract_lets _ _ _ _ _ _ s1
  have h1 : Follows o s1 := .goodCheck (.setCounts (.modIface h))
  split
  · exact h
  · split
    · split
      · exact .setCounts (.modIface h)
      · exact h
    · exact .ite (.encoderIllegal (.modIface (.modIface h))) (.ite (.zError (.modIface h1)) h1)

theorem Follows.encoderEdge {e a b z t} (h : Follows o s) : Follows o (encoderEdge e a b z t s) :=
  .ite h (.ite (.encoderZ (.encoderStep (.setNow h))) (.encoderStep (.setNow h)))

theorem Ends.execEncoderEdge {e a b z t} (h : Follows o s) : Ends o (execEncoderEdge e a b z t s) := .next (.onlyIf .encoderEdge h)

theorem Follows.hallHeld {i t} (h : Follows o s) : Follows o (hallHeld i t s) := .ite h (.ite (.confirmCause (.modIface h)) (.modIface h))

theorem Follows.hallStep {i code t} (h : Follows o s) : Follows o (hallStep i code t s) := by
  unfold Machine.hallStep
  extract_lets _ _ _ _ _ _ _ _ _ _ _ _ s1
  have h1 : Follows o s1 := .raiseFirstI (.bumpI (.modIface (.modIface (.moveTheta h))))
  exact .ite (.goodCheck (.modIface h)) (.ite h (.ite (.goodCheck (.modIface (.moveTheta h))) (.ite (.confirmCause h1) h1)))

theorem Follows.hallTake {i c t} (h : Follows o s) : Follows o (hallTake i c t s) :=
  .ite (.raiseFirstI (.bumpI (.modIface (.hallHeld h)))) (.hallStep (.modIface (.hallHeld h)))

theorem Follows.hallSettle {i t} (h : Follows o s) : Follows o (hallSettle i t s) := by
  unfold Machine.hallSettle
  split
  · exact h
  · exact .ite h (.hallTake (.modIface h))

theorem Follows.hallEnter {i c t} (h : Follows o s) : Follows o (hallEnter i c t s) := .ite (.hallTake (.hallSettle h)) (.modIface (.hallSettle h))

theorem Follows.hallChange {h' code t} (h : Follows o s) : Follows o (hallChange h' code t s) := by
  unfold Machine.hallChange
  extract_lets _ s1
  have h1 : Follows o s1 := .ite (.forGr (fun h => .ite h (.cloveEdge h)) h) h
  exact .ite h1 (.hallEnter (.setNow h1))

theorem Ends.execHallCodeChange {h' code t} (h : Follows o s) : Ends o (execHallCodeChange h' code t s) := .next (.hallChange h)

theorem Follows.frameError {i} (h : Follows o s) : Follows o (frameError i s) := .badCheck (.bumpI h)

theorem Follows.sspRequest {p idleLow t} (h : Follows o s) : Follows o (sspRequest p idleLow t s) :=
  .ite h (.ite (.bumpI (.setNow h)) (.onlyIf .frameError (.modIface (.setNow h))))

theorem Ends.execSspFrameRequest {p idleLow t} (h : Follows o s) : Ends o (execSspFrameRequest p idleLow t s) := .next (.onlyIf .sspRequest h)

theorem Follows.firstPosition {i multi} (h : Follows o s) : Follows o (firstPosition i multi s) := by
  unfold Machine.firstPosition
  split
  · exact h
  · split
    · exact .judgeRetained h
    · exact .ite (.dropOffsets (.moveCount h)) h

theorem Follows.sspComplete {p frame second t} (h : Follows o s) : Follows o (sspComplete p frame second t s) := by
  unfold Machine.sspComplete
  extract_lets _ _ _ _ _ _ _ _ _ _ _ _ _ s1 s2 _ s3
  have h1 : Follows o s1 := .ite (.moveTheta (.setNow h)) (.modIface (.moveTheta (.setNow h)))
  have h2 : Follows o s2 := by
    unfold s2
    split
    · exact h1
    · split
      · exact .onlyIf .modGr h1
      · exact h1
  have h3 : Follows o s3 := .modIface (.onlyIf .firstPosition h2)
  exact .ite h (.ite (.modIface (.setNow h)) (.ite (.frameError (.setNow h)) (.goodCheck h3)))

theorem Ends.execSspFrameComplete {p frame second t} (h : Follows o s) : Ends o (execSspFrameComplete p frame second t s) :=
  .next (.onlyIf .sspComplete h)

theorem Follows.latchSpeed {i t} (h : Follows o s) : Follows o (latchSpeed i t s) :=
  .ite (.modIface (.onlyIf .hallSettle h)) (.ite (.hallHeld (.modIface (.onlyIf .hallSettle h))) (.onlyIf .hallSettle h))

theorem Follows.groupSpeed {g v t} (h : Follows o s) : Follows o (groupSpeed g v t s) := by
  unfold Machine.groupSpeed
  exact .modGr h

theorem Follows.latchGroup {g t} (h : Follows o s) : Follows o (latchGroup g t s) := by
  unfold Machine.latchGroup
  extract_lets _ s1 _ _ _ s2
  have h1 : Follows o s1 := .foldl .latchSpeed h
  have h2 : Follows o s2 := .moveCount (.groupSpeed (.modGr h1))
  split
  · exact .modGr (.groupSpeed (.modGr h1))
  · exact .modGr h2

theorem Follows.speedZero {i} (h : Follows o s) : Follows o (speedZero i s) :=
  .ite h (.modIface (.onlyIf .moveTheta (.setNow (.onlyIf .hallSettle h))))

theorem Ends.execSpeedStandstillTimeout {i} (h : Follows o s) : Ends o (execSpeedStandstillTimeout i s) := .next (.onlyIf .speedZero h)

theorem Follows.captureEdge {c rising t} (h : Follows o s) : Follows o (captureEdge c rising t s) := by
  unfold Machine.captureEdge
  extract_lets
  split
  · exact h
  · exact .ite h (.ite (.raiseFirst (.bump (.setNow h))) (.raiseG (.bump (.frame (.setNow h)))))

theorem Ends.execCaptureEdge {c rising t} (h : Follows o s) : Ends o (execCaptureEdge c rising t s) := .next (.onlyIf .captureEdge h)

/-! Measure -/

theorem Follows.modMeas {b f} (h : Follows o s) : Follows o (modMeas b f s) := .modBr h

theorem Follows.endForced {ch n} (h : Follows o s) : Follows o (endForced ch n s) := .ite (.injected h) h

theorem Follows.applyChop {angle b} (h : Follows o s) : Follows o (applyChop angle b s) := .foldl (fun h => .turnOn (.modPos h)) h

theorem Follows.settleChop (h : Follows o s) : Follows o (settleChop s) := by
  unfold Machine.settleChop
  split
  · exact .ite h (.ite (.ite (.stopChop h) h) (.ite (.forBr .applyChop (.frame h)) h))
  · exact h

theorem Follows.fastConversion {ch code t} (h : Follows o s) : Follows o (fastConversion ch code t s) := by
  unfold Machine.fastConversion
  extract_lets _ _ _ _ _ s1 _ _ s2
  have h1 : Follows o s1 := .frame (.checkInputs (.setNow h))
  have h2 : Follows o s2 := by
    unfold s2
    split
    · exact .noteUdc (.checkInputs (.setNow h))
    · exact .checkInputs (.setNow h)
  split
  · exact .ite (.setNow h) (.endForced (.checkInputs (.modMeas (.setNow h))))
  · exact .ite (.endForced (.settleChop h1)) (.endForced (.onlyIf .drew h2))

theorem Ends.execFastConversionComplete {ch code t} (h : Follows o s) : Ends o (execFastConversionComplete ch code t s) :=
  .next (.onlyIf .fastConversion h)

theorem Follows.trigger {ch t} (h : Follows o s) : Follows o (trigger ch t s).1 := .ite (.bump (.frame h)) (.frame h)

theorem Follows.triggerNow {ch t} (h : Follows o s) : Follows o (triggerNow ch t s) := .frame (.trigger h)

theorem Follows.triggerShunt {t} (h : Follows o s) : Follows o (triggerShunt t s) := by
  unfold Machine.triggerShunt
  split
  · exact .triggerNow h
  · exact .foldl .modMeas (.frame (.triggerNow h))

theorem Follows.shuntWindow' {b k code t} (h : Follows o s) : Follows o (shuntWindow' b k code t s) := by
  unfold Machine.shuntWindow'
  exact .ite h (.modMeas (.checkInputs (.ite (.frame (.trigger (.frame (.setNow h)))) (.trigger (.frame (.setNow h))))))

theorem Ends.execShuntWindowSample {b k code t} (h : Follows o s) : Ends o (execShuntWindowSample b k code t s) := .next (.onlyIf .shuntWindow' h)

theorem Follows.storeOffsets {pi bemf b} (h : Follows o s) : Follows o (storeOffsets pi bemf b s) := .ite (.frame h) (.foldl .raise h)

theorem Follows.offsetsDone {pi bemf shunt} (h : Follows o s) : Follows o (offsetsDone pi bemf shunt s) :=
  .ite h (.ite (.forBr .storeOffsets (.frame h)) (.ite (.frame (.forBr .storeOffsets (.frame h))) (.raise4 (.forBr .storeOffsets (.frame h)))))

theorem Ends.execOffsetMeasurementDone {pi bemf shunt} (h : Follows o s) : Ends o (execOffsetMeasurementDone pi bemf shunt s) :=
  .next (.onlyIf .offsetsDone h)

theorem Follows.settleClamp {b} (h : Follows o s) : Follows o (settleClamp b s) := .onlyIf .raiseB (.modBr h)

theorem Follows.legVoltage {l mean lo hi} (h : Follows o s) : Follows o (legVoltage l mean lo hi s) :=
  .settleClamp (.onlyIf .modBr (.modLeg (.checkInputs h)))

theorem Ends.execLegVoltagePeriod {l mean lo hi} (h : Follows o s) : Ends o (execLegVoltagePeriod l mean lo hi s) := .next (.onlyIf .legVoltage h)

theorem Follows.noteCrossing {b phase rising amp t} (h : Follows o s) : Follows o (noteCrossing b phase rising amp t s) := .bump (.modBr h)

theorem Follows.zeroCrossing {b phase rising legs t} (h : Follows o s) : Follows o (zeroCrossing b phase rising legs t s) := by
  unfold Machine.zeroCrossing
  extract_lets _ _ _ _ s1
  have h1 : Follows o s1 := by
    unfold s1
    split
    · exact .ite (.setNow h) (.ite (.ite (.cloveEdge (.setNow h)) (.setNow h)) (.ite (.cloveEdge (.setNow h)) (.setNow h)))
    · exact .setNow h
  split
  · exact h1
  · split
    · exact .modBr h1
    · split
      · exact .ite (.listenOutcome (.noteCrossing (.modBr h1))) (.noteCrossing (.modBr h1))
      · exact .noteCrossing (.modBr h1)

theorem Ends.execZeroCrossing {b phase rising legs t} (h : Follows o s) : Ends o (execZeroCrossing b phase rising legs t s) := .next (.zeroCrossing h)

theorem Follows.crossingTimeout {b} (h : Follows o s) : Follows o (crossingTimeout b s) := by
  unfold Machine.crossingTimeout
  extract_lets s1
  have h1 : Follows o s1 := by
    unfold s1
    split
    · exact .setNow h
    · exact h
  exact .ite (.modBr h1) h1

theorem Ends.execZeroCrossingTimeout {b} (h : Follows o s) : Ends o (execZeroCrossingTimeout b s) := .next (.crossingTimeout h)

theorem Ends.execRectificationDetected {g} (h : Follows o s) : Ends o (execRectificationDetected g s) := .next (.ite (.listenOutcome h) h)

theorem Follows.takeWindow {b} (h : Follows o s) : Follows o (takeWindow b s) := by
  unfold Machine.takeWindow
  dsimp only
  split
  · exact .bump (.modMeas (.modMeas h))
  · exact .raiseFirst (.bump (.ite (.frame (.modMeas (.modMeas h))) (.modMeas (.modMeas h))))

/-! Observer -/

theorem Follows.reacquireBridge {asc b} (h : Follows o s) : Follows o (reacquireBridge asc b s) := .forceBridge h

theorem Follows.lostRotor {g cause case} (h : Follows o s) : Follows o (lostRotor g cause case s) := by
  unfold Machine.lostRotor
  extract_lets _ _ _ _ s1 _ s2
  have h1 : Follows o s1 := .abortIdent (.bump (.raiseG h))
  have h2 : Follows o s2 := .forBr .reacquireBridge (.modGr h1)
  exact .ite (.reacqFailed h2) (.modGr h2)

theorem Follows.resync {g} (h : Follows o s) : Follows o (resync g s) :=
  .ite (.setAtlasState (.raiseG (.raiseFirst (.bump (.modGr h))))) (.raiseFirst (.bump (.modGr h)))

theorem Follows.countRow {g row} (h : Follows o s) : Follows o (countRow g row s) := .modGr h

theorem Follows.noteOffset {g p q t} (h : Follows o s) : Follows o (noteOffset g p q t s) := by
  unfold Machine.noteOffset
  exact .modGr h

theorem Follows.useProvisional {g q t} (h : Follows o s) : Follows o (useProvisional g q t s) := by
  unfold Machine.useProvisional
  exact .modGr (.groupSpeed (.raiseFirst (.bump h)))

theorem Follows.handOver {g cause} (h : Follows o s) : Follows o (handOver g cause s) := .ite (.ite (.lostRotor h) h) (.ite (.lostRotor h) h)

theorem Follows.voteThree {g p q t} (h : Follows o s) : Follows o (voteThree g p q t s) := by
  unfold Machine.voteThree
  extract_lets pq po qo s1 s2 row s3 run
  have h3 : Follows o s3 := .countRow (.onlyIf .modGr (.onlyIf .noteOffset h))
  clear_value row s3
  split
  · exact .onlyIf .confirmCause (.useProvisional h3)
  · exact .ite (.raiseG (.confirmCause h3)) h3
  · exact .handOver (.onlyIf .raiseG h3)
  · exact .ite (.handOver h3) (.onlyIf .resync h3)
  · exact h3

theorem Follows.voteTwo {g p t} (h : Follows o s) : Follows o (voteTwo g p t s) :=
  .ite (.countRow (.onlyIf .modGr h)) (.handOver (.countRow (.onlyIf .modGr h)))

theorem Follows.tryAlone {g t k} (h : Follows o s) : Follows o (tryAlone g t k s) := by
  unfold Machine.tryAlone
  split
  · exact .modGr h
  · exact .ite (.endWindow (.switchSource (.modGr h))) (.modGr h)

theorem Follows.voteAlone {g t} (h : Follows o s) : Follows o (voteAlone g t s) :=
  .ite (.tryAlone (.tryAlone (.onlyIf .beginWindow h))) (.tryAlone (.onlyIf .beginWindow h))

theorem Follows.vote {g t} (h : Follows o s) : Follows o (vote g t s) := by
  unfold Machine.vote
  extract_lets
  split
  · exact .voteAlone h
  · split
    · exact .voteThree h
    · exact .voteTwo h

theorem Follows.learnStep {g i psi theta res} (h : Follows o s) : Follows o (learnStep g i psi theta res s) := by
  unfold Machine.learnStep
  exact .modGr h

theorem Follows.observe {b g i l t} (h : Follows o s) : Follows o (observe b g i l t s) :=
  .ite (.lostRotor (.learnStep (.modGr h))) (.learnStep (.modGr h))

/-! Sensors -/

theorem Follows.modCtl {b f} (h : Follows o s) : Follows o (modCtl b f s) := .modBr h

theorem Follows.abandonStep {b} (h : Follows o s) : Follows o (abandonStep b s) :=
  .ite (.safeRequest (.bump (.raiseB (.modCtl h)))) (.bump (.raiseB (.modCtl h)))

theorem Follows.triggerSample {b t} (h : Follows o s) : Follows o (triggerSample b t s) := by
  unfold Machine.triggerSample
  extract_lets s1
  have h1 : Follows o s1 := .foldl .triggerNow h
  exact .ite h1 (.triggerNow (.triggerShunt h1))

theorem Follows.stepBoundary {b} (h : Follows o s) : Follows o (stepBoundary b s) :=
  .ite (.finishPlacement h) (.refreshBounds (.modCtl (.finishPlacement h)))

theorem Follows.sampleAt {b half t} (h : Follows o s) : Follows o (sampleAt b half t s) := by
  unfold Machine.sampleAt
  extract_lets _ s1 s2 s3
  have h1 : Follows o s1 := .onlyIf .abandonStep (.setNow h)
  have h2 : Follows o s2 := by
    unfold s2
    split
    · exact .latchGroup h1
    · exact h1
  have h3 : Follows o s3 := .stepBoundary (.modMeas (.triggerSample h2))
  exact .modCtl h3

theorem Follows.sampleInstant {b t} (h : Follows o s) : Follows o (sampleInstant b t s) := by
  unfold Machine.sampleInstant
  split
  · exact .ite (.sampleAt h) h
  · exact h

theorem Ends.execSampleInstant {b t} (h : Follows o s) : Ends o (execSampleInstant b t s) := .next (.sampleInstant h)

theorem Follows.noteAlpha {b g} (h : Follows o s) : Follows o (noteAlpha b g s) := .ite (.modGr h) h

theorem Follows.settleMode {b} (h : Follows o s) : Follows o (settleMode b s) := by
  unfold Machine.settleMode
  extract_lets _ _ _ _ s1
  have h1 : Follows o s1 := by
    unfold s1
    split
    · exact .onlyIf .endWindow (.onlyIf (fun h => .beginWindow (.raiseB h)) (.onlyIf .raiseB (.modMeas h)))
    · exact .onlyIf .raiseB (.modMeas h)
  exact .ite (.safeRequest (.raiseB h1)) h1

theorem Follows.checkResiduals {b win} (h : Follows o s) : Follows o (checkResiduals b win s) := by
  unfold Machine.checkResiduals
  extract_lets _ _ _ _ _ _ one _ s1 s2 s3 _ s4 _ s5
  have h1 : Follows o s1 := .onlyIf (fun k => { k with freeCount := k.freeCount.trans (Nat.le_add_right _ _) }) h
  have h3 : Follows o s3 := .modMeas (.onlyIf .bump (.bumpBy h1))
  have h4 : Follows o s4 := by
    unfold s4
    cases one
    · exact h3
    · exact .ite (.confirmInvalid h3) h3
  have h5 : Follows o s5 := .modMeas (.onlyIf .raiseB h4)
  exact .ite (.safeRequest (.raiseB (.raiseB h5))) h5

theorem Follows.missStep {b} (h : Follows o s) : Follows o (missStep b s) := .missInputs (.modMeas h)

theorem Follows.askSafe {b} (h : Follows o s) : Follows o (askSafe b s) := by
  unfold Machine.askSafe
  extract_lets leg slot s1 s2
  have h1 : Follows o s1 := by
    clear_value leg
    cases leg
    · exact h
    · exact .raiseB h
  have h2 : Follows o s2 := by
    clear_value slot
    cases slot
    · exact h1
    · exact .raiseB h1
  exact .onlyIf .safeRequest h2

theorem Follows.readStep {b short} (h : Follows o s) : Follows o (readStep b short s) :=
  .ite (.missStep h) (.onlyIf .askSafe (.onlyIf .checkResiduals (.settleMode (.onlyIf .takeWindow (.missStep h)))))

/-! Watch -/

theorem Follows.watchSs1 {g} (h : Follows o s) : Follows o (watchSs1 g s) := by
  unfold Machine.watchSs1
  split
  · exact h
  · exact .ite (.modGr h) (.modGr h)

theorem Follows.watchSls {g} (h : Follows o s) : Follows o (watchSls g s) := by
  unfold Machine.watchSls
  exact .modGr (.onlyIf .modGr h)

theorem Follows.safetyReaction {g code src} (h : Follows o s) : Follows o (safetyReaction g code src s) := .ite (.safeGroup h) (.ss1Source h)

theorem Follows.watchSdi {g} (h : Follows o s) : Follows o (watchSdi g s) := .ite (.safetyReaction (.bump (.raiseG (.modGr h)))) (.modGr h)

theorem Follows.watchSlp {g} (h : Follows o s) : Follows o (watchSlp g s) :=
  .ite (.modGr h) (.ite (.ss1Source (.bump (.raiseG (.modGr h)))) (.modGr h))

theorem Follows.watchGroup {g} (h : Follows o s) : Follows o (watchGroup g s) := .watchSlp (.watchSdi (.watchSls (.watchSs1 h)))

/-! Split -/

theorem Follows.enterSs1 {g} (h : Follows o s) : Follows o (enterSs1 g s) := by
  unfold Machine.enterSs1
  split
  · exact h
  · exact .settleDrive (.noteSs1 (.refuseTorque (.foldl .raiseG (.bump (.raiseG (.modGr h))))))

theorem Follows.enterSelection {g} (h : Follows o s) : Follows o (enterSelection g s) := by
  unfold Machine.enterSelection
  split
  · exact h
  · extract_lets
    split
    · exact .ite (.modGr (.takeSelection h)) (.modGr (.takeSelection h))
    · exact .modGr (.takeSelection h)

theorem Follows.enterShort {g b} (h : Follows o s) : Follows o (enterShort g b s) := .ite h (.bump (.raiseB (.modCtl h)))

theorem Follows.endShort {b} (h : Follows o s) : Follows o (endShort b s) := .ite h (.raiseB (.modCtl h))

theorem Follows.settleShort {g t5} (h : Follows o s) : Follows o (settleShort g t5 s) := .ite (.forBr .enterShort (.modGr h)) (.modGr h)

theorem Follows.takeArrivals {g} (h : Follows o s) : Follows o (takeArrivals g s) := .forBr (fun h => .ite h (.ite (.modCtl h) (.modCtl h))) h

theorem Follows.endJoins {g} (h : Follows o s) : Follows o (endJoins g s) := .forBr (fun h => .ite (.modCtl h) h) h

theorem Follows.settleDepartures {g left} (h : Follows o s) : Follows o (settleDepartures g left s) := by
  unfold Machine.settleDepartures
  split
  · exact h
  · extract_lets s1 s2
    have h1 : Follows o s1 := .foldl (fun h => .bump (.raiseG h)) h
    have h2 : Follows o s2 := .ite h1 (.raiseG (.modGr h1))
    exact .ite (.stopGroup h1) (.onlyIf .beginWindow h2)

theorem Follows.formPortions {g low} (h : Follows o s) : Follows o (formPortions g low s) := by
  unfold Machine.formPortions
  extract_lets _ _ _ _ _ _ _ _ _ _ _ _ _ _ _ _ _ _ _ _ _ _ s1 s2 _ s3
  have h1 : Follows o s1 := .foldl .modCtl (.modGr (.settleShort h))
  have h2 : Follows o s2 := .forBr (fun h => .ite h (.modCtl h)) h1
  have h3 : Follows o s3 := .onlyIf (fun h => .raiseFirst (.bump h)) h2
  exact .onlyIf (fun h => .raiseFirst (.bump h)) (.onlyIf .bump h3)

theorem Follows.endRamps {g} (h : Follows o s) : Follows o (endRamps g s) := .ite h (.forBr (fun h => .ite (.modBr h) h) h)

theorem Follows.formSplit {g low} (h : Follows o s) : Follows o (formSplit g low s) := by
  unfold Machine.formSplit
  extract_lets s1 _ _ _ _ s2 s3 s4
  have h1 : Follows o s1 := .unlatchTorque (.enterSelection (.enterSs1 h))
  have h2 : Follows o s2 := .formPortions (.modGr (.takeArrivals h1))
  have h3 : Follows o s3 := .foldl (fun h => .bump (.raiseG h)) h2
  have h4 : Follows o s4 := .settleDepartures (.endRamps (.endJoins h3))
  exact .onlyIf .bump h4

theorem Follows.completeTorque {g} (h : Follows o s) : Follows o (completeTorque g s) := by
  unfold Machine.completeTorque
  extract_lets
  split
  · exact h
  · exact .complete (.modGr h)

/-! Loops -/

theorem Follows.commitSet {b c t} (h : Follows o s) : Follows o (commitSet b c t s) := by
  unfold Machine.commitSet
  extract_lets _ _ _ _ s1 _ _ s2
  have h1 : Follows o s1 := .onlyIf .chargeSet (.uncharge h)
  have h2 : Follows o s2 := .bump (.onlyIf .bump (.modBr h1))
  exact .ite (.ite (.raiseB h2) h2) (.onlyIf .bump (.modBr h1))

theorem Follows.commitStep {b g t} (h : Follows o s) : Follows o (commitStep b g t s) :=
  .ite (.commitSet h) (.commitSet (.bumpBy (.onlyIf .bump (.onlyIf .modBr h))))

theorem Follows.startLoops {b g} (h : Follows o s) : Follows o (startLoops b g s) := .ite h (.modCtl h)

theorem Follows.commitSplit {b g} (h : Follows o s) : Follows o (commitSplit b g s) := by
  unfold Machine.commitSplit
  split
  · exact .ite (.completeTorque (.modGr h)) h
  · exact h

theorem Follows.finishStep {b g l t} (h : Follows o s) : Follows o (finishStep b g l t s) :=
  .commitSplit (.modCtl (.commitStep (.modCtl (.onlyIf (fun h => .raiseFirst (.bump h)) (.modCtl (.startLoops h))))))

/-! Control -/

theorem Follows.stepAngle {b g} (h : Follows o s) : Follows o (stepAngle b g s) := by
  unfold Machine.stepAngle
  extract_lets
  split
  · exact .enterRamp h
  · split
    · exact h
    · split
      · exact .modGr (.modBr (.drew h))
      · exact .drew h

theorem Follows.stepStart {b g} (h : Follows o s) : Follows o (stepStart b g s) := .ite (.stepAngle h) (.ite (.enterRamp h) h)

theorem Follows.readCurrents {b g} (h : Follows o s) : Follows o (readCurrents b g s) := by
  unfold Machine.readCurrents
  exact .modCtl h

theorem Follows.setReferences {b g} (h : Follows o s) : Follows o (setReferences b g s) := .ite h (.modCtl h)

theorem Follows.placeShort {b g} (h : Follows o s) : Follows o (placeShort b g s) := .ite (.modCtl h) (.modCtl (.drew h))

theorem Follows.takePrefetch {b g} (h : Follows o s) : Follows o (takePrefetch b g s) := .bumpBy (.bumpBy (.frame h))

theorem Follows.askAtlas {b g t} (h : Follows o s) : Follows o (askAtlas b g t s) := .takePrefetch (.modCtl h)

theorem Follows.runStep {b g t} (h : Follows o s) : Follows o (runStep b g t s) := by
  unfold Machine.runStep
  extract_lets _ _ s1
  have h1 : Follows o s1 := .stepStart (.onlyIf .endShort (.onlyIf .vote (.readStep h)))
  split
  · exact .readStep h
  · split
    · exact .onlyIf .vote (.readStep h)
    · exact .ite (.onlyIf .formSplit h1) (.askAtlas (.placeShort (.setReferences (.readCurrents (.onlyIf .formSplit h1)))))

theorem Follows.resumeStep {b g t} (h : Follows o s) : Follows o (resumeStep b g t s) := .askAtlas (.readCurrents (.missStep h))

theorem Follows.controlStep {b t} (h : Follows o s) : Follows o (controlStep b t s) := by
  unfold Machine.controlStep
  extract_lets
  split
  · exact .setNow h
  · extract_lets s1
    have h1 : Follows o s1 := .noteAlpha (.onlyIf .watchGroup (.setNow h))
    exact .ite h1 (.ite (.resumeStep h1) (.runStep h1))

theorem Ends.execControlStep {b t} (h : Follows o s) : Ends o (execControlStep b t s) := .next (.onlyIf .controlStep h)

theorem Follows.staleAtlas {b g t} (h : Follows o s) : Follows o (staleAtlas b g t s) :=
  .ite (.modCtl h) (.ite (.finishStep (.onlyIf .observe (.bump (.modCtl h)))) (.onlyIf .observe (.bump (.modCtl h))))

theorem Follows.beyondBound {b} (h : Follows o s) : Follows o (beyondBound b s) := .raiseFirst (.bump h)

theorem Follows.noteLatency {b ticks} (h : Follows o s) : Follows o (noteLatency b ticks s) := .onlyIf .beyondBound (.frame h)

theorem Follows.noteOutside {g limited} (h : Follows o s) : Follows o (noteOutside g limited s) := .onlyIf (fun h => .raiseFirst (.bump h)) h

theorem Follows.useAtlas {b g l t} (h : Follows o s) : Follows o (useAtlas b g l t s) :=
  .ite (.finishStep (.onlyIf .observe (.modCtl (.onlyIf .modCtl h)))) (.onlyIf .observe (.modCtl (.onlyIf .modCtl h)))

theorem Follows.atlasResult {b t} (h : Follows o s) : Follows o (atlasResult b t s) := by
  unfold Machine.atlasResult
  extract_lets
  split
  · exact .setNow h
  · split
    · exact .setNow h
    · extract_lets s1
      have h1 : Follows o s1 := .noteOutside (.noteLatency (.setNow h))
      split
      · exact .useAtlas h1
      · exact .staleAtlas h1

theorem Ends.execAtlasLookupResult {b t} (h : Follows o s) : Ends o (execAtlasLookupResult b t s) := .next (.onlyIf .atlasResult h)

theorem Follows.atlasTimeout {b t} (h : Follows o s) : Follows o (atlasTimeout b t s) := by
  unfold Machine.atlasTimeout
  extract_lets
  split
  · exact .setNow h
  · exact .ite (.staleAtlas (.onlyIf .beyondBound (.setNow h))) (.setNow h)

theorem Ends.execAtlasResultTimeout {b t} (h : Follows o s) : Ends o (execAtlasResultTimeout b t s) := .next (.atlasTimeout h)

theorem Follows.shortExit {b} (h : Follows o s) : Follows o (shortExit b s) := by
  unfold Machine.shortExit
  split
  · exact h
  · split
    · exact h
    · exact .ite h (.endShort (.setNow h))

theorem Ends.execShortBrakeExit {b} (h : Follows o s) : Ends o (execShortBrakeExit b s) := .next (.shortExit h)

/-! Thermal -/

theorem Follows.overTemperature {b place cause} (h : Follows o s) : Follows o (overTemperature b place cause s) :=
  .safeRequest (.bump (.raiseB (.modTh h)))

theorem Follows.advanceNetwork {b t} (h : Follows o s) : Follows o (advanceNetwork b t s) := by
  unfold Machine.advanceNetwork
  exact .modTh h

theorem Follows.settleBand {b} (h : Follows o s) : Follows o (settleBand b s) := .ite h (.bump (.raiseB (.modTh h)))

theorem Follows.junctionTrips {b} (h : Follows o s) : Follows o (junctionTrips b s) :=
  .foldl (fun h => .ite (.overTemperature (.modTh h)) (.modTh h)) h

theorem Follows.thermalUpdate {b t} (h : Follows o s) : Follows o (thermalUpdate b t s) :=
  .junctionTrips (.onlyIf (fun h => .raiseFirst (.bump h)) (.settleBand (.advanceNetwork (.setNow h))))

theorem Ends.execThermalUpdate {b t} (h : Follows o s) : Ends o (execThermalUpdate b t s) := .next (.onlyIf .thermalUpdate h)

theorem Follows.thermalLate {b} (h : Follows o s) : Follows o (thermalLate b s) := .ite (.setNow h) (.bump (.raiseB (.modTh (.setNow h))))

theorem Ends.execThermalUpdateLate {b} (h : Follows o s) : Ends o (execThermalUpdateLate b s) := .next (.thermalLate h)

theorem Follows.countLevel {t} (h : Follows o s) : Follows o (countLevel t s) := by
  unfold Machine.countLevel
  exact .modDie (.onlyIf .bumpBy h)

theorem Follows.setLevel {n} (h : Follows o s) : Follows o (setLevel n s) := .ite h (.raise4 (.modDie h))

theorem Follows.dieRead {temp t} (h : Follows o s) : Follows o (dieRead temp t s) := by
  unfold Machine.dieRead
  extract_lets _ _ s1
  have h1 : Follows o s1 := .modDie (.countLevel (.setNow h))
  exact .ite (.setLevel h1) (.ite (.setLevel h1) (.modDie h1))

theorem Ends.execDieSensorRead {temp t} (h : Follows o s) : Ends o (execDieSensorRead temp t s) := .next (.dieRead h)

theorem Follows.dieCritical (h : Follows o s) : Follows o (dieCritical s) := by
  unfold Machine.dieCritical
  split
  · exact h
  · exact .ite h (.stopAll (.bump (.raise4 (.modDie (.setNow h)))))

theorem Ends.execDieCritical (h : Follows o s) : Ends o (execDieCritical s) := .next (.dieCritical h)

theorem Follows.noteCoolant (h : Follows o s) : Follows o (noteCoolant s) := by
  unfold Machine.noteCoolant
  split
  · exact .modDie h
  · exact h

theorem Follows.seedLeg {l} (h : Follows o s) : Follows o (seedLeg l s) := by
  unfold Machine.seedLeg
  exact .modTh h

theorem Follows.correctLeg {l} (h : Follows o s) : Follows o (correctLeg l s) := by
  unfold Machine.correctLeg
  extract_lets
  split
  · exact .modTh h
  · extract_lets _ _ _ _ s1
    have h1 : Follows o s1 := .onlyIf (fun h => .bump (.raise h)) (.modTh h)
    exact .ite (.overTemperature h1) h1

theorem Follows.noteSensorSupply {v} (h : Follows o s) : Follows o (noteSensorSupply v s) := .ite (.frame h) h

theorem Follows.useRound {vals} (h : Follows o s) : Follows o (useRound vals s) := by
  unfold Machine.useRound
  extract_lets _ _ s1
  have h1 : Follows o s1 := .checkInputs (.noteSensorSupply h)
  exact .ite (.foldl .correctLeg (.noteCoolant h1)) (.modDie (.foldl .seedLeg (.noteCoolant h1)))

theorem Follows.roundStart (h : Follows o s) : Follows o (roundStart s) := .ite h (.foldl .digitalAgrees (.frame (.onlyIf .setNow h)))

theorem Ends.execHousekeepingRoundStart (h : Follows o s) : Ends o (execHousekeepingRoundStart s) := .next (.onlyIf .roundStart h)

theorem Follows.roundComplete {vals} (h : Follows o s) : Follows o (roundComplete vals s) :=
  .ite h (.bump (.ite (.frame (.setNow h)) (.useRound (.frame (.setNow h)))))

theorem Ends.execHousekeepingRoundComplete {vals} (h : Follows o s) : Ends o (execHousekeepingRoundComplete vals s) :=
  .next (.onlyIf .roundComplete h)

theorem Follows.roundTimeout (h : Follows o s) : Follows o (roundTimeout s) := .ite h (.missInputs (.frame (.setNow h)))

theorem Ends.execHousekeepingRoundTimeout (h : Follows o s) : Ends o (execHousekeepingRoundTimeout s) := .next (.roundTimeout h)

/-! Learn -/

theorem Follows.setCell {g cell w} (h : Follows o s) : Follows o (setCell g cell w s) := .putCell h

theorem Follows.cellRepair {g cell} (h : Follows o s) : Follows o (cellRepair g cell s) := by
  unfold Machine.cellRepair
  extract_lets
  split
  · exact h
  · split
    · exact h
    · exact .ite h (.bump (.raiseG (.putCell h)))

theorem Ends.execCellRepair {g cell} (h : Follows o s) : Ends o (execCellRepair g cell s) := .next (.onlyIf .cellRepair h)

theorem Follows.applyEstimate {g u} (h : Follows o s) : Follows o (applyEstimate g u s) := by
  unfold Machine.applyEstimate
  exact .setCell h

theorem Follows.acceptEstimate {g u} (h : Follows o s) : Follows o (acceptEstimate g u s) := by
  unfold Machine.acceptEstimate
  extract_lets _ _ _ s1
  have h1 : Follows o s1 := .applyEstimate (.bump (.modAtlas h))
  exact .ite (.raiseFirst (.bump h)) (.ite (.modAtlas (.bump (.modAtlas h))) (.ite h1 (.setAtlasState h1)))

theorem Follows.applyHeld (h : Follows o s) : Follows o (applyHeld s) := by
  unfold Machine.applyHeld
  split
  · exact h
  · split
    · exact h
    · exact .ite (.applyEstimate (.modAtlas h)) (.setAtlasState (.applyEstimate (.modAtlas h)))

theorem Follows.learningUpdate {g cell steps residual psiD psiQ torque loss} (h : Follows o s) : Follows o (learningUpdate g cell steps residual
    psiD psiQ torque loss s) := by
  unfold Machine.learningUpdate
  split
  · exact h
  · split
    · exact h
    · extract_lets
      split
      · exact .modAtlas h
      · extract_lets
        split
        · exact .acceptEstimate (.modAtlas h)
        · exact .bump (.modAtlas h)
        · exact .bump (.modAtlas h)

theorem Ends.execLearningUpdate {g cell steps residual psiD psiQ torque loss} (h : Follows o s) : Ends o (execLearningUpdate g cell steps residual
    psiD psiQ torque loss s) :=
  .next (.onlyIf .learningUpdate h)

theorem Follows.mtpaDone {g tables} (h : Follows o s) : Follows o (mtpaDone g tables s) := .ite (.modAtlas h) h

theorem Ends.execMtpaRebuildDone {g tables} (h : Follows o s) : Ends o (execMtpaRebuildDone g tables s) := .next (.onlyIf .mtpaDone h)

theorem Follows.endCopy {g} (h : Follows o s) : Follows o (endCopy g s) := .settleSleep (.modAtlas h)

theorem Follows.checkpointEnd {g good} (h : Follows o s) : Follows o (checkpointEnd g good s) := by
  unfold Machine.checkpointEnd
  split
  · exact h
  · extract_lets _ _ _ _ s1
    have h1 : Follows o s1 := .raiseG (.modAtlas (.commitAtlas (.copyToNand h)))
    exact .ite (.endCopy (.foldl .complete h1)) (.endCopy (.foldl .complete (.raiseG (.modAtlas h))))

theorem Ends.execCheckpointComplete {g good} (h : Follows o s) : Ends o (execCheckpointComplete g good s) := .next (.onlyIf .checkpointEnd h)

theorem Follows.markResult {g bit} (h : Follows o s) : Follows o (markResult g bit s) := by
  unfold Machine.markResult
  exact .modAtlas h

theorem Follows.storeCharge {g} (h : Follows o s) : Follows o (storeCharge g s) := by
  unfold Machine.storeCharge
  exact .markResult (.forBr .modAllPos h)

theorem Follows.storeResistance {g rs axes} (h : Follows o s) : Follows o (storeResistance g rs axes s) := .forBr (fun h => .putObj (.putObj h)) h

theorem Follows.storeAngle {g theta} (h : Follows o s) : Follows o (storeAngle g theta s) := .modGr h

theorem Follows.putIdent {g cell conf w} (h : Follows o s) : Follows o (putIdent g cell conf w s) := .ite h (.setCell h)

theorem Follows.storeStill {g held points} (h : Follows o s) : Follows o (storeStill g held points s) :=
  .foldl (fun h => .putIdent (.foldl .putIdent h)) h

theorem Follows.storeSpeed {g points} (h : Follows o s) : Follows o (storeSpeed g points s) := .foldl .putIdent h

theorem Follows.fillCells {g} (h : Follows o s) : Follows o (fillCells g s) := .foldl (fun h => .ite h (.ite (.setCell h) (.setCell h))) h

theorem Follows.storeNtc {g first second} (h : Follows o s) : Follows o (storeNtc g first second s) := by
  unfold Machine.storeNtc
  extract_lets _ _ _ _ _ s1
  have h1 : Follows o s1 := .foldl (fun h => .putObj (.putObj h)) (.setNow h)
  exact .ite (.markResult h1) (.raiseG h1)

theorem Follows.storeCable {g edges} (h : Follows o s) : Follows o (storeCable g edges s) := by
  unfold Machine.storeCable
  extract_lets
  split
  · exact .raiseG (.frame h)
  · exact .markResult (.raiseG (.putObj (.frame h)))

theorem Follows.storeSpin {g offs} (h : Follows o s) : Follows o (storeSpin g offs s) := by
  unfold Machine.storeSpin
  refine .markResult ?_
  refine .foldl (fun k1 => ?_) h
  split
  · exact .ite (.putObj (.putObj k1)) k1
  · exact k1

theorem Follows.storeIdent {g step held r} (h : Follows o s) : Follows o (storeIdent g step held r s) := by
  unfold Machine.storeIdent
  split
  · exact .storeCharge h
  · exact .storeResistance h
  · exact .storeAngle h
  · exact .onlyIf .markResult (.storeStill h)
  · exact .storeNtc h
  · exact .storeCable h
  · exact .storeSpin h
  · exact .markResult (.storeSpeed h)
  · exact .fillCells h
  · exact h

theorem Follows.storeEmf {g} (h : Follows o s) : Follows o (storeEmf g s) := by
  unfold Machine.storeEmf
  split
  · exact .putObj h
  · exact h

theorem Follows.endIdent {g} (h : Follows o s) : Follows o (endIdent g s) := by
  unfold Machine.endIdent
  extract_lets ref s1 res s2 s3
  have h2 : Follows o s2 := .setAtlasState (.raiseG (.storeEmf (.markResult (.modAtlas h))))
  have h3 : Follows o s3 := by
    clear_value ref
    cases ref
    · exact h2
    · exact .complete h2
  exact .settlePd7 (.forBr .toRest h3)

theorem Follows.identStep {g r} (h : Follows o s) : Follows o (identStep g r s) := by
  unfold Machine.identStep
  split
  · exact h
  · extract_lets cause s1 s2 s3 s4
    have h1 : Follows o s1 := .onlyIf .modAtlas h
    have h3 : Follows o s3 := by
      clear_value cause
      cases cause
      · exact .ite h1 (.storeIdent h1)
      · exact .raiseG h1
    exact .ite h (.ite (.settlePd7 (.forBr .toRest (.abortIdent h1)))
      (.ite (.ite h1 (.endIdent h1)) (.onlyIf .startCheckpoint (.modAtlas h3))))

theorem Ends.execIdentificationStepEnd {g r} (h : Follows o s) : Ends o (execIdentificationStepEnd g r s) := .next (.onlyIf .identStep h)

theorem Follows.modReacq {g f} (h : Follows o s) : Follows o (modReacq g f s) := .modGr h

theorem Follows.settleEnd {g} (h : Follows o s) : Follows o (settleEnd g s) := .ite h (.modReacq (.setNow h))

theorem Ends.execReacqSettleExpiry {g} (h : Follows o s) : Ends o (execReacqSettleExpiry g s) := .next (.settleEnd h)

theorem Follows.windowOver {g} (h : Follows o s) : Follows o (State.windowOver s g) := .ite (.setNow h) h

theorem Follows.windowEnd {g estimates freq} (h : Follows o s) : Follows o (windowEnd g estimates freq s) := by
  unfold Machine.windowEnd
  extract_lets _ _ _ _ s1 s2
  have h1 : Follows o s1 := .raiseG (.modGr (.drew (.windowOver h)))
  have h2 : Follows o s2 := .onlyIf (fun h => .forBr .modBr h) h1
  exact .ite h (.ite (.modReacq (.drew (.windowOver h))) (.forBr (fun h => .modBr (.uncharge h)) h2))

theorem Ends.execAcquisitionWindowEnd {g estimates freq} (h : Follows o s) : Ends o (execAcquisitionWindowEnd g estimates freq s) :=
  .next (.windowEnd h)

theorem Follows.acquireTimeout {g} (h : Follows o s) : Follows o (acquireTimeout g s) :=
  .ite h (.ite (.forBr (fun h => .toHeldCatch (.abortStart h)) (.modReacq (.setNow h))) (.reacqFailed (.setNow h)))

theorem Ends.execAcquisitionTimeout {g} (h : Follows o s) : Ends o (execAcquisitionTimeout g s) := .next (.acquireTimeout h)

theorem Follows.holdEnd {g} (h : Follows o s) : Follows o (holdEnd g s) := .ite h (.bump (.raiseG (.modReacq (.setNow h))))

theorem Ends.execResumeHoldExpiry {g} (h : Follows o s) : Ends o (execResumeHoldExpiry g s) := .next (.holdEnd h)

/-! Placement -/

theorem Follows.noteHeadroom {b} (h : Follows o s) : Follows o (noteHeadroom b s) := by
  unfold Machine.noteHeadroom
  split
  · exact h
  · exact .modCtl h

theorem Follows.noteShares {g} (h : Follows o s) : Follows o (noteShares g s) := .foldl .modCtl h

theorem Follows.settleCeiling {k g} (h : Follows o s) : Follows o (settleCeiling k g s) := .frame h

theorem Follows.noteInputs {inputs} (h : Follows o s) : Follows o (noteInputs inputs s) := .frame h

theorem Follows.powerBudget {sensorPower} (h : Follows o s) : Follows o (powerBudget sensorPower s) :=
  .ite (.forGr .settleCeiling (.frame h)) (.bump (.raise4 (.forGr .settleCeiling (.frame h))))

theorem Follows.returnTasks (h : Follows o s) : Follows o (returnTasks s) := by
  unfold Machine.returnTasks
  split
  · exact .finishSplit h
  · split
    · exact .ite h (.moveStep h)
    · exact .movePlacement (.forBr .moveWatch h)

theorem Follows.balance (h : Follows o s) : Follows o (balance s) := .refreshBounds (.ite (.settleLoads h) h)

theorem Follows.chooseSide {b} (h : Follows o s) : Follows o (chooseSide b s) := .ite h (.ite h (.ite (.endShort h) (.modCtl h)))

theorem Follows.settleLeader (h : Follows o s) : Follows o (settleLeader s) := .frame h

theorem Follows.shiftCrowded {b} (h : Follows o s) : Follows o (shiftCrowded b s) := .ite h (.ite (.bump (.modBr (.frame h))) (.frame h))

theorem Follows.scheduleOffset {time e} (h : Follows o s) : Follows o (scheduleOffset time e s) := .ite (.modBr h) h

theorem Follows.announceOn {c sub bytes} (h : Follows o s) : Follows o (announceOn c sub bytes s) := .ite (.canQueue h) h

theorem Follows.scheduleOnCan {c x n l} (h : Follows o s) : Follows o (scheduleOnCan c x n l s) := by
  induction n generalizing l s with
  | zero => exact h
  | succ n ih =>
    cases l with
    | nil => exact h
    | cons e r => exact ih (.announceOn h)

theorem Follows.sendSchedule {o'} (h : Follows o s) : Follows o (sendSchedule o' s) := .ite h (.scheduleOnCan (.scheduleOnCan (.send h)))

theorem Follows.interleave (h : Follows o s) : Follows o (interleave s) := by
  unfold Machine.interleave
  split
  · exact h
  · extract_lets _ _ _ s1 _ _ _ s2
    have h1 : Follows o s1 := .frame (.forBr .shiftCrowded h)
    have h2 : Follows o s2 := .foldl .scheduleOffset h1
    exact .ite h1 (.sendSchedule (.bump (.raise4 h2)))

theorem Follows.judgeCollisions (h : Follows o s) : Follows o (judgeCollisions s) := .ite h (.frame h)

theorem Follows.adaptSlots (h : Follows o s) : Follows o (adaptSlots s) := .ite (.frame h) (.frame (.frame h))

theorem Follows.notePlacement {costs dcCurrents} (h : Follows o s) : Follows o (notePlacement costs dcCurrents s) :=
  .forBr .modCtl (.frame h)

theorem Follows.noteHeat (h : Follows o s) : Follows o (noteHeat s) := .forBr .modCtl h

theorem Follows.placementResult {costs sensorPower inputs dcCurrents} (h : Follows o s) : Follows o (placementResult costs sensorPower inputs
    dcCurrents s) := by
  unfold Machine.placementResult
  extract_lets _ s1 _ s2 s3 _ s4
  have h1 : Follows o s1 := .forGr .noteShares (.forBr .noteHeadroom (.notePlacement h))
  have h2 : Follows o s2 := .balance (.returnTasks (.powerBudget (.noteInputs h1)))
  have h3 : Follows o s3 := .forBr .chooseSide (.noteHeat h2)
  have h4 : Follows o s4 := .ite (.judgeCollisions h3) (.interleave (.judgeCollisions h3))
  exact .adaptSlots h4

theorem Ends.execPlacementResult {costs sensorPower inputs dcCurrents} (h : Follows o s) : Ends o (execPlacementResult costs sensorPower inputs
    dcCurrents s) :=
  .next (.onlyIf .placementResult h)

theorem Follows.announceTx (h : Follows o s) : Follows o (announceTx s) :=
  .ite h (.ite (.interleave (.frame (.announceOn (.announceOn (.onlyIf .send h))))) (.announceOn (.announceOn (.onlyIf .send h))))

theorem Ends.execInterleaveAnnouncementTx (h : Follows o s) : Ends o (execInterleaveAnnouncementTx s) := .next (.announceTx h)

theorem Follows.notePartner {p keep} (h : Follows o s) : Follows o (notePartner p keep s) := by
  unfold Machine.notePartner
  split
  · exact .settleLeader (.frame h)
  · exact .bump (.raise4 (.settleLeader (.frame h)))

theorem Follows.announceRx {a path} (h : Follows o s) : Follows o (announceRx a path s) := .ite (.notePartner h) h

theorem Ends.execInterleaveAnnouncementRx {a path} (h : Follows o s) : Ends o (execInterleaveAnnouncementRx a path s) := .next (.announceRx h)

theorem Follows.scheduleOwn {time e} (h : Follows o s) : Follows o (scheduleOwn time e s) := .ite (.scheduleOffset (.shiftCrowded h)) h

theorem Follows.scheduleRx {o' path} (h : Follows o s) : Follows o (scheduleRx o' path s) := .ite (.foldl .scheduleOwn h) h

theorem Ends.execOffsetScheduleRx {o' path} (h : Follows o s) : Ends o (execOffsetScheduleRx o' path s) := .next (.scheduleRx h)

theorem Follows.partnerLost {serial} (h : Follows o s) : Follows o (partnerLost serial s) := by
  unfold Machine.partnerLost
  split
  · exact h
  · exact .bump (.raise4 (.settleLeader (.frame (.setNow h))))

theorem Ends.execPartnerTimeout {serial} (h : Follows o s) : Ends o (execPartnerTimeout serial s) := .next (.partnerLost h)

/-! SafetyFn -/

theorem Follows.stoInput {chB high} (h : Follows o s) : Follows o (stoInput chB high s) :=
  .ite (.frame h) (.ite (.stoRequest (.frame h)) (.ite (.raise4 (.forBr .endCause (.frame h))) (.frame h)))

theorem Ends.execStoInputChange {chB high} (h : Follows o s) : Ends o (execStoInputChange chB high s) := .next (.stoInput h)

theorem Follows.stoDiscrepancy (h : Follows o s) : Follows o (stoDiscrepancy s) := .ite h (.bump (.raise4 (.frame (.injected h))))

theorem Ends.execStoDiscrepancy (h : Follows o s) : Ends o (execStoDiscrepancy s) := .next (.stoDiscrepancy h)

theorem Follows.ss1Violation {g} (h : Follows o s) : Follows o (ss1Violation g s) := by
  unfold Machine.ss1Violation
  split
  · split
    · exact .safeGroup (.bump (.raiseG (.setNow h)))
    · exact h
  · exact h

theorem Ends.execSs1EnvelopeViolation {g} (h : Follows o s) : Ends o (execSs1EnvelopeViolation g s) := .next (.ss1Violation h)

theorem Follows.ss1Timeout {g} (h : Follows o s) : Follows o (ss1Timeout g s) := by
  unfold Machine.ss1Timeout
  split
  · exact .ite (.safeGroup (.raiseG (.setNow h))) h
  · exact h

theorem Ends.execSs1Timeout {g} (h : Follows o s) : Ends o (execSs1Timeout g s) := .next (.ss1Timeout h)

theorem Follows.standstill {g} (h : Follows o s) : Follows o (standstill g s) := by
  unfold Machine.standstill
  split
  · split
    · exact .ite h (.ite (.frame (.applyBrake (.modGr (.raiseG (.setNow h))))) (.endSs1 (.raiseG (.setNow h))))
    · exact h
  · exact h

theorem Ends.execStandstillConfirmed {g} (h : Follows o s) : Ends o (execStandstillConfirmed g s) := .next (.standstill h)

theorem Follows.brakeCloseEnd (h : Follows o s) : Follows o (brakeCloseEnd s) := by
  unfold Machine.brakeCloseEnd
  split
  · exact .ite (.endSs1 (.setNow (.frame h))) (.setNow (.frame h))
  · exact .frame h

theorem Ends.execBrakeCloseExpiry (h : Follows o s) : Ends o (execBrakeCloseExpiry s) := .next (.brakeCloseEnd h)

theorem Follows.slsReaction {g} (h : Follows o s) : Follows o (slsReaction g s) := .safetyReaction (.bump (.raiseG h))

theorem Follows.slsViolation {g} (h : Follows o s) : Follows o (slsViolation g s) := by
  unfold Machine.slsViolation
  split
  · exact .slsReaction (.setNow h)
  · exact h

theorem Ends.execSlsViolation {g} (h : Follows o s) : Ends o (execSlsViolation g s) := .next (.slsViolation h)

theorem Follows.slsTimeout {g} (h : Follows o s) : Follows o (slsTimeout g s) := by
  unfold Machine.slsTimeout
  split
  · exact .slsReaction (.modGr (.setNow h))
  · exact h

theorem Ends.execSlsDecelerationTimeout {g} (h : Follows o s) : Ends o (execSlsDecelerationTimeout g s) := .next (.slsTimeout h)

theorem Follows.slpViolation {g} (h : Follows o s) : Follows o (slpViolation g s) := by
  unfold Machine.slpViolation
  split
  · exact .safetyReaction (.bump (.raiseG (.setNow h)))
  · exact h

theorem Ends.execSlpViolation {g} (h : Follows o s) : Ends o (execSlpViolation g s) := .next (.slpViolation h)

theorem Follows.cloveTrip {g} (h : Follows o s) : Follows o (cloveTrip g s) := .safeGroup (.bump (.raiseG h))

theorem Follows.cloveOverspeed {g} (h : Follows o s) : Follows o (cloveOverspeed g s) := .ite (.cloveTrip h) h

theorem Ends.execCloveOverspeed {g} (h : Follows o s) : Ends o (execCloveOverspeed g s) := .next (.cloveOverspeed h)

theorem Follows.cloveDisagrees {g} (h : Follows o s) : Follows o (cloveDisagrees g s) := .ite (.safeGroup (.raiseG h)) h

theorem Ends.execCloveSpeedDisagreement {g} (h : Follows o s) : Ends o (execCloveSpeedDisagreement g s) := .next (.cloveDisagrees h)

theorem Follows.powerCheck {power t} (h : Follows o s) : Follows o (powerCheck power t s) :=
  .ite (.safeDriveOnce (.bump (.raise4 (.frame (.setNow h))))) (.frame (.setNow h))

theorem Ends.execClovePowerCheck {power t} (h : Follows o s) : Ends o (execClovePowerCheck power t s) := .next (.powerCheck h)

theorem Follows.pairMismatch {p grp} (h : Follows o s) : Follows o (pairMismatch p grp s) :=
  .ite h (.countPairFault (.leaveLockstep (.bump (.raise4 h))))

theorem Follows.failRun {b g} (h : Follows o s) : Follows o (failRun b g s) := .ite (.safeRequest (.bump (.raiseB (.modCtl h)))) (.modCtl h)

theorem Follows.staleRun {b g} (h : Follows o s) : Follows o (staleRun b g s) := .onlyIf .raiseB (.bump (.modCtl h))

theorem Follows.monitorRun {b violation overBudget} (h : Follows o s) : Follows o (monitorRun b violation overBudget s) := by
  unfold Machine.monitorRun
  split
  · exact h
  · extract_lets _ _ _ _ s1
    have h1 : Follows o s1 := .ite (.injectionCount (.injected h)) h
    split
    · exact h
    · exact .ite (.pairMismatch h) (.ite (.failRun h) (.ite (.staleRun h) (.ite (.failRun (.onlyIf .drew h1)) (.modCtl (.onlyIf .drew h1)))))

theorem Ends.execTorqueMonitorRun {b violation overBudget} (h : Follows o s) : Ends o (execTorqueMonitorRun b violation overBudget s) :=
  .next (.onlyIf .monitorRun h)

theorem Follows.endRampHold (h : Follows o s) : Follows o (endRampHold s) := by
  unfold Machine.endRampHold
  split
  · exact h
  · exact .ite h (.forBr (fun h => .onlyIf .setPhase h) (.modGr h))

theorem Ends.execBrakeReleaseExpiry (h : Follows o s) : Ends o (execBrakeReleaseExpiry s) := .next (.endRampHold h)

theorem Follows.brakeFeedback {released highFails lowFails} (h : Follows o s) : Follows o (brakeFeedback released highFails lowFails s) := by
  unfold Machine.brakeFeedback
  extract_lets _ s1 _ s2
  have h1 : Follows o s1 := .onlyIf .frame (.onlyIf .keepDigital h)
  have h2 : Follows o s2 := .onlyIf .endRampHold (.digitalAgrees h1)
  split
  · exact h2
  · split
    · exact h2
    · exact .raiseG (.frame h2)

theorem Ends.execBrakeFeedbackChange {released highFails lowFails} (h : Follows o s) : Ends o (execBrakeFeedbackChange released highFails lowFails
    s) :=
  .next (.brakeFeedback h)

theorem Follows.brakeTimeout (h : Follows o s) : Follows o (brakeTimeout s) := by
  unfold Machine.brakeTimeout
  split
  · exact h
  · exact .ite h (.ite (.ss1Source (.bump (.raiseG (.frame h)))) (.bump (.raiseG (.frame h))))

theorem Ends.execBrakeFeedbackTimeout (h : Follows o s) : Ends o (execBrakeFeedbackTimeout s) := .next (.brakeTimeout h)

theorem Follows.windowExpiry {w} (h : Follows o s) : Follows o (windowExpiry w s) := by
  unfold Machine.windowExpiry
  split
  · exact .expireWindow (.setNow h)
  · exact h

theorem Ends.execSumacWindowExpiry {w} (h : Follows o s) : Ends o (execSumacWindowExpiry w s) := .next (.windowExpiry h)

/-! CloveFn -/

theorem Follows.channelDisagreement (h : Follows o s) : Follows o (channelDisagreement s) := .safeDriveOnce (.bump (.raise4 (.frame h)))

theorem Ends.execCloveChannelDisagreement (h : Follows o s) : Ends o (execCloveChannelDisagreement s) := .next (.channelDisagreement h)

theorem Follows.ascLegFailure {l} (h : Follows o s) : Follows o (ascLegFailure l s) :=
  .ite h (.settleDrive (.changePattern (.latchFor (.bump (.raise h)))))

theorem Ends.execAscLegFailure {l} (h : Follows o s) : Ends o (execAscLegFailure l s) := .next (.ascLegFailure h)

theorem Follows.startupTest {failed} (h : Follows o s) : Follows o (startupTest failed s) := by
  unfold Machine.startupTest
  refine .ite h ?_
  dsimp only
  refine .ite (.ite (.bootEvent ?_) (.raise4 ?_)) (.ite (.ite (.bootEvent ?_) (.raise4 ?_)) (.setDrive (.ite (.bootEvent ?_) (.raise4 ?_)))) <;>
    exact .frame (.settlePd7 (.frame h))

theorem Ends.execCloveStartupTestDone {failed} (h : Follows o s) : Ends o (execCloveStartupTestDone failed s) := .next (.startupTest h)

theorem Follows.testAge (h : Follows o s) : Follows o (testAge s) := .raise4 (.frame (.setNow h))

theorem Ends.execTestAgeReached (h : Follows o s) : Ends o (execTestAgeReached s) := .next (.testAge h)

theorem Ends.execReferenceOscDeparted (h : Follows o s) : Ends o (execReferenceOscDeparted s) := .next (.safeDriveOnce (.raise4 h))

theorem Follows.overvoltage {uC chB} (h : Follows o s) : Follows o (overvoltage uC chB s) := .ite h (.safeDriveOnce (.bump (.raise4 h)))

theorem Ends.execDcLinkOvervoltage {uC chB} (h : Follows o s) : Ends o (execDcLinkOvervoltage uC chB s) := .next (.overvoltage h)

theorem Ends.execCoilSupplyLoss (h : Follows o s) : Ends o (execCoilSupplyLoss s) := .next (.openContactors h)

theorem Follows.commandLoss {g} (h : Follows o s) : Follows o (commandLoss g s) := by
  unfold Machine.commandLoss
  split
  · exact .ss1Source (.abortGroupStarts h)
  · exact .onlyIf .safeGroup (.abortGroupStarts h)
  · exact h

theorem Follows.heartbeatMissed {t} (h : Follows o s) : Follows o (heartbeatMissed t s) :=
  .ite (.forGr .commandLoss (.frame (.setNow h))) (.frame (.setNow h))

theorem Ends.execHeartbeatMissed {t} (h : Follows o s) : Ends o (execHeartbeatMissed t s) := .next (.heartbeatMissed h)

theorem Ends.execLockstepMismatch {p grp} (h : Follows o s) : Ends o (execLockstepMismatch p grp s) := .next (.pairMismatch h)

theorem Follows.loseCore {p core} (h : Follows o s) : Follows o (loseCore p core s) :=
  .forBr (fun h => .ite (.raiseMove (.raiseMove (.modBr h))) (.raiseMove (.modBr h))) h

theorem Follows.pairWatchdog {p core} (h : Follows o s) : Follows o (pairWatchdog p core s) := by
  unfold Machine.pairWatchdog
  extract_lets _ _ _ s1
  have h1 : Follows o s1 := .ite (.loseCore (.modPair (.bump (.raise4 h)))) (.settlePairs (.evacuate (.modPair (.modPair (.bump (.raise4 h))))))
  exact .ite h (.ite (.countPairFault h1) (.countPairFault (.leaveLockstep (.bump (.raise4 h)))))

theorem Ends.execPairWatchdogExpiry {p core} (h : Follows o s) : Ends o (execPairWatchdogExpiry p core s) := .next (.pairWatchdog h)

theorem Follows.cloveReset (h : Follows o s) : Follows o (cloveReset s) := .ite h (.warmReset h)

theorem Ends.execCloveResetRequest (h : Follows o s) : Ends o (execCloveResetRequest s) := .next (.cloveReset h)

theorem Follows.pairRelease {p} (h : Follows o s) : Follows o (pairRelease p s) := .ite (.modPair h) h

theorem Ends.execPairResetRelease {p} (h : Follows o s) : Ends o (execPairResetRelease p s) := .next (.pairRelease h)

theorem Follows.endRejoin {p status} (h : Follows o s) : Follows o (endRejoin p status s) := by
  unfold Machine.endRejoin
  split
  · exact .ite h (.foldl .faultClear (.complete (.settleRating (.frame h))))
  · exact h

theorem Follows.comparatorTest {p caught} (h : Follows o s) : Follows o (comparatorTest p caught s) := by
  unfold Machine.comparatorTest
  extract_lets _ _ _ s1 s2
  have h1 : Follows o s1 := .endWindow (.modPair (.bump h))
  have h2 : Follows o s2 := .ite (.bump (.raise4 h1)) (.ite h1 (.raise4 h1))
  split
  · exact h
  · split
    · exact .endRejoin (.settlePairs h2)
    · exact .ite (.modPair (.bootEvent (.bootEvent (.modPair (.bump h))))) (.endRejoin (.countPairFault (.raise4 (.modPair (.bump h)))))

theorem Ends.execComparatorTestDone {p caught} (h : Follows o s) : Ends o (execComparatorTestDone p caught s) := .next (.comparatorTest h)

theorem Follows.cacheUncorrectable {p both} (h : Follows o s) : Follows o (cacheUncorrectable p both s) := by
  unfold Machine.cacheUncorrectable
  extract_lets _ _ _ s1
  have h1 : Follows o s1 := by
    unfold s1
    split
    · exact .ite (.refuse (.frame (.bump h))) (.bump h)
    · exact .bump h
  exact .ite h (.ite (.pairMismatch (.bump h)) (.beginWindow (.raise4 (.modPair h1))))

theorem Ends.execCacheUncorrectable {p both} (h : Follows o s) : Ends o (execCacheUncorrectable p both s) := .next (.cacheUncorrectable h)

theorem Follows.benchDcLink {uC} (h : Follows o s) : Follows o (benchDcLink uC s) := .openContactors (.safeDriveOnce (.raise h))

theorem Follows.debugAttach {d} (h : Follows o s) : Follows o (debugAttach d s) := by
  unfold Machine.debugAttach
  split
  · exact .raise4 (.frame h)
  · extract_lets _ _ s1
    have h1 : Follows o s1 := .ite (.settlePairs (.modPair (.bump (.raise4 h)))) (.leaveLockstep (.modPair (.bump (.raise4 h))))
    exact .ite (.benchDcLink h1) h1

theorem Ends.execDebugAttach {d} (h : Follows o s) : Ends o (execDebugAttach d s) := .next (.debugAttach h)

theorem Follows.debugDetach {d} (h : Follows o s) : Follows o (debugDetach d s) := by
  unfold Machine.debugDetach
  split
  · exact .ite (.raise4 (.frame h)) h
  · exact .ite h (.ite (.modPair (.raise4 (.modPair h))) (.raise4 (.modPair h)))

theorem Ends.execDebugDetach {d} (h : Follows o s) : Ends o (execDebugDetach d s) := .next (.debugDetach h)

theorem Follows.benchLimit {l} (h : Follows o s) : Follows o (benchLimit l s) := by
  unfold Machine.benchLimit
  split
  · exact h
  · split
    · exact .ite (.benchDcLink h) h
    · exact .ite (.safeGroup (.raiseG h)) h

theorem Ends.execBenchLimitExceeded {l} (h : Follows o s) : Ends o (execBenchLimitExceeded l s) := .next (.benchLimit h)

/-! Supply -/

theorem Follows.portLoss {p} (h : Follows o s) : Follows o (portLoss p s) := .ite h (.settleLine (.bump (.raise4 (.deferDischarge (.frame h)))))

theorem Ends.execPortPowerLoss {p} (h : Follows o s) : Ends o (execPortPowerLoss p s) := .next (.portLoss h)

theorem Follows.portRestore {p} (h : Follows o s) : Follows o (portRestore p s) := .ite h (.settleLine (.raise4 (.frame h)))

theorem Ends.execPortPowerRestore {p} (h : Follows o s) : Ends o (execPortPowerRestore p s) := .next (.portRestore h)

theorem Follows.podlClass {p cls} (h : Follows o s) : Follows o (podlClass p cls s) := .raise4 (.frame h)

theorem Ends.execPodlClassification {p cls} (h : Follows o s) : Ends o (execPodlClassification p cls s) := .next (.podlClass h)

theorem Follows.auxStart (h : Follows o s) : Follows o (auxStart s) := .ite h (.settleLine (.bump (.raise4 (.frame h))))

theorem Ends.execAuxConverterStart (h : Follows o s) : Ends o (execAuxConverterStart s) := .next (.auxStart h)

theorem Follows.auxStop (h : Follows o s) : Follows o (auxStop s) := by
  unfold Machine.auxStop
  split
  · exact h
  · extract_lets _ s1
    have h1 : Follows o s1 := .settleLine (.raise4 (.frame h))
    exact .ite (.failDischarge h1) h1

theorem Ends.execAuxConverterStop (h : Follows o s) : Ends o (execAuxConverterStop s) := .next (.auxStop h)

theorem Follows.hvChange {present} (h : Follows o s) : Follows o (hvChange present s) := .settlePd7 (.frame h)

theorem Ends.execHvPresentChange {present} (h : Follows o s) : Ends o (execHvPresentChange present s) := .next (.hvChange h)

theorem Follows.inputOver (h : Follows o s) : Follows o (inputOver s) := .stopAll (.raise4 (.frame h))

theorem Ends.execInputOverBudget (h : Follows o s) : Ends o (execInputOverBudget s) := .next (.inputOver h)

theorem Follows.offNow {b} (h : Follows o s) : Follows o (offNow b s) := by
  unfold Machine.offNow
  exact .endCause (.ite (.changePattern h) (.forceBridge (.onlyIf .setPattern h)))

theorem Follows.allOffNow (h : Follows o s) : Follows o (allOffNow s) := .driveSafe (.forBr .offNow h)

theorem Follows.busCollapse (h : Follows o s) : Follows o (busCollapse s) := .allOffNow (.raise4 h)

theorem Ends.execBusCollapse (h : Follows o s) : Ends o (execBusCollapse s) := .next (.busCollapse h)

theorem Follows.busLost (h : Follows o s) : Follows o (busLost s) := .ite (.frame h) (.sleepState (.ite (.frame h) (.allOffNow (.frame h))))

theorem Ends.execBusSupplyLost (h : Follows o s) : Ends o (execBusSupplyLost s) := .next (.busLost h)

theorem Follows.railFault {d} (h : Follows o s) : Follows o (railFault d s) :=
  .ite h (.ite (.powerOn (.safeDriveOnce (.raise4 h))) (.safeDriveOnce (.raise4 h)))

theorem Ends.execDomainRailFault {d} (h : Follows o s) : Ends o (execDomainRailFault d s) := .next (.railFault h)

theorem Follows.pllLost {p} (h : Follows o s) : Follows o (pllLost p s) :=
  .ite h (.ite (.safeDriveOnce (.bump (.raise4 (.frame h)))) (.bump (.raise4 (.frame h))))

theorem Ends.execPllLockLoss {p} (h : Follows o s) : Ends o (execPllLockLoss p s) := .next (.pllLost h)

theorem Ends.execPllLockRegained {p} (h : Follows o s) : Ends o (execPllLockRegained p s) := .next (.ite (.frame h) h)

/-! Arbiter -/

theorem Follows.modReq {r f} (h : Follows o s) : Follows o (modReq r f s) := .frame h

theorem Follows.writeWords {a l} (h : Follows o s) : Follows o (writeWords a l s) := by
  induction l generalizing a s with
  | nil => exact h
  | cons w t ih => exact ih (.putCell h)

theorem Follows.readWord {r a flip1 flip2} (h : Follows o s) : Follows o (readWord r a flip1 flip2 s) :=
  .ite h (.ite (.bump (.raise4 (.withMem id h))) (.onlyIf (fun h => .onlyIf .bump (.bump h)) h))

theorem Follows.loseRingPacket {k} (h : Follows o s) : Follows o (loseRingPacket k s) := by
  unfold Machine.loseRingPacket
  extract_lets
  split
  · exact h
  · exact .packetLost (.bump (.modOut (.modStream (.modOut h))))

theorem Follows.loseTransfer {r a} (h : Follows o s) : Follows o (loseTransfer r a s) := by
  unfold Machine.loseTransfer
  split
  · exact .pairMismatch h
  · exact .pairMismatch h
  · exact .dite (fun _ => .modGr h) (fun _ => h)
  · split
    · exact .loseRingPacket h
    · exact h
  · exact h

theorem Follows.moveWords {r b lo hi} (h : Follows o s) : Follows o (moveWords r b lo hi s) := by
  unfold Machine.moveWords
  refine .ite (.ite (.writeWords h) (.bump (.raise4 (.modReq h)))) ?_
  extract_lets s1 lost _ _ s2
  have h1 : Follows o s1 := .foldl .readWord h
  have h2 : Follows o s2 := by
    unfold s2
    split
    · exact .frame h1
    · exact .ite h1 (.onlyIf .bump (.frame h1))
    · exact h1
  clear_value lost
  cases lost
  · exact h2
  · exact .loseTransfer h2

theorem Follows.hintFor {r slot} (h : Follows o s) : Follows o (hintFor r slot s) := by
  unfold Machine.hintFor
  extract_lets
  split
  · split
    · exact h
    · exact .bump (.modReq h)
  · exact .onlyIf .bump (.modReq h)

theorem Follows.cutOff {r b} (h : Follows o s) : Follows o (cutOff r b s) := .raiseFirst (.bump (.modReq (.frame h)))

theorem Follows.grant {r b} (h : Follows o s) : Follows o (grant r b s) :=
  .ite (.moveWords (.modReq (.peak h))) (.moveWords (.frame (.modReq (.peak h))))

theorem Follows.scrubAgain {reqs} (h : Follows o s) : Follows o (scrubAgain reqs s) := by
  unfold Machine.scrubAgain
  split
  · dsimp only
    split
    · exact .ite (.frame h) h
    · exact h
  · exact h

theorem Follows.grantSlot {reqs} (h : Follows o s) : Follows o (grantSlot reqs s).1 := by
  unfold Machine.grantSlot
  dsimp only
  split
  · exact .frame h
  · split
    · exact .grant (.bump h)
    · split
      · split
        · exact .grant (.bump h)
        · exact h
      · exact .dite (fun _ => .bump h) (fun _ => h)

theorem Follows.holdOn {r b} (h : Follows o s) : Follows o (holdOn r b s) := .ite (.moveWords (.modReq (.frame (.modReq h)))) (.modReq h)

theorem Follows.iteFst {α : Type} {c : Prop} [Decidable c] {a b : State × α} (ha : Follows o a.1) (hb : Follows o b.1) :
    Follows o (if c then a else b).1 := by split <;> assumption

theorem Follows.cycleGroup {waiting} (h : Follows o s) : Follows o (cycleGroup waiting s) := by
  unfold Machine.cycleGroup
  refine .onlyIf .applyHeld (.frame (.onlyIf .scrubAgain (.foldl (fun k => .ite (.modReq k) (.ite k (.hintFor (.modReq k)))) ?_)))
  dsimp only
  split
  · exact .iteFst (.grantSlot (.cutOff (.frame h))) (.holdOn (.frame h))
  · exact .grantSlot (.frame h)

theorem Ends.execCycleGroupGrant {reqs} (h : Follows o s) : Ends o (execCycleGroupGrant reqs s) := .next (.onlyIf .cycleGroup h)

theorem Ends.execRefreshDue (h : Follows o s) : Ends o (execRefreshDue s) := .next (.frame h)

theorem Follows.roundBoundary (h : Follows o s) : Follows o (roundBoundary s) := by
  unfold Machine.roundBoundary
  extract_lets _ _ s1
  have h1 : Follows o s1 := by
    unfold s1
    split
    · exact .frame h
    · split
      · exact .frame h
      · exact h
  exact .ite (.frame h1) (.foldl (fun h => .ite h (.hintFor (.modReq h))) (.bump (.raise4 (.frame h1))))

theorem Ends.execRoundBoundary (h : Follows o s) : Ends o (execRoundBoundary s) := .next (.onlyIf .roundBoundary h)

theorem Follows.losePage {a} (h : Follows o s) : Follows o (losePage a s) := by
  unfold Machine.losePage
  refine .dite (fun _ => .withPar (fun hp => setSlot_wf _ _ _ _ ?_ hp) (.withMem id h)) (fun _ => .withMem id h)
  obtain ⟨-, -, hi, -⟩ := (Params.wf_iff _).1 hp
  simp only [Option.mem_def, Option.map_eq_some_iff, forall_exists_index, and_imp]
  rintro _ i hs rfl
  exact hi _ i hs

theorem Follows.nandDone {req image r} (h : Follows o s) : Follows o (nandDone req image r s) := by
  unfold Machine.nandDone
  extract_lets s1
  have h1 : Follows o s1 := by
    unfold s1
    split
    · exact .ite (.bump (.withMem id (.bumpBy h))) (.bumpBy h)
    · exact .bump (.raise4 (.losePage h))
    · exact h
  exact .onlyIf .commitEnd h1

theorem Ends.execNandOperationDone {req image r} (h : Follows o s) : Ends o (execNandOperationDone req image r s) := .next (.onlyIf .nandDone h)

/-! Streams -/

theorem Follows.streamTrigger {k samples t} (h : Follows o s) : Follows o (streamTrigger k samples t s) := by
  unfold Machine.streamTrigger
  extract_lets
  split
  · exact .setNow h
  · split
    · exact .modStream (.setNow h)
    · exact .ite (.modStream (.setNow h)) (.ite (.stopStream (.closePacket (.modStream (.setNow h)))) (.closePacket (.modStream (.setNow h))))

theorem Ends.execStreamTrigger {k samples t} (h : Follows o s) : Ends o (execStreamTrigger k samples t s) := .next (.streamTrigger h)

/-! Network -/

theorem Follows.modPort {p f} (h : Follows o s) : Follows o (modPort p f s) := .frame h

theorem Follows.cableResult {p code dist} (h : Follows o s) : Follows o (cableResult p code dist s) := .onlyIf .raise4 (.modPort h)

theorem Follows.linkUp {p gigabit master} (h : Follows o s) : Follows o (linkUp p gigabit master s) :=
  .ite h (.raise4 (.modPort (.ite (.cableResult h) h)))

theorem Ends.execLinkUp {p gigabit master} (h : Follows o s) : Ends o (execLinkUp p gigabit master s) := .next (.linkUp h)

theorem Follows.linkDown {p} (h : Follows o s) : Follows o (linkDown p s) := .ite h (.startCableTest (.bump (.raise4 (.modPort h))))

theorem Ends.execLinkDown {p} (h : Follows o s) : Ends o (execLinkDown p s) := .next (.linkDown h)

theorem Follows.trainingFailed {p only100} (h : Follows o s) : Follows o (trainingFailed p only100 s) :=
  .ite h (.ite (.bump (.raise4 (.modPort (.modPort h)))) (.modPort h))

theorem Ends.execLinkTrainingFailed {p only100} (h : Follows o s) : Ends o (execLinkTrainingFailed p only100 s) := .next (.trainingFailed h)

theorem Ends.execCableTestTimer {p} (h : Follows o s) : Ends o (execCableTestTimer p s) := .next (.onlyIf .startCableTest h)

theorem Ends.execCableTestDone {p code dist} (h : Follows o s) : Ends o (execCableTestDone p code dist s) := .next (.ite (.cableResult h) h)

theorem Follows.learn {p a} (h : Follows o s) : Follows o (learn p a s) := .ite h (.frame h)

theorem Follows.macsecFails {p} (h : Follows o s) : Follows o (macsecFails p s) := .raiseFirst (.bump h)

theorem Follows.frameReceived {p f} (h : Follows o s) : Follows o (frameReceived p f s) := by
  unfold Machine.frameReceived
  split
  · exact h
  · extract_lets _ _ _ s1
    have h1 : Follows o s1 := .onlyIf .send (.learn (.bump h))
    exact .ite (.bump h) (.ite (.bump h) (.ite (.macsecFails (.bump h)) (.ite h1 (.ite (.send h1) (.bump h1)))))

theorem Ends.execFrameReceived {p f} (h : Follows o s) : Ends o (execFrameReceived p f s) := .next (.frameReceived h)

theorem Follows.ageAddress {mac} (h : Follows o s) : Follows o (ageAddress mac s) := by
  unfold Machine.ageAddress
  extract_lets s1
  have h1 : Follows o s1 := by
    unfold s1
    split
    · exact .setNow h
    · exact h
  exact .frame h1

theorem Ends.execAddressAgeing {mac} (h : Follows o s) : Ends o (execAddressAgeing mac s) := .next (.ageAddress h)

theorem Follows.setRing {n} (h : Follows o s) : Follows o (setRing n s) := .raise4 (.send (.send (.frame h)))

theorem Follows.ringTx (h : Follows o s) : Follows o (ringTx s) :=
  .ite h (.ite (.send (.ite (.setRing (.frame h)) (.frame h))) (.ite (.setRing (.frame h)) (.frame h)))

theorem Ends.execRingCheckTx (h : Follows o s) : Ends o (execRingCheckTx s) := .next (.ringTx h)

theorem Follows.ringRx (h : Follows o s) : Follows o (ringRx s) := .ite h (.ite (.setRing (.frame h)) (.frame (.frame h)))

theorem Ends.execRingCheckRx (h : Follows o s) : Ends o (execRingCheckRx s) := .next (.ringRx h)

theorem Ends.execRingFlushRx {p} (h : Follows o s) : Ends o (execRingFlushRx p s) := .next (.ite h (.ite (.send (.frame h)) (.frame h)))

theorem Ends.execTc10WakeRx {p} (h : Follows o s) : Ends o (execTc10WakeRx p s) := .next (.wakeAssert h)

theorem Ends.execMkaChannelChange {p live} (h : Follows o s) : Ends o (execMkaChannelChange p live s) := .next (.ite (.raise4 (.modPort h)) h)

theorem Ends.execLldpTx {p} (h : Follows o s) : Ends o (execLldpTx p s) := .next (.ite h (.send h))

theorem Follows.lldpRx {p tlv} (h : Follows o s) : Follows o (lldpRx p tlv s) := .ite (.notePartner (.onlyIf .send h)) (.onlyIf .send h)

theorem Ends.execLldpRx {p tlv} (h : Follows o s) : Ends o (execLldpRx p tlv s) := .next (.onlyIf .lldpRx h)

/-! NetTime -/

theorem Follows.modDom {d f} (h : Follows o s) : Follows o (modDom d f s) := .frame h

theorem Follows.rebase {t} (h : Follows o s) : Follows o (rebase t s) := .frame h

theorem Follows.stepTime {n} (h : Follows o s) : Follows o (stepTime n s) := .closeEpoch (.raise4 (.frame h))

theorem Follows.takeDomain {old d} (h : Follows o s) : Follows o (takeDomain old d s) :=
  .bump (.raise4 (.frame (.countFreeRun (.modDom (.frame (.ite (.stepTime h) (.frame h)))))))

theorem Follows.holdDomain {d} (h : Follows o s) : Follows o (holdDomain d s) := .ite (.modDom h) (.ite (.raise4 (.modDom h)) h)

theorem Follows.chooseDomain (h : Follows o s) : Follows o (chooseDomain s) := by
  unfold Machine.chooseDomain
  extract_lets _ _ _ _ s1 s2
  have h1 : Follows o s1 := .frame (.holdDomain (.holdDomain h))
  have h2 : Follows o s2 := .ite (.takeDomain (.holdDomain (.holdDomain h))) (.ite (.takeDomain (.holdDomain (.holdDomain h))) (.raise4 (.bump
      (.raise4 h1))))
  exact .ite (.holdDomain (.holdDomain h)) (.ite (.beginWindow h2) (.ite (.endWindow (.frame h2)) h2))

theorem Follows.loseDomain {d cause} (h : Follows o s) : Follows o (loseDomain d cause s) := .ite h (.chooseDomain (.bump (.raise4 (.modDom h))))

theorem Follows.judgeDomain {d} (h : Follows o s) : Follows o (judgeDomain d s) :=
  .ite h (.ite (.chooseDomain (.modDom h)) (.ite (.chooseDomain (.raise4 (.modDom h))) h))

theorem Follows.servo {o'} (h : Follows o s) : Follows o (servo o' s) := .frame h

theorem Follows.syncReceived {d offset t} (h : Follows o s) : Follows o (syncReceived d offset t s) := by
  unfold Machine.syncReceived
  extract_lets _ _ _ s1 s2 _ _ s3
  have h1 : Follows o s1 := .modDom (.bump (.rebase (.setNow h)))
  have h2 : Follows o s2 := .onlyIf (fun h => .loseDomain (.bump h)) h1
  have h3 : Follows o s3 := .ite (.frame (.judgeDomain h2)) (.judgeDomain h2)
  exact .ite (.servo (.peak (.chooseDomain h3))) (.chooseDomain h3)

theorem Ends.execSyncReceived {d offset t} (h : Follows o s) : Ends o (execSyncReceived d offset t s) := .next (.onlyIf .syncReceived h)

theorem Follows.announceReceived {d grandmaster t} (h : Follows o s) : Follows o (announceReceived d grandmaster t s) :=
  .ite (.setNow h) (.judgeDomain (.modDom (.onlyIf .raise4 (.setNow h))))

theorem Ends.execAnnounceReceived {d grandmaster t} (h : Follows o s) : Ends o (execAnnounceReceived d grandmaster t s) :=
  .next (.onlyIf .announceReceived h)

theorem Follows.receiptTimeout {d announce} (h : Follows o s) : Follows o (receiptTimeout d announce s) := .loseDomain (.rebase (.modDom h))

theorem Ends.execPtpReceiptTimeout {d announce} (h : Follows o s) : Ends o (execPtpReceiptTimeout d announce s) := .next (.receiptTimeout h)

/-! CanOps -/

theorem Follows.queueTransport {c peer data} (h : Follows o s) : Follows o (queueTransport c peer data s) := .canQueue h

theorem Follows.isotpStart {c peer} (h : Follows o s) : Follows o (isotpStart c peer s) := by
  unfold Machine.isotpStart
  split
  · exact h
  · exact .ite h (.ite (.queueTransport (.modCan h)) (.queueTransport (.modCan h)))

theorem Follows.isotpEnd {c peer} (h : Follows o s) : Follows o (isotpEnd c peer s) := .isotpStart (.modCan h)

theorem Follows.isotpSend {c peer bytes} (h : Follows o s) : Follows o (isotpSend c peer bytes s) := .ite (.canFailed h) (.isotpStart (.modCan h))

theorem Follows.isotpFail {c cause peer} (h : Follows o s) : Follows o (isotpFail c cause peer s) := .ite (.isotpEnd (.canFailed h)) h

theorem Follows.isotpNext {c peer} (h : Follows o s) : Follows o (isotpNext c peer s) := by
  unfold Machine.isotpNext
  split
  · exact h
  · exact .ite (.isotpEnd (.bump h)) (.ite h (.queueTransport (.modCan h)))

theorem Follows.flowControl {c peer data} (h : Follows o s) : Follows o (flowControl c peer data s) := by
  unfold Machine.flowControl
  split
  · exact h
  · split
    · exact h
    · extract_lets
      split
      · exact .isotpNext (.modCan h)
      · exact .ite (.isotpFail h) (.modCan h)
      · exact .isotpFail h
      · exact .isotpFail h

theorem Follows.canFrameSent {c slot} (h : Follows o s) : Follows o (canFrameSent c slot s) := by
  unfold Machine.canFrameSent
  split
  · exact h
  · split
    · exact h
    · extract_lets _ _ _ s1
      have h1 : Follows o s1 := .ite (.drew (.modCan (.send (.bump (.modCan h))))) (.send (.bump (.modCan h)))
      split
      · exact .ite (.isotpNext h1) h1
      · exact h1

theorem Ends.execCanFrameSent {c slot} (h : Follows o s) : Ends o (execCanFrameSent c slot s) := .next (.canFrameSent h)

theorem Follows.receptionFails {c cause peer} (h : Follows o s) : Follows o (receptionFails c cause peer s) := .ite (.canFailed (.modCan h)) h

theorem Follows.canTxTimeout {c slot} (h : Follows o s) : Follows o (canTxTimeout c slot s) := by
  unfold Machine.canTxTimeout
  split
  · exact h
  · extract_lets
    split
    · exact .ite (.isotpFail (.bump (.modCan (.setNow h)))) (.receptionFails (.bump (.modCan (.setNow h))))
    · exact .bump (.modCan (.setNow h))

theorem Ends.execCanTxTimeout {c slot} (h : Follows o s) : Ends o (execCanTxTimeout c slot s) := .next (.canTxTimeout h)

theorem Ends.execIsotpTimeout {c peer k} (h : Follows o s) : Ends o (execIsotpTimeout c peer k s) := by
  unfold Machine.execIsotpTimeout
  refine .next ?_
  split
  · exact .isotpFail h
  · exact .isotpFail h
  · exact .receptionFails h

/-! Mailbox -/

theorem Follows.sendMail {h' bytes} (h : Follows o s) : Follows o (sendMail h' bytes s) := by
  unfold Machine.sendMail
  split
  · exact .send h
  · exact .isotpSend h
  · exact .isotpSend h

theorem Follows.refuseMail {h' cause expected} (h : Follows o s) : Follows o (refuseMail h' cause expected s) := .sendMail (.raiseFirst h)

theorem Follows.refuseCommand {h' cause expected} (h : Follows o s) : Follows o (refuseCommand h' cause expected s) := .refuseMail (.bump h)

theorem Follows.acceptCommand {q w} (h : Follows o s) : Follows o (acceptCommand q w s) := .bump (.modCmd h)

theorem Follows.resubmitted {h' q last seq} (h : Follows o s) : Follows o (resubmitted h' q last seq s) := by
  unfold Machine.resubmitted
  split
  · split
    · exact .bump h
    · split
      · exact .ite (.bump (.pushEntry h)) (.refuseCommand (.modCmd h))
      · exact .refuseCommand h
  · exact .refuseCommand h

theorem Follows.mailCommand {x body} (h : Follows o s) : Follows o (mailCommand x body s) := by
  unfold Machine.mailCommand
  split
  · exact .refuseCommand h
  · refine .ite (.refuseCommand h) (.ite (.refuseCommand h) ?_)
    dsimp only
    split
    · exact .ite (.resubmitted h) (.ite (.acceptCommand h) (.refuseCommand (.modCmd h)))
    · exact .ite (.acceptCommand h) (.refuseCommand (.modCmd h))

theorem Ends.execMailboxCommand {h' body} (h : Follows o s) : Ends o (execMailboxCommand h' body s) := .next (.ite (.mailCommand h) h)

theorem Follows.releaseTo {q n} (h : Follows o s) : Follows o (releaseTo q n s) :=
  .dite (fun _ => .drainRing (.modStream (.modOut h))) (fun _ => .ite (.settleLost (.modOut h)) (.modOut h))

theorem Follows.retainedCopy {q k} (h : Follows o s) : Follows o (parityDrop.retainedCopy q k s) := by
  unfold Machine.parityDrop.retainedCopy
  split
  · split
    · split
      · exact .modOut h
      · exact h
    · exact h
  · exact h

theorem Follows.parityDrop {q bad} (h : Follows o s) : Follows o (parityDrop q bad s) := by
  unfold Machine.parityDrop
  split
  · exact h
  · split
    · exact .foldl .retainedCopy h
    · exact .ite h (.dite (fun _ => .raise4 (.modStream (.bumpBy (.modOut h)))) (fun _ => .settleLost (.modOut (.bumpBy (.modOut h)))))

theorem Follows.sendData {x index acc l} (h : Follows o s) : Follows o (sendData x index acc l s) := by
  induction l generalizing index acc s with
  | nil => exact .sendMail h
  | cons e t ih =>
    cases e with
    | dropped => exact ih h
    | _ => exact .ite (ih (.sendMail h)) (ih h)

theorem Follows.mailFetch {h' body bad} (h : Follows o s) : Follows o (mailFetch h' body bad s) :=
  .dite (fun _ => .ite (.refuseMail h) (.ite (.refuseMail h) (.ite (.refuseMail h) (.sendData (.parityDrop (.releaseTo h)))))) (fun _ =>
      .refuseMail h)

theorem Ends.execMailboxFetch {h' body parityBad} (h : Follows o s) : Ends o (execMailboxFetch h' body parityBad s) := .next (.ite (.mailFetch h) h)

theorem Ends.execNotifyHoldoffExpiry {q} (h : Follows o s) : Ends o (execNotifyHoldoffExpiry q s) := .next (.ite (.notifyNow (.setNow h)) h)

theorem Ends.execNotifyRepeatExpiry {q} (h : Follows o s) : Ends o (execNotifyRepeatExpiry q s) := .next (.ite (.notifyNow (.setNow h)) h)

theorem Follows.deliverMail {c peer bytes} (h : Follows o s) : Follows o (deliverMail c peer bytes s) :=
  .ite (.ite (.refuseCommand (.bump h)) (.refuseMail (.bump h))) (.ite (.mailCommand (.bump h)) (.ite (.mailFetch (.bump h)) (.refuseMail (.bump h))))

/-! CanRx -/

theorem Follows.sendFlow {c peer status} (h : Follows o s) : Follows o (sendFlow c peer status s) := .ite (.queueTransport h) h

theorem Follows.singleFrame {c peer d} (h : Follows o s) : Follows o (singleFrame c peer d s) :=
  .ite (.ite (.deliverMail (.receptionFails h)) h) (.ite (.deliverMail (.receptionFails h)) h)

theorem Follows.firstFrame {c peer d} (h : Follows o s) : Follows o (firstFrame c peer d s) :=
  .ite h (.ite (.canFailed (.sendFlow (.receptionFails h))) (.sendFlow (.modCan (.receptionFails h))))

theorem Follows.consecutiveFrame {c peer d} (h : Follows o s) : Follows o (consecutiveFrame c peer d s) := by
  unfold Machine.consecutiveFrame
  split
  · exact h
  · exact .ite (.receptionFails h) (.ite (.deliverMail (.modCan h)) (.ite (.sendFlow (.modCan h)) (.modCan h)))

theorem Follows.transportFrame {c peer d} (h : Follows o s) : Follows o (transportFrame c peer d s) := by
  unfold Machine.transportFrame
  split
  · exact h
  · split
    · exact .singleFrame h
    · exact .firstFrame h
    · exact .consecutiveFrame h
    · exact .flowControl h
    · exact h

theorem Follows.claimHeard {c source name} (h : Follows o s) : Follows o (claimHeard c source name s) := by
  unfold Machine.claimHeard
  split
  · exact h
  · extract_lets _ _ _ _ s1
    have h1 : Follows o s1 := .canFailAll (.modCan (.modCan h))
    split
    · exact .ite (.claimNext (.modCan h)) (.canQueue (.frame (.modCan h)))
    · exact .ite (.ite (.beginClaim (.raise4 h1)) (.canQueue (.frame (.modCan h)))) (.modCan h)

theorem Follows.claimRequested {c d} (h : Follows o s) : Follows o (claimRequested c d s) := .ite (.canQueue h) h

theorem Follows.claimTimer {c} (h : Follows o s) : Follows o (claimTimer c s) := by
  unfold Machine.claimTimer
  split
  · exact .raise4 (.modCan h)
  · exact h

theorem Ends.execAddressClaimTimer {c} (h : Follows o s) : Ends o (execAddressClaimTimer c s) := .next (.claimTimer h)

theorem Follows.serveFrame {c f} (h : Follows o s) : Follows o (serveFrame c f s) := by
  unfold Machine.serveFrame
  split
  · exact .transportFrame h
  · split
    · exact .announceRx h
    · exact h
  · split
    · exact .scheduleRx h
    · exact h
  · exact .claimHeard h
  · exact .claimRequested h
  · exact .raise4 h
  · exact h

theorem Follows.storeFrame {c f} (h : Follows o s) : Follows o (storeFrame c f s) := by
  unfold Machine.storeFrame
  extract_lets
  split
  · exact h
  · exact .ite (.modCan (.bump h)) (.receptionFails (.raiseFirst (.bump (.bump h))))
  · exact .ite (.modCan (.bump h)) (.raiseFirst (.bump (.bump h)))

theorem Follows.serveCan {c} (h : Follows o s) : Follows o (serveCan c s) :=
  .ite h (.foldl .serveFrame (.modCan (.foldl .serveFrame (.modCan h))))

theorem Follows.canReceived {c f} (h : Follows o s) : Follows o (canReceived c f s) := .ite h (.ite (.bump h) (.serveCan (.storeFrame h)))

theorem Ends.execCanFrameReceived {c f} (h : Follows o s) : Ends o (execCanFrameReceived c f s) := .next (.canReceived h)

theorem Ends.execBootComplete (h : Follows o s) : Ends o (execBootComplete s) := .next (.serveCan (.serveCan (.bootDone h)))

theorem Follows.busOff {c} (h : Follows o s) : Follows o (busOff c s) := by
  unfold Machine.busOff
  extract_lets _ s1
  have h1 : Follows o s1 := .canFailAll (.bump (.raise4 h))
  exact .ite (.raise4 (.modCan (.modCan h1))) (.modCan h1)

theorem Follows.errorStateChange {c tec rec} (h : Follows o s) : Follows o (errorStateChange c tec rec s) := by
  unfold Machine.errorStateChange
  extract_lets old new s1 who
  have h1 : Follows o s1 := .modCan h
  clear_value new s1
  refine .ite h (.ite h1 ?_)
  split
  · exact .ite (.raise4 h1) h1
  · exact .bump (.raise4 h1)
  · exact .busOff h1
  · exact .raise4 h1

theorem Ends.execCanErrorStateChange {c tec rec} (h : Follows o s) : Ends o (execCanErrorStateChange c tec rec s) := .next (.errorStateChange h)

theorem Ends.execBusOffRecoveryDelay {c} (h : Follows o s) : Ends o (execBusOffRecoveryDelay c s) := .next (.ite (.modCan (.setNow h)) h)

theorem Ends.execBusOffRecovered {c} (h : Follows o s) : Ends o (execBusOffRecovered c s) := .next (.ite (.raise4 (.modCan h)) h)

/-! SelfTest -/

theorem Follows.modInst {k n f} (h : Follows o s) : Follows o (modInst k n f s) := .dite (fun _ => .frame h) (fun _ => h)

theorem Follows.beginSlice {k n} (h : Follows o s) : Follows o (beginSlice k n s) := .frame h

theorem Follows.sliceStart {k n} (h : Follows o s) : Follows o (sliceStart k n s) := .ite h (.ite (.raiseFirst (.bump h)) (.bump (.beginSlice h)))

theorem Ends.execSelftestSliceStart {kind inst} (h : Follows o s) : Ends o (execSelftestSliceStart kind inst s) := .next (.sliceStart h)

theorem Follows.testFailed {k n} (h : Follows o s) : Follows o (testFailed k n s) := by
  unfold Machine.testFailed
  split
  · exact .dite (fun _ => .confirmInvalid h) (fun _ => h)
  · split
    · exact .reactInputs h
    · exact .ite (.frame h) (.ite (.dite (fun _ => .modPair h) (fun _ => h)) (.dite (fun _ => .ite (.latchPos h) (.ite (.modPos h) h)) (fun _ => h)))

theorem Follows.replicaPassed {p} (h : Follows o s) : Follows o (replicaPassed p s) :=
  .ite (.modPair h) (.settlePairs (.endWindow (.raise4 (.modPair h))))

theorem Follows.noteRequests {k n pass value} (h : Follows o s) : Follows o (noteRequests k n pass value s) :=
  .foldl .complete (.frame h)

theorem Follows.instanceDone {k n pass measured} (h : Follows o s) : Follows o (instanceDone k n pass measured s) := by
  unfold Machine.instanceDone
  extract_lets _ _ _ s1 s2
  have h1 : Follows o s1 := .ite (.bump (.modInst h)) (.testFailed (.bump (.raise (.modInst h))))
  have h2 : Follows o s2 := .dite (fun _ => .ite (.replicaPassed h1) h1) (fun _ => h1)
  exact .noteRequests h2

theorem Follows.sliceEnd {k n pass value} (h : Follows o s) : Follows o (sliceEnd k n pass value s) :=
  .ite h (.ite (.instanceDone (.modInst (.frame h))) (.modInst (.frame h)))

theorem Ends.execSelftestSliceEnd {kind inst pass value} (h : Follows o s) : Ends o (execSelftestSliceEnd kind inst pass value s) :=
  .next (.sliceEnd h)

theorem Follows.instanceInterval {k n} (h : Follows o s) : Follows o (instanceInterval k n s) :=
  .dite (fun _ => .ite (.bump (.raise (.modInst h))) (.modInst h)) (fun _ => h)

theorem Follows.intervalEnds {k} (h : Follows o s) : Follows o (intervalEnds k s) :=
  .ite h (.ite (.foldl .instanceInterval (.frame h)) (.frame h))

theorem Ends.execSelftestInterval {kind} (h : Follows o s) : Ends o (execSelftestInterval kind s) := .next (.intervalEnds h)

theorem Follows.selftestRequest {e r} (h : Follows o s) : Follows o (selftestRequest e r s) := by
  unfold Machine.selftestRequest
  extract_lets
  split
  · exact .refuse h
  · exact .ite (.refuse h) (.ite (.refuse h) (.ite (.complete (.bump (.drew h))) (.frame (s := Machine.drew s) (.drew h))))

theorem Ends.execSelftestRequest {e} (h : Follows o s) : Ends o (execSelftestRequest e s) := .next (.command .selftestRequest h)

theorem Follows.dropInstance {k n} (h : Follows o s) : Follows o (dropInstance k n s) := .ite h (.modInst (.frame h))

theorem Follows.testDeadline {code} (h : Follows o s) : Follows o (testDeadline code s) := by
  unfold Machine.testDeadline
  split
  · exact .complete (.bump (.foldl .dropInstance (.setNow (.frame h))))
  · exact h

theorem Ends.execSelftestDeadline {test} (h : Follows o s) : Ends o (execSelftestDeadline test s) := .next (.testDeadline h)

/-! Inject -/

theorem Follows.dropArm (h : Follows o s) : Follows o (dropArm s) := by
  unfold Machine.dropArm
  split
  · exact .raise4 (.frame h)
  · exact h

theorem Follows.injectArm {e r} (h : Follows o s) : Follows o (injectArm e r s) :=
  .ite (.refuse h) (.ite (.refuse (.drew (.frame h))) (.finish (.bump (.raise4 (.frame (.dropArm (.drew (.frame h))))))))

theorem Ends.execInjectArm {e} (h : Follows o s) : Ends o (execInjectArm e s) := .next (.command .injectArm h)

theorem Follows.injectMotion {g} (h : Follows o s) : Follows o (injectMotion g s) :=
  .ite (.slsReaction h) (.ite (.safetyReaction (.bump (.raiseG h))) (.ite (.safetyReaction (.bump (.raiseG h))) h))

theorem Follows.injectDram {double} (h : Follows o s) : Follows o (injectDram double s) :=
  .ite (.bump (.raise4 (.drew h))) (.injectionCount (.bump h))

theorem Follows.injectPoint {p} (h : Follows o s) : Follows o (injectPoint p s) := by
  unfold Machine.injectPoint
  dsimp only
  split
  · exact .frame h
  · exact .frame h
  · exact .frame h
  · exact .frame h
  · exact .frame h
  · exact .dite (fun _ => .railUndervoltage h) (fun _ => h)
  · exact .ite (.injectionCount (.bump h)) h
  · exact .dite (fun _ => .classBTrip h) (fun _ => h)
  · exact .dite (fun _ => .confirmCause h) (fun _ => h)
  · exact .dite (fun _ => .lostRotor h) (fun _ => h)
  · exact .dite (fun _ => .pairMismatch h) (fun _ => h)
  · exact .dite (fun _ => .pairWatchdog h) (fun _ => h)
  · exact .channelDisagreement h
  · exact .frame (.stoInput h)
  · exact .injectDram h
  · exact .dite (fun _ => .injectMotion h) (fun _ => h)
  · exact .dite (fun _ => .overTemperature h) (fun _ => h)
  · exact .dite (fun _ => .cloveTrip h) (fun _ => h)
  · exact h

theorem Follows.injectFire {e r} (h : Follows o s) : Follows o (injectFire e r s) :=
  .ite (.refuse h) (.injectPoint (.finish (.frame (.bump (.raise4 (.frame h))))))

theorem Ends.execInjectFire {e} (h : Follows o s) : Ends o (execInjectFire e s) := .next (.command .injectFire h)

theorem Ends.execInjectArmExpiry (h : Follows o s) : Ends o (execInjectArmExpiry s) := by
  unfold Machine.execInjectArmExpiry
  refine .next ?_
  split
  · exact .dropArm (.setNow h)
  · exact h

theorem Follows.observationEnd (h : Follows o s) : Follows o (observationEnd s) := by
  unfold Machine.observationEnd
  split
  · exact .bump (.raise4 (.setNow (.frame h)))
  · exact h

theorem Ends.execInjectObservationExpiry (h : Follows o s) : Ends o (execInjectObservationExpiry s) := .next (.observationEnd h)

/-! Take -/

theorem Ends.served {code e} (h : Follows o s) : Ends o (served code e s) := by
  unfold Machine.served
  split
  · exact .execDriveArm h
  · exact .execDriveDisarm h
  · exact .execDriveSleep h
  · exact .execDriveReset h
  · exact .execTorqueSet h
  · exact .execBridgeEnable h
  · exact .execBridgeDisable h
  · exact .execCatchStart h
  · exact .execPositionSet h
  · exact .execSs1Request h
  · exact .execSafetySelect h
  · exact .execFaultClear h
  · exact .execDebugFlagClear h
  · exact .execPairSplit h
  · exact .execPairRejoin h
  · exact .execInjectArm h
  · exact .execInjectFire h
  · exact .execFirmwareActivate h
  · exact .execParamRead h
  · exact .execParamWrite h
  · exact .execParamCommit h
  · split
    · exact .execParamUploadBegin h
    · exact .execParamUploadChunk h
    · exact .execParamUploadEnd h
    · exact .execParamUploadAbort h
    · exact .next (.runCommand (fun h => h) h)
  · exact .execAtlasIdentify h
  · exact .execAtlasCheckpoint h
  · exact .execAtlasClear h
  · split
    · exact .execAtlasUploadBegin h
    · exact .execAtlasUploadChunk h
    · exact .execAtlasUploadEnd h
    · exact .execAtlasUploadAbort h
    · exact .next (.runCommand (fun h => h) h)
  · exact .execAtlasExport h
  · exact .execSelftestRequest h
  · exact .execStreamStart h
  · exact .execStreamStop h
  · exact .execStreamFlush h
  · split
    · exact .execFirmwareUploadBegin h
    · exact .execFirmwareUploadChunk h
    · exact .execFirmwareUploadEnd h
    · exact .execFirmwareUploadAbort h
    · exact .next (.runCommand (fun h => h) h)
  · exact .next (.refuse h)

theorem Follows.settleRoom {q} (h : Follows o s) : Follows o (settleRoom q s) := .ite (.notifyNow (.modCmd h)) h

theorem Follows.takeCommand {q w} (h : Follows o s) : Follows o (takeCommand q w s) := .settleRoom (.frame (.modCmd h))

theorem Ends.execCommandDispatch (h : Follows o s) : Ends o (execCommandDispatch s) := by
  unfold Machine.execCommandDispatch
  split
  · exact .next h
  · split
    · exact .next h
    · split
      · exact .served (.takeCommand h)
      · exact .next h

/-! Every command, and every step -/

/-- What a command answers follows the state it runs on. -/
theorem exec_follows (c : Instr) (s : State) : Ends s (exec c s) := by
  have h := Follows.refl s
  cases c with
  | driveArm => exact .execDriveArm h
  | driveDisarm => exact .execDriveDisarm h
  | driveSleep => exact .execDriveSleep h
  | driveReset => exact .execDriveReset h
  | torqueSet => exact .execTorqueSet h
  | bridgeEnable => exact .execBridgeEnable h
  | bridgeDisable => exact .execBridgeDisable h
  | catchStart => exact .execCatchStart h
  | positionSet => exact .execPositionSet h
  | ss1Request => exact .execSs1Request h
  | safetySelect => exact .execSafetySelect h
  | faultClear => exact .execFaultClear h
  | debugFlagClear => exact .execDebugFlagClear h
  | pairSplit => exact .execPairSplit h
  | pairRejoin => exact .execPairRejoin h
  | injectArm => exact .execInjectArm h
  | injectFire => exact .execInjectFire h
  | firmwareActivate => exact .execFirmwareActivate h
  | paramRead => exact .execParamRead h
  | paramWrite => exact .execParamWrite h
  | paramCommit => exact .execParamCommit h
  | paramUploadBegin => exact .execParamUploadBegin h
  | paramUploadChunk => exact .execParamUploadChunk h
  | paramUploadEnd => exact .execParamUploadEnd h
  | paramUploadAbort => exact .execParamUploadAbort h
  | atlasUploadBegin => exact .execAtlasUploadBegin h
  | atlasUploadChunk => exact .execAtlasUploadChunk h
  | atlasUploadEnd => exact .execAtlasUploadEnd h
  | atlasUploadAbort => exact .execAtlasUploadAbort h
  | firmwareUploadBegin => exact .execFirmwareUploadBegin h
  | firmwareUploadChunk => exact .execFirmwareUploadChunk h
  | firmwareUploadEnd => exact .execFirmwareUploadEnd h
  | firmwareUploadAbort => exact .execFirmwareUploadAbort h
  | atlasIdentify => exact .execAtlasIdentify h
  | atlasCheckpoint => exact .execAtlasCheckpoint h
  | atlasClear => exact .execAtlasClear h
  | atlasExport => exact .execAtlasExport h
  | selftestRequest => exact .execSelftestRequest h
  | streamStart => exact .execStreamStart h
  | streamStop => exact .execStreamStop h
  | streamFlush => exact .execStreamFlush h
  | faultRecordClear => exact .execFaultRecordClear h
  | transferIdleTimeout => exact .execTransferIdleTimeout h
  | hostResetDelayExpiry => exact .execHostResetDelayExpiry h
  | mailboxCommand => exact .execMailboxCommand h
  | mailboxFetch => exact .execMailboxFetch h
  | commandDispatch => exact .execCommandDispatch h
  | notifyHoldoffExpiry => exact .execNotifyHoldoffExpiry h
  | notifyRepeatExpiry => exact .execNotifyRepeatExpiry h
  | sampleInstant => exact .execSampleInstant h
  | fastConversionComplete => exact .execFastConversionComplete h
  | shuntWindowSample => exact .execShuntWindowSample h
  | controlStep => exact .execControlStep h
  | atlasLookupResult => exact .execAtlasLookupResult h
  | atlasResultTimeout => exact .execAtlasResultTimeout h
  | shortBrakeExit => exact .execShortBrakeExit h
  | carrierValley => exact .execCarrierValley h
  | carrierReload => exact .execCarrierReload h
  | compareMatch => exact .execCompareMatch h
  | offsetScheduleTime => exact .execOffsetScheduleTime h
  | classAInput => exact .execClassAInput h
  | ascDelayExpiry => exact .execAscDelayExpiry h
  | classBTrip => exact .execClassBTrip h
  | islandLinkTimeout => exact .execIslandLinkTimeout h
  | islandLinkReturn => exact .execIslandLinkReturn h
  | partnerLinkTimeout => exact .execPartnerLinkTimeout h
  | islandRailUndervoltage => exact .execIslandRailUndervoltage h
  | islandRailReady => exact .execIslandRailReady h
  | bootstrapPrimePulse => exact .execBootstrapPrimePulse h
  | edgeMeasured => exact .execEdgeMeasured h
  | shortCircuitDetection => exact .execShortCircuitDetection h
  | shortDetectionReport => exact .execShortDetectionReport h
  | softTurnOffStage2 => exact .execSoftTurnOffStage2 h
  | softTurnOffEnd => exact .execSoftTurnOffEnd h
  | retryWaitExpiry => exact .execRetryWaitExpiry h
  | crossCheckRelease => exact .execCrossCheckRelease h
  | crossCheckCancel => exact .execCrossCheckCancel h
  | offsetMeasurementDone => exact .execOffsetMeasurementDone h
  | legVoltagePeriod => exact .execLegVoltagePeriod h
  | zeroCrossing => exact .execZeroCrossing h
  | zeroCrossingTimeout => exact .execZeroCrossingTimeout h
  | housekeepingRoundStart => exact .execHousekeepingRoundStart h
  | housekeepingRoundComplete => exact .execHousekeepingRoundComplete h
  | housekeepingRoundTimeout => exact .execHousekeepingRoundTimeout h
  | messageInputTimeout => exact .execMessageInputTimeout h
  | digitalInputTimeout => exact .execDigitalInputTimeout h
  | interfaceCauseConfirmed => exact .execInterfaceCauseConfirmed h
  | interfaceValidAgain => exact .execInterfaceValidAgain h
  | resolverExcitationPeak => exact .execResolverExcitationPeak h
  | encoderEdge => exact .execEncoderEdge h
  | hallCodeChange => exact .execHallCodeChange h
  | sspFrameRequest => exact .execSspFrameRequest h
  | sspFrameComplete => exact .execSspFrameComplete h
  | captureEdge => exact .execCaptureEdge h
  | speedStandstillTimeout => exact .execSpeedStandstillTimeout h
  | cellRepair => exact .execCellRepair h
  | learningUpdate => exact .execLearningUpdate h
  | mtpaRebuildDone => exact .execMtpaRebuildDone h
  | identificationStepEnd => exact .execIdentificationStepEnd h
  | checkpointComplete => exact .execCheckpointComplete h
  | atlasLoad => exact .execAtlasLoad h
  | reacqSettleExpiry => exact .execReacqSettleExpiry h
  | acquisitionWindowEnd => exact .execAcquisitionWindowEnd h
  | acquisitionTimeout => exact .execAcquisitionTimeout h
  | resumeHoldExpiry => exact .execResumeHoldExpiry h
  | placementResult => exact .execPlacementResult h
  | interleaveAnnouncementTx => exact .execInterleaveAnnouncementTx h
  | interleaveAnnouncementRx => exact .execInterleaveAnnouncementRx h
  | offsetScheduleRx => exact .execOffsetScheduleRx h
  | partnerTimeout => exact .execPartnerTimeout h
  | listenMinimumExpiry => exact .execListenMinimumExpiry h
  | listenCeilingExpiry => exact .execListenCeilingExpiry h
  | rectificationDetected => exact .execRectificationDetected h
  | saliencySearchTimeout => exact .execSaliencySearchTimeout h
  | chargeLimitExpiry => exact .execChargeLimitExpiry h
  | disableRampEnd => exact .execDisableRampEnd h
  | safeOffToAsc => exact .execSafeOffToAsc h
  | ascToOff => exact .execAscToOff h
  | coilPullInExpiry => exact .execCoilPullInExpiry h
  | weldTestExpiry => exact .execWeldTestExpiry h
  | prechargeComplete => exact .execPrechargeComplete h
  | prechargeTimeout => exact .execPrechargeTimeout h
  | mirrorContactChange => exact .execMirrorContactChange h
  | prechargeOverlapExpiry => exact .execPrechargeOverlapExpiry h
  | contactorOpenCo1 => exact .execContactorOpenCo1 h
  | contactorOpenCo2 => exact .execContactorOpenCo2 h
  | weldCheckExpiry => exact .execWeldCheckExpiry h
  | dischargeFallTestExpiry => exact .execDischargeFallTestExpiry h
  | dischargeComplete => exact .execDischargeComplete h
  | dischargeTimeout => exact .execDischargeTimeout h
  | stoInputChange => exact .execStoInputChange h
  | stoDiscrepancy => exact .execStoDiscrepancy h
  | ss1EnvelopeViolation => exact .execSs1EnvelopeViolation h
  | ss1Timeout => exact .execSs1Timeout h
  | standstillConfirmed => exact .execStandstillConfirmed h
  | slsViolation => exact .execSlsViolation h
  | slpViolation => exact .execSlpViolation h
  | cloveOverspeed => exact .execCloveOverspeed h
  | cloveSpeedDisagreement => exact .execCloveSpeedDisagreement h
  | torqueMonitorRun => exact .execTorqueMonitorRun h
  | clovePowerCheck => exact .execClovePowerCheck h
  | brakeReleaseExpiry => exact .execBrakeReleaseExpiry h
  | brakeFeedbackChange => exact .execBrakeFeedbackChange h
  | brakeFeedbackTimeout => exact .execBrakeFeedbackTimeout h
  | brakeCloseExpiry => exact .execBrakeCloseExpiry h
  | sumacWindowExpiry => exact .execSumacWindowExpiry h
  | cloveChannelDisagreement => exact .execCloveChannelDisagreement h
  | ascLegFailure => exact .execAscLegFailure h
  | pairWatchdogExpiry => exact .execPairWatchdogExpiry h
  | cloveResetRequest => exact .execCloveResetRequest h
  | lockstepMismatch => exact .execLockstepMismatch h
  | pairResetRelease => exact .execPairResetRelease h
  | comparatorTestDone => exact .execComparatorTestDone h
  | cacheUncorrectable => exact .execCacheUncorrectable h
  | debugAttach => exact .execDebugAttach h
  | debugDetach => exact .execDebugDetach h
  | benchLimitExceeded => exact .execBenchLimitExceeded h
  | cloveStartupTestDone => exact .execCloveStartupTestDone h
  | testAgeReached => exact .execTestAgeReached h
  | referenceOscDeparted => exact .execReferenceOscDeparted h
  | heartbeatMissed => exact .execHeartbeatMissed h
  | dcLinkOvervoltage => exact .execDcLinkOvervoltage h
  | coilSupplyLoss => exact .execCoilSupplyLoss h
  | portPowerLoss => exact .execPortPowerLoss h
  | portPowerRestore => exact .execPortPowerRestore h
  | podlClassification => exact .execPodlClassification h
  | auxConverterStart => exact .execAuxConverterStart h
  | auxConverterStop => exact .execAuxConverterStop h
  | hvPresentChange => exact .execHvPresentChange h
  | inputOverBudget => exact .execInputOverBudget h
  | busCollapse => exact .execBusCollapse h
  | busSupplyLost => exact .execBusSupplyLost h
  | domainRailFault => exact .execDomainRailFault h
  | pllLockLoss => exact .execPllLockLoss h
  | wakeSourceAssert => exact .execWakeSourceAssert h
  | domainReady => exact .execDomainReady h
  | tc10SleepRequest => exact .execTc10SleepRequest h
  | sleepQueueWaitExpiry => exact .execSleepQueueWaitExpiry h
  | thermalUpdate => exact .execThermalUpdate h
  | thermalUpdateLate => exact .execThermalUpdateLate h
  | dieSensorRead => exact .execDieSensorRead h
  | dieCritical => exact .execDieCritical h
  | cycleGroupGrant => exact .execCycleGroupGrant h
  | refreshDue => exact .execRefreshDue h
  | nandOperationDone => exact .execNandOperationDone h
  | roundBoundary => exact .execRoundBoundary h
  | streamTrigger => exact .execStreamTrigger h
  | linkUp => exact .execLinkUp h
  | linkDown => exact .execLinkDown h
  | linkTrainingFailed => exact .execLinkTrainingFailed h
  | cableTestTimer => exact .execCableTestTimer h
  | cableTestDone => exact .execCableTestDone h
  | frameReceived => exact .execFrameReceived h
  | addressAgeing => exact .execAddressAgeing h
  | ringCheckTx => exact .execRingCheckTx h
  | ringCheckRx => exact .execRingCheckRx h
  | ringFlushRx => exact .execRingFlushRx h
  | tc10WakeRx => exact .execTc10WakeRx h
  | mkaChannelChange => exact .execMkaChannelChange h
  | lldpTx => exact .execLldpTx h
  | lldpRx => exact .execLldpRx h
  | syncReceived => exact .execSyncReceived h
  | announceReceived => exact .execAnnounceReceived h
  | ptpReceiptTimeout => exact .execPtpReceiptTimeout h
  | canFrameReceived => exact .execCanFrameReceived h
  | canTxTimeout => exact .execCanTxTimeout h
  | canErrorStateChange => exact .execCanErrorStateChange h
  | busOffRecoveryDelay => exact .execBusOffRecoveryDelay h
  | busOffRecovered => exact .execBusOffRecovered h
  | addressClaimTimer => exact .execAddressClaimTimer h
  | isotpTimeout => exact .execIsotpTimeout h
  | selftestInterval => exact .execSelftestInterval h
  | selftestSliceStart => exact .execSelftestSliceStart h
  | selftestSliceEnd => exact .execSelftestSliceEnd h
  | selftestDeadline => exact .execSelftestDeadline h
  | injectArmExpiry => exact .execInjectArmExpiry h
  | injectObservationExpiry => exact .execInjectObservationExpiry h
  | epochBoundary => exact .execEpochBoundary h
  | powerOnReset => exact .execPowerOnReset h
  | keepAliveLoss => exact .execKeepAliveLoss h
  | pelaleWatchdogExpiry => exact .execPelaleWatchdogExpiry h
  | servicePinRelease => exact .execServicePinRelease h
  | bootComplete => exact .execBootComplete h
  | alternateSlotCheckDone => exact .execAlternateSlotCheckDone h
  | firmwareConfirmationTimer => exact .execFirmwareConfirmationTimer h
  | pllLockRegained => exact .execPllLockRegained h
  | slsDecelerationTimeout => exact .execSlsDecelerationTimeout h
  | cloveSpeedTimeout => exact .execCloveSpeedTimeout h
  | servicePinAssert => exact .execServicePinAssert h
  | canFrameSent => exact .execCanFrameSent h

/-- A step pops the front command and runs it; the rest of the queue stays. -/
theorem step_follows {s t : State} (h : step s = .next t) : Follows { s with pending := s.pending.tail } t := by
  unfold step at h
  cases hp : s.pending with
  | nil =>
    rw [hp] at h
    cases h
    rw [List.tail_nil, ← hp]
    exact .refl s
  | cons c rest =>
    rw [hp] at h
    exact exec_follows c _ t h

end

/-- Settles O53: the queue is no part of what the form of the objects speaks of. -/
theorem stepKeepsObjectsCanonical : Obligations.StepKeepsObjectsCanonical := by
  unfold Obligations.StepKeepsObjectsCanonical
  intro s t hw h
  exact (step_follows h).par hw

/-- Settles O55. -/
theorem commandsLeaveTheQueueAndTheClock : Obligations.CommandsLeaveTheQueueAndTheClock := by
  unfold Obligations.CommandsLeaveTheQueueAndTheClock
  intro c s t h
  have f := exec_follows c s t h
  exact ⟨f.pending, f.now, f.freeCount⟩

end Sys2Proof.Machine
end

section
/-! PROOFS. The rows of the carriers (O21). With no injection to come an edge of a leg is a turn-off and a turn-on, so what a valley and a reload do
after the carrier's own transition stays within their bridge: `EdgesOf` names what it may change, one lemma per operation, and each row is its
transition followed by edges. -/

namespace Sys2Proof.Machine

/-! Positions, legs and bridges -/

@[simp] theorem br_modBr_self (b : BridgeId) (f : Bridge → Bridge) (s : State) : (modBr b f s).br[b] = f s.br[b] := by simp

theorem br_modBr_ne {b c : BridgeId} (f : Bridge → Bridge) (s : State) (h : c ≠ b) : (modBr b f s).br[c] = s.br[c] := by
  have : (b : Nat) ≠ c := fun e => h (Fin.ext e.symm)
  simp [this]

@[simp] theorem brOfLeg_legOf (b : BridgeId) (k : Fin 3) : brOfLeg (legOf b k) = b := by simp only [brOfLeg, legOf, Fin.ext_iff]; omega

@[simp] theorem brOfPos_posOf (b : BridgeId) (k : Fin 6) : brOfPos (posOf b k) = b := by simp only [brOfPos, posOf, Fin.ext_iff]; omega

@[simp] theorem brOfPos_posOfLeg (l : LegId) (high : Bool) : brOfPos (posOfLeg l high) = brOfLeg l := by
  simp only [brOfPos, posOfLeg, brOfLeg, Fin.ext_iff]; split <;> omega

/-- What each of the bridges becomes when every one is updated by its own function. -/
theorem br_forBr_modBr (f : BridgeId → Bridge → Bridge) (s : State) (c : BridgeId) :
    (forBr allBr (fun d => modBr d (f d)) s).br[c] = f c s.br[c] := by
  have none_of (bs : List BridgeId) (hc : c ∉ bs) (u : State) : (forBr bs (fun d => modBr d (f d)) u).br[c] = u.br[c] := by
    induction bs generalizing u with
    | nil => rfl
    | cons d t ih =>
      rw [List.mem_cons, not_or] at hc
      exact (ih hc.2 _).trans (br_modBr_ne _ u hc.1)
  have once (bs : List BridgeId) (hn : bs.Nodup) (hc : c ∈ bs) (u : State) :
      (forBr bs (fun d => modBr d (f d)) u).br[c] = f c u.br[c] := by
    induction bs generalizing u with
    | nil => cases hc
    | cons d t ih =>
      obtain ⟨hd, ht⟩ := List.nodup_cons.1 hn
      rcases List.mem_cons.1 hc with rfl | hc
      · exact (none_of t hd _).trans (br_modBr_self ..)
      · exact (ih ht hc _).trans (congrArg (f c) (br_modBr_ne _ u fun e => hd (e ▸ hc)))
  exact once allBr (List.nodup_finRange 4) (List.mem_finRange c) s

/-! Reports leave the injections as they are -/


theorem onlyIf_test (c : Bool) (f : State → State) (s : State) (h : ∀ u, (f u).test = u.test) : (onlyIf c f s).test = s.test := by
  cases c
  · rfl
  · exact h s

theorem send_test (m : Msg) (s : State) : (send m s).test = s.test := by
  have sent : ∀ (p : PortId) (u : State), (sentOn p u).test = u.test := fun _ _ => rfl
  have both : ∀ (c d : Bool) (u : State), (onlyIf c (sentOn 1) (onlyIf d (sentOn 0) u)).test = u.test := fun c d u =>
    (onlyIf_test c _ _ (sent 1)).trans (onlyIf_test d _ _ (sent 0))
  have counted : ∀ u : State, (countSent m u).test = u.test := fun u => by
    cases m with
    | announce _ | schedule _ => exact both _ _ u
    | notify _ _ _ | mail _ _ =>
      simp only [countSent]
      split
      · rfl
      · split <;> rfl
    | _ => rfl
  unfold send
  split
  · rfl
  · exact counted _

theorem pushEntry_test (q : QueueId) (e : Entry) (s : State) : (pushEntry q e s).test = s.test := by
  have now : ∀ u : State, (notifyNow q u).test = u.test := fun u => by
    unfold notifyNow
    simp only
    split
    · rw [bump_test]
      split
      · rfl
      · rfl
      · exact send_test _ _
    · rfl
  unfold pushEntry notifyEntry
  simp only
  split
  · exact now _
  · rfl

theorem raise0_test (code level index : Nat) (payload : List Int) (s : State) : (raise0 code level index payload s).test = s.test := by
  have settled : ∀ (q : QueueId) (u : State), (settleLost q u).test = u.test := fun q u => by
    unfold settleLost
    simp only
    split
    · exact pushEntry_test q _ _
    · rfl
  unfold raise0 enqueueOut
  simp only
  split
  · rfl
  · split
    · rw [pushEntry_test, settled]; rfl
    · rw [bump_test, modOut_test, settled]; rfl

/-- An event meets injections that have fired, and leaves those still to come. -/
theorem raise_inject (code level index : Nat) (payload : List Int) (s : State) :
    (raise code level index payload s).test.inject = s.test.inject := by
  have seen : ∀ (hit : Nat → Bool) (n : Nat) (u : State), (injectionSeen hit n u).test.inject = u.test.inject := fun hit n u => by
    unfold injectionSeen
    split
    · rw [bump_test, raise0_test]
    · rfl
  rw [raise, seen, raise0_test]


/-! What the edges of one bridge reach (R57): the outputs of that bridge, its thermal charges and its phase lock -/

/-- A carrier apart from its phase lock (R73 to R75). -/
def Carrier.course (c : Carrier) : Carrier := { c with moving := none, adjust := 0, locked := false }

/-- From o to s only bridge b and the reports have changed, and of the bridge neither the course of its carrier, nor its forcing, the values
that it has still to take, or the cut of a leg. -/
structure EdgesOf (b : BridgeId) (o s : State) : Prop where
  still : s.silent = { o.silent with br := s.br }
  inject : s.test.inject = o.test.inject
  other : ∀ c : BridgeId, c ≠ b → s.br[c] = o.br[c]
  course : s.br[b].car.course = o.br[b].car.course
  force : s.br[b].force = o.br[b].force
  held : s.br[b].held = o.br[b].held
  cut : ∀ k : Fin 3, (s.br[b].legs[k]).cut = (o.br[b].legs[k]).cut

namespace EdgesOf

variable {b : BridgeId} {o s : State}

theorem refl (b : BridgeId) (s : State) : EdgesOf b s s := ⟨rfl, rfl, fun _ _ => rfl, rfl, rfl, rfl, fun _ => rfl⟩

theorem gr (h : EdgesOf b o s) : s.gr = o.gr := have e := congrArg State.gr h.still; e
theorem par (h : EdgesOf b o s) : s.par = o.par := have e := congrArg State.par h.still; e
theorem mem (h : EdgesOf b o s) : s.mem = o.mem := have e := congrArg State.mem h.still; e

/-- A report. -/
theorem quiet {u : State} (hq : u.silent = s.silent) (hi : u.test.inject = s.test.inject) (h : EdgesOf b o s) : EdgesOf b o u := by
  have hbr : u.br = s.br := silent_eq_br hq
  exact ⟨by rw [hq, h.still, hbr], hi.trans h.inject, hbr ▸ h.other, hbr ▸ h.course, hbr ▸ h.force, hbr ▸ h.held, hbr ▸ h.cut⟩

theorem bump {i sub} (h : EdgesOf b o s) : EdgesOf b o (bump i sub s) := h.quiet (silent_bump ..) rfl
theorem bumpBy {i sub n} (h : EdgesOf b o s) : EdgesOf b o (bumpBy i sub n s) := h.quiet (silent_bumpBy ..) rfl
theorem raise {c l i p} (h : EdgesOf b o s) : EdgesOf b o (raise c l i p s) := h.quiet (silent_raise ..) (raise_inject ..)
theorem raiseB {c d p} (h : EdgesOf b o s) : EdgesOf b o (raiseB c d p s) := raise h

/-- An update of the bridge itself. -/
theorem modBr {f : Bridge → Bridge} (hcar : (f s.br[b]).car.course = s.br[b].car.course) (hforce : (f s.br[b]).force = s.br[b].force)
    (hheld : (f s.br[b]).held = s.br[b].held) (hcut : ∀ k : Fin 3, ((f s.br[b]).legs[k]).cut = (s.br[b].legs[k]).cut)
    (h : EdgesOf b o s) : EdgesOf b o (modBr b f s) where
  still := have e := congrArg (fun u : State => { u with br := (Machine.modBr b f s).br }) h.still; e
  inject := h.inject
  other c hc := (br_modBr_ne f s hc).trans (h.other c hc)
  course := by rw [br_modBr_self, hcar, h.course]
  force := by rw [br_modBr_self, hforce, h.force]
  held := by rw [br_modBr_self, hheld, h.held]
  cut k := by rw [br_modBr_self, hcut, h.cut]

theorem modPos {p : PosId} {f : Position → Position} (hb : brOfPos p = b) (h : EdgesOf b o s) : EdgesOf b o (modPos p f s) := by
  subst hb
  exact h.modBr rfl rfl rfl fun _ => rfl

theorem modLeg {l : LegId} {f : Leg → Leg} (hb : brOfLeg l = b) (hf : ∀ x, (f x).cut = x.cut) (h : EdgesOf b o s) : EdgesOf b o (modLeg l f s) := by
  subst hb
  refine h.modBr rfl rfl rfl fun k => ?_
  by_cases hk : phaseOfLeg l = k
  · subst hk; simp [hf]
  · have : (phaseOfLeg l : Nat) ≠ k := fun e => hk (Fin.ext e)
    simp [this]

theorem ite {c : Prop} [Decidable c] {x y : State} (hx : EdgesOf b o x) (hy : EdgesOf b o y) : EdgesOf b o (if c then x else y) := by
  split
  · exact hx
  · exact hy

theorem onlyIf {c : Bool} {f : State → State} (hf : ∀ {u}, EdgesOf b o u → EdgesOf b o (f u)) (h : EdgesOf b o s) : EdgesOf b o (onlyIf c f s) := by
  cases c
  · exact h
  · exact hf h

theorem foldl {α : Type} {l : List α} {f : State → α → State} (hf : ∀ {u x}, EdgesOf b o u → EdgesOf b o (f u x)) (h : EdgesOf b o s) :
    EdgesOf b o (l.foldl f s) := by
  induction l generalizing s with
  | nil => exact h
  | cons x t ih => exact ih (hf h)

end EdgesOf

/-! Turning positions on and off, one leg's edge (R57, R66) -/

@[simp] theorem pos_modPos_self (p : PosId) (f : Position → Position) (s : State) : (modPos p f s).pos p = f (s.pos p) := by
  simp [modPos, State.pos]

theorem pos_modPos_ne {p q : PosId} (f : Position → Position) (s : State) (h : q ≠ p) : (modPos p f s).pos q = s.pos q := by
  unfold modPos State.pos
  by_cases hb : brOfPos q = brOfPos p
  · have hslot : (slotOfPos p : Nat) ≠ slotOfPos q := fun e => h (by
      simp only [brOfPos, slotOfPos, Fin.ext_iff] at *; omega)
    simp [hb, hslot]
  · rw [br_modBr_ne _ _ hb]

theorem posOfLeg_not_ne (l : LegId) (high : Bool) : posOfLeg l (!high) ≠ posOfLeg l high := by
  simp only [posOfLeg, ne_eq, Fin.ext_iff]
  cases high <;> simp

@[simp] theorem bump_pos (i sub : Nat) (p : PosId) (s : State) : (bump i sub s).pos p = s.pos p := rfl

/-- The end of a hold changes nothing of the position but the hold. -/
theorem pos_endHold (p : PosId) (s : State) : (endHold p s).pos p = { s.pos p with hold := none } := by
  unfold endHold
  split
  · next h => rw [← h]
  · simp only [onlyIf]
    split <;> simp

theorem pos_endHold_ne {p q : PosId} (s : State) (h : q ≠ p) : (endHold p s).pos q = s.pos q := by
  unfold endHold
  split
  · rfl
  · simp only [onlyIf]
    split <;> simp [pos_modPos_ne _ s h]

theorem pos_turnOff (p : PosId) (s : State) : (turnOff p s).pos p = { s.pos p with on := false, hold := none } := by
  rw [turnOff, pos_modPos_self, pos_endHold]

theorem pos_turnOff_ne {p q : PosId} (s : State) (h : q ≠ p) : (turnOff p s).pos q = s.pos q := by
  rw [turnOff, pos_modPos_ne _ _ h, pos_endHold_ne s h]

/-- A position as a turn-on at `due` leaves it, with its blanking time and a hold where its partner still conducts or is unknown. -/
def Position.lit (due blank : Nat) (wait : Bool) (x : Position) : Position :=
  { x with on := true, onAt := due, blankTo := due + ticksOfNs blank, hold := if wait then some due else none }

/-- With no injection to come, a turn-on is the command alone. -/
theorem turnOn_eq (p : PosId) (due : Nat) {s : State} (h : s.test.inject = []) :
    turnOn p due s = if s.canTurnOn p then
      modPos p (Position.lit due s.br[brOfPos p].th.blank[s.br[brOfPos p].th.applied] ((s.pos (partnerPos p)).above || !(s.pos p).partnerKnown)) s
    else s := by
  have hnone : ∀ n, s.injects n = false := fun n => by rw [State.injects, h]; rfl
  have hlit : ∀ (f : Position → Position) (n : Nat), (modPos p f s).injects n = false := fun _ n => hnone n
  unfold turnOn
  cases s.canTurnOn p
  · rfl
  · simp only [hlit]; rfl

namespace EdgesOf

variable {b : BridgeId} {o s : State}

theorem turnOff {p : PosId} (hb : brOfPos p = b) (h : EdgesOf b o s) : EdgesOf b o (turnOff p s) := by
  refine modPos hb ?_
  unfold endHold
  split
  · exact h
  · exact onlyIf bump (modPos hb h)

theorem turnOn {p : PosId} {due : Nat} (ho : o.test.inject = []) (hb : brOfPos p = b) (h : EdgesOf b o s) : EdgesOf b o (turnOn p due s) := by
  rw [turnOn_eq p due (h.inject.trans ho)]
  exact ite (modPos hb h) h

end EdgesOf

/-- A leg as an edge to `high` at tick t leaves it before its own side turns on: the other side is off. -/
def edgeLeft (l : LegId) (high : Bool) (t : Nat) (s : State) : State :=
  turnOff (posOfLeg l (!high)) (noteEdge l high t (modLeg l (fun x => { x with ref := high, lastEdge := t })
    (onlyIf ((s.pos (posOfLeg l (!high))).on && decide (t ≤ (s.pos (posOfLeg l (!high))).onAt)) (bump (0xE021 + (brOfLeg l).val) 6) s)))

theorem EdgesOf.edgeLeft {b : BridgeId} {o s : State} {l : LegId} {high : Bool} {t : Nat} (hb : brOfLeg l = b) (h : EdgesOf b o s) :
    EdgesOf b o (edgeLeft l high t s) := by
  subst hb
  exact turnOff (brOfPos_posOfLeg ..) (modBr rfl rfl rfl (fun _ => rfl) (modLeg rfl (fun _ => rfl) (onlyIf bump h)))

/-- The same leg with its own side commanded on after the dead time. -/
def edgeLit (l : LegId) (high : Bool) (t : Nat) (s : State) : State :=
  turnOn (posOfLeg l high) (t + (edgeLeft l high t s).deadTime (brOfLeg l)) (edgeLeft l high t s)

theorem driveLeg_cases (l : LegId) (high : Bool) (t : Nat) (s : State) :
    driveLeg l high t s = if ((edgeLeft l high t s).leg l).held then turnOff (posOfLeg l high) (edgeLeft l high t s)
      else if (overlapLeg l (edgeLit l high t s)).bothOn l then interlockHit l high t (overlapLeg l (edgeLit l high t s))
      else overlapLeg l (edgeLit l high t s) := by
  unfold driveLeg edgeLit edgeLeft
  rfl

theorem EdgesOf.edgeLit {b : BridgeId} {o s : State} {l : LegId} {high : Bool} {t : Nat} (ho : o.test.inject = []) (hb : brOfLeg l = b)
    (h : EdgesOf b o s) : EdgesOf b o (edgeLit l high t s) :=
  turnOn ho ((brOfPos_posOfLeg l high).trans hb) (edgeLeft hb h)

/-- The side that an edge leaves is off. -/
theorem edgeLeft_off (l : LegId) (high : Bool) (t : Nat) (s : State) : ((edgeLeft l high t s).pos (posOfLeg l (!high))).on = false := by
  rw [edgeLeft, pos_turnOff]

theorem edgeLit_off (l : LegId) (high : Bool) (t : Nat) {s : State} (h : s.test.inject = []) :
    ((edgeLit l high t s).pos (posOfLeg l (!high))).on = false := by
  rw [edgeLit, turnOn_eq _ _ ((EdgesOf.edgeLeft rfl (.refl (brOfLeg l) s)).inject.trans h)]
  split
  · rw [pos_modPos_ne _ _ (posOfLeg_not_ne l high), edgeLeft_off]
  · exact edgeLeft_off l high t s

/-- With no injection to come, an edge never finds both sides on: the other side has just gone off. -/
theorem driveLeg_eq (l : LegId) (high : Bool) (t : Nat) {s : State} (h : s.test.inject = []) :
    driveLeg l high t s = if ((edgeLeft l high t s).leg l).held then turnOff (posOfLeg l high) (edgeLeft l high t s) else edgeLit l high t s := by
  have hnone : (edgeLit l high t s).injects (0x0500 + l.val + 1) = false := by
    rw [State.injects, ((EdgesOf.refl (brOfLeg l) s).edgeLit h rfl).inject, h]; rfl
  have hone : (edgeLit l high t s).bothOn l = false := by
    have hoff := edgeLit_off l high t h
    cases high
    · exact Bool.and_eq_false_imp.2 fun x => absurd x (by rw [← Bool.not_false, hoff]; exact Bool.false_ne_true)
    · exact Bool.and_eq_false_imp.2 fun _ => hoff
  rw [driveLeg_cases, overlapLeg, hnone, if_neg Bool.false_ne_true, hone, if_neg Bool.false_ne_true]

theorem EdgesOf.driveLeg {b : BridgeId} {o s : State} {l : LegId} {high : Bool} {t : Nat} (ho : o.test.inject = []) (hb : brOfLeg l = b)
    (h : EdgesOf b o s) : EdgesOf b o (driveLeg l high t s) := by
  have hp := (brOfPos_posOfLeg l high).trans hb
  rw [driveLeg_eq l high t (h.inject.trans ho)]
  exact ite (turnOff hp (edgeLeft hb h)) (edgeLit ho hb h)

/-! The operations of a reload and of a valley that stay within their bridge -/

namespace EdgesOf

variable {b : BridgeId} {o s : State}

theorem refreshDead (h : EdgesOf b o s) : EdgesOf b o (refreshDead b s) :=
  foldl (fun h => onlyIf raiseB (modBr rfl rfl rfl (fun _ => rfl) h)) h

theorem takeRetries (h : EdgesOf b o s) : EdgesOf b o (takeRetries b s) :=
  foldl (fun h => ite (bump (raise (modPos (brOfPos_posOf ..) h))) h) h

theorem clearAcc (h : EdgesOf b o s) : EdgesOf b o (clearAcc b s) := modBr rfl rfl rfl (fun k => by simp) h

theorem placeWindows {fresh atPeak t} (h : EdgesOf b o s) : EdgesOf b o (placeWindows b fresh atPeak t s) := by
  unfold Machine.placeWindows
  exact modBr rfl rfl rfl (fun k => by simp) h

theorem addEnergy {f} (h : EdgesOf b o s) : EdgesOf b o (addEnergy b f s) := modBr rfl rfl rfl (fun _ => rfl) h
theorem chargeDriven (h : EdgesOf b o s) : EdgesOf b o (chargeDriven b s) := addEnergy h
theorem drivePending (h : EdgesOf b o s) : EdgesOf b o (drivePending b s) := modBr rfl rfl rfl (fun _ => rfl) h
theorem uncharge (h : EdgesOf b o s) : EdgesOf b o (uncharge b s) := modBr rfl rfl rfl (fun _ => rfl) h

theorem formLeg {k c fresh atPeak t} (h : EdgesOf b o s) : EdgesOf b o (formLeg b k c fresh atPeak t s) :=
  bumpBy (bumpBy (modLeg (brOfLeg_legOf ..) (fun _ => rfl) h))

theorem driveBridge {fresh again atPeak t} (ho : o.test.inject = []) (h : EdgesOf b o s) :
    EdgesOf b o (driveBridge b fresh again atPeak t s) :=
  foldl (fun h => ite h (ite (driveLeg ho (brOfLeg_legOf ..) h)
    (ite (turnOn ho ((brOfPos_posOfLeg ..).trans (brOfLeg_legOf ..)) h) h))) h

theorem ageLedgers (h : EdgesOf b o s) : EdgesOf b o (ageLedgers b s) :=
  foldl (fun h => ite (modLeg (brOfLeg_legOf ..) (fun _ => rfl) h)
    (ite (bump (modLeg (brOfLeg_legOf ..) (fun _ => rfl) h)) (modLeg (brOfLeg_legOf ..) (fun _ => rfl) h))) h

theorem settleLock {err} (h : EdgesOf b o s) : EdgesOf b o (settleLock b err s) := by
  unfold Machine.settleLock
  have hl := modBr (f := fun x => { x with car := { x.car with locked := decide (err.natAbs ≤ s.actN 0x2060 2) } }) rfl rfl rfl (fun _ => rfl) h
  exact ite (raiseB hl) (ite (bump (raiseB hl)) hl)

/-- Phase lock moves a carrier without changing its course. -/
theorem lockPhase {t} (h : EdgesOf b o s) : EdgesOf b o (lockPhase b t s) := by
  unfold Machine.lockPhase
  extract_lets on move left err u began done v
  have hu : EdgesOf b o u := ite (settleLock h) (ite (raiseB (modBr rfl rfl rfl (fun _ => rfl) h)) h)
  have hv : EdgesOf b o v := onlyIf (fun h => raiseB (modBr rfl rfl rfl (fun _ => rfl) h)) hu
  exact ite hv (ite (modBr rfl rfl rfl (fun _ => rfl) hv) (modBr rfl rfl rfl (fun _ => rfl) hv))

end EdgesOf

/-! What beside the bridges a valley reaches: the bounds of Clove and the counts of the inputs -/

/-- From o to s the bridges, the groups, the memory, the objects and the injections to come are the same. -/
structure Aside (o s : State) : Prop where
  br : s.br = o.br
  gr : s.gr = o.gr
  mem : s.mem = o.mem
  par : s.par = o.par
  inject : s.test.inject = o.test.inject

namespace Aside

variable {o s : State}

theorem refl (s : State) : Aside s s := ⟨rfl, rfl, rfl, rfl, rfl⟩

theorem raise {c l i p} (h : Aside o s) : Aside o (raise c l i p s) :=
  have e := silent_raise c l i p s
  ⟨(silent_eq_br e).trans h.br, (silent_eq_gr e).trans h.gr, (silent_eq_mem e).trans h.mem, (silent_eq_par e).trans h.par,
    (raise_inject ..).trans h.inject⟩

theorem ite {c : Prop} [Decidable c] {x y : State} (hx : Aside o x) (hy : Aside o y) : Aside o (if c then x else y) := by
  split
  · exact hx
  · exact hy

theorem onlyIf {c : Bool} {f : State → State} (hf : ∀ {u}, Aside o u → Aside o (f u)) (h : Aside o s) : Aside o (onlyIf c f s) := by
  cases c
  · exact h
  · exact hf h

theorem foldl {α : Type} {l : List α} {f : State → α → State} (hf : ∀ {u x}, Aside o u → Aside o (f u x)) (h : Aside o s) :
    Aside o (l.foldl f s) := by
  induction l generalizing s with
  | nil => exact h
  | cons x t ih => exact ih (hf h)

theorem refreshBounds (h : Aside o s) : Aside o (refreshBounds s) := by
  have stored {u : State} {c : Clove} (hu : Aside o u) : Aside o { u with clove := c } := ⟨hu.br, hu.gr, hu.mem, hu.par, hu.inject⟩
  unfold Machine.refreshBounds
  exact foldl (fun h => ite h (onlyIf raise (onlyIf raise (stored h)))) (foldl (fun h => onlyIf raise (onlyIf raise (stored h))) h)

theorem modInput {n f} (h : Aside o s) : Aside o (modInput n f s) := ⟨h.br, h.gr, h.mem, h.par, h.inject⟩

/-- Inputs without a timeout only count. -/
theorem missInputs {ns : List (Fin 84)} (hn : ∀ n ∈ ns, s.actN (0x4100 + n.val) 9 = 0) (h : Aside o s) : Aside o (missInputs ns s) := by
  have hs : Aside s (ns.foldl (fun a n => Machine.modInput n (fun x => { x with stale := x.stale + 1 }) a) s) := foldl modInput (refl s)
  have ho : Aside o (ns.foldl (fun a n => Machine.modInput n (fun x => { x with stale := x.stale + 1 }) a) s) := foldl modInput h
  unfold Machine.missInputs
  simp only
  rw [List.filter_eq_nil_iff.2 fun n hm => ?_]
  · exact ho
  · have := hn n hm
    simp only [State.actN, State.act, hs.par] at this ⊢
    simp [this]

end Aside

/-! Objects that an activation does not pick keep their active values -/

theorem lookupKey_putKey_ne {k b : Nat} (h : b ≠ k) (v : Option Int) (l : List (Nat × Int)) : lookupKey b (putKey k v l) = lookupKey b l := by
  induction l with
  | nil => cases v <;> simp [putKey, lookupKey, h.symm]
  | cons d t ih =>
    obtain ⟨j, w⟩ := d
    rw [putKey_cons]
    split
    · simp only [lookupKey, ih]
    · split
      · next hj => cases v <;> simp [lookupKey, hj, h.symm]
      · cases v <;> simp [lookupKey, h.symm]

theorem activeOf_activateWhere_ne {sel : Nat → Bool} {i sub : Nat} (h : sel (objKey i sub) = false) (p : Params) :
    (p.activateWhere sel).activeOf i sub = p.activeOf i sub := by
  have each : ∀ (ks : List Nat), (∀ k ∈ ks, sel k = true) → ∀ q : Params,
      (ks.foldl (fun q k => q.activate (k / 256) (k % 256)) q).activeOf i sub = q.activeOf i sub := by
    intro ks
    induction ks with
    | nil => exact fun _ _ => rfl
    | cons k t ih =>
      intro hk q
      have hne : objKey i sub ≠ objKey (k / 256) (k % 256) := by
        have hkey : objKey (k / 256) (k % 256) = k := by unfold objKey; omega
        rw [hkey]
        rintro rfl
        simp [h] at hk
      rw [List.foldl_cons, ih (fun x hx => hk x (List.mem_cons_of_mem _ hx))]
      simp only [Params.activeOf, Params.activate, Params.setActive, lookupKey_putKey_ne hne]
  exact each _ (fun k hk => (List.mem_filter.1 hk).2) p

theorem takeCarrier_br (b : BridgeId) (s : State) : (takeCarrier b s).br = s.br := by unfold takeCarrier; cases (s.groupOf b).isSome <;> rfl
theorem takeCarrier_gr (b : BridgeId) (s : State) : (takeCarrier b s).gr = s.gr := by unfold takeCarrier; cases (s.groupOf b).isSome <;> rfl
theorem takeCarrier_mem (b : BridgeId) (s : State) : (takeCarrier b s).mem = s.mem := by unfold takeCarrier; cases (s.groupOf b).isSome <;> rfl
theorem takeCarrier_test (b : BridgeId) (s : State) : (takeCarrier b s).test = s.test := by unfold takeCarrier; cases (s.groupOf b).isSome <;> rfl

/-- The carrier request that a valley takes is no object of an input. -/
theorem takeCarrier_timeout (b : BridgeId) (s : State) (n : Fin 84) : (takeCarrier b s).actN (0x4100 + n.val) 9 = s.actN (0x4100 + n.val) 9 := by
  unfold takeCarrier
  cases (s.groupOf b).isSome
  · rfl
  · have hkey : (objKey (0x4100 + n.val) 9 == objKey 0x2010 ((s.groupFor b).val + 1)) = false := by
      simp only [objKey, beq_eq_false_iff_ne]
      omega
    simp only [onlyIf_true, State.actN, State.act]
    rw [activeOf_activateWhere_ne (sel := fun key => key == objKey 0x2010 ((s.groupFor b).val + 1)) hkey]

/-! The valley (R43, R46, R51, R71) -/

/-- What the two kinds of change have in common: the other bridges, the groups, the memory, the injections to come, the course of the
bridge's carrier and its cuts stay. -/
structure Stays (b : BridgeId) (o s : State) : Prop where
  gr : s.gr = o.gr
  mem : s.mem = o.mem
  inject : s.test.inject = o.test.inject
  other : ∀ c : BridgeId, c ≠ b → s.br[c] = o.br[c]
  course : s.br[b].car.course = o.br[b].car.course
  cut : ∀ k : Fin 3, (s.br[b].legs[k]).cut = (o.br[b].legs[k]).cut

theorem Stays.trans {b : BridgeId} {o u s : State} (hu : Stays b o u) (hs : Stays b u s) : Stays b o s where
  gr := hs.gr.trans hu.gr
  mem := hs.mem.trans hu.mem
  inject := hs.inject.trans hu.inject
  other c hc := (hs.other c hc).trans (hu.other c hc)
  course := hs.course.trans hu.course
  cut k := (hs.cut k).trans (hu.cut k)

theorem EdgesOf.stays {b : BridgeId} {o s : State} (h : EdgesOf b o s) : Stays b o s := ⟨h.gr, h.mem, h.inject, h.other, h.course, h.cut⟩

theorem Aside.stays {o s : State} (b : BridgeId) (h : Aside o s) : Stays b o s :=
  ⟨h.gr, h.mem, h.inject, fun _ _ => by rw [h.br], by rw [h.br], fun _ => by rw [h.br]⟩

/-- What the valley does to the carrier and the legs of its bridge before phase lock. -/
def Bridge.atValley (switching : Bool) (t : Nat) (udc : Rat) (period top : Nat) (x : Bridge) : Bridge :=
  { x with car := { x.car with period := (x.car.period + 1) % 2 ^ 48, dither := x.car.dither + 1, top := top, valley := t,
                               peakAt := x.car.valley + x.car.top },
           legs := x.legs.map fun l => let l := endPeriod switching t udc period l; { l with up := min l.up top } }

/-- A valley with the clock on: the period's end, and then only what keeps the course of the carrier and the cuts. -/
theorem carrierValley_stays {s : State} {b : BridgeId} {t : Nat} (hp : s.pulseOn = true) (hi : s.test.inject = [])
    (hn : ∀ k : Fin 3, s.actN (0x4100 + (lvInput (legOf b k)).val) 9 = 0) :
    ∃ (sw : Bool) (period top : Nat) (udc : Rat),
      Stays b (modBr b (Bridge.atValley sw t udc period top) (takeCarrier b (setNow t s))) (carrierValley b t s) := by
  unfold carrierValley
  rw [hp, Bool.not_true, if_neg Bool.false_ne_true]
  extract_lets s1 switching period s2 top udc was s3 s4 s5 s6
  have h4 : Aside s3 s4 := .onlyIf .refreshBounds (.refl s3)
  have hage : EdgesOf b s4 (ageLedgers b s4) := .ageLedgers (.refl b s4)
  have hpar : (ageLedgers b s4).par = s2.par := hage.par.trans h4.par
  have hact (n : Fin 84) : (ageLedgers b s4).actN (0x4100 + n.val) 9 = s1.actN (0x4100 + n.val) 9 := by
    rw [← takeCarrier_timeout b s1 n, State.actN, State.act, hpar]
    rfl
  have hzero : ∀ n ∈ phases.map fun k => lvInput (legOf b k), (ageLedgers b s4).actN (0x4100 + n.val) 9 = 0 := fun n hmem => by
    obtain ⟨k, -, rfl⟩ := List.mem_map.1 hmem
    exact (hact _).trans (hn k)
  have h5 : Aside (ageLedgers b s4) s5 := .missInputs hzero (.refl _)
  have hs2 : s2.test.inject = [] := by rw [takeCarrier_test]; exact hi
  have hs5 : Stays b s3 s5 := (h4.stays b).trans (hage.stays.trans (h5.stays b))
  have h6 : EdgesOf b s5 s6 :=
    .onlyIf (.foldl fun h => .ite h (.driveLeg (hs5.inject.trans hs2) (brOfLeg_legOf ..) h)) (.refl b s5)
  exact ⟨switching, period, top, udc, hs5.trans h6.lockPhase.stays⟩

/-- Two carriers of one course differ in the phase lock only. -/
theorem Carrier.eq_of_course {c d : Carrier} (h : c.course = d.course) :
    c = { d with moving := c.moving, adjust := c.adjust, locked := c.locked } :=
  have e := congrArg (fun x : Carrier => { x with moving := c.moving, adjust := c.adjust, locked := c.locked }) h; e

/-! The reload (R15, R53 to R56, R75, R91) -/

/-- Updates of the bridges, in any number, change nothing else. -/
theorem forBr_modBr_frame (bs : List BridgeId) (f : BridgeId → Bridge → Bridge) (s : State) :
    ∃ v, forBr bs (fun d => modBr d (f d)) s = { s with br := v } := by
  induction bs generalizing s with
  | nil => exact ⟨s.br, rfl⟩
  | cons d t ih =>
    obtain ⟨v, hv⟩ := ih (modBr d (f d) s)
    exact ⟨v, hv⟩

theorem takeReload_eq (b : BridgeId) (s : State) : ∃ p v, takeReload b s = { s with par := p, br := v } ∧
    v[b].held = [] ∧ ∀ c : BridgeId, v[c] = { s.br[c] with held := v[c].held } := by
  unfold takeReload
  extract_lets takes keys keep s1
  obtain ⟨v, hv⟩ := forBr_modBr_frame allBr (fun c x => { x with held := if c = b then [] else keep c x }) s1
  have hbr (c : BridgeId) : v[c] = { s.br[c] with held := if c = b then [] else keep c s.br[c] } := by
    rw [← br_forBr_modBr (fun c x => { x with held := if c = b then [] else keep c x }) s1 c, hv]
  refine ⟨s1.par, v, hv, ?_, fun c => ?_⟩
  · rw [hbr, if_pos rfl]
  · rw [hbr]

/-- A reload's move is one of the carrier, and leaves the marked set where it is. -/
theorem beginMove_eq (b : BridgeId) (s : State) : ∃ c : Carrier, beginMove b s = modBr b (fun x => { x with car := c }) s ∧
    (c.shadow = s.br[b].car.shadow ∧ c.shadowTag = s.br[b].car.shadowTag ∧ c.skip = s.br[b].car.skip) ∧
    ∀ o a : Nat, s.br[b].car.schedule = some (o, a) → s.br[b].car.due = true → c.offset = o % 65536 ∧ c.schedule = none := by
  have hid : s = modBr b (fun x => { x with car := s.br[b].car }) s :=
    congrArg (fun v => { s with br := v }) (Vector.set_getElem_self b.2).symm
  unfold beginMove
  split
  · next h => exact ⟨_, hid, ⟨rfl, rfl, rfl⟩, fun o a hs => by rw [h] at hs; cases hs⟩
  · next o' a' h =>
    split
    · next hd => exact ⟨_, hid, ⟨rfl, rfl, rfl⟩, fun o a _ hdue => by rw [hdue] at hd; cases hd⟩
    · refine ⟨_, rfl, ⟨rfl, rfl, rfl⟩, fun o a hs _ => ?_⟩
      rw [h] at hs
      cases hs
      exact ⟨rfl, rfl⟩

/-- With no source of a forcing there is nothing that a reload releases. -/
theorem releaseForcing_of_no_source {b : BridgeId} {s : State} (h : s.br[b].force.sources = []) : releaseForcing b s = s := by
  have hnot : s.br[b].force.selfReleasing = false := by rw [Force.selfReleasing, h]; rfl
  unfold releaseForcing
  simp only [hnot, Bool.not_false, Bool.or_true, if_true]

/-- From o to s a reload has taken the values that wait for it: the other bridges may have more to take, and the bridge has none; its
carrier keeps its course, and the forcing stays. -/
structure Taken (b : BridgeId) (o s : State) : Prop where
  gr : s.gr = o.gr
  mem : s.mem = o.mem
  inject : s.test.inject = o.test.inject
  other : ∀ c : BridgeId, c ≠ b → s.br[c] = { o.br[c] with held := s.br[c].held }
  course : s.br[b].car.course = o.br[b].car.course
  force : s.br[b].force = o.br[b].force
  held : s.br[b].held = []

theorem Taken.edges {b : BridgeId} {o u s : State} (hu : Taken b o u) (h : EdgesOf b u s) : Taken b o s where
  gr := h.gr.trans hu.gr
  mem := h.mem.trans hu.mem
  inject := h.inject.trans hu.inject
  other c hc := by rw [h.other c hc]; exact hu.other c hc
  course := h.course.trans hu.course
  force := h.force.trans hu.force
  held := h.held.trans hu.held

theorem applyBand_taken (b : BridgeId) (s : State) : Taken b s (applyBand b s) := by
  obtain ⟨p, v, hv, hheld, hrest⟩ := takeReload_eq b s
  have hb := hrest b
  have htaken : Taken b s (takeReload b s) := by
    rw [hv]
    exact ⟨rfl, rfl, rfl, fun c _ => hrest c, by rw [hb], by rw [hb], hheld⟩
  unfold applyBand
  exact htaken.edges (.refreshDead (.modBr rfl rfl rfl (fun _ => rfl) (.refl b _)))

/-- The carrier of a bridge whose reload at t takes the marked set c. -/
def Carrier.transferred (t : Nat) (c : CompareSet) (x : Carrier) : Carrier :=
  { x with reloadAt := t, active := some c, shadow := none, updateTag := x.shadowTag, updatePeriod := x.period }

/-- A marked set that is not inside the guard window becomes the active one. -/
theorem transferSet_reload {b : BridgeId} {s : State} {c : CompareSet} (t : Nat) (hs : s.br[b].car.shadow = some c) (hk : s.br[b].car.skip = false) :
    transferSet b (modBr b (fun x => { x with car := { x.car with reloadAt := t } }) s) =
      modBr b (fun x => { x with car := x.car.transferred t c }) s := by
  have hset (x : Bridge) : (s.br.set b x)[b] = x := by simp
  simp only [transferSet, modBr, hset, hs, hk]
  have hopen : s.br[(b : Nat)].car.skip = false := hk
  simp [Carrier.transferred, hopen]

/-- A reload of the bridge with a marked set and no source of a forcing: the values that wait are taken, the set is transferred, and the rest
is edges. -/
theorem carrierReload_runs {s : State} {b : BridgeId} {atPeak : Bool} {t : Nat} {c : CompareSet} (hp : s.pulseOn = true)
    (hr : s.isReload b atPeak = true) (hf : s.br[b].force.sources = []) (hc : s.br[b].car.shadow = some c) (hk : s.br[b].car.skip = false)
    (hi : s.test.inject = []) :
    ∃ u, Taken b (beginMove b (setNow t s)) u ∧
      EdgesOf b (modBr b (fun x => { x with car := x.car.transferred t c }) u) (carrierReload b atPeak t s) := by
  obtain ⟨m, hm, ⟨hshadow, -, hskip⟩, -⟩ := beginMove_eq b (setNow t s)
  unfold carrierReload
  rw [hp, hr, Bool.not_true, Bool.or_false, if_neg Bool.false_ne_true]
  extract_lets s1 policy s2 s3 again s4 was took s5 s6
  have hu : Taken b s1 s4 := (applyBand_taken b s1).edges (.takeRetries (.onlyIf .clearAcc (.refl b s2)))
  have hcar : s1.br[b] = { s.br[b] with car := m } := by rw [show s1 = _ from hm, br_modBr_self]; rfl
  clear_value s4
  have hkept := Carrier.eq_of_course hu.course
  have hmarked : s4.br[b].car.shadow = some c := by rw [hkept, hcar]; exact hshadow.trans hc
  have hopen : s4.br[b].car.skip = false := by rw [hkept, hcar]; exact hskip.trans hk
  have hnone : s4.br[b].force.sources = [] := by rw [hu.force, hcar]; exact hf
  have h5 : s5 = modBr b (fun x => { x with car := x.car.transferred t c }) s4 := transferSet_reload t hmarked hopen
  have h6 : s6 = s5 := releaseForcing_of_no_source (by rw [h5, br_modBr_self]; exact hnone)
  have hi5 : s5.test.inject = [] := by
    have h1 : s1.test.inject = [] := by rw [show s1 = _ from hm]; exact hi
    rw [h5]
    exact hu.inject.trans h1
  refine ⟨s4, hu, ?_⟩
  rw [← h5, h6]
  clear_value s5 s6
  have hedges := EdgesOf.refl b s5
  refine .ite (.modBr rfl rfl rfl (fun _ => rfl) (.uncharge (.onlyIf .addEnergy hedges))) ?_
  split
  · exact hedges
  · have charged {x} (hx : EdgesOf b s5 x) : EdgesOf b s5 ((if took then drivePending b else chargeDriven b) x) := by
      split
      · exact hx.drivePending
      · exact hx.chargeDriven
    exact charged (.driveBridge hi5 (.placeWindows (.foldl (fun h => .formLeg h) hedges)))

/-! The edge of one leg (R47, R57) -/

theorem onlyIf_bump_br (c : Bool) (i sub : Nat) (s : State) : (onlyIf c (bump i sub) s).br = s.br := by cases c <;> rfl

theorem leg_modPos {p : PosId} {l : LegId} (f : Position → Position) (s : State) (hb : brOfPos p = brOfLeg l) : (modPos p f s).leg l = s.leg l := by
  simp [modPos, State.leg, hb]

theorem br_modPos_th {p : PosId} {b : BridgeId} (f : Position → Position) (s : State) (hb : brOfPos p = b) :
    (modPos p f s).br[b].th = s.br[b].th := by
  subst hb
  simp [modPos]

theorem endHold_cases (p : PosId) (s : State) (P : State → Prop) (hn : P s) (hh : P (modPos p (fun x => { x with hold := none }) s))
    (hb : ∀ i sub u, P u → P (bump i sub u)) : P (endHold p s) := by
  unfold endHold
  split
  · exact hn
  · simp only [onlyIf]
    split
    · exact hb _ _ _ hh
    · exact hh

theorem leg_turnOff {p : PosId} {l : LegId} (s : State) (hb : brOfPos p = brOfLeg l) : (turnOff p s).leg l = s.leg l := by
  rw [turnOff, leg_modPos _ _ hb]
  exact endHold_cases p s (fun u => u.leg l = s.leg l) rfl (leg_modPos _ s hb) fun _ _ _ h => h

theorem leg_turnOn {p : PosId} {l : LegId} {s : State} (due : Nat) (hi : s.test.inject = []) (hb : brOfPos p = brOfLeg l) :
    (turnOn p due s).leg l = s.leg l := by
  rw [turnOn_eq p due hi]
  split
  · exact leg_modPos _ s hb
  · rfl

theorem turnOff_th {p : PosId} {b : BridgeId} (s : State) (hb : brOfPos p = b) : (turnOff p s).br[b].th = s.br[b].th := by
  rw [turnOff, br_modPos_th _ _ hb]
  exact endHold_cases p s (fun u => u.br[b].th = s.br[b].th) rfl (br_modPos_th _ s hb) fun _ _ _ h => h

section
variable (l : LegId) (high : Bool) (t : Nat) (s : State)

theorem edgeLeft_leg : (edgeLeft l high t s).leg l = { s.leg l with ref := high, lastEdge := t } := by
  rw [edgeLeft, leg_turnOff _ (brOfPos_posOfLeg ..)]
  simp [State.leg, noteEdge, modLeg, onlyIf_bump_br]

theorem edgeLeft_pos : (edgeLeft l high t s).pos (posOfLeg l high) = s.pos (posOfLeg l high) := by
  rw [edgeLeft, pos_turnOff_ne _ (posOfLeg_not_ne l high).symm]
  simp [State.pos, noteEdge, modLeg, onlyIf_bump_br]

theorem edgeLeft_deadTime : (edgeLeft l high t s).deadTime (brOfLeg l) = s.deadTime (brOfLeg l) := by
  have hth : (edgeLeft l high t s).br[brOfLeg l].th = s.br[brOfLeg l].th := by
    rw [edgeLeft, turnOff_th _ (brOfPos_posOfLeg ..)]
    simp [noteEdge, modLeg, onlyIf_bump_br]
  exact congrArg (fun x : Thermal => x.dead[x.applied]) hth

variable {l high t s}

theorem edgeLeft_inject (hi : s.test.inject = []) : (edgeLeft l high t s).test.inject = [] :=
  (EdgesOf.edgeLeft rfl (.refl (brOfLeg l) s)).inject.trans hi

theorem driveLeg_leg (hi : s.test.inject = []) : (driveLeg l high t s).leg l = { s.leg l with ref := high, lastEdge := t } := by
  rw [driveLeg_eq l high t hi]
  split
  · rw [leg_turnOff _ (brOfPos_posOfLeg ..), edgeLeft_leg]
  · rw [edgeLit, leg_turnOn _ (edgeLeft_inject hi) (brOfPos_posOfLeg ..), edgeLeft_leg]

theorem driveLeg_off (hi : s.test.inject = []) : ((driveLeg l high t s).pos (posOfLeg l (!high))).on = false := by
  rw [driveLeg_eq l high t hi]
  split
  · rw [pos_turnOff_ne _ (posOfLeg_not_ne l high), edgeLeft_off]
  · exact edgeLit_off l high t hi

/-- A side that may turn on is on a dead time after the edge. -/
theorem driveLeg_on (hi : s.test.inject = []) (hh : (s.leg l).held = false) (hc : s.canTurnOn (posOfLeg l high) = true) :
    ((driveLeg l high t s).pos (posOfLeg l high)).on = true ∧
      ((driveLeg l high t s).pos (posOfLeg l high)).onAt = t + s.deadTime (brOfLeg l) := by
  have hfree : ((edgeLeft l high t s).leg l).held = false := by rw [edgeLeft_leg]; exact hh
  have hcan : (edgeLeft l high t s).canTurnOn (posOfLeg l high) = true := by
    rw [← hc, State.canTurnOn, State.canTurnOn, edgeLeft_pos]
  rw [driveLeg_eq l high t hi, hfree, if_neg Bool.false_ne_true, edgeLit, turnOn_eq _ _ (edgeLeft_inject hi), hcan, if_pos rfl,
    pos_modPos_self]
  exact ⟨rfl, congrArg (t + ·) (edgeLeft_deadTime l high t s)⟩

end

/-! The rows of the carriers -/

theorem carrierValley_row {s : State} {b : BridgeId} {t0 : Nat} (hp : s.pulseOn = true) (hi : s.test.inject = [])
    (hn : ∀ k : Fin 3, s.actN (0x4100 + (lvInput (legOf b k)).val) 9 = 0) :
    Completes (.carrierValley b t0) s fun t => t.br[b].car.period = (s.br[b].car.period + 1) % 2 ^ 48 ∧
      t.br[b].car.dither = s.br[b].car.dither + 1 ∧ t.br[b].car.valley = t0 ∧ (∀ k : Fin 3, (t.br[b].legs[k]).cut = none) ∧
      (∀ c : BridgeId, c ≠ b → t.br[c] = s.br[c]) ∧ t.gr = s.gr ∧ t.mem = s.mem := by
  obtain ⟨sw, period, top, udc, h⟩ := carrierValley_stays (t := t0) hp hi hn
  have hbr := takeCarrier_br b (setNow t0 s)
  have hcar := Carrier.eq_of_course h.course
  rw [br_modBr_self, hbr] at hcar
  refine ⟨_, rfl, by rw [hcar]; rfl, by rw [hcar]; rfl, by rw [hcar]; rfl, fun k => ?_, fun c hc => ?_, ?_, ?_⟩
  · rw [h.cut, br_modBr_self]
    simp [Bridge.atValley, endPeriod]
  · rw [h.other c hc, br_modBr_ne _ _ hc, hbr]; rfl
  · exact h.gr.trans (takeCarrier_gr b (setNow t0 s))
  · exact h.mem.trans (takeCarrier_mem b (setNow t0 s))

theorem carrierReload_row {s : State} {b : BridgeId} {t0 : Nat} {atPeak : Bool} {c : CompareSet} (hp : s.pulseOn = true)
    (hr : s.isReload b atPeak = true) (hf : s.br[b].force.sources = []) (hc : s.br[b].car.shadow = some c) (hk : s.br[b].car.skip = false)
    (hi : s.test.inject = []) :
    Completes (.carrierReload b atPeak t0) s fun t => t.br[b].car.active = some c ∧ t.br[b].car.shadow = none ∧
      t.br[b].car.updateTag = s.br[b].car.shadowTag ∧ t.br[b].car.reloadAt = t0 ∧ t.br[b].held = [] ∧
      (∀ d : BridgeId, d ≠ b → t.br[d] = { s.br[d] with held := t.br[d].held }) ∧ t.gr = s.gr ∧ t.mem = s.mem ∧
      ∀ o a : Nat, s.br[b].car.schedule = some (o, a) → s.br[b].car.due = true → t.br[b].car.offset = o % 65536 ∧ t.br[b].car.schedule = none := by
  obtain ⟨u, hu, h⟩ := carrierReload_runs (t := t0) hp hr hf hc hk hi
  obtain ⟨m, hm, ⟨-, htag, -⟩, hdue⟩ := beginMove_eq b (setNow t0 s)
  have hbegun : u.br[b].car.course = m.course := by rw [hu.course, hm, br_modBr_self]
  have hmoved := Carrier.eq_of_course hbegun
  have hcar := Carrier.eq_of_course h.course
  rw [br_modBr_self] at hcar
  refine ⟨_, rfl, by rw [hcar]; rfl, by rw [hcar]; rfl, ?_, by rw [hcar]; rfl, ?_, fun d hd => ?_, ?_, ?_, fun o a hs hd => ?_⟩
  · rw [hcar, hmoved]; exact htag
  · rw [h.held, br_modBr_self]; exact hu.held
  · have hother := hu.other d hd
    rw [hm, br_modBr_ne _ _ hd] at hother
    rw [h.other d hd, br_modBr_ne _ _ hd]
    exact hother
  · exact h.gr.trans (hu.gr.trans (by rw [hm]; rfl))
  · exact h.mem.trans (hu.mem.trans (by rw [hm]; rfl))
  · rw [hcar, hmoved]; exact hdue o a hs hd

theorem compareMatch_drives {s : State} {l : LegId} {rising : Bool} {t0 : Nat} (hs : s.switching (brOfLeg l) = true) (hc : (s.leg l).cut = none)
    (hr : (s.leg l).ref = !rising) (he : s.edgeAt l rising = some t0) : compareMatch l rising t0 s = driveLeg l rising t0 (setNow t0 s) := by
  have hsw : (setNow t0 s).switching (brOfLeg l) = true := hs
  have hed : (setNow t0 s).edgeAt l rising = some t0 := he
  unfold compareMatch
  simp only [hsw, hed, hc, hr]
  cases rising <;> simp

theorem compareMatch_waits {s : State} {l : LegId} {rising : Bool} {t0 : Nat}
    (h : s.switching (brOfLeg l) = false ∨ (s.leg l).cut ≠ none ∨ (s.leg l).ref = rising ∨ s.edgeAt l rising ≠ some t0) :
    compareMatch l rising t0 s = setNow t0 s := by
  refine if_pos ?_
  show (!s.switching (brOfLeg l) || (s.leg l).cut.isSome || (s.leg l).ref == rising || s.edgeAt l rising != some t0) = true
  rcases h with h | h | h | h
  · simp [h]
  · simp [Option.isSome_iff_ne_none.2 h]
  · simp [h]
  · simp [h]

theorem setNow_canTurnOn (t : Nat) (s : State) (p : PosId) : (setNow t s).canTurnOn p = s.canTurnOn p := rfl
theorem setNow_leg (t : Nat) (s : State) (l : LegId) : (setNow t s).leg l = s.leg l := rfl
theorem setNow_deadTime (t : Nat) (s : State) (b : BridgeId) : (setNow t s).deadTime b = s.deadTime b := rfl

theorem compareMatch_row {s : State} {l : LegId} {rising : Bool} {t0 : Nat} (hs : s.switching (brOfLeg l) = true) (hc : (s.leg l).cut = none)
    (hi : s.test.inject = []) (hr : (s.leg l).ref = !rising) (he : s.edgeAt l rising = some t0) :
    Completes (.compareMatch l rising t0) s fun t => t.silent = { s.silent with now := max s.now t0, br := t.br } ∧ (t.leg l).ref = rising ∧
      (t.leg l).lastEdge = t0 ∧ (t.pos (posOfLeg l (!rising))).on = false ∧ (∀ c : BridgeId, c ≠ brOfLeg l → t.br[c] = s.br[c]) ∧
      ((s.leg l).held = false → s.canTurnOn (posOfLeg l rising) = true →
        (t.pos (posOfLeg l rising)).on = true ∧ (t.pos (posOfLeg l rising)).onAt = t0 + s.deadTime (brOfLeg l)) := by
  have hi' : (setNow t0 s).test.inject = [] := hi
  have hedges := (EdgesOf.refl (brOfLeg l) (setNow t0 s)).driveLeg (high := rising) (t := t0) hi' rfl
  have hleg := driveLeg_leg (l := l) (high := rising) (t := t0) hi'
  refine ⟨driveLeg l rising t0 (setNow t0 s), ?_, hedges.still, ?_, ?_, driveLeg_off hi', hedges.other, fun hh hcan => ?_⟩
  · rw [← compareMatch_drives hs hc hr he]; rfl
  · rw [hleg]
  · rw [hleg]
  · rw [← setNow_deadTime t0 s]
    exact driveLeg_on hi' (by rw [setNow_leg, hh]) (by rw [setNow_canTurnOn, hcan])

theorem offsetDue_eq {s : State} {b : BridgeId} {t0 o at0 : Nat} (h : s.br[b].car.schedule = some (o, at0)) :
    offsetDue b t0 s = if s.time.at t0 < at0 then setNow t0 s
      else modBr b (fun x => { x with car := { x.car with due := true } }) (setNow t0 s) := by
  have hs : (setNow t0 s).br[b].car.schedule = some (o, at0) := h
  simp only [offsetDue, hs]
  rfl

/-- Settles O21: a valley or a reload is the carrier's own transition followed by edges, which stay within the bridge. -/
theorem carrierRows : Obligations.CarrierRows := by
  intro s b t0
  refine ⟨fun hp => ?_, carrierValley_row, fun atPeak h => ?_, fun atPeak c => carrierReload_row, fun l rising hb => ?_, fun o at0 h => ⟨fun ht => ?_, fun ht => ?_⟩⟩
  · show Host.Outcome.next (carrierValley b t0 s) = _
    rw [carrierValley, hp]
    rfl
  · show Host.Outcome.next (carrierReload b atPeak t0 s) = _
    rw [carrierReload, if_pos (by rcases h with h | h <;> simp [h])]
  · subst hb
    exact ⟨compareMatch_row, fun h => congrArg Host.Outcome.next (compareMatch_waits h)⟩
  · show Host.Outcome.next (offsetDue b t0 s) = _
    rw [offsetDue_eq h, if_neg (Nat.not_lt.2 ht)]
    rfl
  · show Host.Outcome.next (offsetDue b t0 s) = _
    rw [offsetDue_eq h, if_pos ht]
    rfl

end Sys2Proof.Machine
end

section
/-! PROOFS. The rows of the level 4 faults (O38). Everything that such a fault does beside the forcings themselves is calm: it keeps what a safe
state keeps, the coils, and the state, the sources and the pattern of every bridge. `Calm` says so, one rule per operation, in the order of
the model's files; the forcing of one bridge and then of all of them follow. -/

namespace Sys2Proof.Machine

/-- What a forcing changes of a bridge: its state, the latched sources and the pattern (R68 to R70). -/
structure BridgeCore where
  state : BrState
  sources : List (ClassASource × Nat)
  pattern : Fin 4

def Bridge.core (x : Bridge) : BridgeCore := ⟨x.state, x.force.sources, x.force.pattern⟩

/-- State s has the bridges cs and a drive state in L, no re-acquisition or identification stands, and it has kept of o what no safe state
touches, with the coils and the opening. -/
structure Calm (L : DriveState → Prop) (o : State) (cs : BridgeId → BridgeCore) (s : State) : Prop where
  keeps : s.keeps o
  coil : s.cont.coil = o.cont.coil
  opening : s.cont.opening = o.cont.opening
  bridge : ∀ b : BridgeId, s.br[b].core = cs b
  group : ∀ g : GroupId, s.gr[g].reacq.phase = 0 ∧ s.gr[g].atlas.ident = none
  drive : L s.drive.state

section
variable {L : DriveState → Prop} {o s : State} {cs : BridgeId → BridgeCore}

/-! Rules -/

theorem keeps_trans {t : State} (hts : t.keeps s) (hso : s.keeps o) : t.keeps o := by
  obtain ⟨a1, a2, a3, a4, a5, a6, a7, a8⟩ := hts
  obtain ⟨b1, b2, b3, b4, b5, b6, b7, b8⟩ := hso
  refine ⟨a1.trans b1, a2.trans b2, a3.trans b3, a4.trans b4, ?_, a6.trans b6, a7.trans b7, a8.trans b8⟩
  rw [a5, b5]

/-- A change of what a safe state may touch. -/
theorem Calm.frame {pe no fc io tr st sm te bo dr co cl pw di ca} (hd : dr.state = s.drive.state) (hc : co.coil = s.cont.coil)
    (ho : co.opening = s.cont.opening) (h : Calm L o cs s) :
    Calm L o cs { s with pending := pe, now := no, freeCount := fc, io := io, transfer := tr, st := st, streams := sm, test := te, boot := bo,
                         drive := dr, cont := co, clove := cl, pwr := pw, die := di, can := ca } :=
  ⟨h.keeps, hc.trans h.coil, ho.trans h.opening, h.bridge, h.group, hd ▸ h.drive⟩

theorem keeps_of_silent {u : State} (hq : u.silent = s.silent) : u.keeps s :=
  ⟨silent_eq_mem hq, congrArg Params.stored (silent_eq_par hq), silent_eq_net hq, silent_eq_time hq, by rw [silent_eq_sense hq],
    silent_eq_arb hq, silent_eq_pairs hq, silent_eq_place hq⟩

/-- A report. -/
theorem Calm.quiet {u : State} (hq : u.silent = s.silent) (h : Calm L o cs s) : Calm L o cs u where
  keeps := keeps_trans (keeps_of_silent hq) h.keeps
  coil := (congrArg Contactors.coil (silent_eq_cont hq)).trans h.coil
  opening := (congrArg Contactors.opening (silent_eq_cont hq)).trans h.opening
  bridge b := by rw [silent_eq_br hq]; exact h.bridge b
  group g := by rw [silent_eq_gr hq]; exact h.group g
  drive := by rw [silent_eq_drive hq]; exact h.drive

theorem Calm.ite {c : Prop} [Decidable c] {x y : State} (hx : Calm L o cs x) (hy : Calm L o cs y) : Calm L o cs (if c then x else y) := by
  split
  · exact hx
  · exact hy

theorem Calm.onlyIf {c : Bool} {f : State → State} (hf : ∀ {u}, Calm L o cs u → Calm L o cs (f u)) (h : Calm L o cs s) :
    Calm L o cs (onlyIf c f s) := by
  cases c
  · exact h
  · exact hf h

theorem Calm.foldl {α : Type} {l : List α} {f : State → α → State} (hf : ∀ {u x}, Calm L o cs u → Calm L o cs (f u x)) (h : Calm L o cs s) :
    Calm L o cs (l.foldl f s) := by
  induction l generalizing s with
  | nil => exact h
  | cons x t ih => exact ih (hf h)

theorem Calm.forBr {l f} (hf : ∀ {b u}, Calm L o cs u → Calm L o cs (f b u)) (h : Calm L o cs s) : Calm L o cs (forBr l f s) := .foldl hf h

theorem Calm.forGr {l f} (hf : ∀ {g u}, Calm L o cs u → Calm L o cs (f g u)) (h : Calm L o cs s) : Calm L o cs (forGr l f s) := .foldl hf h

/-- An update of a bridge to another core. -/
theorem Calm.recore {b : BridgeId} {f : Bridge → Bridge} (h : Calm L o cs s) : Calm L o (Function.update cs b (f s.br[b]).core) (modBr b f s) where
  keeps := h.keeps
  coil := h.coil
  opening := h.opening
  group := h.group
  drive := h.drive
  bridge d := by
    by_cases hd : d = b
    · subst hd
      rw [br_modBr_self, Function.update_self]
    · rw [br_modBr_ne _ _ hd, Function.update_of_ne hd, h.bridge]

theorem Calm.modBr {b f} (hf : ∀ x, (f x).core = x.core) (h : Calm L o cs s) : Calm L o cs (modBr b f s) := by
  have hsame : Function.update cs b (f s.br[b]).core = cs := by rw [hf, h.bridge, Function.update_eq_self]
  have hu := h.recore (b := b) (f := f)
  rwa [hsame] at hu

theorem Calm.modGr {g f} (hf : ∀ x, (f x).reacq.phase = x.reacq.phase ∧ (f x).atlas.ident = x.atlas.ident) (h : Calm L o cs s) :
    Calm L o cs (modGr g f s) where
  keeps := h.keeps
  coil := h.coil
  opening := h.opening
  bridge := h.bridge
  drive := h.drive
  group d := by
    by_cases hd : (g : Nat) = d
    · have hg := h.group g
      obtain rfl : g = d := Fin.ext hd
      have hr : (s.gr.set g (f s.gr[g]))[g] = f s.gr[g] := by simp
      rw [modGr_gr, hr, (hf _).1, (hf _).2]
      exact hg
    · have hr : (s.gr.set g (f s.gr[g]))[d] = s.gr[d] := by simp [hd]
      rw [modGr_gr, hr]
      exact h.group d

theorem Calm.modPos {p f} (h : Calm L o cs s) : Calm L o cs (modPos p f s) := .modBr (fun _ => rfl) h

/-! Reports -/

theorem Calm.modOut {q f} (h : Calm L o cs s) : Calm L o cs (modOut q f s) := .frame rfl rfl rfl h
theorem Calm.modCan {c f} (h : Calm L o cs s) : Calm L o cs (modCan c f s) := .frame rfl rfl rfl h
theorem Calm.modStream {k f} (h : Calm L o cs s) : Calm L o cs (modStream k f s) := .frame rfl rfl rfl h
theorem Calm.bump {i sub} (h : Calm L o cs s) : Calm L o cs (bump i sub s) := .frame rfl rfl rfl h
theorem Calm.peak {i sub v} (h : Calm L o cs s) : Calm L o cs (peak i sub v s) := .quiet (silent_peak ..) h
theorem Calm.canQueue {c f p} (h : Calm L o cs s) : Calm L o cs (canQueue c f p s) := .quiet (silent_canQueue ..) h
theorem Calm.pushEntry {q e} (h : Calm L o cs s) : Calm L o cs (pushEntry q e s) := .quiet (silent_pushEntry ..) h
theorem Calm.raise {code level i p} (h : Calm L o cs s) : Calm L o cs (raise code level i p s) := .quiet (silent_raise ..) h
theorem Calm.raiseFirst {code level i p k} (h : Calm L o cs s) : Calm L o cs (raiseFirst code level i p k s) := .quiet (silent_raiseFirst ..) h
theorem Calm.raise4 {code p} (h : Calm L o cs s) : Calm L o cs (raise4 code p s) := .raise h
theorem Calm.raiseB {code b p} (h : Calm L o cs s) : Calm L o cs (raiseB code b p s) := .raise h
theorem Calm.raiseG {code g p} (h : Calm L o cs s) : Calm L o cs (raiseG code g p s) := .raise h
theorem Calm.complete {r n ws} (h : Calm L o cs s) : Calm L o cs (complete r n ws s) := .quiet (silent_complete ..) h
theorem Calm.packetLost {k} (h : Calm L o cs s) : Calm L o cs (packetLost k s) := .raiseFirst h
theorem Calm.canFailed {n cause source} (h : Calm L o cs s) : Calm L o cs (canFailed n cause source s) := .raiseFirst (.bump h)

/-! Operations, in the order of the model's files -/

theorem Calm.drainRing {q k n} (h : Calm L o cs s) : Calm L o cs (drainRing q k n s) := by
  induction n generalizing s with
  | zero => exact h
  | succ n ih =>
    unfold Machine.drainRing
    extract_lets
    split
    · exact .ite (ih (.modStream (.modOut h))) h
    · exact h

theorem Calm.discardOldest {k need n} (h : Calm L o cs s) : Calm L o cs (discardOldest k need n s) := by
  induction n generalizing s with
  | zero => exact h
  | succ n ih =>
    unfold Machine.discardOldest
    extract_lets
    split
    · exact h
    · split
      · exact h
      · exact ih (.drainRing (.bump (.onlyIf .modStream (.modOut h))))

theorem Calm.toRing {k p} (h : Calm L o cs s) : Calm L o cs (toRing k p s) := .peak (.bump (.modStream (.pushEntry (.modOut h))))

theorem Calm.enqueuePacket {k p} (h : Calm L o cs s) : Calm L o cs (enqueuePacket k p s) := by
  unfold Machine.enqueuePacket
  extract_lets _ _ _ _ _ _ s1
  have h1 : Calm L o cs s1 := .packetLost (.discardOldest (.bump h))
  split
  · exact .pushEntry (.bump h)
  · exact .ite (.toRing (.bump h)) (.ite (.ite (.toRing h1) (.toRing (.modOut h1))) (.packetLost (.bump (.modStream (.bump h)))))

theorem Calm.stopStream {k} (h : Calm L o cs s) : Calm L o cs (stopStream k s) := .foldl .complete (.raise4 (.modStream h))

theorem Calm.closePacket {k truncated final} (h : Calm L o cs s) : Calm L o cs (closePacket k truncated final s) :=
  .ite h (.enqueuePacket (.onlyIf .bump (.modStream h)))

theorem Calm.streamBridgeLost {b} (h : Calm L o cs s) : Calm L o cs (streamBridgeLost b s) :=
  .foldl (fun h => .ite (.ite (.stopStream (.closePacket h)) (.closePacket h)) h) h

theorem Calm.canFailAll {c cause} (h : Calm L o cs s) : Calm L o cs (canFailAll c cause s) := .foldl .canFailed (.modCan h)

theorem Calm.claimAddress {c a} (h : Calm L o cs s) : Calm L o cs (claimAddress c a s) := .canQueue (.modCan h)

theorem Calm.claimNext {c} (h : Calm L o cs s) : Calm L o cs (claimNext c s) := by
  unfold Machine.claimNext
  split
  · exact .claimAddress h
  · exact .raise4 (.canQueue (.modCan h))

theorem Calm.beginClaim {c} (h : Calm L o cs s) : Calm L o cs (beginClaim c s) := .ite (.claimNext h) (.claimAddress h)

theorem Calm.startCan {c} (h : Calm L o cs s) : Calm L o cs (startCan c s) := .ite (.beginClaim (.modCan (.canFailAll h))) (.modCan (.canFailAll h))

theorem Calm.restartCan {old standby c} (h : Calm L o cs s) : Calm L o cs (restartCan old standby c s) := .ite (.startCan h) h

theorem Calm.addEnergy {b f} (h : Calm L o cs s) : Calm L o cs (addEnergy b f s) := .modBr (fun _ => rfl) h

theorem Calm.uncharge {b} (h : Calm L o cs s) : Calm L o cs (uncharge b s) := .modBr (fun _ => rfl) h

theorem Calm.chargeShort {b p ticks} (h : Calm L o cs s) : Calm L o cs (chargeShort b p ticks s) := by
  unfold Machine.chargeShort
  exact .addEnergy h

theorem Calm.chargeForced {p b} (h : Calm L o cs s) : Calm L o cs (chargeForced p b s) := .chargeShort (.addEnergy (.uncharge h))

theorem Calm.settleLimits {g} (h : Calm L o cs s) : Calm L o cs (settleLimits g s) :=
  .ite (.bump (.raiseG (.modGr (fun _ => ⟨rfl, rfl⟩) h))) (.ite (.raiseG (.modGr (fun _ => ⟨rfl, rfl⟩) h)) (.modGr (fun _ => ⟨rfl, rfl⟩) h))

theorem Calm.putCount {g e} (h : Calm L o cs s) : Calm L o cs (putCount g e s) := .settleLimits (.modGr (fun _ => ⟨rfl, rfl⟩) h)

theorem Calm.switchSource {g i} (h : Calm L o cs s) : Calm L o cs (switchSource g i s) := .putCount (.bump (.raiseG (.modGr (fun _ => ⟨rfl, rfl⟩) h)))

theorem Calm.dropOffsets {g} (h : Calm L o cs s) : Calm L o cs (dropOffsets g s) := .modGr (fun _ => ⟨rfl, rfl⟩) h

theorem Calm.takeAssigned {old g} (h : Calm L o cs s) : Calm L o cs (takeAssigned old g s) := by
  unfold Machine.takeAssigned
  extract_lets
  split
  · exact .onlyIf .dropOffsets h
  · split
    · exact .ite (.onlyIf .dropOffsets h) (.switchSource (.onlyIf .dropOffsets h))
    · exact .modGr (fun _ => ⟨rfl, rfl⟩) (.onlyIf .dropOffsets h)

theorem Calm.refreshBounds (h : Calm L o cs s) : Calm L o cs (refreshBounds s) :=
  .forGr (fun h => .ite h (.onlyIf .raise4 (.onlyIf .raise (.frame rfl rfl rfl h)))) (.forBr (fun h => .onlyIf .raise4 (.onlyIf .raise (.frame rfl rfl rfl h))) h)

theorem Calm.endHold {p} (h : Calm L o cs s) : Calm L o cs (endHold p s) := by
  unfold Machine.endHold
  split
  · exact h
  · exact .onlyIf .bump (.modPos h)

theorem Calm.turnOff {p} (h : Calm L o cs s) : Calm L o cs (turnOff p s) := .modPos (.endHold h)

theorem Calm.noteEdge {l rising t} (h : Calm L o cs s) : Calm L o cs (noteEdge l rising t s) := .modBr (fun _ => rfl) h

theorem Calm.noteOff {b} (h : Calm L o cs s) : Calm L o cs (noteOff b s) := .foldl (fun h => .onlyIf .noteEdge h) h

theorem Calm.turnAllOff {b} (h : Calm L o cs s) : Calm L o cs (turnAllOff b s) := .foldl .turnOff (.noteOff h)

theorem Calm.clearCharges (h : Calm L o cs s) : Calm L o cs (clearCharges s) := by
  refine ⟨h.keeps, h.coil, h.opening, fun b => ?_, h.group, h.drive⟩
  rw [← h.bridge b]
  simp [Machine.clearCharges, Bridge.core]

theorem Calm.settlePd7 (h : Calm L o cs s) : Calm L o cs (settlePd7 s) := .frame rfl rfl rfl (.onlyIf .clearCharges h)

theorem Calm.restoreWindows (h : Calm L o cs s) : Calm L o cs (restoreWindows s) := .frame rfl rfl rfl h

theorem Calm.stopChop (h : Calm L o cs s) : Calm L o cs (stopChop s) := by
  unfold Machine.stopChop
  split
  · exact h
  · extract_lets
    split
    · exact .frame rfl rfl rfl h
    · exact .forBr (fun h => .foldl (fun k => .modPos (.turnOff k)) h) (.frame rfl rfl rfl h)

theorem activateWhere_stored (p : Params) (sel : Nat → Bool) : (p.activateWhere sel).stored = p.stored := by
  unfold Params.activateWhere
  generalize p.pendingKeys.filter sel = l
  induction l generalizing p with
  | nil => rfl
  | cons k t ih => exact ih _

/-- The drive changes its state, whatever it was. -/
theorem Calm.setDrive {L' : DriveState → Prop} {d} (hd : L' d) (h : Calm L o cs s) : Calm L' o cs (setDrive d s) := by
  unfold Machine.setDrive
  split
  · next hs => exact ⟨h.keeps, h.coil, h.opening, h.bridge, h.group, hs ▸ hd⟩
  · extract_lets _ _ s1 _ _ _ s2
    have h1 : Calm L o cs s1 := .onlyIf .stopChop h
    have hk : s2.keeps s1 := ⟨rfl, activateWhere_stored .., rfl, rfl, rfl, rfl, rfl, rfl⟩
    have h2 : Calm L' o cs s2 := ⟨keeps_trans hk h1.keeps, h1.coil, h1.opening, h1.bridge, h1.group, hd⟩
    exact .settlePd7 (.refreshBounds (.restoreWindows (.forGr .takeAssigned (.restartCan (.restartCan h2)))))

/-- The drive follows its bridges through these states, until a fault takes it to a safe one (R17). -/
def live (d : DriveState) : Prop := d = .armed ∨ d = .run ∨ d = .stopping

/-- A drive that follows its bridges goes on doing so. -/
theorem Calm.settleDrive (h : Calm live o cs s) : Calm live o cs (settleDrive s) := by
  have hnext : live (if s.allStopping then .stopping else if s.anyRun then .run else .armed) := by
    unfold live
    split
    · exact .inr (.inr rfl)
    · split
      · exact .inr (.inl rfl)
      · exact .inl rfl
  unfold Machine.settleDrive
  rcases h.drive with hd | hd | hd <;> rw [hd] <;> exact h.setDrive hnext

theorem Calm.startOutcome {b cause} (h : Calm L o cs s) : Calm L o cs (startOutcome b cause s) := .foldl .complete (.frame rfl rfl rfl h)

theorem Calm.applyBrake (h : Calm L o cs s) : Calm L o cs (applyBrake s) := by
  unfold Machine.applyBrake
  split
  · exact h
  · exact .ite (.bump (.raiseG (.frame rfl rfl rfl h))) h

theorem Calm.applyBrakeOf {g} (h : Calm L o cs s) : Calm L o cs (applyBrakeOf g s) := .onlyIf .applyBrake h

theorem Calm.modWin {w f} (h : Calm L o cs s) : Calm L o cs (modWin w f s) := .frame rfl rfl rfl h

theorem Calm.raiseWindow {code w payload} (h : Calm L o cs s) : Calm L o cs (raiseWindow code w payload s) := by
  unfold Machine.raiseWindow
  split
  · exact .raiseG h
  · exact .raise4 h

theorem Calm.closeWindow {w} (h : Calm L o cs s) : Calm L o cs (closeWindow w s) := .ite (.raiseWindow (.modWin h)) h

theorem Calm.settleGroup {g} (h : Calm L o cs s) : Calm L o cs (settleGroup g s) := by
  unfold Machine.settleGroup
  extract_lets _ _ _ _ _ s1
  have h1 : Calm L o cs s1 := .onlyIf (fun h => .closeWindow (.raiseG (.modGr (fun _ => ⟨rfl, rfl⟩) h))) h
  exact .ite (.onlyIf (.modGr (fun _ => ⟨rfl, rfl⟩)) h1) (.restoreWindows (.modWin (.onlyIf (.modGr (fun _ => ⟨rfl, rfl⟩)) h1)))

theorem Calm.settleSs1Reqs (h : Calm L o cs s) : Calm L o cs (settleSs1Reqs s) := .foldl .complete (.frame rfl rfl rfl h)

theorem Calm.noteSs1 {g n0} (h : Calm L o cs s) : Calm L o cs (noteSs1 g n0 s) := .settleSs1Reqs (.frame rfl rfl rfl h)

theorem Calm.takeSelection {g} (h : Calm L o cs s) : Calm L o cs (takeSelection g s) := by
  unfold Machine.takeSelection
  split
  · exact h
  · exact .foldl .complete (.raiseG (.modGr (fun _ => ⟨rfl, rfl⟩) h))

theorem Calm.refuseTorque {x} (h : Calm L o cs s) : Calm L o cs (refuseTorque x s) := .foldl .complete h

theorem Calm.unlatchTorque {g} (h : Calm L o cs s) : Calm L o cs (unlatchTorque g s) := by
  unfold Machine.unlatchTorque
  split
  · exact h
  · exact .ite (.complete (.modGr (fun _ => ⟨rfl, rfl⟩) h)) (.modGr (fun _ => ⟨rfl, rfl⟩) h)

/-- Without an identification there is none to abort. -/
theorem Calm.abortIdent {g} (h : Calm L o cs s) : Calm L o cs (abortIdent g s) := by
  unfold Machine.abortIdent
  simp only [(h.group g).2]
  exact h

theorem Calm.groupOut {g} (h : Calm L o cs s) : Calm L o cs (groupOut g s) :=
  .ite h (.abortIdent (.applyBrakeOf (.refuseTorque (.onlyIf .noteSs1 (.takeSelection (.modGr (fun _ => ⟨rfl, rfl⟩) (.foldl .raiseG h)))))))

theorem Calm.latchFor {code p} (h : Calm L o cs s) : Calm L o cs (latchFor code p s) := .ite h (.bump (.modPos (.turnOff h)))

theorem Calm.latchPos {p} (h : Calm L o cs s) : Calm L o cs (latchPos p s) := .ite h (.raise (.latchFor h))

theorem Calm.loseSplit {b} (h : Calm L o cs s) : Calm L o cs (loseSplit b s) := by
  unfold Machine.loseSplit
  split
  · exact h
  · split
    · exact .ite (.unlatchTorque (.modGr (fun _ => ⟨rfl, rfl⟩) h)) h
    · exact h

theorem Calm.settleDisables (h : Calm L o cs s) : Calm L o cs (settleDisables s) := .foldl .complete (.frame rfl rfl rfl h)

theorem Calm.leaveRun {b} (h : Calm L o cs s) : Calm L o cs (leaveRun b s) :=
  .streamBridgeLost (.modBr (fun _ => rfl) (.foldl (fun h => .ite (.latchPos h) h) (.loseSplit h)))

theorem Calm.settleBridge {b} (h : Calm live o cs s) : Calm live o cs (settleBridge b s) := by
  unfold Machine.settleBridge
  extract_lets s1
  have h1 : Calm live o cs s1 := by
    unfold s1
    split
    · exact .settleGroup (.groupOut h)
    · exact h
  exact .settleDrive (.settleDisables h1)

theorem Calm.abortStart {b cause} (h : Calm L o cs s) : Calm L o cs (abortStart b cause s) := by
  unfold Machine.abortStart
  split
  · extract_lets _ _ s1
    have h1 : Calm L o cs s1 := by
      unfold s1
      split
      · exact .bump (.raiseB (.modBr (fun _ => rfl) h))
      · exact .raiseB (.modBr (fun _ => rfl) h)
    exact .startOutcome h1
  · exact h

theorem Calm.recordLost (h : Calm L o cs s) : Calm L o cs (recordLost s) := by
  unfold Machine.recordLost
  split
  · exact .ite h (.raise4 h)
  · exact h

theorem Calm.writeRecord {event level index kind} (h : Calm L o cs s) : Calm L o cs (writeRecord event level index kind s) := .frame rfl rfl rfl (.recordLost h)

theorem Calm.snapshotFault {src level b} (h : Calm L o cs s) : Calm L o cs (snapshotFault src level b s) := .bump (.raise4 (.writeRecord h))

theorem Calm.forceOutputs {p b} (h : Calm L o cs s) : Calm L o cs (forceOutputs p b s) :=
  .foldl (fun h => .modPos (.ite h (.turnOff h))) (.onlyIf .noteOff h)

theorem Calm.cloveInvalid {g} (h : Calm L o cs s) : Calm L o cs (cloveInvalid g s) := .ite h (.onlyIf .raiseG (.bump (.frame rfl rfl rfl h)))

theorem Calm.ascSpeed {b} (h : Calm L o cs s) : Calm L o cs (ascSpeed b s) := by
  unfold Machine.ascSpeed
  split
  · exact .ite (.cloveInvalid h) h
  · exact h

theorem Calm.deferDischarge (h : Calm L o cs s) : Calm L o cs (deferDischarge s) := .ite (.bump (.raise4 (.frame rfl rfl rfl (.stopChop h)))) h

theorem Calm.raiseForced {src level b p} (h : Calm L o cs s) : Calm L o cs (raiseForced src level b p s) := .raise h

theorem Calm.abandonSlices {sel} (h : Calm L o cs s) : Calm L o cs (abandonSlices sel s) := .frame rfl rfl rfl h

end

/-! The forcing of one bridge (R68 to R70, R304) -/

/-- The core of a bridge that one source forces at a level. -/
def BridgeCore.forced (src : ClassASource) (level : Nat) (p : Fin 4) : BridgeCore := ⟨patternState p, [(src, level)], p⟩

/-- Nothing forces the bridge. -/
def BridgeCore.free (k : BridgeCore) : Prop := k.sources = [] ∧ k.pattern = 0 ∧ k.state ≠ .lockout

section
variable {o s : State} {cs : BridgeId → BridgeCore} {b : BridgeId}

theorem patternState_ne_standby (p : Fin 4) : patternState p ≠ .standby := by
  unfold patternState
  split <;> simp

theorem Calm.bridgeTo {p : Fin 4} (h : Calm live o cs s) :
    Calm live o (Function.update cs b ⟨patternState p, (cs b).sources, (cs b).pattern⟩) (bridgeTo (patternState p) b s) := by
  have hb := h.bridge b
  unfold Machine.bridgeTo
  extract_lets old s1 s2 s3
  split
  · next hst =>
    have hsame : ⟨patternState p, (cs b).sources, (cs b).pattern⟩ = cs b := by rw [← hb, ← hst]; rfl
    rw [hsame, Function.update_eq_self]
    exact h
  · have h1 : Calm live o (Function.update cs b ⟨patternState p, (cs b).sources, (cs b).pattern⟩) s1 := by
      rw [← hb]
      exact h.recore (f := fun x => { x with state := patternState p })
    have hno : decide (patternState p = .standby) = false := decide_eq_false (patternState_ne_standby p)
    have h3 : s3 = s2 := by unfold s3; rw [hno]; rfl
    rw [h3]
    exact .settleBridge (.onlyIf .leaveRun h1)

/-- The pattern of a bridge that had none is applied: its outputs and its state follow, and nothing else that a safe state keeps. -/
theorem Calm.setPattern {p : Fin 4} (h : Calm live o cs s) (hp : (cs b).pattern = 0) (hl : (cs b).state ≠ .lockout) :
    Calm live o (Function.update cs b ⟨patternState p, (cs b).sources, p⟩) (setPattern p b s) := by
  have hb := h.bridge b
  have hold : s.br[b].force.pattern = 0 := (congrArg BridgeCore.pattern hb).trans hp
  unfold Machine.setPattern
  extract_lets old through s1 s2 s3 s4 s5 s6 s7
  have h2 : Calm live o cs s2 := .onlyIf .turnAllOff (.onlyIf .chargeForced h)
  have h3 : Calm live o (Function.update cs b ⟨(cs b).state, (cs b).sources, p⟩) s3 := by
    rw [← h2.bridge b]
    exact h2.recore (f := fun x => { x with force := { x.force with pattern := p, clampAt := none, ascTo := if 2 ≤ p.val then some p else none } })
  have h6 : Calm live o (Function.update cs b ⟨(cs b).state, (cs b).sources, p⟩) s6 := .onlyIf .ascSpeed (.modBr (fun _ => rfl) (.forceOutputs h3))
  have hstate : s6.br[b].state ≠ .lockout := by
    have e := congrArg BridgeCore.state (h6.bridge b)
    rw [Function.update_self] at e
    exact fun hs => hl (e.symm.trans hs)
  have h7 : Calm live o (Function.update cs b ⟨patternState p, (cs b).sources, p⟩) s7 := by
    have e := h6.bridgeTo (b := b) (p := p)
    rw [Function.update_idem, Function.update_self] at e
    unfold s7
    rw [if_neg hstate]
    exact e
  have hlow : decide (2 ≤ old.val) = false := by unfold old; rw [hold]; rfl
  rw [hlow]
  exact .settlePd7 (.ite (.deferDischarge h7) h7)

theorem Calm.reacqBroken {g : GroupId} {L : DriveState → Prop} (h : Calm L o cs s) : Calm L o cs (reacqBroken g s) := by
  unfold Machine.reacqBroken
  simp only [(h.group g).1]
  exact h

theorem Calm.identBroken {L : DriveState → Prop} (h : Calm L o cs s) : Calm L o cs (identBroken b s) := by
  unfold Machine.identBroken
  split
  · next g _ =>
    rw [(h.group g).2]
    exact h
  · exact h

/-- The first source on a bridge that nothing forces: it is latched alone, with its pattern. -/
theorem Calm.latchForce {src : ClassASource} {p : Fin 4} {level : Nat} (h : Calm live o cs s) (hfree : (cs b).free) (hp : p ≠ 0)
    (hsrc : srcAlwaysOff src = false) :
    Calm live o (Function.update cs b (.forced src level p)) (latchForce src p level b s) := by
  obtain ⟨hnone, hzero, hlock⟩ := hfree
  have hsources : s.br[b].force.sources = [] := (congrArg BridgeCore.sources (h.bridge b)).trans hnone
  unfold Machine.latchForce
  extract_lets f s1 s2 s3 s4 s5 s6 s7 p' s8
  have hf : f.sources = [] := hsources
  rw [hf]
  rw [if_neg (by simp)]
  have h3 : Calm live o cs s3 := by
    have h2 : Calm live o cs s2 := .abandonSlices (.modBr (fun _ => rfl) h)
    unfold s3
    split
    · exact .onlyIf .applyBrakeOf h2
    · exact h2
  have h4 : Calm live o (Function.update cs b ⟨(cs b).state, [(src, level)], (cs b).pattern⟩) s4 := by
    have e := h3.recore (b := b) (f := fun x => { x with force := { x.force with sources := (src, level) :: x.force.sources } })
    have hcore : Bridge.core { s3.br[b] with force := { s3.br[b].force with sources := (src, level) :: s3.br[b].force.sources } } =
        ⟨(cs b).state, [(src, level)], (cs b).pattern⟩ := by
      rw [← h3.bridge b] at hnone ⊢
      simp only [Bridge.core] at hnone ⊢
      rw [hnone]
    rw [hcore] at e
    exact e
  have h7 : Calm live o (Function.update cs b ⟨(cs b).state, [(src, level)], (cs b).pattern⟩) s7 := by
    have h5 : Calm live o (Function.update cs b ⟨(cs b).state, [(src, level)], (cs b).pattern⟩) s5 := by
      unfold s5
      split
      · exact .onlyIf .reacqBroken h4
      · exact h4
    exact .onlyIf (.modBr (fun _ => rfl)) (.onlyIf .abortStart h5)
  have hcore : s7.br[b].core = ⟨(cs b).state, [(src, level)], (cs b).pattern⟩ := (h7.bridge b).trans (Function.update_self ..)
  have hpattern : s7.br[b].force.pattern = 0 := (congrArg BridgeCore.pattern hcore).trans hzero
  have hlatched : s7.br[b].force.sources = [(src, level)] := congrArg BridgeCore.sources hcore
  have hp' : p' = p := by
    unfold p' mergePattern
    rw [hlatched, hpattern, hsrc]
    simp [hsrc]
  have h8 : Calm live o (Function.update cs b (.forced src level p)) s8 := by
    have e := h7.setPattern (b := b) (p := p) (by rw [Function.update_self]; exact hzero) (by rw [Function.update_self]; exact hlock)
    rw [Function.update_idem, Function.update_self] at e
    unfold s8
    rw [hpattern, hp', show ((0 : Fin 4) != p) = true from bne_iff_ne.2 hp.symm]
    exact e
  exact .snapshotFault (.raiseForced h8)

end

/-! Every bridge forced, the drive in its safe state, the contactors opening (R7, R255, R257) -/

theorem safeChoice_ne_zero (s : State) (b : BridgeId) : s.safeChoice b ≠ 0 := by
  unfold State.safeChoice State.ascSide
  split
  · split
    · decide
    · split <;> decide
  · decide

section
variable {L : DriveState → Prop} {o s : State} {cs : BridgeId → BridgeCore} {src : ClassASource} {level : Nat}

theorem Calm.endCause {b : BridgeId} (h : Calm L o cs s) : Calm L o cs (endCause src b s) := .modBr (fun _ => rfl) h

theorem Calm.forceBridge {b : BridgeId} {p : Fin 4} (h : Calm live o cs s) (hfree : (cs b).free) (hp : p ≠ 0) (hsrc : srcAlwaysOff src = false) :
    Calm live o (Function.update cs b (.forced src level p)) (forceBridge src p level b s) :=
  .identBroken (h.latchForce hfree hp hsrc)

/-- An operation that forces one free bridge, whichever it is. -/
def Forces (f : BridgeId → State → State) (o : State) (src : ClassASource) (level : Nat) : Prop :=
  ∀ (cs : BridgeId → BridgeCore) (s : State) (b : BridgeId), Calm live o cs s → (cs b).free →
    ∃ p : Fin 4, p ≠ 0 ∧ Calm live o (Function.update cs b (.forced src level p)) (f b s)

theorem safeBridge_forces (hsrc : srcAlwaysOff src = false) : Forces (safeBridge src level) o src level := by
  intro cs s b h hfree
  refine ⟨s.safeChoice b, safeChoice_ne_zero s b, ?_⟩
  unfold safeBridge
  rw [hsrc]
  exact h.forceBridge hfree (safeChoice_ne_zero s b) hsrc

theorem offNow_forces : Forces offNow o .cloveRequest 4 := by
  intro cs s b h hfree
  have hsources : s.br[b].force.sources = [] := (congrArg BridgeCore.sources (h.bridge b)).trans hfree.1
  have hpattern : s.br[b].force.pattern = 0 := (congrArg BridgeCore.pattern (h.bridge b)).trans hfree.2.1
  refine ⟨1, by decide, ?_⟩
  unfold offNow
  simp only [hsources, hpattern]
  exact .endCause (h.forceBridge hfree (by decide) rfl)

/-- One bridge after the other is forced, and stays so while the rest follow. -/
theorem Forces.all {f : BridgeId → State → State} (hf : Forces f o src level) (bs : List BridgeId) (hn : bs.Nodup) (h : Calm live o cs s)
    (hfree : ∀ b ∈ bs, (cs b).free) :
    ∃ ds, Calm live o ds (forBr bs f s) ∧ (∀ b ∈ bs, ∃ p : Fin 4, p ≠ 0 ∧ ds b = .forced src level p) ∧ ∀ b, b ∉ bs → ds b = cs b := by
  induction bs generalizing cs s with
  | nil => exact ⟨cs, h, by simp, fun _ _ => rfl⟩
  | cons d t ih =>
    obtain ⟨hd, ht⟩ := List.nodup_cons.1 hn
    obtain ⟨p, hp, hcalm⟩ := hf cs s d h (hfree d List.mem_cons_self)
    have hrest : ∀ b ∈ t, (Function.update cs d (.forced src level p) b).free := fun b hb => by
      rw [Function.update_of_ne (fun e : b = d => hd (e ▸ hb))]
      exact hfree b (List.mem_cons_of_mem _ hb)
    obtain ⟨ds, hds, hin, hout⟩ := ih ht hcalm hrest
    refine ⟨ds, hds, fun b hb => ?_, fun b hb => ?_⟩
    · rcases List.mem_cons.1 hb with rfl | hb
      · exact ⟨p, hp, by rw [hout _ hd, Function.update_self]⟩
      · exact hin b hb
    · rw [List.mem_cons, not_or] at hb
      rw [hout b hb.2, Function.update_of_ne hb.1]

theorem Forces.allBr {f : BridgeId → State → State} (hf : Forces f o src level) (h : Calm live o cs s) (hfree : ∀ b, (cs b).free) :
    ∃ ds, Calm live o ds (forBr allBr f s) ∧ ∀ b, ∃ p : Fin 4, p ≠ 0 ∧ ds b = .forced src level p := by
  obtain ⟨ds, hds, hall, -⟩ := hf.all Machine.allBr (List.nodup_finRange 4) h fun b _ => hfree b
  exact ⟨ds, hds, fun b => hall b (List.mem_finRange b)⟩

/-- The cores tell whether a bridge is in ASC. -/
theorem anyAsc_of_cores (h : ∀ b : BridgeId, s.br[b].core = cs b) : s.anyAsc = allBr.any fun b => decide (2 ≤ (cs b).pattern.val) := by
  unfold State.anyAsc State.inAsc
  congr 1
  funext b
  rw [← h b]
  rfl

theorem Calm.endArm {status : Nat} (h : Calm L o cs s) : Calm L o cs (endArm status s) := by
  unfold Machine.endArm
  extract_lets r _ s1
  have h1 : Calm L o cs s1 := .frame rfl rfl rfl h
  clear_value r
  cases r with
  | none => exact h1
  | some r => exact h1.complete

/-- What a level 4 fault leaves (R255, R257): the sources are those of the cores, the drive is in the safe state that they give, CO3 is open and
CO1 waits. -/
structure Safe (o : State) (cs : BridgeId → BridgeCore) (s : State) : Prop where
  keeps : s.keeps o
  coil : s.cont.coil = o.cont.coil.set 2 false
  opening : s.cont.opening = 1
  openAt : s.cont.openAt = s.now
  bridge : ∀ b : BridgeId, s.br[b].core = cs b
  drive : s.drive.state = if allBr.any fun b => decide (2 ≤ (cs b).pattern.val) then .safeAsc else .safeOff

/-- A coil opens, with a report at most. -/
theorem openCoil_eq (c : Fin 3) (s : State) : ∃ k : Contactors, (openCoil c s).silent = State.silent { s with cont := k } ∧
    k.coil = s.cont.coil.set c false ∧ k.opening = s.cont.opening := by
  have hset : ∃ k : Contactors, setCoil c false s = { s with cont := k } ∧ k.coil = s.cont.coil.set c false ∧ k.opening = s.cont.opening := by
    unfold setCoil
    split
    · next h => exact ⟨s.cont, rfl, by rw [← h]; exact (Vector.set_getElem_self c.2).symm, rfl⟩
    · exact ⟨_, rfl, rfl, rfl⟩
  obtain ⟨k, hk, hcoil, hopening⟩ := hset
  refine ⟨k, ?_, hcoil, hopening⟩
  unfold openCoil
  rw [silent_onlyIf _ _ _ (fun u => silent_raise4 0x7115 [] u), hk]

/-- With CO1 closed and no opening in progress the contactors begin to open: CO3 at once, and CO1 waits for its current (R257). -/
theorem openContactors_waits (after : Bool) (hcoil : s.cont.coil[0] = true) (hopening : s.cont.opening = 0) :
    ∃ t, openContactors false after s = t ∧ t.br = s.br ∧ t.drive.state = s.drive.state ∧ t.keeps s ∧
      t.cont.coil = s.cont.coil.set 2 false ∧ t.cont.opening = 1 ∧ t.cont.openAt = t.now := by
  obtain ⟨k, hk, hkcoil, hkopening⟩ := openCoil_eq 2 { s with cont := { s.cont with afterOpen := s.cont.afterOpen || after } }
  unfold openContactors
  extract_lets _ s1 s2 _ s3
  have hopened : s2.silent = State.silent { s1 with cont := k } := hk
  have hcont : s3.cont = k := silent_eq_cont hopened
  have hzero : s3.cont.opening = 0 := by rw [hcont, hkopening]; exact hopening
  have hclosed : s3.cont.coil[0] = true := by
    rw [hcont, hkcoil]
    simpa using hcoil
  rw [if_neg (by simp [hzero]), if_pos (by simp [hclosed])]
  have hkeeps : s2.keeps s := keeps_trans (keeps_of_silent hopened) ⟨rfl, rfl, rfl, rfl, rfl, rfl, rfl, rfl⟩
  have hbr : s2.br = s.br := (silent_eq_br hopened).trans rfl
  have hdrive : s2.drive.state = s.drive.state := (congrArg Drive.state (silent_eq_drive hopened)).trans rfl
  have hcoils : s2.cont.coil = s.cont.coil.set 2 false := (congrArg Contactors.coil hcont).trans hkcoil
  exact ⟨_, rfl, hbr, hdrive, hkeeps, hcoils, rfl, rfl⟩

theorem driveSafe_false (h : live s.drive.state) : driveSafe false s =
    openContactors false (decide ((setDrive (if (endArm stAborted s).anyAsc then .safeAsc else .safeOff) (endArm stAborted s)).act 0x7130 6 = 1))
      (setDrive (if (endArm stAborted s).anyAsc then .safeAsc else .safeOff) (endArm stAborted s)) := by
  unfold driveSafe
  rcases h with hd | hd | hd <;> simp only [hd] <;> rfl

/-- The drive goes to the safe state that its bridges give, and the contactors begin to open. -/
theorem Calm.driveSafe (h : Calm live o cs s) (hcoil : o.cont.coil[0] = true) (hopening : o.cont.opening = 0) :
    Safe o cs (driveSafe false s) := by
  have harm : Calm live o cs (Machine.endArm stAborted s) := h.endArm
  rw [driveSafe_false h.drive, anyAsc_of_cores harm.bridge]
  have hd := harm.setDrive (L' := fun d => d = if allBr.any fun b => decide (2 ≤ (cs b).pattern.val) then .safeAsc else .safeOff) rfl
  generalize Machine.setDrive _ (Machine.endArm stAborted s) = u at hd
  obtain ⟨t, ht, hbr, hdrive, hkeeps, hc, hone, hat⟩ := openContactors_waits (s := u) (decide (u.act 0x7130 6 = 1)) (by rw [hd.coil]; exact hcoil)
    (by rw [hd.opening]; exact hopening)
  rw [ht]
  exact ⟨keeps_trans hkeeps hd.keeps, by rw [hc, hd.coil], hone, hat, fun b => by rw [hbr]; exact hd.bridge b, hdrive.trans hd.drive⟩

end

/-! The level 4 faults -/

section
variable {o s : State} {cs : BridgeId → BridgeCore} {src : ClassASource}

/-- The end of a cause leaves the forcings. -/
theorem Safe.endCauses (h : Safe o cs s) : Safe o cs (forBr allBr (endCause src) s) := by
  obtain ⟨v, hv⟩ := forBr_modBr_frame allBr
    (fun _ x => { x with force := { x.force with causes := x.force.causes.filter fun c => decide (c ≠ src) } }) s
  have hbr (b : BridgeId) : v[b].core = cs b := by
    have e := br_forBr_modBr (fun _ x => { x with force := { x.force with causes := x.force.causes.filter fun c => decide (c ≠ src) } }) s b
    rw [hv] at e
    rw [← h.bridge b, show v[b] = _ from e]
    rfl
  show Safe o cs (forBr allBr (fun d => modBr d _) s)
  rw [hv]
  exact ⟨h.keeps, h.coil, h.opening, h.openAt, hbr, h.drive⟩

theorem Safe.safeAt {level : Nat} (h : Safe o cs s) (hall : ∀ b, ∃ p : Fin 4, p ≠ 0 ∧ cs b = .forced src level p) (b : BridgeId) :
    s.safeAt b src level := by
  obtain ⟨p, hp, hcs⟩ := hall b
  have hb := (h.bridge b).trans hcs
  have hpattern : s.br[b].force.pattern = p := congrArg BridgeCore.pattern hb
  refine ⟨congrArg BridgeCore.sources hb, hpattern ▸ hp, ?_⟩
  rw [hpattern]
  exact congrArg BridgeCore.state hb

theorem Safe.drive_eq (h : Safe o cs s) : s.drive.state = if s.anyAsc then .safeAsc else .safeOff := by
  rw [anyAsc_of_cores h.bridge]
  exact h.drive

/-- A level 4 fault from a state that nothing forces. -/
theorem Calm.safeDriveOnce (h : Calm live o cs s) (hfree : ∀ b, (cs b).free) (hsrc : srcAlwaysOff src = false) (hsto : src ≠ .sto)
    (hcoil : o.cont.coil[0] = true) (hopening : o.cont.opening = 0) :
    ∃ ds, Safe o ds (safeDriveOnce src s) ∧ ∀ b, ∃ p : Fin 4, p ≠ 0 ∧ ds b = .forced src 4 p := by
  obtain ⟨ds, hds, hall⟩ := (safeBridge_forces hsrc).allBr h hfree
  refine ⟨ds, ?_, hall⟩
  unfold Machine.safeDriveOnce safeDrive
  rw [decide_eq_false hsto]
  exact (hds.driveSafe hcoil hopening).endCauses

/-- The collapse of the 12 V bus puts every bridge off at once. -/
theorem Calm.allOffNow (h : Calm live o cs s) (hfree : ∀ b, (cs b).free) (hcoil : o.cont.coil[0] = true) (hopening : o.cont.opening = 0) :
    ∃ ds, Safe o ds (allOffNow s) ∧ ∀ b, ∃ p : Fin 4, p ≠ 0 ∧ ds b = .forced .cloveRequest 4 p := by
  obtain ⟨ds, hds, hall⟩ := offNow_forces.allBr h hfree
  exact ⟨ds, hds.driveSafe hcoil hopening, hall⟩

theorem unforced_iff (s : State) : s.unforced = true ↔
    (∀ b : BridgeId, s.br[b].core.free) ∧ ∀ g : GroupId, s.gr[g].reacq.phase = 0 ∧ s.gr[g].atlas.ident = none := by
  simp only [State.unforced, Bool.and_eq_true, List.all_eq_true, allBr, allGr, List.mem_finRange, forall_const, List.isEmpty_iff, beq_iff_eq,
    decide_eq_true_eq, Option.isNone_iff_eq_none, BridgeCore.free, Bridge.core, and_assoc]

/-- The state before a fault is calm. -/
theorem Calm.refl (hgroup : ∀ g : GroupId, s.gr[g].reacq.phase = 0 ∧ s.gr[g].atlas.ident = none) (hlive : live s.drive.state) :
    Calm live s (fun b => s.br[b].core) s :=
  ⟨⟨rfl, rfl, rfl, rfl, rfl, rfl, rfl, rfl⟩, rfl, rfl, fun _ => rfl, hgroup, hlive⟩

/-- An overvoltage is not latched where nothing is forced. -/
theorem overvoltage_eq {uC : Nat} {chB : Bool} (hfree : ∀ b : BridgeId, s.br[b].core.free) (hu : s.actN 0x8105 1 < uC) :
    overvoltage uC chB s =
      safeDriveOnce .overvoltage (bump 0xE088 6 (raise4 0x8109 [(uC : Int), (b2n chB : Int), (s.chosenPatterns : Int)] s)) := by
  have hnone : (allBr.all fun b => s.br[b].force.sources.any fun x => decide (x.1 = .overvoltage)) = false := by
    have h0 : s.br[(0 : BridgeId)].force.sources = [] := (hfree 0).1
    refine List.all_eq_false.2 ⟨0, List.mem_finRange _, ?_⟩
    rw [h0]
    exact Bool.false_ne_true
  unfold overvoltage
  simp only [hnone, Nat.not_le.2 hu, decide_false, Bool.or_self]
  rfl

/-- The bound on the power is one of the objects. -/
theorem setNow_powerBound (t : Nat) (generating : Bool) (s : State) : (setNow t s).powerBound generating = s.powerBound generating := by
  have hb (g : GroupId) : (setNow t s).bridgesOf g = s.bridgesOf g := rfl
  have hr (i k : Nat) : (setNow t s).actR i k = s.actR i k := rfl
  unfold State.powerBound
  simp only [hb, hr]

/-- A power bound that was exceeded for 10 ms trips. -/
theorem powerCheck_eq {power : Int} {t0 u : Nat} (hu : s.clove.powerOver = some u) (ht : u + 10 * ticksPerMs ≤ t0)
    (hp : s.powerBound (decide (power < 0)) < ((power.natAbs : Nat) : Rat)) :
    powerCheck power t0 s = safeDriveOnce .cloveRequest (bump 0xE080 4 (raise4 0x8051 [power]
      { setNow t0 s with clove := { s.clove with powerOver := none } })) := by
  have hb : decide ((setNow t0 s).powerBound (decide (power < 0)) < ((power.natAbs : Nat) : Rat)) = true := by
    rw [setNow_powerBound]
    exact decide_eq_true hp
  have hsince : since true (setNow t0 s).clove.powerOver (setNow t0 s).now = some u := by
    unfold since
    rw [show (setNow t0 s).clove.powerOver = some u from hu]
    rfl
  have htrip : decide (u + 10 * ticksPerMs ≤ (setNow t0 s).now) = true := decide_eq_true (ht.trans (Nat.le_max_right _ _))
  unfold powerCheck
  extract_lets s1 high from0 trips _ s2
  have hfrom : from0 = some u := by
    unfold from0 high
    rw [hb, hsince]
  have htrips : trips = true := by
    unfold trips
    rw [hfrom, Option.any_some, htrip]
  have hs2 : s2 = { setNow t0 s with clove := { s.clove with powerOver := none } } := by
    unfold s2
    rw [htrips]
    rfl
  rw [htrips, if_pos rfl, hs2]

theorem railFault_eq {d : Fin 8} (h2 : 2 ≤ d.val) (h6 : d.val ≤ 6) (hon : s.pwr.domains[d] = true) :
    railFault d s = safeDriveOnce .cloveRequest (raise4 0x9013 [(d.val : Int)] s) := by
  have hd : ¬ (d = 0 ∨ d = 7 ∨ s.pwr.domains[d] = false) := by
    rw [hon]
    rintro (rfl | rfl | h)
    · exact absurd h2 (by decide)
    · exact absurd h6 (by decide)
    · cases h
  have h1 : d ≠ 1 := fun e => by subst e; simp at h2
  unfold railFault
  rw [if_neg hd]
  exact if_neg h1

theorem pllLost_eq {k : Fin 3} (hk : k.val < 2) (hon : s.pwr.pll[k] = true) (hrun : s.anyRun = true) :
    pllLost k s = safeDriveOnce .cloveRequest (bump 0xE090 7 (raise4 0x9012 [(k.val : Int)]
      { s with pwr := { s.pwr with pll := s.pwr.pll.set k false } })) := by
  have hbr : (bump 0xE090 7 (raise4 0x9012 [(k.val : Int)] { s with pwr := { s.pwr with pll := s.pwr.pll.set k false } })).br = s.br :=
    (silent_eq_br ((silent_bump ..).trans (silent_raise4 ..))).trans rfl
  have hstill : (bump 0xE090 7 (raise4 0x9012 [(k.val : Int)] { s with pwr := { s.pwr with pll := s.pwr.pll.set k false } })).anyRun = true := by
    rw [← hrun, State.anyRun, State.anyRun, hbr]
  unfold pllLost
  rw [hon]
  simp only [Bool.not_true, Bool.false_eq_true, if_false, hk, decide_true, Bool.true_and, hstill, if_true]

end

/-- Settles O38: every row is a report and one level 4 fault on a calm state. -/
theorem levelFourRows : Obligations.LevelFourRows := by
  intro s c src hunf hlive hopening hcoil hc
  obtain ⟨hfree, hgroup⟩ := (unforced_iff s).1 hunf
  have hcalm := Calm.refl hgroup hlive
  suffices hrow : ∃ t ds, exec c s = .next t ∧ Safe s ds t ∧ ∀ b, ∃ p : Fin 4, p ≠ 0 ∧ ds b = .forced src 4 p by
    obtain ⟨t, ds, hexec, hsafe, hall⟩ := hrow
    exact ⟨t, hexec, hsafe.safeAt hall, hsafe.drive_eq, hsafe.coil, hsafe.opening, hsafe.openAt, hsafe.keeps⟩
  have once {u : State} {src : ClassASource} (hu : Calm live s (fun b => s.br[b].core) u) (h : src = .cloveRequest ∨ src = .overvoltage) :
      ∃ ds, Safe s ds (safeDriveOnce src u) ∧ ∀ b, ∃ p : Fin 4, p ≠ 0 ∧ ds b = .forced src 4 p :=
    hu.safeDriveOnce hfree (by rcases h with rfl | rfl <;> rfl) (by rcases h with rfl | rfl <;> decide) hcoil hopening
  rcases hc with ⟨rfl, rfl⟩ | ⟨rfl, rfl⟩ | ⟨u, chB, rfl, rfl, hu⟩ | ⟨power, t0, u, rfl, rfl, hover, ht, hp⟩ | ⟨d, rfl, rfl, h2, h6, hon⟩ | ⟨rfl, rfl⟩ |
    ⟨k, rfl, rfl, hk, hon, hrun⟩
  · obtain ⟨ds, h⟩ := once (.bump (.raise4 (code := 0x8108) (p := []) (.frame rfl rfl rfl hcalm))) (.inl rfl)
    exact ⟨_, ds, rfl, h⟩
  · obtain ⟨ds, h⟩ := once (.raise4 hcalm) (.inl rfl)
    exact ⟨_, ds, rfl, h⟩
  · obtain ⟨ds, h⟩ := once (.bump (.raise4 hcalm)) (.inr rfl)
    exact ⟨_, ds, congrArg Host.Outcome.next (overvoltage_eq hfree hu), h⟩
  · obtain ⟨ds, h⟩ := once (.bump (.raise4 (.frame rfl rfl rfl hcalm))) (.inl rfl)
    exact ⟨_, ds, congrArg Host.Outcome.next (powerCheck_eq hover ht hp), h⟩
  · obtain ⟨ds, h⟩ := once (.raise4 hcalm) (.inl rfl)
    exact ⟨_, ds, congrArg Host.Outcome.next (railFault_eq h2 h6 hon), h⟩
  · obtain ⟨ds, h⟩ := (Calm.raise4 hcalm).allOffNow hfree hcoil hopening
    exact ⟨_, ds, rfl, h⟩
  · obtain ⟨ds, h⟩ := once (.bump (.raise4 (.frame rfl rfl rfl hcalm))) (.inl rfl)
    exact ⟨_, ds, congrArg Host.Outcome.next (pllLost_eq hk hon hrun), h⟩

end Sys2Proof.Machine
end

section
/-! PROOFS. The outcomes of a listen phase (O32) and the rows of a control step (O19), each refuted by a state on which the model runs. -/

namespace Sys2Proof.Machine

/-- A row that completes answers what its meaning gives. -/
theorem completes_next {c : Instr} {s u : State} {P : State → Prop} (hc : exec c s = .next u) (h : ∃ t, exec c s = .next t ∧ P t) : P u := by
  obtain ⟨t, ht, hP⟩ := h
  rwa [Host.Outcome.next.inj (hc.symm.trans ht)]

/-- One group of two bridges: bridge 0 listens for a start of its own, while bridge 1 runs and the group turns at 9000 r/min. -/
def joinsRunning : State :=
  let s := putObj 0x1100 1 2 State.reset
  { s with
    pwr := { s.pwr with domains := .replicate 8 true, pll := .replicate 3 true }
    br := (s.br.set 0 { s.br[0] with start := { s.br[0].start with phase := 1 } }).set 1 { s.br[1] with state := .run }
    gr := s.gr.set 0 { s.gr[0] with pos := { s.gr[0].pos with speed := 9000 } } }

/-- With a bridge of its group in RUN that its start does not name, a listening bridge joins, and a group that turns is TURNING. -/
theorem joinsRunning_turns : (listenMinimum 0 joinsRunning).gr[(0 : GroupId)].listen = 2 := by decide +kernel

/-- Refutes O32: a bridge can join a running group though nothing has marked it as joining (log 192); where that group turns, the minimum of
the listen phase finds TURNING, and not STANDSTILL. -/
theorem not_listenOutcomeRows : ¬ Obligations.ListenOutcomeRows := by
  intro h
  obtain ⟨hminimum, -⟩ := h joinsRunning 0 (by decide +kernel) (by decide +kernel) (by decide +kernel) (by decide +kernel) (by decide +kernel)
    (by decide +kernel)
  obtain ⟨hstill, -⟩ := completes_next (u := listenMinimum 0 joinsRunning) rfl (hminimum (by decide +kernel) (by decide +kernel))
  exact absurd (joinsRunning_turns.symm.trans hstill) (by decide)

/-- Four groups of one bridge: a window conversion of bridge 2 waits for the shunt converter until tick 20010, and bridge 1 has its sample
instant at tick 20000. -/
def windowWaits : State :=
  let s := putObj 0x1100 1 1 State.reset
  { s with
    pwr := { s.pwr with domains := .replicate 8 true, pll := .replicate 3 true }
    sense := { s.sense with windows := [(2, 0, 20010)], convFree := s.sense.convFree.set 12 20050 }
    br := s.br.set 2 { s.br[2] with meas := { s.br[2].meas with shuntAt := #v[20010, 0, 0] } } }

/-- The sample instant of bridge 1 is served first, and the aperture of bridge 2 moves by a conversion (R117). -/
theorem windowWaits_moves : (sampleInstant 1 20000 windowWaits).br[(2 : BridgeId)].meas.shuntAt[0] = 20050 := by decide +kernel

/-- Refutes O19: a sample instant changes another bridge, whose window conversion waits for the shunt converter that it takes first (R117). -/
theorem not_controlStepRows : ¬ Obligations.ControlStepRows := by
  intro h
  obtain ⟨-, hsample, -⟩ := h windowWaits 1 1 20000 (by decide +kernel)
  obtain ⟨hopens, -⟩ := hsample (0, true) (by decide +kernel) (by decide +kernel)
  obtain ⟨-, -, -, -, -, -, -, -, hothers, -⟩ := completes_next (u := sampleInstant 1 20000 windowWaits) rfl (hopens (.inl (by decide +kernel)))
  have hkept : (sampleInstant 1 20000 windowWaits).br[(2 : BridgeId)].meas.shuntAt[0] = windowWaits.br[(2 : BridgeId)].meas.shuntAt[0] := by
    rw [hothers 2 (by decide)]
  exact absurd (windowWaits_moves.symm.trans hkept) (by decide +kernel)

end Sys2Proof.Machine
end

section
/-! PROOFS. The measured values of a bridge (O18): what each converter row, window, offset, leg voltage and zero crossing leaves of the state. -/

namespace Sys2Proof.Machine

/-- A row of the pulse clock, with that clock on, completes with what its meaning gives (R33). -/
theorem completes_pulse {c : Instr} {f : State → State} {s : State} {P : State → Prop} (hc : exec c s = .next (onlyIf s.pulseOn f s))
    (hp : s.pulseOn = true) (h : P (f s)) : Completes c s P := by
  rw [hp] at hc
  exact ⟨f s, hc, h⟩

/-! One check of one input (R138, R139) -/

/-- The state with other records of the inputs. -/
def State.withInputs (s : State) (ins : Vector Input 84) : State := { s with sense := { s.sense with inputs := ins } }

theorem markValid_of_valid {n : Fin 84} {s : State} (h : s.sense.inputs[n].valid = true) : markValid n s = s := if_pos h

/-- An input that becomes valid changes its own record, with a report. -/
theorem markValid_frame (n : Fin 84) (s : State) :
    ∃ ins, (markValid n s).silent = (s.withInputs ins).silent ∧ (markValid n s).test.inject = s.test.inject := by
  unfold markValid
  split
  · exact ⟨s.sense.inputs, rfl, rfl⟩
  · exact ⟨_, silent_raise .., raise_inject ..⟩

/-- A check that one input passes leaves all but the records of the inputs, and a valid input stays valid. -/
theorem checkInputs_passed {n : Fin 84} {v : Rat} {s : State} (h : (s.checked n v).2 = 0) :
    ∃ ins, (checkInputs [(n, v)] s).silent = (s.withInputs ins).silent ∧ (checkInputs [(n, v)] s).test.inject = s.test.inject ∧
      (s.sense.inputs[n].valid = true → ins[n].valid = true) := by
  have heq : checkInputs [(n, v)] s =
      if s.actN (0x4100 + n.val) 5 ≤ (s.checked n v).1.good then markValid n (modInput n (fun _ => (s.checked n v).1) s)
      else modInput n (fun _ => (s.checked n v).1) s := by
    simp [checkInputs, h, confirmInvalid, reactInputs]
    rfl
  have hself : (modInput n (fun _ => (s.checked n v).1) s).sense.inputs[n] = (s.checked n v).1 := Vector.getElem_set_self n.2
  have hkept : (s.checked n v).1.valid = s.sense.inputs[n].valid := rfl
  rw [heq]
  split
  · cases hv : s.sense.inputs[n].valid with
    | true =>
      rw [markValid_of_valid (by rw [hself, hkept, hv])]
      exact ⟨_, rfl, rfl, fun _ => (congrArg Input.valid hself).trans (hkept.trans hv)⟩
    | false =>
      obtain ⟨ins, hs, hi⟩ := markValid_frame n (modInput n (fun _ => (s.checked n v).1) s)
      exact ⟨ins, hs, hi, fun hno => absurd hno Bool.false_ne_true⟩
  · exact ⟨_, rfl, rfl, fun hv => (congrArg Input.valid hself).trans (hkept.trans hv)⟩

/-- The value in use of a valid input is its last good one (R139). -/
theorem inputUse_of_valid {n : Fin 84} {other : Option Rat} {s : State} (h : s.sense.inputs[n].valid = true) :
    s.inputUse n other = some ((s.sense.inputs[n].lastGood : Rat) / 1000) := if_pos h

/-! Fast conversions (R118) -/

theorem injects_of_nil {s : State} (h : s.test.inject = []) (point : Nat) : s.injects point = false := by rw [State.injects, h]; rfl

theorem endForced_of_nil {ch : Fin 14} {n : Fin 84} {s : State} (h : s.test.inject = []) : endForced ch n s = s := by
  rw [endForced, injects_of_nil h, Bool.false_and, if_neg Bool.false_ne_true]

theorem forcedCode_of_nil {s : State} (h : s.test.inject = []) (ch : Fin 14) (code : BitVec 16) : s.forcedCode ch code = code := by
  rw [State.forcedCode, injects_of_nil h, if_neg Bool.false_ne_true]

theorem settleChop_of_no_vector {s : State} (h : s.cont.vector = none) : settleChop s = s := by
  unfold settleChop
  rw [h]

/-- The measured values with a fresh phase current. -/
def Meas.fresh (k : Fin 3) (v : Rat) (m : Meas) : Meas := { m with pi := m.pi.set k v, piFresh := m.piFresh.set k true }

/-- A shunt conversion is available from tick t on. -/
def putShunt (v : Rat) (t : Nat) (s : State) : State := { s with drive := { s.drive with shunt := v, shuntAt := t } }

/-- A DC-link conversion is available, as the value in use: the input's own, or its substitute, which Clove's path draws (R139). -/
def keepUse (s : State) : State :=
  let u := match s.inputUse udcInput (some (Config.cloveUdc s.freeCount)) with
    | some v => noteUdc v s
    | none => s
  onlyIf (!u.sense.inputs[udcInput].valid) drew u

theorem keepUse_of_valid {s : State} (h : s.sense.inputs[udcInput].valid = true) :
    keepUse s = noteUdc ((s.sense.inputs[udcInput].lastGood : Rat) / 1000) s := by
  have hv (v : Rat) : (noteUdc v s).sense.inputs[udcInput].valid = true := h
  unfold keepUse
  rw [inputUse_of_valid h]
  simp only [hv]
  rfl

/-- What is noted of the DC link does not depend on the reports. -/
theorem silent_noteUdc (v : Rat) {s u : State} (h : s.silent = u.silent) : (noteUdc v s).silent = (noteUdc v u).silent :=
  have e := congrArg (noteUdc v) h; e

theorem silent_putShunt (v : Rat) (t : Nat) {s u : State} (h : s.silent = u.silent) : (putShunt v t s).silent = (putShunt v t u).silent :=
  have e := congrArg (putShunt v t) h; e

section
variable {s : State} {code : BitVec 16} {t0 : Nat}

theorem fastConversion_phase {l : LegId} (hi : s.test.inject = []) (hu : s.unusedPhase (brOfLeg l) ≠ some (phaseOfLeg l)) :
    fastConversion ⟨l.val, by have := l.2; omega⟩ code t0 s =
      endForced ⟨l.val, by have := l.2; omega⟩ (piInput (brOfLeg l) (phaseOfLeg l))
        (checkInputs [(piInput (brOfLeg l) (phaseOfLeg l), s.sifted (piInput (brOfLeg l) (phaseOfLeg l)) (s.piAmps l code))]
          (modMeas (brOfLeg l) (Meas.fresh (phaseOfLeg l) (s.sifted (piInput (brOfLeg l) (phaseOfLeg l)) (s.piAmps l code))) (setNow t0 s))) := by
  unfold fastConversion
  extract_lets u code'
  have hcode : code' = code := forcedCode_of_nil hi ..
  rw [dif_pos l.2, hcode]
  exact if_neg hu

theorem fastConversion_shunt (hi : s.test.inject = []) : fastConversion 12 code t0 s =
    endForced 12 shuntInput (settleChop
      (putShunt (((checkInputs [(shuntInput, s.sifted shuntInput (s.shuntAmps code))] (setNow t0 s)).inputUse shuntInput none).getD 0) t0
        (checkInputs [(shuntInput, s.sifted shuntInput (s.shuntAmps code))] (setNow t0 s)))) := by
  unfold fastConversion
  extract_lets u code'
  have hcode : code' = code := forcedCode_of_nil hi ..
  rw [dif_neg (show ¬ (12 : Fin 14).val < 12 by decide), if_pos (show (12 : Fin 14).val = 12 from rfl), ← hcode]
  rfl

theorem fastConversion_udc (hi : s.test.inject = []) : fastConversion 13 code t0 s =
    endForced 13 udcInput (keepUse (checkInputs [(udcInput, s.sifted udcInput (udcVolts code))] (setNow t0 s))) := by
  unfold fastConversion
  extract_lets u code'
  have hcode : code' = code := forcedCode_of_nil hi ..
  rw [dif_neg (show ¬ (13 : Fin 14).val < 12 by decide), if_neg (show (13 : Fin 14).val ≠ 12 by decide), ← hcode]
  rfl

/-- FAST_CONVERSION_COMPLETE of a phase current: the current of its leg is stored as fresh (R118). -/
theorem fastConversion_phase_frame {l : LegId} (hi : s.test.inject = []) (hu : s.unusedPhase (brOfLeg l) ≠ some (phaseOfLeg l))
    (hc : (s.checked (piInput (brOfLeg l) (phaseOfLeg l)) (s.sifted (piInput (brOfLeg l) (phaseOfLeg l)) (s.piAmps l code))).2 = 0) :
    ∃ ins, (fastConversion ⟨l.val, by have := l.2; omega⟩ code t0 s).silent = ((modMeas (brOfLeg l)
      (Meas.fresh (phaseOfLeg l) (s.sifted (piInput (brOfLeg l) (phaseOfLeg l)) (s.piAmps l code))) (setNow t0 s)).withInputs ins).silent := by
  obtain ⟨ins, hs, hj, -⟩ := checkInputs_passed (s := modMeas (brOfLeg l)
    (Meas.fresh (phaseOfLeg l) (s.sifted (piInput (brOfLeg l) (phaseOfLeg l)) (s.piAmps l code))) (setNow t0 s)) hc
  rw [fastConversion_phase hi hu, endForced_of_nil (hj.trans hi)]
  exact ⟨ins, hs⟩

/-- FAST_CONVERSION_COMPLETE of the shunt: the current in use is stored (R118). -/
theorem fastConversion_shunt_frame (hi : s.test.inject = []) (hn : s.cont.vector = none) (hv : s.sense.inputs[shuntInput].valid = true)
    (hc : (s.checked shuntInput (s.sifted shuntInput (s.shuntAmps code))).2 = 0) :
    ∃ ins, (fastConversion 12 code t0 s).silent =
      (putShunt ((ins[shuntInput].lastGood : Rat) / 1000) t0 ((setNow t0 s).withInputs ins)).silent := by
  obtain ⟨ins, hs, hj, hvalid⟩ := checkInputs_passed (s := setNow t0 s) hc
  rw [fastConversion_shunt hi]
  generalize checkInputs [(shuntInput, s.sifted shuntInput (s.shuntAmps code))] (setNow t0 s) = c at hs hj ⊢
  have hsense := silent_eq_sense hs
  have hvector : c.cont.vector = none := (congrArg Contactors.vector (silent_eq_cont hs)).trans hn
  rw [inputUse_of_valid (by rw [hsense]; exact hvalid hv), settleChop_of_no_vector (by exact hvector), endForced_of_nil (by exact hj.trans hi), hsense]
  exact ⟨ins, silent_putShunt _ _ hs⟩

/-- FAST_CONVERSION_COMPLETE of the DC link: the voltage in use is noted (R118, R139). -/
theorem fastConversion_udc_frame (hi : s.test.inject = []) (hv : s.sense.inputs[udcInput].valid = true)
    (hc : (s.checked udcInput (s.sifted udcInput (udcVolts code))).2 = 0) :
    ∃ ins, (fastConversion 13 code t0 s).silent =
      (noteUdc ((ins[udcInput].lastGood : Rat) / 1000) ((setNow t0 s).withInputs ins)).silent := by
  obtain ⟨ins, hs, hj, hvalid⟩ := checkInputs_passed (s := setNow t0 s) hc
  rw [fastConversion_udc hi]
  generalize checkInputs [(udcInput, s.sifted udcInput (udcVolts code))] (setNow t0 s) = c at hs hj ⊢
  have hsense := silent_eq_sense hs
  rw [keepUse_of_valid (by rw [hsense]; exact hvalid hv), endForced_of_nil (by exact hj.trans hi), hsense]
  exact ⟨ins, silent_noteUdc _ hs⟩

end

/-! The shunt windows (R117, R123, R125) -/

/-- At a tick that is not placed for it a window is not sampled. -/
theorem shuntWindow_elsewhere {b : BridgeId} {k : Fin 3} {code : BitVec 16} {t0 : Nat} {s : State}
    (h : ∀ p, s.br[b].meas.plan = some p → p[k] ≠ t0) :
    shuntWindow' b k code t0 s = s := by
  have hnone : s.br[b].meas.plan.any (fun p => p[k] == t0) = false := by
    cases hp : s.br[b].meas.plan with
    | none => rfl
    | some p => exact beq_eq_false_iff_ne.2 (h p hp)
  unfold shuntWindow'
  rw [hnone]
  rfl

/-- A trigger takes the converter from the tick at which it is free, and reports a delay. -/
theorem trigger_silent (ch : Fin 14) (t : Nat) (s : State) : (trigger ch t s).1.silent =
    State.silent { s with sense := { s.sense with convFree := s.sense.convFree.set ch (max t s.sense.convFree[ch] + 40) } } := by
  unfold trigger
  dsimp only
  split
  · rfl
  · rfl

/-- The conversion of a window waits for the converter from tick t on, to begin at tick at0. -/
def queueWindow (b : BridgeId) (k : Fin 3) (t at0 : Nat) (s : State) : State :=
  if t < at0 then { s with sense := { s.sense with windows := s.sense.windows ++ [(b, k, at0)] } } else s

theorem silent_queueWindow (b : BridgeId) (k : Fin 3) (t at0 : Nat) {s u : State} (h : s.silent = u.silent) :
    (queueWindow b k t at0 s).silent = (queueWindow b k t at0 u).silent := by
  unfold queueWindow
  split
  · exact congrArg (fun x : State => { x with sense := { x.sense with windows := x.sense.windows ++ [(b, k, at0)] } }) h
  · exact h

/-- The shunt converter takes a window conversion at tick t, or as soon as it is free (R117). -/
def takeWindowAt (b : BridgeId) (k : Fin 3) (t : Nat) (s : State) : State :=
  { setNow t s with sense := { s.sense with
    convFree := s.sense.convFree.set 12 (max t s.sense.convFree[12] + 40),
    windows := s.waitingWindows t ++ if t < s.sense.convFree[12] then [(b, k, s.sense.convFree[12])] else [] } }

theorem queueWindow_triggered (b : BridgeId) (k : Fin 3) (t : Nat) (s : State) :
    queueWindow b k t (max t s.sense.convFree[12]) { setNow t s with sense := { s.sense with
      windows := s.waitingWindows t, convFree := s.sense.convFree.set 12 (max t s.sense.convFree[12] + 40) } } = takeWindowAt b k t s := by
  unfold takeWindowAt queueWindow
  by_cases h : t < s.sense.convFree[12]
  · rw [if_pos (lt_max_of_lt_right h), if_pos h, max_eq_right h.le]
  · rw [max_eq_left (not_lt.1 h), if_neg (lt_irrefl t), if_neg h, List.append_nil]

/-- The measured values with the current of a window and its aperture. -/
def Meas.windowed (k : Fin 3) (v : Option Rat) (t : Nat) (m : Meas) : Meas := { m with shunt := m.shunt.set k v, shuntAt := m.shuntAt.set k t }

/-- What a check answers does not depend on the reports. -/
theorem checked_silent {s u : State} (h : s.silent = u.silent) (n : Fin 84) (v : Rat) : s.checked n v = u.checked n v :=
  have e := congrArg (fun x => State.checked x n v) h; e

theorem sifted_shuntAmps_silent {s u : State} (h : s.silent = u.silent) (n : Fin 84) (code : BitVec 16) :
    s.sifted n (s.shuntAmps code) = u.sifted n (u.shuntAmps code) :=
  have e := congrArg (fun x => State.sifted x n (State.shuntAmps x code)) h; e

section
variable {b : BridgeId} {k : Fin 3} {code : BitVec 16} {t0 : Nat} {s : State} {p : Vector Nat 3}

/-- A window that is placed triggers the converter, and its conversion is checked. -/
theorem shuntWindow_triggers (hp : s.br[b].meas.plan = some p) (hk : p[k] = t0) : ∃ w : State, w.silent = (takeWindowAt b k t0 s).silent ∧
    shuntWindow' b k code t0 s = modMeas b
      (Meas.windowed k ((checkInputs [(shuntInput, w.sifted shuntInput (w.shuntAmps code))] w).inputUse shuntInput none) (max t0 s.sense.convFree[12]))
      (checkInputs [(shuntInput, w.sifted shuntInput (w.shuntAmps code))] w) := by
  have hplaced : s.br[b].meas.plan.any (fun p => p[k] == t0) = true := by
    rw [hp]
    exact beq_iff_eq.2 hk
  have htrigger := trigger_silent 12 t0 { setNow t0 s with sense := { s.sense with windows := s.waitingWindows t0 } }
  refine ⟨_, (silent_queueWindow b k t0 (max t0 s.sense.convFree[12]) htrigger).trans (congrArg State.silent (queueWindow_triggered b k t0 s)), ?_⟩
  unfold shuntWindow'
  rw [hplaced, Bool.not_true, if_neg Bool.false_ne_true]
  rfl

/-- SHUNT_WINDOW_SAMPLE at its placed tick that passes its check: the current in use with its aperture (R117, R125). -/
theorem shuntWindow_placed (hp : s.br[b].meas.plan = some p) (hk : p[k] = t0) (hv : s.sense.inputs[shuntInput].valid = true)
    (hc : (s.checked shuntInput (s.sifted shuntInput (s.shuntAmps code))).2 = 0) :
    ∃ ins, (shuntWindow' b k code t0 s).silent = (modMeas b
      (Meas.windowed k (some ((ins[shuntInput].lastGood : Rat) / 1000)) (max t0 s.sense.convFree[12]))
      ((takeWindowAt b k t0 s).withInputs ins)).silent := by
  obtain ⟨w, hw, heq⟩ := shuntWindow_triggers (code := code) hp hk
  have hcw : (w.checked shuntInput (w.sifted shuntInput (w.shuntAmps code))).2 = 0 := by
    rw [checked_silent hw, sifted_shuntAmps_silent hw]
    exact hc
  obtain ⟨ins, hs, -, hvalid⟩ := checkInputs_passed hcw
  rw [heq]
  generalize checkInputs [(shuntInput, w.sifted shuntInput (w.shuntAmps code))] w = c at hs ⊢
  have hall : c.silent = ((takeWindowAt b k t0 s).withInputs ins).silent := hs.trans (congrArg (fun u => State.withInputs u ins) hw)
  have hsense := silent_eq_sense hall
  have hins : ins[shuntInput].valid = true := hvalid (by rw [silent_eq_sense hw]; exact hv)
  rw [inputUse_of_valid (by rw [hsense]; exact hins), hsense]
  exact ⟨ins, congrArg (modMeas b (Meas.windowed k (some ((ins[shuntInput].lastGood : Rat) / 1000)) (max t0 s.sense.convFree[12]))) hall⟩

end

/-! Offsets (R120) -/

theorem getElem_foldl_set {n : Nat} {α β : Type} (f : α → Fin n) (g : Fin n → β) (ks : List α) (v : Vector β n) (l : Fin n) :
    (ks.foldl (fun v k => v.set (f k) (g (f k))) v)[l] = if ∃ k ∈ ks, f k = l then g l else v[l] := by
  induction ks generalizing v with
  | nil => simp
  | cons k t ih =>
    rw [List.foldl_cons, ih]
    by_cases hk : f k = l
    · subst hk
      simp
    · have hval : (f k).val ≠ l.val := fun e => hk (Fin.ext e)
      simp [hk, hval]

/-- The legs of a bridge are those of its phases. -/
theorem exists_legOf_iff (b : BridgeId) (l : LegId) : (∃ k ∈ phases, legOf b k = l) ↔ brOfLeg l = b := by
  constructor
  · rintro ⟨k, -, rfl⟩
    exact brOfLeg_legOf b k
  · rintro rfl
    refine ⟨phaseOfLeg l, List.mem_finRange _, ?_⟩
    simp only [legOf, brOfLeg, phaseOfLeg, Fin.ext_iff]
    omega

/-- The shunt's offset of a measurement, kept where every position of the drive was off (R120). -/
def keepShuntOffset (off : Bool) (bemf : Vector Nat 12) (shunt : Int) (s : State) : State :=
  if !off then s
  else if bemf.all (fun e => decide (e < s.actN 0x4030 1)) && decide (shunt.natAbs ≤ s.act 0x4015 1) then
    { s with sense := { s.sense with shuntOffset := shunt } }
  else raise4 0x400C [0] s

/-- The results of a measurement begun are those of the bridges that are off, and then that of the shunt. -/
theorem offsetsDone_begun {pi : Vector Int 12} {bemf : Vector Nat 12} {shunt : Int} {s : State} (h : s.sense.offsetRun = true) :
    offsetsDone pi bemf shunt s = keepShuntOffset (allBr.all s.allOff) bemf shunt
      (forBr (allBr.filter s.allOff) (storeOffsets pi bemf) { s with sense := { s.sense with offsetRun := false } }) := by
  unfold offsetsDone
  rw [h]
  rfl

section
variable {pi : Vector Int 12} {bemf : Vector Nat 12} {shunt : Int} {s : State}

/-- With every offset in range those of a bridge are stored. -/
theorem storeOffsets_inRange (h : ∀ l : LegId, s.offsetFails pi[l] bemf[l] = false) (b : BridgeId) :
    ∃ v : Vector Int 12, storeOffsets pi bemf b s = { s with sense := { s.sense with piOffset := v } } ∧
      ∀ l : LegId, v[l] = if brOfLeg l = b then pi[l] else s.sense.piOffset[l] := by
  have hbad : (phases.filter fun k => s.offsetFails pi[legOf b k] bemf[legOf b k]) = [] :=
    List.filter_eq_nil_iff.2 fun k _ => by rw [h (legOf b k)]; exact Bool.false_ne_true
  refine ⟨phases.foldl (fun v k => v.set (legOf b k) pi[legOf b k]) s.sense.piOffset, ?_, fun l => ?_⟩
  · unfold storeOffsets
    rw [hbad]
    rfl
  · rw [getElem_foldl_set (legOf b) (fun l => pi[l])]
    simp only [exists_legOf_iff]

/-- With every offset in range those of the bridges named are stored. -/
theorem forBr_storeOffsets (h : ∀ l : LegId, s.offsetFails pi[l] bemf[l] = false) (bs : List BridgeId) :
    ∃ v : Vector Int 12, forBr bs (storeOffsets pi bemf) s = { s with sense := { s.sense with piOffset := v } } ∧
      ∀ l : LegId, v[l] = if brOfLeg l ∈ bs then pi[l] else s.sense.piOffset[l] := by
  induction bs generalizing s with
  | nil => exact ⟨s.sense.piOffset, rfl, fun l => by simp⟩
  | cons b t ih =>
    obtain ⟨v, hv, hl⟩ := storeOffsets_inRange h b
    obtain ⟨w, hw, hm⟩ := ih (s := { s with sense := { s.sense with piOffset := v } }) h
    refine ⟨w, ?_, fun l => ?_⟩
    · show forBr t (storeOffsets pi bemf) (storeOffsets pi bemf b s) = _
      rw [hv, hw]
    · rw [hm l]
      by_cases ht : brOfLeg l ∈ t
      · simp [ht]
      · simp [ht, hl l]

/-- OFFSET_MEASUREMENT_DONE with every offset in range (R120): the offsets of the bridges that are off, and the shunt's where all are. -/
theorem offsetsDone_inRange (h : ∀ l : LegId, s.offsetFails pi[l] bemf[l] = false) (hs : ((shunt.natAbs : Nat) : Int) ≤ s.act 0x4015 1)
    (hrun : s.sense.offsetRun = true) :
    ∃ v : Vector Int 12, (∀ l : LegId, v[l] = if s.allOff (brOfLeg l) then pi[l] else s.sense.piOffset[l]) ∧
      offsetsDone pi bemf shunt s = { s with sense := { s.sense with
        offsetRun := false, piOffset := v, shuntOffset := if allBr.all s.allOff = true then shunt else s.sense.shuntOffset } } := by
  obtain ⟨v, hv, hl⟩ := forBr_storeOffsets (s := { s with sense := { s.sense with offsetRun := false } }) h (allBr.filter s.allOff)
  refine ⟨v, fun l => ?_, ?_⟩
  · rw [hl l]
    simp [allBr]
  · have hbemf : bemf.all (fun e => decide (e < s.actN 0x4030 1)) = true :=
      Vector.all_eq_true.2 fun i hi => decide_eq_true (lt_of_not_ge fun hle => by
        have hfails := h ⟨i, hi⟩
        rw [State.offsetFails, Bool.or_eq_false_iff] at hfails
        exact of_decide_eq_false hfails.1 hle)
    have hcond : (bemf.all (fun e => decide (e < s.actN 0x4030 1)) && decide ((shunt.natAbs : Int) ≤ s.act 0x4015 1)) = true :=
      Bool.and_eq_true_iff.2 ⟨hbemf, decide_eq_true hs⟩
    rw [offsetsDone_begun hrun, hv]
    cases allBr.all s.allOff
    · rfl
    · exact if_pos hcond

end

/-! Leg voltages (R133, R134, R252) -/

theorem modBr_modBr (b : BridgeId) (f g : Bridge → Bridge) (s : State) : modBr b f (modBr b g s) = modBr b (fun x => f (g x)) s := by
  unfold modBr
  simp

/-- Bridge whose clamp flag, and the time from which its condition of R252 runs, follow its legs. -/
def Bridge.clamped (now : Nat) (x : Bridge) : Bridge :=
  let clamps := (x.pos.all fun p => !p.on) && x.legs.any fun l => l.clampSide != 0
  { x with bemf := { x.bemf with clampFlag := clamps }, force := { x.force with clampAt := if clamps then some (x.force.clampAt.getD now) else none } }

/-- Of a bridge that a change f has just reached, the clamp flag follows with a report. -/
theorem settleClamp_silent (b : BridgeId) (f : Bridge → Bridge) (s : State) :
    (settleClamp b (modBr b f s)).silent = (modBr b (fun _ => (f s.br[b]).clamped s.now) s).silent := by
  unfold settleClamp
  extract_lets clamps was u
  refine (silent_onlyIf _ _ _ fun u => silent_raiseB 0x4009 b [] u).trans ?_
  have hclamps : clamps = (((f s.br[b]).pos.all fun p => !p.on) && (f s.br[b]).legs.any fun l => l.clampSide != 0) := by
    rw [← br_modBr_self b f s]
    rfl
  clear_value clamps
  subst hclamps
  exact congrArg State.silent (modBr_modBr b _ f s)

/-- A leg with the results of its period: the value in use where a set has driven it, the rail at which it lies, and the mean of an off leg. -/
def Leg.measured (use : Option Rat) (side : Nat) (volts : Option Nat) (x : Leg) : Leg :=
  { x with mean := if x.meanCmd.isSome then use else none, clampSide := side, volts := volts }

/-- Bridge that notes whether a phase voltage has reached the minimum amplitude. -/
def Bridge.reaching (reach : Bool) (x : Bridge) : Bridge := { x with bemf := { x.bemf with reached := reach || x.bemf.reached } }

theorem onlyIf_reached (reach : Bool) (b : BridgeId) (f : Bridge → Bridge) (s : State) :
    onlyIf reach (modBr b fun x => { x with bemf := { x.bemf with reached := true } }) (modBr b f s) = modBr b (fun x => (f x).reaching reach) s := by
  cases reach
  · rfl
  · exact modBr_modBr b (Bridge.reaching true) f s

/-- Bridge with the results of a period on one of its legs. -/
def Bridge.period (k : Fin 3) (use : Option Rat) (side : Nat) (volts : Option Nat) (x : Bridge) : Bridge :=
  { x with legs := x.legs.set k (x.legs[k].measured use side volts) }

section
variable {l : LegId} {mean lo hi : Nat} {s : State}

/-- A period result changes its leg, and may show the minimum amplitude; the clamp flag follows. -/
theorem legVoltage_eq : ∃ side volts reach, legVoltage l mean lo hi s =
    let c := checkInputs [(lvInput l, s.sifted (lvInput l) ((mean : Rat) / 10))] s
    settleClamp (brOfLeg l) (onlyIf reach (modBr (brOfLeg l) fun x => { x with bemf := { x.bemf with reached := true } })
      (modBr (brOfLeg l) (Bridge.period (phaseOfLeg l) (c.inputUse (lvInput l) none) side volts) c)) := by
  unfold legVoltage
  extract_lets
  exact ⟨_, _, _, rfl⟩

/-- LEG_VOLTAGE_PERIOD that passes its check changes the bridge of its leg only: the mean of a driven period, and the clamp flag. -/
theorem legVoltage_frame (hv : s.sense.inputs[lvInput l].valid = true)
    (hc : (s.checked (lvInput l) (s.sifted (lvInput l) ((mean : Rat) / 10))).2 = 0) :
    ∃ (ins : Vector Input 84) (x : Bridge), (legVoltage l mean lo hi s).silent = (modBr (brOfLeg l) (fun _ => x) (s.withInputs ins)).silent ∧
      (x.legs[phaseOfLeg l]).mean = (if (s.leg l).meanCmd.isSome then some ((ins[lvInput l].lastGood : Rat) / 1000) else none) ∧
      x.bemf.clampFlag = ((x.pos.all fun p => !p.on) && x.legs.any fun y => y.clampSide != 0) := by
  obtain ⟨ins, hs, -, hvalid⟩ := checkInputs_passed hc
  obtain ⟨side, volts, reach, heq⟩ := legVoltage_eq (l := l) (mean := mean) (lo := lo) (hi := hi) (s := s)
  rw [heq]
  generalize checkInputs [(lvInput l, s.sifted (lvInput l) ((mean : Rat) / 10))] s = c at hs ⊢
  have hbr : c.br = s.br := silent_eq_br (b := s.withInputs ins) hs
  have huse : c.inputUse (lvInput l) none = some ((ins[lvInput l].lastGood : Rat) / 1000) := by
    rw [inputUse_of_valid (by rw [silent_eq_sense hs]; exact hvalid hv), silent_eq_sense hs]
    rfl
  dsimp only
  rw [onlyIf_reached, huse, settleClamp_silent, hbr]
  refine ⟨ins, _, congrArg (modBr (brOfLeg l) fun _ => Bridge.clamped c.now _) hs, ?_, rfl⟩
  exact congrArg Leg.mean (Vector.getElem_set_self (phaseOfLeg l).2)

end

/-! Zero crossings (R132, R238, R306) -/

namespace Aside

variable {o s : State}

theorem setNow {t : Nat} (h : Aside o s) : Aside o (setNow t s) := ⟨h.br, h.gr, h.mem, h.par, h.inject⟩
theorem modClove {g f} (h : Aside o s) : Aside o (modClove g f s) := ⟨h.br, h.gr, h.mem, h.par, h.inject⟩

theorem cloveInvalid {g : GroupId} (h : Aside o s) : Aside o (cloveInvalid g s) := by
  unfold Machine.cloveInvalid
  exact ite h (onlyIf raise ⟨h.br, h.gr, h.mem, h.par, h.inject⟩)

theorem settleClove {g : GroupId} (h : Aside o s) : Aside o (settleClove g s) := by
  unfold Machine.settleClove
  extract_lets
  split
  · exact modClove h
  · exact cloveInvalid h

theorem cloveEdge {g k place t} (h : Aside o s) : Aside o (cloveEdge g k place t s) := settleClove (modClove (setNow h))

end Aside

/-- Clove takes a crossing of the lowest bridge of a group, off or switching (R306): the first part of ZERO_CROSSING. -/
def cloveCrossing (b : BridgeId) (place amp t : Nat) (s : State) : State :=
  match s.groupOf b with
  | some g =>
    if (s.bridgesOf g).head? ≠ some b then s
    else if s.allOff b then (if s.actN 0x8100 9 ≤ amp then cloveEdge g 1 place t s else s)
    else if s.switching b then cloveEdge g 2 place t s else s
  | none => s

theorem Aside.cloveCrossing {b : BridgeId} {place amp t : Nat} {o s : State} (h : Aside o s) : Aside o (cloveCrossing b place amp t s) := by
  unfold Machine.cloveCrossing
  split
  · exact ite h (ite (ite (Aside.cloveEdge h) h) (ite (Aside.cloveEdge h) h))
  · exact h

/-- What a crossing leaves of a bridge on which it is counted (R132). -/
def Bridge.crossed (k : Fin 3) (rising : Bool) (amp t : Nat) (x : Bridge) : Bridge :=
  let l := ((t, k.val, rising) :: x.bemf.crossings).take 6
  { x with bemf := { x.bemf with
    crossings := l, seen := x.bemf.seen + 1, reached := true, standstill := false, amp := amp,
    freq := (crossingFreq l).getD x.bemf.freq,
    angle := crossingAngle (crossingPlace k.val rising) (decide ((crossingFreq l).getD x.bemf.freq < 0)) } }

/-- Bridge with the direction of a phase's last passage. -/
def Bridge.turned (k : Fin 3) (rising : Bool) (x : Bridge) : Bridge := { x with bemf := { x.bemf with last := x.bemf.last.set k (some rising) } }

section
variable {b : BridgeId} {k : Fin 3} {rising : Bool} {legs : Vector Nat 3} {t : Nat} {s : State}

theorem noteCrossing_self (b : BridgeId) (k : Fin 3) (rising : Bool) (amp t : Nat) (s : State) :
    (noteCrossing b k rising amp t s).br[b] = (s.br[b]).crossed k rising amp t := br_modBr_self b (fun _ => (s.br[b]).crossed k rising amp t) s

theorem noteCrossing_ne {b c : BridgeId} (h : c ≠ b) (k : Fin 3) (rising : Bool) (amp t : Nat) (s : State) :
    (noteCrossing b k rising amp t s).br[c] = s.br[c] := br_modBr_ne (fun _ => (s.br[b]).crossed k rising amp t) s h

/-- A crossing below the ninth ends no listen phase (R238). -/
theorem ninth_not_reached (h : s.br[b].start.phase ≠ 1 ∨ s.br[b].bemf.seen < 9) (g : GroupId) :
    ((s.listening g).head? == some b && decide (9 ≤ s.br[b].bemf.seen)) = false := by
  rw [Bool.and_eq_false_iff, beq_eq_false_iff_ne, decide_eq_false_iff_not]
  refine h.imp (fun hphase hhead => hphase ?_) (fun hseen => by omega)
  exact eq_of_beq (List.mem_filter.1 (List.mem_of_mem_head? hhead)).2

/-- Beside Clove, a crossing that passes below the ninth turns its phase, and is noted at the minimum amplitude. -/
theorem zeroCrossing_passed (hoff : s.allOff b = true) (hflag : s.br[b].bemf.clampFlag = false)
    (hpass : s.passes b k rising (phaseAmp legs k) = true) (hend : s.br[b].start.phase ≠ 1 ∨ s.br[b].bemf.seen < 8) :
    ∃ u, Aside s u ∧ zeroCrossing b k rising legs t s =
      if phaseAmp legs k < s.actN 0x4030 1 then modBr b (Bridge.turned k rising) u
      else noteCrossing b k rising (phaseAmp legs k) t (modBr b (Bridge.turned k rising) u) := by
  let u := cloveCrossing b (crossingPlace k.val rising) (phaseAmp legs k) t (setNow t s)
  have hu : Aside s u := (Aside.refl s).setNow.cloveCrossing
  refine ⟨u, hu, ?_⟩
  unfold zeroCrossing
  extract_lets s1 amp place off w v n
  have hw : w = u := rfl
  clear_value w u
  subst hw
  have hact (i : Nat) : w.actN 0x4030 i = s.actN 0x4030 i := by rw [State.actN, State.act, hu.par]; rfl
  have hgoes : (!off || w.br[b].bemf.clampFlag || !w.passes b k rising amp) = false := by
    rw [State.passes, hact, hu.br, hflag]
    simp only [Bool.or_false, Bool.or_eq_false_iff, Bool.not_eq_false']
    exact ⟨hoff, hpass⟩
  rw [if_neg (by rw [hgoes]; decide)]
  have hv : v.actN 0x4030 1 = s.actN 0x4030 1 := hact 1
  rw [hv]
  refine if_congr Iff.rfl rfl ?_
  have hbridge : n.br[b].start.phase = s.br[b].start.phase ∧ n.br[b].bemf.seen = s.br[b].bemf.seen + 1 := by
    have hn : n.br[b] = (v.br[b]).crossed k rising amp t := noteCrossing_self ..
    have hv : v.br[b] = (s.br[b]).turned k rising := (br_modBr_self b _ w).trans (congrArg (Bridge.turned k rising) (by rw [hu.br]))
    rw [hn, hv]
    exact ⟨rfl, rfl⟩
  have hninth := ninth_not_reached (b := b) (s := n) (by rw [hbridge.1, hbridge.2]; omega)
  split
  · rw [hninth, Bool.false_and]
    rfl
  · rfl

end

/-- ZERO_CROSSING_TIMEOUT of an off bridge reports standstill (R132). -/
theorem crossingTimeout_off {b : BridgeId} {s : State} (h : s.allOff b = true) : ∃ n, crossingTimeout b s = { s with
    now := n, br := s.br.set b { s.br[b] with bemf := { s.br[b].bemf with standstill := true, crossings := [], freq := 0, amp := 0 } } } := by
  unfold crossingTimeout
  cases s.br[b].bemf.crossings with
  | nil => exact ⟨_, if_pos h⟩
  | cons c cs => exact ⟨_, if_pos h⟩

/-- ZERO_CROSSING on an off bridge below the ninth of a listen phase (R132): the passage is noted, and counted at the minimum amplitude. -/
theorem zeroCrossing_counted {b : BridgeId} {k : Fin 3} {rising : Bool} {legs : Vector Nat 3} {t0 : Nat} {s : State} (hoff : s.allOff b = true)
    (hflag : s.br[b].bemf.clampFlag = false) (hpass : s.passes b k rising (phaseAmp legs k) = true)
    (hend : s.br[b].start.phase ≠ 1 ∨ s.br[b].bemf.seen < 8) :
    ∃ t, zeroCrossing b k rising legs t0 s = t ∧
      t.br[b] = (if phaseAmp legs k < s.actN 0x4030 1 then (s.br[b]).turned k rising
        else ((s.br[b]).turned k rising).crossed k rising (phaseAmp legs k) t0) ∧
      (∀ c : BridgeId, c ≠ b → t.br[c] = s.br[c]) ∧ t.mem = s.mem ∧ t.gr = s.gr ∧ t.par = s.par := by
  obtain ⟨u, hu, heq⟩ := zeroCrossing_passed (t := t0) hoff hflag hpass hend
  have hself : (modBr b (Bridge.turned k rising) u).br[b] = (s.br[b]).turned k rising :=
    (br_modBr_self ..).trans (congrArg (Bridge.turned k rising) (by rw [hu.br]))
  have hother (c : BridgeId) (hc : c ≠ b) : (modBr b (Bridge.turned k rising) u).br[c] = s.br[c] := (br_modBr_ne _ _ hc).trans (by rw [hu.br])
  refine ⟨_, heq, ?_⟩
  split
  · exact ⟨hself, hother, hu.mem, hu.gr, hu.par⟩
  · exact ⟨(noteCrossing_self ..).trans (by rw [hself]), fun c hc => (noteCrossing_ne hc ..).trans (hother c hc), hu.mem, hu.gr, hu.par⟩

/-- Settles O18: each row by what it leaves of the state but for its reports. -/
theorem measurementRows : Obligations.MeasurementRows := by
  intro s t0
  refine ⟨fun l code hp hi hu hc => ?phase, fun code hp hi hn hv hc => ?shunt, fun code hp hi hc hv => ?link, fun b k code => ⟨fun h => ?elsewhere,
    fun p hp hplan hk hv hc => ?window⟩, fun pi bemf shunt hpi hs => ⟨fun hrun => ?idle, fun hp hrun hall => ?allOff, fun hp hrun hon => ?someOn⟩,
    fun l mean lo hi hp hc hv => ?leg, fun b k rising legs hoff hflag hpass hend => ?crossing, fun b hoff => ?timeout⟩
  case phase =>
    obtain ⟨ins, hs⟩ := fastConversion_phase_frame (t0 := t0) hi hu hc
    refine completes_pulse rfl hp ⟨?_, silent_eq_br hs⟩
    rw [silent_eq_br hs, silent_eq_sense hs, hs]
    rfl
  case shunt =>
    obtain ⟨ins, hs⟩ := fastConversion_shunt_frame (t0 := t0) hi hn hv hc
    refine completes_pulse rfl hp ?_
    rw [silent_eq_sense hs, hs]
    rfl
  case link =>
    obtain ⟨ins, hs⟩ := fastConversion_udc_frame (t0 := t0) hi hv hc
    refine completes_pulse rfl hp ?_
    rw [silent_eq_drive hs, silent_eq_cont hs, silent_eq_sense hs, silent_eq_now hs, hs]
    exact ⟨rfl, rfl, rfl, rfl⟩
  case elsewhere =>
    show Host.Outcome.next (onlyIf s.pulseOn (shuntWindow' b k code t0) s) = _
    cases s.pulseOn
    · rfl
    · exact congrArg Host.Outcome.next (shuntWindow_elsewhere h)
  case window =>
    obtain ⟨ins, hs⟩ := shuntWindow_placed hplan hk hv hc
    refine completes_pulse rfl hp ?_
    rw [silent_eq_br hs, silent_eq_sense hs, hs]
    exact ⟨rfl, rfl, rfl, rfl, rfl⟩
  case idle =>
    show Host.Outcome.next (onlyIf s.pulseOn (offsetsDone pi bemf shunt) s) = _
    have hsame : offsetsDone pi bemf shunt s = s := if_pos (by rw [hrun]; rfl)
    cases s.pulseOn
    · rfl
    · exact congrArg Host.Outcome.next hsame
  case allOff =>
    obtain ⟨v, hl, heq⟩ := offsetsDone_inRange hpi hs hrun
    have hv : v = pi := Vector.ext fun i hi => (hl ⟨i, hi⟩).trans (if_pos (hall _))
    have hdrive : allBr.all s.allOff = true := List.all_eq_true.2 fun b _ => hall b
    show Host.Outcome.next (onlyIf s.pulseOn (offsetsDone pi bemf shunt) s) = _
    rw [if_pos hdrive, hv] at heq
    rw [hp]
    exact congrArg Host.Outcome.next heq
  case someOn =>
    obtain ⟨v, hl, heq⟩ := offsetsDone_inRange hpi hs hrun
    obtain ⟨b, hb⟩ := hon
    have hdrive : ¬ allBr.all s.allOff = true := fun hall => by
      rw [List.all_eq_true.1 hall b (List.mem_finRange b)] at hb
      exact Bool.noConfusion hb
    rw [if_neg hdrive] at heq
    refine completes_pulse rfl hp ?_
    rw [heq]
    exact ⟨rfl, hl⟩
  case leg =>
    obtain ⟨ins, x, hs, hmean, hclamp⟩ := legVoltage_frame (lo := lo) (hi := hi) hv hc
    have hbr := silent_eq_br hs
    have hself : (legVoltage l mean lo hi s).br[brOfLeg l] = x := by rw [hbr, br_modBr_self]
    refine completes_pulse rfl hp ⟨?_, ?_, ?_, fun c hne => ?_⟩
    · rw [hbr, silent_eq_sense hs, hs]
      rfl
    · rw [State.leg, hself, silent_eq_sense hs]
      exact hmean
    · rw [State.allOff, hself]
      exact hclamp
    · rw [hbr]
      exact br_modBr_ne _ _ hne
  case crossing =>
    obtain ⟨t, ht, hself, hothers, hmem, hgr, hpar⟩ := zeroCrossing_counted (t0 := t0) hoff hflag hpass hend
    refine ⟨t, congrArg Host.Outcome.next ht, ?_, fun hle => ?_, fun hlt => ?_, hmem, hothers, hgr, hpar⟩
    · rw [hself]
      split
      · rfl
      · rfl
    · rw [hself, if_neg (not_lt.2 hle)]
      exact ⟨rfl, rfl, rfl, rfl, rfl⟩
    · rw [hself, if_pos hlt]
      rfl
  case timeout =>
    obtain ⟨n, hn⟩ := crossingTimeout_off hoff
    exact ⟨_, congrArg Host.Outcome.next hn, rfl, rfl⟩

end Sys2Proof.Machine
end

section
/-! PROOFS. What a forcing spares. All that it does beside the state and the forcing of its own bridge is `Spares`: a bridge keeps its state and
its forcing and no position turns on, and where nothing but pulse-off comes about (`strict`) the contactors, the STO inputs and all that no safe
state touches stay. One rule per operation, in the order of the model's files; the forcing of one bridge follows. -/

namespace Sys2Proof.Machine

/-- Bridge y has the state and the forcing of bridge x, and a position that x has off is off. -/
structure Bridge.Eases (x y : Bridge) : Prop where
  state : y.state = x.state
  force : y.force = x.force
  off : ∀ k : Fin 6, (x.pos[k]).on = false → (y.pos[k]).on = false

/-- The bridge's other records change. -/
theorem Bridge.Eases.of_eq {x y : Bridge} (hs : y.state = x.state) (hf : y.force = x.force) (hp : y.pos = x.pos) : x.Eases y :=
  ⟨hs, hf, fun _ h => by rw [hp]; exact h⟩

theorem Bridge.Eases.refl (x : Bridge) : x.Eases x := .of_eq rfl rfl rfl

theorem Bridge.Eases.trans {x y z : Bridge} (hxy : x.Eases y) (hyz : y.Eases z) : x.Eases z :=
  ⟨hyz.state.trans hxy.state, hyz.force.trans hxy.force, fun k h => hyz.off k (hxy.off k h)⟩

/-- Nothing is in ASC, no re-acquisition or identification stands, and s has of o what no safe state touches, the contactors and the STO inputs. -/
structure Still (o s : State) : Prop where
  keeps : s.keeps o
  cont : s.cont = o.cont
  stoA : s.clove.stoA = o.clove.stoA
  stoB : s.clove.stoB = o.clove.stoB
  low : ∀ b : BridgeId, s.inAsc b = false
  group : ∀ g : GroupId, s.gr[g].reacq.phase = 0 ∧ s.gr[g].atlas.ident = none

/-- Every bridge of s eases one that meets Q, and where `strict` holds s is still beside them. -/
structure Spares (strict : Prop) (o : State) (Q : BridgeId → Bridge → Prop) (s : State) : Prop where
  bridge : ∀ b : BridgeId, ∃ x, Q b x ∧ x.Eases s.br[b]
  still : strict → Still o s

theorem Still.anyAsc {o s : State} (h : Still o s) : s.anyAsc = false :=
  List.any_eq_false.2 fun b _ => by rw [h.low b]; exact Bool.false_ne_true

section
variable {strict : Prop} {o s : State} {Q : BridgeId → Bridge → Prop} {b : BridgeId}

/-! Rules -/

theorem inAsc_of_force {t : State} (h : t.br[b].force = s.br[b].force) : t.inAsc b = s.inAsc b := by
  rw [State.inAsc, State.inAsc, h]

theorem Spares.low (h : Spares strict o Q s) (hs : strict) (b : BridgeId) : s.br[b].force.pattern.val < 2 :=
  Nat.not_le.1 (of_decide_eq_false ((h.still hs).low b))

/-- A change of records that no safe state has to keep. -/
theorem Spares.frame {pe no fc io tr st sm te bo dr cl pw di ca} (ha : cl.stoA = s.clove.stoA) (hb : cl.stoB = s.clove.stoB)
    (h : Spares strict o Q s) :
    Spares strict o Q { s with pending := pe, now := no, freeCount := fc, io := io, transfer := tr, st := st, streams := sm, test := te, boot := bo,
                               drive := dr, clove := cl, pwr := pw, die := di, can := ca } :=
  ⟨h.bridge, fun hs => have k := h.still hs; ⟨k.keeps, k.cont, ha.trans k.stoA, hb.trans k.stoB, k.low, k.group⟩⟩

/-- A change of anything but the bridges, where something else than pulse-off may come about. -/
theorem Spares.loose {pa me gr dr co} (hs : ¬ strict) (h : Spares strict o Q s) :
    Spares strict o Q { s with par := pa, mem := me, gr := gr, drive := dr, cont := co } :=
  ⟨h.bridge, fun k => absurd k hs⟩

/-- A report. -/
theorem Spares.quiet {u : State} (hq : u.silent = s.silent) (h : Spares strict o Q s) : Spares strict o Q u := by
  have hbr := silent_eq_br hq
  have hcl := silent_eq_clove hq
  refine ⟨fun b => by rw [hbr]; exact h.bridge b, fun hs => ?_⟩
  have k := h.still hs
  exact ⟨keeps_trans (keeps_of_silent hq) k.keeps, (silent_eq_cont hq).trans k.cont, by rw [hcl, k.stoA], by rw [hcl, k.stoB],
    fun b => (inAsc_of_force (by rw [hbr])).trans (k.low b), fun g => by rw [silent_eq_gr hq]; exact k.group g⟩

theorem Spares.mono {Q' : BridgeId → Bridge → Prop} (hQ : ∀ b x, Q b x → Q' b x) (h : Spares strict o Q s) : Spares strict o Q' s :=
  ⟨fun b => let ⟨x, hx, he⟩ := h.bridge b; ⟨x, hQ b x hx, he⟩, h.still⟩

/-- What is known of a bridge is noted. -/
theorem Spares.know {R : Bridge → Prop} (hb : R s.br[b]) (h : Spares strict o Q s) : Spares strict o (Function.update Q b R) s := by
  refine ⟨fun d => ?_, h.still⟩
  by_cases hd : d = b
  · subst hd
    exact ⟨_, by rw [Function.update_self]; exact hb, .refl _⟩
  · rw [Function.update_of_ne hd]
    exact h.bridge d

/-- A bridge of which nothing is claimed. -/
theorem Spares.unclaimed {R : Bridge → Prop} (hx : ∀ x, Q b x) (h : Spares strict o (Function.update Q b R) s) : Spares strict o Q s := by
  refine h.mono fun d x hd => ?_
  by_cases he : d = b
  · exact he ▸ hx x
  · rwa [Function.update_of_ne he] at hd

theorem Spares.ite {c : Prop} [Decidable c] {x y : State} (hx : Spares strict o Q x) (hy : Spares strict o Q y) :
    Spares strict o Q (if c then x else y) := by
  split
  · exact hx
  · exact hy

theorem Spares.onlyIf {c : Bool} {f : State → State} (hf : ∀ {u}, Spares strict o Q u → Spares strict o Q (f u)) (h : Spares strict o Q s) :
    Spares strict o Q (onlyIf c f s) := by
  cases c
  · exact h
  · exact hf h

theorem Spares.foldlMem {α : Type} {l : List α} {f : State → α → State}
    (hf : ∀ {u x}, x ∈ l → Spares strict o Q u → Spares strict o Q (f u x)) (h : Spares strict o Q s) : Spares strict o Q (l.foldl f s) := by
  induction l generalizing s with
  | nil => exact h
  | cons x t ih => exact ih (fun hx => hf (List.mem_cons_of_mem _ hx)) (hf List.mem_cons_self h)

theorem Spares.foldl {α : Type} {l : List α} {f : State → α → State} (hf : ∀ {u x}, Spares strict o Q u → Spares strict o Q (f u x))
    (h : Spares strict o Q s) : Spares strict o Q (l.foldl f s) := .foldlMem (fun _ => hf) h

theorem Spares.forBr {l f} (hf : ∀ {b u}, Spares strict o Q u → Spares strict o Q (f b u)) (h : Spares strict o Q s) :
    Spares strict o Q (forBr l f s) := .foldl hf h

theorem Spares.forGr {l f} (hf : ∀ {g u}, Spares strict o Q u → Spares strict o Q (f g u)) (h : Spares strict o Q s) :
    Spares strict o Q (forGr l f s) := .foldl hf h

theorem inAsc_modBr_ne {d : BridgeId} {f : Bridge → Bridge} (hd : d ≠ b) : (modBr b f s).inAsc d = s.inAsc d :=
  inAsc_of_force (by rw [br_modBr_ne _ _ hd])

/-- An update that eases its bridge. -/
theorem Spares.modBr {f : Bridge → Bridge} (hf : ∀ x : Bridge, x.Eases (f x)) (h : Spares strict o Q s) : Spares strict o Q (modBr b f s) := by
  have hforce (d : BridgeId) : s.br[d].Eases (Machine.modBr b f s).br[d] := by
    by_cases hd : d = b
    · subst hd
      rw [br_modBr_self]
      exact hf _
    · rw [br_modBr_ne _ _ hd]
      exact .refl _
  refine ⟨fun d => ?_, fun hs => ?_⟩
  · obtain ⟨x, hx, he⟩ := h.bridge d
    exact ⟨x, hx, he.trans (hforce d)⟩
  · have k := h.still hs
    exact ⟨k.keeps, k.cont, k.stoA, k.stoB, fun d => (inAsc_of_force (hforce d).force).trans (k.low d), k.group⟩

/-- Any update of a bridge, which is known afterwards. -/
theorem Spares.modOne {f : Bridge → Bridge} {R : Bridge → Prop} (hlow : strict → (f s.br[b]).force.pattern.val < 2) (hb : R (f s.br[b]))
    (h : Spares strict o Q s) : Spares strict o (Function.update Q b R) (Machine.modBr b f s) := by
  refine ⟨fun d => ?_, fun hs => ?_⟩
  · by_cases hd : d = b
    · subst hd
      exact ⟨_, by rw [Function.update_self]; exact hb, by rw [br_modBr_self]; exact .refl _⟩
    · rw [Function.update_of_ne hd, br_modBr_ne _ _ hd]
      exact h.bridge d
  · have k := h.still hs
    refine ⟨k.keeps, k.cont, k.stoA, k.stoB, fun d => ?_, k.group⟩
    by_cases hd : d = b
    · subst hd
      rw [State.inAsc, br_modBr_self]
      exact decide_eq_false (Nat.not_le.2 (hlow hs))
    · rw [inAsc_modBr_ne hd]
      exact k.low d

theorem Spares.modGr {g f} (hf : ∀ x, (f x).reacq.phase = x.reacq.phase ∧ (f x).atlas.ident = x.atlas.ident) (h : Spares strict o Q s) :
    Spares strict o Q (modGr g f s) := by
  refine ⟨h.bridge, fun hs => ?_⟩
  have k := h.still hs
  refine ⟨k.keeps, k.cont, k.stoA, k.stoB, k.low, fun d => ?_⟩
  rw [modGr_gr]
  by_cases hd : (g : Nat) = d
  · obtain rfl : g = d := Fin.ext hd
    have hr : (s.gr.set g (f s.gr[g]))[g] = f s.gr[g] := by simp
    rw [hr, (hf _).1, (hf _).2]
    exact k.group g
  · have hr : (s.gr.set g (f s.gr[g]))[d] = s.gr[d] := by simp [hd]
    rw [hr]
    exact k.group d

theorem Bridge.Eases.modSlot {x : Bridge} {k : Fin 6} {y : Position} (hy : (x.pos[k]).on = false → y.on = false) :
    x.Eases { x with pos := x.pos.set k y } := by
  refine ⟨rfl, rfl, fun j hj => ?_⟩
  by_cases hjk : (k : Nat) = j
  · obtain rfl : k = j := Fin.ext hjk
    have e : (x.pos.set k y)[k] = y := by simp
    exact (congrArg Position.on e).trans (hy hj)
  · have e : (x.pos.set k y)[j] = x.pos[j] := by simp [hjk]
    exact (congrArg Position.on e).trans hj

/-- An update that turns no position on. -/
theorem Spares.modPos {p f} (hf : ∀ x : Position, x.on = false → (f x).on = false) (h : Spares strict o Q s) : Spares strict o Q (modPos p f s) :=
  .modBr (fun _ => .modSlot (hf _)) h

theorem Spares.modAllPos {f} (hf : ∀ k x, (f k x).on = x.on) (h : Spares strict o Q s) : Spares strict o Q (modAllPos b f s) := by
  refine .modBr (fun x => ⟨rfl, rfl, fun k hk => ?_⟩) h
  have e : (Vector.ofFn fun k => f k x.pos[k])[k] = f k x.pos[k] := by simp
  exact (congrArg Position.on e).trans ((hf k _).trans hk)

/-! Reports -/

theorem Spares.modOut {q f} (h : Spares strict o Q s) : Spares strict o Q (modOut q f s) := .frame rfl rfl h
theorem Spares.modCan {c f} (h : Spares strict o Q s) : Spares strict o Q (modCan c f s) := .frame rfl rfl h
theorem Spares.modStream {k f} (h : Spares strict o Q s) : Spares strict o Q (modStream k f s) := .frame rfl rfl h
theorem Spares.bump {i sub} (h : Spares strict o Q s) : Spares strict o Q (bump i sub s) := .quiet (silent_bump ..) h
theorem Spares.peak {i sub v} (h : Spares strict o Q s) : Spares strict o Q (peak i sub v s) := .quiet (silent_peak ..) h
theorem Spares.canQueue {c f p} (h : Spares strict o Q s) : Spares strict o Q (canQueue c f p s) := .quiet (silent_canQueue ..) h
theorem Spares.pushEntry {q e} (h : Spares strict o Q s) : Spares strict o Q (pushEntry q e s) := .quiet (silent_pushEntry ..) h
theorem Spares.raise {code level i p} (h : Spares strict o Q s) : Spares strict o Q (raise code level i p s) := .quiet (silent_raise ..) h
theorem Spares.raiseFirst {code level i p k} (h : Spares strict o Q s) : Spares strict o Q (raiseFirst code level i p k s) :=
  .quiet (silent_raiseFirst ..) h
theorem Spares.raise4 {code p} (h : Spares strict o Q s) : Spares strict o Q (raise4 code p s) := .raise h
theorem Spares.raiseB {code p} (h : Spares strict o Q s) : Spares strict o Q (raiseB code b p s) := .raise h
theorem Spares.raiseG {code g p} (h : Spares strict o Q s) : Spares strict o Q (raiseG code g p s) := .raise h
theorem Spares.complete {r n ws} (h : Spares strict o Q s) : Spares strict o Q (complete r n ws s) := .quiet (silent_complete ..) h

/-! Packets and CAN -/

theorem Spares.drainRing {q k n} (h : Spares strict o Q s) : Spares strict o Q (drainRing q k n s) := by
  induction n generalizing s with
  | zero => exact h
  | succ n ih =>
    unfold Machine.drainRing
    extract_lets
    split
    · exact .ite (ih (.modStream (.modOut h))) h
    · exact h

theorem Spares.discardOldest {k need n} (h : Spares strict o Q s) : Spares strict o Q (discardOldest k need n s) := by
  induction n generalizing s with
  | zero => exact h
  | succ n ih =>
    unfold Machine.discardOldest
    extract_lets
    split
    · exact h
    · split
      · exact h
      · exact ih (.drainRing (.bump (.onlyIf .modStream (.modOut h))))

theorem Spares.toRing {k p} (h : Spares strict o Q s) : Spares strict o Q (toRing k p s) := .peak (.bump (.modStream (.pushEntry (.modOut h))))

theorem Spares.enqueuePacket {k p} (h : Spares strict o Q s) : Spares strict o Q (enqueuePacket k p s) := by
  unfold Machine.enqueuePacket
  extract_lets _ _ _ _ _ _ s1
  have h1 : Spares strict o Q s1 := .raiseFirst (.discardOldest (.bump h))
  split
  · exact .pushEntry (.bump h)
  · exact .ite (.toRing (.bump h)) (.ite (.ite (.toRing h1) (.toRing (.modOut h1))) (.raiseFirst (.bump (.modStream (.bump h)))))

theorem Spares.stopStream {k} (h : Spares strict o Q s) : Spares strict o Q (stopStream k s) := .foldl .complete (.raise4 (.modStream h))

theorem Spares.closePacket {k truncated final} (h : Spares strict o Q s) : Spares strict o Q (closePacket k truncated final s) :=
  .ite h (.enqueuePacket (.onlyIf .bump (.modStream h)))

theorem Spares.streamBridgeLost (h : Spares strict o Q s) : Spares strict o Q (streamBridgeLost b s) :=
  .foldl (fun h => .ite (.ite (.stopStream (.closePacket h)) (.closePacket h)) h) h

theorem Spares.canFailAll {c cause} (h : Spares strict o Q s) : Spares strict o Q (canFailAll c cause s) :=
  .foldl (fun h => .raiseFirst (.bump h)) (.modCan h)

theorem Spares.claimAddress {c a} (h : Spares strict o Q s) : Spares strict o Q (claimAddress c a s) := .canQueue (.modCan h)

theorem Spares.claimNext {c} (h : Spares strict o Q s) : Spares strict o Q (claimNext c s) := by
  unfold Machine.claimNext
  split
  · exact .claimAddress h
  · exact .raise4 (.canQueue (.modCan h))

theorem Spares.startCan {c} (h : Spares strict o Q s) : Spares strict o Q (startCan c s) :=
  .ite (.ite (.claimNext (.modCan (.canFailAll h))) (.claimAddress (.modCan (.canFailAll h)))) (.modCan (.canFailAll h))

theorem Spares.restartCan {old standby c} (h : Spares strict o Q s) : Spares strict o Q (restartCan old standby c s) := .ite (.startCan h) h

/-! Charges and position sources -/

theorem Spares.addEnergy {f} (h : Spares strict o Q s) : Spares strict o Q (addEnergy b f s) := .modBr (fun _ => .of_eq rfl rfl rfl) h

theorem Spares.uncharge (h : Spares strict o Q s) : Spares strict o Q (uncharge b s) := .modBr (fun _ => .of_eq rfl rfl rfl) h

theorem Spares.chargeForced {p} (h : Spares strict o Q s) : Spares strict o Q (chargeForced p b s) := by
  unfold Machine.chargeForced chargeShort
  exact .addEnergy (.addEnergy (.uncharge h))

theorem Spares.settleLimits {g} (h : Spares strict o Q s) : Spares strict o Q (settleLimits g s) :=
  .ite (.bump (.raiseG (.modGr (fun _ => ⟨rfl, rfl⟩) h)))
    (.ite (.raiseG (.modGr (fun _ => ⟨rfl, rfl⟩) h)) (.modGr (fun _ => ⟨rfl, rfl⟩) h))

theorem Spares.switchSource {g i} (h : Spares strict o Q s) : Spares strict o Q (switchSource g i s) :=
  .settleLimits (.modGr (fun _ => ⟨rfl, rfl⟩) (.bump (.raiseG (.modGr (fun _ => ⟨rfl, rfl⟩) h))))

theorem Spares.dropOffsets {g} (h : Spares strict o Q s) : Spares strict o Q (dropOffsets g s) := .modGr (fun _ => ⟨rfl, rfl⟩) h

theorem Spares.takeAssigned {old g} (h : Spares strict o Q s) : Spares strict o Q (takeAssigned old g s) := by
  unfold Machine.takeAssigned
  extract_lets _ _ _ _ s1
  have h1 : Spares strict o Q s1 := .onlyIf .dropOffsets h
  split
  · exact h1
  · split
    · exact .ite h1 (.switchSource h1)
    · exact .modGr (fun _ => ⟨rfl, rfl⟩) h1

theorem Spares.refreshBounds (h : Spares strict o Q s) : Spares strict o Q (refreshBounds s) :=
  .forGr (fun h => .ite h (.onlyIf .raise4 (.onlyIf .raise (.frame rfl rfl h))))
    (.forBr (fun h => .onlyIf .raise4 (.onlyIf .raise (.frame rfl rfl h))) h)

/-! Positions off -/

theorem Spares.endHold {p} (h : Spares strict o Q s) : Spares strict o Q (endHold p s) := by
  unfold Machine.endHold
  split
  · exact h
  · exact .onlyIf .bump (.modPos (fun _ => id) h)

theorem Spares.turnOff {p} (h : Spares strict o Q s) : Spares strict o Q (turnOff p s) := .modPos (fun _ _ => rfl) (.endHold h)

theorem Spares.noteOff (h : Spares strict o Q s) : Spares strict o Q (noteOff b s) :=
  .foldl (fun h => .onlyIf (fun h => .modBr (fun _ => .of_eq rfl rfl rfl) h) h) h

theorem Spares.turnAllOff (h : Spares strict o Q s) : Spares strict o Q (turnAllOff b s) := .foldl .turnOff (.noteOff h)

theorem Spares.clearCharges (h : Spares strict o Q s) : Spares strict o Q (clearCharges s) := by
  have hease (d : BridgeId) : s.br[d].Eases (Machine.clearCharges s).br[d] := by
    have e : (Machine.clearCharges s).br[d] = { s.br[d] with pos := s.br[d].pos.map fun p => { p with charge := [] } } := by
      simp [Machine.clearCharges]
    rw [e]
    refine ⟨rfl, rfl, fun k hk => ?_⟩
    have ek : (s.br[d].pos.map fun p => { p with charge := [] })[k] = { s.br[d].pos[k] with charge := [] } := by simp
    exact (congrArg Position.on ek).trans hk
  refine ⟨fun d => ?_, fun hs => ?_⟩
  · obtain ⟨x, hx, he⟩ := h.bridge d
    exact ⟨x, hx, he.trans (hease d)⟩
  · have k := h.still hs
    exact ⟨k.keeps, k.cont, k.stoA, k.stoB, fun d => (inAsc_of_force (hease d).force).trans (k.low d), k.group⟩

theorem Spares.settlePd7 (h : Spares strict o Q s) : Spares strict o Q (settlePd7 s) := .frame rfl rfl (.onlyIf .clearCharges h)

theorem Spares.restoreWindows (h : Spares strict o Q s) : Spares strict o Q (restoreWindows s) := .frame rfl rfl h

theorem Spares.stopChop (hs : ¬ strict) (h : Spares strict o Q s) : Spares strict o Q (stopChop s) := by
  unfold Machine.stopChop
  split
  · exact h
  · extract_lets _ s1
    have h1 : Spares strict o Q s1 := .loose hs h
    split
    · exact h1
    · exact .forBr (fun h => .foldl (fun k => .modPos (fun _ => id) (.turnOff k)) h) h1

/-! The drive follows -/

/-- The drive changes its state; out of DISCHARGE the pattern of a winding discharge ends, and with it the contactors' record. -/
theorem Spares.setDrive {d} (hd : strict → s.drive.state ≠ .discharge) (h : Spares strict o Q s) : Spares strict o Q (setDrive d s) := by
  unfold Machine.setDrive
  split
  · exact h
  · extract_lets _ _ s1 _ _ _ s2
    have h1 : Spares strict o Q s1 := by
      unfold s1
      by_cases he : s.drive.state = .discharge
      · exact .onlyIf (.stopChop fun hs => hd hs he) h
      · rw [decide_eq_false he]
        exact h
    have hk : s2.keeps s1 := ⟨rfl, activateWhere_stored .., rfl, rfl, rfl, rfl, rfl, rfl⟩
    have h2 : Spares strict o Q s2 := ⟨h1.bridge, fun hs =>
      have k := h1.still hs; ⟨keeps_trans hk k.keeps, k.cont, k.stoA, k.stoB, k.low, k.group⟩⟩
    exact .settlePd7 (.refreshBounds (.restoreWindows (.forGr .takeAssigned (.restartCan (.restartCan h2)))))

/-- DISCHARGE ends with a bridge in ASC only (R259). -/
theorem Spares.settleDrive (h : Spares strict o Q s) : Spares strict o Q (settleDrive s) := by
  have leaves {d e : DriveState} (he : s.drive.state = e) (hne : e ≠ .discharge) : Spares strict o Q (Machine.setDrive d s) :=
    h.setDrive fun _ => he ▸ hne
  unfold Machine.settleDrive
  split
  case h_6 =>
    cases hasc : s.anyAsc with
    | false => exact h
    | true => exact h.setDrive fun hs => absurd ((h.still hs).anyAsc.symm.trans hasc) Bool.false_ne_true
  case h_7 => exact h
  all_goals exact leaves ‹_› (by decide)

theorem Spares.startOutcome {cause} (h : Spares strict o Q s) : Spares strict o Q (startOutcome b cause s) := .foldl .complete (.frame rfl rfl h)

theorem Spares.applyBrake (h : Spares strict o Q s) : Spares strict o Q (applyBrake s) := by
  unfold Machine.applyBrake
  split
  · exact h
  · exact .ite (.bump (.raiseG (.frame rfl rfl h))) h

theorem Spares.applyBrakeOf {g} (h : Spares strict o Q s) : Spares strict o Q (applyBrakeOf g s) := .onlyIf .applyBrake h

theorem Spares.modWin {w f} (h : Spares strict o Q s) : Spares strict o Q (modWin w f s) := .frame rfl rfl h

theorem Spares.closeWindow {w} (h : Spares strict o Q s) : Spares strict o Q (closeWindow w s) := by
  have reported {code p} {u : State} (hu : Spares strict o Q u) : Spares strict o Q (raiseWindow code w p u) := by
    unfold raiseWindow
    split
    · exact .raiseG hu
    · exact .raise4 hu
  exact .ite (reported (.modWin h)) h

theorem Spares.settleGroup {g} (h : Spares strict o Q s) : Spares strict o Q (settleGroup g s) := by
  unfold Machine.settleGroup
  extract_lets _ _ _ _ _ s1 s2
  have h1 : Spares strict o Q s1 := .onlyIf (fun h => .closeWindow (.raiseG (.modGr (fun _ => ⟨rfl, rfl⟩) h))) h
  have h2 : Spares strict o Q s2 := .onlyIf (.modGr (fun _ => ⟨rfl, rfl⟩)) h1
  exact .ite h2 (.restoreWindows (.modWin h2))

/-! Identification, and a group that stops -/

theorem Spares.setAtlasState {g c} (hs : ¬ strict) (h : Spares strict o Q s) : Spares strict o Q (setAtlasState g c s) :=
  .ite h (.raiseG (.loose hs h))

/-- An identification in progress is aborted: only where the group is not still. -/
theorem Spares.abortIdent {g} (h : Spares strict o Q s) : Spares strict o Q (abortIdent g s) := by
  unfold Machine.abortIdent
  extract_lets _
  split
  · exact h
  · next i hi =>
    have hs : ¬ strict := fun hs => by
      have hnone := ((h.still hs).group g).2
      rw [hnone] at hi
      cases hi
    extract_lets s1 s2 s3
    have h1 : Spares strict o Q s1 := .onlyIf (fun h => .forBr (fun h => .modBr (fun x => by
      split
      · exact .of_eq rfl rfl rfl
      · exact .refl x) h) h) h
    have h2 : Spares strict o Q s2 := .loose hs h1
    have h3 : Spares strict o Q s3 := .setAtlasState hs (.loose hs h2)
    split
    · exact .complete h3
    · exact h3

theorem Spares.noteSs1 {g n0} (h : Spares strict o Q s) : Spares strict o Q (noteSs1 g n0 s) := .foldl .complete (.frame rfl rfl (.frame rfl rfl h))

theorem Spares.takeSelection {g} (h : Spares strict o Q s) : Spares strict o Q (takeSelection g s) := by
  unfold Machine.takeSelection
  split
  · exact h
  · exact .foldl .complete (.raiseG (.modGr (fun _ => ⟨rfl, rfl⟩) h))

theorem Spares.unlatchTorque {g} (h : Spares strict o Q s) : Spares strict o Q (unlatchTorque g s) := by
  unfold Machine.unlatchTorque
  split
  · exact h
  · exact .ite (.complete (.modGr (fun _ => ⟨rfl, rfl⟩) h)) (.modGr (fun _ => ⟨rfl, rfl⟩) h)

theorem Spares.groupOut {g} (h : Spares strict o Q s) : Spares strict o Q (groupOut g s) :=
  .ite h (.abortIdent (.applyBrakeOf (.foldl .complete (.onlyIf .noteSs1 (.takeSelection (.modGr (fun _ => ⟨rfl, rfl⟩) (.foldl .raiseG h)))))))

/-! A bridge that changes its state -/

theorem Spares.latchPos {p} (h : Spares strict o Q s) : Spares strict o Q (latchPos p s) :=
  .ite h (.raise (.ite h (.bump (.modPos (fun _ => id) (.turnOff h)))))

theorem Spares.loseSplit (h : Spares strict o Q s) : Spares strict o Q (loseSplit b s) := by
  unfold Machine.loseSplit
  split
  · exact h
  · split
    · exact .ite (.unlatchTorque (.modGr (fun _ => ⟨rfl, rfl⟩) h)) h
    · exact h

theorem Spares.leaveRun (h : Spares strict o Q s) : Spares strict o Q (leaveRun b s) :=
  .streamBridgeLost (.modBr (fun _ => .of_eq rfl rfl rfl) (.foldl (fun h => .ite (.latchPos h) h) (.loseSplit h)))

theorem Spares.groupStandbyEntry {g} (hs : ¬ strict) (h : Spares strict o Q s) : Spares strict o Q (groupStandbyEntry g s) := by
  unfold Machine.groupStandbyEntry
  split
  · exact h
  · extract_lets s0 _ _ _ s1 s2 s3 s4
    have h1 : Spares strict o Q s1 := .loose hs (.takeSelection h)
    have h2 : Spares strict o Q s2 := by
      unfold s2
      split
      · exact .onlyIf .switchSource h1
      · exact h1
    have h4 : Spares strict o Q s4 := .onlyIf (.setAtlasState hs) (.onlyIf .raiseG h2)
    exact .onlyIf (.loose hs) h4

theorem Spares.enterStandby (hs : ¬ strict) (h : Spares strict o Q s) : Spares strict o Q (enterStandby b s) := by
  unfold Machine.enterStandby
  extract_lets _ s0 s1 s2
  have h0 : Spares strict o Q s0 := .modBr (fun _ => .of_eq rfl rfl rfl) h
  have h1 : Spares strict o Q s1 := .frame rfl rfl (.turnAllOff (.modBr (fun _ => .of_eq rfl rfl rfl) (.uncharge h0)))
  have h2 : Spares strict o Q s2 := by
    unfold s2
    split
    · exact .groupStandbyEntry hs h1
    · exact h1
  exact .restoreWindows h2

theorem Spares.settleBridge (h : Spares strict o Q s) : Spares strict o Q (settleBridge b s) := by
  unfold Machine.settleBridge
  extract_lets s1
  have h1 : Spares strict o Q s1 := by
    unfold s1
    split
    · exact .settleGroup (.groupOut h)
    · exact h
  exact .settleDrive (.foldl .complete (.frame rfl rfl h1))

/-- A bridge goes to a state. -/
theorem Spares.bridgeTo {st : BrState} {R : Bridge → Prop} (hst : st = .standby → ¬ strict) (hR : R { s.br[b] with state := st })
    (h : Spares strict o Q s) : Spares strict o (Function.update Q b R) (bridgeTo st b s) := by
  unfold Machine.bridgeTo
  extract_lets old s1 s2 s3
  split
  · next hold => exact h.know (by rwa [← hold] at hR)
  · have h1 : Spares strict o (Function.update Q b R) s1 :=
      h.modOne (fun hs => h.low hs b) hR
    have h2 : Spares strict o (Function.update Q b R) s2 := .onlyIf .leaveRun h1
    have h3 : Spares strict o (Function.update Q b R) s3 := by
      by_cases he : st = .standby
      · exact .onlyIf (.enterStandby (hst he)) h2
      · have hno : s3 = s2 := by unfold s3; rw [decide_eq_false he]; rfl
        rw [hno]
        exact h2
    exact .settleBridge h3

theorem Spares.abortStart {cause} (h : Spares strict o Q s) : Spares strict o Q (abortStart b cause s) := by
  unfold Machine.abortStart
  split
  · extract_lets _ s1 s2
    have h1 : Spares strict o Q s1 := .raiseB (.modBr (fun _ => .of_eq rfl rfl rfl) h)
    have h2 : Spares strict o Q s2 := by
      unfold s2
      split
      · exact .bump h1
      · exact h1
    exact .startOutcome h2
  · exact h

theorem Spares.writeRecord {event level index kind} (h : Spares strict o Q s) : Spares strict o Q (writeRecord event level index kind s) := by
  have hlost : Spares strict o Q (recordLost s) := by
    unfold recordLost
    split
    · exact .ite h (.raise4 h)
    · exact h
  exact .frame rfl rfl hlost

theorem Spares.snapshotFault {src level} (h : Spares strict o Q s) : Spares strict o Q (snapshotFault src level b s) :=
  .bump (.raise4 (.writeRecord h))

theorem Spares.forceOutputs {p} (h : Spares strict o Q s) : Spares strict o Q (forceOutputs p b s) :=
  .foldl (fun h => .modPos (fun _ => id) (.ite h (.turnOff h))) (.onlyIf .noteOff h)

theorem Spares.ascSpeed (h : Spares strict o Q s) : Spares strict o Q (ascSpeed b s) := by
  unfold Machine.ascSpeed
  split
  · exact .ite (.ite h (.onlyIf .raiseG (.bump (.frame rfl rfl h)))) h
  · exact h

/-! Discharge -/

theorem Spares.deferDischarge (hs : ¬ strict) (h : Spares strict o Q s) : Spares strict o Q (deferDischarge s) :=
  .ite (.bump (.raise4 (.loose hs (.stopChop hs h)))) h

theorem Spares.failDischarge (hs : ¬ strict) (h : Spares strict o Q s) : Spares strict o Q (failDischarge s) := by
  unfold Machine.failDischarge
  extract_lets s0 _ _ _ _ s1 s2 s3
  have h1 : Spares strict o Q s1 := .loose hs (.stopChop hs h)
  have h3 : Spares strict o Q s3 := .foldl .complete (.bump (.raise4 h1))
  exact .ite (.frame rfl rfl (.setDrive (fun k => absurd k hs) (.writeRecord h3))) (.setDrive (fun k => absurd k hs) h3)

theorem Spares.startDischarge (hs : ¬ strict) (h : Spares strict o Q s) : Spares strict o Q (startDischarge s) := by
  have runs {winding} {u : State} (hu : Spares strict o Q u) : Spares strict o Q (runDischarge winding u) := by
    unfold runDischarge
    split
    · split
      · exact .failDischarge hs hu
      · exact .bump (.raise4 (.loose hs hu))
    · exact .bump (.raise4 (.loose hs hu))
  exact .ite h (.ite (.ite h (.bump (.raise4 (.loose hs h)))) (runs (.onlyIf (.setDrive fun k => absurd k hs) (.loose hs h))))

theorem Spares.settleDischarge (hs : ¬ strict) (h : Spares strict o Q s) : Spares strict o Q (settleDischarge s) := by
  have hset {d} : Spares strict o Q (Machine.setDrive d s) := .setDrive (fun k => absurd k hs) h
  unfold Machine.settleDischarge
  split
  · exact h
  · split
    · exact .startDischarge hs h
    · split
      · split
        · exact hset
        · exact hset
        · exact h
      · exact h

end

/-! The forcing of one bridge (R68 to R70, R304) -/

/-- The bridge with another pattern, its outputs and its state not yet following. -/
def Bridge.repatterned (p : Fin 4) (x : Bridge) : Bridge :=
  { x with force := { x.force with pattern := p, clampAt := none, ascTo := if 2 ≤ p.val then some p else none } }

/-- Bridge y is x under a pattern: its outputs and its state follow (R69). -/
structure Bridge.Patterned (p : Fin 4) (x y : Bridge) : Prop where
  force : y.force = (x.repatterned p).force
  state : x.state ≠ .lockout → y.state = patternState p
  off : p = 1 → ∀ k : Fin 6, (y.pos[k]).on = false

/-- One source has latched on the bridge, at a level, with its cause, and the bridge is in the safe state of the pattern. -/
structure Bridge.Forced (src : ClassASource) (level : Nat) (p : Fin 4) (y : Bridge) : Prop where
  sources : y.force.sources = [(src, level)]
  cause : src ∈ y.force.causes
  pattern : y.force.pattern = p
  state : y.state = patternState p
  off : p = 1 → ∀ k : Fin 6, (y.pos[k]).on = false

theorem Bridge.Forced.of_eases {src : ClassASource} {level : Nat} {p : Fin 4} {x y : Bridge} (h : x.Forced src level p) (he : x.Eases y) :
    y.Forced src level p := by
  obtain ⟨hsources, hcause, hpattern, hstate, hoff⟩ := h
  rw [← he.force] at hsources hcause hpattern
  exact ⟨hsources, hcause, hpattern, he.state.trans hstate, fun hp k => he.off k (hoff hp k)⟩

theorem Bridge.Eases.repatterned {p : Fin 4} {x y : Bridge} (h : x.Eases y) : (x.repatterned p).Eases (y.repatterned p) :=
  ⟨h.state, by rw [Bridge.repatterned, Bridge.repatterned, h.force], h.off⟩

/-- What each step of a loop brings about for its own item, and leaves as it is for every item, holds of all items at the end. -/
theorem foldl_brings {α : Type} {P : α → State → Prop} {f : State → α → State} (hmake : ∀ a u, P a (f u a))
    (hkeep : ∀ a c u, P a u → P a (f u c)) {l : List α} {a : α} (ha : a ∈ l) (u : State) : P a (l.foldl f u) := by
  have stays (l : List α) (u : State) (hu : P a u) : P a (l.foldl f u) := by
    induction l generalizing u with
    | nil => exact hu
    | cons c t ih => exact ih _ (hkeep a c u hu)
  induction l generalizing u with
  | nil => cases ha
  | cons c t ih =>
    rcases List.mem_cons.1 ha with rfl | ha
    · exact stays t _ (hmake _ u)
    · exact ih ha _

theorem pos_posOf (b : BridgeId) (k : Fin 6) (s : State) : s.pos (posOf b k) = s.br[b].pos[k] := by
  have hbridge : brOfPos (posOf b k) = b := brOfPos_posOf b k
  have hslot : slotOfPos (posOf b k) = k := by simp only [slotOfPos, posOf, Fin.ext_iff]; omega
  unfold State.pos
  simp only [hbridge, hslot]

/-- Under pulse-off every position of a bridge is commanded off. -/
theorem forceOutputs_off (b : BridgeId) (k : Fin 6) (s : State) : ((forceOutputs 1 b s).br[b].pos[k]).on = false := by
  have off (j : Fin 6) (u : State) :
      ((modPos (posOf b j) (fun x => { x with driveEnable := false }) (turnOff (posOf b j) u)).pos (posOf b j)).on = false :=
    (congrArg Position.on (pos_modPos_self ..)).trans (congrArg Position.on (pos_turnOff ..))
  rw [← pos_posOf]
  show ((allSlots.foldl (fun a j => modPos (posOf b j) (fun x => { x with driveEnable := false }) (turnOff (posOf b j) a))
    (noteOff b s)).pos _).on = false
  refine foldl_brings (P := fun k u => (u.pos (posOf b k)).on = false) off (fun i j u hu => ?_) (List.mem_finRange k) _
  by_cases hij : posOf b i = posOf b j
  · rw [hij]
    exact off j u
  · exact (congrArg Position.on ((pos_modPos_ne _ _ hij).trans (pos_turnOff_ne u hij))).trans hu

section
variable {strict : Prop} {o s : State} {Q : BridgeId → Bridge → Prop} {b : BridgeId}

theorem Spares.known {R : Bridge → Prop} (h : Spares strict o (Function.update Q b R) s) : ∃ x, R x ∧ x.Eases s.br[b] := by
  have e := h.bridge b
  rwa [Function.update_self] at e

theorem Spares.once {R R' : Bridge → Prop} (h : Spares strict o (Function.update (Function.update Q b R) b R') s) :
    Spares strict o (Function.update Q b R') s := by
  rwa [Function.update_idem] at h

/-- A pattern is applied to a bridge (R69). -/
theorem Spares.setPattern {p : Fin 4} (hp : strict → p.val < 2) (h : Spares strict o Q s) :
    Spares strict o (Function.update Q b (s.br[b].Patterned p)) (setPattern p b s) := by
  unfold Machine.setPattern
  extract_lets old through s1 s2 s3 s4 s5 s6 s7
  have h2 : Spares strict o (Function.update Q b (· = s.br[b])) s2 := .onlyIf .turnAllOff (.onlyIf .chargeForced (h.know rfl))
  have h4 : Spares strict o (Function.update Q b (s.br[b].repatterned p).Eases) s4 := by
    obtain ⟨x, rfl, hx⟩ := h2.known
    exact .forceOutputs (h2.modOne (f := Bridge.repatterned p) hp hx.repatterned).once
  have h6 : Spares strict o
      (Function.update Q b fun y => (s.br[b].repatterned p).Eases y ∧ (p = 1 → ∀ k : Fin 6, (y.pos[k]).on = false)) s6 := by
    obtain ⟨x, hx, he⟩ := h4.known
    refine .onlyIf .ascSpeed (.modBr (fun _ => .of_eq rfl rfl rfl) (h4.know ⟨hx.trans he, fun hone k => ?_⟩).once)
    subst hone
    exact forceOutputs_off b k s3
  have h7 : Spares strict o (Function.update Q b (s.br[b].Patterned p)) s7 := by
    obtain ⟨x, ⟨hx, hoff⟩, he⟩ := h6.known
    have hforce := (hx.trans he).force
    have hlast : s6.br[b].state = s.br[b].state := (hx.trans he).state
    unfold s7
    split
    · next hlock => exact (h6.know ⟨hforce, fun hno => absurd (hlast.symm.trans hlock) hno, fun hone k => he.off k (hoff hone k)⟩).once
    · exact (h6.bridgeTo (fun hst => absurd hst (patternState_ne_standby p)) ⟨hforce, fun _ => rfl, fun hone k => he.off k (hoff hone k)⟩).once
  refine .settlePd7 ?_
  split
  · next hasc => exact h7.deferDischarge fun hs => absurd (hp hs) (Nat.not_lt.2 hasc)
  · cases hlow : decide (2 ≤ old.val) with
    | false => exact h7
    | true => exact h7.settleDischarge fun hs => absurd (((h.still hs).low b).symm.trans hlow) Bool.false_ne_true

/-- The brake touches neither the groups nor the objects. -/
theorem applyBrakeOf_gr_par (g : GroupId) (s : State) : (applyBrakeOf g s).gr = s.gr ∧ (applyBrakeOf g s).par = s.par := by
  unfold applyBrakeOf
  cases decide (s.brakeGroup = some g)
  · exact ⟨rfl, rfl⟩
  · rw [onlyIf_true]
    unfold applyBrake
    split
    · exact ⟨rfl, rfl⟩
    · split
      · exact ⟨by simp, by simp⟩
      · exact ⟨rfl, rfl⟩

/-- The pattern that a source takes a free bridge to (R68, R304). -/
def sourcePattern (src : ClassASource) (p : Fin 4) : Fin 4 := if srcAlwaysOff src then 1 else p

theorem sourcePattern_ne_zero (src : ClassASource) {p : Fin 4} (h : p ≠ 0) : sourcePattern src p ≠ 0 := by
  unfold sourcePattern
  split
  · decide
  · exact h

/-- A re-acquisition that does not run is not broken. -/
theorem reacqBroken_idle {g : GroupId} (h : s.gr[g].reacq.phase = 0) : reacqBroken g s = s := by
  unfold reacqBroken
  simp only [h]
  rfl

theorem groupOf_congr {t : State} (h : t.par = s.par) : t.groupOf b = s.groupOf b := by
  simp only [State.groupOf, State.bridgesOf, State.actN, State.act, h]

/-- The bridge with the cause of a source present, and with the source latched at a level. -/
def Bridge.latched (src : ClassASource) (level : Nat) (x : Bridge) : Bridge :=
  { x with force := { x.force with causes := if x.force.causes.contains src then x.force.causes else src :: x.force.causes,
                                   sources := (src, level) :: x.force.sources } }

theorem Spares.imp {R R' : Bridge → Prop} (hR : ∀ y, R y → R' y) (h : Spares strict o (Function.update Q b R) s) :
    Spares strict o (Function.update Q b R') s := by
  refine h.mono fun d y hy => ?_
  by_cases hd : d = b
  · subst hd
    rw [Function.update_self] at hy ⊢
    exact hR y hy
  · rwa [Function.update_of_ne hd] at hy ⊢

/-- A source on a bridge that nothing forced takes it to the source's pattern. -/
theorem Bridge.Patterned.forced {src : ClassASource} {level : Nat} {p : Fin 4} {x z y : Bridge} (hfree : x.core.free)
    (hz : (x.latched src level).Eases z) (hy : z.Patterned p y) : y.Forced src level p := by
  obtain ⟨hsources, -, hlock⟩ := hfree
  have hforce := hy.force
  rw [Bridge.repatterned, hz.force] at hforce
  refine ⟨?_, ?_, ?_, hy.state ?_, hy.off⟩
  · rw [hforce]
    exact congrArg _ hsources
  · rw [hforce]
    show src ∈ if x.force.causes.contains src then x.force.causes else src :: x.force.causes
    split
    · next h => exact List.contains_iff_mem.1 h
    · exact List.mem_cons_self
  · rw [hforce]
  · rw [hz.state]
    exact hlock

/-- On a bridge that nothing forced the pattern of the first source wins (R304). -/
theorem mergePattern_latched {src : ClassASource} {level : Nat} {p : Fin 4} {x : Bridge} (hfree : x.core.free) :
    mergePattern (x.latched src level).force src p = sourcePattern src p := by
  obtain ⟨hsources, hpattern, -⟩ := hfree
  have hlist : (x.latched src level).force.sources = [(src, level)] := congrArg _ hsources
  have hzero : (x.latched src level).force.pattern = 0 := hpattern
  unfold mergePattern sourcePattern
  rw [hlist, hzero]
  simp

/-- What a source that is not yet on a bridge does before its pattern is applied (R68, R196, R242): it is latched with its cause, slices, the
brake, a re-acquisition and a start of the bridge end. -/
def latchSource (src : ClassASource) (level : Nat) (b : BridgeId) (s : State) : State :=
  let s := modBr b (fun x => { x with force := { x.force with causes := if x.force.causes.contains src then x.force.causes
                                                                        else src :: x.force.causes } }) s
  let s := abandonSlices (fun q => brOfPos q == b) s
  let s := match s.groupOf b with
    | some g => onlyIf (src != .catchAsc) (applyBrakeOf g) s
    | none => s
  let s := modBr b (fun x => { x with force := { x.force with sources := (src, level) :: x.force.sources } }) s
  let s := match s.groupOf b with
    | some g => onlyIf (src != .catchAsc && src != .reacquisition) (reacqBroken g) s
    | none => s
  let s := onlyIf (src != .catchAsc && s.starting b) (abortStart b 5) s
  onlyIf (src != .catchAsc && s.heldCatch b) (modBr b fun x => { x with start := { x.start with phase := 0 } }) s

/-- Where no re-acquisition of the group is broken, a source is latched and its bridge is not yet forced. -/
theorem Spares.latchSource {src : ClassASource} {level : Nat} (hidle : src = .catchAsc ∨ ∀ g, s.groupOf b = some g → s.gr[g].reacq.phase = 0)
    (h : Spares strict o Q s) : Spares strict o (Function.update Q b (s.br[b].latched src level).Eases) (latchSource src level b s) := by
  unfold Machine.latchSource
  extract_lets s1 s2 s3 s4 s5 s6
  have h3 : Spares strict o (Function.update Q b (s1.br[b]).Eases) s3 := by
    have h2 : Spares strict o (Function.update Q b (s1.br[b]).Eases) s2 :=
      .frame rfl rfl (h.modOne (fun hs => h.low hs b) (by rw [show s1.br[b] = _ from br_modBr_self ..]; exact .refl _))
    unfold s3
    split
    · exact .onlyIf .applyBrakeOf h2
    · exact h2
  have hsame : s4.gr = s.gr ∧ s4.par = s.par := by
    show s3.gr = s.gr ∧ s3.par = s.par
    unfold s3
    split
    · cases src != .catchAsc
      · exact ⟨rfl, rfl⟩
      · exact applyBrakeOf_gr_par ..
    · exact ⟨rfl, rfl⟩
  have h4 : Spares strict o (Function.update Q b (s.br[b].latched src level).Eases) s4 := by
    obtain ⟨x, hx, he⟩ := h3.known
    have hcause := hx.trans he
    rw [show s1.br[b] = _ from br_modBr_self ..] at hcause
    exact (h3.modOne (fun hs => h3.low hs b) ⟨hcause.state, by rw [hcause.force]; rfl, hcause.off⟩).once
  have h5 : Spares strict o (Function.update Q b (s.br[b].latched src level).Eases) s5 := by
    unfold s5
    split
    · next g hg =>
      rcases hidle with rfl | hidle
      · exact h4
      · have hphase : s4.gr[g].reacq.phase = 0 := by
          rw [hsame.1]
          exact hidle g (by rw [← hg, groupOf_congr hsame.2])
        cases (src != .catchAsc && src != .reacquisition)
        · exact h4
        · rw [onlyIf_true, reacqBroken_idle hphase]
          exact h4
    · exact h4
  exact .onlyIf (.modBr fun _ => .of_eq rfl rfl rfl) (.onlyIf .abortStart h5)

/-- A source latches on a bridge (R68 to R70): one that nothing forced is in the safe state of its pattern. -/
theorem Spares.latchForce {src : ClassASource} {p : Fin 4} {level : Nat} (hp : strict → p.val < 2)
    (hidle : src = .catchAsc ∨ ∀ g, s.groupOf b = some g → s.gr[g].reacq.phase = 0) (h : Spares strict o Q s) :
    Spares strict o (Function.update Q b fun y => s.br[b].core.free → p ≠ 0 → y.Forced src level (sourcePattern src p))
      (latchForce src p level b s) := by
  unfold Machine.latchForce
  extract_lets f s1 s2 s3 s4 s5 s6 s7 p' s8
  split
  · next hany =>
    have hnot : ¬ s.br[b].core.free := fun hfree => by
      rw [show f.sources = [] from hfree.1] at hany
      exact Bool.false_ne_true hany
    have h1 : Spares strict o (Function.update Q b fun y => s.br[b].core.free → p ≠ 0 → y.Forced src level (sourcePattern src p)) s1 :=
      h.modOne (fun hs => h.low hs b) fun hfree => absurd hfree hnot
    split
    · exact .snapshotFault (.raise (h1.modOne (fun hs => h1.low hs b) fun hfree => absurd hfree hnot).once)
    · exact h1
  · have h7 : Spares strict o (Function.update Q b (s.br[b].latched src level).Eases) s7 := h.latchSource hidle
    obtain ⟨x, hx, he⟩ := h7.known
    have hlatched := hx.trans he
    have hlow (hs : strict) : p'.val < 2 := by
      unfold p' mergePattern
      split
      · decide
      · rw [if_neg (Nat.not_le.2 (h7.low hs b))]
        exact hp hs
    have hset := (h7.setPattern (b := b) hlow).once
    have h8 : Spares strict o (Function.update Q b fun y => s.br[b].core.free → p ≠ 0 → y.Forced src level (sourcePattern src p)) s8 := by
      unfold s8
      cases hchange : s7.br[b].force.pattern != p' with
      | true =>
        refine hset.imp fun y hy hfree _ => ?_
        have hmerge : p' = sourcePattern src p := by
          unfold p'
          rw [hlatched.force, mergePattern_latched hfree]
        exact hmerge ▸ hy.forced hfree hlatched
      | false =>
        refine h7.imp fun _ _ hfree hne => absurd (bne_eq_false_iff_eq.1 hchange) ?_
        have hzero : s7.br[b].force.pattern = 0 := by
          obtain ⟨-, hpattern, -⟩ := hfree
          exact (congrArg Force.pattern hlatched.force).trans hpattern
        unfold p'
        rw [hzero, hlatched.force, mergePattern_latched hfree]
        exact (sourcePattern_ne_zero src hne).symm
    exact .snapshotFault (.raise h8)

/-! Rest, and the end of an identification (R187, R250 to R253) -/

theorem Spares.dropForce (hs : ¬ strict) (hx : ∀ x, Q b x) (h : Spares strict o Q s) : Spares strict o Q (dropForce b s) :=
  .ite h (.raise (.modAllPos (fun _ _ => rfl) (.turnAllOff
    ((h.modOne (R := fun _ => True) (fun k => absurd k hs) trivial).unclaimed hx))))

theorem Spares.bridgeAway {st : BrState} (hs : ¬ strict) (hx : ∀ x, Q b x) (h : Spares strict o Q s) :
    Spares strict o Q (Machine.bridgeTo st b s) :=
  (h.bridgeTo (R := fun _ => True) (fun _ => hs) trivial).unclaimed hx

theorem Spares.toHeldCatch (hs : ¬ strict) (hx : ∀ x, Q b x) (h : Spares strict o Q s) : Spares strict o Q (toHeldCatch b s) := by
  unfold Machine.toHeldCatch
  extract_lets s1 _ s2
  have h1 : Spares strict o Q s1 :=
    .onlyIf (fun h => (h.latchForce (fun k => absurd k hs) (.inl rfl)).unclaimed hx) h
  have h2 : Spares strict o Q s2 := .modBr (fun _ => .of_eq rfl rfl rfl) h1
  exact .settleBridge (.bridgeAway hs hx h2)

/-- A bridge of which nothing is claimed goes to rest. -/
theorem Spares.toRest (hs : ¬ strict) (hx : ∀ x, Q b x) (h : Spares strict o Q s) : Spares strict o Q (toRest b s) := by
  have hoff : Spares strict o Q (Machine.turnAllOff b (Machine.dropForce b s)) := .turnAllOff (.dropForce hs hx h)
  exact .ite (.toHeldCatch hs hx h) (.settleDischarge hs (.ite (.settleBridge (.enterStandby hs hoff)) (.bridgeAway hs hx hoff)))

/-- An identification ends with its bridges at rest, of which nothing is claimed. -/
theorem Spares.identBroken (hx : ¬ strict → ∀ c : BridgeId, s.br[c].state = .run → ∀ x, Q c x) (h : Spares strict o Q s) :
    Spares strict o Q (identBroken b s) := by
  unfold Machine.identBroken
  split
  · next g _ =>
    split
    · next hident =>
      have hs : ¬ strict := fun hs => by
        rw [((h.still hs).group g).2] at hident
        cases hident
      refine .foldlMem (fun hc hu => .toRest hs (hx hs _ ?_) hu) (.abortIdent h)
      exact of_decide_eq_true (List.mem_filter.1 hc).2
    · exact h
  · exact h

theorem patternState_ne_run (p : Fin 4) : patternState p ≠ .run := by
  unfold patternState
  split <;> simp

/-- Clove puts a bridge that nothing forces into the safe state of a source (R68, R251); the identification that it ends takes bridges of which
nothing is claimed to rest. -/
theorem Spares.safeBridge {src : ClassASource} {level : Nat} (hoff : strict → srcAlwaysOff src = true)
    (hidle : ∀ g, s.groupOf b = some g → s.gr[g].reacq.phase = 0) (hx : ¬ strict → ∀ c, c ≠ b → ∀ x, Q c x) (hfree : s.br[b].core.free)
    (h : Spares strict o Q s) :
    Spares strict o (Function.update Q b (Bridge.Forced src level (sourcePattern src (s.safeChoice b)))) (safeBridge src level b s) := by
  have hmerge : sourcePattern src (sourcePattern src (s.safeChoice b)) = sourcePattern src (s.safeChoice b) := by
    unfold sourcePattern
    split <;> rfl
  have hlow (hs : strict) : (sourcePattern src (s.safeChoice b)).val < 2 := by
    rw [sourcePattern, if_pos (hoff hs)]
    decide
  have hl := h.latchForce (src := src) (level := level) hlow (.inr hidle)
  rw [hmerge] at hl
  have hforced := hl.imp fun y hy => hy hfree (sourcePattern_ne_zero src (safeChoice_ne_zero s b))
  refine hforced.identBroken fun hs c hrun x => ?_
  by_cases hc : c = b
  · subst hc
    obtain ⟨x, hx, he⟩ := hforced.known
    exact absurd ((he.state.trans hx.state).symm.trans hrun) (patternState_ne_run _)
  · rw [Function.update_of_ne hc]
    exact hx hs c hc x

end

end Sys2Proof.Machine
end

section
/-! PROOFS. The rows of STO (O34): its request takes every free bridge to pulse-off and spares the rest. -/

namespace Sys2Proof.Machine

/-! STO (R273, R274) -/

section
variable {strict : Prop} {o s : State} {Q : BridgeId → Bridge → Prop} {b : BridgeId}

/-- STO takes one free bridge after the other to pulse-off. -/
theorem Spares.stoBridges (l : List BridgeId) (hn : l.Nodup) (hfree : ∀ b ∈ l, ∀ x, Q b x → x.core.free) (h : Spares True o Q s) :
    Spares True o (fun b x => if b ∈ l then x.Forced .sto 4 1 else Q b x) (Machine.forBr l (Machine.safeBridge .sto 4) s) := by
  induction l generalizing s Q with
  | nil => exact h
  | cons d t ih =>
    obtain ⟨hd, ht⟩ := List.nodup_cons.1 hn
    have hfreed : s.br[d].core.free := by
      obtain ⟨x, hx, he⟩ := h.bridge d
      have e := hfree d List.mem_cons_self x hx
      rwa [Bridge.core, ← he.state, ← he.force] at e
    have h1 := h.safeBridge (b := d) (src := .sto) (level := 4) (fun _ => rfl) (fun g _ => ((h.still trivial).group g).1)
      (fun hs => absurd trivial hs) hfreed
    have hrest : ∀ b ∈ t, ∀ x, Function.update Q d (Bridge.Forced .sto 4 1) b x → x.core.free := fun b hb x hx => by
      rw [Function.update_of_ne (fun e : b = d => hd (e ▸ hb))] at hx
      exact hfree b (List.mem_cons_of_mem _ hb) x hx
    refine (ih ht hrest h1).mono fun b x hx => ?_
    by_cases hb : b ∈ t
    · rw [if_pos hb] at hx
      rw [if_pos (List.mem_cons_of_mem _ hb)]
      exact hx
    · rw [if_neg hb] at hx
      by_cases he : b = d
      · subst he
        rw [Function.update_self] at hx
        rwa [if_pos List.mem_cons_self]
      · rw [Function.update_of_ne he] at hx
        rwa [if_neg (by simp [he, hb])]

theorem Spares.driveSafeSto (h : Spares strict o Q s) : Spares strict o Q (driveSafe true s) := by
  have harm : Spares strict o Q (endArm stAborted s) ∧ (endArm stAborted s).drive.state = s.drive.state := by
    unfold endArm
    cases s.drive.armRef with
    | none => exact ⟨⟨h.bridge, fun hs => have k := h.still hs; ⟨k.keeps, k.cont, k.stoA, k.stoB, k.low, k.group⟩⟩, rfl⟩
    | some r => exact ⟨.complete (.frame rfl rfl h), by rw [complete_drive]⟩
  have hset {d e : DriveState} (he : s.drive.state = e) (hne : e ≠ .discharge) : Spares strict o Q (Machine.setDrive d (endArm stAborted s)) :=
    harm.1.setDrive fun _ => by rw [harm.2, he]; exact hne
  unfold driveSafe
  split
  · exact h
  · exact h
  · exact .settleDrive h
  · next hne => exact hset rfl hne

/-- A request of STO puts every bridge off. -/
theorem Spares.stoRequest (h : Spares True o (fun _ x => x.core.free) s) :
    Spares True o (fun _ x => x.Forced .sto 4 1) (stoRequest s) := by
  unfold Machine.stoRequest safeDrive
  extract_lets s1
  have hall := (Spares.stoBridges (s := Machine.onlyIf (decide (s1.act 0x8040 5 = 1)) Machine.applyBrake s1) allBr (List.nodup_finRange 4)
    (fun _ _ _ hx => hx) (.onlyIf .applyBrake (.bump (.raise4 h)))).mono (Q' := fun _ x => x.Forced .sto 4 1) fun b x hx => by
      rwa [if_pos (show b ∈ allBr from List.mem_finRange b)] at hx
  exact hall.driveSafeSto

/-- A state without a forcing. -/
theorem Spares.start (hunf : s.unforced = true) : Spares strict s (fun _ x => x.core.free) s := by
  obtain ⟨hfree, hgroup⟩ := (unforced_iff s).1 hunf
  refine ⟨fun b => ⟨_, hfree b, .refl _⟩, fun _ => ⟨⟨rfl, rfl, rfl, rfl, rfl, rfl, rfl, rfl⟩, rfl, rfl, rfl, fun b => ?_, hgroup⟩⟩
  obtain ⟨-, hpattern, -⟩ := hfree b
  have hzero : s.br[b].force.pattern = 0 := hpattern
  rw [State.inAsc, hzero]
  rfl

end

/-- The STO inputs as a change of one of them leaves them, with no injection to come. -/
def Clove.withSto (chB high : Bool) (c : Clove) : Clove :=
  { c with stoA := if chB then c.stoA else high, stoB := if chB then high else c.stoB,
           bothLow := c.bothLow || (c.discrepancy && !(if chB then c.stoA else high) && !(if chB then high else c.stoB)) }

theorem stoInput_eq {chB high : Bool} {s : State} (hi : s.test.inject = []) (hon : s.pwr.domains[1] = true) : stoInput chB high s =
    if (s.clove.stoA && s.clove.stoB) && !((s.clove.withSto chB high).stoA && (s.clove.withSto chB high).stoB) then
      stoRequest { s with clove := s.clove.withSto chB high }
    else if !(s.clove.stoA && s.clove.stoB) && (s.clove.withSto chB high).stoA && (s.clove.withSto chB high).stoB then
      raise4 0x8002 [] (forBr allBr (endCause .sto) { s with clove := s.clove.withSto chB high })
    else { s with clove := s.clove.withSto chB high } := by
  unfold stoInput
  simp only [injects_of_nil hi, Bool.or_false, hon, Bool.not_true, Bool.false_eq_true, if_false]
  rfl

/-- The bridge with the cause of a source ended. -/
def Bridge.causeEnded (src : ClassASource) (x : Bridge) : Bridge :=
  { x with force := { x.force with causes := x.force.causes.filter fun c => decide (c ≠ src) } }

theorem forBr_endCause (src : ClassASource) (s : State) : ∃ v, forBr allBr (endCause src) s = { s with br := v } ∧
    ∀ b : BridgeId, v[b] = (s.br[b]).causeEnded src := by
  obtain ⟨v, hv⟩ := forBr_modBr_frame allBr (fun _ => Bridge.causeEnded src) s
  refine ⟨v, hv, fun b => ?_⟩
  have e := br_forBr_modBr (fun _ => Bridge.causeEnded src) s b
  rwa [hv] at e

/-- Settles O34: the first low requests STO, which spares all but the bridges; both high end the cause. -/
theorem stoRows : Obligations.StoRows := by
  intro s hi
  refine ⟨fun chB hon ha hb hunf => ?falls, fun chB hon ha hb hd => ?rises, fun hne hd => ?differ⟩
  case falls =>
    have hrun : stoInput chB false s = stoRequest { s with clove := s.clove.withSto chB false } := by
      rw [stoInput_eq hi hon, if_pos]
      cases chB <;> simp [Clove.withSto, ha, hb]
    have hstart : Spares True { s with clove := s.clove.withSto chB false } (fun _ x => x.core.free) { s with clove := s.clove.withSto chB false } :=
      .start hunf
    have hdone := hstart.stoRequest
    generalize stoRequest { s with clove := s.clove.withSto chB false } = t at hrun hdone
    have hstill := hdone.still trivial
    refine ⟨t, congrArg Host.Outcome.next hrun, ?_, ?_, fun b => ?_, hstill.cont, hstill.keeps⟩
    · rw [hstill.stoA]
      cases chB <;> simp [Clove.withSto, ha]
    · rw [hstill.stoB]
      cases chB <;> simp [Clove.withSto, hb]
    · obtain ⟨x, hx, he⟩ := hdone.bridge b
      obtain ⟨hsources, -, hpattern, hstate, hoff⟩ := hx.of_eases he
      exact ⟨⟨hsources, by rw [hpattern]; decide, by rw [hstate, hpattern]⟩, hpattern, hstate, hoff rfl⟩
  case rises =>
    have hclove : s.clove.withSto chB true = { s.clove with stoA := true, stoB := true } := by
      cases chB <;> simp [Clove.withSto, ha, hb, hd]
    have hrun : stoInput chB true s = raise4 0x8002 [] (forBr allBr (endCause .sto) { s with clove := s.clove.withSto chB true }) := by
      rw [stoInput_eq hi hon, hclove, if_neg (by simp), if_pos]
      cases chB <;> simp [ha, hb]
    obtain ⟨v, hv, hbr⟩ := forBr_endCause .sto { s with clove := s.clove.withSto chB true }
    refine ⟨_, congrArg Host.Outcome.next hrun, ?_, fun b => ?_⟩
    · rw [raise4_br, silent_raise4, hv, hclove]
      rfl
    · rw [raise4_br, hv]
      exact hbr b
  case differ =>
    refine ⟨_, rfl, ?_⟩
    show (stoDiscrepancy s).silent = _
    unfold stoDiscrepancy
    rw [if_neg (by simp [hne, hd]), silent_bump, silent_raise4]
    rfl

end Sys2Proof.Machine
end

section
/-! PROOFS. The rows of Class A and Class B (O22): a source is one forcing of its bridge, the end of an ASC delay turns the shorting side on, and
a Class B trip is a cut and an edge of its leg. -/

namespace Sys2Proof.Machine

/-! The Class A input (R68 to R70, R251) -/

section
variable {s : State} {b : BridgeId}

/-- An active input on a bridge that nothing forces. -/
theorem classAInput_forced {src : ClassASource} (hsrc : src = .shortCircuit ∨ src = .cloveRequest) (hfree : s.br[b].core.free)
    (hidle : ∀ g, s.groupOf b = some g → s.gr[g].reacq.phase = 0) :
    ((classAInput src b true s).br[b]).Forced src 3 (sourcePattern src (s.safeChoice b)) := by
  have hrun : classAInput src b true s = safeBridge src 3 b s := by rcases hsrc with rfl | rfl <;> rfl
  have hstart : Spares False s (fun _ _ => True) s := ⟨fun _ => ⟨_, trivial, .refl _⟩, False.elim⟩
  obtain ⟨x, hx, he⟩ := (hstart.safeBridge (src := src) (level := 3) False.elim hidle (fun _ _ _ _ => trivial) hfree).known
  rw [hrun]
  exact hx.of_eases he

/-- An inactive input of one bridge ends the cause there. -/
theorem classAInput_ended {src : ClassASource} (h : srcDrive src = false) : classAInput src b false s = endCause src b s := by
  have hext : src ≠ .external := by
    rintro rfl
    exact absurd h (by decide)
  unfold classAInput
  rw [if_neg hext, h]
  rfl

end

/-! The end of the ASC delay (R67, R69) -/

/-- The gate charges end at most: nothing else of the bridges follows PD7. -/
theorem settlePd7_eq (s : State) : ∃ v w, settlePd7 s = { s with br := v, pwr := w } ∧
    ∀ c : BridgeId, v[c] = s.br[c] ∨ v[c] = (s.br[c]).uncharged := by
  unfold settlePd7
  extract_lets on s1
  have h1 : ∃ v, s1 = { s with br := v } ∧ ∀ c : BridgeId, v[c] = s.br[c] ∨ v[c] = (s.br[c]).uncharged := by
    unfold s1
    cases s.pwr.domains[7] && !on
    · exact ⟨s.br, rfl, fun _ => .inl rfl⟩
    · exact ⟨_, rfl, fun c => .inr (by simp [Bridge.uncharged])⟩
  obtain ⟨v, hv, hcases⟩ := h1
  rw [hv]
  exact ⟨v, _, rfl, hcases⟩

theorem Bridge.uncharged_uncharged (x : Bridge) : x.uncharged.uncharged = x.uncharged := by
  simp [Bridge.uncharged]

theorem Bridge.uncharged_driveEnable (x : Bridge) (k : Fin 6) : (x.uncharged.pos[k]).driveEnable = (x.pos[k]).driveEnable := by
  simp [Bridge.uncharged]

section
variable {p q : PosId} {s : State}

theorem driveEnable_modPos {f : Position → Position} (hf : ∀ x, (f x).driveEnable = x.driveEnable) :
    ((modPos p f s).pos q).driveEnable = (s.pos q).driveEnable := by
  by_cases h : q = p
  · rw [h, pos_modPos_self, hf]
  · rw [pos_modPos_ne _ _ h]

theorem driveEnable_turnOff : ((turnOff p s).pos q).driveEnable = (s.pos q).driveEnable := by
  by_cases h : q = p
  · rw [h, pos_turnOff]
  · rw [pos_turnOff_ne _ h]

theorem pos_abandonSlices (sel : PosId → Bool) : (abandonSlices sel s).pos q = s.pos q := rfl

theorem driveEnable_turnOn {due : Nat} : ((turnOn p due s).pos q).driveEnable = (s.pos q).driveEnable := by
  have detected {desat : Bool} {u : State} : ((detect p desat due u).pos q).driveEnable = (u.pos q).driveEnable := by
    unfold detect
    extract_lets _
    split
    · rfl
    · rw [pos_abandonSlices, driveEnable_modPos, driveEnable_turnOff]
      exact fun _ => rfl
  unfold turnOn
  split
  · rfl
  · extract_lets _ _ s1
    have h1 : (s1.pos q).driveEnable = (s.pos q).driveEnable := by
      unfold s1
      rw [driveEnable_modPos]
      exact fun _ => rfl
    have h2 (point : Nat) : ((injected point s1).pos q).driveEnable = (s.pos q).driveEnable := h1
    split
    · rw [detected, h2]
    · split
      · rw [detected, h2]
      · exact h1

end

/-- The shorting side of a bridge turns on (R69). -/
def shortOn (b : BridgeId) (high : Bool) (s : State) : State :=
  allSlots.foldl (fun a k => if slotHigh k == high then
    turnOn (posOf b k) a.now (modPos (posOf b k) (fun x => { x with driveEnable := true }) a) else a) s

theorem shortOn_edges {b : BridgeId} {high : Bool} {s : State} (hi : s.test.inject = []) : EdgesOf b s (shortOn b high s) :=
  .foldl (fun h => .ite (.turnOn hi (brOfPos_posOf ..) (.modPos (brOfPos_posOf ..) h)) h) (.refl b s)

theorem shortOn_driveEnable {b : BridgeId} {high : Bool} {k : Fin 6} (hk : slotHigh k = high) (s : State) :
    (((shortOn b high s).br[b].pos[k])).driveEnable = true := by
  rw [← pos_posOf]
  refine foldl_brings (P := fun k u => slotHigh k = high → (u.pos (posOf b k)).driveEnable = true) (fun j u hj => ?_) (fun i j u hu hj => ?_)
    (show k ∈ allSlots from List.mem_finRange k) s hk
  · rw [if_pos (beq_iff_eq.2 hj), driveEnable_turnOn, pos_modPos_self]
  · split
    · rw [driveEnable_turnOn]
      by_cases hij : posOf b i = posOf b j
      · rw [hij, pos_modPos_self]
      · rw [pos_modPos_ne _ _ hij, hu hj]
    · exact hu hj

theorem ascDelayEnd_none {b : BridgeId} {s : State} (h : s.br[b].force.ascTo = none) : ascDelayEnd b s = s := by
  unfold ascDelayEnd
  rw [h]

/-- The bridge whose ASC delay is over at tick t. -/
def Bridge.undelayed (t : Nat) (x : Bridge) : Bridge := { x with force := { x.force with ascTo := none, ascAt := t }, bemf := clearCrossings x.bemf }

/-- The edges of a bridge that begins to short are kept for the window sets (R125). -/
def noteShort (b : BridgeId) (high : Bool) (s : State) : State := phases.foldl (fun a k => noteEdge (legOf b k) high a.now a) s

theorem noteShort_edges {b : BridgeId} {high : Bool} {o s : State} (h : EdgesOf b o s) : EdgesOf b o (noteShort b high s) := by
  have noted {k : Fin 3} {t : Nat} {u : State} (hu : EdgesOf b o u) : EdgesOf b o (noteEdge (legOf b k) high t u) := by
    unfold noteEdge
    rw [brOfLeg_legOf]
    exact .modBr rfl rfl rfl (fun _ => rfl) hu
  exact .foldl noted h

theorem noteEdge_pos (b : BridgeId) (k : Fin 3) (rising : Bool) (t : Nat) (s : State) :
    (noteEdge (legOf b k) rising t s).br[b].pos = s.br[b].pos := by
  unfold noteEdge
  rw [brOfLeg_legOf, br_modBr_self]

theorem noteShort_pos (b : BridgeId) (high : Bool) (s : State) : (noteShort b high s).br[b].pos = s.br[b].pos := by
  unfold noteShort
  induction phases generalizing s with
  | nil => rfl
  | cons k t ih => exact (ih _).trans (noteEdge_pos ..)

theorem ascDelayEnd_some {b : BridgeId} {p : Fin 4} {s : State} (h : s.br[b].force.ascTo = some p) : ∃ c, ascDelayEnd b s =
    onlyIf c (raiseB 0x7104 b []) (settlePd7 (noteShort b (decide (p = 3)) (shortOn b (decide (p = 3)) (modBr b (Bridge.undelayed s.now) s)))) := by
  unfold ascDelayEnd
  rw [h]
  exact ⟨_, rfl⟩

/-- ASC_DELAY_EXPIRY of a running delay: the delay is over, the drive-enable lines of the shorting side are on, and PD7 follows. -/
theorem ascDelayEnd_row {b : BridgeId} {p : Fin 4} {s : State} (h : s.br[b].force.ascTo = some p) (hi : s.test.inject = []) :
    Completes (.ascDelayExpiry b) s fun t => t.silent = { s.silent with br := t.br, pwr := t.pwr } ∧
      t.br[b].force = { s.br[b].force with ascTo := none, ascAt := s.now } ∧
      (∀ k : Fin 6, slotHigh k = decide (p = 3) → (t.br[b].pos[k]).driveEnable = true) ∧
      (∀ c : BridgeId, c ≠ b → (t.br[c]).uncharged = (s.br[c]).uncharged) := by
  obtain ⟨r, hr⟩ := ascDelayEnd_some h
  have hedges : EdgesOf b (modBr b (Bridge.undelayed s.now) s)
      (noteShort b (decide (p = 3)) (shortOn b (decide (p = 3)) (modBr b (Bridge.undelayed s.now) s))) := noteShort_edges (shortOn_edges hi)
  have henable (k : Fin 6) (hk : slotHigh k = decide (p = 3)) :
      ((noteShort b (decide (p = 3)) (shortOn b (decide (p = 3)) (modBr b (Bridge.undelayed s.now) s))).br[b].pos[k]).driveEnable = true := by
    rw [noteShort_pos]
    exact shortOn_driveEnable hk _
  generalize noteShort b _ _ = u at hr hedges henable
  obtain ⟨v, w, hu, hcases⟩ := settlePd7_eq u
  have hsilent : (ascDelayEnd b s).silent = State.silent { u with br := v, pwr := w } := by
    rw [hr, silent_onlyIf _ _ _ (silent_raiseB _ _ _), hu]
  have hbr : (ascDelayEnd b s).br = v := silent_eq_br hsilent
  have hpwr : (ascDelayEnd b s).pwr = w := silent_eq_pwr hsilent
  refine ⟨_, rfl, ?_⟩
  show (ascDelayEnd b s).silent = { s.silent with br := (ascDelayEnd b s).br, pwr := (ascDelayEnd b s).pwr } ∧ _
  have e := congrArg (fun x : State => { x with br := v, pwr := w }) hedges.still
  refine ⟨?_, ?_, fun k hk => ?_, fun c hc => ?_⟩
  · rw [hbr, hpwr, hsilent]
    exact e
  · have hforce : u.br[b].force = { s.br[b].force with ascTo := none, ascAt := s.now } := by
      rw [hedges.force, br_modBr_self]
      rfl
    rw [← hforce]
    show (ascDelayEnd b s).br[b].force = _
    rw [hbr]
    rcases hcases b with hv | hv
    · rw [hv]
    · rw [hv]
      rfl
  · show ((ascDelayEnd b s).br[b].pos[k]).driveEnable = true
    rw [hbr]
    rcases hcases b with hv | hv
    · rw [hv]
      exact henable k hk
    · rw [hv, Bridge.uncharged_driveEnable]
      exact henable k hk
  · show ((ascDelayEnd b s).br[c]).uncharged = _
    have hother : u.br[c] = s.br[c] := (hedges.other c hc).trans (br_modBr_ne _ _ hc)
    rw [hbr, ← hother]
    rcases hcases c with hv | hv
    · rw [hv]
    · rw [hv, Bridge.uncharged_uncharged]

/-- A bridge that is not in ASC does not leave it. -/
theorem ascToOff_elsewhere {b : BridgeId} {freq : Nat} {s : State} (h : s.inAsc b = false) : ascToOff b freq s = s := by
  unfold ascToOff
  split
  · rfl
  · rw [h]
    rfl

/-! The Class B trip (R71, R72) -/

/-- Only bridge b and the reports have changed from o to s. -/
structure Within (b : BridgeId) (o s : State) : Prop where
  still : s.silent = { o.silent with br := s.br }
  other : ∀ c : BridgeId, c ≠ b → s.br[c] = o.br[c]

theorem Within.trans {b : BridgeId} {o u s : State} (hu : Within b o u) (hs : Within b u s) : Within b o s where
  still := by
    have e := congrArg (fun x : State => { x with br := s.br }) hu.still
    exact hs.still.trans e
  other c hc := (hs.other c hc).trans (hu.other c hc)

theorem EdgesOf.within {b : BridgeId} {o s : State} (h : EdgesOf b o s) : Within b o s := ⟨h.still, h.other⟩

theorem Within.modLeg (l : LegId) (f : Leg → Leg) (s : State) : Within (brOfLeg l) s (modLeg l f s) :=
  ⟨rfl, fun _ hc => br_modBr_ne _ _ hc⟩

theorem leg_modLeg (l : LegId) (f : Leg → Leg) (s : State) : (modLeg l f s).leg l = f (s.leg l) := by
  simp [Machine.modLeg, State.leg]

theorem pos_modLeg (l : LegId) (f : Leg → Leg) (p : PosId) (s : State) : (modLeg l f s).pos p = s.pos p := by
  by_cases h : brOfPos p = brOfLeg l
  · simp [Machine.modLeg, State.pos, h]
  · unfold Machine.modLeg State.pos
    rw [br_modBr_ne _ _ h]

/-- The leg under a cut that holds it on the other side. -/
def Leg.cutAt (upper : Bool) (t : Nat) (y : Leg) : Leg := { y with cut := some upper, cutSpan := some (t, 0) }

/-- The pulse of a leg in progress ends: the cut is charged and in force. -/
def cutPulse (l : LegId) (upper : Bool) (t : Nat) (s : State) : State :=
  modLeg l (Leg.cutAt upper t) (onlyIf ((s.leg l).ref == upper) (chargeCut (brOfLeg l) (phaseOfLeg l) upper) s)

/-- A leg under a new cut is taken to the other side. -/
def cutLeg (l : LegId) (upper : Bool) (t : Nat) (s : State) : State :=
  if (s.leg l).ref = !upper then turnOff (posOfLeg l upper) (cutPulse l upper t s) else driveLeg l (!upper) t (cutPulse l upper t s)

/-- The leg with one more period in a row that has a cut. -/
def Leg.counted (y : Leg) : Leg := { y with cutSeen := true, cutRun := y.cutRun + 1 }

theorem leg_eq_of_silent {l : LegId} {s u : State} (h : u.silent = s.silent) : u.leg l = s.leg l := by
  unfold State.leg
  rw [silent_eq_br h]

theorem pos_eq_of_silent {p : PosId} {s u : State} (h : u.silent = s.silent) : u.pos p = s.pos p := by
  unfold State.pos
  rw [silent_eq_br h]

section
variable {l : LegId} {upper : Bool} {t : Nat} {s : State}

theorem chargeCut_edges {b : BridgeId} {k : Fin 3} {o : State} (h : EdgesOf b o s) : EdgesOf b o (chargeCut b k upper s) := by
  unfold chargeCut
  exact h.addEnergy

theorem leg_chargeCut : (chargeCut (brOfLeg l) (phaseOfLeg l) upper s).leg l = s.leg l := by
  unfold chargeCut addEnergy State.leg
  rw [br_modBr_self]

theorem cutPulse_leg : (cutPulse l upper t s).leg l = (s.leg l).cutAt upper t := by
  unfold cutPulse
  rw [leg_modLeg]
  cases (s.leg l).ref == upper
  · rfl
  · rw [onlyIf_true, leg_chargeCut]

theorem cutPulse_within : Within (brOfLeg l) s (cutPulse l upper t s) ∧ (cutPulse l upper t s).test.inject = s.test.inject := by
  have hcharged : EdgesOf (brOfLeg l) s (onlyIf ((s.leg l).ref == upper) (chargeCut (brOfLeg l) (phaseOfLeg l) upper) s) :=
    .onlyIf chargeCut_edges (.refl _ s)
  exact ⟨hcharged.within.trans (.modLeg ..), hcharged.inject⟩

theorem cutLeg_within (hi : s.test.inject = []) : Within (brOfLeg l) s (cutLeg l upper t s) := by
  obtain ⟨hcut, hinject⟩ := cutPulse_within (l := l) (upper := upper) (t := t) (s := s)
  refine hcut.trans (EdgesOf.within ?_)
  unfold cutLeg
  exact .ite (.turnOff (brOfPos_posOfLeg ..) (.refl _ _)) (.driveLeg (hinject.trans hi) rfl (.refl _ _))

/-- The leg is cut and on the other side; its count of periods is as before. -/
theorem cutLeg_leg (hi : s.test.inject = []) : ((cutLeg l upper t s).leg l).cut = some upper ∧ ((cutLeg l upper t s).leg l).ref = !upper ∧
    ((cutLeg l upper t s).leg l).cutRun = (s.leg l).cutRun := by
  obtain ⟨-, hinject⟩ := cutPulse_within (l := l) (upper := upper) (t := t) (s := s)
  unfold cutLeg
  split
  · next href =>
    rw [leg_turnOff _ (brOfPos_posOfLeg ..), cutPulse_leg]
    exact ⟨rfl, href, rfl⟩
  · rw [driveLeg_leg (hinject.trans hi), cutPulse_leg]
    exact ⟨rfl, rfl, rfl⟩

theorem cutLeg_off (hi : s.test.inject = []) : ((cutLeg l upper t s).pos (posOfLeg l upper)).on = false := by
  obtain ⟨-, hinject⟩ := cutPulse_within (l := l) (upper := upper) (t := t) (s := s)
  unfold cutLeg
  split
  · rw [pos_turnOff]
  · have e := driveLeg_off (l := l) (high := !upper) (t := t) (hinject.trans hi)
    rwa [Bool.not_not] at e

/-- A trip that finds no pulse to cut. -/
theorem classBTrip_idle (h : s.switching (brOfLeg l) = false ∨ (s.leg l).cut ≠ none ∨ t < (s.leg l).lastEdge + s.actBN (brOfLeg l) 0x2050 5) :
    classBTrip l upper t s = setNow t s := by
  refine if_pos ?_
  show (!s.switching (brOfLeg l) || (s.leg l).cut.isSome || decide (t < (s.leg l).lastEdge + s.actBN (brOfLeg l) 0x2050 5)) = true
  rcases h with h | h | h
  · simp [h]
  · simp [Option.isSome_iff_ne_none.2 h]
  · simp [h]

/-- The first trip of a period is the cut of the leg, a counted period, and below eight of these no more than reports. -/
theorem classBTrip_first (hs : s.switching (brOfLeg l) = true) (hc : (s.leg l).cut = none)
    (ht : (s.leg l).lastEdge + s.actBN (brOfLeg l) 0x2050 5 ≤ t) (hi : s.test.inject = []) (hseen : (s.leg l).cutSeen = false)
    (hrun : (s.leg l).cutRun + 1 ≠ 8) :
    (classBTrip l upper t s).silent = (modLeg l Leg.counted (cutLeg l upper t (setNow t s))).silent := by
  obtain ⟨-, -, hkept⟩ := cutLeg_leg (l := l) (upper := upper) (t := t) (s := setNow t s) hi
  unfold classBTrip
  extract_lets b x s1 s2 s3 s4 s5 s6
  have hgoes : (!s1.switching b || x.cut.isSome || decide (t < x.lastEdge + s1.actBN b 0x2050 5)) = false := by
    show (!s.switching (brOfLeg l) || (s.leg l).cut.isSome || decide (t < (s.leg l).lastEdge + s.actBN (brOfLeg l) 0x2050 5)) = false
    rw [hs, hc, decide_eq_false (Nat.not_lt.2 ht)]
    rfl
  have hfirst : x.cutSeen = false := hseen
  have h6 : s6.silent = (modLeg l Leg.counted (cutLeg l upper t (setNow t s))).silent := silent_injectionCount ..
  have hbelow : (s6.leg l).cutRun ≠ 8 := by
    rw [leg_eq_of_silent h6, leg_modLeg]
    show ((cutLeg l upper t (setNow t s)).leg l).cutRun + 1 ≠ 8
    rw [hkept]
    exact hrun
  rw [if_neg (Bool.eq_false_iff.1 hgoes), if_neg (Bool.eq_false_iff.1 hfirst), if_neg hbelow]
  exact h6

end

/-- CLASS_B_TRIP that cuts a pulse, the first of its period and below the eighth such period in a row. -/
theorem classBTrip_row {l : LegId} {upper : Bool} {t0 : Nat} {s : State} (hs : s.switching (brOfLeg l) = true) (hc : (s.leg l).cut = none)
    (ht : (s.leg l).lastEdge + s.actBN (brOfLeg l) 0x2050 5 ≤ t0) (hi : s.test.inject = []) (hseen : (s.leg l).cutSeen = false)
    (hrun : (s.leg l).cutRun + 1 ≠ 8) :
    Completes (.classBTrip l upper t0) s fun t => t.silent = { s.silent with now := max s.now t0, br := t.br } ∧ (t.leg l).cut = some upper ∧
      (t.leg l).cutSeen = true ∧ (t.leg l).cutRun = (s.leg l).cutRun + 1 ∧ (t.leg l).ref = !upper ∧
      (t.pos (posOfLeg l upper)).on = false ∧ (∀ c : BridgeId, c ≠ brOfLeg l → t.br[c] = s.br[c]) := by
  have hi' : (setNow t0 s).test.inject = [] := hi
  obtain ⟨hcut, href, hkept⟩ := cutLeg_leg (l := l) (upper := upper) (t := t0) hi'
  have hoff := cutLeg_off (l := l) (upper := upper) (t := t0) hi'
  have hwithin := (cutLeg_within (l := l) (upper := upper) (t := t0) hi').trans (.modLeg l Leg.counted _)
  have hsilent := classBTrip_first (upper := upper) hs hc ht hi hseen hrun
  refine ⟨classBTrip l upper t0 s, rfl, ?_⟩
  beta_reduce
  rw [leg_eq_of_silent hsilent, pos_eq_of_silent hsilent, silent_eq_br hsilent, leg_modLeg, pos_modLeg]
  exact ⟨hsilent.trans hwithin.still, hcut, rfl, congrArg (· + 1) hkept, href, hoff, hwithin.other⟩

/-- Settles O22: a Class A source is one forcing of its bridge, the end of a delay turns the shorting side on, and a Class B trip is a cut and an
edge. -/
theorem classAAndClassBRows : Obligations.ClassAAndClassBRows := by
  refine ⟨fun s b => ⟨fun src hsrc hnone hzero hlock hidle => ?active, fun src hd => ?ended, fun h => ?none, fun p h hi => ascDelayEnd_row h hi,
    fun h freq => congrArg Host.Outcome.next (ascToOff_elsewhere h)⟩,
    fun s l upper t0 => ⟨fun h => congrArg Host.Outcome.next (classBTrip_idle h), classBTrip_row⟩⟩
  case active =>
    obtain ⟨hsources, hcause, hpattern, hstate, -⟩ := classAInput_forced hsrc ⟨hnone, hzero, hlock⟩ hidle
    refine ⟨_, rfl, hsources, hcause, hpattern.trans ?_, by rw [hpattern]; exact hstate,
      fun hrun => patternState_ne_run _ (hstate.symm.trans hrun)⟩
    rcases hsrc with rfl | rfl <;> rfl
  case ended => exact congrArg Host.Outcome.next (classAInput_ended hd)
  case none => exact congrArg Host.Outcome.next (ascDelayEnd_none h)

end Sys2Proof.Machine
end

section
/-! PROOFS. The rows of the islands (O23 to O25) and the island state object (O58). Most rows update one position and report, which `OnlyPos` says in
one equation; a prime pulse commands the low sides of its bridge and is `PositionsOf`. Two families are refuted by a state on which the model runs. -/

namespace Sys2Proof.Machine

/-! The island state object (R112) -/

theorem flag_eq (n : Nat) (b : Bool) : flag n b = 2 ^ n * b.toNat := by cases b <;> simp [flag]

theorem bitAt_eq {n w : Nat} {b : Bool} (h : w / 2 ^ n % 2 = b.toNat) : bitAt n w = b := by
  unfold bitAt
  rw [h]
  cases b <;> rfl

theorem decide_ne_zero_eq (n : Fin 3) : decide (n ≠ 0) = (n.val != 0) := by decide +revert

/-- 0x306C reads the island state of its position. -/
theorem readback_islandState (s : State) (p : PosId) : s.readback 0x306C (p.val + 1) = some (s.islandState (s.pos p) : Int) := by
  have hb : p.val / 6 < 4 := by omega
  have hk : p.val % 6 < 6 := by omega
  simp [State.readback, State.read1, State.pos, brOfPos, slotOfPos, hb, hk]

/-- Settles O58: the object is a sum of eight bits and of a three-bit number at their left. -/
theorem islandStateFields : Obligations.IslandStateFields := by
  intro s p
  refine ⟨_, readback_islandState s p, ?_⟩
  unfold State.islandState
  simp only [flag_eq, decide_ne_zero_eq, bits]
  have h0 := Bool.toNat_le (s.pos p).railReady
  have h1 := Bool.toNat_le (s.pos p).railUv
  have h2 := Bool.toNat_le (s.pos p).retry.isSome
  have h3 := Bool.toNat_le (s.pos p).latched
  have h4 := Bool.toNat_le ((s.pos p).soft.val != 0)
  have h5 := Bool.toNat_le (s.pos p).linkValid
  have h6 := Bool.toNat_le (s.pos p).above
  have h7 := Bool.toNat_le (s.pos p).hold.isSome
  refine ⟨by omega, bitAt_eq ?_, bitAt_eq ?_, bitAt_eq ?_, bitAt_eq ?_, bitAt_eq ?_, bitAt_eq ?_, bitAt_eq ?_, bitAt_eq ?_, ?_⟩
  all_goals omega

/-! Rows of one position -/

/-- From o to s only position p and the reports have changed, and the position has become x. -/
def OnlyPos (p : PosId) (x : Position) (o s : State) : Prop := s.silent = (modPos p (fun _ => x) o).silent

theorem modPos_modPos (p : PosId) (f g : Position → Position) (s : State) : modPos p g (modPos p f s) = modPos p (fun x => g (f x)) s := by
  simp [modPos, modBr]

theorem modPos_self (p : PosId) (s : State) : modPos p (fun _ => s.pos p) s = s := by
  have hpos : (s.br[brOfPos p].pos).set (slotOfPos p) (s.pos p) = s.br[brOfPos p].pos := Vector.set_getElem_self (slotOfPos p).2
  have hbr : s.br.set (brOfPos p) s.br[brOfPos p] = s.br := Vector.set_getElem_self (brOfPos p).2
  have e : modPos p (fun _ => s.pos p) s = { s with br := s.br.set (brOfPos p) { s.br[brOfPos p] with
      pos := (s.br[brOfPos p].pos).set (slotOfPos p) (s.pos p) } } := rfl
  rw [e, hpos]
  exact congrArg (fun v => { s with br := v }) hbr

/-- The bridge of an updated position. -/
theorem br_modPos_self (p : PosId) (f : Position → Position) (s : State) :
    (modPos p f s).br[brOfPos p] = { s.br[brOfPos p] with pos := s.br[brOfPos p].pos.set (slotOfPos p) (f (s.pos p)) } := br_modBr_self ..

theorem modPos_start (p : PosId) (f : Position → Position) (s : State) :
    (modPos p f s).br[brOfPos p].start = s.br[brOfPos p].start := by rw [br_modPos_self]

theorem modPos_state (p : PosId) (f : Position → Position) (s : State) :
    (modPos p f s).br[brOfPos p].state = s.br[brOfPos p].state := by rw [br_modPos_self]

/-- A position that is commanded off. -/
def Position.off (x : Position) : Position := { x with on := false, hold := none }

/-- A position that latches, where it has not latched before. -/
def Position.latchedFor (code : Nat) (x : Position) : Position :=
  if x.latched then x else { x.off with latched := true, latchCode := code, retry := none, retryDue := false }

/-- A position that waits for its retry until tick t. -/
def Position.retrying (t : Nat) (x : Position) : Position := { x with retry := some t, retryDue := false }

/-- A position whose rail is in undervoltage. -/
def Position.railLost (x : Position) : Position := { x with railUv := true, railReady := false }

theorem Position.off_of_idle {x : Position} (ho : x.on = false) (hh : x.hold = none) : x.off = x := by
  unfold Position.off
  rw [← ho, ← hh]

/-- A latch of a position that is off: it is latched, and its link and its rail are as before. -/
theorem Position.latchedFor_of_off (code : Nat) {x : Position} (h : x.on = false) :
    (x.latchedFor code).latched = true ∧ (x.latchedFor code).on = false ∧ (x.latchedFor code).linkValid = x.linkValid ∧
      (x.latchedFor code).railReady = x.railReady ∧ (x.latchedFor code).railUv = x.railUv := by
  unfold Position.latchedFor
  split
  · next hl => exact ⟨hl, h, rfl, rfl, rfl⟩
  · exact ⟨rfl, rfl, rfl, rfl, rfl⟩

theorem leaveSide_of_not_inAsc {p : PosId} {s : State} (h : s.inAsc (brOfPos p) = false) : leaveSide p s = s := by
  refine if_neg ?_
  rw [h]
  exact Bool.false_ne_true

namespace OnlyPos

variable {p : PosId} {x : Position} {o s : State}

theorem refl (p : PosId) (s : State) : OnlyPos p (s.pos p) s s := by rw [OnlyPos, modPos_self]

theorem now (h : OnlyPos p x o s) : s.now = o.now := have e := congrArg State.now h; e
theorem par (h : OnlyPos p x o s) : s.par = o.par := have e := congrArg State.par h; e
theorem pos (h : OnlyPos p x o s) : s.pos p = x := (pos_eq_of_silent h).trans (pos_modPos_self ..)

theorem still (h : OnlyPos p x o s) : s.silent = { o.silent with br := s.br } := by
  rw [silent_eq_br h, h]
  rfl

theorem others (h : OnlyPos p x o s) {q : PosId} (hq : q ≠ p) : s.pos q = o.pos q := (pos_eq_of_silent h).trans (pos_modPos_ne _ _ hq)

theorem bridges (h : OnlyPos p x o s) {c : BridgeId} (hc : c ≠ brOfPos p) : s.br[c] = o.br[c] := by
  rw [silent_eq_br h]
  exact br_modBr_ne _ _ hc

theorem inAsc (h : OnlyPos p x o s) : s.inAsc (brOfPos p) = o.inAsc (brOfPos p) := by
  refine inAsc_of_force ?_
  rw [silent_eq_br h, br_modPos_self]

/-- A report. -/
theorem quiet {u : State} (hq : u.silent = s.silent) (h : OnlyPos p x o s) : OnlyPos p x o u := hq.trans h

theorem modPos (f : Position → Position) (h : OnlyPos p x o s) : OnlyPos p (f x) o (modPos p f s) := by
  have e := congrArg (Machine.modPos p f) h
  exact e.trans (congrArg State.silent (modPos_modPos p (fun _ => x) f o))

theorem turnOff (h : OnlyPos p x o s) : OnlyPos p x.off o (turnOff p s) := by
  have hnone : OnlyPos p { x with hold := none } o (endHold p s) := by
    unfold endHold
    split
    · next hn =>
      rw [h.pos] at hn
      rw [← hn]
      exact h
    · exact .quiet (silent_onlyIf _ _ _ (silent_bump _ _)) (h.modPos fun x => { x with hold := none })
  exact hnone.modPos fun x => { x with on := false }

theorem latchFor (code : Nat) (h : OnlyPos p x o s) : OnlyPos p (x.latchedFor code) o (latchFor code p s) := by
  unfold Machine.latchFor Position.latchedFor
  rw [h.pos]
  split
  · exact h
  · exact .quiet (silent_bump ..) (h.turnOff.modPos fun x => { x with latched := true, latchCode := code, retry := none, retryDue := false })

theorem latchPos (h : OnlyPos p x o s) : OnlyPos p (x.latchedFor 0x3004) o (latchPos p s) := by
  unfold Machine.latchPos
  split
  · next hl =>
    rw [h.pos] at hl
    rw [Position.latchedFor, if_pos hl]
    exact h
  · exact .quiet (silent_raise ..) (h.latchFor 0x3004)

theorem leaveSide (ha : o.inAsc (brOfPos p) = false) (h : OnlyPos p x o s) : OnlyPos p x o (leaveSide p s) := by
  rw [leaveSide_of_not_inAsc (h.inAsc.trans ha)]
  exact h

end OnlyPos

/-! Links (R82, R83) -/

theorem linkLost_onlyPos {p : PosId} {s : State} (ha : s.inAsc (brOfPos p) = false) :
    OnlyPos p ({ (s.pos p).off with linkValid := false }.latchedFor 0x300C) s (linkLost p s) :=
  .leaveSide ha (.latchFor 0x300C ((OnlyPos.refl p s).turnOff.modPos fun x => { x with linkValid := false }))

theorem linkReturn_onlyPos {p : PosId} {s : State} (h : (s.pos p).linkValid = false) :
    OnlyPos p { s.pos p with linkValid := true, partnerKnown := true } s (linkReturn p s) := by
  unfold linkReturn
  rw [h, if_neg Bool.false_ne_true]
  exact .quiet (silent_onlyIf _ _ _ (silent_raise _ _ _ _)) ((OnlyPos.refl p s).modPos fun x => { x with linkValid := true, partnerKnown := true })

/-! Rails (R85, R100) -/

theorem railReadyNow_eq {p : PosId} {s : State} (h2 : s.br[brOfPos p].start.phase ≠ 2) (h4 : s.br[brOfPos p].start.phase ≠ 4) :
    railReadyNow p s = modPos p (fun x => { x with railReady := true, railUv := false }) s := by
  unfold railReadyNow
  extract_lets b s1
  have hphase : s1.br[b].start = s.br[b].start := modPos_start ..
  rw [hphase, if_neg h2, if_neg h4, ite_self]

theorem conducts_of_off {p : PosId} {s : State} (h : (s.pos p).on = false) : s.conducts p = false := by
  show ((s.pos p).on && _ && _ && _) = false
  rw [h]
  rfl

/-- The state as the loss of a rail leaves it before the position reacts. -/
def railDown (p : PosId) (s : State) : State := bump (0xE031 + (brOfPos p).val) 8 (modPos p Position.railLost s)

theorem railDown_onlyPos (p : PosId) (s : State) : OnlyPos p (s.pos p).railLost s (railDown p s) :=
  .quiet (silent_bump ..) ((OnlyPos.refl p s).modPos Position.railLost)

theorem railDown_pos (p : PosId) (s : State) : (railDown p s).pos p = (s.pos p).railLost := (railDown_onlyPos p s).pos

theorem railDown_conducts (p : PosId) (s : State) : (railDown p s).conducts p = s.conducts p := by
  have hstart : (railDown p s).br[brOfPos p].start = s.br[brOfPos p].start := modPos_start ..
  simp only [State.conducts, railDown_pos, hstart]
  rfl

theorem railDown_mustLatch (p : PosId) (s : State) : (railDown p s).mustLatch p = s.mustLatch p := by
  have hstate : (railDown p s).br[brOfPos p].state = s.br[brOfPos p].state := modPos_state ..
  simp only [State.mustLatch, railDown_pos, hstate, (railDown_onlyPos p s).inAsc]
  rfl

theorem railUndervoltage_eq {p : PosId} {s : State} (h : (s.pos p).railUv = false) :
    railUndervoltage p s = if s.conducts p then
        retryOrLatch p (s.mustLatch p) (raise 0x300B 1 (p.val + 1) [retryWord (s.mustLatch p)] (turnOff p (railDown p s)))
      else leaveSide p (onlyIf (isHigh p) (turnOff p) (railDown p s)) := by
  rw [← railDown_conducts, ← railDown_mustLatch]
  refine (if_neg (Bool.eq_false_iff.1 h)).trans ?_
  show (if !(railDown p s).conducts p then _ else _) = _
  cases (railDown p s).conducts p
  · rfl
  · rfl

/-- An undervoltage of a position that is off. -/
theorem railUndervoltage_idle {p : PosId} {s : State} (ha : s.inAsc (brOfPos p) = false) (hu : (s.pos p).railUv = false)
    (ho : (s.pos p).on = false) (hh : (s.pos p).hold = none) : OnlyPos p (s.pos p).railLost s (railUndervoltage p s) := by
  have hoff : (s.pos p).railLost.off = (s.pos p).railLost := Position.off_of_idle ho hh
  rw [railUndervoltage_eq hu, conducts_of_off ho, if_neg Bool.false_ne_true]
  refine .leaveSide ha ?_
  cases isHigh p
  · exact railDown_onlyPos p s
  · rw [← hoff]
    exact (railDown_onlyPos p s).turnOff

/-- A position waits for its retry. -/
theorem retryOrLatch_wait (p : PosId) (s : State) : retryOrLatch p false s =
    modPos p (Position.retrying (s.now + s.actN 0x3040 1 * ticksPerMs)) s := rfl

theorem retryOrLatch_latch (p : PosId) (s : State) : retryOrLatch p true s = leaveSide p (latchPos p s) := rfl

/-- An undervoltage of a position that conducts: it is off, and waits for its retry or latches (R100). -/
theorem railUndervoltage_on {p : PosId} {s : State} (ha : s.inAsc (brOfPos p) = false) (hu : (s.pos p).railUv = false) (hc : s.conducts p = true) :
    OnlyPos p (if s.mustLatch p then (s.pos p).railLost.off.latchedFor 0x3004
      else (s.pos p).railLost.off.retrying (s.now + s.actN 0x3040 1 * ticksPerMs)) s (railUndervoltage p s) := by
  rw [railUndervoltage_eq hu, hc, if_pos rfl]
  generalize hr : raise 0x300B 1 (p.val + 1) [retryWord (s.mustLatch p)] (turnOff p (railDown p s)) = u
  have h : OnlyPos p (s.pos p).railLost.off s u := hr ▸ .quiet (silent_raise ..) (railDown_onlyPos p s).turnOff
  cases s.mustLatch p
  · have hact : u.actN 0x3040 1 = s.actN 0x3040 1 := by rw [State.actN, State.act, h.par]; rfl
    rw [retryOrLatch_wait, h.now, hact]
    exact h.modPos (Position.retrying _)
  · rw [retryOrLatch_latch]
    exact .leaveSide ha h.latchPos

/-! The bootstrap prime (R86) -/

/-- From o to s only the positions of bridge b have changed. -/
structure PositionsOf (b : BridgeId) (o s : State) : Prop where
  frame : s = { o with br := s.br }
  other : ∀ c : BridgeId, c ≠ b → s.br[c] = o.br[c]
  rest : s.br[b] = { o.br[b] with pos := s.br[b].pos }

namespace PositionsOf

variable {b : BridgeId} {o s : State}

theorem refl (b : BridgeId) (s : State) : PositionsOf b s s := ⟨rfl, fun _ _ => rfl, rfl⟩

theorem modPos {k : Fin 6} {f : Position → Position} (h : PositionsOf b o s) : PositionsOf b o (modPos (posOf b k) f s) where
  frame := have e := congrArg (fun u : State => { u with br := (Machine.modPos (posOf b k) f s).br }) h.frame; e
  other c hc := (br_modBr_ne _ _ (by rwa [brOfPos_posOf])).trans (h.other c hc)
  rest := by
    unfold Machine.modPos
    rw [brOfPos_posOf, br_modBr_self, h.rest]

end PositionsOf

/-- A loop that meets each item once: what its step does to an item's own part, the whole loop does. -/
theorem foldl_once {α β : Type} {f : State → α → State} {v : State → α → β} {I : State → Prop} {R : α → β → β → Prop}
    (hkeep : ∀ u a, I u → I (f u a)) (hown : ∀ u a, I u → R a (v u a) (v (f u a) a)) (hother : ∀ u a c, I u → c ≠ a → v (f u a) c = v u c)
    {l : List α} (hl : l.Nodup) {s : State} (hs : I s) : I (l.foldl f s) ∧ ∀ a ∈ l, R a (v s a) (v (l.foldl f s) a) := by
  have away (l : List α) (c : α) (hc : c ∉ l) (u : State) (hu : I u) : v (l.foldl f u) c = v u c := by
    induction l generalizing u with
    | nil => rfl
    | cons a t ih =>
      rw [List.mem_cons, not_or] at hc
      exact (ih hc.2 _ (hkeep u a hu)).trans (hother u a c hu hc.1)
  induction l generalizing s with
  | nil => exact ⟨hs, fun _ ha => absurd ha List.not_mem_nil⟩
  | cons a t ih =>
    obtain ⟨ha, ht⟩ := List.nodup_cons.1 hl
    obtain ⟨hinv, heach⟩ := ih ht (hkeep s a hs)
    refine ⟨hinv, fun c hc => ?_⟩
    rcases List.mem_cons.1 hc with rfl | hc
    · rw [List.foldl_cons, away t c ha _ (hkeep s c hs)]
      exact hown s c hs
    · have hne : c ≠ a := fun e => ha (e ▸ hc)
      rw [← hother s a c hs hne]
      exact heach c hc

theorem posOf_injective {b : BridgeId} {j k : Fin 6} (h : j ≠ k) : posOf b j ≠ posOf b k := fun e => h (by
  simp only [posOf, Fin.ext_iff] at *
  omega)

theorem isHigh_posOf (b : BridgeId) (k : Fin 6) : isHigh (posOf b k) = slotHigh k := by
  have : (6 * b.val + k.val) % 2 = k.val % 2 := by omega
  simp only [isHigh, slotHigh, posOf, this]

/-- A position that holds nothing turns off without a report. -/
theorem turnOff_of_no_hold {p : PosId} {s : State} (h : (s.pos p).hold = none) : turnOff p s = modPos p (fun x => { x with on := false }) s := by
  rw [turnOff, endHold, h]

/-- The low sides of a bridge without holds go off, and nothing else changes. -/
theorem endPulse_eq {b : BridgeId} {s : State} (hh : ∀ k : Fin 6, (s.br[b].pos[k]).hold = none) :
    PositionsOf b s (endPulse b s) ∧ ∀ k : Fin 6, (endPulse b s).br[b].pos[k] =
      if slotHigh k then s.br[b].pos[k] else { s.br[b].pos[k] with on := false } := by
  have hloop := foldl_once (f := fun a k => if slotHigh k then a else turnOff (posOf b k) a) (v := fun u k => u.pos (posOf b k))
    (I := fun u => PositionsOf b s u ∧ ∀ j, (u.pos (posOf b j)).hold = none)
    (R := fun k x y => y = if slotHigh k then x else { x with on := false }) ?keep ?own ?other (List.nodup_finRange 6)
    ⟨.refl b s, fun j => by rw [pos_posOf]; exact hh j⟩
  · obtain ⟨⟨hinv, -⟩, heach⟩ := hloop
    refine ⟨hinv, fun k => ?_⟩
    have e := heach k (List.mem_finRange k)
    rwa [pos_posOf, pos_posOf] at e
  case keep =>
    rintro u k ⟨hu, hk⟩
    split
    · exact ⟨hu, hk⟩
    · rw [turnOff_of_no_hold (hk k)]
      refine ⟨hu.modPos, fun j => ?_⟩
      by_cases hj : j = k
      · rw [hj, pos_modPos_self]
        exact hk k
      · rw [pos_modPos_ne _ _ (posOf_injective hj)]
        exact hk j
  case own =>
    rintro u k ⟨hu, hk⟩
    split
    · rfl
    · rw [turnOff_of_no_hold (hk k), pos_modPos_self]
  case other =>
    rintro u k c ⟨hu, hk⟩ hc
    split
    · rfl
    · rw [turnOff_of_no_hold (hk k), pos_modPos_ne _ _ (posOf_injective hc)]

/-- Nothing in a position keeps it from turning on (R85, R98 to R100, R303). -/
def Position.free (high : Bool) (x : Position) : Bool :=
  !x.latched && x.retry.isNone && x.detected.isNone && x.soft.val == 0 && x.linkValid && x.driveEnable && (!high || x.railReady)

theorem canTurnOn_posOf (b : BridgeId) (k : Fin 6) (s : State) : s.canTurnOn (posOf b k) = (s.br[b].pos[k]).free (slotHigh k) := by
  rw [← pos_posOf, ← isHigh_posOf b k]
  rfl

/-- A bridge whose prime pulse begins at tick t. -/
def Bridge.pulsed (t : Nat) (x : Bridge) : Bridge := { x with start := { x.start with pulseAt := t }, bemf := clearCrossings x.bemf }

/-- Each low side that may turn on does, and beside the pulse that begins nothing else changes. -/
theorem primeOn_eq {b : BridgeId} {s : State} (hi : s.test.inject = []) :
    PositionsOf b (modBr b (Bridge.pulsed s.now) s) (primeOn b s) ∧ ∀ k : Fin 6,
      (slotHigh k = true → (primeOn b s).br[b].pos[k] = s.br[b].pos[k]) ∧
      (slotHigh k = false → (s.br[b].pos[k]).on = false → ((primeOn b s).br[b].pos[k]).on = (s.br[b].pos[k]).free (slotHigh k)) := by
  have hnone {u : State} (hu : PositionsOf b (modBr b (Bridge.pulsed s.now) s) u) : u.test.inject = [] := by
    rw [hu.frame]
    exact hi
  have hloop := foldl_once (f := fun a k => if slotHigh k then a else turnOn (posOf b k) a.now a) (v := fun u k => u.pos (posOf b k))
    (I := PositionsOf b (modBr b (Bridge.pulsed s.now) s))
    (R := fun k x y => (slotHigh k = true → y = x) ∧ (slotHigh k = false → x.on = false → y.on = x.free (slotHigh k)))
    ?keep ?own ?other (List.nodup_finRange 6) (.refl b _)
  · obtain ⟨hinv, heach⟩ := hloop
    refine ⟨hinv, fun k => ?_⟩
    have e := heach k (List.mem_finRange k)
    have hbegun : (modBr b (Bridge.pulsed s.now) s).br[b].pos = s.br[b].pos := by
      rw [br_modBr_self]
      rfl
    rwa [pos_posOf, pos_posOf, hbegun] at e
  case keep =>
    intro u k hu
    split
    · exact hu
    · rw [turnOn_eq _ _ (hnone hu)]
      split
      · exact hu.modPos
      · exact hu
  case own =>
    intro u k hu
    have hcan : u.canTurnOn (posOf b k) = (u.pos (posOf b k)).free (slotHigh k) := by rw [canTurnOn_posOf, pos_posOf]
    split
    · next hhigh => exact ⟨fun _ => rfl, fun hlow => absurd (hlow.symm.trans hhigh) Bool.false_ne_true⟩
    · next hlow =>
      refine ⟨fun hhigh => absurd hhigh hlow, fun _ hoff => ?_⟩
      rw [turnOn_eq _ _ (hnone hu), ← hcan]
      split
      · next hc =>
        rw [pos_modPos_self, hc]
        rfl
      · next hc => rw [hoff, Bool.eq_false_iff.2 hc]
  case other =>
    intro u k c hu hc
    split
    · rfl
    · rw [turnOn_eq _ _ (hnone hu)]
      split
      · exact pos_modPos_ne _ _ (posOf_injective hc)
      · rfl

/-- A bridge whose prime has n pulses. -/
def Bridge.counted (n : Nat) (x : Bridge) : Bridge := { x with start := { x.start with pulses := n } }

/-- The tick at which the present interval of a prime ends. -/
def State.intervalEnd (s : State) (b : BridgeId) : Nat := s.br[b].start.pulseAt + s.actN 0x3050 3 * ticksPerUs

/-- An interval below the number of pulses of a prime. -/
theorem primePulse_eq {b : BridgeId} {s : State} (hp : s.br[b].start.phase = 2) (hn : s.br[b].start.pulses + 1 < s.actN 0x3050 2)
    (hh : ∀ k : Fin 6, (s.br[b].pos[k]).hold = none) : primePulse b s =
      primeOn b (modBr b (Bridge.counted (s.br[b].start.pulses + 1)) (endPulse b (setNow (s.intervalEnd b) s))) := by
  obtain ⟨hpulse, -⟩ := endPulse_eq (b := b) (s := setNow (s.intervalEnd b) s) hh
  have hpar : (endPulse b (setNow (s.intervalEnd b) s)).par = s.par := have e := congrArg State.par hpulse.frame; e
  unfold primePulse
  extract_lets st n s1 s2
  have hended : s1 = endPulse b (setNow (s.intervalEnd b) s) := rfl
  have hbelow : n < s2.actN 0x3050 2 := by
    rw [State.actN, State.act, modBr_par, hended, hpar]
    exact hn
  rw [if_neg (not_not.2 hp), if_pos hbelow, ← hended]
  rfl

/-- BOOTSTRAP_PRIME_PULSE below the number of pulses: one more pulse is counted, and the low sides that may turn on are on for the next one. -/
theorem primePulse_row {b : BridgeId} {s : State} (hp : s.br[b].start.phase = 2) (hn : s.br[b].start.pulses + 1 < s.actN 0x3050 2)
    (hi : s.test.inject = []) (hh : ∀ k : Fin 6, (s.br[b].pos[k]).hold = none) :
    Completes (.bootstrapPrimePulse b) s fun t => t = { s with now := max s.now (s.br[b].start.pulseAt + s.actN 0x3050 3 * ticksPerUs), br := t.br } ∧
      (∀ c : BridgeId, c ≠ b → t.br[c] = s.br[c]) ∧
      t.br[b].start = { s.br[b].start with pulses := s.br[b].start.pulses + 1, pulseAt := t.now } ∧
      (∀ k : Fin 6, slotHigh k = true → t.br[b].pos[k] = s.br[b].pos[k]) ∧
      (∀ k : Fin 6, slotHigh k = false → (t.br[b].pos[k]).on = s.canTurnOn (posOf b k)) := by
  obtain ⟨hended, hoff⟩ := endPulse_eq (b := b) (s := setNow (s.intervalEnd b) s) hh
  refine ⟨_, rfl, ?_⟩
  rw [primePulse_eq hp hn hh]
  generalize endPulse b (setNow (s.intervalEnd b) s) = m at hended hoff
  have hinject : (modBr b (Bridge.counted (s.br[b].start.pulses + 1)) m).test.inject = [] := by
    rw [hended.frame]
    exact hi
  obtain ⟨hlit, hon⟩ := primeOn_eq (b := b) hinject
  generalize primeOn b _ = t at hlit hon
  have hframe : t = { s with now := max s.now (s.intervalEnd b), br := t.br } :=
    hlit.frame.trans (congrArg (fun u : State => { u with br := t.br }) hended.frame)
  have hnow : t.now = m.now := have e := congrArg State.now hlit.frame; e
  have hbridge : t.br[b] = { (m.br[b].counted (s.br[b].start.pulses + 1)).pulsed m.now with pos := t.br[b].pos } := by
    rw [hlit.rest, br_modBr_self, br_modBr_self]
    rfl
  have hpos : (modBr b (Bridge.counted (s.br[b].start.pulses + 1)) m).br[b].pos = m.br[b].pos := by
    rw [br_modBr_self]
    rfl
  have hstart : m.br[b].start = s.br[b].start := have e := congrArg Bridge.start hended.rest; e
  rw [hpos] at hon
  refine ⟨hframe, fun c hc => ?_, ?_, fun k hk => ?_, fun k hk => ?_⟩
  · rw [hlit.other c hc, br_modBr_ne _ _ hc, br_modBr_ne _ _ hc, hended.other c hc]
    rfl
  · rw [hbridge, hnow, ← hstart]
    rfl
  · rw [(hon k).1 hk, hoff k, if_pos hk]
    rfl
  · have hm : m.br[b].pos[k] = { s.br[b].pos[k] with on := false } := by
      rw [hoff k, if_neg (Bool.eq_false_iff.1 hk)]
      rfl
    rw [(hon k).2 hk (by rw [hm]), hm, canTurnOn_posOf]
    rfl

/-! The rows of the islands -/

theorem islandLinkTimeout_row {p : PosId} {s : State} (ha : s.inAsc (brOfPos p) = false) :
    Completes (.islandLinkTimeout p) s fun t => t.silent = { s.silent with br := t.br } ∧ (∀ c : BridgeId, c ≠ brOfPos p → t.br[c] = s.br[c]) ∧
      (t.pos p).on = false ∧ (t.pos p).linkValid = false ∧ (t.pos p).latched = true ∧ (∀ q : PosId, q ≠ p → t.pos q = s.pos q) := by
  have h := linkLost_onlyPos ha
  obtain ⟨hlatched, hoff, hlink, -⟩ := Position.latchedFor_of_off 0x300C (x := { (s.pos p).off with linkValid := false }) rfl
  refine ⟨_, rfl, h.still, fun c => h.bridges, ?_⟩
  rw [h.pos]
  exact ⟨hoff, hlink, hlatched, fun q => h.others⟩

theorem islandRailUndervoltage_row {p : PosId} {s : State} (hu : (s.pos p).railUv = false) (hc : s.conducts p = true)
    (ha : s.inAsc (brOfPos p) = false) :
    Completes (.islandRailUndervoltage p) s fun t => (t.pos p).on = false ∧ (t.pos p).railReady = false ∧ (t.pos p).railUv = true ∧
      (∀ q : PosId, q ≠ p → t.pos q = s.pos q) ∧ t.silent = { s.silent with br := t.br } ∧
      (s.mustLatch p = false → (t.pos p).retry = some (s.now + s.actN 0x3040 1 * ticksPerMs) ∧ (t.pos p).latched = (s.pos p).latched) ∧
      (s.mustLatch p = true → (t.pos p).latched = true) := by
  have h := railUndervoltage_on ha hu hc
  refine ⟨railUndervoltage p s, rfl, ?_⟩
  beta_reduce
  rw [h.pos]
  cases s.mustLatch p with
  | false => exact ⟨rfl, rfl, rfl, fun q => h.others, h.still, fun _ => ⟨rfl, rfl⟩, fun hno => absurd hno Bool.false_ne_true⟩
  | true =>
    obtain ⟨hlatched, hoff, -, hready, huv⟩ := Position.latchedFor_of_off 0x3004 (x := (s.pos p).railLost.off) rfl
    exact ⟨hoff, hready, huv, fun q => h.others, h.still, fun hno => absurd hno.symm Bool.false_ne_true, fun _ => hlatched⟩

/-- Settles O23: each row of a link or a rail updates one position, and a prime pulse commands the low sides of its bridge. -/
theorem islandRows : Obligations.IslandRows := by
  refine ⟨fun s p b hb => ?_, fun s p => islandRailUndervoltage_row⟩
  subst hb
  refine ⟨islandLinkTimeout_row, fun hl => ?linkReturn, rfl, fun ha hu ho hh => ?undervoltage, fun h2 h4 => ?ready, primePulse_row⟩
  case linkReturn => exact ⟨_, rfl, linkReturn_onlyPos hl⟩
  case undervoltage => exact ⟨_, rfl, railUndervoltage_idle ha hu ho hh⟩
  case ready => exact congrArg Host.Outcome.next (railReadyNow_eq h2 h4)

/-! The end of a soft turn-off (R97, R125) -/

/-- The soft turn-off that ends is over at the present tick. -/
theorem softEnd_softSpan {p : PosId} {s : State} (h : (s.pos p).soft ≠ 0) :
    ((softEnd p s).pos p).softSpan = (s.pos p).softSpan.map fun c => (c.1, s.now) := by
  unfold softEnd
  rw [if_neg h]
  generalize hu : modPos p _ s = u
  have hpos : (u.pos p).softSpan = (s.pos p).softSpan.map fun c => (c.1, s.now) := by rw [← hu, pos_modPos_self]
  obtain ⟨v, w, heq, hcases⟩ := settlePd7_eq u
  rw [heq, ← hpos]
  unfold State.pos
  show (v[brOfPos p].pos[slotOfPos p]).softSpan = _
  rcases hcases (brOfPos p) with hv | hv
  · rw [hv]
  · rw [hv]
    simp [Bridge.uncharged]

/-- Position 0 has been in its soft turn-off since tick 1, and the clock is at tick 2. -/
def softTurnOffState : State := modPos 0 (fun x => { x with soft := 1, softSpan := some (1, 0) }) { State.reset with now := 2 }

/-- Refutes O24: SOFT_TURN_OFF_END also notes the end of the soft turn-off (R125), a field that the clause on it leaves as it was. -/
theorem not_edgeAndShortCircuitRows : ¬ Obligations.EdgeAndShortCircuitRows := by
  intro h
  obtain ⟨-, -, -, -, hend, -⟩ := h softTurnOffState 0
  have hsoft : (softTurnOffState.pos 0).soft ≠ 0 := by decide +kernel
  obtain ⟨t, ht, -, hbr⟩ := hend hsoft
  obtain rfl : softEnd 0 softTurnOffState = t := Host.Outcome.next.inj ht
  have hspan : ((softEnd 0 softTurnOffState).pos 0).softSpan = (softTurnOffState.pos 0).softSpan := by
    have e := congrArg (fun v : Vector Bridge 4 => (v[0].pos[0]).softSpan) hbr
    simpa [Bridge.uncharged, State.pos, modPos, brOfPos, slotOfPos] using e
  rw [softEnd_softSpan hsoft] at hspan
  exact absurd hspan (by decide +kernel)

/-! The cancel of a held turn-on (R15, R107) -/

/-- A held turn-on is cancelled after the hold-off limit in force for its bridge. -/
theorem crossCancel_now {p : PosId} {h : Nat} {s : State} (hh : (s.pos p).hold = some h) (ha : s.inAsc (brOfPos p) = false) :
    (crossCancel p s).now = max s.now (h + ticksOfNs (s.actBN (brOfPos p) 0x3003 1)) := by
  have off (q : PosId) (u : State) : (turnOff q u).now = u.now := endHold_cases q u (fun v => v.now = u.now) rfl rfl fun _ _ _ e => e
  unfold crossCancel
  simp -zeta only [hh]
  extract_lets b l s1 s2 s3 s4
  have h2 : s2.now = s1.now := (raiseFirst_now ..).trans (bump_now ..)
  have h3 : s3.now = s2.now := by
    unfold s3
    split
    · rfl
    · rfl
  have h4 : s4.now = s3.now := (raise_now ..).trans (modLeg_now ..)
  have h1 : s1.now = max s.now (h + ticksOfNs (s.actBN (brOfPos p) 0x3003 1)) := off ..
  rw [if_neg (Bool.eq_false_iff.1 ha)]
  split
  · rw [off, off, h4, h3, h2, h1]
  · rw [h3, h2, h1]

/-- Position 0 holds a turn-on since tick 0, and its bridge has not yet reloaded the hold-off limit: 2,000 ns are in force there, 1,000 ns are
active. -/
def staleLimitState : State :=
  modPos 0 (fun x => { x with on := true, hold := some 0 }) (modBr 0 (fun x => { x with held := [(objKey 0x3003 1, 2000)] }) State.reset)

/-- Refutes O25: 0x3003.01 is taken at the reload of each bridge (R15), so a bridge that still holds an older limit cancels at that one, not at
the active one that the clause on CROSS_CHECK_CANCEL names. -/
theorem not_detectionAndCrossCheckRows : ¬ Obligations.DetectionAndCrossCheckRows := by
  intro h
  obtain ⟨-, -, hcancel⟩ := h.2 staleLimitState 0
  have hhold : (staleLimitState.pos 0).hold = some 0 := by decide +kernel
  have hasc : staleLimitState.inAsc (brOfPos 0) = false := by decide +kernel
  obtain ⟨t, ht, -, -, -, -, -, -, hsilent, -⟩ := hcancel 0 hhold hasc (by decide +kernel) (by decide +kernel)
  obtain rfl : crossCancel 0 staleLimitState = t := Host.Outcome.next.inj ht
  have hnow : (crossCancel 0 staleLimitState).now = max staleLimitState.now (0 + ticksOfNs (staleLimitState.actN 0x3003 1)) :=
    congrArg State.now hsilent
  rw [crossCancel_now hhold hasc] at hnow
  exact absurd hnow (by decide +kernel)

end Sys2Proof.Machine
end

section
/-! PROOFS. What the reaction to an invalid input leaves alone (R140): the measured values, the objects stored, the NAND and what the rest of the
chip has, whatever the bridges and groups do. One rule per operation, in the order of the model's files. -/

namespace Sys2Proof.Machine

theorem silent_foldl {α : Type} {f : State → α → State} (hf : ∀ u x, (f u x).silent = u.silent) (l : List α) (s : State) :
    (l.foldl f s).silent = s.silent := by
  induction l generalizing s with
  | nil => rfl
  | cons x t ih => exact (ih _).trans (hf s x)

/-- A controller that starts touches only the CAN controllers and the reports. -/
theorem silent_startCan (c : CanId) (s : State) : (startCan c s).silent = s.silent := by
  have hclaims (a : Nat) (u : State) : (claimAddress c a u).silent = u.silent := rfl
  have hnext (u : State) : (claimNext c u).silent = u.silent := by
    unfold claimNext
    split
    · exact hclaims _ u
    · exact silent_raise4 ..
  have hbegins (u : State) : (beginClaim c u).silent = u.silent := by
    unfold beginClaim
    extract_lets
    split
    · exact hnext u
    · exact hclaims _ u
  have hfails : (canFailAll c 1 s).silent = s.silent := by
    unfold canFailAll
    extract_lets _ _ u
    exact (silent_foldl (fun _ _ => (silent_raiseFirst ..).trans (silent_bump ..)) _ u).trans (silent_modCan ..)
  unfold startCan
  extract_lets u _ v
  have hv : v.silent = s.silent := (silent_modCan ..).trans hfails
  split
  · exact (hbegins v).trans hv
  · exact hv

theorem silent_restartCan (old : Params) (standby : Bool) (c : CanId) (s : State) : (restartCan old standby c s).silent = s.silent := by
  unfold restartCan
  extract_lets
  split
  · exact silent_startCan c s
  · rfl

/-- From o to s all that no stop, safe state or end of an identification touches is the same: measured values but for the offset measurement,
stored objects, NAND, die, network, time, arbiter, pairs and placement. -/
structure Reacted (o s : State) : Prop where
  sense : s.sense = { o.sense with offsetRun := s.sense.offsetRun }
  stored : s.par.stored = o.par.stored
  nand : s.mem.nand = o.mem.nand
  die : s.die = o.die
  net : s.net = o.net
  time : s.time = o.time
  arb : s.arb = o.arb
  pairs : s.pairs = o.pairs
  place : s.place = o.place

namespace Reacted

variable {o s : State}

/-! Rules -/

theorem refl (s : State) : Reacted s s := ⟨rfl, rfl, rfl, rfl, rfl, rfl, rfl, rfl, rfl⟩

/-- A change of what a reaction may touch; of the objects and the memories their stored values and the NAND stay. -/
theorem change {pe no fc io tr st sm te bo br gr dr co cl pw ca} {p : Params} {m : Mem} (hp : p.stored = s.par.stored) (hm : m.nand = s.mem.nand)
    (h : Reacted o s) :
    Reacted o { s with pending := pe, now := no, freeCount := fc, par := p, io := io, transfer := tr, st := st, mem := m, streams := sm, test := te,
                       boot := bo, br := br, gr := gr, drive := dr, cont := co, clove := cl, pwr := pw, can := ca } :=
  ⟨h.sense, hp.trans h.stored, hm.trans h.nand, h.die, h.net, h.time, h.arb, h.pairs, h.place⟩

theorem frame {pe no fc io tr st sm te bo br gr dr co cl pw ca} (h : Reacted o s) :
    Reacted o { s with pending := pe, now := no, freeCount := fc, io := io, transfer := tr, st := st, streams := sm, test := te, boot := bo,
                       br := br, gr := gr, drive := dr, cont := co, clove := cl, pwr := pw, can := ca } := .change rfl rfl h

/-- A report. -/
theorem quiet {u : State} (hq : u.silent = s.silent) (h : Reacted o s) : Reacted o u where
  sense := by rw [silent_eq_sense hq]; exact h.sense
  stored := (congrArg Params.stored (silent_eq_par hq)).trans h.stored
  nand := (congrArg Mem.nand (silent_eq_mem hq)).trans h.nand
  die := (silent_eq_die hq).trans h.die
  net := (silent_eq_net hq).trans h.net
  time := (silent_eq_time hq).trans h.time
  arb := (silent_eq_arb hq).trans h.arb
  pairs := (silent_eq_pairs hq).trans h.pairs
  place := (silent_eq_place hq).trans h.place

theorem ite {c : Prop} [Decidable c] {x y : State} (hx : Reacted o x) (hy : Reacted o y) : Reacted o (if c then x else y) := by
  split
  · exact hx
  · exact hy

theorem onlyIf {c : Bool} {f : State → State} (hf : ∀ {u}, Reacted o u → Reacted o (f u)) (h : Reacted o s) : Reacted o (onlyIf c f s) :=
  .ite (hf h) h

theorem foldl {α : Type} {l : List α} {f : State → α → State} (hf : ∀ {u x}, Reacted o u → Reacted o (f u x)) (h : Reacted o s) :
    Reacted o (l.foldl f s) := by
  induction l generalizing s with
  | nil => exact h
  | cons x t ih => exact ih (hf h)

theorem forBr {l f} (hf : ∀ {b u}, Reacted o u → Reacted o (f b u)) (h : Reacted o s) : Reacted o (forBr l f s) := .foldl hf h

theorem forGr {l f} (hf : ∀ {g u}, Reacted o u → Reacted o (f g u)) (h : Reacted o s) : Reacted o (forGr l f s) := .foldl hf h

theorem modBr {b f} (h : Reacted o s) : Reacted o (modBr b f s) := .frame h
theorem modGr {g f} (h : Reacted o s) : Reacted o (modGr g f s) := .frame h
theorem modPos {p f} (h : Reacted o s) : Reacted o (modPos p f s) := .modBr h
theorem modWin {w f} (h : Reacted o s) : Reacted o (modWin w f s) := .frame h
theorem modOut {q f} (h : Reacted o s) : Reacted o (modOut q f s) := .frame h
theorem modCan {c f} (h : Reacted o s) : Reacted o (modCan c f s) := .frame h
theorem modStream {k f} (h : Reacted o s) : Reacted o (modStream k f s) := .frame h

/-! Reports -/

theorem bump {i sub} (h : Reacted o s) : Reacted o (bump i sub s) := .frame h
theorem peak {i sub v} (h : Reacted o s) : Reacted o (peak i sub v s) := .frame h
theorem canQueue {c f p} (h : Reacted o s) : Reacted o (canQueue c f p s) := .frame h
theorem pushEntry {q e} (h : Reacted o s) : Reacted o (pushEntry q e s) := .quiet (silent_pushEntry ..) h
theorem raise {code level i p} (h : Reacted o s) : Reacted o (raise code level i p s) := .quiet (silent_raise ..) h
theorem raiseFirst {code level i p k} (h : Reacted o s) : Reacted o (raiseFirst code level i p k s) := .quiet (silent_raiseFirst ..) h
theorem raise4 {code p} (h : Reacted o s) : Reacted o (raise4 code p s) := .raise h
theorem raiseB {code b p} (h : Reacted o s) : Reacted o (raiseB code b p s) := .raise h
theorem raiseG {code g p} (h : Reacted o s) : Reacted o (raiseG code g p s) := .raise h
theorem complete {r n ws} (h : Reacted o s) : Reacted o (complete r n ws s) := .quiet (silent_complete ..) h

theorem drainRing {q k n} (h : Reacted o s) : Reacted o (drainRing q k n s) := by
  induction n generalizing s with
  | zero => exact h
  | succ n ih =>
    unfold Machine.drainRing
    extract_lets
    split
    · exact .ite (ih (.modStream (.modOut h))) h
    · exact h

theorem discardOldest {k need n} (h : Reacted o s) : Reacted o (discardOldest k need n s) := by
  induction n generalizing s with
  | zero => exact h
  | succ n ih =>
    unfold Machine.discardOldest
    extract_lets
    split
    · exact h
    · split
      · exact h
      · exact ih (.drainRing (.bump (.onlyIf .modStream (.modOut h))))

theorem toRing {k p} (h : Reacted o s) : Reacted o (toRing k p s) := .peak (.bump (.modStream (.pushEntry (.modOut h))))

theorem enqueuePacket {k p} (h : Reacted o s) : Reacted o (enqueuePacket k p s) := by
  unfold Machine.enqueuePacket
  extract_lets _ _ _ _ _ _ s1
  have h1 : Reacted o s1 := .raiseFirst (.discardOldest (.bump h))
  split
  · exact .pushEntry (.bump h)
  · exact .ite (.toRing (.bump h)) (.ite (.ite (.toRing h1) (.toRing (.modOut h1))) (.raiseFirst (.bump (.modStream (.bump h)))))

theorem closePacket {k truncated final} (h : Reacted o s) : Reacted o (closePacket k truncated final s) :=
  .ite h (.enqueuePacket (.onlyIf .bump (.modStream h)))

theorem streamBridgeLost {b} (h : Reacted o s) : Reacted o (streamBridgeLost b s) :=
  .foldl (fun h => .ite (.ite (.foldl .complete (.raise4 (.modStream (.closePacket h)))) (.closePacket h)) h) h

theorem restartCan {old standby c} (h : Reacted o s) : Reacted o (restartCan old standby c s) := .quiet (silent_restartCan ..) h

/-! Charges, position sources and reaction bounds -/

theorem chargeForced {p b} (h : Reacted o s) : Reacted o (chargeForced p b s) := by
  unfold Machine.chargeForced Machine.chargeShort
  exact .modBr (.modBr (.modBr h))

theorem switchSource {g i} (h : Reacted o s) : Reacted o (switchSource g i s) :=
  have hput : Reacted o (Machine.modGr g _ (Machine.bump _ _ (Machine.raiseG _ g _ (Machine.modGr g _ s)))) := .modGr (.bump (.raiseG (.modGr h)))
  .ite (.bump (.raiseG (.modGr hput))) (.ite (.raiseG (.modGr hput)) (.modGr hput))

theorem takeAssigned {old g} (h : Reacted o s) : Reacted o (takeAssigned old g s) := by
  unfold Machine.takeAssigned
  extract_lets _ _ _ _ s1
  have h1 : Reacted o s1 := .onlyIf .modGr h
  split
  · exact h1
  · split
    · exact .ite h1 (.switchSource h1)
    · exact .modGr h1

theorem refreshBounds (h : Reacted o s) : Reacted o (refreshBounds s) :=
  .forGr (fun h => .ite h (.onlyIf .raise4 (.onlyIf .raise (.frame h)))) (.forBr (fun h => .onlyIf .raise4 (.onlyIf .raise (.frame h))) h)

/-! Positions off -/

theorem turnOff {p} (h : Reacted o s) : Reacted o (turnOff p s) := by
  unfold Machine.turnOff endHold
  split
  · exact .modPos h
  · exact .modPos (.onlyIf .bump (.modPos h))

theorem noteOff {b} (h : Reacted o s) : Reacted o (noteOff b s) := .foldl (fun h => .onlyIf .modBr h) h

theorem turnAllOff {b} (h : Reacted o s) : Reacted o (turnAllOff b s) := .foldl .turnOff (.noteOff h)

theorem settlePd7 (h : Reacted o s) : Reacted o (settlePd7 s) := .frame (.onlyIf .frame h)

theorem restoreWindows (h : Reacted o s) : Reacted o (restoreWindows s) := .frame h

theorem stopChop (h : Reacted o s) : Reacted o (stopChop s) := by
  unfold Machine.stopChop
  split
  · exact h
  · extract_lets
    split
    · exact .frame h
    · exact .forBr (fun h => .foldl (fun k => .modPos (.turnOff k)) h) (.frame h)

/-! The drive follows -/

/-- The drive changes its state: the offset measurement begins or ends, and values become active. -/
theorem setDrive {d} (h : Reacted o s) : Reacted o (setDrive d s) := by
  unfold Machine.setDrive
  split
  · exact h
  · extract_lets _ _ s1 _ _ _ s2
    have h1 : Reacted o s1 := .onlyIf .stopChop h
    have h2 : Reacted o s2 := { h1 with
      sense := congrArg (fun x : Sense => { x with offsetRun := decide (d = DriveState.armed) }) h1.sense
      stored := (activateWhere_stored ..).trans h1.stored }
    exact .settlePd7 (.refreshBounds (.restoreWindows (.forGr .takeAssigned (.restartCan (.restartCan h2)))))

theorem settleDrive (h : Reacted o s) : Reacted o (settleDrive s) := by
  unfold Machine.settleDrive
  split
  case h_6 => exact .onlyIf .setDrive h
  case h_7 => exact h
  all_goals exact .setDrive h

theorem startOutcome {b cause} (h : Reacted o s) : Reacted o (startOutcome b cause s) := .foldl .complete (.frame h)

theorem applyBrakeOf {g} (h : Reacted o s) : Reacted o (applyBrakeOf g s) := by
  refine .onlyIf (fun {u} hu => ?_) h
  unfold applyBrake
  split
  · exact hu
  · exact .ite (.bump (.raiseG (.frame hu))) hu

theorem closeWindow {w} (h : Reacted o s) : Reacted o (closeWindow w s) := by
  refine .ite ?_ h
  unfold raiseWindow
  split
  · exact .raiseG (.modWin h)
  · exact .raise4 (.modWin h)

theorem settleGroup {g} (h : Reacted o s) : Reacted o (settleGroup g s) := by
  unfold Machine.settleGroup
  extract_lets _ _ _ _ _ _ s2
  have h2 : Reacted o s2 := .onlyIf .modGr (.onlyIf (fun h => .closeWindow (.raiseG (.modGr h))) h)
  exact .ite h2 (.restoreWindows (.modWin h2))

/-! Identification, and a group that stops -/

theorem setAtlasState {g c} (h : Reacted o s) : Reacted o (setAtlasState g c s) := .ite h (.raiseG (.modGr h))

/-- The atlas that an aborted identification empties stands in the DRAM. -/
theorem abortIdent {g} (h : Reacted o s) : Reacted o (abortIdent g s) := by
  unfold Machine.abortIdent
  extract_lets _
  split
  · exact h
  · extract_lets _ s2 s3
    have h2 : Reacted o s2 := .modGr (.onlyIf (fun h => .forBr .modBr h) h)
    have h3 : Reacted o s3 := .setAtlasState (.change rfl rfl h2)
    split
    · exact .complete h3
    · exact h3

theorem takeSelection {g} (h : Reacted o s) : Reacted o (takeSelection g s) := by
  unfold Machine.takeSelection
  split
  · exact h
  · exact .foldl .complete (.raiseG (.modGr h))

theorem groupOut {g} (h : Reacted o s) : Reacted o (groupOut g s) :=
  have hnote {n u} (hu : Reacted o u) : Reacted o (noteSs1 g n u) := .foldl .complete (.frame (.frame hu))
  .ite h (.abortIdent (.applyBrakeOf (.foldl .complete (.onlyIf hnote (.takeSelection (.modGr (.foldl .raiseG h)))))))

/-! A bridge that changes its state -/

theorem latchPos {p} (h : Reacted o s) : Reacted o (latchPos p s) := .ite h (.raise (.ite h (.bump (.modPos (.turnOff h)))))

theorem loseSplit {b} (h : Reacted o s) : Reacted o (loseSplit b s) := by
  have hunlatch {g u} (hu : Reacted o u) : Reacted o (unlatchTorque g u) := by
    unfold unlatchTorque
    split
    · exact hu
    · exact .ite (.complete (.modGr hu)) (.modGr hu)
  unfold Machine.loseSplit
  split
  · exact h
  · split
    · exact .ite (hunlatch (.modGr h)) h
    · exact h

theorem leaveRun {b} (h : Reacted o s) : Reacted o (leaveRun b s) :=
  .streamBridgeLost (.modBr (.foldl (fun h => .ite (.latchPos h) h) (.loseSplit h)))

/-- A checkpoint that starts with STANDBY writes nothing yet. -/
theorem groupStandbyEntry {g} (h : Reacted o s) : Reacted o (groupStandbyEntry g s) := by
  unfold Machine.groupStandbyEntry
  split
  · exact h
  · extract_lets _ _ _ _ s1 s2 _ s4
    have h1 : Reacted o s1 := .modGr (.takeSelection h)
    have h2 : Reacted o s2 := by
      unfold s2
      split
      · exact .onlyIf .switchSource h1
      · exact h1
    have h4 : Reacted o s4 := .onlyIf .setAtlasState (.onlyIf .raiseG h2)
    refine .onlyIf (fun {u} hu => ?_) h4
    unfold startCheckpoint
    exact .modGr (.change rfl rfl hu)

theorem enterStandby {b} (h : Reacted o s) : Reacted o (enterStandby b s) := by
  unfold Machine.enterStandby
  extract_lets _ _ s1 s2
  have h1 : Reacted o s1 := .frame (.turnAllOff (.modBr (.modBr (.modBr h))))
  have h2 : Reacted o s2 := by
    unfold s2
    split
    · exact .groupStandbyEntry h1
    · exact h1
  exact .restoreWindows h2

theorem settleBridge {b} (h : Reacted o s) : Reacted o (settleBridge b s) := by
  unfold Machine.settleBridge
  extract_lets s1
  have h1 : Reacted o s1 := by
    unfold s1
    split
    · exact .settleGroup (.groupOut h)
    · exact h
  exact .settleDrive (.foldl .complete (.frame h1))

theorem bridgeTo {st b} (h : Reacted o s) : Reacted o (bridgeTo st b s) :=
  .ite h (.settleBridge (.onlyIf .enterStandby (.onlyIf .leaveRun (.modBr h))))

theorem abortStart {b cause} (h : Reacted o s) : Reacted o (abortStart b cause s) := by
  unfold Machine.abortStart
  split
  · extract_lets _ s1 s2
    have h1 : Reacted o s1 := .raiseB (.modBr h)
    have h2 : Reacted o s2 := by
      unfold s2
      split
      · exact .bump h1
      · exact h1
    exact .startOutcome h2
  · exact h

theorem writeRecord {event level index kind} (h : Reacted o s) : Reacted o (writeRecord event level index kind s) := by
  have hlost : Reacted o (recordLost s) := by
    unfold recordLost
    split
    · exact .ite h (.raise4 h)
    · exact h
  exact .frame hlost

theorem snapshotFault {src level b} (h : Reacted o s) : Reacted o (snapshotFault src level b s) := .bump (.raise4 (.writeRecord h))

theorem forceOutputs {p b} (h : Reacted o s) : Reacted o (forceOutputs p b s) :=
  .foldl (fun h => .modPos (.ite h (.turnOff h))) (.onlyIf .noteOff h)

theorem ascSpeed {b} (h : Reacted o s) : Reacted o (ascSpeed b s) := by
  unfold Machine.ascSpeed
  split
  · exact .ite (.ite h (.onlyIf .raiseG (.bump (.frame h)))) h
  · exact h

/-! Discharge and contactors -/

theorem failDischarge (h : Reacted o s) : Reacted o (failDischarge s) := by
  unfold Machine.failDischarge
  extract_lets _ _ _ _ _ _ _ s3
  have h3 : Reacted o s3 := .foldl .complete (.bump (.raise4 (.frame (.stopChop h))))
  exact .ite (.frame (.setDrive (.writeRecord h3))) (.setDrive h3)

theorem startDischarge (h : Reacted o s) : Reacted o (startDischarge s) := by
  have hruns {winding u} (hu : Reacted o u) : Reacted o (runDischarge winding u) := by
    unfold runDischarge
    split
    · split
      · exact .failDischarge hu
      · exact .bump (.raise4 (.frame hu))
    · exact .bump (.raise4 (.frame hu))
  exact .ite h (.ite (.ite h (.bump (.raise4 (.frame h)))) (hruns (.onlyIf .setDrive (.frame h))))

theorem settleDischarge (h : Reacted o s) : Reacted o (settleDischarge s) := by
  unfold Machine.settleDischarge
  split
  · exact h
  · split
    · exact .startDischarge h
    · split
      · split
        · exact .setDrive h
        · exact .setDrive h
        · exact h
      · exact h

theorem openCoil {c} (h : Reacted o s) : Reacted o (openCoil c s) := .onlyIf .raise4 (.ite h (.frame h))

theorem openContactors {noWait after} (h : Reacted o s) : Reacted o (openContactors noWait after s) := by
  unfold Machine.openContactors
  extract_lets _ _ _ _ s2 _ s3
  have h2 : Reacted o s2 := .frame (.openCoil (.frame h))
  have h3 : Reacted o s3 := .openCoil h2
  exact .ite h2 (.ite (.frame h2) (.ite (.frame h3) (.ite (.startDischarge (.frame h3)) (.frame h3))))

/-! Forcing, and the release of a forcing -/

theorem setPattern {p b} (h : Reacted o s) : Reacted o (setPattern p b s) := by
  unfold Machine.setPattern
  extract_lets _ _ _ s2 _ _ _ s6 s7
  have h2 : Reacted o s2 := .onlyIf .turnAllOff (.onlyIf .chargeForced h)
  have h6 : Reacted o s6 := .onlyIf .ascSpeed (.modBr (.forceOutputs (.modBr h2)))
  have h7 : Reacted o s7 := .ite h6 (.bridgeTo h6)
  exact .settlePd7 (.ite (.ite (.bump (.raise4 (.frame (.stopChop h7)))) h7) (.onlyIf .settleDischarge h7))

theorem changePattern {p b} (h : Reacted o s) : Reacted o (changePattern p b s) := .ite h (.raise (.setPattern h))

theorem reacqBroken {g} (h : Reacted o s) : Reacted o (reacqBroken g s) := by
  have hfails {n} : Reacted o (reacqFailed g n s) :=
    have h1 : Reacted o (Machine.bump _ 0x0B (Machine.raiseG 0x6034 g _ (Machine.modGr g _ s))) := .bump (.raiseG (.modGr h))
    .ite (.forBr (fun h => .bridgeTo (.changePattern (.modBr h))) (.raiseG h1)) (.modGr h1)
  exact .ite h hfails

theorem latchForce {src p level b} (h : Reacted o s) : Reacted o (latchForce src p level b s) := by
  unfold Machine.latchForce
  extract_lets _ s1 _ s3 _ s5 _ s7
  have h1 : Reacted o s1 := .modBr h
  have h3 : Reacted o s3 := by
    unfold s3
    split
    · exact .onlyIf .applyBrakeOf (.frame h1)
    · exact .frame h1
  have h5 : Reacted o s5 := by
    unfold s5
    split
    · exact .onlyIf .reacqBroken (.modBr h3)
    · exact .modBr h3
  have h7 : Reacted o s7 := .onlyIf .modBr (.onlyIf .abortStart h5)
  exact .ite (.ite (.snapshotFault (.raise (.modBr h1))) h1) (.snapshotFault (.raise (.onlyIf .setPattern h7)))

theorem dropForce {b} (h : Reacted o s) : Reacted o (dropForce b s) := .ite h (.raise (.modBr (.turnAllOff (.modBr h))))

theorem toRest {b} (h : Reacted o s) : Reacted o (toRest b s) :=
  have hoff : Reacted o (Machine.turnAllOff b (Machine.dropForce b s)) := .turnAllOff (.dropForce h)
  .ite (.settleBridge (.bridgeTo (.modBr (.onlyIf .latchForce h)))) (.settleDischarge (.ite (.settleBridge (.enterStandby hoff)) (.bridgeTo hoff)))

theorem safeBridge {src level b} (h : Reacted o s) : Reacted o (safeBridge src level b s) := by
  have hforced {p} : Reacted o (Machine.latchForce src p level b s) := .latchForce h
  unfold Machine.safeBridge forceBridge identBroken
  split
  · exact .ite (.forBr .toRest (.abortIdent hforced)) hforced
  · exact hforced

theorem safeRequest {src level b} (h : Reacted o s) : Reacted o (safeRequest src level b s) := by
  unfold Machine.safeRequest endCause
  exact .modBr (.safeBridge h)

/-! The reactions (R7, R140, R276) -/

theorem driveSafe {sto} (h : Reacted o s) : Reacted o (driveSafe sto s) := by
  have harm : Reacted o (endArm stAborted s) := by
    unfold endArm
    dsimp only
    split
    · exact .complete (.frame h)
    · exact .frame h
  unfold Machine.driveSafe
  split
  · exact h
  · exact h
  · exact .settleDrive h
  · exact .ite (.setDrive harm) (.openContactors (.setDrive harm))

theorem ss1Source {g src} (h : Reacted o s) : Reacted o (ss1Source g src s) :=
  have haborts {u} (hu : Reacted o u) : Reacted o (abortGroupStarts g 5 u) := .forBr (fun h => .ite (.toRest (.abortStart h)) h) hu
  .ite h (.ite (haborts (.raiseG h)) (.ite (.raiseG h) (.onlyIf (fun h => .forBr .toRest h) (.modGr h))))

theorem reactInputs {code ns} (h : Reacted o s) : Reacted o (reactInputs code ns s) := by
  unfold Machine.reactInputs
  split
  · exact .forGr .ss1Source h
  · exact .forBr .safeRequest h
  · exact .forBr .modBr (.driveSafe (.forBr .safeBridge h))
  · exact h

theorem overTemperature {b place cause} (h : Reacted o s) : Reacted o (overTemperature b place cause s) := .safeRequest (.bump (.raiseB (.modBr h)))

end Reacted

end Sys2Proof.Machine
end

section
/-! PROOFS. The housekeeping round and the silent inputs (O43): what a check does to the records of the inputs, and what each row leaves of the state. -/

namespace Sys2Proof.Machine

/-! The records of the inputs (R138, R139) -/

section
variable {s u : State} {n : Fin 84} {cause : Nat}

theorem modInput_inputs_self (n : Fin 84) (f : Input → Input) (s : State) : (modInput n f s).sense.inputs[n] = f s.sense.inputs[n] :=
  Vector.getElem_set_self n.2

theorem modInput_inputs_ne {m n : Fin 84} (f : Input → Input) (s : State) (h : m ≠ n) : (modInput n f s).sense.inputs[m] = s.sense.inputs[m] :=
  Vector.getElem_set_ne n.2 m.2 fun e => h (Fin.ext e.symm)

/-- The record of an input that becomes invalid. -/
def Input.invalidated (x : Input) : Input := { x with valid := false, good := 0 }

/-- The active value of an object does not depend on the reports. -/
theorem actN_silent (h : u.silent = s.silent) (i k : Nat) : u.actN i k = s.actN i k := have e := congrArg (fun x => State.actN x i k) h; e

/-- Beside the record of its input an input that becomes invalid is a report. -/
theorem markInvalid_silent (h : s.sense.inputs[n].valid = true) : (markInvalid n cause s).silent = (modInput n Input.invalidated s).silent := by
  unfold markInvalid
  rw [h, Bool.not_true, if_neg Bool.false_ne_true]
  exact (silent_raise ..).trans (silent_bump ..)

/-- A valid input alone becomes invalid, and its own reaction follows (R140). -/
theorem confirmInvalid_one (h : s.sense.inputs[n].valid = true) :
    confirmInvalid [(n, cause)] s = reactInputs (s.actN (0x4100 + n.val) 8) [n.val] (markInvalid n cause s) := by
  have hcode : (markInvalid n cause s).actN (0x4100 + n.val) 8 = s.actN (0x4100 + n.val) 8 := actN_silent (markInvalid_silent h) ..
  rw [Fin.getElem_fin] at h
  simp [confirmInvalid, h, hcode]

/-- From s to t input n has become invalid (R139): no other record changes, and nothing else where R140 gives the input no reaction. -/
def TurnsInvalid (n : Fin 84) (s t : State) : Prop :=
  t.sense.inputs[n].valid = false ∧ (∀ m : Fin 84, m ≠ n → t.sense.inputs[m] = s.sense.inputs[m]) ∧
    (s.actN (0x4100 + n.val) 8 = 0 → t.silent = { s.silent with now := t.now, sense := { s.sense with inputs := t.sense.inputs } })

/-- A valid input turns invalid, whatever its reaction does to the bridges and groups. -/
theorem turnsInvalid_confirmInvalid {t : Nat} (hu : u.silent = (setNow t s).silent) (h : s.sense.inputs[n].valid = true) :
    TurnsInvalid n s (confirmInvalid [(n, cause)] u) := by
  have hsense : u.sense = (setNow t s).sense := silent_eq_sense hu
  have hvalid : u.sense.inputs[n].valid = true := by rw [hsense]; exact h
  have hmark : (markInvalid n cause u).silent = (modInput n Input.invalidated (setNow t s)).silent :=
    (markInvalid_silent hvalid).trans (congrArg (modInput n Input.invalidated) hu)
  have hcode : u.actN (0x4100 + n.val) 8 = s.actN (0x4100 + n.val) 8 := actN_silent hu ..
  rw [confirmInvalid_one hvalid, hcode]
  generalize markInvalid n cause u = v at hmark
  have hins : (reactInputs (s.actN (0x4100 + n.val) 8) [n.val] v).sense.inputs = (modInput n Input.invalidated s).sense.inputs := by
    rw [(Reacted.reactInputs (.refl v)).sense, silent_eq_sense hmark]
    rfl
  refine ⟨?_, fun m hm => ?_, fun hnone => ?_⟩
  · rw [hins, modInput_inputs_self]
    rfl
  · rw [hins, modInput_inputs_ne _ _ hm]
  · rw [hnone]
    show v.silent = { s.silent with now := v.now, sense := { s.sense with inputs := v.sense.inputs } }
    rw [hmark, silent_eq_now hmark, silent_eq_sense hmark]
    rfl

/-- MESSAGE_INPUT_TIMEOUT of a group that runs, with its timeout set (R138). -/
theorem messageTimeout_running {g : GroupId} (hrun : s.running g ≠ []) (hms : s.actN (0x4150 + g.val) 9 ≠ 0) :
    messageTimeout g s = confirmInvalid [(messageInput g, 3)] (setNow (s.gr[g].msgAt + s.actN (0x4150 + g.val) 9 * ticksPerMs) s) := by
  unfold messageTimeout
  simp [hrun, hms]

/-- DIGITAL_INPUT_TIMEOUT of an input that disagrees (R138, R258): as a mirror fault it is reported first. -/
theorem digitalTimeout_due {i : Fin 4} (h : (s.digitalDue i).isSome = true) :
    ∃ t cause u, u.silent = (setNow t s).silent ∧ digitalTimeout i s = confirmInvalid [(digitalInput i, cause)] u := by
  obtain ⟨t, ht⟩ := Option.isSome_iff_exists.1 h
  unfold digitalTimeout
  rw [ht]
  dsimp only
  split
  · split
    · exact ⟨t, 4, _, silent_raise4 .., rfl⟩
    · exact ⟨t, 3, _, rfl, rfl⟩
  · exact ⟨t, 3, _, rfl, rfl⟩

end

/-! Inputs that gave no value (R136, R138; log 144) -/

/-- An input that gave no value at a check. -/
def Input.missed (x : Input) : Input := { x with stale := x.stale + 1 }

/-- An update of several inputs, each once. -/
theorem foldl_modInput {f : Input → Input} {l : List (Fin 84)} (hl : l.Nodup) (s : State) :
    ∃ ins, l.foldl (fun a n => modInput n f a) s = s.withInputs ins ∧
      (∀ n ∈ l, ins[n] = f s.sense.inputs[n]) ∧ ∀ n : Fin 84, n ∉ l → ins[n] = s.sense.inputs[n] := by
  induction l generalizing s with
  | nil => exact ⟨s.sense.inputs, rfl, fun _ hn => absurd hn List.not_mem_nil, fun _ _ => rfl⟩
  | cons m t ih =>
    obtain ⟨hm, ht⟩ := List.nodup_cons.1 hl
    obtain ⟨ins, heq, hin, hout⟩ := ih ht (modInput m f s)
    refine ⟨ins, heq, fun n hn => ?_, fun n hn => ?_⟩
    · rcases List.mem_cons.1 hn with rfl | hn
      · rw [hout _ hm, modInput_inputs_self]
      · have hne : n ≠ m := fun e => hm (e ▸ hn)
        rw [hin n hn, modInput_inputs_ne _ _ hne]
    · obtain ⟨hne, hn⟩ := List.ne_and_not_mem_of_not_mem_cons hn
      rw [hout n hn, modInput_inputs_ne _ _ hne]

/-- Inputs without a timeout only count what they missed. -/
theorem missInputs_of_no_timeout {l : List (Fin 84)} {s : State} (hl : l.Nodup) (hn : ∀ n ∈ l, s.actN (0x4100 + n.val) 9 = 0) :
    ∃ ins, missInputs l s = s.withInputs ins ∧
      (∀ n ∈ l, ins[n] = s.sense.inputs[n].missed) ∧ ∀ n : Fin 84, n ∉ l → ins[n] = s.sense.inputs[n] := by
  obtain ⟨ins, heq, hrec⟩ := foldl_modInput (f := Input.missed) hl s
  refine ⟨ins, ?_, hrec⟩
  have hnone : l.filter (fun n => decide (0 < s.actN (0x4100 + n.val) 9 ∧ s.actN (0x4100 + n.val) 9 ≤ ins[n].stale)) = [] :=
    List.filter_eq_nil_iff.2 fun n hmem => by simp [hn n hmem]
  unfold missInputs
  rw [show l.foldl (fun a n => modInput n (fun x => { x with stale := x.stale + 1 }) a) s = s.withInputs ins from heq]
  exact congrArg (fun ns => confirmInvalid (ns.map fun n => (n, 3)) (s.withInputs ins)) hnone

theorem hkInput_injective : Function.Injective hkInput := fun m n h => Fin.ext (by simpa [hkInput] using congrArg Fin.val h)

/-- The inputs of the round. -/
theorem nodup_hkInputs : ((List.finRange 32).map hkInput).Nodup := (List.nodup_finRange 32).map hkInput_injective

/-! The values of a round (R136, R366, R371, R532) -/

/-- The use of a round's values leaves these of o in s. -/
structure RoundKept (o s : State) : Prop where
  hk : s.sense.hk = o.sense.hk
  running : s.sense.roundRunning = o.sense.roundRunning
  discard : s.sense.discardRound = o.sense.discardRound
  stored : s.par.stored = o.par.stored
  nand : s.mem.nand = o.mem.nand

namespace RoundKept

variable {o s : State}

theorem refl (s : State) : RoundKept s s := ⟨rfl, rfl, rfl, rfl, rfl⟩

theorem react {t : State} (ht : Reacted s t) (h : RoundKept o s) : RoundKept o t where
  hk := (congrArg Sense.hk ht.sense).trans h.hk
  running := (congrArg Sense.roundRunning ht.sense).trans h.running
  discard := (congrArg Sense.discardRound ht.sense).trans h.discard
  stored := ht.stored.trans h.stored
  nand := ht.nand.trans h.nand

theorem ite {c : Prop} [Decidable c] {x y : State} (hx : RoundKept o x) (hy : RoundKept o y) : RoundKept o (if c then x else y) := by
  split
  · exact hx
  · exact hy

theorem foldl {α : Type} {l : List α} {f : State → α → State} (hf : ∀ {u x}, RoundKept o u → RoundKept o (f u x)) (h : RoundKept o s) :
    RoundKept o (l.foldl f s) := by
  induction l generalizing s with
  | nil => exact h
  | cons x t ih => exact ih (hf h)

theorem modInput {n f} (h : RoundKept o s) : RoundKept o (modInput n f s) := ⟨h.hk, h.running, h.discard, h.stored, h.nand⟩

theorem modDie {f} (h : RoundKept o s) : RoundKept o (modDie f s) := ⟨h.hk, h.running, h.discard, h.stored, h.nand⟩

theorem raise {c l i p} (h : RoundKept o s) : RoundKept o (raise c l i p s) := h.react (.raise (.refl s))

theorem markInvalid {n cause} (h : RoundKept o s) : RoundKept o (markInvalid n cause s) :=
  have hbump {u} (hu : RoundKept o u) : RoundKept o (Machine.bump 0xE040 3 u) := hu.react (.bump (.refl u))
  .ite h (.raise (hbump (.modInput h)))

theorem markValid {n} (h : RoundKept o s) : RoundKept o (markValid n s) := .ite h (.raise (.modInput h))

theorem confirmInvalid {ns} (h : RoundKept o s) : RoundKept o (confirmInvalid ns s) := react (.reactInputs (.refl _)) (.foldl .markInvalid h)

theorem checkInputs {vs} (h : RoundKept o s) : RoundKept o (checkInputs vs s) :=
  .confirmInvalid (.foldl (fun h => .ite (.markValid h) h) (.foldl .modInput h))

theorem noteCoolant (h : RoundKept o s) : RoundKept o (noteCoolant s) := by
  unfold Machine.noteCoolant
  split
  · exact .modDie h
  · exact h

end RoundKept

/-- What a round corrects on a leg, and its trip. -/
theorem Reacted.correctLeg {o s : State} {l : LegId} (h : Reacted o s) : Reacted o (correctLeg l s) := by
  unfold Machine.correctLeg
  extract_lets
  split
  · exact .modBr h
  · extract_lets _ _ _ _ s1
    have h1 : Reacted o s1 := .onlyIf (fun h => .bump (.raise h)) (.modBr h)
    exact .ite (.overTemperature h1) h1

theorem Reacted.seedLeg {o s : State} {l : LegId} (h : Reacted o s) : Reacted o (seedLeg l s) := by
  unfold Machine.seedLeg
  exact .modBr h

/-- The values of a round go to the inputs, the nodes and the reactions only; a round has then been used (R367). -/
theorem useRound_kept (vals : Vector Int 32) (s : State) : RoundKept s (useRound vals s) ∧ (useRound vals s).die.firstRound = true := by
  have hsupply (v : Int) : Reacted s (noteSensorSupply v s) := .ite (.frame (.refl s)) (.refl s)
  unfold useRound
  extract_lets _ _ _ s3
  have h3 : RoundKept s s3 := .noteCoolant (.checkInputs (.react (hsupply _) (.refl s)))
  split
  · next hfirst =>
    have hlegs : Reacted s3 ((List.finRange 12).foldl (fun a l => correctLeg l a) s3) := .foldl .correctLeg (.refl s3)
    exact ⟨h3.react hlegs, (congrArg Die.firstRound hlegs.die).trans hfirst⟩
  · have hlegs : Reacted s3 ((List.finRange 12).foldl (fun a l => seedLeg l a) s3) := .foldl .seedLeg (.refl s3)
    exact ⟨.modDie (h3.react hlegs), rfl⟩

/-! The rows (R136, R138, R484) -/

section
variable {s : State}

/-- A valid digital input is not checked. -/
theorem digitalAgrees_of_valid {i : Fin 4} (h : s.sense.inputs[digitalInput i].valid = true) : digitalAgrees i s = s := if_pos h

/-- The tick at which a round starts: 10 ms after the one before, if there was one (R136). -/
def State.roundStartsAt (s : State) : Nat := if s.sense.roundAt = 0 then s.now else max s.now (s.sense.roundAt + 10 * ticksPerMs)

/-- HOUSEKEEPING_ROUND_START with valid digital inputs. -/
theorem roundStart_idle (hr : s.sense.roundRunning = false) (hd : s.drive.state ≠ .sleep)
    (hv : ∀ i : Fin 4, s.sense.inputs[digitalInput i].valid = true) :
    roundStart s = { s with now := s.roundStartsAt, sense := { s.sense with roundRunning := true, roundAt := s.roundStartsAt } } := by
  have hchecks (u : State) (hu : u.sense.inputs = s.sense.inputs) : (List.finRange 4).foldl (fun a i => digitalAgrees i a) u = u :=
    List.foldl_fixed' (fun i => digitalAgrees_of_valid (by rw [hu]; exact hv i)) _
  unfold roundStart
  rw [hr, decide_eq_false hd, Bool.or_self, if_neg Bool.false_ne_true]
  have hnow : onlyIf (s.sense.roundAt != 0) (setNow (s.sense.roundAt + 10 * ticksPerMs)) s = { s with now := s.roundStartsAt } := by
    unfold State.roundStartsAt
    by_cases h0 : s.sense.roundAt = 0
    · rw [if_pos h0, h0]
      rfl
    · rw [if_neg h0, bne_iff_ne.2 h0]
      rfl
  rw [hnow]
  exact hchecks _ rfl

/-- HOUSEKEEPING_ROUND_COMPLETE of a round that is spoilt (R484). -/
theorem roundComplete_discarded (vals : Vector Int 32) (hr : s.sense.roundRunning = true) (hd : s.sense.discardRound = true) :
    roundComplete vals s = bump 0xE040 2 { s with
      now := max s.now (s.sense.roundAt + 9920 * ticksPerUs), sense := { s.sense with roundRunning := false, discardRound := false } } := by
  unfold roundComplete
  simp [hr, hd, setNow]

/-- HOUSEKEEPING_ROUND_COMPLETE of any other round (R136). -/
theorem roundComplete_used (vals : Vector Int 32) (hr : s.sense.roundRunning = true) (hd : s.sense.discardRound = false) :
    roundComplete vals s = bump 0xE040 2 (useRound vals { s with
      now := max s.now (s.sense.roundAt + 9920 * ticksPerUs), sense := { s.sense with roundRunning := false, discardRound := false, hk := vals } }) := by
  unfold roundComplete
  simp [hr, hd, setNow]

/-- HOUSEKEEPING_ROUND_TIMEOUT of a round whose inputs have no timeout (R136; log 144). -/
theorem roundTimeout_running (hr : s.sense.roundRunning = true) (hn : ∀ n : Fin 32, s.actN (0x4100 + (hkInput n).val) 9 = 0) :
    ∃ ins, roundTimeout s = { s with now := max s.now (s.sense.roundAt + 11 * ticksPerMs), sense := { s.sense with roundRunning := false, inputs := ins } } ∧
      (∀ n : Fin 32, ins[hkInput n] = s.sense.inputs[hkInput n].missed) ∧
      ∀ n : Fin 84, (∀ k : Fin 32, n ≠ hkInput k) → ins[n] = s.sense.inputs[n] := by
  have hnone : ∀ n ∈ (List.finRange 32).map hkInput, s.actN (0x4100 + n.val) 9 = 0 := fun n hmem => by
    obtain ⟨k, -, rfl⟩ := List.mem_map.1 hmem
    exact hn k
  obtain ⟨ins, heq, hin, hout⟩ := missInputs_of_no_timeout (s := { s with
    now := max s.now (s.sense.roundAt + 11 * ticksPerMs), sense := { s.sense with roundRunning := false } }) nodup_hkInputs hnone
  refine ⟨ins, ?_, fun n => hin _ (List.mem_map_of_mem (List.mem_finRange n)), fun n hne => hout n fun hmem => ?_⟩
  · unfold roundTimeout
    rw [hr, Bool.not_true, if_neg Bool.false_ne_true]
    exact heq
  · obtain ⟨k, -, hk⟩ := List.mem_map.1 hmem
    exact hne k hk.symm

end

/-- Settles O43: a round only moves its own flags, values and inputs; a silent input is one that becomes invalid, with its reaction. -/
theorem roundAndTimeoutRows : Obligations.RoundAndTimeoutRows := by
  refine fun s => ⟨fun hp hr hd hv => ?start, fun vals hp hr => ?complete, fun hr hn => ?timeout, fun c n hv hc => ?silent⟩
  case start =>
    refine completes_pulse rfl hp ?_
    rw [roundStart_idle hr hd hv]
    exact ⟨rfl, rfl⟩
  case complete =>
    refine completes_pulse rfl hp ?_
    cases hd : s.sense.discardRound with
    | true =>
      rw [roundComplete_discarded vals hr hd]
      exact ⟨rfl, rfl, rfl, rfl, fun hno => absurd hno.symm Bool.false_ne_true, fun _ => rfl⟩
    | false =>
      rw [roundComplete_used vals hr hd]
      generalize hdone : useRound vals _ = u
      obtain ⟨⟨hhk, hrun, hdis, hstored, hnand⟩, hfirst⟩ := hdone ▸ useRound_kept vals _
      exact ⟨hrun, hdis, hstored, hnand, fun _ => ⟨hhk, hfirst⟩, fun hno => absurd hno Bool.false_ne_true⟩
  case timeout =>
    obtain ⟨ins, heq, hin, hout⟩ := roundTimeout_running hr hn
    exact ⟨_, congrArg Host.Outcome.next heq, rfl, hin, hout⟩
  case silent =>
    obtain ⟨g, hc, hn, hrun, hms⟩ | ⟨i, hc, hn, hdue⟩ := hc
    · have heq := messageTimeout_running hrun hms
      subst hc hn
      exact ⟨_, congrArg Host.Outcome.next heq, turnsInvalid_confirmInvalid (u := setNow _ s) rfl hv⟩
    · obtain ⟨t, cause, u, hu, heq⟩ := digitalTimeout_due hdue
      subst hc hn
      exact ⟨_, congrArg Host.Outcome.next heq, turnsInvalid_confirmInvalid hu hv⟩

end Sys2Proof.Machine
end

section
/-! PROOFS. The rows of the position interfaces and captures (O26, O27): a row of an interface that is no group's source in use leaves, but for the
reports, the state with another record of that interface. -/

namespace Sys2Proof.Machine

/-- But for the reports, t is s with record x of interface i. -/
def IfaceIs (s : State) (i : IfId) (x : Iface) (t : State) : Prop := t.silent = (modIface i (fun _ => x) s).silent

/-- Interface i is no group's source in use (R157). -/
def State.unused (s : State) (i : IfId) : Prop := ∀ g, s.ifaceGroup i = some g → s.gr[g].pos.src ≠ ifaceCode i

theorem modIface_iface_self (i : IfId) (f : Iface → Iface) (s : State) : (modIface i f s).sense.iface[i] = f s.sense.iface[i] :=
  Vector.getElem_set_self i.2

theorem modIface_iface_ne {i j : IfId} (f : Iface → Iface) (s : State) (h : j ≠ i) : (modIface i f s).sense.iface[j] = s.sense.iface[j] :=
  Vector.getElem_set_ne i.2 j.2 fun e => h (Fin.ext e.symm)

theorem modIface_modIface (i : IfId) (f g : Iface → Iface) (s : State) : modIface i f (modIface i g s) = modIface i (fun x => f (g x)) s := by
  rw [modIface, modIface_iface_self]
  simp only [modIface, Vector.set_set]

theorem gr_modGr_self (g : GroupId) (f : Group → Group) (s : State) : (modGr g f s).gr[g] = f s.gr[g] := Vector.getElem_set_self g.2

theorem gr_modGr_ne {g k : GroupId} (f : Group → Group) (s : State) (h : k ≠ g) : (modGr g f s).gr[k] = s.gr[k] :=
  Vector.getElem_set_ne g.2 k.2 fun e => h (Fin.ext e.symm)

theorem modGr_modGr (g : GroupId) (f h : Group → Group) (s : State) : modGr g f (modGr g h s) = modGr g (fun x => f (h x)) s := by
  rw [modGr, gr_modGr_self]
  simp only [modGr, Vector.set_set]

/-- An event of an interface is a report, whatever group it names (R171). -/
theorem silent_raiseI (code : Nat) (i : IfId) (payload : List Int) (s : State) : (raiseI code i payload s).silent = s.silent := by
  unfold raiseI
  split
  · exact silent_raiseG ..
  · exact silent_raise4 ..

/-- The soft-limit flags of a group follow its count, and nothing else but the reports changes (R156). -/
theorem settleLimits_frame (g : GroupId) (s : State) :
    ∃ low high, (settleLimits g s).silent = (modGr g (fun x => { x with pos := { x.pos with atLow := low, atHigh := high } }) s).silent := by
  unfold settleLimits
  extract_lets on p low high was u
  refine ⟨low, high, ?_⟩
  split
  · exact (silent_bump ..).trans (silent_raiseG ..)
  · split
    · exact silent_raiseG ..
    · rfl

/-- A count that moves changes its group alone. -/
theorem moveCount_frame (g : GroupId) (d : Int) (s : State) : ∃ f, (moveCount g d s).silent = (modGr g f s).silent := by
  unfold moveCount
  split
  · exact ⟨id, by rw [modGr, id, Fin.getElem_fin, Vector.set_getElem_self]⟩
  · obtain ⟨low, high, h⟩ := settleLimits_frame g (modGr g (fun x => { x with pos := { x.pos with count := wrap48 (s.gr[g].pos.count + d) } }) s)
    exact ⟨_, h.trans (congrArg State.silent (modGr_modGr ..))⟩

namespace IfaceIs

section
variable {s t u : State} {i : IfId} {x : Iface} {f : Iface → Iface}

/-! What stays -/

theorem refl (s : State) (i : IfId) : IfaceIs s i s.sense.iface[i] s := by
  rw [IfaceIs, modIface, Fin.getElem_fin, Vector.set_getElem_self]

theorem of_iface (h : s.sense.iface[i] = x) : IfaceIs s i x s := h ▸ refl s i

theorem iface (h : IfaceIs s i x t) : t.sense.iface[i] = x :=
  (congrArg (fun v : Sense => v.iface[i]) (silent_eq_sense h)).trans (modIface_iface_self i _ s)

theorem gr (h : IfaceIs s i x t) : t.gr = s.gr := have e := congrArg State.gr h; e
theorem now (h : IfaceIs s i x t) : t.now = s.now := have e := congrArg State.now h; e
theorem act (h : IfaceIs s i x t) (k sub : Nat) : t.act k sub = s.act k sub := have e := congrArg (fun v => State.act v k sub) h; e
theorem actN (h : IfaceIs s i x t) (k sub : Nat) : t.actN k sub = s.actN k sub := congrArg Int.toNat (h.act k sub)
theorem assigned (h : IfaceIs s i x t) : t.assigned i = s.assigned i := have e := congrArg (fun v => State.assigned v i) h; e
theorem ifaceGroup (h : IfaceIs s i x t) : t.ifaceGroup i = s.ifaceGroup i := have e := congrArg (fun v => State.ifaceGroup v i) h; e

theorem unused (h : IfaceIs s i x t) (hs : s.unused i) : t.unused i := fun g hg => by
  rw [h.gr]
  exact hs g (h.ifaceGroup ▸ hg)

/-- The rest of the machine stays as it was. -/
theorem frame (h : IfaceIs s i x t) : t.silent = { s.silent with sense := t.sense } := by
  rw [silent_eq_sense h]
  exact h

theorem others (h : IfaceIs s i x t) :
    t.sense = { s.sense with iface := t.sense.iface } ∧ ∀ j : IfId, j ≠ i → t.sense.iface[j] = s.sense.iface[j] := by
  rw [silent_eq_sense h]
  exact ⟨rfl, fun j hj => modIface_iface_ne _ _ hj⟩

/-! What each operation makes of the record -/

theorem quiet (hq : u.silent = t.silent) (h : IfaceIs s i x t) : IfaceIs s i x u := hq.trans h

theorem modIface (h : IfaceIs s i x t) : IfaceIs s i (f x) (modIface i f t) :=
  (congrArg (Machine.modIface i f) h).trans (congrArg State.silent (modIface_modIface i f (fun _ => x) s))

/-- What the record was before does not matter. -/
theorem rebase (h : IfaceIs (Machine.modIface i f s) i x t) : IfaceIs s i x t :=
  h.trans (congrArg State.silent (modIface_modIface i (fun _ => x) f s))

theorem bumpI {sub} (h : IfaceIs s i x t) : IfaceIs s i x (bumpI i sub t) := h.quiet (silent_bump ..)

theorem onlyIf {c : Bool} {F : State → State} (hF : ∀ v, (F v).silent = v.silent) (h : IfaceIs s i x t) : IfaceIs s i x (onlyIf c F t) :=
  h.quiet (silent_onlyIf _ _ _ hF)

/-- A source that takes an angle keeps all of its record but angle and turns, and moves its group where it is the source in use (R148, R156). -/
theorem moveTheta_any (i : IfId) (theta : Int) (s : State) :
    ∃ k gr, IfaceIs { s with gr := gr } i { s.sense.iface[i] with theta := ofSigned 16 theta, turns := k } (moveTheta i theta s) ∧
      (s.unused i → gr = s.gr) := by
  unfold Machine.moveTheta
  extract_lets _ old x th d dir turns u
  split
  next g hg =>
    split
    next hsrc =>
      obtain ⟨y, hy⟩ := moveCount_frame g (u.sourceCount i - old) u
      exact ⟨turns, _, hy, fun hs => absurd hsrc (hs g hg)⟩
    next => exact ⟨turns, s.gr, rfl, fun _ => rfl⟩
  next => exact ⟨turns, s.gr, rfl, fun _ => rfl⟩

theorem moveTheta {theta : Int} (h : IfaceIs s i x t) (hs : s.unused i) :
    ∃ k, IfaceIs s i { x with theta := ofSigned 16 theta, turns := k } (moveTheta i theta t) := by
  obtain ⟨k, gr, hm, hgr⟩ := moveTheta_any i theta t
  rw [hgr (h.unused hs), h.iface] at hm
  exact ⟨k, hm.trans (h.modIface (f := fun y => { x with theta := ofSigned 16 theta, turns := k }))⟩

/-- A good check of a valid interface counts (R149). -/
theorem goodCheck (h : IfaceIs s i x t) (hv : x.valid = true) : IfaceIs s i { x with good := x.good + 1, bad := 0 } (goodCheck i t) := by
  unfold Machine.goodCheck
  extract_lets v
  have hm : IfaceIs s i { x with good := x.good + 1, bad := 0 } v := h.modIface
  rw [if_neg (by rw [hm.iface]; simp [hv])]
  exact hm

/-- A valid assigned interface becomes invalid, and no group follows where none uses it (R149). -/
theorem confirmCause {cause : Nat} (h : IfaceIs s i x t) (hs : s.unused i) (ha : s.assigned i = true) (hv : x.valid = true) :
    IfaceIs s i { x with valid := false, cause := cause, good := 0, bad := 0, zBad := 0, track := 0 } (confirmCause i cause t) := by
  unfold Machine.confirmCause
  rw [h.iface, hv, h.assigned, ha, if_neg (by decide)]
  extract_lets v w
  have hw : IfaceIs s i { x with valid := false, cause := cause, good := 0, bad := 0, zBad := 0, track := 0 } w :=
    .quiet (silent_raiseI ..) (.bumpI h.modIface)
  split
  next g hg =>
    rw [if_neg (hw.unused hs g hg)]
    exact hw
  next => exact hw

/-- A bad check that does not confirm its cause counts (R149). -/
theorem badCheck {cause need : Nat} (h : IfaceIs s i x t) (hn : x.bad + 1 < need) :
    IfaceIs s i { x with bad := x.bad + 1, good := 0 } (badCheck i cause need t) := by
  unfold Machine.badCheck
  extract_lets v
  have hm : IfaceIs s i { x with bad := x.bad + 1, good := 0 } v := h.modIface
  rw [hm.iface, if_neg (Nat.not_le.2 hn)]
  exact hm

end

end IfaceIs

/-! The interfaces become valid and invalid (R147, R149) -/

/-- An interface that becomes valid changes its own record (R149). -/
theorem IfaceIs.ifaceValid {s : State} {i : IfId} (h : s.sense.iface[i].valid = false) :
    IfaceIs s i { s.sense.iface[i] with valid := true, good := 0, bad := 0 } (ifaceValid i s) := by
  unfold Machine.ifaceValid
  rw [h, if_neg Bool.false_ne_true]
  exact .quiet (silent_raiseI ..) (.modIface (.refl s i))

/-- An interface that is invalid, or assigned to no group, keeps its first cause (R147, R149). -/
theorem confirmCause_idle {s : State} {i : IfId} {cause : Nat} (h : s.sense.iface[i].valid = false ∨ s.assigned i = false) :
    confirmCause i cause s = s := by
  unfold confirmCause
  obtain h | h := h <;> rw [h] <;> simp

/-! Captures (R161) -/

/-- The record that a capture of position e leaves, with the serial of its event. -/
def Sense.captured (x : Sense) (c : Fin 2) (e : Int) (serial : Nat) : Sense :=
  { x with capture := x.capture.set c { last := toSigned 32 (ofSigned 32 e), outstanding := some serial } }

/-- A capture input that is enabled on both edges takes either (R161). -/
theorem edge_enabled {mode : Nat} (hm : mode = 3) (rising : Bool) :
    (!(if rising then mode == 1 || mode == 3 else mode == 2 || mode == 3)) = false := by subst hm; cases rising <;> rfl

/-- A capture edge with no capture outstanding keeps the position extrapolated to it (R160, R161). -/
theorem captureEdge_taken {c : Fin 2} {g : GroupId} {s : State} (rising : Bool) (t : Nat) (hg : groupOperand (s.actN 0x5050 (c.val + 3)) = some g)
    (hm : s.actN 0x5050 (c.val + 1) = 3) (hc : s.captureHeld c = false) :
    (captureEdge c rising t s).silent = { s.silent with
      now := max s.now t
      sense := s.sense.captured c (s.gr[g].pos.stampE + countsOver s.gr[g].pos.speed 1 s.gr[g].pos.stampAt t) s.io.eventSerial } := by
  have hc' : (setNow t s).captureHeld c = false := hc
  unfold captureEdge
  rw [hg]
  dsimp only
  rw [edge_enabled hm, if_neg Bool.false_ne_true, hc', if_neg Bool.false_ne_true]
  exact (silent_raiseG ..).trans (silent_bump ..)

/-- A capture edge with a capture outstanding is only counted (R161). -/
theorem captureEdge_held {c : Fin 2} {g : GroupId} {s : State} (rising : Bool) (t : Nat) (hg : groupOperand (s.actN 0x5050 (c.val + 3)) = some g)
    (hm : s.actN 0x5050 (c.val + 1) = 3) (hc : s.captureHeld c = true) :
    (captureEdge c rising t s).silent = (setNow t s).silent := by
  have hc' : (setNow t s).captureHeld c = true := hc
  unfold captureEdge
  rw [hg]
  dsimp only
  rw [edge_enabled hm, if_neg Bool.false_ne_true, hc', if_pos rfl]
  exact (silent_raiseFirst ..).trans (silent_bump ..)

/-! Standstill (R162) -/

/-- No code stands in the filter of a Hall triplet: there is nothing to take (R153). -/
theorem hallSettle_empty {i : IfId} {s : State} (t : Nat) (h : s.sense.iface[i].waiting = none) : hallSettle i t s = s := by
  unfold hallSettle
  rw [h]

theorem ofSigned_ofSigned (w : Nat) (z : Int) : ofSigned w (ofSigned w z : Int) = ofSigned w z := by
  have hpos : (0 : Int) ≤ z % 2 ^ w := Int.emod_nonneg _ (by positivity)
  rw [ofSigned, ofSigned, Int.toNat_of_nonneg hpos, Int.emod_emod]

/-- The tick at which the standstill time of an interface ends (R162). -/
def State.standstillAt (s : State) (i : IfId) : Nat := s.sense.iface[i].lastEdge + s.actN 0x5032 5 * ticksPerMs

/-- At standstill the speed of an encoder becomes zero (R162). -/
theorem IfaceIs.speedZero_encoder {i : IfId} (s : State) (h : isEncoder i = true) (hh : isHall i = false) :
    IfaceIs (setNow (s.standstillAt i) s) i { s.sense.iface[i] with speed := 0 } (speedZero i s) := by
  have heq : speedZero i s = Machine.modIface i (fun x => { x with speed := 0 }) (setNow (s.standstillAt i) s) := by
    unfold Machine.speedZero
    rw [h, hh]
    rfl
  rw [heq]
  exact .modIface (.refl ..)

/-- At standstill a Hall triplet has no speed, and its angle stays where its interpolation stands (R153, R162). -/
theorem IfaceIs.speedZero_hall {i : IfId} {s : State} (h : isEncoder i = false) (hh : isHall i = true) (hw : s.sense.iface[i].waiting = none) :
    ∃ k gr, IfaceIs { setNow (s.standstillAt i) s with gr := gr } i
      { s.sense.iface[i] with theta := s.sensorAngle i (max s.now (s.standstillAt i)), turns := k, speed := 0 } (speedZero i s) := by
  have hang (t : Nat) : ofSigned 16 (s.sensorAngle i t : Int) = s.sensorAngle i t := by
    rw [State.sensorAngle, hh, if_pos rfl, ofSigned_ofSigned]
  have heq : speedZero i s = Machine.modIface i (fun x => { x with speed := 0 })
      (Machine.moveTheta i (s.sensorAngle i (max s.now (s.standstillAt i))) (setNow (s.standstillAt i) s)) := by
    unfold Machine.speedZero
    rw [h, hh, onlyIf_true, hallSettle_empty _ hw]
    rfl
  obtain ⟨k, gr, hm, -⟩ := moveTheta_any i (s.sensorAngle i (max s.now (s.standstillAt i))) (setNow (s.standstillAt i) s)
  rw [hang] at hm
  rw [heq]
  exact ⟨k, gr, hm.modIface⟩

/-- Settles O26: an interface changes its own record alone as it becomes valid or invalid; an enabled edge keeps the position extrapolated to it
unless a capture is outstanding; a standstill is a speed of zero, at the angle where a Hall triplet stands. -/
theorem interfaceAndCaptureRows : Obligations.InterfaceAndCaptureRows := by
  refine ⟨fun s i cause => ⟨fun hv ha hs => ?invalid, fun h => ?idle, fun hv => ?valid⟩,
    fun s => ⟨fun c g t0 hp hg hm rising => ⟨fun hc => ?taken, fun hc => ?held⟩, fun i hp h2 h6 hw => ?standstill⟩⟩
  case invalid => exact ⟨_, rfl, (IfaceIs.refl s i).confirmCause hs ha hv⟩
  case idle => exact congrArg Host.Outcome.next (confirmCause_idle h)
  case valid => exact ⟨_, rfl, IfaceIs.ifaceValid hv⟩
  case taken =>
    have ht := captureEdge_taken rising t0 hg hm hc
    refine completes_pulse rfl hp ?_
    generalize captureEdge c rising t0 s = t at ht
    have hsense : t.sense = s.sense.captured c _ _ := have e := congrArg State.sense ht; e
    have hself : t.sense.capture[c] = _ := (congrArg (fun x : Sense => x.capture[c]) hsense).trans (Vector.getElem_set_self c.2)
    refine ⟨?_, ?_, ?_, ?_⟩
    · rw [hsense]; exact ht
    · rw [hsense]; rfl
    · rw [hself]
    · rw [hself]; rfl
  case held => exact completes_pulse rfl hp (captureEdge_held rising t0 hg hm hc)
  case standstill =>
    refine completes_pulse rfl hp ?_
    by_cases hi : i.val < 4
    · have henc : isEncoder i = true ∧ isHall i = false := by
        simp only [isEncoder, isHall, Bool.or_eq_true, Bool.or_eq_false_iff, beq_iff_eq, beq_eq_false_iff_ne]; omega
      have ht := IfaceIs.speedZero_encoder s henc.1 henc.2
      generalize speedZero i s = t at ht
      refine ⟨congrArg Iface.speed ht.iface, ht.others.1, ht.others.2, ?_, fun _ => ⟨ht.gr, ht.iface⟩, fun h4 => absurd hi (Nat.not_lt.2 h4)⟩
      rw [ht.now, ht.gr]
      exact ht.frame
    · have hhall : isEncoder i = false ∧ isHall i = true := by
        simp only [isEncoder, isHall, Bool.or_eq_true, Bool.or_eq_false_iff, beq_iff_eq, beq_eq_false_iff_ne]; omega
      obtain ⟨k, gr, ht⟩ := IfaceIs.speedZero_hall hhall.1 hhall.2 hw
      generalize speedZero i s = t at ht
      refine ⟨congrArg Iface.speed ht.iface, ht.others.1, ht.others.2, ?_, fun h4 => absurd h4 hi, fun _ => ?_⟩
      · rw [ht.now, ht.gr]
        exact ht.frame
      · rw [ht.iface, ht.now]
        rfl

end Sys2Proof.Machine
end

section
/-! PROOFS. The rows of resolvers, encoders, Hall triplets and serial ports (O27): the record that each leaves of its interface. -/

namespace Sys2Proof.Machine

/-- Interface of a resolver (R146). -/
def resolverIf (r : Fin 2) : IfId := ⟨r.val, by omega⟩
/-- Interface of an encoder. -/
def encoderIf (e : Fin 2) : IfId := ⟨e.val + 2, by omega⟩
/-- Interface of a Hall triplet. -/
def hallIf (h : Fin 2) : IfId := ⟨h.val + 4, by omega⟩
/-- Interface of a synchronous serial port. -/
def sspIf (p : Fin 2) : IfId := ⟨p.val + 6, by omega⟩

/-- The squared amplitude of an excitation peak is below its limit (R151). -/
def State.peakWeak (s : State) (i : IfId) (sin cos : Int) : Bool :=
  decide (sin * sin + cos * cos < (10 * s.act (ifaceObj i) 5) * (10 * s.act (ifaceObj i) 5))

/-- The amplitude of an excitation peak is outside its limits (R151). -/
def State.peakOff (s : State) (i : IfId) (sin cos : Int) : Bool :=
  s.peakWeak i sin cos || decide ((10 * s.act (ifaceObj i) 6) * (10 * s.act (ifaceObj i) 6) < sin * sin + cos * cos)

/-- The angle of a resolver that its tracking loop expects at the next peak (R151). -/
def State.peakExpected (s : State) (i : IfId) : Int :=
  (s.sense.iface[i].theta : Int) + (s.sense.iface[i].speed * (s.sensorPoles i : Rat) / 60 * (s.direction i : Rat) * 65536 /
    ((max 1 (s.actN (ifaceObj i) 1) : Nat) : Rat)).floor

/-- The tracking error of a peak, none where the peak is too weak for an angle (R151). -/
def State.peakError (s : State) (i : IfId) (sin cos : Int) : Int :=
  if s.peakWeak i sin cos then 0 else toSigned 16 (ofSigned 16 (Config.atan2Turn (sin : Rat) (cos : Rat) - s.peakExpected i))

/-- The angle that the tracking loop takes at a peak (R151). -/
def State.peakAngle (s : State) (i : IfId) (sin cos : Int) : Int :=
  s.peakExpected i +
    (if s.peakWeak i sin cos then (0, 0) else Config.trackLoop (s.actN (ifaceObj i) 4) (max 1 (s.actN (ifaceObj i) 1)) (s.peakError i sin cos)).1

variable {s : State} {x : Iface}

/-! Resolvers (R149, R151) -/

section
variable {r : Fin 2} {sin cos : Int}

/-- An overcurrent of the excitation is cause 3 of its resolver (R149). -/
theorem IfaceIs.resolverPeak_overcurrent (hx : s.sense.iface[resolverIf r] = x) (ha : s.assigned (resolverIf r) = true) (hs : s.unused (resolverIf r))
    (hv : x.valid = true) :
    IfaceIs s (resolverIf r) { x with valid := false, cause := 3, good := 0, bad := 0, zBad := 0, track := 0 } (resolverPeak r sin cos true s) := by
  have heq : resolverPeak r sin cos true s = Machine.confirmCause (resolverIf r) 3 s := by
    unfold resolverPeak
    extract_lets i
    rw [show s.assigned i = true from ha]
    rfl
  rw [heq]
  exact (of_iface hx).confirmCause hs ha hv

/-- A peak within its tracking limit takes the tracked angle before its amplitude is judged, as one check (R149, R151). -/
theorem IfaceIs.resolverPeak_tracked (hx : s.sense.iface[resolverIf r] = x) (ha : s.assigned (resolverIf r) = true) (hs : s.unused (resolverIf r))
    (herr : (s.peakError (resolverIf r) sin cos).natAbs ≤ s.actN (ifaceObj (resolverIf r)) 8) :
    ∃ turns edge speed v, IfaceIs s (resolverIf r)
      { x with theta := ofSigned 16 (s.peakAngle (resolverIf r) sin cos), turns := turns, lastEdge := edge, speed := speed, track := 0 } v ∧
      ∀ y, y.track = 0 → IfaceIs s (resolverIf r) y (if s.peakOff (resolverIf r) sin cos then
        Machine.badCheck (resolverIf r) 1 (v.actN (ifaceObj (resolverIf r)) 7) v else Machine.goodCheck (resolverIf r) v) →
        IfaceIs s (resolverIf r) y (resolverPeak r sin cos false s) := by
  unfold resolverPeak
  extract_lets i y o f sq lowAmp badAmp rev pred err fix badTrack s1 s2 s3 s4
  rw [show s.assigned i = true from ha, if_neg (by decide), if_neg (by decide)]
  have hbadTrack : badTrack = false := decide_eq_false (Nat.not_lt.2 herr)
  obtain ⟨k, h1⟩ : ∃ k, IfaceIs s i { x with theta := ofSigned 16 (pred + fix.1), turns := k } s1 := (of_iface hx).moveTheta hs
  clear_value badTrack
  subst hbadTrack
  have h2 : IfaceIs s i { x with theta := ofSigned 16 (pred + fix.1), turns := k, lastEdge := s1.now, speed := _, track := 0 } s2 := h1.modIface
  refine ⟨k, s1.now, _, s3, .onlyIf (fun _ => silent_bump ..) (.onlyIf (fun _ => silent_bump ..) h2), fun z hz h => ?_⟩
  have h4 : IfaceIs s i z s4 := h
  rw [h4.iface, hz, if_neg (by decide)]
  exact h4

/-- A peak whose amplitude is below its limit is one bad check and no tracking error (R149, R151). -/
theorem IfaceIs.resolverPeak_weak (hx : s.sense.iface[resolverIf r] = x) (ha : s.assigned (resolverIf r) = true) (hs : s.unused (resolverIf r))
    (hlow : s.peakWeak (resolverIf r) sin cos = true) (hn : x.bad + 1 < s.actN (ifaceObj (resolverIf r)) 7) :
    ∃ theta turns edge speed, IfaceIs s (resolverIf r)
      { x with theta := theta, turns := turns, lastEdge := edge, speed := speed, track := 0, bad := x.bad + 1, good := 0 }
      (resolverPeak r sin cos false s) := by
  have herr : s.peakError (resolverIf r) sin cos = 0 := if_pos hlow
  obtain ⟨k, edge, speed, v, hv, hend⟩ := resolverPeak_tracked hx ha hs (by rw [herr]; exact Nat.zero_le _)
  rw [State.peakOff, hlow, Bool.true_or, if_pos rfl, hv.actN] at hend
  exact ⟨_, k, edge, speed, hend _ rfl (hv.badCheck hn)⟩

/-- A peak with its amplitude and tracking error within their limits is one good check (R149, R151). -/
theorem IfaceIs.resolverPeak_good (hx : s.sense.iface[resolverIf r] = x) (ha : s.assigned (resolverIf r) = true) (hs : s.unused (resolverIf r))
    (hv : x.valid = true) (hoff : s.peakOff (resolverIf r) sin cos = false)
    (herr : (s.peakError (resolverIf r) sin cos).natAbs ≤ s.actN (ifaceObj (resolverIf r)) 8) :
    ∃ turns edge speed, IfaceIs s (resolverIf r)
      { x with theta := ofSigned 16 (s.peakAngle (resolverIf r) sin cos), turns := turns, lastEdge := edge, speed := speed, track := 0,
               good := x.good + 1, bad := 0 } (resolverPeak r sin cos false s) := by
  obtain ⟨k, edge, speed, v, hm, hend⟩ := resolverPeak_tracked hx ha hs herr
  rw [hoff, if_neg Bool.false_ne_true] at hend
  exact ⟨k, edge, speed, hend _ rfl (hm.goodCheck hv)⟩

end

/-! Encoders (R149, R152) -/

section
variable {i : IfId} {e : Fin 2} {a b : Bool} {t : Nat}

/-- A change of one quarter either way, past the least edge distance and the glitch filter, moves the count by one (R152). -/
theorem IfaceIs.encoderStep_counted (hx : s.sense.iface[i] = x) (hs : s.unused i) (hv : x.valid = true)
    (hglitch : x.lastEdge + ticksOfNs (s.actN (ifaceObj i) 4) ≤ t) (hdist : x.lastEdge + 20 ≤ t)
    (hd : (quadrature a b - quadrature x.lastA x.lastB) % 4 = 1 ∨ (quadrature a b - quadrature x.lastA x.lastB) % 4 = 3)
    (hz : s.act (ifaceObj i) 2 ≠ 1) :
    ∃ c turns undo, c = x.counts + (if (quadrature a b - quadrature x.lastA x.lastB) % 4 = 1 then 1 else -1) ∧ IfaceIs s i
      { x with lastA := a, lastB := b, lastEdge := t, undo := undo, counts := c, turns := turns,
               theta := ofSigned 16 (encoderTheta c (s.act (ifaceObj i) 1)), good := x.good + 1, bad := 0 }
      (encoderStep i a b t s) := by
  subst hx
  have hquarter (n : Int) (h : n = 1 ∨ n = 3) : n ≠ 0 ∧ n ≠ 2 := by omega
  unfold encoderStep
  extract_lets x lines d glitch s1 c s2
  obtain ⟨hd0, hd2⟩ : d ≠ 0 ∧ d ≠ 2 := hquarter d hd
  have hno : glitch = false := by
    simp only [glitch]
    split
    · rw [decide_eq_false (Nat.not_lt.2 hglitch), Bool.and_false]
    · rfl
  rw [if_neg hd0, hno, if_neg Bool.false_ne_true, decide_eq_false hd2, decide_eq_false (Nat.not_lt.2 hdist), Bool.or_false, if_neg Bool.false_ne_true]
  have h1 : IfaceIs s i { x with undo := some (x.lastA, x.lastB, x.lastEdge, x.counts) } s1 := .modIface (.refl s i)
  obtain ⟨k, h2⟩ := (h1.modIface (f := fun y => { y with lastA := a, lastB := b, lastEdge := t, counts := c })).moveTheta
    (theta := encoderTheta c (s1.act (ifaceObj i) 1)) hs
  have h3 : IfaceIs s i _ s2 := h2.goodCheck hv
  rw [h3.act, decide_eq_false hz, Bool.false_and, if_neg Bool.false_ne_true]
  rw [h1.act] at h3
  exact ⟨c, k, _, rfl, h3⟩

/-- An encoder edge is a step of its lines at its tick, and then, where it is one, a Z edge (R152). -/
theorem encoderEdge_eq (z : Bool) (ha : s.assigned (encoderIf e) = true) :
    encoderEdge e a b z t s =
      if z then encoderZ (encoderIf e) (encoderStep (encoderIf e) a b t (setNow t s)) else encoderStep (encoderIf e) a b t (setNow t s) :=
  if_neg (by rw [show s.assigned ⟨e.val + 2, by omega⟩ = true from ha]; decide)

/-- Lines that have not moved are no step (R152). -/
theorem encoderStep_still (hd : (quadrature a b - quadrature s.sense.iface[i].lastA s.sense.iface[i].lastB) % 4 = 0) : encoderStep i a b t s = s :=
  if_pos hd

/-- Dropping the offsets of one group leaves every group as it was but for offsets (R157). -/
theorem dropOffsets_gr (g k : GroupId) (s : State) :
    (dropOffsets g s).gr[k] = { s.gr[k] with pos := { s.gr[k].pos with offsets := (dropOffsets g s).gr[k].pos.offsets } } := by
  rw [dropOffsets]
  by_cases h : k = g
  · subst h
    rw [gr_modGr_self]
  · rw [gr_modGr_ne _ _ h]

/-- The first Z of an encoder references it at count 0, and drops the offsets of its group to the other source (R152, R157; log 180). -/
theorem IfaceIs.encoderZ_first (hx : s.sense.iface[i] = x) (hz : s.act (ifaceObj i) 2 = 1) (hseen : x.zSeen = false) :
    ∃ gr, (∀ g : GroupId, gr[g] = { s.gr[g] with pos := { s.gr[g].pos with offsets := gr[g].pos.offsets } }) ∧
      IfaceIs { s with gr := gr } i
        { x with zSeen := true, referenced := true, counts := 0, prevCounts := x.prevCounts - x.counts, zAt := 0, zBad := 0, undo := none,
                 turns := 0, theta := 0 } (encoderZ i s) := by
  subst hx
  unfold encoderZ
  rw [if_neg (not_not.2 hz), hseen, Bool.not_false, if_pos rfl]
  split
  next g _ => exact ⟨(dropOffsets g s).gr, fun k => dropOffsets_gr g k s, rfl⟩
  next => exact ⟨s.gr, fun _ => rfl, rfl⟩

end

/-! Hall triplets (R153) -/

section
variable {i : IfId} {h : Fin 2} {code : BitVec 3} {c t : Nat}

/-- A triplet that Clove does not name for any group is left to its filter (R148, R306). -/
theorem hallChange_eq (hclove : ∀ g : GroupId, s.actN 0x8100 (g.val + 1) ≠ ifaceCode (hallIf h)) (ha : s.assigned (hallIf h) = true)
    (hp : s.pulseOn = true) : hallChange h code t s = hallEnter (hallIf h) code.toNat t (setNow t s) := by
  unfold hallChange
  extract_lets i u
  have hnone : (allGr.filter fun g => s.actN 0x8100 (g.val + 1) == ifaceCode i) = [] :=
    List.filter_eq_nil_iff.2 fun g _ => by rw [beq_iff_eq]; exact hclove g
  have hu : u = s := by
    simp only [u, hnone]
    exact ite_self s
  rw [hu, show s.assigned i = true from ha, hp]
  rfl

/-- A filter that is on only takes the code to wait, unless it is the one already taken (R153). -/
theorem hallEnter_filtered (hx : s.sense.iface[i] = x) (hw : x.waiting = none) (hf : s.hallFilter i ≠ 0) (hbad : x.badSince = 0)
    (hc : c ≠ x.code) :
    hallEnter i c t s = modIface i (fun y => { y with waiting := some (c, t) }) s := by
  subst hx
  have hholds : s.sense.iface[i].holds c = false := by
    rw [Iface.holds, if_pos hbad]
    exact beq_eq_false_iff_ne.2 hc.symm
  unfold hallEnter
  rw [hallSettle_empty t hw, if_neg hf, modIface, hholds]
  rfl

/-- A valid code next to the one taken is taken at its tick, with its direction and the edge by which its sector is entered (R153). -/
theorem IfaceIs.hallStep_adjacent (back : Bool) (hx : s.sense.iface[i] = x) (hs : s.unused i) (hv : x.valid = true) (hplace : hallPlace x.code ≠ 6)
    (hd : (hallPlace c + 6 - hallPlace x.code) % 6 = if back then 5 else 1) :
    ∃ turns speed, IfaceIs s i
      { x with theta := ofSigned 16 (hallEntry (hallPlace c) + (if back then hallSector else 0 : Nat)), turns := turns, code := c,
               hallDir := if back then -1 else 1, prevEdge := x.lastEdge, lastEdge := t, speed := speed, good := x.good + 1, bad := 0 }
      (hallStep i c t s) := by
  subst hx
  have hle : hallPlace s.sense.iface[i].code < 6 := by
    have : hallPlace s.sense.iface[i].code ≤ 6 := by unfold hallPlace; split_ifs <;> omega
    omega
  unfold hallStep
  extract_lets x n d skip back' dir entry dt rpm s1 s2
  have hd' : d = if back then 5 else 1 := by
    rw [← hd]
    exact congrArg (fun m => (n + 6 - m) % 6) (Nat.mod_eq_of_lt hle)
  clear_value d
  subst hd'
  rw [if_neg hplace]
  obtain ⟨k, h1⟩ : ∃ k, IfaceIs s i { x with theta := ofSigned 16 entry, turns := k } s1 := (IfaceIs.refl s i).moveTheta hs
  have h2 : IfaceIs s i { x with
      theta := ofSigned 16 entry, turns := k, code := c, hallDir := dir, prevEdge := x.lastEdge, lastEdge := t, speed := rpm } s2 := h1.modIface
  have h3 := h2.goodCheck hv
  cases back <;> exact ⟨k, rpm, h3⟩

/-- Without a filter a valid code next to the one taken is taken at once (R153). -/
theorem IfaceIs.hallEnter_adjacent (back : Bool) (hx : s.sense.iface[i] = x) (hs : s.unused i) (hv : x.valid = true) (hw : x.waiting = none)
    (hf : s.hallFilter i = 0) (hbad : x.badSince = 0) (hc : c ≠ 0 ∧ c ≠ 7) (hplace : hallPlace x.code ≠ 6)
    (hd : (hallPlace c + 6 - hallPlace x.code) % 6 = if back then 5 else 1) :
    ∃ turns speed, IfaceIs s i
      { x with badSince := 0, heldSeen := false, theta := ofSigned 16 (hallEntry (hallPlace c) + (if back then hallSector else 0 : Nat)),
               turns := turns, code := c, hallDir := if back then -1 else 1, prevEdge := x.lastEdge, lastEdge := t, speed := speed, good := x.good + 1, bad := 0 }
      (hallEnter i c t s) := by
  subst hx
  have hheld : hallHeld i t s = s := if_pos (by rw [hbad]; rfl)
  unfold hallEnter hallTake
  rw [hallSettle_empty t hw, if_pos hf, hheld, if_neg (not_or.2 hc)]
  obtain ⟨k, v, hstep⟩ := hallStep_adjacent (t := t) back (modIface_iface_self i (fun y => { y with badSince := 0, heldSeen := false }) s) hs hv
    hplace hd
  exact ⟨k, v, hstep.rebase⟩

end

/-! Synchronous serial ports (R154, R155) -/

section
variable {p : Fin 2} {t : Nat}

/-- The record of a port whose frame is requested at tick t (R154, R155). -/
def State.requested (s : State) (p : Fin 2) (idleLow : Bool) (t : Nat) (x : Iface) : Iface :=
  let o := ifaceObj (sspIf p)
  let clk := 400000 / max 1 (s.actN o 1)
  { x with latchAt := t + clk / 2 + ticksOfNs (s.actN o 0x0B), busyUntil := t + (s.actN o 2 + 1) * clk + s.actN o 7 * ticksPerUs, idleLow := idleLow }

/-- A request inside the previous frame or its monoflop time is only counted; a later one occupies the port, and a line that is low at idle is a
frame error (R149, R154, R155). -/
theorem sspRequest_eq (idleLow : Bool) (ha : s.assigned (sspIf p) = true) :
    sspRequest p idleLow t s = if t < s.sense.iface[sspIf p].busyUntil then bumpI (sspIf p) 3 (setNow t s)
      else onlyIf idleLow (frameError (sspIf p)) (modIface (sspIf p) (s.requested p idleLow t) (setNow t s)) :=
  if_neg (by rw [show s.assigned ⟨p.val + 6, by omega⟩ = true from ha]; decide)

/-- One frame error, the first or the second in a row (R149). -/
theorem IfaceIs.frameError_one {i : IfId} {u : State} (h : IfaceIs s i x u) (hn : x.bad < 2) :
    IfaceIs s i { x with bad := x.bad + 1, good := 0 } (frameError i u) := (bumpI h).badCheck (by omega)

/-- The first frame of a source that a group does not use, where no wake waits for its judgement, changes no count (R158, R159). -/
theorem firstPosition_single {i : IfId} (h : ∀ g, s.ifaceGroup i = some g → s.gr[g].pos.unjudged = none) : firstPosition i false s = s := by
  unfold firstPosition
  split
  next => rfl
  next g hg =>
    rw [h g hg]
    rfl

/-- The first accepted frame of a single-turn encoder gives its angle (R155, R160). -/
theorem IfaceIs.sspComplete_first {frame : Nat} (hx : s.sense.iface[sspIf p] = x) (ha : s.assigned (sspIf p) = true) (hs : s.unused (sspIf p))
    (hv : x.valid = true) (hj : ∀ g, s.ifaceGroup (sspIf p) = some g → s.gr[g].pos.unjudged = none) (hlow : x.idleLow = false)
    (hsingle : s.actN (ifaceObj (sspIf p)) 4 = 0) (herr : s.act (ifaceObj (sspIf p)) 6 = 0xFF) (htwice : s.act (ifaceObj (sspIf p)) 8 = 0)
    (hfirst : x.frameAt = 0) :
    ∃ turns speed referenced, IfaceIs (setNow t s) (sspIf p)
      { x with theta := ofSigned 16 (((s.sspFields (sspIf p) frame).2 * 65536 / 2 ^ s.actN (ifaceObj (sspIf p)) 3 : Nat) : Int), turns := turns,
               speed := speed, frameAt := max 1 x.latchAt, referenced := referenced, good := x.good + 1, bad := 0 }
      (sspComplete p frame frame t s) := by
  subst hx
  unfold sspComplete
  extract_lets i u x o f single d dt top seen bad rpm s1 s2 s3 s4 s5
  have hseen : seen = false := bne_eq_false_iff_eq.2 hfirst
  have hgood : bad = false := by
    have h6 : u.act o 6 = 0xFF := herr
    have h8 : u.act o 8 = 0 := htwice
    simp only [bad, h6, h8, hseen]
    rfl
  rw [show s.assigned i = true from ha, if_neg (by decide), show x.idleLow = false from hlow, if_neg Bool.false_ne_true, hgood,
    if_neg Bool.false_ne_true]
  obtain ⟨k, h1⟩ : ∃ k, IfaceIs u i { x with theta := ofSigned 16 (single : Int), turns := k } s1 := (IfaceIs.refl u i).moveTheta hs
  have hone : s1.actN o 4 = 0 := (h1.actN o 4).trans hsingle
  have hs2 : s2 = s1 := if_pos hone
  have hs3 : s3 = s2 := if_pos (hs2 ▸ hone)
  have hs4 : s4 = s1 := by
    have hjudged : ∀ g, s1.ifaceGroup i = some g → s1.gr[g].pos.unjudged = none := by
      rw [h1.ifaceGroup, h1.gr]
      exact hj
    simp only [s4, hs3, hs2, hone, hseen]
    exact firstPosition_single hjudged
  rw [← hs4] at h1
  exact ⟨k, _, _, (h1.modIface (f := fun y => { y with
    speed := rpm, frameAt := max 1 x.latchAt, referenced := decide (s4.actN o 4 ≠ 0) })).goodCheck hv⟩

end

/-- A valid interface with a bad check is confirming a cause (R169). -/
theorem confirming_of_bad {s : State} {i : IfId} (hv : s.sense.iface[i].valid = true) (hb : s.sense.iface[i].bad ≠ 0) : s.confirming i = true := by
  have hbad : (s.sense.iface[i].bad != 0) = true := bne_iff_ne.2 hb
  simp only [State.confirming, hv, hbad, Bool.true_or, Bool.and_true]

/-- Settles O27: an interface that is no group's source in use changes, but for the reports, its own record alone; the first Z also drops the
offsets of its group. -/
theorem positionSensorRows : Obligations.PositionSensorRows := by
  intro s i t0 hp ha hv hs
  refine ⟨fun r hi => ?resolver, fun e a b d hi hd hglitch => ?encoder, fun h code hi hclove hc0 hc7 hbad hplace hw => ?hall, fun p hi => ?port⟩
  case resolver =>
    obtain rfl : i = resolverIf r := Fin.ext hi
    refine ⟨fun sin cos => ?overcurrent, fun h5 hn htrack => ?weak, fun sin cos pred err f hf hpred herr hlim h5 h6 => ?good⟩
    case overcurrent =>
      have ht := IfaceIs.resolverPeak_overcurrent (sin := sin) (cos := cos) rfl ha hs hv
      exact completes_pulse rfl hp ⟨ht.frame, congrArg Iface.valid ht.iface, congrArg Iface.cause ht.iface⟩
    case weak =>
      have hlow : s.peakWeak (resolverIf r) 0 0 = true := decide_eq_true (by positivity)
      obtain ⟨theta, k, edge, speed, ht⟩ := IfaceIs.resolverPeak_weak rfl ha hs hlow hn
      have hbad := congrArg Iface.bad ht.iface
      have hvalid := (congrArg Iface.valid ht.iface).trans hv
      exact completes_pulse rfl hp ⟨ht.frame, hbad, congrArg Iface.good ht.iface, hvalid,
        confirming_of_bad hvalid (by rw [hbad]; exact Nat.succ_ne_zero _)⟩
    case good =>
      have hstrong : s.peakWeak (resolverIf r) sin cos = false := decide_eq_false (not_lt.2 h5)
      have hin : s.peakOff (resolverIf r) sin cos = false := by rw [State.peakOff, hstrong, decide_eq_false (not_lt.2 h6)]; rfl
      have hexp : s.peakExpected (resolverIf r) = pred := by rw [hpred, hf]; rfl
      have hperr : s.peakError (resolverIf r) sin cos = err := by rw [State.peakError, hstrong, hexp, herr]; rfl
      have hangle : s.peakAngle (resolverIf r) sin cos = pred + (Config.trackLoop (s.actN (ifaceObj (resolverIf r)) 4) f err).1 := by
        rw [State.peakAngle, hstrong, hexp, hperr, hf]; rfl
      obtain ⟨k, edge, speed, ht⟩ := IfaceIs.resolverPeak_good rfl ha hs hv hin (hperr ▸ hlim)
      rw [hangle] at ht
      exact completes_pulse rfl hp ⟨ht.frame, congrArg Iface.theta ht.iface, congrArg Iface.good ht.iface, congrArg Iface.bad ht.iface,
        congrArg Iface.track ht.iface, (congrArg Iface.valid ht.iface).trans hv⟩
  case encoder =>
    obtain rfl : i = encoderIf e := Fin.ext hi
    subst hd
    refine ⟨fun hdist hone hz => ?counted, fun hstill hz hseen => ?firstZ⟩
    case counted =>
      obtain ⟨c, k, undo, hc, ht⟩ := IfaceIs.encoderStep_counted (s := setNow t0 s) rfl hs hv hglitch hdist hone hz
      refine completes_pulse rfl hp ?_
      rw [encoderEdge_eq false ha]
      have hcounts := congrArg Iface.counts ht.iface
      refine ⟨ht.frame, hcounts.trans hc, congrArg Iface.lastEdge ht.iface, congrArg Iface.lastA ht.iface, congrArg Iface.lastB ht.iface, ?_⟩
      exact (congrArg Iface.theta ht.iface).trans (hcounts ▸ rfl)
    case firstZ =>
      obtain ⟨gr, hgr, ht⟩ := IfaceIs.encoderZ_first (s := setNow t0 s) rfl hz hseen
      refine completes_pulse rfl hp ?_
      rw [encoderEdge_eq true ha, encoderStep_still (s := setNow t0 s) hstill, if_pos rfl]
      refine ⟨?_, ?_, congrArg Iface.zSeen ht.iface, congrArg Iface.referenced ht.iface,
        congrArg Iface.counts ht.iface, congrArg Iface.theta ht.iface⟩
      · rw [ht.gr]
        exact ht.frame
      · rw [ht.gr]
        exact hgr
  case hall =>
    obtain rfl : i = hallIf h := Fin.ext hi
    have hvalid : code.toNat ≠ 0 ∧ code.toNat ≠ 7 := by bv_omega
    refine ⟨fun hf hne => ?filtered, fun back hf hd => ?taken⟩
    case filtered =>
      refine congrArg Host.Outcome.next ?_
      rw [hallChange_eq hclove ha hp]
      exact hallEnter_filtered (s := setNow t0 s) rfl hw hf hbad hne
    case taken =>
      obtain ⟨k, speed, ht⟩ := IfaceIs.hallEnter_adjacent (s := setNow t0 s) (t := t0) back rfl hs hv hw hf hbad hvalid hplace hd
      refine ⟨_, rfl, ?_⟩
      rw [hallChange_eq hclove ha hp]
      exact ⟨ht.frame, congrArg Iface.code ht.iface, congrArg Iface.hallDir ht.iface, congrArg Iface.lastEdge ht.iface,
        congrArg Iface.prevEdge ht.iface, congrArg Iface.theta ht.iface⟩
  case port =>
    obtain rfl : i = sspIf p := Fin.ext hi
    have hreq (low : Bool) : IfaceIs (setNow t0 s) (sspIf p) (s.requested p low t0 s.sense.iface[sspIf p])
        (modIface (sspIf p) (s.requested p low t0) (setNow t0 s)) :=
      .modIface (.refl ..)
    refine ⟨fun hbusy => ?busy, fun hidle => ?idle, fun hidle hn => ?low, fun frame hj hlow h6 h8 hfirst hsingle => ?frame⟩
    case busy =>
      refine completes_pulse rfl hp ?_
      rw [sspRequest_eq false ha, if_pos hbusy]
      exact silent_bump ..
    case idle =>
      refine completes_pulse rfl hp ?_
      rw [sspRequest_eq false ha, if_neg (Nat.not_lt.2 hidle), onlyIf_false]
      have ht := hreq false
      exact ⟨ht.frame, congrArg Iface.busyUntil ht.iface, (congrArg Iface.bad ht.iface).trans rfl⟩
    case low =>
      refine completes_pulse rfl hp ?_
      rw [sspRequest_eq true ha, if_neg (Nat.not_lt.2 hidle), onlyIf_true]
      have ht := IfaceIs.frameError_one (hreq true) hn
      exact ⟨ht.frame, congrArg Iface.bad ht.iface, congrArg Iface.good ht.iface, (congrArg Iface.valid ht.iface).trans hv⟩
    case frame =>
      obtain ⟨k, speed, referenced, ht⟩ := IfaceIs.sspComplete_first (t := t0) (frame := frame) rfl ha hs hv hj hlow hsingle h6 h8 hfirst
      exact completes_pulse rfl hp ⟨ht.frame, congrArg Iface.theta ht.iface, congrArg Iface.frameAt ht.iface,
        (congrArg Iface.valid ht.iface).trans hv⟩

end Sys2Proof.Machine
end

section
/-! PROOFS. TORQUE.SET, POSITION.SET, SS1.REQUEST and SAFETY.SELECT (O6). -/

namespace Sys2Proof.Machine

variable {e : CmdEntry} {g : GroupId} {r : CmdRef} {s : State}

/-- A command that names a group runs for it. -/
theorem withGroup_of_operand {body : GroupId → CmdRef → State → State} (h : groupOperand (bits 7 0 (e.word 1)) = some g) :
    withGroup e body r s = body g r s := by
  unfold withGroup
  rw [h]

theorem silent_modGr {f : Group → Group} {u : State} (h : u.silent = s.silent) : (modGr g f u).silent = (modGr g f s).silent :=
  congrArg (modGr g f) h

/-! TORQUE.SET (R138, R229) -/

theorem modInput_modInput (n : Fin 84) (f h : Input → Input) (s : State) : modInput n f (modInput n h s) = modInput n (fun x => f (h x)) s := by
  rw [modInput, modInput_inputs_self]
  simp only [modInput, Vector.set_set]

/-- A good check of an input changes its own record, with a report (R139). -/
theorem goodInput_frame (n : Fin 84) (s : State) : ∃ f, (goodInput n s).silent = (modInput n f s).silent := by
  unfold goodInput
  extract_lets u
  split
  · unfold markValid
    split
    · exact ⟨_, rfl⟩
    · exact ⟨_, (silent_raise ..).trans (congrArg State.silent (modInput_modInput ..))⟩
  · exact ⟨_, rfl⟩

/-- A target in range for a group that runs and is in no SS1 enters the target table at the present time, and is a good check of its message
input (R138, R229). -/
theorem torqueSet_taken (hrange : (toSigned 32 (bits 63 32 (e.word 1))).natAbs ≤ 200000) (hrun : s.running g ≠ [])
    (hss1 : s.gr[g].ss1.any (fun x => decide (x.goal = 0)) = false) :
    ∃ f, (torqueSet e g r s).silent = (modInput (messageInput g) f (modGr g (fun x => { x with
      target := toSigned 32 (bits 63 32 (e.word 1)), setRef := some r, msgAt := s.now }) s)).silent := by
  unfold torqueSet
  extract_lets v u
  have hu : u.silent = s.silent := by
    simp only [u]
    split
    · exact silent_complete ..
    · rfl
  rw [if_neg (Nat.not_lt.2 hrange), if_neg (by rw [hss1, List.isEmpty_eq_false_iff.2 hrun]; decide)]
  obtain ⟨f, hf⟩ := goodInput_frame (messageInput g)
    (modGr g (fun x => { x with msgAt := u.now }) (modGr g (fun x => { x with target := v, setRef := some r }) u))
  refine ⟨f, hf.trans ?_⟩
  rw [modGr_modGr, silent_eq_now hu]
  exact congrArg (modInput (messageInput g) f) (silent_modGr hu)

/-! POSITION.SET (R158) -/

/-- A count in range for a group at rest becomes its count, referenced, and the command completes with OK (R158). -/
theorem positionSet_taken (hlow : -(2 ^ 47) ≤ toSigned 64 (e.word 2)) (hhigh : toSigned 64 (e.word 2) < 2 ^ 47) (hrest : s.running g = []) :
    (∃ low high, (positionSet e g r s).silent = (modGr g (fun x => { x with
      pos := { x.pos with count := toSigned 64 (e.word 2), referenced := true, stampE := toSigned 64 (e.word 2), offsets := [], unjudged := none,
                          atLow := low, atHigh := high }
      lastCount := toSigned 64 (e.word 2) }) s).silent) ∧ (positionSet e g r s).answered r stOk [] := by
  unfold positionSet
  extract_lets v u
  rw [if_neg (by rw [not_or, not_lt, not_le]; exact ⟨hlow, hhigh⟩), hrest, if_neg (by decide)]
  refine ⟨?_, finish_answered r [] _⟩
  obtain ⟨low, high, h⟩ := settleLimits_frame g (raiseG 0x5012 g [v] u)
  refine ⟨low, high, (silent_finish ..).trans (h.trans ?_)⟩
  rw [silent_modGr (silent_raiseG ..), modGr_modGr]

/-! SS1.REQUEST (R276, R424) -/

/-- An update of a group for each of a list leaves the rest of the machine as it was. -/
theorem forGr_modGr {f : Group → Group} {l : List GroupId} (hl : l.Nodup) (s : State) :
    forGr l (fun k => modGr k f) s = { s with gr := Vector.ofFn fun k => if k ∈ l then f s.gr[k] else s.gr[k] } := by
  induction l generalizing s with
  | nil =>
    have hid : (Vector.ofFn fun k => if k ∈ ([] : List GroupId) then f s.gr[k] else s.gr[k]) = s.gr := by ext; simp
    rw [hid]
    rfl
  | cons a l ih =>
    obtain ⟨ha, hl⟩ := List.nodup_cons.1 hl
    refine (ih hl (modGr a f s)).trans (congrArg (fun v => { s with gr := Vector.ofFn v }) (funext fun k => ?_))
    by_cases h : k = a
    · subst h
      rw [gr_modGr_self, if_neg ha, if_pos List.mem_cons_self]
    · rw [gr_modGr_ne f s h]
      simp only [List.mem_cons, h, false_or]

/-- The request of a host joins the sources of SS1 that wait for the next step of a group (R276). -/
def Group.asked (x : Group) : Group := { x with ss1Due := x.ss1Due ++ [ss1FromHost] }

/-- A group that runs, in no SS1 and no identification. -/
def State.mayEnter (s : State) (k : GroupId) : Prop :=
  s.running k ≠ [] ∧ s.gr[k].atlas.ident = none ∧ s.gr[k].ss1.any (fun x => decide (x.goal = 0)) = false

/-- A request of SS1 waits for the next step of a group that may enter (R276, R277). -/
theorem ss1Source_waits {k : GroupId} (h : s.mayEnter k) : ss1Source k ss1FromHost s = modGr k Group.asked s := by
  obtain ⟨hrun, hident, hss1⟩ := h
  have hsome : (s.bridgesOf k).isEmpty = false := List.isEmpty_eq_false_iff.2 fun h => hrun (by rw [State.running, h]; rfl)
  have hno : (modGr k Group.asked s).gr[k].atlas.ident.isSome = false := by
    rw [gr_modGr_self]
    exact congrArg Option.isSome hident
  unfold ss1Source
  rw [hsome, if_neg Bool.false_ne_true, List.isEmpty_eq_false_iff.2 hrun, if_neg Bool.false_ne_true, hss1, if_neg Bool.false_ne_true]
  exact congrArg (fun c => onlyIf c (forBr ((modGr k Group.asked s).running k) toRest) (modGr k Group.asked s)) hno

/-- The request of SS1 waits in each of the groups named, where each may enter (R276). -/
theorem forGr_ss1Source {l : List GroupId} (hl : l.Nodup) (h : ∀ k ∈ l, s.mayEnter k) :
    forGr l (fun k => ss1Source k ss1FromHost) s = { s with gr := Vector.ofFn fun k => if k ∈ l then s.gr[k].asked else s.gr[k] } := by
  rw [← forGr_modGr hl s]
  induction l generalizing s with
  | nil => rfl
  | cons a l ih =>
    obtain ⟨ha, hl⟩ := List.nodup_cons.1 hl
    refine (congrArg (forGr l fun k => ss1Source k ss1FromHost) (ss1Source_waits (h a List.mem_cons_self))).trans (ih hl fun k hk => ?_)
    obtain ⟨hrun, hrest⟩ := h k (List.mem_cons_of_mem a hk)
    refine ⟨hrun, ?_⟩
    rw [gr_modGr_ne _ _ fun e : k = a => ha (e ▸ hk)]
    exact hrest

/-- An SS1.REQUEST waits while one of the groups that it names has no entry. -/
def Ss1Req.waits (q : Ss1Req) : Bool := !allGr.all fun k => !q.named[k] || q.n0[k].isSome

/-- The requests whose groups all have their entry complete, and only those go (R424). -/
theorem settleSs1Reqs_frame (s : State) :
    (settleSs1Reqs s).silent = { s.silent with drive := { s.drive with ss1Reqs := s.drive.ss1Reqs.filter Ss1Req.waits } } :=
  silent_foldl (fun _ _ => silent_complete ..) _ _

theorem groupsOfMask_nodup (m : Nat) : (groupsOfMask m).Nodup := (List.nodup_finRange 4).filter _

/-- An SS1.REQUEST of groups that may all enter waits for their entry, and so does its request in each of them (R276, R424). -/
theorem ss1Request_waits (hne : groupsOfMask (bits 3 0 (e.word 1)) ≠ []) (h : ∀ k ∈ groupsOfMask (bits 3 0 (e.word 1)), s.mayEnter k) :
    ∃ q : Ss1Req, q.ref = r ∧ q.waits = true ∧ (ss1Request e r s).silent = { s.silent with
      gr := Vector.ofFn fun k => if k ∈ groupsOfMask (bits 3 0 (e.word 1)) then s.gr[k].asked else s.gr[k]
      drive := { s.drive with ss1Reqs := (s.drive.ss1Reqs ++ [q]).filter Ss1Req.waits } } := by
  obtain ⟨k, hk⟩ := List.exists_mem_of_ne_nil _ hne
  unfold ss1Request
  extract_lets gs known q _ u
  have hruns : (s.running k).isEmpty = false := List.isEmpty_eq_false_iff.2 (h k hk).1
  have hunknown : known k = none := by
    have hss1 := (h k hk).2.2
    simp only [known, hruns, Bool.false_eq_true, if_false]
    split
    next x hx =>
      rw [hx] at hss1
      exact if_neg (of_decide_eq_false hss1)
    next => rfl
  have hwaits : q.waits = true := by
    have hnamed : q.named[k] = true := by simpa [q] using hk
    have hn0 : q.n0[k] = none := by
      simp only [q, Fin.getElem_fin, Vector.getElem_ofFn, Fin.eta]
      rw [if_pos (List.contains_iff_mem.2 hk), hunknown]
    rw [Ss1Req.waits, Bool.not_eq_true', List.all_eq_false]
    exact ⟨k, List.mem_finRange k, by rw [hnamed, hn0]; decide⟩
  have hrest : (gs.all fun a => (s.running a).isEmpty) = false := List.all_eq_false.2 ⟨k, hk, by rw [hruns]; decide⟩
  refine ⟨q, rfl, hwaits, ?_⟩
  rw [List.isEmpty_eq_false_iff.2 hne, if_neg Bool.false_ne_true, hrest, if_neg Bool.false_ne_true, forGr_ss1Source (s := u) (groupsOfMask_nodup _) h]
  exact settleSs1Reqs_frame _

/-! SAFETY.SELECT (R272) -/

/-- The newest of several completions is that of the last command. -/
theorem takeSelection_answered {v : Nat} {refs : List CmdRef} (hnext : s.gr[g].selectNext = some v) (hrefs : s.gr[g].selectRefs = refs ++ [r]) :
    (takeSelection g s).answered r stOk [BitVec.ofNat 64 v] := by
  unfold takeSelection
  rw [hnext]
  dsimp only
  rw [hrefs, List.foldl_append, List.foldl_cons, List.foldl_nil]
  exact complete_answered ..

/-- A selection that waits takes effect on its group (R272). -/
theorem takeSelection_frame {v : Nat} (hnext : s.gr[g].selectNext = some v) :
    (takeSelection g s).silent = (modGr g (fun x => { x with
      select := v, selectNext := none, selectRefs := [], sdiAcc := 0, slsOver := none, slpOver := none }) s).silent := by
  unfold takeSelection
  rw [hnext]
  exact (silent_foldl (fun _ _ => silent_complete ..) _ _).trans (silent_raiseG ..)

/-- A selection is offered to a group by a command. -/
def Group.offered (v : Nat) (r : CmdRef) (x : Group) : Group := { x with selectNext := some v, selectRefs := x.selectRefs ++ [r] }

/-- A selection that the group may take is in force at once where it does not run, and else waits for its next step (R272). -/
theorem safetySelect_taken (hok : selectionOk (bits 15 8 (e.word 1)) = true)
    (href : bits 15 8 (e.word 1) / 64 % 2 = 1 → s.gr[g].pos.referenced = true)
    (hex : s.excludesMotion g (bits 15 8 (e.word 1)) = false) :
    safetySelect e g r s = if (s.running g).isEmpty then takeSelection g (modGr g (Group.offered (bits 15 8 (e.word 1)) r) s)
      else modGr g (Group.offered (bits 15 8 (e.word 1)) r) s := by
  unfold safetySelect
  extract_lets v u
  have hstate : (decide (v / 64 % 2 = 1 ∧ (!s.gr[g].pos.referenced) = true) || s.excludesMotion g v) = false := by
    rw [show s.excludesMotion g v = false from hex, Bool.or_false]
    exact decide_eq_false fun h => by rw [href h.1] at h; exact absurd h.2 (by decide)
  rw [hok, Bool.not_true, if_neg Bool.false_ne_true, hstate, if_neg Bool.false_ne_true]
  rfl

/-- Settles O6: each command changes its own group, or the groups that it names, and beside them the input record of its target message or the list
of the requests that wait. -/
theorem targetAndStopCommands : Obligations.TargetAndStopCommands := by
  refine ⟨fun e s g hg => ⟨fun hadm hrange hrun hss1 => ?torque, fun hadm hlow hhigh hrest => ?position⟩,
    fun e s => ⟨fun hadm hne hgs => ?ss1, fun g hg hadm hok href hex => ?select⟩⟩
  case torque =>
    refine ⟨_, congrArg Host.Outcome.next ((command_body _ _ _ _ _ _ hadm).trans (withGroup_of_operand hg)), ?_⟩
    obtain ⟨f, ht⟩ := torqueSet_taken (r := e.ref 0x0201) hrange hrun hss1
    generalize torqueSet e g (e.ref 0x0201) s = t at ht
    have hsense : t.sense = _ := silent_eq_sense ht
    have hgr : t.gr = _ := silent_eq_gr ht
    refine ⟨?_, fun n hn => ?_, hgr⟩
    · rw [hgr, hsense]
      exact ht
    · rw [hsense]
      exact modInput_inputs_ne _ _ hn
  case position =>
    refine ⟨_, congrArg Host.Outcome.next ((command_body _ _ _ _ _ _ hadm).trans (withGroup_of_operand hg)), ?_⟩
    obtain ⟨⟨low, high, ht⟩, hans⟩ := positionSet_taken (r := e.ref 0x0205) hlow hhigh hrest
    generalize positionSet e g (e.ref 0x0205) s = t at ht hans
    have hgr : t.gr = _ := silent_eq_gr ht
    have hself : t.gr[g] = _ := (congrArg (fun v : Vector Group 4 => v[g]) hgr).trans (gr_modGr_self ..)
    refine ⟨?_, fun k hk => ?_, ?_, ?_, ?_, hans⟩
    · rw [hgr]
      exact ht
    · rw [hgr]
      exact gr_modGr_ne _ _ hk
    · rw [hself]
    · rw [hself]
    · rw [hself]
  case ss1 =>
    refine ⟨_, congrArg Host.Outcome.next (command_body _ _ _ _ _ _ hadm), ?_⟩
    obtain ⟨q, href, hwaits, ht⟩ := ss1Request_waits (r := e.ref 0x0301) hne hgs
    generalize ss1Request e (e.ref 0x0301) s = t at ht
    have hgr : t.gr = Vector.ofFn _ := have h := congrArg State.gr ht; h
    have hdrive : t.drive = { s.drive with ss1Reqs := (s.drive.ss1Reqs ++ [q]).filter Ss1Req.waits } := have h := congrArg State.drive ht; h
    refine ⟨?_, fun k => ?_, ⟨q, ?_, href⟩, ?_⟩
    · rw [hgr, hdrive]
      exact ht
    · rw [hgr, Fin.getElem_fin, Vector.getElem_ofFn]
      rfl
    · rw [hdrive]
      exact List.mem_filter.2 ⟨List.mem_append_right _ List.mem_cons_self, hwaits⟩
    · rw [hdrive]
  case select =>
    refine ⟨_, congrArg Host.Outcome.next ((command_body _ _ _ _ _ _ hadm).trans (withGroup_of_operand hg)), ?_⟩
    rw [safetySelect_taken hok href hex]
    by_cases hrun : s.running g = []
    · rw [if_pos (List.isEmpty_iff.2 hrun)]
      have hoffer : (modGr g (Group.offered (bits 15 8 (e.word 1)) (e.ref 0x0302)) s).gr[g] = Group.offered _ _ s.gr[g] := gr_modGr_self ..
      have ht := takeSelection_frame (congrArg Group.selectNext hoffer)
      have hans := takeSelection_answered (congrArg Group.selectNext hoffer) (congrArg Group.selectRefs hoffer)
      rw [modGr_modGr] at ht
      generalize takeSelection g _ = t at ht hans
      have hgr : t.gr = _ := silent_eq_gr ht
      have hself : t.gr[g] = _ := (congrArg (fun v : Vector Group 4 => v[g]) hgr).trans (gr_modGr_self ..)
      refine ⟨?_, fun k hk => ?_, fun _ => ⟨?_, ?_, hans⟩, fun hno => absurd hrun hno⟩
      · rw [hgr]
        exact ht
      · rw [hgr]
        exact gr_modGr_ne _ _ hk
      · rw [hself]
      · rw [hself]
    · rw [if_neg (mt List.isEmpty_iff.1 hrun)]
      exact ⟨rfl, fun k hk => gr_modGr_ne _ _ hk, fun hno => absurd hno hrun, fun _ => gr_modGr_self ..⟩

end Sys2Proof.Machine
end

section
/-! PROOFS. Sleep entry (O9), refuted by a state on which the model runs. -/

namespace Sys2Proof.Machine

/-- A drive in STANDBY on the auxiliary converter. Group 1 has no position source and its count is 0; RES1, at angle 100, is stored as its primary
source, which becomes active at the next change of the drive state (R15, R147). -/
def awaitsSource : State :=
  { State.reset with
    par := { State.reset.par with stored := [(objKey 0x5000 1, 1)] }
    pwr := { State.reset.pwr with aux := true }
    drive := { State.reset.drive with state := .standby }
    sense := { State.reset.sense with iface := State.reset.sense.iface.set 0 { State.reset.sense.iface[0] with theta := 100 } } }

/-- Off on every bridge takes the drive to SAFE-OFF before SLEEP, so that the group takes the new source, and its count the angle of that source
(R147, R157, R305). -/
theorem awaitsSource_retains : (busLost awaitsSource).boot.retained[(0 : GroupId)] = some (100, false) := by decide +kernel

/-- Refutes O9: where a new position source waits for a change of the drive state, the loss of the bus supply retains the count that this source
gives, and not the count that the group had. -/
theorem not_sleepRows : ¬ Obligations.SleepRows := by
  intro h
  obtain ⟨hrows, -⟩ := h
  obtain ⟨hentry, -⟩ := hrows awaitsSource
  obtain ⟨-, -, -, -, -, -, hretained, -⟩ := completes_next (u := busLost awaitsSource) rfl
    (hentry .busSupplyLost (.inr ⟨rfl, by decide +kernel, by decide +kernel, by decide +kernel⟩))
  have hkept : (busLost awaitsSource).boot.retained[(0 : GroupId)] = some (0, false) := hretained 0
  exact absurd (awaitsSource_retains.symm.trans hkept) (by decide)

end Sys2Proof.Machine
end

section
/-! PROOFS. The form of the memories (O52). -/

namespace Sys2Proof.Machine

/-- Settles O52: the queue is no part of what the form of the memories speaks of. -/
theorem stepKeepsMemoryCanonical : Obligations.StepKeepsMemoryCanonical := by
  unfold Obligations.StepKeepsMemoryCanonical
  intro s t hw h
  exact (step_follows h).mem hw

end Sys2Proof.Machine
end

section
/-! PROOFS. The rows of an acquisition (O29): but for the reports each leaves the state at another time with another record of its group, and an
angle that is acquired also empties the compare sets of the bridges that wait. -/

namespace Sys2Proof.Machine

variable {g : GroupId} {s : State}

/-! Settling (R197) -/

theorem settleEnd_idle (h : s.gr[g].reacq.phase ≠ 1) : settleEnd g s = s := if_pos h

/-- The end of the settling time opens the window. -/
theorem settleEnd_opens (h : s.gr[g].reacq.phase = 1) :
    ∃ limit : Reacq → Nat, settleEnd g s = modReacq g (fun x => { x with
      phase := 2, since := max s.now (s.gr[g].reacq.since + s.actN 0x6031 1 * ticksPerMs), alphas := [], limit := limit x })
      (setNow (s.gr[g].reacq.since + s.actN 0x6031 1 * ticksPerMs) s) := by
  unfold settleEnd
  extract_lets r u
  rw [if_neg (not_not.2 h)]
  exact ⟨_, rfl⟩

/-! The end of the window (R197) -/

@[simp] theorem windowOver_gr (g : GroupId) (s : State) : (s.windowOver g).gr = s.gr := by unfold State.windowOver; split <;> rfl
@[simp] theorem windowOver_br (g : GroupId) (s : State) : (s.windowOver g).br = s.br := by unfold State.windowOver; split <;> rfl
@[simp] theorem windowOver_par (g : GroupId) (s : State) : (s.windowOver g).par = s.par := by unfold State.windowOver; split <;> rfl

/-- Whether estimates agree is judged by an object. -/
theorem estimatesAgree_of_par {t : State} (h : t.par = s.par) (l : List Nat) : t.estimatesAgree l = s.estimatesAgree l := by
  unfold State.estimatesAgree State.actN State.act
  rw [h]

/-- A report that is not the window's, or outside the window phase (log 167). -/
theorem windowEnd_idle {es : List Nat} {f : Int}
    (h : s.gr[g].reacq.phase ≠ 2 ∨ es ≠ ((s.windowOver g).acquired g).estimates ∨ f ≠ ((s.windowOver g).acquired g).freq) : windowEnd g es f s = s :=
  if_pos h

/-- From o to s only bridges have changed, and each of them has kept its state and its forcing, with no position turned on. -/
structure BridgesEased (o s : State) : Prop where
  still : s.silent = { o.silent with br := s.br }
  eases : ∀ b : BridgeId, o.br[b].Eases s.br[b]

theorem BridgesEased.refl (s : State) : BridgesEased s s := ⟨rfl, fun _ => .refl _⟩

theorem BridgesEased.gr {o : State} (h : BridgesEased o s) : s.gr = o.gr := have e := congrArg State.gr h.still; e
theorem BridgesEased.freeCount {o : State} (h : BridgesEased o s) : s.freeCount = o.freeCount := have e := congrArg State.freeCount h.still; e

theorem BridgesEased.modBr {o : State} {b : BridgeId} {f : Bridge → Bridge} (hf : ∀ x : Bridge, x.Eases (f x)) (h : BridgesEased o s) :
    BridgesEased o (modBr b f s) := by
  refine ⟨congrArg (fun u : State => { u with br := (Machine.modBr b f s).br }) h.still, fun c => ?_⟩
  by_cases hc : c = b
  · subst hc
    rw [br_modBr_self]
    exact (h.eases c).trans (hf _)
  · rw [br_modBr_ne _ _ hc]
    exact h.eases c

theorem BridgesEased.forBr {o : State} {l : List BridgeId} {f : BridgeId → State → State} (hf : ∀ {b u}, BridgesEased o u → BridgesEased o (f b u))
    (h : BridgesEased o s) : BridgesEased o (forBr l f s) := by
  induction l generalizing s with
  | nil => exact h
  | cons b t ih => exact ih (hf h)

/-- Where the window's estimates disagree it begins again. -/
theorem windowEnd_disagrees (hphase : s.gr[g].reacq.phase = 2) (hno : s.estimatesAgree ((s.windowOver g).acquired g).estimates = false) :
    windowEnd g ((s.windowOver g).acquired g).estimates ((s.windowOver g).acquired g).freq s =
      modReacq g (fun y => { y with since := (s.windowOver g).now, alphas := [] }) (drew (s.windowOver g)) := by
  unfold windowEnd
  extract_lets x u
  rw [if_neg (by rw [hphase]; simp [x])]
  have hu : u.estimatesAgree x.estimates = false := (estimatesAgree_of_par (windowOver_par g s) _).trans hno
  rw [hu]
  rfl

/-- A group with the angle that a window has given: it holds, and the observer takes it (R197). -/
def Group.acquires (x : Acquired) (now : Nat) (rpm : Rat) (y : Group) : Group :=
  { y with reacq := { y.reacq with phase := 3, since := now, angle := x.estimates.headD 0, freq := x.freq, alphas := [] },
           obs := { y.obs with angle := x.estimates.headD 0, speed := rpm, stamp := x.at0 } }

/-- Where the window's estimates agree, the group acquires the angle, and of the bridges only starts and compare sets change. -/
theorem windowEnd_agrees (hphase : s.gr[g].reacq.phase = 2) (hyes : s.estimatesAgree ((s.windowOver g).acquired g).estimates = true) :
    ∃ u rpm, u.silent = (modGr g (Group.acquires ((s.windowOver g).acquired g) (s.windowOver g).now rpm) (drew (s.windowOver g))).silent ∧
      BridgesEased u (windowEnd g ((s.windowOver g).acquired g).estimates ((s.windowOver g).acquired g).freq s) := by
  unfold windowEnd
  extract_lets x s1 a rpm s2 s3
  rw [if_neg (by rw [hphase]; simp [x])]
  have hs1 : s1.estimatesAgree x.estimates = true := (estimatesAgree_of_par (windowOver_par g s) _).trans hyes
  rw [hs1, if_neg (by decide)]
  have h3 : BridgesEased s2 s3 := by
    unfold s3 onlyIf
    split
    · exact .forBr (.modBr fun _ => .of_eq rfl rfl rfl) (.refl _)
    · exact .refl _
  exact ⟨s2, rpm, silent_raiseG .., .forBr (fun h => .modBr (fun _ => .of_eq rfl rfl rfl) (.modBr (fun _ => .of_eq rfl rfl rfl) h)) h3⟩

/-! The end of the hold and the timeout (R198, R199) -/

/-- The end of the hold ends the re-acquisition. -/
theorem holdEnd_ends (hphase : s.gr[g].reacq.phase = 4) (hcatch : s.gr[g].reacq.isCatch = false) :
    ∃ t, (holdEnd g s).silent = (modReacq g (fun x => { x with phase := 0 }) (setNow t s)).silent := by
  unfold holdEnd
  extract_lets r u
  have hr : (decide (r.phase ≠ 4) || r.isCatch) = false := by rw [show r.phase = 4 from hphase, show r.isCatch = false from hcatch]; rfl
  rw [hr, if_neg Bool.false_ne_true]
  exact ⟨_, (silent_bump ..).trans (silent_raiseG ..)⟩

/-- The failures of a group's re-acquisition that still count, with the one of the present time (R199). -/
def State.failuresNow (s : State) (g : GroupId) : List Nat :=
  (s.now :: s.gr[g].reacq.failures).filter fun t => decide (s.now < t + s.actN 0x6031 7 * ticksPerS)

theorem bridgesOf_of_par {t : State} (h : t.par = s.par) (g : GroupId) : t.bridgesOf g = s.bridgesOf g := by
  unfold State.bridgesOf State.actN State.act
  rw [h]

/-- A re-acquisition that fails below the limit of failures begins again from the safe state (R199). -/
theorem reacqFailed_renews (n : Nat) (h : (s.failuresNow g).length < s.actN 0x6031 6) :
    (reacqFailed g n s).silent = (modReacq g (fun x => { x with
      failures := s.failuresNow g, phase := if (s.bridgesOf g).any s.inAsc then 1 else 2, since := s.now, limit := s.now,
      asc := (s.bridgesOf g).any s.inAsc, alphas := [] }) s).silent := by
  unfold reacqFailed
  extract_lets keep s1 s2 s3 asc
  have hq : s2.silent = s1.silent := (silent_bump ..).trans (silent_raiseG ..)
  have hpar : s2.par = s.par := (silent_eq_par hq).trans rfl
  have hbr : s2.br = s.br := (silent_eq_br hq).trans rfl
  have hnow : s2.now = s.now := (silent_eq_now hq).trans rfl
  have hlimit : ¬ s2.actN 0x6031 6 ≤ keep.length := by
    rw [State.actN, State.act, hpar]
    exact Nat.not_le.2 h
  have hasc : asc = (s.bridgesOf g).any s.inAsc := by
    simp only [asc, bridgesOf_of_par hpar]
    exact congrArg _ (funext fun b => inAsc_of_force (by rw [hbr]))
  rw [if_neg hlimit, hasc, hnow]
  refine (silent_modGr hq).trans ?_
  rw [modGr_modGr]
  rfl

/-- The timeout of a re-acquisition is a failure of it (R199). -/
theorem acquireTimeout_fails (hphase : s.gr[g].reacq.phase = 2) (hcatch : s.gr[g].reacq.isCatch = false) :
    acquireTimeout g s = reacqFailed g 1 (setNow (s.gr[g].reacq.limit + s.actN 0x6031 3 * ticksPerMs) s) := by
  unfold acquireTimeout
  extract_lets r u v
  rw [if_neg (by rw [show r.phase = 2 from hphase]; decide), show r.isCatch = false from hcatch, if_neg Bool.false_ne_true]

/-- Settles O29: each row changes the time and its own group, and an angle that is acquired empties sets of the group's bridges. -/
theorem acquisitionRows : Obligations.AcquisitionRows := by
  unfold Obligations.AcquisitionRows
  intro s g
  refine ⟨fun h => congrArg Host.Outcome.next (settleEnd_idle h), fun h => ?settles, fun hphase => ⟨fun hno => ?disagrees, fun hyes => ?agrees⟩,
    fun es f h => congrArg Host.Outcome.next (windowEnd_idle h), fun hphase hcatch => ?hold, fun hphase hcatch hnone hlimit => ?timeout⟩
  case settles =>
    obtain ⟨limit, h⟩ := settleEnd_opens h
    refine ⟨_, congrArg Host.Outcome.next h, rfl, ?_, ?_, fun k hk => gr_modGr_ne _ _ hk⟩
    · exact congrArg (fun x : Group => x.reacq.phase) (gr_modGr_self ..)
    · exact congrArg (fun x : Group => x.reacq.since) (gr_modGr_self ..)
  case disagrees =>
    refine ⟨_, congrArg Host.Outcome.next (windowEnd_disagrees hphase hno), rfl, ?_⟩
    refine (congrArg Group.reacq (gr_modGr_self ..)).trans ?_
    rw [drew_gr, windowOver_gr]
  case agrees =>
    obtain ⟨u, rpm, hu, heased⟩ := windowEnd_agrees hphase hyes
    refine ⟨_, rfl, ?_⟩
    generalize windowEnd g _ _ s = t at heased ⊢
    have hgr := heased.gr.trans (silent_eq_gr hu)
    have hself := (congrArg (fun v : Vector Group 4 => v[g]) hgr).trans (gr_modGr_self ..)
    have hfree := heased.freeCount.trans (silent_eq_freeCount hu)
    have hbr : u.br = s.br := (silent_eq_br hu).trans (windowOver_br g s)
    refine ⟨?_, ?_, ?_, ?_, ?_, ?_, fun b => ?_⟩
    · rw [heased.still, hu, hgr, hfree]
      rfl
    iterate 5
      rw [hself]
      rfl
    · have he := heased.eases b
      rw [hbr] at he
      exact ⟨he.state, he.force⟩
  case hold =>
    obtain ⟨t0, h⟩ := holdEnd_ends hphase hcatch
    refine ⟨_, rfl, ?_⟩
    exact h.trans (by rw [silent_eq_now h]; rfl)
  case timeout =>
    have hone : ((setNow (s.gr[g].reacq.limit + s.actN 0x6031 3 * ticksPerMs) s).failuresNow g).length ≤ 1 :=
      (List.length_filter_le ..).trans (by rw [setNow_gr, hnone]; exact Nat.le_refl 1)
    have h := reacqFailed_renews 1 (Nat.lt_of_le_of_lt hone hlimit)
    refine ⟨_, congrArg Host.Outcome.next (acquireTimeout_fails hphase hcatch), ?_⟩
    generalize reacqFailed g 1 _ = t at h ⊢
    have hself := (congrArg (fun v : Vector Group 4 => v[g]) (silent_eq_gr h)).trans (gr_modGr_self ..)
    refine ⟨?_, ?_, ?_, ?_⟩
    · rw [h, silent_eq_now h, silent_eq_gr h]
      rfl
    · rw [hself]
      exact hone
    · rw [hself, silent_eq_now h]
      rfl
    · rw [hself]
      rfl

end Sys2Proof.Machine
end

section
/-! PROOFS. ATLAS.CLEAR, ATLAS.CHECKPOINT and ATLAS.IDENTIFY (O16). -/

namespace Sys2Proof.Machine

variable {e : CmdEntry} {g : GroupId} {r : CmdRef} {s : State}

/-- The atlas of a group in state c, not suspect. -/
def Atlas.inState (c : Nat) (a : Atlas) : Atlas := { a with state := c, suspect := false }

/-- Another state of an atlas than SUSPECT is noted, with a report (R205, R207). -/
theorem silent_setAtlasState {c : Nat} (hc : c ≠ 4) (g : GroupId) (s : State) :
    (setAtlasState g c s).silent = (modAtlas g (Atlas.inState c) s).silent := by
  unfold setAtlasState
  split
  next h =>
    have hsame : Atlas.inState c s.gr[g].atlas = s.gr[g].atlas := by
      unfold Atlas.code at h
      split at h
      · exact absurd h.symm hc
      next hsus => rw [Atlas.inState, ← h, ← Bool.eq_false_iff.2 hsus]
    have hself : (s.gr.set g { s.gr[g] with atlas := Atlas.inState c s.gr[g].atlas }) = s.gr := by
      rw [hsame]
      exact Vector.set_getElem_self g.2
    exact congrArg (fun v => { s.silent with gr := v }) hself.symm
  next => exact (silent_raiseG ..).trans rfl

theorem modAtlas_modAtlas (g : GroupId) (f h : Atlas → Atlas) (s : State) : modAtlas g f (modAtlas g h s) = modAtlas g (fun a => f (h a)) s :=
  modGr_modGr ..

theorem atlas_modAtlas_self (g : GroupId) (f : Atlas → Atlas) (s : State) : (modAtlas g f s).gr[g].atlas = f s.gr[g].atlas :=
  congrArg Group.atlas (gr_modGr_self ..)

/-! ATLAS.CLEAR (R176) -/

/-- An atlas that has been cleared: EMPTY, with no MTPA table, no accepted estimate and no steady run. -/
def Atlas.cleared (a : Atlas) : Atlas := { a with mtpa := .replicate 4 [], mtpaDue := false, accepted := false, run := none, state := 0, suspect := false }

/-- At rest the cells of the group are emptied and its atlas is EMPTY. -/
theorem atlasClear_frame (hex : s.groupExists g = true) (hidle : s.atlasIdle g = true) (hup : s.uploading g = false) :
    (atlasClear g r s).silent = (modAtlas g Atlas.cleared (clearAtlasCells g s)).silent ∧ (atlasClear g r s).answered r stOk [] := by
  unfold atlasClear
  extract_lets u
  rw [hex, hidle, hup, Bool.not_true, Bool.or_self, Bool.or_self, if_neg Bool.false_ne_true]
  refine ⟨?_, finish_answered r [] _⟩
  rw [silent_finish, silent_setAtlasState (by decide), modAtlas_modAtlas]
  rfl

/-! ATLAS.CHECKPOINT (R192) -/

/-- The copy begins for the command that waits. -/
theorem atlasCheckpoint_begins (hcells : s.atlasEmpty g = false) (hup : s.uploading g = false) (hcopy : s.gr[g].atlas.copying = false)
    (hident : s.gr[g].atlas.ident = none) :
    atlasCheckpoint g r s = startCheckpoint g (modAtlas g (fun a => { a with copyRefs := a.copyRefs ++ [r] }) s) := by
  unfold atlasCheckpoint
  rw [hcells, hup, hcopy, hident]
  rfl

/-! The listen phase (R185, R236, R238) -/

/-- The start of a bridge is no part of what a position that goes off changes. -/
theorem turnAllOff_start (b : BridgeId) (s : State) : (turnAllOff b s).br[b].start = s.br[b].start := by
  have hset {c : BridgeId} {f : Bridge → Bridge} (hf : ∀ x, (f x).start = x.start) (u : State) : (modBr c f u).br[b].start = u.br[b].start := by
    by_cases hc : b = c
    · subst hc
      rw [br_modBr_self, hf]
    · rw [br_modBr_ne _ _ hc]
  have honly {c : Bool} {f : State → State} (hf : ∀ u, (f u).br[b].start = u.br[b].start) (u : State) : (onlyIf c f u).br[b].start = u.br[b].start := by
    cases c
    · rfl
    · exact hf u
  have hedges (l : List (Fin 3)) (u : State) : (l.foldl (fun a k => onlyIf ((a.br[b].pos[slotOf k true]).on || (a.br[b].pos[slotOf k false]).on)
      (noteEdge (legOf b k) false a.now) a) u).br[b].start = u.br[b].start := by
    induction l generalizing u with
    | nil => rfl
    | cons k l ih => exact (ih _).trans (honly (hset (by intro; rfl)) u)
  have hoff (p : PosId) (u : State) : (turnOff p u).br[b].start = u.br[b].start := by
    refine (hset (by intro; rfl) _).trans ?_
    unfold endHold
    split
    · rfl
    · exact (honly (by intro; rfl) _).trans (hset (by intro; rfl) u)
  have hslots (l : List (Fin 6)) (u : State) : (l.foldl (fun a k => turnOff (posOf b k) a) u).br[b].start = u.br[b].start := by
    induction l generalizing u with
    | nil => rfl
    | cons k l ih => exact (ih _).trans (hoff _ u)
  exact (hslots _ _).trans (hedges _ s)

theorem EdgesOf.turnAllOff {o : State} {b : BridgeId} (h : EdgesOf b o s) : EdgesOf b o (turnAllOff b s) := by
  refine .foldl (.turnOff (brOfPos_posOf ..)) (.foldl (fun {u k} hu => .onlyIf (fun {v} hv => ?_) hu) h)
  have hleg := brOfLeg_legOf b k
  generalize legOf b k = l at hleg
  subst hleg
  exact .modBr rfl rfl rfl (fun _ => rfl) hv

/-- A bridge as the listen phase of its group begins (R236, R238). -/
def Bridge.listens (now : Nat) (joining : Bool) (x : Bridge) : Bridge :=
  { x with start := { Start.reset with phase := 1, since := now, joining := joining }, bemf := { x.bemf with seen := 0, reached := false },
           legs := x.legs.map fun l => { l with volts := none } }

/-- From o to s only the bridges of a list have changed, and each of them listens from the present time. -/
structure Listening (o : State) (bs : List BridgeId) (s : State) : Prop where
  still : s.silent = { o.silent with br := s.br }
  phase : ∀ b ∈ bs, s.br[b].start.phase = 1 ∧ s.br[b].start.since = o.now
  other : ∀ b, b ∉ bs → s.br[b] = o.br[b]

theorem Listening.gr {o : State} {bs : List BridgeId} (h : Listening o bs s) : s.gr = o.gr := have e := congrArg State.gr h.still; e
theorem Listening.mem {o : State} {bs : List BridgeId} (h : Listening o bs s) : s.mem = o.mem := have e := congrArg State.mem h.still; e
theorem Listening.par {o : State} {bs : List BridgeId} (h : Listening o bs s) : s.par = o.par := have e := congrArg State.par h.still; e

/-- A bridge begins to listen, with every position off. -/
def listenOn (joining : Bool) (b : BridgeId) (s : State) : State := turnAllOff b (modBr b (Bridge.listens s.now joining) s)

theorem listenOn_listens (joining : Bool) (b : BridgeId) (s : State) : Listening s [b] (listenOn joining b s) := by
  have hoff := EdgesOf.turnAllOff (.refl b (modBr b (Bridge.listens s.now joining) s))
  have hstart := turnAllOff_start b (modBr b (Bridge.listens s.now joining) s)
  rw [br_modBr_self] at hstart
  refine ⟨hoff.still, fun c hc => ?_, fun c hc => ?_⟩
  · rw [List.mem_singleton.1 hc, listenOn, hstart]
    exact ⟨rfl, rfl⟩
  · have hne : c ≠ b := fun h => hc (List.mem_singleton.2 h)
    exact (hoff.other c hne).trans (br_modBr_ne _ _ hne)

/-- One bridge and then the bridges of a list. -/
theorem Listening.cons {o u v : State} {b : BridgeId} {bs : List BridgeId} (h1 : Listening o [b] u) (h2 : Listening u bs v) : Listening o (b :: bs) v := by
  have hnow : u.now = o.now := have e := congrArg State.now h1.still; e
  refine ⟨h2.still.trans (congrArg (fun w : State => { w with br := v.br }) h1.still), fun c hc => ?_, fun c hc => ?_⟩
  · by_cases ht : c ∈ bs
    · exact ⟨(h2.phase c ht).1, (h2.phase c ht).2.trans hnow⟩
    · rw [h2.other c ht]
      exact h1.phase c (List.mem_singleton.2 ((List.mem_cons.1 hc).resolve_right ht))
  · obtain ⟨hcb, ht⟩ := not_or.1 (fun h => hc (List.mem_cons.2 h))
    exact (h2.other c ht).trans (h1.other c fun h => hcb (List.mem_singleton.1 h))

theorem forBr_listenOn (joining : Bool) (bs : List BridgeId) (s : State) : Listening s bs (forBr bs (listenOn joining) s) := by
  induction bs generalizing s with
  | nil => exact ⟨rfl, fun _ h => absurd h List.not_mem_nil, fun _ _ => rfl⟩
  | cons b bs ih =>
    rw [forBr, List.foldl_cons]
    exact (listenOn_listens joining b s).cons (ih _)

/-- The listen phase of a group notes in the group when it began, and changes its bridges. -/
theorem beginListen_frame {bs : List BridgeId} (hbs : bs ≠ []) (joining : Bool) (s : State) :
    Listening (modGr g (fun x => { x with listen := 0, listenSince := s.now, listenUdc := s.drive.udc }) s) bs (beginListen g bs joining s) := by
  unfold beginListen
  extract_lets u v
  rw [List.isEmpty_eq_false_iff.2 hbs, if_neg Bool.false_ne_true]
  have h := forBr_listenOn joining bs u
  exact ⟨h.still, h.phase, h.other⟩

/-! ATLAS.IDENTIFY (R185) -/

theorem groupExists_ne_nil (h : s.groupExists g = true) : s.bridgesOf g ≠ [] := by
  intro hnil
  rw [State.groupExists, hnil] at h
  exact absurd h (by decide)

/-- In ARMED, on an empty atlas at rest, the listen phase of the group's bridges begins for the command that waits. -/
theorem atlasIdentify_listens (hdrive : s.drive.state = .armed) (hpower : s.runPowered = true) (hex : s.groupExists g = true)
    (hidle : s.atlasIdle g = true) (hempty : s.atlasEmpty g = true) (hup : s.uploading g = false) :
    atlasIdentify e g r s = beginListen g (s.bridgesOf g) false
      (modAtlas g (fun a => { a with ident := some (0, bitAt 8 (e.word 1), bitAt 9 (e.word 1)), identRef := some r }) s) := by
  unfold atlasIdentify
  extract_lets drive u
  have hd : drive = true := by simp [drive, hdrive, hpower]
  rw [hd, hex, hidle, hempty, hup]
  rfl

/-- Settles O16: each command changes its own group, and beside it the cells, the block CRCs or the bridges of the group. -/
theorem atlasCommands : Obligations.AtlasCommands := by
  unfold Obligations.AtlasCommands
  intro e s g hg hex hup
  refine ⟨fun hadm hidle _ => ?clear, fun hadm hcells hcopy hident => ?checkpoint, fun hadm hdrive hidle hempty hpower => ?identify⟩
  case clear =>
    refine ⟨_, congrArg Host.Outcome.next ((command_body _ _ _ _ _ _ hadm).trans (withGroup_of_operand hg)), ?_⟩
    obtain ⟨h, hans⟩ := atlasClear_frame (r := e.ref 0x0503) hex hidle hup
    generalize atlasClear g (e.ref 0x0503) s = t at h hans
    have hself : t.gr[g].atlas = Atlas.cleared s.gr[g].atlas :=
      (congrArg (fun v : Vector Group 4 => v[g].atlas) (silent_eq_gr h)).trans (atlas_modAtlas_self ..)
    refine ⟨fun a => ?_, ?_, fun k hk => ?_, ?_, ?_, hans⟩
    · rw [silent_eq_mem h]
      exact readByte_eraseRange ..
    · rw [h, silent_eq_mem h, silent_eq_gr h]
      rfl
    · rw [silent_eq_gr h]
      exact gr_modGr_ne _ _ hk
    · rw [hself]
      rfl
    · rw [hself]
      rfl
  case checkpoint =>
    refine congrArg Host.Outcome.next ((command_body _ _ _ _ _ _ hadm).trans ((withGroup_of_operand hg).trans
      ((atlasCheckpoint_begins hcells hup hcopy hident).trans ?_)))
    have hgr := congrArg State.gr (modAtlas_modAtlas g (fun a => { a with copying := true, learned := a.accepted, accepted := false })
      (fun a => { a with copyRefs := a.copyRefs ++ [e.ref 0x0502] }) s)
    exact congrArg (fun v => { s with mem := { s.mem with blockCrc := s.mem.blockCrc.set (crcIndex g (s.unnamedSlot g)) [] }, gr := v }) hgr
  case identify =>
    refine ⟨_, congrArg Host.Outcome.next ((command_body _ _ _ _ _ _ hadm).trans ((withGroup_of_operand hg).trans
      (atlasIdentify_listens hdrive hpower hex hidle hempty hup))), ?_⟩
    have h := beginListen_frame (g := g) (groupExists_ne_nil hex) false
      (modAtlas g (fun a => { a with ident := some (0, bitAt 8 (e.word 1), bitAt 9 (e.word 1)), identRef := some (e.ref 0x0501) }) s)
    generalize beginListen g (s.bridgesOf g) false _ = t at h ⊢
    have hgr := h.gr
    have hself : t.gr[g].atlas = _ :=
      ((congrArg (fun v : Vector Group 4 => v[g].atlas) hgr).trans (congrArg Group.atlas (gr_modGr_self ..))).trans (atlas_modAtlas_self ..)
    refine ⟨congrArg Atlas.ident hself, congrArg Atlas.identRef hself, h.phase, h.other, fun k hk => ?_, h.mem, h.par⟩
    exact (congrArg (fun v : Vector Group 4 => v[k]) hgr).trans ((gr_modGr_ne _ _ hk).trans (gr_modGr_ne _ _ hk))

end Sys2Proof.Machine
end

section
/-! PROOFS. ATLAS.EXPORT and ATLAS_LOAD (O17): what a file read out notes, and what each part of a load leaves of the state. -/

namespace Sys2Proof.Machine

variable {e : CmdEntry} {g : GroupId} {r : CmdRef} {s : State}

/-! ATLAS.EXPORT (R437) -/

theorem unreadable_of_no_pages {m : Mem} (h : m.pages = []) (lo n : Nat) : m.unreadable lo n = false := by
  unfold Mem.unreadable
  rw [h]
  rfl

/-- The bytes of a group's file do not depend on its atlas record in the state. -/
theorem exportBytes_modAtlas (f : Atlas → Atlas) (a : AtlasRec) (off n : Nat) (s : State) :
    (modAtlas g f s).exportBytes g a off n = s.exportBytes g a off n := rfl

/-- A read of the file over readable pages, at its start or of the record it started with, answers the bytes. -/
theorem atlasExport_answers {a : AtlasRec} (hlow : 1 ≤ bits 31 16 (e.word 1)) (hhigh : bits 31 16 (e.word 1) ≤ 1400)
    (hend : bits 63 32 (e.word 1) + bits 31 16 (e.word 1) ≤ 268436544) (hrec : s.gr[g].atlas.record = some a)
    (hstart : bits 63 32 (e.word 1) = 0 ∨ s.gr[g].atlas.exportSeq = a.seq) (hpages : s.mem.pages = []) :
    atlasExport e g r s = complete r stOk (BitVec.ofNat 64 (bits 63 32 (e.word 1) + 2 ^ 32 * bits 31 16 (e.word 1)) ::
      wordsOfBytes (s.exportBytes g a (bits 63 32 (e.word 1)) (bits 31 16 (e.word 1)))) (modAtlas g (fun x => { x with exportSeq := a.seq }) s) := by
  unfold atlasExport
  extract_lets n off
  rw [if_neg (by omega), hrec]
  dsimp only
  have hnote : (if off = 0 then modAtlas g (fun x => { x with exportSeq := a.seq }) s else s) =
      modAtlas g (fun x => { x with exportSeq := a.seq }) s := by
    split
    · rfl
    next hoff =>
      have hseq : ({ s.gr[g].atlas with exportSeq := a.seq } : Atlas) = s.gr[g].atlas := by rw [← hstart.resolve_left hoff]
      have hself : s.gr.set g { s.gr[g] with atlas := { s.gr[g].atlas with exportSeq := a.seq } } = s.gr := by
        rw [hseq]
        exact Vector.set_getElem_self g.2
      exact congrArg (fun v => { s with gr := v }) hself.symm
  rw [hnote, if_neg (by rw [atlas_modAtlas_self]; exact fun h => h.2 rfl)]
  have hread (lo len : Nat) : (modAtlas g (fun x => { x with exportSeq := a.seq }) s).mem.unreadable lo len = false := unreadable_of_no_pages hpages lo len
  rw [hread, Bool.false_and, if_neg Bool.false_ne_true, exportBytes_modAtlas]

/-! The DRAM after a load (R190, R202) -/

/-- A change of listed bytes that keeps their addresses and spares one address. -/
theorem readByte_map {f : Host.Cell → Host.Cell} (a : Nat) (m : List Host.Cell) (haddr : ∀ c, (f c).1 = c.1) (hsame : ∀ c : Host.Cell, c.1 = a → f c = c) :
    readByte a (m.map f) = readByte a m := by
  induction m with
  | nil => rfl
  | cons c t ih =>
    obtain ⟨j, v⟩ := c
    have hj : (f (j, v)).1 = j := haddr (j, v)
    rw [List.map_cons, readByte, readByte, hj, ih]
    by_cases h : j = a
    · rw [if_pos h, if_pos h, hsame (j, v) h]
    · rw [if_neg h, if_neg h]

/-- Holding confidences at 14 spares every byte outside the atlas of the group (R202). -/
theorem readByte_reduceConf_outside {a : Nat} (m : List Host.Cell) (h : a < 8 * cellAddr g 0 ∨ 8 * cellAddr g 0 + atlasBytes ≤ a) :
    readByte a (reduceConf g m) = readByte a m := by
  refine readByte_map a m (fun c => ?_) (fun c hc => if_neg ?_)
  · split <;> rfl
  · rw [hc]
    omega

/-- A load changes only bytes of the group's atlas. -/
theorem readByte_copyToDram_outside {a : Nat} (slot : Nat) (hw : s.mem.wf = true) (h : a < 8 * cellAddr g 0 ∨ 8 * cellAddr g 0 + atlasBytes ≤ a) :
    readByte a (copyToDram g slot s).mem.dram = readByte a s.mem.dram := by
  obtain ⟨hd, hn⟩ := (Mem.wf_iff s.mem).1 hw
  have hcopy := readByte_copyRange (atlasSlotAddr g (slot % 2)) (8 * cellAddr g 0) atlasBytes a s.mem.nand s.mem.dram hn hd
  rw [if_neg (by omega)] at hcopy
  unfold copyToDram
  dsimp only
  split
  · rw [readByte_reduceConf_outside _ h, hcopy]
  · exact hcopy

/-- Where no confidence is reduced, the atlas of the group reads as its slot does. -/
theorem readByte_copyToDram_uncut {slot : Nat} (hslot : slot < 2) (hcut : s.mem.cut[crcIndex g slot] = false) (hw : s.mem.wf = true) (a : Nat) :
    readByte a (copyToDram g slot s).mem.dram = if 8 * cellAddr g 0 ≤ a ∧ a < 8 * cellAddr g 0 + atlasBytes
      then readByte (atlasSlotAddr g slot + (a - 8 * cellAddr g 0)) s.mem.nand else readByte a s.mem.dram := by
  obtain ⟨hd, hn⟩ := (Mem.wf_iff s.mem).1 hw
  unfold copyToDram
  dsimp only
  rw [hcut, if_neg Bool.false_ne_true, Nat.mod_eq_of_lt hslot]
  exact readByte_copyRange _ _ _ _ _ _ hn hd

/-! ATLAS_LOAD (R191) -/

/-- The axis objects are objects. -/
theorem putAxis_frame (g : GroupId) (bs : List Byte) (s : State) : ∃ p, putAxis g bs s = { s with par := p } := by
  unfold putAxis
  generalize List.range 11 = l
  induction l generalizing s with
  | nil => exact ⟨_, rfl⟩
  | cons k l ih => exact ih (putObj _ _ _ s)

/-- An atlas that has been loaded with a record: its binding, its new state, and an MTPA table to be built. -/
def Atlas.loaded (x : JRecord) (st : Nat) (a : Atlas) : Atlas :=
  { a with record := some { slot := x.slot, seq := x.seq, bridges := x.detail / 256 % 256, poles := x.detail % 256 }, mtpaDue := true,
           accepted := false, state := st, suspect := false }

/-- A load of a slot changes the cells, the objects, the count of free values and the group's atlas. -/
theorem loadSlot_frame {slot : Nat} {x : JRecord} (h : s.recordNaming g slot = some x) :
    ∃ p n st, (loadSlot g slot s).silent =
      (modAtlas g (Atlas.loaded x st) { copyToDram g slot s with par := p, freeCount := n }).silent := by
  unfold loadSlot
  rw [h]
  dsimp only
  obtain ⟨p, hp⟩ := putAxis_frame g x.axis (copyToDram g slot s)
  rw [hp]
  refine ⟨p, (drew s).freeCount, 1 + s.nextFree 32 % 3, (silent_setAtlasState (by omega) g _).trans ?_⟩
  rw [modAtlas_modAtlas]
  rfl

theorem loadSlot_mem {slot : Nat} {x : JRecord} (h : s.recordNaming g slot = some x) : (loadSlot g slot s).mem = (copyToDram g slot s).mem := by
  obtain ⟨p, n, st, h⟩ := loadSlot_frame h
  exact have e := silent_eq_mem h; e

/-- A group with bridges and no record loads nothing. -/
theorem loadAtlas_unrecorded (hbs : s.bridgesOf g ≠ []) (hnone : s.mem.journal.valid 1 (g.val + 1) = none) : Quiet (loadAtlas g true s) s := by
  unfold loadAtlas
  rw [List.isEmpty_eq_false_iff.2 hbs, if_neg Bool.false_ne_true, hnone]
  exact silent_raiseG ..

/-- A group with a record loads the slot that it names, another slot, or nothing. -/
theorem loadAtlas_recorded {x : JRecord} (hbs : s.bridgesOf g ≠ []) (hrec : s.mem.journal.valid 1 (g.val + 1) = some x) :
    loadAtlas g true s = if s.slotLoads g x.slot then loadSlot g x.slot s
      else if s.slotLoads g (1 - x.slot) then loadSlot g (1 - x.slot) s else raiseG 0x6023 g [] s := by
  unfold loadAtlas
  rw [List.isEmpty_eq_false_iff.2 hbs, if_neg Bool.false_ne_true, hrec]
  rfl

theorem slotLoads_named {slot : Nat} (h : s.slotLoads g slot = true) : ∃ x, s.recordNaming g slot = some x := by
  unfold State.slotLoads at h
  split at h
  next x hx => exact ⟨x, hx⟩
  next => cases h

/-- From o to s no NAND, bridge, drive or DRAM byte outside the atlas of group g has changed. -/
structure LoadsOnly (g : GroupId) (o s : State) : Prop where
  nand : s.mem.nand = o.mem.nand
  br : s.br = o.br
  drive : s.drive = o.drive
  outside : ∀ a : Nat, (a < 8 * cellAddr g 0 ∨ 8 * cellAddr g 0 + atlasBytes ≤ a) → readByte a s.mem.dram = readByte a o.mem.dram

theorem LoadsOnly.quiet {t : State} (h : t.silent = s.silent) : LoadsOnly g s t where
  nand := by rw [silent_eq_mem h]
  br := silent_eq_br h
  drive := silent_eq_drive h
  outside _ _ := by rw [silent_eq_mem h]

theorem loadSlot_loadsOnly {slot : Nat} (hw : s.mem.wf = true) (h : s.slotLoads g slot = true) : LoadsOnly g s (loadSlot g slot s) := by
  obtain ⟨x, hx⟩ := slotLoads_named h
  obtain ⟨p, n, st, h⟩ := loadSlot_frame hx
  have hbr := silent_eq_br h
  have hdrive := silent_eq_drive h
  exact ⟨by rw [loadSlot_mem hx]; rfl, hbr, hdrive, fun a ha => by rw [loadSlot_mem hx, readByte_copyToDram_outside slot hw ha]⟩

theorem loadAtlas_loadsOnly {x : JRecord} (hbs : s.bridgesOf g ≠ []) (hrec : s.mem.journal.valid 1 (g.val + 1) = some x) (hw : s.mem.wf = true) :
    LoadsOnly g s (loadAtlas g true s) := by
  rw [loadAtlas_recorded hbs hrec]
  split
  next h => exact loadSlot_loadsOnly hw h
  next =>
    split
    next h => exact loadSlot_loadsOnly hw h
    next => exact .quiet (silent_raiseG ..)

/-- Settles O17: a read of the file notes the record that it tells of; a load copies one slot into the cells of its group, and changes beside them the axis
objects and the group's atlas. -/
theorem atlasExportAndLoad : Obligations.AtlasExportAndLoad := by
  unfold Obligations.AtlasExportAndLoad
  intro g s
  refine ⟨fun e a hadm hg hlow hhigh hend hrec hstart hpages => ?exported, fun hbs hnone => ⟨_, rfl, loadAtlas_unrecorded hbs hnone⟩,
    fun r r' hbs hrec hslot hnamed hw => ?load⟩
  case exported =>
    refine ⟨_, congrArg Host.Outcome.next ((command_body _ _ _ _ _ _ hadm).trans ((withGroup_of_operand hg).trans
      (atlasExport_answers hlow hhigh hend hrec hstart hpages))), silent_complete .., complete_answered ..⟩
  case load =>
    obtain ⟨hnand, hbr, hdrive, houtside⟩ := loadAtlas_loadsOnly hbs hrec hw
    have hloaded (h : s.slotLoads g r.slot = true) : (loadAtlas g true s).mem.dram = (copyToDram g r.slot s).mem.dram ∧
        ∃ st, (loadAtlas g true s).gr[g].atlas = Atlas.loaded r' st s.gr[g].atlas := by
      obtain ⟨p, n, st, hframe⟩ := loadSlot_frame hnamed
      rw [loadAtlas_recorded hbs hrec, if_pos h]
      exact ⟨congrArg Mem.dram (loadSlot_mem hnamed), st,
        (congrArg (fun v : Vector Group 4 => v[g].atlas) (silent_eq_gr hframe)).trans (atlas_modAtlas_self ..)⟩
    refine ⟨_, rfl, hnand, hbr, hdrive, fun h hcut => ?_, fun h => ?_, houtside⟩
    · obtain ⟨hdram, st, hatlas⟩ := hloaded h
      refine ⟨fun a => ?_, _, congrArg Atlas.record hatlas, rfl, rfl⟩
      rw [hdram]
      exact readByte_copyToDram_uncut hslot hcut hw a
    · obtain ⟨hdram, st, hatlas⟩ := hloaded h
      exact ⟨hdram, congrArg Atlas.mtpaDue hatlas⟩

end Sys2Proof.Machine
end

section
/-! PROOFS. What a bridge that goes to rest leaves alone of the atlases (R187): no DRAM byte that is 0 is written, and no identification begins. One
rule per operation, in the order of the model's files. -/

namespace Sys2Proof.Machine

/-- From o to s every DRAM byte that read 0 still does, and no group has begun an identification. -/
structure Empties (o s : State) : Prop where
  zero : ∀ a : Nat, readByte a o.mem.dram = 0 → readByte a s.mem.dram = 0
  ident : ∀ g : GroupId, o.gr[g].atlas.ident = none → s.gr[g].atlas.ident = none

namespace Empties

variable {o s : State}

/-! Rules -/

theorem refl (s : State) : Empties s s := ⟨fun _ h => h, fun _ h => h⟩

/-- A change of anything but the groups, where the DRAM stays. -/
theorem change {pe no fc pa io tr st ar sm te bo br dr co cl prs pl pw di se ne ti ca} {m : Mem} (hm : m.dram = s.mem.dram) (h : Empties o s) :
    Empties o { s with mem := m, pending := pe, now := no, freeCount := fc, par := pa, io := io, transfer := tr, st := st, arb := ar, streams := sm,
                       test := te, boot := bo, br := br, drive := dr, cont := co, clove := cl, pairs := prs, place := pl, pwr := pw, die := di,
                       sense := se, net := ne, time := ti, can := ca } :=
  ⟨fun a ha => (congrArg (readByte a) hm).trans (h.zero a ha), h.ident⟩

theorem frame {pe no fc pa io tr st ar sm te bo br dr co cl prs pl pw di se ne ti ca} (h : Empties o s) :
    Empties o { s with pending := pe, now := no, freeCount := fc, par := pa, io := io, transfer := tr, st := st, arb := ar, streams := sm, test := te,
                       boot := bo, br := br, drive := dr, cont := co, clove := cl, pairs := prs, place := pl, pwr := pw, die := di, sense := se,
                       net := ne, time := ti, can := ca } := .change rfl h

/-- A report. -/
theorem quiet {u : State} (hq : u.silent = s.silent) (h : Empties o s) : Empties o u where
  zero a ha := by rw [silent_eq_mem hq]; exact h.zero a ha
  ident g hg := by rw [silent_eq_gr hq]; exact h.ident g hg

/-- An update of a group that begins no identification. -/
theorem modGrIdent {g f} (hf : ∀ x : Group, x.atlas.ident = none → (f x).atlas.ident = none) (h : Empties o s) : Empties o (modGr g f s) := by
  refine ⟨h.zero, fun k hk => ?_⟩
  by_cases hkg : k = g
  · subst hkg
    rw [gr_modGr_self]
    exact hf _ (h.ident k hk)
  · rw [gr_modGr_ne f s hkg]
    exact h.ident k hk

theorem modGr {g f} (hf : ∀ x : Group, (f x).atlas.ident = x.atlas.ident) (h : Empties o s) : Empties o (modGr g f s) :=
  .modGrIdent (fun x hx => (hf x).trans hx) h

theorem ite {c : Prop} [Decidable c] {x y : State} (hx : Empties o x) (hy : Empties o y) : Empties o (if c then x else y) := by
  split
  · exact hx
  · exact hy

theorem onlyIf {c : Bool} {f : State → State} (hf : ∀ {u}, Empties o u → Empties o (f u)) (h : Empties o s) : Empties o (onlyIf c f s) :=
  .ite (hf h) h

theorem foldl {α : Type} {l : List α} {f : State → α → State} (hf : ∀ {u x}, Empties o u → Empties o (f u x)) (h : Empties o s) :
    Empties o (l.foldl f s) := by
  induction l generalizing s with
  | nil => exact h
  | cons x t ih => exact ih (hf h)

theorem forBr {l f} (hf : ∀ {b u}, Empties o u → Empties o (f b u)) (h : Empties o s) : Empties o (forBr l f s) := .foldl hf h

theorem forGr {l f} (hf : ∀ {g u}, Empties o u → Empties o (f g u)) (h : Empties o s) : Empties o (forGr l f s) := .foldl hf h

theorem modBr {b f} (h : Empties o s) : Empties o (modBr b f s) := .frame h
theorem modPos {p f} (h : Empties o s) : Empties o (modPos p f s) := .modBr h
theorem modWin {w f} (h : Empties o s) : Empties o (modWin w f s) := .frame h
theorem modOut {q f} (h : Empties o s) : Empties o (modOut q f s) := .frame h
theorem modStream {k f} (h : Empties o s) : Empties o (modStream k f s) := .frame h

/-! Reports -/

theorem bump {i sub} (h : Empties o s) : Empties o (bump i sub s) := .frame h
theorem peak {i sub v} (h : Empties o s) : Empties o (peak i sub v s) := .frame h
theorem pushEntry {q e} (h : Empties o s) : Empties o (pushEntry q e s) := .quiet (silent_pushEntry ..) h
theorem raise {code level i p} (h : Empties o s) : Empties o (raise code level i p s) := .quiet (silent_raise ..) h
theorem raiseFirst {code level i p k} (h : Empties o s) : Empties o (raiseFirst code level i p k s) := .quiet (silent_raiseFirst ..) h
theorem raise4 {code p} (h : Empties o s) : Empties o (raise4 code p s) := .raise h
theorem raiseG {code g p} (h : Empties o s) : Empties o (raiseG code g p s) := .raise h
theorem complete {r n ws} (h : Empties o s) : Empties o (complete r n ws s) := .quiet (silent_complete ..) h
theorem restartCan {old standby c} (h : Empties o s) : Empties o (restartCan old standby c s) := .quiet (silent_restartCan ..) h

/-! Packets -/

theorem drainRing {q k n} (h : Empties o s) : Empties o (drainRing q k n s) := by
  induction n generalizing s with
  | zero => exact h
  | succ n ih =>
    unfold Machine.drainRing
    extract_lets
    split
    · exact .ite (ih (.modStream (.modOut h))) h
    · exact h

theorem discardOldest {k need n} (h : Empties o s) : Empties o (discardOldest k need n s) := by
  induction n generalizing s with
  | zero => exact h
  | succ n ih =>
    unfold Machine.discardOldest
    extract_lets
    split
    · exact h
    · split
      · exact h
      · exact ih (.drainRing (.bump (.onlyIf .modStream (.modOut h))))

theorem toRing {k p} (h : Empties o s) : Empties o (toRing k p s) := .peak (.bump (.modStream (.pushEntry (.modOut h))))

theorem enqueuePacket {k p} (h : Empties o s) : Empties o (enqueuePacket k p s) := by
  unfold Machine.enqueuePacket
  extract_lets _ _ _ _ _ _ s1
  have h1 : Empties o s1 := .raiseFirst (.discardOldest (.bump h))
  split
  · exact .pushEntry (.bump h)
  · exact .ite (.toRing (.bump h)) (.ite (.ite (.toRing h1) (.toRing (.modOut h1))) (.raiseFirst (.bump (.modStream (.bump h)))))

theorem closePacket {k truncated final} (h : Empties o s) : Empties o (closePacket k truncated final s) :=
  .ite h (.enqueuePacket (.onlyIf .bump (.modStream h)))

theorem streamBridgeLost {b} (h : Empties o s) : Empties o (streamBridgeLost b s) :=
  .foldl (fun h => .ite (.ite (.foldl .complete (.raise4 (.modStream (.closePacket h)))) (.closePacket h)) h) h

/-! Charges, position sources and reaction bounds -/

theorem chargeForced {p b} (h : Empties o s) : Empties o (chargeForced p b s) := by
  unfold Machine.chargeForced Machine.chargeShort
  exact .modBr (.modBr (.modBr h))

theorem settleLimits {g} (h : Empties o s) : Empties o (settleLimits g s) :=
  .ite (.bump (.raiseG (.modGr (fun _ => rfl) h))) (.ite (.raiseG (.modGr (fun _ => rfl) h)) (.modGr (fun _ => rfl) h))

theorem switchSource {g i} (h : Empties o s) : Empties o (switchSource g i s) :=
  .settleLimits (.modGr (fun _ => rfl) (.bump (.raiseG (.modGr (fun _ => rfl) h))))

theorem dropOffsets {g} (h : Empties o s) : Empties o (dropOffsets g s) := .modGr (fun _ => rfl) h

theorem takeAssigned {old g} (h : Empties o s) : Empties o (takeAssigned old g s) := by
  unfold Machine.takeAssigned
  extract_lets _ _ _ _ s1
  have h1 : Empties o s1 := .onlyIf .dropOffsets h
  split
  · exact h1
  · split
    · exact .ite h1 (.switchSource h1)
    · exact .modGr (fun _ => rfl) h1

theorem refreshBounds (h : Empties o s) : Empties o (refreshBounds s) :=
  .forGr (fun h => .ite h (.onlyIf .raise4 (.onlyIf .raise (.frame h)))) (.forBr (fun h => .onlyIf .raise4 (.onlyIf .raise (.frame h))) h)

/-! Positions off -/

theorem endHold {p} (h : Empties o s) : Empties o (endHold p s) := by
  unfold Machine.endHold
  split
  · exact h
  · exact .onlyIf .bump (.modPos h)

theorem turnOff {p} (h : Empties o s) : Empties o (turnOff p s) := .modPos (.endHold h)

theorem noteOff {b} (h : Empties o s) : Empties o (noteOff b s) := .foldl (fun h => .onlyIf .modBr h) h

theorem turnAllOff {b} (h : Empties o s) : Empties o (turnAllOff b s) := .foldl .turnOff (.noteOff h)

theorem settlePd7 (h : Empties o s) : Empties o (settlePd7 s) := .frame (.onlyIf .frame h)

theorem restoreWindows (h : Empties o s) : Empties o (restoreWindows s) := .frame h

theorem stopChop (h : Empties o s) : Empties o (stopChop s) := by
  unfold Machine.stopChop
  split
  · exact h
  · extract_lets
    split
    · exact .frame h
    · exact .forBr (fun h => .foldl (fun k => .modPos (.turnOff k)) h) (.frame h)

/-! The drive follows -/

theorem setDrive {d} (h : Empties o s) : Empties o (setDrive d s) := by
  unfold Machine.setDrive
  split
  · exact h
  · extract_lets _ _ s1
    have h1 : Empties o s1 := .onlyIf .stopChop h
    exact .settlePd7 (.refreshBounds (.restoreWindows (.forGr .takeAssigned (.restartCan (.restartCan (.frame h1))))))

theorem settleDrive (h : Empties o s) : Empties o (settleDrive s) := by
  unfold Machine.settleDrive
  split
  case h_6 => exact .onlyIf .setDrive h
  case h_7 => exact h
  all_goals exact .setDrive h

theorem applyBrakeOf {g} (h : Empties o s) : Empties o (applyBrakeOf g s) := by
  refine .onlyIf (fun {u} hu => ?_) h
  unfold applyBrake
  split
  · exact hu
  · exact .ite (.bump (.raiseG (.frame hu))) hu

theorem closeWindow {w} (h : Empties o s) : Empties o (closeWindow w s) := by
  refine .ite ?_ h
  unfold raiseWindow
  split
  · exact .raiseG (.modWin h)
  · exact .raise4 (.modWin h)

theorem settleGroup {g} (h : Empties o s) : Empties o (settleGroup g s) := by
  unfold Machine.settleGroup
  extract_lets _ _ _ _ _ _ s2
  have h2 : Empties o s2 := .onlyIf (.modGr fun _ => rfl) (.onlyIf (fun h => .closeWindow (.raiseG (.modGr (fun _ => rfl) h))) h)
  exact .ite h2 (.restoreWindows (.modWin h2))

/-! Identification, and a group that stops -/

theorem setAtlasState {g c} (h : Empties o s) : Empties o (setAtlasState g c s) :=
  .ite h (.raiseG (.modGr (fun _ => (apply_ite Atlas.ident ..).trans (ite_self _)) h))

theorem clearAtlasCells {g} (h : Empties o s) : Empties o (clearAtlasCells g s) where
  zero a ha := by
    refine (readByte_eraseRange ..).trans ?_
    split
    · rfl
    · exact h.zero a ha
  ident := h.ident

/-- An identification that is aborted empties its atlas. -/
theorem abortIdent {g} (h : Empties o s) : Empties o (abortIdent g s) := by
  unfold Machine.abortIdent
  extract_lets _
  split
  · exact h
  · extract_lets _ s2 s3
    have h2 : Empties o s2 := .modGrIdent (fun _ _ => rfl) (.onlyIf (fun h => .forBr .modBr h) h)
    have h3 : Empties o s3 := .setAtlasState (.clearAtlasCells h2)
    split
    · exact .complete h3
    · exact h3

theorem takeSelection {g} (h : Empties o s) : Empties o (takeSelection g s) := by
  unfold Machine.takeSelection
  split
  · exact h
  · exact .foldl .complete (.raiseG (.modGr (fun _ => rfl) h))

theorem groupOut {g} (h : Empties o s) : Empties o (groupOut g s) :=
  have hnote {n u} (hu : Empties o u) : Empties o (noteSs1 g n u) := .foldl .complete (.frame (.frame hu))
  .ite h (.abortIdent (.applyBrakeOf (.foldl .complete (.onlyIf hnote (.takeSelection (.modGr (fun _ => rfl) (.foldl .raiseG h)))))))

/-! A bridge that changes its state -/

theorem latchPos {p} (h : Empties o s) : Empties o (latchPos p s) := .ite h (.raise (.ite h (.bump (.modPos (.turnOff h)))))

theorem loseSplit {b} (h : Empties o s) : Empties o (loseSplit b s) := by
  have hunlatch {g u} (hu : Empties o u) : Empties o (unlatchTorque g u) := by
    unfold unlatchTorque
    split
    · exact hu
    · exact .ite (.complete (.modGr (fun _ => rfl) hu)) (.modGr (fun _ => rfl) hu)
  unfold Machine.loseSplit
  split
  · exact h
  · split
    · exact .ite (hunlatch (.modGr (fun _ => rfl) h)) h
    · exact h

theorem leaveRun {b} (h : Empties o s) : Empties o (leaveRun b s) :=
  .streamBridgeLost (.modBr (.foldl (fun h => .ite (.latchPos h) h) (.loseSplit h)))

/-- A checkpoint that starts with STANDBY copies out of the DRAM. -/
theorem groupStandbyEntry {g} (h : Empties o s) : Empties o (groupStandbyEntry g s) := by
  unfold Machine.groupStandbyEntry
  split
  · exact h
  · extract_lets _ _ _ _ s1 s2 _ s4
    have h1 : Empties o s1 := .modGr (fun _ => rfl) (.takeSelection h)
    have h2 : Empties o s2 := by
      unfold s2
      split
      · exact .onlyIf .switchSource h1
      · exact h1
    have h4 : Empties o s4 := .onlyIf .setAtlasState (.onlyIf .raiseG h2)
    refine .onlyIf (fun {u} hu => ?_) h4
    unfold startCheckpoint
    exact .modGr (fun _ => rfl) (.change rfl hu)

theorem enterStandby {b} (h : Empties o s) : Empties o (enterStandby b s) := by
  unfold Machine.enterStandby
  extract_lets _ _ s1 s2
  have h1 : Empties o s1 := .frame (.turnAllOff (.modBr (.modBr (.modBr h))))
  have h2 : Empties o s2 := by
    unfold s2
    split
    · exact .groupStandbyEntry h1
    · exact h1
  exact .restoreWindows h2

theorem settleBridge {b} (h : Empties o s) : Empties o (settleBridge b s) := by
  unfold Machine.settleBridge
  extract_lets s1
  have h1 : Empties o s1 := by
    unfold s1
    split
    · exact .settleGroup (.groupOut h)
    · exact h
  exact .settleDrive (.foldl .complete (.frame h1))

theorem bridgeTo {st b} (h : Empties o s) : Empties o (bridgeTo st b s) :=
  .ite h (.settleBridge (.onlyIf .enterStandby (.onlyIf .leaveRun (.modBr h))))

theorem writeRecord {event level index kind} (h : Empties o s) : Empties o (writeRecord event level index kind s) := by
  have hlost : Empties o (recordLost s) := by
    unfold recordLost
    split
    · exact .ite h (.raise4 h)
    · exact h
  exact .frame hlost

theorem snapshotFault {src level b} (h : Empties o s) : Empties o (snapshotFault src level b s) := .bump (.raise4 (.writeRecord h))

theorem forceOutputs {p b} (h : Empties o s) : Empties o (forceOutputs p b s) :=
  .foldl (fun h => .modPos (.ite h (.turnOff h))) (.onlyIf .noteOff h)

theorem ascSpeed {b} (h : Empties o s) : Empties o (ascSpeed b s) := by
  unfold Machine.ascSpeed
  split
  · exact .ite (.ite h (.onlyIf .raiseG (.bump (.frame h)))) h
  · exact h

/-! Discharge -/

theorem failDischarge (h : Empties o s) : Empties o (failDischarge s) := by
  unfold Machine.failDischarge
  extract_lets _ _ _ _ _ _ _ s3
  have h3 : Empties o s3 := .foldl .complete (.bump (.raise4 (.frame (.stopChop h))))
  exact .ite (.frame (.setDrive (.writeRecord h3))) (.setDrive h3)

theorem startDischarge (h : Empties o s) : Empties o (startDischarge s) := by
  have hruns {winding u} (hu : Empties o u) : Empties o (runDischarge winding u) := by
    unfold runDischarge
    split
    · split
      · exact .failDischarge hu
      · exact .bump (.raise4 (.frame hu))
    · exact .bump (.raise4 (.frame hu))
  exact .ite h (.ite (.ite h (.bump (.raise4 (.frame h)))) (hruns (.onlyIf .setDrive (.frame h))))

theorem settleDischarge (h : Empties o s) : Empties o (settleDischarge s) := by
  unfold Machine.settleDischarge
  split
  · exact h
  · split
    · exact .startDischarge h
    · split
      · split
        · exact .setDrive h
        · exact .setDrive h
        · exact h
      · exact h

/-! The held catch ASC, and the release of a forcing -/

theorem setPattern {p b} (h : Empties o s) : Empties o (setPattern p b s) := by
  unfold Machine.setPattern
  extract_lets _ _ _ s2 _ _ _ s6 s7
  have h2 : Empties o s2 := .onlyIf .turnAllOff (.onlyIf .chargeForced h)
  have h6 : Empties o s6 := .onlyIf .ascSpeed (.modBr (.forceOutputs (.modBr h2)))
  have h7 : Empties o s7 := .ite h6 (.bridgeTo h6)
  exact .settlePd7 (.ite (.ite (.bump (.raise4 (.frame (.stopChop h7)))) h7) (.onlyIf .settleDischarge h7))

/-- The source of a held catch ASC applies no brake, breaks no re-acquisition and aborts no start (R253). -/
theorem latchCatch {p level b} (h : Empties o s) : Empties o (latchForce .catchAsc p level b s) := by
  unfold Machine.latchForce
  extract_lets _ s1 _ s3 s4 s5 _ s7
  have h1 : Empties o s1 := .modBr h
  have h3 : Empties o s3 := by
    unfold s3
    split
    · exact .frame h1
    · exact .frame h1
  have hno : ((ClassASource.catchAsc != .catchAsc) && (ClassASource.catchAsc != .reacquisition)) = false := rfl
  have h4 : Empties o s4 := .modBr h3
  have h5 : Empties o s5 := by
    unfold s5
    split
    · rw [hno]
      exact h4
    · exact h4
  have h7 : Empties o s7 := h5
  exact .ite (.ite (.snapshotFault (.raise (.modBr h1))) h1) (.snapshotFault (.raise (.onlyIf .setPattern h7)))

theorem dropForce {b} (h : Empties o s) : Empties o (dropForce b s) := .ite h (.raise (.modBr (.turnAllOff (.modBr h))))

theorem toRest {b} (h : Empties o s) : Empties o (toRest b s) :=
  have hoff : Empties o (Machine.turnAllOff b (Machine.dropForce b s)) := .turnAllOff (.dropForce h)
  .ite (.settleBridge (.bridgeTo (.modBr (.onlyIf .latchCatch h)))) (.settleDischarge (.ite (.settleBridge (.enterStandby hoff)) (.bridgeTo hoff)))

end Empties

end Sys2Proof.Machine
end

section
/-! PROOFS. Cells, learning, identification and checkpoints (O28): a cell that is written reads back as its word, and each row reaches its cell, its
slot and its group only. -/

namespace Sys2Proof.Machine

variable {g : GroupId} {s : State}

/-- A row of a block, with that block on, completes with what its meaning gives (R33). -/
theorem completes_onlyIf {c : Instr} {on : Bool} {f : State → State} {P : State → Prop} (hc : exec c s = .next (onlyIf on f s)) (hon : on = true)
    (h : P (f s)) : Completes c s P := by
  rw [hon] at hc
  exact ⟨f s, hc, h⟩

/-- A row that changes nothing where its block is on changes nothing. -/
theorem onlyIf_idle {on : Bool} {f : State → State} (h : f s = s) : Host.Outcome.next (φ := Fault) (ρ := Refusal) (onlyIf on f s) = .next s := by
  cases on
  · rfl
  · exact congrArg Host.Outcome.next h

/-! Words and their bytes (R12) -/

theorem leBytes_succ (n v : Nat) : leBytes (n + 1) v = BitVec.ofNat 8 v :: leBytes n (v / 256) := by
  simp only [leBytes, List.range_succ_eq_map, List.map_cons, List.map_map, pow_zero, Nat.div_one, List.cons.injEq, true_and]
  exact List.map_congr_left fun k _ => by rw [Function.comp_apply, Nat.pow_succ', Nat.div_div_eq_div_mul]

theorem bytesNat_leBytes (n v : Nat) : bytesNat (leBytes n v) = v % 256 ^ n := by
  induction n generalizing v with
  | zero => rw [pow_zero, Nat.mod_one]; rfl
  | succ n ih =>
    have hsplit : v % 256 ^ (n + 1) = v % 256 + 256 * (v / 256 % 256 ^ n) := by rw [Nat.pow_succ', Nat.mod_mul]
    rw [leBytes_succ, bytesNat, ih, BitVec.toNat_ofNat, hsplit]

theorem leBytes_bytesNat (l : List Byte) : leBytes l.length (bytesNat l) = l := by
  induction l with
  | nil => rfl
  | cons b t ih =>
    have hb : b.toNat < 256 := b.isLt
    rw [List.length_cons, leBytes_succ, bytesNat]
    have hlow : BitVec.ofNat 8 (b.toNat + 256 * bytesNat t) = b := by
      apply BitVec.eq_of_toNat_eq
      rw [BitVec.toNat_ofNat]
      omega
    rw [hlow, show (b.toNat + 256 * bytesNat t) / 256 = bytesNat t by omega, ih]

theorem bytesNat_lt (l : List Byte) : bytesNat l < 256 ^ l.length := by
  rw [← leBytes_bytesNat l, bytesNat_leBytes, leBytes_bytesNat]
  exact Nat.mod_lt _ (Nat.pow_pos (by decide))

/-- The word of the bytes of a word. -/
theorem ofNat_bytesNat_wordBytes (w : Word) : BitVec.ofNat 64 (bytesNat (wordBytes w)) = w := by
  apply BitVec.eq_of_toNat_eq
  have h : bytesNat (wordBytes w) = w.toNat % 256 ^ 8 := bytesNat_leBytes 8 w.toNat
  rw [h, BitVec.toNat_ofNat]
  have := w.isLt
  omega

/-- The bytes of the word of eight bytes. -/
theorem wordBytes_ofNat_bytesNat {l : List Byte} (h : l.length = 8) : wordBytes (BitVec.ofNat 64 (bytesNat l)) = l := by
  have hlt : bytesNat l < 2 ^ 64 := Nat.lt_of_lt_of_eq (h ▸ bytesNat_lt l) (by decide : 256 ^ 8 = 2 ^ 64)
  have hw : wordBytes (BitVec.ofNat 64 (bytesNat l)) = leBytes 8 (BitVec.ofNat 64 (bytesNat l)).toNat := rfl
  rw [hw, BitVec.toNat_ofNat, Nat.mod_eq_of_lt hlt, ← h, leBytes_bytesNat]

theorem readBytes_getD {a n k : Nat} (m : List Host.Cell) (h : k < n) : (readBytes a n m).getD k 0 = readByte (a + k) m := by
  simp [readBytes, h]

/-- A DRAM word reads back as it was written. -/
theorem dramWord_setDramWord {m : Mem} (a : Nat) (w : Word) (hw : m.wf = true) : (m.setDramWord a w).dramWord a = w := by
  have hbytes : readBytes (8 * a) 8 (m.setDramWord a w).dram = wordBytes w := by
    refine List.ext_getElem (by simp [readBytes]) fun k hk hk' => ?_
    have hk8 : k < 8 := by simpa using hk'
    simp only [readBytes, List.getElem_map, List.getElem_range]
    rw [readByte_setDramWord m a _ w hw, if_pos (by omega), Nat.add_sub_cancel_left, List.getD_eq_getElem _ _ hk']
  rw [Mem.dramWord, hbytes, ofNat_bytesNat_wordBytes]

/-! Cells (R174, R178) -/

/-- A cell that is written reads back as its word. -/
theorem cell_putCell (cell : Nat) (w : Word) (hw : s.mem.wf = true) : (putCell (cellAddr g cell) w s).cell g cell = w :=
  dramWord_setDramWord _ w hw

/-- A write of a cell spares every byte outside its word. -/
theorem readByte_putCell_outside {a b : Nat} (w : Word) (hw : s.mem.wf = true) (h : b < 8 * a ∨ 8 * a + 8 ≤ b) :
    readByte b (putCell a w s).mem.dram = readByte b s.mem.dram :=
  (readByte_setDramWord s.mem a b w hw).trans (if_neg (by omega))

/-- The word that is written is good. -/
theorem putCell_good (a : Nat) (w : Word) (s : State) : (putCell a w s).mem.bad.contains a = false := by
  rw [← Bool.not_eq_true, List.contains_iff_mem]
  exact fun h => absurd rfl (of_decide_eq_true (List.mem_filter.1 h).2)

/-- The bytes of a cell that is written with the word of a slot are those of the slot, where no confidence is reduced. -/
theorem readByte_putCell_slotWord {slot cell k : Nat} (hw : s.mem.wf = true) (hcut : s.mem.cut[crcIndex g slot] = false) (hk : k < 8) (a : Nat) :
    readByte (8 * a + k) (putCell a (s.slotWord g slot cell) s).mem.dram =
      readByte (atlasSlotAddr g (slot % 2) + 8 * (cell % 0x02000000) + k) s.mem.nand := by
  have hword : s.slotWord g slot cell =
      BitVec.ofNat 64 (bytesNat (readBytes (atlasSlotAddr g (slot % 2) + 8 * (cell % 0x02000000)) 8 s.mem.nand)) := by
    unfold State.slotWord
    rw [hcut]
    rfl
  refine (readByte_setDramWord s.mem a _ _ hw).trans ?_
  rw [if_pos (by omega), Nat.add_sub_cancel_left, hword, wordBytes_ofNat_bytesNat (by simp [readBytes]), readBytes_getD _ hk]

theorem cellRepair_good {cell : Nat} (h : s.mem.bad.contains (cellAddr g cell) = false) : cellRepair g cell s = s := by
  unfold cellRepair
  extract_lets a
  rw [show s.mem.bad.contains a = false from h]
  rfl

/-- A bad word with a readable copy in the record's slot is rewritten from it, with a report (R178). -/
theorem cellRepair_repairs {cell : Nat} {r : AtlasRec} (hbad : s.mem.bad.contains (cellAddr g cell) = true) (hrec : s.gr[g].atlas.record = some r)
    (hread : s.mem.unreadable (atlasSlotAddr g (r.slot % 2) + 8 * (cell % 0x02000000)) 8 = false) :
    (cellRepair g cell s).silent = (putCell (cellAddr g cell) (s.slotWord g r.slot cell) s).silent := by
  unfold cellRepair
  extract_lets a
  rw [show s.mem.bad.contains a = true from hbad, hrec]
  dsimp only
  rw [hread]
  exact (silent_bump ..).trans (silent_raiseG ..)

/-! Learning (R182, R183, R193) -/

theorem learningUpdate_idle {cell steps residual loss : Nat} {pd pq tq : Int} (h : s.mayLearn g = false ∨ s.learnGranted = false ∨
    (s.gr[g].atlas.run.any fun r => s.reports g r cell steps residual pd pq tq loss) = false) :
    learningUpdate g cell steps residual pd pq tq loss s = s := by
  unfold learningUpdate
  cases hrun : s.gr[g].atlas.run with
  | none => rfl
  | some r =>
    rw [hrun] at h
    refine if_pos ?_
    rcases h with hmay | hgranted | hother
    · rw [hmay]
      rfl
    · rw [hgranted, Bool.not_false, Bool.or_true]
      rfl
    · rw [show s.reports g r cell steps residual pd pq tq loss = false from hother, Bool.not_false, Bool.or_true]
      rfl

/-- A run may end in an estimate: the group may learn, memory time is granted, and the run is long enough (R182, R184, R215). -/
structure State.learns (s : State) (g : GroupId) (r : LearnRun) : Prop where
  run : s.gr[g].atlas.run = some r
  may : s.mayLearn g = true
  granted : s.learnGranted = true
  long : s.actN 0x6020 7 ≤ r.steps

theorem estimateConf_modAtlas (f : Atlas → Atlas) (steps : Nat) (x : Rat) : (modAtlas g f s).estimateConf g steps x = s.estimateConf g steps x := by
  have hlimit : (modAtlas g f s).residualLimit g = s.residualLimit g := by
    unfold State.residualLimit
    rw [modAtlas, gr_modGr_self]
    rfl
  unfold State.estimateConf
  rw [hlimit]

/-- A report of the group's own run whose estimate is accepted is accepted. -/
theorem learningUpdate_accepts {r : LearnRun} {ce : Nat} (h : s.learns g r) (hconf : s.estimateConf g r.steps r.residual = some ce)
    (hjudge : s.judgeEstimate ce (s.estimate g r ce) (s.cell g r.cell) = 0) :
    learningUpdate g r.cell r.steps r.tenths (s.runFields g r).1 (s.runFields g r).2.1 (s.runFields g r).2.2 (s.runLoss g r) s =
      acceptEstimate g (r.cell, ce, s.estimate g r ce) (modAtlas g (fun a => { a with run := none }) s) := by
  obtain ⟨hrun, hmay, hgranted, hlong⟩ := h
  have hown : s.reports g r r.cell r.steps r.tenths (s.runFields g r).1 (s.runFields g r).2.1 (s.runFields g r).2.2 (s.runLoss g r) = true :=
    decide_eq_true ⟨rfl, rfl, rfl, rfl, rfl⟩
  unfold learningUpdate
  rw [hrun]
  dsimp only
  rw [hmay, hgranted, hown, decide_eq_false (Nat.not_lt.2 hlong), if_neg (by decide), estimateConf_modAtlas, hconf]
  dsimp only
  have hj : (modAtlas g (fun a => { a with run := none }) s).judgeEstimate ce
      ((modAtlas g (fun a => { a with run := none }) s).estimate g r ce)
      ((modAtlas g (fun a => { a with run := none }) s).cell g r.cell) = 0 := hjudge
  rw [hj]
  rfl

/-- While a checkpoint copies, or behind held updates, an accepted update is held (R193). -/
theorem acceptEstimate_holds {u : Nat × Nat × Word} (h : s.gr[g].atlas.copying = true ∨ s.gr[g].atlas.buffer ≠ [])
    (hroom : s.gr[g].atlas.buffer.length < 4096) :
    (acceptEstimate g u s).silent = (modAtlas g (fun a => { a with accepted := true, buffer := a.buffer ++ [u] }) s).silent := by
  unfold acceptEstimate
  extract_lets a holds v w
  have hholds : holds = true := by
    rw [Bool.or_eq_true, Bool.not_eq_true', List.isEmpty_eq_false_iff]
    exact h
  have hfits : decide (4096 ≤ a.buffer.length) = false := decide_eq_false (Nat.not_le.2 hroom)
  rw [hholds, hfits, Bool.and_false, if_neg Bool.false_ne_true, if_pos rfl]
  refine Eq.trans ?_ (congrArg State.silent (modAtlas_modAtlas g (fun a => { a with buffer := a.buffer ++ [u] }) (fun a => { a with accepted := true }) s))
  exact silent_modGr (silent_bump ..)

/-- Otherwise it is applied, and the atlas shows that it has learned (R193, R205). -/
theorem acceptEstimate_applies {u : Nat × Nat × Word} (hcopy : s.gr[g].atlas.copying = false) (hbuf : s.gr[g].atlas.buffer = []) :
    ∃ f : Atlas → Atlas, (∀ a, (f a).accepted = true ∧ (f a).run = a.run) ∧ (acceptEstimate g u s).silent =
      (modAtlas g f (applyEstimate g u s)).silent := by
  unfold acceptEstimate
  extract_lets a holds v w
  have hholds : holds = false := by
    simp only [holds, a, hcopy, hbuf]
    rfl
  rw [hholds, Bool.false_and, if_neg Bool.false_ne_true, if_neg Bool.false_ne_true]
  split
  · exact ⟨fun a => { a with accepted := true }, fun _ => ⟨rfl, rfl⟩, rfl⟩
  · refine ⟨fun a => Atlas.inState 2 { a with accepted := true }, fun _ => ⟨rfl, rfl⟩, (silent_setAtlasState (by decide) ..).trans ?_⟩
    have hw : w.silent = (modAtlas g (fun a => { a with accepted := true }) (applyEstimate g u s)).silent := rfl
    exact (silent_modGr hw).trans (congrArg State.silent (modAtlas_modAtlas g (Atlas.inState 2) _ _))

/-! Checkpoints (R192, R193) -/

/-- Where no sleep entry waits, the end of a copy is that of its group. -/
theorem settleSleep_awake (h : s.drive.sleepStep = 0) : settleSleep s = s := by
  unfold settleSleep
  rw [h]
  rfl

/-- An atlas whose copy has ended. -/
def Atlas.copied (a : Atlas) : Atlas := { a with copying := false, learned := false, copyRefs := [] }

/-- The commands of a copy complete, and the copy has ended. -/
theorem endCopy_frame {refs : List CmdRef} {status : Nat} {ws : List Word} (h : s.drive.sleepStep = 0) :
    (endCopy g (refs.foldl (fun a r => complete r status ws a) s)).silent = (modAtlas g Atlas.copied s).silent := by
  have hq : (refs.foldl (fun a r => complete r status ws a) s).silent = s.silent := silent_foldl (fun _ _ => silent_complete ..) _ s
  unfold endCopy
  generalize refs.foldl (fun a r => complete r status ws a) s = u at hq
  have hawake : (modAtlas g Atlas.copied u).drive.sleepStep = 0 := (congrArg Drive.sleepStep (silent_eq_drive hq)).trans h
  exact (congrArg State.silent (settleSleep_awake hawake)).trans (silent_modGr hq)

/-- A journal half with room takes a record. -/
theorem appendRecord_room (r : JRecord) (h : s.mem.journal.halves[s.mem.journal.half].length < halfRecords) :
    ∃ j, appendRecord r s = { s with mem := { s.mem with journal := j } } := by
  unfold appendRecord
  exact ⟨_, if_pos h⟩

/-- The record of a group's binding that a commit record gives. -/
def JRecord.bound (x : JRecord) (slot : Nat) : AtlasRec := { slot := slot, seq := x.seq, bridges := x.detail / 256, poles := x.detail % 256 }

/-- A good copy: its slot is named by a new record, and of the state but the NAND, its tables and the journal only the group's atlas changes. -/
theorem checkpointEnd_good (hsleep : s.drive.sleepStep = 0) (hcopy : s.gr[g].atlas.copying = true)
    (hroom : s.mem.journal.halves[s.mem.journal.half].length < halfRecords) :
    ∃ j x, x.seq = s.nextSeq 1 (g.val + 1) ∧ (checkpointEnd g true s).silent =
      (modAtlas g (fun a => Atlas.copied { a with record := some (JRecord.bound x (s.unnamedSlot g)), mtpaDue := true })
        { copyToNand g (s.unnamedSlot g) s with mem := { (copyToNand g (s.unnamedSlot g) s).mem with journal := j } }).silent := by
  obtain ⟨j, hj⟩ := appendRecord_room (s := copyToNand g (s.unnamedSlot g) s) ((copyToNand g (s.unnamedSlot g) s).atlasRecord g (s.unnamedSlot g)) hroom
  refine ⟨j, (copyToNand g (s.unnamedSlot g) s).atlasRecord g (s.unnamedSlot g), rfl, ?_⟩
  unfold checkpointEnd
  extract_lets slot refs s1 seq s2
  rw [hcopy, Bool.not_true, if_neg Bool.false_ne_true, if_pos rfl]
  have h1 : s1 = modAtlas g (fun a => { a with record := some (JRecord.bound ((copyToNand g slot s).atlasRecord g slot) slot) })
      { copyToNand g slot s with mem := { (copyToNand g slot s).mem with journal := j } } := by
    rw [← hj]
    rfl
  have h2 : s2.silent = (modAtlas g (fun a => { a with mtpaDue := true }) s1).silent := silent_raiseG ..
  have hsleep2 : s2.drive.sleepStep = 0 := by
    rw [silent_eq_drive h2, h1]
    exact hsleep
  rw [endCopy_frame hsleep2]
  refine (silent_modGr h2).trans ?_
  rw [h1]
  exact congrArg State.silent ((congrArg (modAtlas g Atlas.copied) (modAtlas_modAtlas ..)).trans (modAtlas_modAtlas ..))

theorem modAtlas_congr {f h : Atlas → Atlas} (hfh : f s.gr[g].atlas = h s.gr[g].atlas) : modAtlas g f s = modAtlas g h s :=
  congrArg (fun a : Atlas => { s with gr := s.gr.set g { s.gr[g] with atlas := a } }) hfh

/-- A bad copy: the estimates accepted before and during it still wait, and only the group's atlas changes. -/
theorem checkpointEnd_bad (hsleep : s.drive.sleepStep = 0) (hcopy : s.gr[g].atlas.copying = true) (hident : s.gr[g].atlas.ident = none) :
    (checkpointEnd g false s).silent = (modAtlas g (fun a => Atlas.copied { a with accepted := a.accepted || a.learned }) s).silent := by
  unfold checkpointEnd
  extract_lets slot refs s1 seq s2 s3
  rw [hcopy, Bool.not_true, if_neg Bool.false_ne_true, if_neg Bool.false_ne_true]
  have h3 : s3.silent = (modAtlas g (fun a => { a with accepted := a.accepted || a.learned }) s).silent := by
    refine (silent_raiseG ..).trans (congrArg State.silent (modAtlas_congr ?_))
    rw [hident]
    rfl
  have hsleep3 : s3.drive.sleepStep = 0 := (congrArg Drive.sleepStep (silent_eq_drive h3)).trans hsleep
  rw [endCopy_frame hsleep3]
  exact (silent_modGr h3).trans (congrArg State.silent (modAtlas_modAtlas ..))

/-! Identification (R186, R187) -/

/-- A step that fails has measured nothing that it would have to show (log 188). -/
theorem stepMade_failed (k cause : Nat) : s.stepMade g k (.failed cause) = true := by
  unfold State.stepMade
  split <;> trivial

/-- The steps I1 to I3 abort the identification where they fail, and the bridges of the group go to rest (R187). -/
theorem identStep_aborts {k cause : Nat} {held high : Bool} (hident : s.gr[g].atlas.ident = some (k, held, high)) (hlow : 1 ≤ k) (hhigh : k ≤ 3) :
    ∃ u bs, (∃ j, u.gr[g].atlas.ident = some j) ∧ identStep g (.failed cause) s = settlePd7 (forBr bs toRest (abortIdent g u)) := by
  unfold identStep
  rw [hident]
  dsimp only
  rw [stepMade_failed, decide_eq_false (by omega : ¬ k = 0)]
  refine ⟨modAtlas g (fun a => { a with result := withFailedStep a.result k }) s,
    (modAtlas g (fun a => { a with result := withFailedStep a.result k }) s).running g, ⟨(k, held, high), ?_⟩, ?_⟩
  · exact (congrArg Atlas.ident (atlas_modAtlas_self ..)).trans hident
  · rw [decide_eq_true hhigh]
    rfl

/-- Before I9, a step from I4 on that fails is noted, and the next one begins (R187). -/
theorem identStep_notes {k cause : Nat} {held high : Bool} (hident : s.gr[g].atlas.ident = some (k, held, high)) (hlow : 4 ≤ k) (hhigh : k ≤ 8) :
    (identStep g (.failed cause) s).silent = (modAtlas g (fun a => { a with
      ident := some (k + 1, held, high), stepAt := s.now, result := withFailedStep a.result k }) s).silent := by
  unfold identStep
  rw [hident]
  dsimp only
  rw [stepMade_failed, decide_eq_false (by omega : ¬ k = 0), decide_eq_false (by omega : ¬ k ≤ 3), if_neg (by omega : ¬ k = 10),
    show (k == 9) = false from beq_false_of_ne (by omega)]
  rw [Option.isSome_some, onlyIf_true, Bool.not_true, Bool.or_self, if_neg Bool.false_ne_true, Bool.and_false, if_neg Bool.false_ne_true, onlyIf_false]
  have hv := silent_raiseG 0x6012 g [(k : Int), (cause : Int)] (modAtlas g (fun a => { a with result := withFailedStep a.result k }) s)
  generalize raiseG 0x6012 g _ _ = v at hv ⊢
  rw [silent_eq_now hv]
  exact (silent_modGr hv).trans (congrArg State.silent
    (modAtlas_modAtlas g (fun a => { a with ident := some (k + 1, held, high), stepAt := s.now }) _ s))

/-- I3 gives its angle, and I4 begins (R186). -/
theorem identStep_angle {a : Nat} {held high : Bool} (hident : s.gr[g].atlas.ident = some (3, held, high)) :
    identStep g (.angle a) s = modGr g (fun x => { x with
      obs := { x.obs with angle := a % 65536, speed := 0, stamp := s.now }, atlas := { x.atlas with ident := some (4, held, high), stepAt := s.now } }) s := by
  unfold identStep
  rw [hident]
  exact modGr_modGr g (fun x => { x with atlas := { x.atlas with ident := some (4, held, high), stepAt := s.now } })
    (fun x => { x with obs := { x.obs with angle := a % 65536, speed := 0, stamp := s.now } }) s

/-- An identification that is aborted leaves its atlas EMPTY, with no cell (R187). -/
theorem abortIdent_frame {j : Nat × Bool × Bool} (hident : s.gr[g].atlas.ident = some j) :
    ∃ u, (abortIdent g s).silent =
      (modAtlas g (Atlas.inState 0) (clearAtlasCells g (modAtlas g (fun a => { a with ident := none, identRef := none }) u))).silent := by
  unfold abortIdent
  extract_lets a
  split
  next hnone => exact absurd (hident.symm.trans hnone) nofun
  next =>
    extract_lets u v w
    have hw : w.silent = _ := silent_setAtlasState (by decide) g (clearAtlasCells g v)
    refine ⟨u, ?_⟩
    split
    · exact (silent_complete ..).trans hw
    · exact hw

theorem abortIdent_empties {j : Nat × Bool × Bool} (hident : s.gr[g].atlas.ident = some j) : (abortIdent g s).gr[g].atlas.ident = none ∧
    ∀ a : Nat, 8 * cellAddr g 0 ≤ a → a < 8 * cellAddr g 0 + atlasBytes → readByte a (abortIdent g s).mem.dram = 0 := by
  obtain ⟨u, h⟩ := abortIdent_frame hident
  refine ⟨?_, fun a hlow hhigh => ?_⟩
  · rw [silent_eq_gr h, atlas_modAtlas_self]
    exact congrArg Atlas.ident (atlas_modAtlas_self g (fun a => { a with ident := none, identRef := none }) u)
  · rw [silent_eq_mem h]
    exact (readByte_eraseRange ..).trans (if_pos ⟨hlow, hhigh⟩)

/-! The rows -/

/-- A bad word is rewritten from the slot of its record, and reads back as it (R178). -/
theorem cellRepair_row {cell : Nat} {r : AtlasRec} (hon : s.engineOn = true) (hbad : s.mem.bad.contains (cellAddr g cell) = true)
    (hrec : s.gr[g].atlas.record = some r)
    (hread : s.mem.unreadable (atlasSlotAddr g (r.slot % 2) + 8 * (cell % 0x02000000)) 8 = false) (hw : s.mem.wf = true) :
    Completes (.cellRepair g cell) s fun t =>
      t.silent = { s.silent with mem := { s.mem with dram := t.mem.dram, bad := t.mem.bad }, arb := t.arb } ∧
      (s.mem.cut[crcIndex g r.slot] = false → ∀ k : Nat, k < 8 → readByte (8 * cellAddr g cell + k) t.mem.dram =
        readByte (atlasSlotAddr g (r.slot % 2) + 8 * (cell % 0x02000000) + k) s.mem.nand) ∧ t.cell g cell = s.slotWord g r.slot cell ∧
      (∀ a : Nat, (a < 8 * cellAddr g cell ∨ 8 * cellAddr g cell + 8 ≤ a) → readByte a t.mem.dram = readByte a s.mem.dram) ∧
      t.mem.bad.contains (cellAddr g cell) = false := by
  refine completes_onlyIf rfl hon ?_
  have h := cellRepair_repairs hbad hrec hread
  generalize cellRepair g cell s = t at h
  have hmem := silent_eq_mem h
  refine ⟨?_, fun hcut k hk => ?_, ?_, fun a ha => ?_, ?_⟩
  · rw [h, hmem, silent_eq_arb h]
    rfl
  · rw [hmem]
    exact readByte_putCell_slotWord hw hcut hk _
  · rw [State.cell, hmem]
    exact cell_putCell cell _ hw
  · rw [hmem]
    exact readByte_putCell_outside _ hw ha
  · rw [hmem]
    exact putCell_good ..

/-- An accepted estimate that nothing holds back is merged into its cell (R183). -/
theorem learningUpdate_merges {r : LearnRun} {ce : Nat} (hon : s.engineOn = true) (h : s.learns g r)
    (hconf : s.estimateConf g r.steps r.residual = some ce) (hjudge : s.judgeEstimate ce (s.estimate g r ce) (s.cell g r.cell) = 0)
    (hcopy : s.gr[g].atlas.copying = false) (hbuf : s.gr[g].atlas.buffer = []) (hw : s.mem.wf = true) :
    Completes (.learningUpdate g r.cell r.steps r.tenths (s.runFields g r).1 (s.runFields g r).2.1 (s.runFields g r).2.2 (s.runLoss g r)) s fun t =>
      t.silent = { s.silent with gr := t.gr, mem := { s.mem with dram := t.mem.dram, bad := t.mem.bad }, arb := t.arb } ∧
      t.cell g r.cell = mergeCell ce (s.estimate g r ce) (s.cell g r.cell) ∧ t.gr[g].atlas.accepted = true ∧ t.gr[g].atlas.run = none ∧
      ∀ a : Nat, (a < 8 * cellAddr g r.cell ∨ 8 * cellAddr g r.cell + 8 ≤ a) → readByte a t.mem.dram = readByte a s.mem.dram := by
  refine completes_onlyIf rfl hon ?_
  rw [learningUpdate_accepts h hconf hjudge]
  have hatlas := atlas_modAtlas_self g (fun a => { a with run := none }) s
  obtain ⟨f, hf, ha⟩ := acceptEstimate_applies (u := (r.cell, ce, s.estimate g r ce)) ((congrArg Atlas.copying hatlas).trans hcopy)
    ((congrArg Atlas.buffer hatlas).trans hbuf)
  generalize acceptEstimate g _ _ = t at ha
  have hmem := silent_eq_mem ha
  have hself : t.gr[g].atlas = f { s.gr[g].atlas with run := none } :=
    (congrArg (fun v : Vector Group 4 => v[g].atlas) (silent_eq_gr ha)).trans ((atlas_modAtlas_self ..).trans (congrArg f hatlas))
  refine ⟨?_, ?_, ?_, ?_, fun a hout => ?_⟩
  · rw [ha, hmem, silent_eq_arb ha, silent_eq_gr ha]
    rfl
  · rw [State.cell, hmem]
    exact cell_putCell (s := modAtlas g (fun a => { a with run := none }) s) r.cell _ hw
  · rw [hself]
    exact (hf _).1
  · rw [hself]
    exact (hf _).2
  · rw [hmem]
    exact readByte_putCell_outside (s := modAtlas g (fun a => { a with run := none }) s) _ hw hout

/-- A good copy is named by the next record of its group (R192). -/
theorem checkpointComplete_good (hon : s.engineOn = true) (hsleep : s.drive.sleepStep = 0) (hcopy : s.gr[g].atlas.copying = true)
    (hroom : s.mem.journal.halves[s.mem.journal.half].length < halfRecords) :
    Completes (.checkpointComplete g true) s fun t => t.gr[g].atlas.copying = false ∧ t.mem.dram = s.mem.dram ∧ t.br = s.br ∧
      (∃ r, t.gr[g].atlas.record = some r ∧ r.slot = s.unnamedSlot g ∧ r.seq = s.nextSeq 1 (g.val + 1)) ∧
      ∀ k : GroupId, k ≠ g → t.gr[k] = s.gr[k] := by
  refine completes_onlyIf rfl hon ?_
  obtain ⟨j, x, hseq, h⟩ := checkpointEnd_good hsleep hcopy hroom
  generalize checkpointEnd g true s = t at h
  have hgr := silent_eq_gr h
  have hself := (congrArg (fun v : Vector Group 4 => v[g].atlas) hgr).trans (atlas_modAtlas_self ..)
  refine ⟨congrArg Atlas.copying hself, ?_, ?_, ⟨_, congrArg Atlas.record hself, rfl, hseq⟩, fun k hk => ?_⟩
  · rw [silent_eq_mem h]
    rfl
  · rw [silent_eq_br h]
    rfl
  · exact (congrArg (fun v : Vector Group 4 => v[k]) hgr).trans (gr_modGr_ne _ _ hk)

/-- After a bad copy the record stays, and the estimates still wait (R193). -/
theorem checkpointComplete_bad (hon : s.engineOn = true) (hsleep : s.drive.sleepStep = 0) (hcopy : s.gr[g].atlas.copying = true)
    (hident : s.gr[g].atlas.ident = none) :
    Completes (.checkpointComplete g false) s fun t => t.gr[g].atlas.copying = false ∧
      t.gr[g].atlas.accepted = (s.gr[g].atlas.accepted || s.gr[g].atlas.learned) ∧ t.gr[g].atlas.record = s.gr[g].atlas.record ∧ t.mem = s.mem ∧
      t.br = s.br := by
  refine completes_onlyIf rfl hon ?_
  have h := checkpointEnd_bad hsleep hcopy hident
  generalize checkpointEnd g false s = t at h
  have hself := (congrArg (fun v : Vector Group 4 => v[g].atlas) (silent_eq_gr h)).trans (atlas_modAtlas_self ..)
  refine ⟨congrArg Atlas.copying hself, congrArg Atlas.accepted hself, ?_, ?_, ?_⟩
  · rw [hself]
    rfl
  · rw [silent_eq_mem h]
    rfl
  · rw [silent_eq_br h]
    rfl

/-- A failure in I1 to I3 ends the identification, and the atlas stays empty while the bridges go to rest (R187). -/
theorem identificationStepEnd_aborts {k cause : Nat} {held high : Bool} (hon : s.coresOn = true)
    (hident : s.gr[g].atlas.ident = some (k, held, high)) (hlow : 1 ≤ k) (hhigh : k ≤ 3) :
    Completes (.identificationStepEnd g (.failed cause)) s fun t => t.gr[g].atlas.ident = none ∧
      ∀ a : Nat, 8 * cellAddr g 0 ≤ a → a < 8 * cellAddr g 0 + atlasBytes → readByte a t.mem.dram = 0 := by
  refine completes_onlyIf rfl hon ?_
  obtain ⟨u, bs, ⟨j, hj⟩, h⟩ := identStep_aborts (cause := cause) hident hlow hhigh
  obtain ⟨hnone, hzero⟩ := abortIdent_empties hj
  have hkept : Empties (abortIdent g u) (settlePd7 (forBr bs toRest (abortIdent g u))) := .settlePd7 (.forBr .toRest (.refl _))
  rw [h]
  exact ⟨hkept.ident g hnone, fun a hl hh => hkept.zero a (hzero a hl hh)⟩

/-- Settles O28: each row is its group's atlas in another state, beside one word of the DRAM, or one slot of the NAND with its record. -/
theorem atlasCellAndCheckpointRows : Obligations.AtlasCellAndCheckpointRows := by
  unfold Obligations.AtlasCellAndCheckpointRows
  refine ⟨fun s g => ⟨fun cell r hon hbad hrec hread hw => cellRepair_row hon hbad hrec hread hw, fun cell h => onlyIf_idle (cellRepair_good h),
      fun cell steps residual loss pd pq tq h => onlyIf_idle (learningUpdate_idle h), fun hon tables hdue => ?mtpa⟩,
    fun s g => ⟨fun hon hsleep hident hcopy => ⟨checkpointComplete_good hon hsleep hcopy, checkpointComplete_bad hon hsleep hcopy hident⟩,
      fun hnone r => onlyIf_idle ?idle, fun a held high hon hident => ?angle,
      fun k cause held high hon hident hlow => ⟨identificationStepEnd_aborts hon hident hlow, fun hfrom hto => ?noted⟩,
      fun r ce w hon hrun hmay hgranted hlong _ hconf hw hjudge => ?learning⟩⟩
  case mtpa =>
    have h : exec (.mtpaRebuildDone g tables) s = .next (onlyIf s.coresOn (mtpaDone g tables) s) := rfl
    rw [h, hon]
    exact congrArg Host.Outcome.next (if_pos hdue)
  case idle =>
    unfold identStep
    rw [hnone]
  case angle =>
    have h : exec (.identificationStepEnd g (.angle a)) s = .next (onlyIf s.coresOn (identStep g (.angle a)) s) := rfl
    rw [h, hon]
    exact congrArg Host.Outcome.next (identStep_angle hident)
  case noted => exact completes_onlyIf rfl hon (identStep_notes hident hfrom hto)
  case learning =>
    subst hw
    have hlearns : s.learns g r := ⟨hrun, hmay, hgranted, hlong⟩
    refine ⟨fun hholds hroom => completes_onlyIf rfl hon ?_, fun hfree hbuf hwf => learningUpdate_merges hon hlearns hconf hjudge hfree hbuf hwf⟩
    have hatlas := atlas_modAtlas_self g (fun a => { a with run := none }) s
    rw [learningUpdate_accepts hlearns hconf hjudge]
    refine (acceptEstimate_holds (by rw [hatlas]; exact hholds) (by rw [hatlas]; exact hroom)).trans ?_
    rw [modAtlas_modAtlas]
    rfl

end Sys2Proof.Machine
end

section
/-! PROOFS. The limit stages of the torque path (O20): each is a magnitude limit, a factor from 0 to 1, or the torque itself or zero, so none
raises a magnitude (R208). -/

namespace Sys2Proof.Machine

/-- A magnitude limit that is not negative never raises a magnitude. -/
theorem abs_capMag_le {lim : Rat} (x : Rat) (hlim : 0 ≤ lim) : |capMag lim x| ≤ |x| := by
  have hneg : -|x| ≤ 0 := neg_nonpos.2 (abs_nonneg x)
  have hlow : -|x| ≤ min lim x := le_min (hneg.trans hlim) (neg_abs_le x)
  have hhigh : -lim ≤ |x| := (neg_nonpos.2 hlim).trans (abs_nonneg x)
  exact abs_le.2 ⟨le_max_of_le_right hlow, max_le hhigh ((min_le_right _ _).trans (le_abs_self x))⟩

/-- A factor from 0 to 1 never raises a magnitude. -/
theorem abs_mul_le_of_mem_Icc {f : Rat} (x : Rat) (hf : f ∈ Set.Icc 0 1) : |x * f| ≤ |x| := by
  rw [abs_mul, abs_of_nonneg hf.1]
  exact mul_le_of_le_one_right (abs_nonneg x) hf.2

theorem clamp01_mem_Icc (x : Rat) : clamp01 x ∈ Set.Icc 0 1 :=
  ⟨le_max_left _ _, max_le zero_le_one (min_le_left _ _)⟩

/-- The fade from 1 at `lo` to 0 at `l` lies between the two below `l`, wherever `lo` is. -/
theorem fade_mem_Icc {n l : Rat} (lo : Rat) (hn : n < l) : (if n ≤ lo then 1 else (l - n) / (l - lo)) ∈ Set.Icc (0 : Rat) 1 := by
  split
  case isTrue => exact ⟨zero_le_one, le_rfl⟩
  case isFalse hlo =>
    have hspan : l - n ≤ l - lo := sub_le_sub_left (not_le.1 hlo).le l
    have hpos : 0 < l - n := sub_pos.2 hn
    exact ⟨div_nonneg hpos.le (hpos.trans_le hspan).le, (div_le_one (hpos.trans_le hspan)).2 hspan⟩

/-- Stage 4 is a factor from 0 to 1 (R208). -/
theorem regenFactor_mem_Icc (s : State) (g : GroupId) (t : Rat) : s.regenFactor g t ∈ Set.Icc 0 1 := by
  unfold State.regenFactor
  split
  case isTrue => exact clamp01_mem_Icc _
  case isFalse => exact ⟨zero_le_one, le_rfl⟩

/-- Stage 5's limits of speed are a factor from 0 to 1, whatever the limits are (R208, R280). -/
theorem speedFactor_mem_Icc (s : State) (g : GroupId) (t : Rat) : s.speedFactor g t ∈ Set.Icc 0 1 := by
  unfold State.speedFactor
  extract_lets n limit l lo
  split
  case isTrue => exact ⟨zero_le_one, le_rfl⟩
  split
  case isTrue => exact ⟨le_rfl, zero_le_one⟩
  case isFalse hbelow => exact fade_mem_Icc lo (not_le.1 hbelow)

/-- Stages 2 to 5 never raise the magnitude of what they are given, for limits of torque and power that are not negative (R208). -/
theorem abs_stages_le {s : State} (g : GroupId) (t1 : Rat) (regen : Bool) (hlim : ∀ k, 0 ≤ s.act 0x7001 k ∧ 0 ≤ s.act 0x7002 k) :
    |(s.stages g t1 regen).t| ≤ |t1 + s.dragTorque g| := by
  have htorque (k : Nat) : 0 ≤ s.actR 0x7001 k := Int.cast_nonneg (hlim k).1
  have hpower (k : Nat) : 0 ≤ s.actR 0x7002 k := Int.cast_nonneg (hlim k).2
  unfold State.stages
  extract_lets k w x1 x2 x3 x4 x5 stop x6
  have h2 : |x2| ≤ |x1| := abs_capMag_le x1 (div_nonneg (htorque k) (by decide))
  have h3 : |x3| ≤ |x2| := by
    unfold x3
    split
    case isTrue => exact le_rfl
    case isFalse => exact abs_capMag_le x2 (div_nonneg (mul_nonneg (hpower k) (by decide)) (abs_nonneg _))
  have h4 : |x4| ≤ |x3| := by
    unfold x4
    split
    case isTrue => exact abs_mul_le_of_mem_Icc x3 (regenFactor_mem_Icc s g x3)
    case isFalse => exact le_rfl
  have h5 : |x5| ≤ |x4| := abs_mul_le_of_mem_Icc x4 (speedFactor_mem_Icc s g x4)
  have h6 : |x6| ≤ |x5| := by
    unfold x6
    split
    case isTrue => exact abs_zero.trans_le (abs_nonneg x5)
    case isFalse => exact le_rfl
  calc |x6| ≤ |x5| := h6
    _ ≤ |x4| := h5
    _ ≤ |x3| := h4
    _ ≤ |x2| := h3
    _ ≤ |x1| := h2

/-- A torque that a direction rule cuts is zero (R246, R247). -/
theorem stages_eq_zero_of_dirCut {s : State} {g : GroupId} {t1 : Rat} {regen : Bool} (h : (s.stages g t1 regen).dirCut = true) :
    (s.stages g t1 regen).t = 0 :=
  if_pos ((Bool.and_eq_true _ _).mp h).1

/-- Settles O20: along the chain of the stages, each of which can only reduce. -/
theorem torqueStagesOnlyReduce : Obligations.TorqueStagesOnlyReduce := by
  unfold Obligations.TorqueStagesOnlyReduce
  exact fun _ g t1 regen hlim => ⟨abs_stages_le g t1 regen hlim, stages_eq_zero_of_dirCut⟩

end Sys2Proof.Machine
end

section
/-! PROOFS. The unit as delivered (O51). -/

namespace Sys2Proof.Machine

/-- Settles O51: each part by the reset value of its record. -/
theorem resetLeavesTheUnitAsDelivered : Obligations.ResetLeavesTheUnitAsDelivered := by
  unfold Obligations.ResetLeavesTheUnitAsDelivered
  have hobjects (i k : Nat) : State.reset.act i k = objDefault i k ∧ State.reset.sto i k = objDefault i k := ⟨rfl, rfl⟩
  have hbytes (a : Nat) : readByte a State.reset.mem.dram = 0 ∧ readByte a State.reset.mem.nand = 0 := ⟨rfl, rfl⟩
  refine ⟨rfl, hobjects, by decide, by decide, rfl, rfl, by decide, hbytes, reset_mem_wf, reset_par_wf, reset_st_bounded, by decide,
    by decide, rfl, rfl, rfl⟩

end Sys2Proof.Machine
end

section
/-! PROOFS. DRIVE.ARM and DRIVE.DISARM (O7): what commanding a coil leaves of the state, and the opening that waits for the current of CO1. -/

namespace Sys2Proof.Machine

variable {r : CmdRef} {s : State}

/-! Coils (R254, R257) -/

/-- Commanding a coil changes the contactors alone, and of them neither the mirror contacts nor the opening. -/
theorem setCoil_eq (c : Fin 3) (on : Bool) (s : State) : ∃ k : Contactors, setCoil c on s = { s with cont := k } ∧
    k.coil = s.cont.coil.set c on ∧ k.mirrorOpen = s.cont.mirrorOpen ∧ k.opening = s.cont.opening ∧ k.afterOpen = s.cont.afterOpen := by
  unfold setCoil
  split
  · next hsame => exact ⟨s.cont, rfl, by rw [← hsame]; exact (Vector.set_getElem_self c.2).symm, rfl, rfl, rfl⟩
  · exact ⟨_, rfl, rfl, rfl, rfl, rfl⟩

/-- With a coil commanded closed the contactors are not all open. -/
theorem allOpen_of_coil {c : Fin 3} (h : s.cont.coil[c] = true) : s.allOpen = false := by
  unfold State.allOpen
  rw [Bool.and_eq_false_iff]
  refine .inr (Bool.eq_false_iff.2 fun hall => ?_)
  have hopen : (!s.cont.coil[c]) = true := Vector.all_eq_true.1 hall c c.isLt
  rw [h] at hopen
  cases hopen

/-- A coil that is released beside one that stays closed raises nothing (R257). -/
theorem openCoil_of_coil {c d : Fin 3} (hne : c ≠ d) (h : s.cont.coil[d] = true) : openCoil c s = setCoil c false s := by
  obtain ⟨k, hk, hcoil, -⟩ := setCoil_eq c false s
  have hstays : k.coil[d] = true := by
    rw [hcoil]
    simpa [Fin.val_ne_of_ne hne] using h
  unfold openCoil
  extract_lets was u
  have hclosed : u.cont.coil[d] = true := by rwa [show u = _ from hk]
  rw [allOpen_of_coil hclosed]
  rfl

/-! Arming (R256) -/

/-- In STANDBY, with every contact open and nothing in progress, step 1 begins with coil 2 alone. -/
theorem driveArm_begins (hstate : s.drive.state = .standby) (hfree : s.drive.armRef = none) (hopening : s.cont.opening = 0)
    (hactive : s.cont.active = false) (hmirror : s.cont.mirrorOpen.all id = true) :
    driveArm r s = { setCoil 1 true s with drive := { s.drive with armRef := some r, armStep := 1, armUdc := s.drive.udc } } := by
  have haccepts : ¬ (s.drive.state ≠ .standby ∨ s.drive.armRef.isSome ∨ s.cont.opening ≠ 0 ∨ s.cont.active) := by
    simp [hstate, hfree, hopening, hactive]
  obtain ⟨k, hk, -⟩ := setCoil_eq 1 true s
  unfold driveArm
  rw [if_neg haccepts, if_neg (by rw [hmirror]; decide), hk]

/-! Disarming (R257) -/

/-- An opening with CO1 closed begins with CO3 and waits for the current of CO1; it changes the contactors and the overlap alone. -/
theorem openContactors_awaitsCurrent {after : Bool} (hopening : s.cont.opening = 0) (hclosed : s.cont.coil[0] = true) : ∃ k : Contactors,
    openContactors false after s = { s with cont := k, drive := { s.drive with overlap := false } } ∧ k.coil = s.cont.coil.set 2 false ∧
      k.opening = 1 ∧ k.openAt = s.now ∧ k.afterOpen = (s.cont.afterOpen || after) := by
  obtain ⟨k, hk, hcoil, -, hwait, hafter⟩ := setCoil_eq 2 false { s with cont := { s.cont with afterOpen := s.cont.afterOpen || after } }
  unfold openContactors
  extract_lets _ s1 s2 _ s3
  have hreleased : s2 = { s1 with cont := k } := (openCoil_of_coil (s := s1) (c := 2) (d := 0) (by decide) hclosed).trans hk
  have hoverlap : s3 = { s with cont := k, drive := { s.drive with overlap := false } } := by
    show { s2 with drive := { s2.drive with overlap := false } } = _
    rw [hreleased]
  have hzero : k.opening = 0 := hwait.trans hopening
  have hstays : k.coil[0] = true := by
    rw [hcoil]
    simpa using hclosed
  clear_value s3
  subst hoverlap
  rw [if_neg (by simp [hzero]), if_pos (by simp [hstays])]
  exact ⟨{ k with opening := 1, openAt := s.now }, rfl, hcoil, rfl, rfl, hafter⟩

/-- In ARMED, with every bridge in STANDBY and nothing in progress, an opening begins that a discharge follows, and the command waits. -/
theorem driveDisarm_begins (hstate : s.drive.state = .armed) (hrest : s.allStandby = true) (hfree : s.drive.armRef = none)
    (hopening : s.cont.opening = 0) (hactive : s.cont.active = false) (hafter : s.cont.afterOpen = false) :
    driveDisarm r s = openContactors false true
      { s with drive := { s.drive with armStep := 0, disarmRefs := s.drive.disarmRefs ++ [r] } } := by
  unfold driveDisarm
  extract_lets here joins _ _ u
  have hhere : here = true := by simp only [here, hstate]
  have hjoins : joins = false := by simp only [joins, hopening, hactive, hafter]; rfl
  have hcont : { s.cont with afterOpen := s.cont.afterOpen || (joins && !s.cont.active) } = s.cont := by
    rw [hjoins, Bool.false_and, Bool.or_false]
  have hwaits : u = { s with drive := { s.drive with disarmRefs := s.drive.disarmRefs ++ [r] } } := by
    show { s with drive := _, cont := { s.cont with afterOpen := s.cont.afterOpen || (joins && !s.cont.active) } } = _
    rw [hcont]
  have hunarmed : endArm stAborted u = { s with drive := { s.drive with armStep := 0, disarmRefs := s.drive.disarmRefs ++ [r] } } := by
    unfold endArm
    simp only [hwaits, hfree]
  rw [if_neg (by rw [hhere, hrest]; decide), if_neg (by rw [hjoins]; decide), hunarmed]

/-- Settles O7: each command finds nothing in progress, so the one begins step 1 of the arming and the other an opening that waits. -/
theorem armAndDisarmCommands : Obligations.ArmAndDisarmCommands := by
  unfold Obligations.ArmAndDisarmCommands
  refine fun e s => ⟨fun hadmits hstate hfree hopening hactive hmirror => ?arm,
    fun hadmits hstate hfree hrest hopening hactive hafter hclosed => ?disarm⟩
  case arm =>
    obtain ⟨k, hk, hcoil, hkept, -⟩ := setCoil_eq 1 true s
    have hrun : command e 0x0101 1 0 driveArm s = _ :=
      (command_body e 0x0101 1 0 driveArm s hadmits).trans (driveArm_begins hstate hfree hopening hactive hmirror)
    rw [hk] at hrun
    exact ⟨_, congrArg Host.Outcome.next hrun, rfl, hcoil, hkept, rfl⟩
  case disarm =>
    obtain ⟨k, hk, hcoil, hwaits, hsince, hfollows⟩ := openContactors_awaitsCurrent (after := true)
      (s := { s with drive := { s.drive with armStep := 0, disarmRefs := s.drive.disarmRefs ++ [e.ref 0x0102] } }) hopening hclosed
    have hrun : command e 0x0102 1 0 driveDisarm s = _ :=
      (command_body e 0x0102 1 0 driveDisarm s hadmits).trans
        ((driveDisarm_begins hstate hrest hfree hopening hactive hafter).trans hk)
    exact ⟨_, congrArg Host.Outcome.next hrun, rfl, hcoil, hwaits, hsince, hfollows.trans (Bool.or_true _), rfl⟩

end Sys2Proof.Machine
end

section
/-! PROOFS. Starts and disables (O8), the arming and opening of the contactors (O30, O31) and the changes of safe patterns (O33), each refuted by a
state on which the model runs. -/

namespace Sys2Proof.Machine

/-! BRIDGE.DISABLE (R250, R347, R352) -/

/-- Bridge 1 alone in RUN, with a gate charge measured at its first position. The islands are supplied, while the wake on HV presence alone, which
keeps PD7 off (R352), is still noted. -/
def runsOnHvWake : State :=
  { State.reset with
    boot := { State.reset.boot with booting := false }
    pwr := { State.reset.pwr with domains := .replicate 8 true }
    cont := { State.reset.cont with hvWake := true }
    drive := { State.reset.drive with state := .run }
    br := State.reset.br.set 0 { State.reset.br[0] with
      state := .run
      pos := State.reset.br[0].pos.set 0 { State.reset.br[0].pos[0] with charge := [500] } } }

/-- BRIDGE.DISABLE of bridge 1. -/
def disableFirst : CmdEntry := { queue := 1, seq := 0, ops := [1], tag := 0 }

/-- The drive shows STOPPING, and at this change PD7 goes off, with which the averaged gate charges end (R95). -/
theorem runsOnHvWake_clears : ((bridgeDisable disableFirst runsOnHvWake).br[(0 : BridgeId)].pos[(0 : Fin 6)]).charge = [] := by
  decide +kernel

/-- Refutes O8: where the disable takes the drive to STOPPING while PD7 may not be on, the gate charges of the bridges end, so that the
bridge in RUN does not only begin its ramp. -/
theorem not_startAndDisableCommands : ¬ Obligations.StartAndDisableCommands := by
  intro h
  obtain ⟨-, hdisable⟩ := h
  obtain ⟨hbridges, -⟩ := completes_next (u := bridgeDisable disableFirst runsOnHvWake) rfl
    (hdisable disableFirst runsOnHvWake (by decide +kernel) rfl rfl (by decide +kernel) (by decide +kernel) ⟨0, by decide +kernel⟩ rfl)
  have hkept : ((bridgeDisable disableFirst runsOnHvWake).br[(0 : BridgeId)].pos[(0 : Fin 6)]).charge = [500] := by
    rw [hbridges 0]
    decide +kernel
  exact absurd (runsOnHvWake_clears.symm.trans hkept) (by decide)

/-! The weld check (R257, R258) -/

/-- Step 2 of an arming: CO2 and CO3 are closed, and precharge is to reach 800 V. -/
def precharging : State :=
  putObj 0x7120 3 800 { State.reset with
    drive := { State.reset.drive with state := .precharge, armStep := 2 }
    cont := { State.reset.cont with coil := #v[false, true, true], mirrorOpen := #v[true, false, false] } }

/-- The coil supply is lost, so that the opening waits for CO2 only; the arming goes on, and at 900 V it closes CO1. -/
def closesWhileOpening : State := prechargeDone 9000 (openContactors true false precharging)

/-- The weld of CO3 finds an opening that waits for CO2, and leaves the coil of CO1 as it is. -/
theorem closesWhileOpening_staysClosed : (weldCheck 2 closesWhileOpening).cont.coil[0] = true := by decide +kernel

/-- Refutes O30: a weld declared while an opening waits for CO2 does not open a CO1 that has closed again since. -/
theorem not_armingRows : ¬ Obligations.ArmingRows := by
  intro h
  obtain ⟨-, -, -, -, -, -, hcoils⟩ := h closesWhileOpening 0
  obtain ⟨-, hweld⟩ := hcoils 2
  obtain ⟨-, -, hopens, -⟩ := completes_next (u := weldCheck 2 closesWhileOpening) rfl
    (hweld (by decide +kernel) (by decide +kernel) (by decide +kernel))
  exact absurd (closesWhileOpening_staysClosed.symm.trans hopens) (by decide)

/-! The end of an opening (R257) -/

/-- DRIVE.ARM has just commanded CO2, and no contact has moved yet. -/
def armBegun : State :=
  { State.reset with
    pwr := { State.reset.pwr with domains := .replicate 8 true }
    cont := { State.reset.cont with coil := #v[false, true, false] } }

/-- The coil supply is lost: CO2 opens 20 ms from now, and its mirror contact still shows it open. -/
def opensLast : State := openContactors true false armBegun

/-- With CO2 all three contactors are open, which E-7115 reports (R257). -/
theorem opensLast_reports : (openCo2 opensLast).io.eventSerial = 1 := by decide +kernel

/-- Refutes O31: CONTACTOR_OPEN_CO2 also raises E-7115 where no mirror contact shows a contact closed, so that the reports change too. -/
theorem not_openingAndDischargeRows : ¬ Obligations.OpeningAndDischargeRows := by
  intro h
  obtain ⟨-, hlast, -⟩ := h opensLast 0
  obtain ⟨hsame, -⟩ := completes_next (u := openCo2 opensLast) rfl (hlast (by decide +kernel) (by decide +kernel))
  have hquiet : (openCo2 opensLast).io.eventSerial = opensLast.io.eventSerial := congrArg (fun t => t.io.eventSerial) hsame
  exact absurd (opensLast_reports.symm.trans hquiet) (by decide +kernel)

/-! The end of an ASC (R252, R347) -/

/-- A drive in SAFE-ASC after an overvoltage, without the HV-present supply: bridge 1 is in ASC, and bridge 2 in SAFE-OFF with a gate charge
measured at its first position. -/
def lastAsc : State :=
  let s := putObj 0x1100 1 1 State.reset
  { s with
    boot := { s.boot with booting := false }
    pwr := { s.pwr with domains := .replicate 8 true }
    drive := { s.drive with state := .safeAsc, udc := 600 }
    br := (s.br.set 0 { s.br[0] with
        state := .safeAsc, force := { s.br[0].force with pattern := 2, sources := [(.overvoltage, 4)] } }).set 1 { s.br[1] with
      state := .safeOff, force := { s.br[1].force with pattern := 1, sources := [(.overvoltage, 4)] }
      pos := s.br[1].pos.set 0 { s.br[1].pos[0] with charge := [500] } } }

/-- PD7 was on for the ASC alone (R347): it goes off with the ASC, and the gate charges of every bridge end (R95). -/
theorem lastAsc_clears : ((ascToOff 0 0 lastAsc).br[(1 : BridgeId)].pos[(0 : Fin 6)]).charge = [] := by decide +kernel

/-- Refutes O33: the end of the last ASC can take PD7 off, with which the averaged gate charges of the other bridges end too. -/
theorem not_startEndsAndSafeChanges : ¬ Obligations.StartEndsAndSafeChanges := by
  intro h
  obtain ⟨-, -, -, hexit⟩ := h lastAsc 0 (by decide +kernel)
  obtain ⟨hlatched, -⟩ := hexit 0 0 (by decide +kernel) (by decide +kernel) (by decide +kernel) (by decide +kernel) (by decide +kernel)
  obtain ⟨-, -, -, -, hothers, -⟩ := completes_next (u := ascToOff 0 0 lastAsc) rfl (hlatched (by decide +kernel))
  have hkept : ((ascToOff 0 0 lastAsc).br[(1 : BridgeId)].pos[(0 : Fin 6)]).charge = [500] := by
    rw [hothers 1 (by decide)]
    decide +kernel
  exact absurd (lastAsc_clears.symm.trans hkept) (by decide)

end Sys2Proof.Machine
end

section
/-! PROOFS. The level 3 trips of a group (O35), refuted by a state on which the model runs: a trip of one group ends the winding discharge of another. -/

namespace Sys2Proof.Machine

/-- Four groups of one bridge with every rail ready. The drive is in DISCHARGE with the vector of the winding method on the second group, while
the first group, whose bound is ASC-always, coasts at 2 kHz, above its overspeed limit. -/
def coastsBesideDischarge : State :=
  let s := putObj 0x7110 1 2 (putObj 0x1100 1 1 State.reset)
  { s with
    boot := { s.boot with booting := false }
    pwr := { s.pwr with domains := .replicate 8 true, delivering := .replicate 2 true }
    drive := { s.drive with state := .discharge, udc := 400 }
    cont := { s.cont with active := true, method := 1, group := some 1, vector := some (50, 0) }
    clove := { s.clove with speed := s.clove.speed.set 0 { s.clove.speed[0] with valid := true, freq := 20000 } }
    br := s.br.map fun x => { x with pos := x.pos.map fun p => { p with railReady := true, linkValid := true } } }

/-- The shunt shows no current, so that the discharge applies its pattern to bridge 2 (R309). -/
def dischargesByWinding : State := settleChop coastsBesideDischarge

theorem dischargesByWinding_drives : (dischargesByWinding.br[(1 : BridgeId)].pos[(0 : Fin 6)]).on = true := by decide +kernel

/-- The trip takes bridge 1 to ASC, and the drive from DISCHARGE to SAFE-ASC (R259), with which the pattern on bridge 2 ends (R309). -/
theorem cloveOverspeed_endsDischarge : ((cloveOverspeed 0 dischargesByWinding).br[(1 : BridgeId)].pos[(0 : Fin 6)]).on = false := by
  decide +kernel

/-- Refutes O35: a trip of one group that ends in ASC also turns off the positions through which another group's windings discharge the DC link. -/
theorem not_groupSafetyRows : ¬ Obligations.GroupSafetyRows := by
  intro h
  have htrip := h dischargesByWinding 0 (.cloveOverspeed 0) (by decide +kernel) (.inr (.inr (.inl ⟨rfl, by decide +kernel, by decide +kernel⟩)))
  obtain ⟨-, hothers, -⟩ := completes_next (u := cloveOverspeed 0 dischargesByWinding) rfl htrip
  have hkept : ((cloveOverspeed 0 dischargesByWinding).br[(1 : BridgeId)].pos[(0 : Fin 6)]).on = true := by
    rw [hothers 1 (by decide +kernel)]
    exact dischargesByWinding_drives
  exact absurd (cloveOverspeed_endsDischarge.symm.trans hkept) (by decide)

end Sys2Proof.Machine
end

section
/-! PROOFS. A further SS1 source during an SS1 (O59): how an event reaches its queue, and that completions leave it there. -/

namespace Sys2Proof.Machine

variable {s : State} {g : GroupId}

/-! The newest event (R400, R406) -/

/-- Where an injection has not fired, an event is its entry alone (R496). -/
theorem raise_of_not_fired (code level index : Nat) (payload : List Int) (hfired : s.test.fired = []) :
    raise code level index payload s = raise0 code level index payload s := by
  unfold raise injectionSeen
  rw [raise0_test, hfired]
  rfl

/-- A queue that takes the entry at once has it as its newest. -/
theorem enqueueOut_newest {q : QueueId} {x : Entry} (hlost : s.io.out[q].lost = 0) (hroom : s.io.out[q].used + x.size ≤ queueCapacity q.val) :
    (enqueueOut q x s).io.out[q].entries.getLast? = some x := by
  have hsettled : settleLost q s = s := if_neg fun h => h.1 hlost
  unfold enqueueOut
  rw [hsettled, if_pos ⟨hlost, hroom⟩, pushEntry_out]
  simp

/-- An event whose queue has room for it is the newest there. -/
theorem raise_logged {code : Nat} {payload : List Int} (level index : Nat) (h : s.logs code) (hfired : s.test.fired = [])
    (hsize : payload.length ≤ 32) : (raise code level index payload s).logged code level index payload := by
  obtain ⟨hpowered, hlost, hroom⟩ := h
  have hfits : s.io.out[eventQueue code].used + (3 + (payload.map (BitVec.ofInt 64)).length) ≤ queueCapacity (eventQueue code).val := by
    rw [List.length_map]
    omega
  rw [raise_of_not_fired code level index payload hfired]
  unfold raise0
  rw [hpowered, Bool.not_true, if_neg Bool.false_ne_true]
  exact ⟨_, enqueueOut_newest (s := nextSerial s) hlost hfits, rfl, rfl, rfl, rfl⟩

/-- Completions and events go to different queues. -/
theorem completionQueue_ne_eventQueue (q : Fin 4) (code : Nat) : (completionQueue q).val ≠ (eventQueue code).val := by
  have hevent : 8 ≤ (eventQueue code).val := by
    unfold eventQueue
    split
    · decide
    · split <;> decide
  have hcompletion : (completionQueue q).val < 8 := Nat.add_lt_add_right q.2 4
  omega

/-- A completion leaves the newest event as it is. -/
theorem logged_complete {code level index : Nat} {payload : List Int} (r : CmdRef) (status : Nat) (results : List Word)
    (h : s.logged code level index payload) : (complete r status results s).logged code level index payload := by
  obtain ⟨x, hlast, hx⟩ := h
  refine ⟨x, ?_, hx⟩
  rw [complete_out, Fin.getElem_fin, Vector.getElem_set_ne _ _ (completionQueue_ne_eventQueue r.queue code)]
  exact hlast

/-- So does the completion of the requests of SS1 whose groups have their entry. -/
theorem logged_settleSs1Reqs {code level index : Nat} {payload : List Int} (h : s.logged code level index payload) :
    (settleSs1Reqs s).logged code level index payload := by
  unfold settleSs1Reqs
  extract_lets done ready u
  exact List.foldlRecOn ready _ (motive := fun v : State => v.logged code level index payload) h fun _ hv q _ => logged_complete q.ref _ _ hv

/-! The source (R279) -/

/-- During an SS1 of a group that runs, a further source is an E-8010 with flag 0 (R279). -/
theorem ss1Source_further (src : Nat) (hrun : s.running g ≠ []) (hss1 : s.gr[g].ss1.any (fun x => decide (x.goal = 0)) = true) :
    ss1Source g src s = raiseG 0x8010 g [(src : Int), 0] s := by
  have hbridges : (s.bridgesOf g).isEmpty = false := List.isEmpty_eq_false_iff.2 fun h => hrun (by rw [State.running, h]; rfl)
  unfold ss1Source
  rw [hbridges, if_neg Bool.false_ne_true, List.isEmpty_eq_false_iff.2 hrun, if_neg Bool.false_ne_true, if_pos hss1]

/-- It is a report, and the newest event where the event queue takes it. -/
theorem ss1Source_recorded (src : Nat) (hrun : s.running g ≠ []) (hss1 : s.gr[g].ss1.any (fun x => decide (x.goal = 0)) = true)
    (hfired : s.test.fired = []) : Quiet (ss1Source g src s) s ∧
      (s.logs 0x8010 → (ss1Source g src s).logged 0x8010 3 (s.groupIndex g) [(g.val + 1 : Int), (src : Int), 0]) := by
  rw [ss1Source_further src hrun hss1]
  exact ⟨silent_raiseG .., fun hlogs => raise_logged 3 (s.groupIndex g) hlogs hfired (by simp)⟩

/-- A request of SS1 has joined those that wait. -/
def State.withSs1Req (q : Ss1Req) (s : State) : State := { s with drive := { s.drive with ss1Reqs := s.drive.ss1Reqs ++ [q] } }

/-- SS1.REQUEST of a single group with a bridge in RUN: the request joins those that wait, and the host is a source of SS1 (R276, R424). -/
theorem ss1Request_one {e : CmdEntry} (r : CmdRef) (hone : groupsOfMask (bits 3 0 (e.word 1)) = [g]) (hrun : s.running g ≠ []) :
    ∃ q : Ss1Req, ss1Request e r s = settleSs1Reqs (ss1Source g ss1FromHost (s.withSs1Req q)) := by
  have hbusy : ([g].all fun k => (s.running k).isEmpty) = false :=
    List.all_eq_false.2 ⟨g, List.mem_singleton_self g, by rw [List.isEmpty_eq_false_iff.2 hrun]; decide⟩
  unfold ss1Request
  extract_lets gs known q
  have hgs : gs = [g] := hone
  refine ⟨q, ?_⟩
  rw [hgs, List.isEmpty_cons, if_neg Bool.false_ne_true, hbusy, if_neg Bool.false_ne_true]
  rfl

/-- Settles O59: a further source is recorded by an event, which is a report; the requests of the host that are complete are the drive's. -/
theorem furtherSs1Source : Obligations.FurtherSs1Source := by
  refine fun s g hrun hss1 hfired => ⟨fun src => ss1Source_recorded src hrun hss1 hfired, fun e hadm hone => ?_⟩
  refine ⟨_, congrArg Host.Outcome.next (command_body _ _ _ _ _ _ hadm), ?_⟩
  obtain ⟨q, hq⟩ := ss1Request_one (e.ref 0x0301) hone hrun
  have hsource := ss1Source_recorded (s := s.withSs1Req q) ss1FromHost hrun hss1 hfired
  rw [hq]
  generalize ss1Source g ss1FromHost (s.withSs1Req q) = u at hsource
  obtain ⟨hquiet, hlogged⟩ := hsource
  have ht := settleSs1Reqs_frame u
  rw [hquiet] at ht
  refine ⟨?_, fun hlogs => logged_settleSs1Reqs (hlogged hlogs)⟩
  generalize settleSs1Reqs u = t at ht
  have hdrive : t.drive = _ := have h := congrArg State.drive ht; h
  rw [hdrive]
  exact ht

end Sys2Proof.Machine
end

section
/-! PROOFS. The expiry of a pair's window (O37): the window stays closed and the pair withdrawn through all that follows, the tasks that move, the
measures of R220, and the safe states and stops where no pair is left. -/

namespace Sys2Proof.Machine

/-- A window is closed, and a pair is withdrawn. Windows open only as a bridge enters RUN or as a cause begins, of which the reactions below do
neither. -/
structure Retired (win : Fin 16) (pr : PairId) (s : State) : Prop where
  shut : s.clove.windows[win].opened = none
  out : s.pairs[pr].state = .withdrawn

namespace Retired

variable {win : Fin 16} {pr : PairId} {s : State}

/-! Rules -/

/-- A change of anything but the windows and the pairs. -/
theorem change {pe no fc pa io tr st me ar sm te bo br gr dr co pl pw di se ne ti ca} {cl : Clove} (hw : cl.windows = s.clove.windows)
    (h : Retired win pr s) :
    Retired win pr { s with pending := pe, now := no, freeCount := fc, par := pa, io := io, transfer := tr, st := st, mem := me, arb := ar,
                            streams := sm, test := te, boot := bo, br := br, gr := gr, drive := dr, cont := co, clove := cl, place := pl, pwr := pw,
                            die := di, sense := se, net := ne, time := ti, can := ca } :=
  ⟨(congrArg (fun v : Vector Window 16 => v[win].opened) hw).trans h.shut, h.out⟩

theorem frame {pe no fc pa io tr st me ar sm te bo br gr dr co pl pw di se ne ti ca} (h : Retired win pr s) :
    Retired win pr { s with pending := pe, now := no, freeCount := fc, par := pa, io := io, transfer := tr, st := st, mem := me, arb := ar,
                            streams := sm, test := te, boot := bo, br := br, gr := gr, drive := dr, cont := co, place := pl, pwr := pw,
                            die := di, sense := se, net := ne, time := ti, can := ca } := .change rfl h

/-- A report. -/
theorem quiet {u : State} (hq : u.silent = s.silent) (h : Retired win pr s) : Retired win pr u :=
  ⟨by rw [silent_eq_clove hq]; exact h.shut, by rw [silent_eq_pairs hq]; exact h.out⟩

theorem ite {c : Prop} [Decidable c] {x y : State} (hx : Retired win pr x) (hy : Retired win pr y) : Retired win pr (if c then x else y) := by
  split
  · exact hx
  · exact hy

theorem onlyIf {c : Bool} {f : State → State} (hf : ∀ {u}, Retired win pr u → Retired win pr (f u)) (h : Retired win pr s) :
    Retired win pr (onlyIf c f s) := .ite (hf h) h

theorem foldl {α : Type} {l : List α} {f : State → α → State} (hf : ∀ {u x}, Retired win pr u → Retired win pr (f u x)) (h : Retired win pr s) :
    Retired win pr (l.foldl f s) := by
  induction l generalizing s with
  | nil => exact h
  | cons x t ih => exact ih (hf h)

theorem forBr {l f} (hf : ∀ {b u}, Retired win pr u → Retired win pr (f b u)) (h : Retired win pr s) : Retired win pr (forBr l f s) := .foldl hf h

theorem forGr {l f} (hf : ∀ {g u}, Retired win pr u → Retired win pr (f g u)) (h : Retired win pr s) : Retired win pr (forGr l f s) := .foldl hf h

theorem modBr {b f} (h : Retired win pr s) : Retired win pr (modBr b f s) := .frame h
theorem modGr {g f} (h : Retired win pr s) : Retired win pr (modGr g f s) := .frame h
theorem modPos {q f} (h : Retired win pr s) : Retired win pr (modPos q f s) := .modBr h

/-- An update of a window that does not open it. -/
theorem modWin {w f} (hf : ∀ x : Window, x.opened = none → (f x).opened = none) (h : Retired win pr s) : Retired win pr (modWin w f s) := by
  refine ⟨?_, h.out⟩
  by_cases hw : win = w
  · subst hw
    exact (congrArg Window.opened (Vector.getElem_set_self win.2)).trans (hf _ h.shut)
  · exact (congrArg Window.opened (Vector.getElem_set_ne w.2 win.2 fun e => hw (Fin.ext e.symm))).trans h.shut

theorem modOut {q f} (h : Retired win pr s) : Retired win pr (modOut q f s) := .frame h
theorem modStream {k f} (h : Retired win pr s) : Retired win pr (modStream k f s) := .frame h

/-! Reports -/

theorem bump {i sub} (h : Retired win pr s) : Retired win pr (bump i sub s) := .frame h
theorem peak {i sub v} (h : Retired win pr s) : Retired win pr (peak i sub v s) := .frame h
theorem pushEntry {q e} (h : Retired win pr s) : Retired win pr (pushEntry q e s) := .quiet (silent_pushEntry ..) h
theorem raise {code level i x} (h : Retired win pr s) : Retired win pr (raise code level i x s) := .quiet (silent_raise ..) h
theorem raiseFirst {code level i x k} (h : Retired win pr s) : Retired win pr (raiseFirst code level i x k s) := .quiet (silent_raiseFirst ..) h
theorem raise4 {code x} (h : Retired win pr s) : Retired win pr (raise4 code x s) := .raise h
theorem raiseB {code b x} (h : Retired win pr s) : Retired win pr (raiseB code b x s) := .raise h
theorem raiseG {code g x} (h : Retired win pr s) : Retired win pr (raiseG code g x s) := .raise h
theorem complete {r n ws} (h : Retired win pr s) : Retired win pr (complete r n ws s) := .quiet (silent_complete ..) h
theorem restartCan {old standby c} (h : Retired win pr s) : Retired win pr (restartCan old standby c s) := .quiet (silent_restartCan ..) h

theorem drainRing {q k n} (h : Retired win pr s) : Retired win pr (drainRing q k n s) := by
  induction n generalizing s with
  | zero => exact h
  | succ n ih =>
    unfold Machine.drainRing
    extract_lets
    split
    · exact .ite (ih (.modStream (.modOut h))) h
    · exact h

theorem discardOldest {k need n} (h : Retired win pr s) : Retired win pr (discardOldest k need n s) := by
  induction n generalizing s with
  | zero => exact h
  | succ n ih =>
    unfold Machine.discardOldest
    extract_lets
    split
    · exact h
    · split
      · exact h
      · exact ih (.drainRing (.bump (.onlyIf .modStream (.modOut h))))

theorem toRing {k p} (h : Retired win pr s) : Retired win pr (toRing k p s) := .peak (.bump (.modStream (.pushEntry (.modOut h))))

theorem enqueuePacket {k p} (h : Retired win pr s) : Retired win pr (enqueuePacket k p s) := by
  unfold Machine.enqueuePacket
  extract_lets _ _ _ _ _ _ s1
  have h1 : Retired win pr s1 := .raiseFirst (.discardOldest (.bump h))
  split
  · exact .pushEntry (.bump h)
  · exact .ite (.toRing (.bump h)) (.ite (.ite (.toRing h1) (.toRing (.modOut h1))) (.raiseFirst (.bump (.modStream (.bump h)))))

theorem closePacket {k truncated final} (h : Retired win pr s) : Retired win pr (closePacket k truncated final s) :=
  .ite h (.enqueuePacket (.onlyIf .bump (.modStream h)))

theorem streamBridgeLost {b} (h : Retired win pr s) : Retired win pr (streamBridgeLost b s) :=
  .foldl (fun h => .ite (.ite (.foldl .complete (.raise4 (.modStream (.closePacket h)))) (.closePacket h)) h) h

/-! Charges, position sources and reaction bounds -/

theorem chargeForced {p b} (h : Retired win pr s) : Retired win pr (chargeForced p b s) := by
  unfold Machine.chargeForced Machine.chargeShort
  exact .modBr (.modBr (.modBr h))

theorem switchSource {g i} (h : Retired win pr s) : Retired win pr (switchSource g i s) :=
  have hput : Retired win pr (Machine.modGr g _ (Machine.bump _ _ (Machine.raiseG _ g _ (Machine.modGr g _ s)))) :=
    .modGr (.bump (.raiseG (.modGr h)))
  .ite (.bump (.raiseG (.modGr hput))) (.ite (.raiseG (.modGr hput)) (.modGr hput))

theorem takeAssigned {old g} (h : Retired win pr s) : Retired win pr (takeAssigned old g s) := by
  unfold Machine.takeAssigned
  extract_lets _ _ _ _ s1
  have h1 : Retired win pr s1 := .onlyIf .modGr h
  split
  · exact h1
  · split
    · exact .ite h1 (.switchSource h1)
    · exact .modGr h1

theorem refreshBounds (h : Retired win pr s) : Retired win pr (refreshBounds s) :=
  .forGr (fun h => .ite h (.onlyIf .raise4 (.onlyIf .raise (.change rfl h)))) (.forBr (fun h => .onlyIf .raise4 (.onlyIf .raise (.change rfl h))) h)

/-! Positions off -/

theorem turnOff {p} (h : Retired win pr s) : Retired win pr (turnOff p s) := by
  unfold Machine.turnOff endHold
  split
  · exact .modPos h
  · exact .modPos (.onlyIf .bump (.modPos h))

theorem noteOff {b} (h : Retired win pr s) : Retired win pr (noteOff b s) := .foldl (fun h => .onlyIf .modBr h) h

theorem turnAllOff {b} (h : Retired win pr s) : Retired win pr (turnAllOff b s) := .foldl .turnOff (.noteOff h)

theorem settlePd7 (h : Retired win pr s) : Retired win pr (settlePd7 s) := .frame (.onlyIf .frame h)

/-- Only the time that a window has left is restored. -/
theorem restoreWindows (h : Retired win pr s) : Retired win pr (restoreWindows s) := by
  refine ⟨?_, h.out⟩
  have heach (c : Bool) (n : Nat) (x : Window) : (if c then { x with remaining := n } else x).opened = x.opened := by cases c <;> rfl
  unfold Machine.restoreWindows
  rw [Fin.getElem_fin, Vector.getElem_ofFn]
  exact (heach ..).trans h.shut

theorem stopChop (h : Retired win pr s) : Retired win pr (stopChop s) := by
  unfold Machine.stopChop
  split
  · exact h
  · extract_lets
    split
    · exact .frame h
    · exact .forBr (fun h => .foldl (fun k => .modPos (.turnOff k)) h) (.frame h)

/-! The drive follows -/

theorem setDrive {d} (h : Retired win pr s) : Retired win pr (setDrive d s) := by
  unfold Machine.setDrive
  split
  · exact h
  · extract_lets _ _ s1 _ _ _ s2
    have h1 : Retired win pr s1 := .onlyIf .stopChop h
    have h2 : Retired win pr s2 := .frame h1
    exact .settlePd7 (.refreshBounds (.restoreWindows (.forGr .takeAssigned (.restartCan (.restartCan h2)))))

theorem settleDrive (h : Retired win pr s) : Retired win pr (settleDrive s) := by
  unfold Machine.settleDrive
  split
  case h_6 => exact .onlyIf .setDrive h
  case h_7 => exact h
  all_goals exact .setDrive h

theorem startOutcome {b cause} (h : Retired win pr s) : Retired win pr (startOutcome b cause s) := .foldl .complete (.frame h)

theorem applyBrakeOf {g} (h : Retired win pr s) : Retired win pr (applyBrakeOf g s) := by
  refine .onlyIf (fun {u} hu => ?_) h
  unfold applyBrake
  split
  · exact hu
  · exact .ite (.bump (.raiseG (.change rfl hu))) hu

theorem closeWindow {w} (h : Retired win pr s) : Retired win pr (closeWindow w s) := by
  refine .ite ?_ h
  unfold raiseWindow
  split
  · exact .raiseG (.modWin (fun _ _ => rfl) h)
  · exact .raise4 (.modWin (fun _ _ => rfl) h)

theorem settleGroup {g} (h : Retired win pr s) : Retired win pr (settleGroup g s) := by
  unfold Machine.settleGroup
  extract_lets _ _ _ _ _ _ s2
  have h2 : Retired win pr s2 := .onlyIf .modGr (.onlyIf (fun h => .closeWindow (.raiseG (.modGr h))) h)
  exact .ite h2 (.restoreWindows (.modWin (fun _ hx => hx) h2))

/-! Identification, and a group that stops -/

theorem setAtlasState {g c} (h : Retired win pr s) : Retired win pr (setAtlasState g c s) := .ite h (.raiseG (.modGr h))

theorem abortIdent {g} (h : Retired win pr s) : Retired win pr (abortIdent g s) := by
  unfold Machine.abortIdent
  extract_lets _
  split
  · exact h
  · extract_lets _ s2 s3
    have h2 : Retired win pr s2 := .modGr (.onlyIf (fun h => .forBr .modBr h) h)
    have h3 : Retired win pr s3 := .setAtlasState (.frame h2)
    split
    · exact .complete h3
    · exact h3

theorem takeSelection {g} (h : Retired win pr s) : Retired win pr (takeSelection g s) := by
  unfold Machine.takeSelection
  split
  · exact h
  · exact .foldl .complete (.raiseG (.modGr h))

theorem groupOut {g} (h : Retired win pr s) : Retired win pr (groupOut g s) :=
  have hnote {n u} (hu : Retired win pr u) : Retired win pr (noteSs1 g n u) := .foldl .complete (.frame (.frame hu))
  .ite h (.abortIdent (.applyBrakeOf (.foldl .complete (.onlyIf hnote (.takeSelection (.modGr (.foldl .raiseG h)))))))

/-! A bridge that changes its state -/

theorem latchPos {p} (h : Retired win pr s) : Retired win pr (latchPos p s) := .ite h (.raise (.ite h (.bump (.modPos (.turnOff h)))))

theorem loseSplit {b} (h : Retired win pr s) : Retired win pr (loseSplit b s) := by
  have hunlatch {g u} (hu : Retired win pr u) : Retired win pr (unlatchTorque g u) := by
    unfold unlatchTorque
    split
    · exact hu
    · exact .ite (.complete (.modGr hu)) (.modGr hu)
  unfold Machine.loseSplit
  split
  · exact h
  · split
    · exact .ite (hunlatch (.modGr h)) h
    · exact h

theorem leaveRun {b} (h : Retired win pr s) : Retired win pr (leaveRun b s) :=
  .streamBridgeLost (.modBr (.foldl (fun h => .ite (.latchPos h) h) (.loseSplit h)))

theorem groupStandbyEntry {g} (h : Retired win pr s) : Retired win pr (groupStandbyEntry g s) := by
  unfold Machine.groupStandbyEntry
  split
  · exact h
  · extract_lets _ _ _ _ s1 s2 _ s4
    have h1 : Retired win pr s1 := .modGr (.takeSelection h)
    have h2 : Retired win pr s2 := by
      unfold s2
      split
      · exact .onlyIf .switchSource h1
      · exact h1
    have h4 : Retired win pr s4 := .onlyIf .setAtlasState (.onlyIf .raiseG h2)
    refine .onlyIf (fun {u} hu => ?_) h4
    unfold startCheckpoint
    exact .modGr (.frame hu)

theorem enterStandby {b} (h : Retired win pr s) : Retired win pr (enterStandby b s) := by
  unfold Machine.enterStandby
  extract_lets _ _ s1 s2
  have h1 : Retired win pr s1 := .frame (.turnAllOff (.modBr (.modBr (.modBr h))))
  have h2 : Retired win pr s2 := by
    unfold s2
    split
    · exact .groupStandbyEntry h1
    · exact h1
  exact .restoreWindows h2

theorem settleBridge {b} (h : Retired win pr s) : Retired win pr (settleBridge b s) := by
  unfold Machine.settleBridge
  extract_lets s1
  have h1 : Retired win pr s1 := by
    unfold s1
    split
    · exact .settleGroup (.groupOut h)
    · exact h
  exact .settleDrive (.foldl .complete (.frame h1))

theorem bridgeTo {st b} (h : Retired win pr s) : Retired win pr (bridgeTo st b s) :=
  .ite h (.settleBridge (.onlyIf .enterStandby (.onlyIf .leaveRun (.modBr h))))

theorem abortStart {b cause} (h : Retired win pr s) : Retired win pr (abortStart b cause s) := by
  unfold Machine.abortStart
  split
  · extract_lets _ s1 s2
    have h1 : Retired win pr s1 := .raiseB (.modBr h)
    have h2 : Retired win pr s2 := by
      unfold s2
      split
      · exact .bump h1
      · exact h1
    exact .startOutcome h2
  · exact h

theorem writeRecord {event level index kind} (h : Retired win pr s) : Retired win pr (writeRecord event level index kind s) := by
  have hlost : Retired win pr (recordLost s) := by
    unfold recordLost
    split
    · exact .ite h (.raise4 h)
    · exact h
  exact .frame hlost

theorem snapshotFault {src level b} (h : Retired win pr s) : Retired win pr (snapshotFault src level b s) := .bump (.raise4 (.writeRecord h))

theorem forceOutputs {p b} (h : Retired win pr s) : Retired win pr (forceOutputs p b s) :=
  .foldl (fun h => .modPos (.ite h (.turnOff h))) (.onlyIf .noteOff h)

theorem ascSpeed {b} (h : Retired win pr s) : Retired win pr (ascSpeed b s) := by
  unfold Machine.ascSpeed
  split
  · exact .ite (.ite h (.onlyIf .raiseG (.bump (.change rfl h)))) h
  · exact h

/-! Discharge and contactors -/

theorem failDischarge (h : Retired win pr s) : Retired win pr (failDischarge s) := by
  unfold Machine.failDischarge
  extract_lets _ _ _ _ _ _ _ s3
  have h3 : Retired win pr s3 := .foldl .complete (.bump (.raise4 (.frame (.stopChop h))))
  exact .ite (.frame (.setDrive (.writeRecord h3))) (.setDrive h3)

theorem startDischarge (h : Retired win pr s) : Retired win pr (startDischarge s) := by
  have hruns {winding u} (hu : Retired win pr u) : Retired win pr (runDischarge winding u) := by
    unfold runDischarge
    split
    · split
      · exact .failDischarge hu
      · exact .bump (.raise4 (.frame hu))
    · exact .bump (.raise4 (.frame hu))
  exact .ite h (.ite (.ite h (.bump (.raise4 (.frame h)))) (hruns (.onlyIf .setDrive (.frame h))))

theorem settleDischarge (h : Retired win pr s) : Retired win pr (settleDischarge s) := by
  unfold Machine.settleDischarge
  split
  · exact h
  · split
    · exact .startDischarge h
    · split
      · split
        · exact .setDrive h
        · exact .setDrive h
        · exact h
      · exact h

theorem openCoil {c} (h : Retired win pr s) : Retired win pr (openCoil c s) := .onlyIf .raise4 (.ite h (.frame h))

theorem openContactors {noWait after} (h : Retired win pr s) : Retired win pr (openContactors noWait after s) := by
  unfold Machine.openContactors
  extract_lets _ _ _ _ s2 _ s3
  have h2 : Retired win pr s2 := .frame (.openCoil (.frame h))
  have h3 : Retired win pr s3 := .openCoil h2
  exact .ite h2 (.ite (.frame h2) (.ite (.frame h3) (.ite (.startDischarge (.frame h3)) (.frame h3))))

/-! Forcing, and the release of a forcing -/

theorem setPattern {p b} (h : Retired win pr s) : Retired win pr (setPattern p b s) := by
  unfold Machine.setPattern
  extract_lets _ _ _ s2 _ _ _ s6 s7
  have h2 : Retired win pr s2 := .onlyIf .turnAllOff (.onlyIf .chargeForced h)
  have h6 : Retired win pr s6 := .onlyIf .ascSpeed (.modBr (.forceOutputs (.modBr h2)))
  have h7 : Retired win pr s7 := .ite h6 (.bridgeTo h6)
  exact .settlePd7 (.ite (.ite (.bump (.raise4 (.frame (.stopChop h7)))) h7) (.onlyIf .settleDischarge h7))

theorem changePattern {p b} (h : Retired win pr s) : Retired win pr (changePattern p b s) := .ite h (.raise (.setPattern h))

theorem reacqBroken {g} (h : Retired win pr s) : Retired win pr (reacqBroken g s) := by
  have hfails {n} : Retired win pr (reacqFailed g n s) :=
    have h1 : Retired win pr (Machine.bump _ 0x0B (Machine.raiseG 0x6034 g _ (Machine.modGr g _ s))) := .bump (.raiseG (.modGr h))
    .ite (.forBr (fun h => .bridgeTo (.changePattern (.modBr h))) (.raiseG h1)) (.modGr h1)
  exact .ite h hfails

theorem latchForce {src p level b} (h : Retired win pr s) : Retired win pr (latchForce src p level b s) := by
  unfold Machine.latchForce
  extract_lets _ s1 _ s3 _ s5 _ s7
  have h1 : Retired win pr s1 := .modBr h
  have h3 : Retired win pr s3 := by
    unfold s3
    split
    · exact .onlyIf .applyBrakeOf (.frame h1)
    · exact .frame h1
  have h5 : Retired win pr s5 := by
    unfold s5
    split
    · exact .onlyIf .reacqBroken (.modBr h3)
    · exact .modBr h3
  have h7 : Retired win pr s7 := .onlyIf .modBr (.onlyIf .abortStart h5)
  exact .ite (.ite (.snapshotFault (.raise (.modBr h1))) h1) (.snapshotFault (.raise (.onlyIf .setPattern h7)))

theorem dropForce {b} (h : Retired win pr s) : Retired win pr (dropForce b s) := .ite h (.raise (.modBr (.turnAllOff (.modBr h))))

theorem toRest {b} (h : Retired win pr s) : Retired win pr (toRest b s) :=
  have hoff : Retired win pr (Machine.turnAllOff b (Machine.dropForce b s)) := .turnAllOff (.dropForce h)
  .ite (.settleBridge (.bridgeTo (.modBr (.onlyIf .latchForce h)))) (.settleDischarge (.ite (.settleBridge (.enterStandby hoff)) (.bridgeTo hoff)))

theorem safeBridge {src level b} (h : Retired win pr s) : Retired win pr (safeBridge src level b s) := by
  have hforced {p} : Retired win pr (Machine.latchForce src p level b s) := .latchForce h
  unfold Machine.safeBridge forceBridge identBroken
  split
  · exact .ite (.forBr .toRest (.abortIdent hforced)) hforced
  · exact hforced

theorem safeRequest {src level b} (h : Retired win pr s) : Retired win pr (safeRequest src level b s) := by
  unfold Machine.safeRequest endCause
  exact .modBr (.safeBridge h)

/-! The reactions (R7, R276) -/

theorem driveSafe {sto} (h : Retired win pr s) : Retired win pr (driveSafe sto s) := by
  have harm : Retired win pr (endArm stAborted s) := by
    unfold endArm
    dsimp only
    split
    · exact .complete (.frame h)
    · exact .frame h
  unfold Machine.driveSafe
  split
  · exact h
  · exact h
  · exact .settleDrive h
  · exact .ite (.setDrive harm) (.openContactors (.setDrive harm))

theorem ss1Source {g src} (h : Retired win pr s) : Retired win pr (ss1Source g src s) :=
  have haborts {u} (hu : Retired win pr u) : Retired win pr (abortGroupStarts g 5 u) := .forBr (fun h => .ite (.toRest (.abortStart h)) h) hu
  .ite h (.ite (haborts (.raiseG h)) (.ite (.raiseG h) (.onlyIf (fun h => .forBr .toRest h) (.modGr h))))

/-! The tasks move (R31, R221) -/

theorem raiseMove {task n src dst planned} (h : Retired win pr s) : Retired win pr (raiseMove task n src dst planned s) := .bump (.raise4 h)

theorem movePlacement {planned} (h : Retired win pr s) : Retired win pr (movePlacement planned s) := by
  have hfinish {u} (hu : Retired win pr u) : Retired win pr (finishPlacement u) := by
    unfold finishPlacement
    split
    · exact hu
    · exact .ite (.frame hu) (.raiseMove (.frame (.frame hu)))
  exact .ite (.frame h) (hfinish (.frame h))

theorem moveStep {planned b q} (h : Retired win pr s) : Retired win pr (moveStep planned b q s) := .ite h (.modBr (.raiseMove h))

theorem moveWatch {planned b} (h : Retired win pr s) : Retired win pr (moveWatch planned b s) :=
  .ite (.ite h (.modBr (.raiseMove h))) (.modBr (.raiseMove (.ite h (.modBr (.raiseMove h)))))

theorem evacuate {q} (h : Retired win pr s) : Retired win pr (evacuate q s) :=
  .forBr (fun h => .ite (.moveWatch h) h) (.forBr (fun h => .ite (.moveStep h) h) (.movePlacement h))

/-! The measures that follow a pair (R220, R310, R330) -/

theorem setDecim {q d} (h : Retired win pr s) : Retired win pr (setDecim q d s) := .ite h (.bump (.raise4 (.frame h)))

theorem setPairCeiling {c f} (h : Retired win pr s) : Retired win pr (setPairCeiling c f s) :=
  .ite (.frame h) (.onlyIf .bump (.raise4 (.frame h)))

theorem settleLoad {q} (h : Retired win pr s) : Retired win pr (settleLoad q s) := by
  unfold Machine.settleLoad
  extract_lets _ _ _ s1
  have h1 : Retired win pr s1 := .setDecim h
  split
  · exact .ite (.setDecim h1) (.ite (.setDecim h1) (.setPairCeiling (.setDecim h1)))
  · exact .ite h1 (.ite (.ite (.setDecim h1) h1) (.ite (.ite (.setDecim h1) h1) h1))

theorem settleLoads (h : Retired win pr s) : Retired win pr (settleLoads s) :=
  .ite (.setPairCeiling (.frame h)) (.settleLoad (.settleLoad (.frame h)))

theorem settleRating (h : Retired win pr s) : Retired win pr (settleRating s) := .ite h (.onlyIf .raise4 (.frame h))

theorem settleNoPair (h : Retired win pr s) : Retired win pr (settleNoPair s) := .ite h (.driveSafe (.forBr .safeRequest h))

theorem settlePairs (h : Retired win pr s) : Retired win pr (settlePairs s) := .refreshBounds (.settleNoPair (.settleRating (.settleLoads h)))

end Retired

/-! The expiry (R293, R318) -/

variable {win : Fin 16} {pr : PairId} {s : State}

/-- A pair that is withdrawn beside its closed window. -/
theorem withdrawPair_retires (h : s.clove.windows[win].opened = none) : Retired win pr (withdrawPair pr s) := by
  unfold withdrawPair
  split
  · next hout => exact ⟨h, hout⟩
  · exact .settlePairs (.evacuate (.raise4 ⟨h, congrArg Pair.state (Vector.getElem_set_self pr.2)⟩))

/-- The expiry of a pair's window withdraws the pair, and stops every group where the other pair is not in lockstep. -/
theorem windowAction_retires (hpair : win.val = pr.val) (h : s.clove.windows[win].opened = none) : Retired win pr (windowAction win s) := by
  have hlow : win.val < 2 := hpair ▸ pr.2
  obtain rfl : pr = ⟨win.val, hlow⟩ := Fin.ext hpair.symm
  have hdrive : windowGroup win = none := dif_neg fun hw => absurd hlow (Nat.not_lt.2 hw.1)
  unfold windowAction
  rw [hdrive]
  dsimp only
  rw [dif_pos hlow]
  exact .ite (withdrawPair_retires h) (.forGr .ss1Source (withdrawPair_retires h))

/-- What an expiry does before its action: the window is closed, with nothing left of its time (R292). -/
theorem expireWindow_eq (win : Fin 16) (s : State) :
    ∃ u, u.silent = (modWin win (fun x => { x with opened := none, remaining := 0 }) s).silent ∧
      expireWindow false win s = windowAction win u := by
  unfold expireWindow
  extract_lets s1 s2 s3 s4
  have hraise {code ws} (v : State) : (raiseWindow code win ws v).silent = v.silent := by
    unfold raiseWindow
    split
    · exact silent_raiseG ..
    · exact silent_raise4 ..
  have h3 : s3.silent = s1.silent := hraise s1
  refine ⟨s4, ?_, rfl⟩
  unfold s4
  split
  · exact (silent_bump ..).trans h3
  · exact (silent_bump ..).trans h3

/-- SUMAC_WINDOW_EXPIRY of an open window is its closing at the end of its time, with its action. -/
theorem windowExpiry_eq {t : Nat} (h : s.clove.windows[win].opened = some t) :
    ∃ u, u.silent = (modWin win (fun x => { x with opened := none, remaining := 0 }) (setNow (t + s.clove.windows[win].remaining) s)).silent ∧
      windowExpiry win s = windowAction win u := by
  unfold windowExpiry
  rw [h]
  exact expireWindow_eq ..

theorem windowExpiry_retires (hpair : win.val = pr.val) (h : s.clove.windows[win].opened.isSome = true) : Retired win pr (windowExpiry win s) := by
  obtain ⟨t, ht⟩ := Option.isSome_iff_exists.1 h
  obtain ⟨u, hu, heq⟩ := windowExpiry_eq ht
  rw [heq]
  refine windowAction_retires hpair ?_
  rw [silent_eq_clove hu]
  exact congrArg Window.opened (Vector.getElem_set_self win.2)

/-- The expiry of the time domain window leaves the partner set. -/
theorem windowExpiry_leaves {t : Nat} (h : s.clove.windows[(15 : Fin 16)].opened = some t) :
    (windowExpiry 15 s).silent = (leavePartners (modWin 15 (fun x => { x with opened := none, remaining := 0 })
      (setNow (t + s.clove.windows[(15 : Fin 16)].remaining) s))).silent := by
  obtain ⟨u, hu, heq⟩ := windowExpiry_eq h
  rw [heq]
  exact congrArg leavePartners hu

end Sys2Proof.Machine
end

section
/-! PROOFS. The torque monitor, the brake and Clove's power check, with the ends of the windows above (O37). -/

namespace Sys2Proof.Machine

variable {s : State} {b : BridgeId} {g : GroupId}

/-! The torque monitor (R286) -/

/-- A run within its budget on fresh samples of three currents, with no injection to come, is judged as R286 has it. -/
theorem monitorRun_judges (hgroup : s.groupOf b = some g) (hrun : s.br[b].state = .run) (hcan : s.canRun s.br[b].monPair = true)
    (hfresh : s.br[b].meas.stale = false) (hmode : s.br[b].meas.mode ≠ 2) (hinject : s.test.inject = []) :
    monitorRun b false false s =
      if s.runFails b g then failRun b g s else modCtl b (fun y => { y with monFails := 0, monStale := 0 }) s := by
  have hnone : s.injects (0x0F01 + b.val) = false := by rw [State.injects, hinject]; rfl
  unfold monitorRun
  rw [hgroup]
  dsimp only
  rw [hrun, hcan, hfresh, hnone, beq_eq_false_iff_ne.2 hmode]
  simp

/-- A failing run below the count of 0x8070.05 is only counted. -/
theorem failRun_counts (hfew : s.br[b].ctl.monFails + 1 < s.actN 0x8070 5) :
    failRun b g s = modCtl b (fun x => { x with monFails := s.br[b].ctl.monFails + 1, monStale := 0 }) s :=
  if_neg (Nat.not_le.2 hfew)

/-! The hold of the brake's group (R290) -/

/-- A bridge whose ramp starts at tick t, if it ramps. -/
def Bridge.rampsFrom (t : Nat) (x : Bridge) : Bridge :=
  if x.start.phase = 6 then { x with start := { x.start with since := t } } else x

theorem Bridge.rampsFrom_rampsFrom (t : Nat) (x : Bridge) : (x.rampsFrom t).rampsFrom t = x.rampsFrom t := by
  by_cases h : x.start.phase = 6
  · simp [Bridge.rampsFrom, h]
  · simp [Bridge.rampsFrom, h]

theorem restartRamp_eq (b : BridgeId) (s : State) :
    onlyIf (s.br[b].start.phase == 6) (setPhase b 6) s = modBr b (Bridge.rampsFrom s.now) s := by
  unfold modBr Bridge.rampsFrom
  by_cases h : s.br[b].start.phase = 6
  · rw [if_pos h, beq_iff_eq.2 h, onlyIf_true, ← h]
    rfl
  · rw [if_neg h, beq_eq_false_iff_ne.2 h, onlyIf_false, Fin.getElem_fin, Vector.set_getElem_self]

/-- The ramps of a list of bridges start now. -/
theorem forBr_restartRamp (l : List BridgeId) (s : State) :
    ∃ v, forBr l (fun b a => onlyIf (a.br[b].start.phase == 6) (setPhase b 6) a) s = { s with br := v } ∧
      ∀ c : BridgeId, v[c] = if c ∈ l then (s.br[c]).rampsFrom s.now else s.br[c] := by
  induction l generalizing s with
  | nil => exact ⟨s.br, rfl, fun _ => rfl⟩
  | cons b l ih =>
    obtain ⟨v, heq, hv⟩ := ih (modBr b (Bridge.rampsFrom s.now) s)
    refine ⟨v, ?_, fun c => ?_⟩
    · rw [forBr, List.foldl_cons, restartRamp_eq]
      exact heq
    · rw [hv c]
      by_cases hc : c = b
      · subst hc
        rw [br_modBr_self, if_pos List.mem_cons_self, modBr_now, Bridge.rampsFrom_rampsFrom, ite_self]
      · rw [br_modBr_ne _ _ hc, modBr_now]
        simp only [List.mem_cons, hc, false_or]

/-- The hold ends with the ramps of the group's bridges starting now. -/
theorem endRampHold_releases (hbrake : s.brakeGroup = some g) (hhold : s.gr[g].rampHold = true) :
    ∃ v, endRampHold s = { s with br := v, gr := s.gr.set g { s.gr[g] with rampHold := false } } ∧
      ∀ c : BridgeId, v[c] = if c ∈ s.bridgesOf g then (s.br[c]).rampsFrom s.now else s.br[c] := by
  obtain ⟨v, heq, hv⟩ := forBr_restartRamp (s.bridgesOf g) (modGr g (fun x => { x with rampHold := false }) s)
  refine ⟨v, ?_, hv⟩
  unfold endRampHold
  rw [hbrake]
  dsimp only
  rw [hhold, Bool.not_true, if_neg Bool.false_ne_true]
  exact heq

theorem endRampHold_idle (h : ∀ g : GroupId, s.gr[g].rampHold = false) : endRampHold s = s := by
  unfold endRampHold
  split
  · rfl
  · next g _ => rw [h g]; rfl

/-! The brake's feedback (R289, R290) -/

/-- A feedback that changes, with its input valid and no switch test failing, is taken with its time, and its filter keeps the level before. -/
theorem brakeFeedback_taken {released : Bool} (hhold : ∀ g : GroupId, s.gr[g].rampHold = false)
    (hvalid : s.sense.inputs[digitalInput 3].valid = true) (hnew : s.clove.brakeFb ≠ released) :
    brakeFeedback released false false s = { s with
      clove := { s.clove with brakeFb := released, brakeFbAt := s.now }
      sense := { s.sense with digital := s.sense.digital.set 3 (s.digitalNow 3 s.now) } } := by
  unfold brakeFeedback
  extract_lets changed u v w
  have hchanged : changed = true := bne_iff_ne.2 hnew
  have hu : u = { keepDigital 3 s with clove := { s.clove with brakeFb := released, brakeFbAt := s.now } } := by
    simp only [u, hchanged, onlyIf_true]
    rfl
  have hv : v = u := digitalAgrees_of_valid (by rw [hu]; exact hvalid)
  have hw : w = v := by
    cases released
    · rfl
    · exact endRampHold_idle (by rw [hv, hu]; exact hhold)
  rw [Bool.or_self, Bool.not_false, Bool.or_true, if_pos rfl, hw, hv, hu]
  rfl

/-- An applied brake that shows released latches its fault, with reports (R290). -/
theorem brakeTimeout_latches (hbrake : s.brakeGroup = some g) (happlied : s.clove.brakeOn = false) (hshows : s.clove.brakeFb = true) :
    (brakeTimeout s).silent = { s.silent with clove := { s.clove with brakeLatch := true } } := by
  unfold brakeTimeout
  rw [hbrake]
  dsimp only
  rw [happlied, hshows, if_neg (by decide)]
  simp only [bump_clove, raiseG_clove, Bool.false_eq_true, if_false]
  exact (silent_bump ..).trans (silent_raiseG ..)

/-! Clove's power check (R288) -/

/-- The tick from which the power has been above its bound, where a check at tick t finds it so. -/
def State.excessSince (s : State) (power : Int) (t : Nat) : Option Nat :=
  since (decide (s.powerBound (decide (power < 0)) < ((power.natAbs : Nat) : Rat))) s.clove.powerOver (max s.now t)

/-- An excess that has not lasted 10 ms is only timed. -/
theorem powerCheck_times {power : Int} {t : Nat}
    (h : (s.excessSince power t).any (fun u => decide (u + 10 * ticksPerMs ≤ max s.now t)) = false) :
    powerCheck power t s = { s with now := max s.now t, clove := { s.clove with powerOver := s.excessSince power t } } := by
  unfold powerCheck
  extract_lets u high from0 trips
  have htrips : trips = false := h
  have hfrom : (if trips = true then none else from0) = s.excessSince power t := by
    rw [htrips]
    rfl
  rw [if_neg (by rw [htrips]; decide)]
  exact congrArg (fun x => { s with now := max s.now t, clove := { s.clove with powerOver := x } }) hfrom

/-- A power within the bound ends the excess. -/
theorem powerCheck_within {power : Int} (t : Nat) (h : ((power.natAbs : Nat) : Rat) ≤ s.powerBound (decide (power < 0))) :
    powerCheck power t s = { s with now := max s.now t, clove := { s.clove with powerOver := none } } := by
  have hnone : s.excessSince power t = none := by
    unfold State.excessSince
    rw [decide_eq_false (not_lt.2 h)]
    rfl
  have htimes := powerCheck_times (s := s) (power := power) (t := t) (by rw [hnone]; rfl)
  rwa [hnone] at htimes

/-- The first power above the bound begins the excess, which has not lasted yet. -/
theorem powerCheck_begins {power : Int} (t : Nat) (h : s.powerBound (decide (power < 0)) < ((power.natAbs : Nat) : Rat))
    (hfirst : s.clove.powerOver = none) :
    powerCheck power t s = { s with now := max s.now t, clove := { s.clove with powerOver := some (max s.now t) } } := by
  have hsome : s.excessSince power t = some (max s.now t) := by
    unfold State.excessSince
    rw [decide_eq_true h, hfirst]
    rfl
  have hsoon : ¬ max s.now t + 10 * ticksPerMs ≤ max s.now t := by
    unfold ticksPerMs
    omega
  have htimes := powerCheck_times (s := s) (power := power) (t := t) (by rw [hsome, Option.any_some, decide_eq_false hsoon])
  rwa [hsome] at htimes

/-- Settles O37: a passing or counted run, the brake's group and feedback, the ends of the time domain window and of a pair's window, and the
timing of an excess of power. -/
theorem monitorBrakeAndWindowRows : Obligations.MonitorBrakeAndWindowRows := by
  refine fun s => ⟨fun b g hgroup hrun hcan hfresh hmode hinject hcores => ?monitor, fun g hbrake hhold => ?release,
    fun released hhold hvalid hnew => ⟨_, congrArg Host.Outcome.next (brakeFeedback_taken hhold hvalid hnew), rfl⟩,
    fun g hbrake happlied hshows => ⟨_, rfl, brakeTimeout_latches hbrake happlied hshows⟩,
    fun t ht => ⟨_, rfl, windowExpiry_leaves ht⟩, fun w p hpair hopen => ?pair,
    fun power t => ⟨fun hwithin => ?within, fun habove hfirst => ?first⟩⟩
  case monitor =>
    have hexec : exec (.torqueMonitorRun b false false) s = .next (monitorRun b false false s) :=
      congrArg (fun on => Host.Outcome.next (onlyIf on (monitorRun b false false) s)) hcores
    rw [hexec, monitorRun_judges hgroup hrun hcan hfresh hmode hinject]
    refine ⟨fun hpass => ?_, fun hfail hfew => ?_⟩
    · rw [hpass, if_neg Bool.false_ne_true]
      rfl
    · rw [hfail, if_pos rfl, failRun_counts hfew]
      rfl
  case release =>
    obtain ⟨v, heq, hv⟩ := endRampHold_releases hbrake hhold
    refine ⟨_, congrArg Host.Outcome.next heq, rfl, rfl, fun b => (hv b).trans ?_⟩
    unfold Bridge.rampsFrom
    rw [← ite_and]
  case pair =>
    obtain ⟨hshut, hout⟩ := windowExpiry_retires hpair hopen
    exact ⟨_, rfl, hshut, hout⟩
  case within => exact congrArg Host.Outcome.next (powerCheck_within t hwithin)
  case first => exact congrArg Host.Outcome.next (powerCheck_begins t habove hfirst)

end Sys2Proof.Machine
end

section
/-! PROOFS. The pair commands (O10), the rows of the pairs (O39) and those of Clove (O40), each refuted by a state on which the model runs. -/

namespace Sys2Proof.Machine

/-! PAIR.REJOIN (R326, R328) -/

/-- A tag that is the CMAC of its entry passes under a key that is set (R408). -/
theorem authOk_of_tag {s : State} {code : Nat} {e : CmdEntry} (htag : e.tag = tagOf s.q0Key s.io.session code e) (hkey : s.q0Key ≠ 0) :
    s.authOk code false e = true := by
  rw [State.authOk, decide_eq_true htag, decide_eq_true hkey]
  rfl

theorem withPair_of_operand {e : CmdEntry} {p : PairId} {body : PairId → CmdRef → State → State} {r : CmdRef} {s : State}
    (h : pairOperand (bits 7 0 (e.word 1)) = some p) : withPair e body r s = body p r s := by
  unfold withPair
  rw [h]

/-- A rejoin is refused while a bridge whose thermal model runs on the pair is out of STANDBY (R328). -/
theorem pairRejoin_refused {p : PairId} {b : BridgeId} {r : CmdRef} {s : State} (htherm : s.br[b].thermPair = p)
    (hstate : s.br[b].state ≠ .standby) : pairRejoin p r s = refuse r stState 0 s := by
  have hbusy : (allBr.all fun d => !(decide (s.br[d].pair = p) || decide (s.br[d].monPair = p) || decide (s.br[d].thermPair = p)) ||
      (decide (s.br[d].state = .standby) && !s.starting d)) = false :=
    List.all_eq_false.2 ⟨b, List.mem_finRange b, by
      simp only [decide_eq_true htherm, decide_eq_false hstate, Bool.or_true, Bool.not_true, Bool.false_and, Bool.or_false, Bool.false_eq_true,
        not_false_eq_true]⟩
  unfold pairRejoin
  rw [hbusy]
  simp

/-- CP1 is split, and a Q0 key is set. Bridge 1 is in the active mask, so that its thermal model runs on a core of CP1; its step has returned to
CP2, and its torque monitor with it. It is in LOCKOUT, every other bridge in STANDBY. -/
def thermalModelOnSplit : State :=
  let s := putObj 0xC030 1 5 State.reset
  { s with
    boot := { s.boot with booting := false }
    pwr := { s.pwr with domains := .replicate 8 true, pll := .replicate 3 true }
    drive := { s.drive with state := .lockout }
    place := { s.place with pair := 1, permit := 1, mask := 1 }
    pairs := #v[{ Pair.reset with state := .split, held := false }, { Pair.reset with state := .lockstep, held := false }]
    br := (Vector.ofFn fun b => { Bridge.reset b with pair := 1, monPair := 1, thermPair := 1 }).set 0
      { Bridge.reset 0 with state := .lockout, pair := 1, monPair := 1, thermPair := 0 } }

/-- The words of PAIR.REJOIN of CP1. -/
def rejoinFirst : CmdEntry := { queue := 0, seq := 0, ops := [1], tag := 0 }

/-- The same with its tag. -/
def sealedRejoin : CmdEntry :=
  { rejoinFirst with tag := tagOf thermalModelOnSplit.q0Key thermalModelOnSplit.io.session 0x0306 rejoinFirst }

theorem sealedRejoin_admitted : thermalModelOnSplit.admits sealedRejoin 0x0306 [0] 1 :=
  ⟨List.mem_singleton.2 rfl, rfl, fun _ => authOk_of_tag rfl (by decide +kernel), rfl⟩

/-- PAIR.REJOIN leaves CP1 split: the thermal model of a bridge in LOCKOUT runs on it. -/
theorem execPairRejoin_sealed : exec (.pairRejoin sealedRejoin) thermalModelOnSplit =
    .next (refuse (sealedRejoin.ref 0x0306) stState 0 thermalModelOnSplit) :=
  congrArg Host.Outcome.next ((command_body _ _ _ _ _ _ sealedRejoin_admitted).trans
    ((withPair_of_operand rfl).trans (pairRejoin_refused (p := 0) (b := 0) (by decide +kernel) (by decide +kernel))))

/-- Refutes O10: PAIR.REJOIN is refused also for a bridge of which the pair runs the thermal model alone (R326, R328), and such a bridge need not
be at rest in the statement. -/
theorem not_clearAndPairCommands : ¬ Obligations.ClearAndPairCommands := by
  intro h
  obtain ⟨-, hpairs⟩ := h
  obtain ⟨-, hrejoin⟩ := hpairs sealedRejoin thermalModelOnSplit 0 rfl (by decide +kernel)
  obtain ⟨hrecovers, -⟩ := completes_next execPairRejoin_sealed
    (hrejoin sealedRejoin_admitted (by decide +kernel) rfl (by decide +kernel))
  rw [refuse_pairs] at hrecovers
  exact absurd hrecovers (by decide +kernel)

/-! CACHE_UNCORRECTABLE (R321, R329) -/

/-- A window whose scope has no bridge in RUN does not open (R292). -/
theorem openWindow_of_rest {s : State} {w : Fin 16} (hscope : s.scopeRuns w = false) : openWindow w s = s := by
  unfold openWindow
  simp [hscope]

/-- The window of a pair has the whole drive as its scope. -/
theorem scopeRuns_of_pair (p : PairId) (s : State) : s.scopeRuns ⟨p.val, by omega⟩ = s.anyRun := by
  have hgroup : windowGroup ⟨p.val, by omega⟩ = none := dif_neg fun h => absurd p.isLt (Nat.not_lt.2 h.1)
  unfold State.scopeRuns
  rw [hgroup]

/-- The cause of a pair's window leaves the drive as it is while no bridge is in RUN. -/
theorem beginWindow_drive_of_rest {s : State} {p : PairId} (hrest : s.anyRun = false) : (beginWindow ⟨p.val, by omega⟩ s).drive = s.drive := by
  rw [beginWindow, openWindow_of_rest]
  · rfl
  · rw [scopeRuns_of_pair]
    exact hrest

/-- The shared-cache fallback of the pair that is being split refuses its PAIR.SPLIT, which waits no more (R329). -/
theorem cacheUncorrectable_endsSplit {s : State} {p : PairId} {r : CmdRef} (hstate : s.pairs[p].state = .lockstep) (hrest : s.anyRun = false)
    (hsplit : s.drive.splitRef = some (r, p)) : (cacheUncorrectable p false s).drive.splitRef = none := by
  unfold cacheUncorrectable
  simp only [bump_drive, hstate, hsplit, ne_eq, not_true_eq_false, false_and, reduceCtorEq, decide_false, Bool.or_self, Bool.false_eq_true,
    if_false, if_true]
  rw [beginWindow_drive_of_rest (by simpa [State.anyRun] using hrest)]
  simp

/-- Both pairs are in lockstep with every bridge in STANDBY. A PAIR.SPLIT of CP1, accepted in RUN, waits for the next placement result to move
the last task (R327). -/
def splitWaits : State :=
  { State.reset with
    boot := { State.reset.boot with booting := false }
    pwr := { State.reset.pwr with domains := .replicate 8 true, pll := .replicate 3 true }
    drive := { State.reset.drive with state := .armed, splitRef := some ({ queue := 0, seq := 0, code := 0x0305 }, 0) }
    place := { State.reset.place with permit := 1 }
    pairs := .replicate 2 { Pair.reset with state := .lockstep, held := false } }

/-- Refutes O39: CACHE_UNCORRECTABLE of a pair that is being split also refuses the waiting PAIR.SPLIT (R329), where the statement lets only the
pair and its window change. -/
theorem not_pairFaultRows : ¬ Obligations.PairFaultRows := by
  intro h
  obtain ⟨-, hcache, -⟩ := h splitWaits 0
  have hsame := completes_next (u := cacheUncorrectable 0 false splitWaits) rfl (hcache 0 rfl (by decide +kernel) (by decide +kernel))
  have hwaits : (cacheUncorrectable 0 false splitWaits).drive.splitRef = splitWaits.drive.splitRef :=
    congrArg (fun t => t.drive.splitRef) hsame
  rw [cacheUncorrectable_endsSplit (by decide +kernel) (by decide +kernel) rfl] at hwaits
  cases hwaits

/-! ASC_LEG_FAILURE (R105, R308, R347) -/

/-- Neither side of bridge 1 may short any more, so that its ASC, the last one, ends: PD7 goes off, and the gate charges of every bridge end
(R95, R347). -/
theorem ascLegFailure_clears : ((ascLegFailure 0 lastAsc).br[(1 : BridgeId)].pos[(0 : Fin 6)]).charge = [] := by decide +kernel

/-- Refutes O40: a failed leg that ends the last ASC can take PD7 off, with which the averaged gate charges of the other bridges end too. -/
theorem not_cloveAndDebugRows : ¬ Obligations.CloveAndDebugRows := by
  intro h
  obtain ⟨hrows, -⟩ := h
  obtain ⟨-, -, -, -, -, hleg⟩ := hrows lastAsc
  obtain ⟨-, -, -, -, hothers⟩ := completes_next (u := ascLegFailure 0 lastAsc) rfl
    (hleg 0 0 (by decide) (by decide +kernel) (by decide +kernel) (by decide +kernel))
  have hkept : ((ascLegFailure 0 lastAsc).br[(1 : BridgeId)].pos[(0 : Fin 6)]).charge = [500] := by
    rw [hothers 1 (by decide)]
    decide +kernel
  exact absurd (ascLegFailure_clears.symm.trans hkept) (by decide)

end Sys2Proof.Machine
end

section
/-! PROOFS. Every command runs (O50), a step runs the front command (O1), the counters keep their ceiling (O54), and the default base table (O57). -/

namespace Sys2Proof.Machine

/-- Settles O1: both cases are the equations of `step`. -/
theorem stepRunsTheFrontCommand : Obligations.StepRunsTheFrontCommand := by
  unfold Obligations.StepRunsTheFrontCommand
  refine ⟨fun c rest s => rfl, fun s hempty => ?_⟩
  unfold step
  rw [hempty]

/-- The command of every code runs (R424, R432): a transfer by its phase, an unknown code or phase to its refusal. -/
theorem served_runs (code : Nat) (e : CmdEntry) (s : State) : ∃ t, served code e s = .next t := by
  unfold served
  split
  case h_22 | h_26 | h_32 => split <;> exact ⟨_, rfl⟩
  all_goals exact ⟨_, rfl⟩

/-- COMMAND_DISPATCH answers a state whether or not it finds a command. -/
theorem commandDispatch_runs (s : State) : ∃ t, execCommandDispatch s = .next t := by
  unfold execCommandDispatch
  split
  · exact ⟨_, rfl⟩
  · split
    · exact ⟨_, rfl⟩
    · split
      · exact served_runs _ _ _
      · exact ⟨_, rfl⟩

/-- Settles O50: but for COMMAND_DISPATCH, which runs the command of another row, the meaning of each row is written as a next state. -/
theorem everyCommandRuns : Obligations.EveryCommandRuns := by
  unfold Obligations.EveryCommandRuns
  intro c s
  cases c with
  | commandDispatch => exact commandDispatch_runs s
  | _ => exact ⟨_, rfl⟩

/-- Settles O54: the queue is no part of what the bound of the counters speaks of. -/
theorem stepKeepsCountersBounded : Obligations.StepKeepsCountersBounded := by
  unfold Obligations.StepKeepsCountersBounded
  intro s t hbounded h
  exact (step_follows h).st hbounded

/-- Settles O57. -/
theorem defaultBaseTable : Obligations.DefaultBaseTable := by
  unfold Obligations.DefaultBaseTable
  refine ⟨?_, ?_⟩ <;> decide +kernel

end Sys2Proof.Machine
end

section
/-! PROOFS. COMMAND_DISPATCH (O3), the mailbox and its notifications (O4, O5): what a report on an event queue leaves of the command and completion
queues. -/

namespace Sys2Proof.Machine

/-! What reports leave -/

/-- State s is o after reports on the event queues Q8 and above: the commands that wait or are taken, the entries of the completion queues, the session,
the CAN controllers but for their transmit buffers, the self-test unit but for the injections observed, and the statistics but for the running
counters and the events already first in the epoch, are those of o. -/
structure Reported (o s : State) : Prop where
  silent : s.silent = o.silent
  cmd : s.io.cmd = o.io.cmd
  taken : s.io.taken = o.io.taken
  session : s.io.session = o.io.session
  out : ∀ q : QueueId, q.val < 8 → s.io.out[q] = o.io.out[q]
  can : ∀ c : CanId, s.can[c] = { o.can[c] with tx := s.can[c].tx }
  test : s.test = { o.test with fired := s.test.fired }
  stats : s.st = { o.st with running := s.st.running, firsts := s.st.firsts, saturated := s.st.saturated }

namespace Reported
variable {o s : State}

theorem refl (s : State) : Reported s s := ⟨rfl, rfl, rfl, rfl, fun _ _ => rfl, fun _ => rfl, rfl, rfl⟩

/-- The counters are no part of it, nor what the queues hold beside their commands and completions. -/
theorem frame {io : Io} {st : Stats} (hst : st = { s.st with running := st.running, firsts := st.firsts, saturated := st.saturated })
    (hcmd : io.cmd = s.io.cmd) (htaken : io.taken = s.io.taken) (hsession : io.session = s.io.session)
    (hout : ∀ q : QueueId, q.val < 8 → io.out[q] = s.io.out[q]) (h : Reported o s) : Reported o { s with io := io, st := st } :=
  ⟨h.silent, hcmd.trans h.cmd, htaken.trans h.taken, hsession.trans h.session, fun q hq => (hout q hq).trans (h.out q hq), h.can, h.test, by
    dsimp only
    rw [hst, h.stats]⟩

theorem bump {i sub : Nat} (h : Reported o s) : Reported o (bump i sub s) := .frame rfl rfl rfl rfl (fun _ _ => rfl) h

theorem nextSerial (h : Reported o s) : Reported o (nextSerial s) := .frame rfl rfl rfl rfl (fun _ _ => rfl) h

theorem onlyIf {c : Bool} {f : State → State} (hf : ∀ {u}, Reported o u → Reported o (f u)) (h : Reported o s) : Reported o (onlyIf c f s) := by
  cases c
  · exact h
  · exact hf h

theorem countSent (m : Msg) (h : Reported o s) : Reported o (countSent m s) := by
  unfold Machine.countSent sentOn
  split
  case h_8 | h_9 => exact .onlyIf .bump (.onlyIf .bump h)
  case h_10 | h_11 =>
    split
    · exact .bump h
    · split
      · exact .bump h
      · exact h
  case h_12 | h_13 | h_14 => exact h
  all_goals exact .bump h

theorem send (m : Msg) (h : Reported o s) : Reported o (send m s) := by
  unfold Machine.send
  split
  · exact h
  · exact .countSent m (.frame rfl rfl rfl rfl (fun _ _ => rfl) h)

/-- A frame waits in a transmit buffer. -/
theorem canQueue {c : CanId} {f : CanFrame} {p : Option Nat} (h : Reported o s) : Reported o (canQueue c f p s) := by
  refine ⟨(silent_canQueue c f p s).trans h.silent, h.cmd, h.taken, h.session, h.out, fun d => ?_, h.test, h.stats⟩
  unfold Machine.canQueue modCan
  simp only [Fin.getElem_fin, Vector.getElem_set]
  split
  · next heq =>
    obtain rfl : c = d := Fin.ext heq
    have hc := h.can c
    generalize s.can[c] = x at hc ⊢
    rw [hc]
    rfl
  · exact h.can d

theorem notifyNow (q : QueueId) (h : Reported o s) : Reported o (notifyNow q s) := by
  unfold Machine.notifyNow
  extract_lets io1 s1 c
  have h1 : Reported o s1 := .frame rfl rfl rfl rfl (fun _ _ => rfl) h
  split
  · refine .bump ?_
    split
    · exact .canQueue h1
    · exact .canQueue h1
    · exact .send _ h1
  · exact .bump h1

theorem notifyEntry (q : QueueId) (h : Reported o s) : Reported o (notifyEntry q s) := by
  unfold Machine.notifyEntry
  extract_lets r hold
  split
  · exact .notifyNow q h
  · exact .frame rfl rfl rfl rfl (fun _ _ => rfl) h

/-- An update of an event queue. -/
theorem modOut {q : QueueId} (hq : 8 ≤ q.val) (f : OutQueue → OutQueue) (h : Reported o s) : Reported o (modOut q f s) :=
  .frame rfl rfl rfl rfl (fun k hk => Vector.getElem_set_ne q.2 k.2 (by omega)) h

theorem pushEntry {q : QueueId} (hq : 8 ≤ q.val) (e : Entry) (h : Reported o s) : Reported o (pushEntry q e s) := .notifyEntry q (.modOut hq _ h)

theorem settleLost {q : QueueId} (hq : 8 ≤ q.val) (h : Reported o s) : Reported o (settleLost q s) := by
  unfold Machine.settleLost
  extract_lets x e
  split
  · exact .nextSerial (.pushEntry hq _ (.modOut hq _ h))
  · exact h

theorem enqueueOut {q : QueueId} (hq : 8 ≤ q.val) (e : Entry) (h : Reported o s) : Reported o (enqueueOut q e s) := by
  unfold Machine.enqueueOut
  extract_lets u x
  split
  · exact .pushEntry hq e (.settleLost hq h)
  · exact .bump (.modOut hq _ (.settleLost hq h))

/-- Events go to Q8, Q9 and Q10. -/
theorem eventQueue_ge (code : Nat) : 8 ≤ (eventQueue code).val := by
  unfold eventQueue
  split
  · decide
  · split <;> decide

theorem raise0 {code level index : Nat} {payload : List Int} (h : Reported o s) : Reported o (raise0 code level index payload s) := by
  unfold Machine.raise0
  split
  · exact h
  · exact .enqueueOut (eventQueue_ge code) _ (.nextSerial h)

theorem raise {code level index : Nat} {payload : List Int} (h : Reported o s) : Reported o (raise code level index payload s) := by
  unfold Machine.raise injectionSeen
  split
  · have hseen := raise0 (code := code) (level := level) (index := index) (payload := payload) h
    exact .bump (.raise0 ⟨hseen.silent, hseen.cmd, hseen.taken, hseen.session, hseen.out, hseen.can, by rw [hseen.test], hseen.stats⟩)
  · exact .raise0 h

theorem raiseFirst {code level index : Nat} {payload : List Int} {key : Nat} (h : Reported o s) :
    Reported o (raiseFirst code level index payload key s) := by
  unfold Machine.raiseFirst
  extract_lets k
  split
  · exact h
  · exact .raise (.frame rfl rfl rfl rfl (fun _ _ => rfl) h)

theorem waiting (h : Reported o s) (q : Fin 4) : s.io.cmd[q].waiting = o.io.cmd[q].waiting := congrArg (fun v : Vector CmdQueue 4 => v[q].waiting) h.cmd

end Reported

/-- An update of a command queue that leaves the commands that wait. -/
theorem modCmd_waiting (q k : Fin 4) (f : CmdQueue → CmdQueue) (s : State) (hf : (f s.io.cmd[q]).waiting = s.io.cmd[q].waiting) :
    (modCmd q f s).io.cmd[k].waiting = s.io.cmd[k].waiting := by
  by_cases hk : q = k
  · subst hk
    simpa [modCmd] using hf
  · simp [modCmd, Vector.getElem_set_ne _ _ (Fin.val_ne_of_ne hk)]

/-! COMMAND_DISPATCH (R397, R420, R423, R424) -/

variable {s : State} {q : Fin 4} {w : Waiting} {rest : List Waiting}

theorem settleRoom_waiting (q k : Fin 4) (s : State) : (settleRoom q s).io.cmd[k].waiting = s.io.cmd[k].waiting := by
  unfold settleRoom
  extract_lets most
  split
  · exact (Reported.waiting (.notifyNow _ (.refl _)) k).trans (modCmd_waiting _ _ _ _ rfl)
  · rfl

theorem settleRoom_taken (q : Fin 4) (s : State) : (settleRoom q s).io.taken = s.io.taken := by
  unfold settleRoom
  extract_lets most
  split
  · rw [(Reported.notifyNow _ (.refl _)).taken]
    rfl
  · rfl

theorem silent_settleRoom (q : Fin 4) (s : State) : (settleRoom q s).silent = s.silent := by
  unfold settleRoom
  extract_lets most
  split
  · rw [silent_notifyNow, silent_modCmd]
  · rfl

theorem takeCommand_quiet (q : Fin 4) (w : Waiting) (s : State) : Quiet (takeCommand q w s) s := silent_settleRoom q _

theorem takeCommand_waiting (hhead : s.io.cmd[q].waiting = w :: rest) : (takeCommand q w s).io.cmd[q].waiting = rest := by
  unfold takeCommand
  refine (settleRoom_waiting ..).trans ?_
  rw [Fin.getElem_fin] at hhead
  simp [modCmd, hhead]

theorem takeCommand_taken (q : Fin 4) (w : Waiting) (s : State) :
    (takeCommand q w s).io.taken[q] = s.io.taken[q] ++ [w.e.ref w.code] := by
  unfold takeCommand
  extract_lets u
  rw [settleRoom_taken]
  simp [u, modCmd]

theorem pushEntry_cmd (x : QueueId) (e : Entry) (s : State) : (pushEntry x e s).io.cmd = s.io.cmd := (Reported.notifyEntry x (.refl _)).cmd

/-- A completion leaves the commands that wait. -/
theorem complete_waiting (r : CmdRef) (status : Nat) (results : List Word) (q : Fin 4) (s : State) :
    (complete r status results s).io.cmd[q].waiting = s.io.cmd[q].waiting := by
  unfold complete
  dsimp only
  rw [onlyIf_io _ _ _ (bump_io 0xE010 6), onlyIf_io _ _ _ (bump_io 0xE010 5)]
  exact (congrArg (fun v : Vector CmdQueue 4 => v[q].waiting) (pushEntry_cmd ..)).trans (modCmd_waiting _ _ _ _ rfl)

/-- The dispatch serves the head of the first queue that has a command ready. -/
theorem commandDispatch_served (hopen : s.mailOpen) (hfirst : (List.finRange 4).find? (fun k => s.commandReady k) = some q)
    (hhead : s.io.cmd[q].waiting = w :: rest) : exec .commandDispatch s = served w.code w.e (takeCommand q w s) := by
  obtain ⟨hbooted, hpowered⟩ := hopen
  show execCommandDispatch s = _
  unfold execCommandDispatch
  rw [hbooted, hpowered, hfirst, Bool.not_true, Bool.or_false, if_neg Bool.false_ne_true]
  dsimp only
  rw [hhead]

theorem commandDispatch_idle (h : s.boot.booting = true ∨ s.pwr.domains[2] = false ∨ ∀ q : Fin 4, s.commandReady q = false) :
    exec .commandDispatch s = .next s := by
  show execCommandDispatch s = _
  unfold execCommandDispatch
  rcases h with hboot | hoff | hnone
  · rw [hboot, Bool.true_or, if_pos rfl]
  · rw [hoff, Bool.not_false, Bool.or_true, if_pos rfl]
  · rw [List.find?_eq_none.2 fun q _ => by simp [hnone q]]
    split <;> rfl

/-- The count that a write should have is named only where it is refused for its count. -/
theorem runWrite_want (e : CmdEntry) (m n : Nat) (zero : Bool) (s : State) : runWrite e true m zero s = runWrite e true n zero s := by
  simp only [runWrite, runCommand, Bool.not_true, Bool.false_eq_true, if_false]

/-- A single write of a serial to 0xF040.03 is FAULT.RECORD.CLEAR (R517). -/
theorem paramWrite_eq_faultRecordClear {e : CmdEntry} (s : State) (hlength : e.ops.length = 3)
    (hserials : ∀ x ∈ writeEntries e.ops, x.index = 0xF040 ∧ x.sub = 3) : execParamWrite e s = execFaultRecordClear e s := by
  have hall : ((writeEntries e.ops).all fun x => x.index == 0xF040 && x.sub == 3) = true :=
    List.all_eq_true.2 fun x hx => by simp [hserials x hx]
  have hkey : ((writeEntries e.ops).all fun x => x.index == 0xC030) = false := by
    match hops : e.ops, hlength with
    | [a, b, c], _ =>
      obtain ⟨hindex, -⟩ := hserials _ (by rw [hops]; exact List.mem_singleton_self _)
      simp [writeEntries, show bits 15 0 a.toNat = 0xF040 from hindex]
  unfold execParamWrite execFaultRecordClear
  rw [hall, hkey, hlength]
  exact congrArg Host.Outcome.next (runWrite_want ..)

/-- A host row is what `served` runs for its code and its phase. -/
theorem served_of_hostForm {i : Instr} {code : Nat} {qs : List Nat} {e : CmdEntry} (s : State) (hform : hostForm i = some (code, qs, e))
    (hphase : ∀ ph, hostPhase i = some ph → bits 7 0 (e.word 1) = ph)
    (hclear : i = .faultRecordClear e → e.ops.length = 3 ∧ ∀ x ∈ writeEntries e.ops, x.index = 0xF040 ∧ x.sub = 3) :
    served code e s = exec i s := by
  unfold hostForm at hform
  split at hform <;> cases hform
  case h_21 =>
    obtain ⟨hlength, hserials⟩ := hclear rfl
    exact paramWrite_eq_faultRecordClear s hlength hserials
  case h_23 | h_24 | h_25 | h_26 | h_30 | h_31 | h_32 | h_33 | h_39 | h_40 | h_41 | h_42 =>
    unfold served
    rw [hphase _ rfl]
    rfl
  all_goals rfl

/-- A code outside the table is refused (R420). -/
theorem served_unknown {code : Nat} (e : CmdEntry) (s : State) (h : code < 0x0101 ∨ 0x0801 < code) :
    served code e s = .next (refuse (e.ref code) stCommand 0 s) := by
  unfold served
  split
  case h_33 => rfl
  all_goals omega

/-- Settles O3. -/
theorem dispatchRunsTakenRow : Obligations.DispatchRunsTakenRow := by
  unfold Obligations.DispatchRunsTakenRow
  refine fun s => ⟨commandDispatch_idle, fun q w rest hopen hfirst hhead => ⟨fun i qs hform hphase hclear => ?_, fun hunknown => ?_⟩⟩
  · obtain ⟨t, ht⟩ := served_runs w.code w.e (takeCommand q w s)
    refine ⟨t, ?_, ?_, takeCommand_quiet q w s, takeCommand_waiting hhead, takeCommand_taken q w s⟩
    · rw [commandDispatch_served hopen hfirst hhead, ht]
    · rw [← served_of_hostForm _ hform hphase hclear, ht]
  · refine ⟨refuse (w.e.ref w.code) stCommand 0 (takeCommand q w s), ?_, ?_, ?_, ?_⟩
    · rw [commandDispatch_served hopen hfirst hhead, served_unknown _ _ hunknown]
    · exact (refuse_quiet _ _ _ _).trans (takeCommand_quiet q w s)
    · exact (complete_waiting ..).trans (takeCommand_waiting hhead)
    · exact refuse_answered _ _ _ _

/-! COMMAND messages (R402, R403) -/

/-- A refused message over UDP leaves the queues of commands and completions. -/
theorem Reported.refuseMail {o s : State} {h : MailHeader} (hudp : h.transport = .udp) (cause expected : Nat) (hs : Reported o s) :
    Reported o (refuseMail h cause expected s) := by
  unfold Machine.refuseMail sendMail
  dsimp only
  rw [hudp]
  exact .send _ (.raiseFirst hs)

theorem Reported.refuseCommand {o s : State} {h : MailHeader} (hudp : h.transport = .udp) (cause expected : Nat) (hs : Reported o s) :
    Reported o (refuseCommand h cause expected s) := .refuseMail hudp cause expected (.bump hs)

variable {h : MailHeader} {body : List Word}

/-- A message that is malformed, of another session or on another transport is refused (R403). -/
theorem mailCommand_reported (hudp : h.transport = .udp) (hbad : readCommand h body = none ∨ ∃ q w, readCommand h body = some (q, w) ∧
    (h.session.toNat ≠ s.io.session ∨ s.actN (0xC100 + q.val) 1 ≠ bindingOf h.transport)) : Reported s (mailCommand h body s) := by
  unfold mailCommand
  obtain hnone | ⟨q, w, hread, hsession | hbound⟩ := hbad
  · rw [hnone]
    exact .refuseCommand hudp _ _ (.refl s)
  · rw [hread]
    dsimp only
    rw [if_pos hsession]
    exact .refuseCommand hudp _ _ (.refl s)
  · rw [hread]
    dsimp only
    rw [if_pos hbound]
    split
    · exact .refuseCommand hudp _ _ (.refl s)
    · exact .refuseCommand hudp _ _ (.refl s)

/-- A message that is next in order is accepted where the queue has room (R402). -/
theorem mailCommand_accepted (hread : readCommand h body = some (q, w)) (hsession : h.session.toNat = s.io.session)
    (hbound : s.actN (0xC100 + q.val) 1 = bindingOf h.transport) (hnext : ∀ last, s.io.cmd[q].lastSeq = some last → w.e.seq = last + 1)
    (hroom : CmdQueue.used q s.io.cmd[q] + commandSize q w.e ≤ queueCapacity q.val) : mailCommand h body s = acceptCommand q w s := by
  unfold mailCommand
  rw [hread]
  dsimp only
  rw [if_neg (not_not_intro hsession), if_neg (not_not_intro hbound), decide_eq_true hroom, if_pos rfl]
  split
  · next last hlast => rw [if_neg (not_not_intro (hnext last hlast))]
  · rfl

/-- Counters count up to their ceiling (R498). -/
theorem counterOf_putCounter (k v : Nat) (hv : v ≠ 0) (l : List (Nat × Nat)) : counterOf k (putCounter k v l) = v := by
  induction l with
  | nil => simp [putCounter, hv, counterOf]
  | cons x t ih =>
    obtain ⟨j, u⟩ := x
    simp only [putCounter, hv, if_false]
    split
    · next hlt => rw [counterOf, if_neg (Nat.ne_of_lt hlt), ih]
    · split
      · rw [counterOf, if_pos rfl]
      · rw [counterOf, if_pos rfl]

theorem counter_bump (i sub : Nat) (s : State) : (bump i sub s).counter i sub = min (s.counter i sub + 1) 0xFFFFFFFF :=
  counterOf_putCounter _ _ (by omega) _

/-- Settles O4. -/
theorem commandMessages : Obligations.CommandMessages := by
  unfold Obligations.CommandMessages
  refine ⟨fun h body s q w hopen hnet hread hsession hbound hnext hroom => ?_, fun h body s hopen hudp hbad => ?_⟩
  · have hears : s.hears h = true := by
      obtain ⟨hbooted, hpowered⟩ := hopen
      by_cases hudp : h.transport = .udp
      · simp [State.hears, hbooted, hpowered, hnet hudp]
      · simp [State.hears, hbooted, hpowered, hudp]
    refine ⟨acceptCommand q w s, ?_, rfl, rfl, rfl, rfl, counter_bump ..⟩
    show execMailboxCommand h body s = _
    rw [execMailboxCommand, if_pos hears, mailCommand_accepted hread hsession hbound hnext hroom]
  · have hreported : Reported s (if s.hears h then mailCommand h body s else s) := by
      split
      · exact mailCommand_reported hudp hbad
      · exact .refl s
    exact ⟨_, rfl, hreported.silent, hreported.cmd, hreported.taken, fun q => hreported.out _ (Nat.add_lt_add_right q.2 4)⟩

/-! FETCH and the notifications (R404, R405) -/

/-- Nothing but messages has been handed to the transports. -/
def Sent (o s : State) : Prop := s.silent = o.silent ∧ s.io = { o.io with outbox := s.io.outbox }

theorem Sent.send {o : State} (m : Msg) (hs : Sent o s) : Sent o (send m s) := by
  refine ⟨(silent_send m s).trans hs.1, ?_⟩
  unfold Machine.send
  split
  · exact hs.2
  · rw [countSent_out]
    obtain ⟨-, hio⟩ := hs
    generalize s.io = x at hio
    rw [hio]

theorem Sent.sendMail {o : State} {bytes : List Byte} (hudp : h.transport = .udp) (hs : Sent o s) : Sent o (sendMail h bytes s) := by
  unfold Machine.sendMail
  rw [hudp]
  exact .send _ hs

/-- The DATA messages of a fetch over UDP are all that it sends. -/
theorem Sent.sendData {o : State} (hudp : h.transport = .udp) (es : List Entry) (index : Nat) (acc : List Word) (hs : Sent o s) :
    Sent o (sendData h index acc es s) := by
  induction es generalizing index acc s with
  | nil => exact .sendMail hudp hs
  | cons e t ih =>
    unfold Machine.sendData
    split
    · contradiction
    · next heq =>
      cases heq
      exact ih _ _ hs
    · next heq =>
      cases heq
      dsimp only
      split
      · exact ih _ _ (.sendMail hudp hs)
      · exact ih _ _ hs

/-- The entries before the fetched index leave a queue that has lost none (R404). -/
theorem releaseTo_eq {q : QueueId} (d : Nat) (hq : q.val < 12) (hlost : s.io.out[q].lost = 0) (hring : s.io.out[q].inRing = 0) :
    releaseTo q d s = modOut q (fun o => { o with entries := o.entries.drop d, consumer := (o.consumer + d) % 2 ^ 32 }) s := by
  have hsettled (f : OutQueue → OutQueue) (hf : (f s.io.out[q]).lost = 0) : settleLost q (modOut q f s) = modOut q f s :=
    if_neg fun hsettle => hsettle.1 (by simpa [modOut] using hf)
  unfold releaseTo
  dsimp only
  rw [dif_neg (Nat.not_le.2 hq), hsettled _ hlost, ite_self]
  unfold modOut
  dsimp only
  rw [hring, Nat.zero_sub]

/-- The fetched index lies as far above the consumer index as the entries that leave (R399). -/
theorem fetchDistance {w consumer d : Nat} (hindex : w % 2 ^ 32 = (consumer + d) % 2 ^ 32) (hconsumer : consumer < 2 ^ 32) (hd : d < 2 ^ 32) :
    (w % 2 ^ 32 + 2 ^ 32 - consumer) % 2 ^ 32 = d := by
  rw [hindex]
  omega

/-- A fetch that is taken releases the entries before its index and sends the next ones. -/
theorem mailFetch_taken {w : Word} {q : QueueId} {d : Nat} (hlow : 4 ≤ q.val) (hq : q.val < 12) (hqueue : h.queue.toNat = q.val) (hkind : h.kind = 3)
    (hcount : h.count = 1) (hsession : h.session.toNat = s.io.session) (hmost : 1 ≤ w.toNat / 2 ^ 32) (hmost' : w.toNat / 2 ^ 32 ≤ 64)
    (hlost : s.io.out[q].lost = 0) (hconsumer : s.io.out[q].consumer < 2 ^ 32) (hring : s.io.out[q].inRing = 0)
    (hd : d ≤ s.io.out[q].entries.length) (hd' : d < 2 ^ 32) (hindex : w.toNat % 2 ^ 32 = (s.io.out[q].consumer + d) % 2 ^ 32) :
    ∃ es index, mailFetch h [w] [] s = sendData h index [] es
      (modOut q (fun o => { o with entries := o.entries.drop d, consumer := w.toNat % 2 ^ 32 }) s) := by
  have hfits : w.toNat / 2 ^ 32 % 65536 = w.toNat / 2 ^ 32 := Nat.mod_eq_of_lt (by omega)
  have hbelow : h.queue.toNat < 16 := hqueue ▸ q.2
  obtain rfl : q = ⟨h.queue.toNat, hbelow⟩ := Fin.ext hqueue.symm
  unfold mailFetch
  dsimp only
  have hword : [w].getD 0 0 = w := rfl
  rw [hword, List.length_singleton, dif_pos ⟨by omega, by omega⟩, hkind, hcount, hfits, fetchDistance hindex hconsumer hd', if_neg (by simp; omega),
    if_neg (not_not_intro hsession), if_neg (Nat.not_lt.2 hd), List.filterMap_nil, parityDrop, List.isEmpty_nil, if_pos rfl,
    releaseTo_eq d hq hlost hring]
  refine ⟨_, _, congrArg (sendData h _ [] _) ?_⟩
  unfold modOut
  rw [hindex]

/-- The notification of a queue on UDP is sent, and its record begins anew (R405). -/
theorem notifyNow_udp {q : QueueId} (hcan : s.canNotify q = true) (hudp : s.actN (0xC100 + q.val) 1 = 0) : ∃ u : State, notifyNow q s = bump 0xE0C0 5 u ∧
    u.silent = s.silent ∧ u.io = { s.io with notify := s.io.notify.set q { last := some s.now, during := false },
                                             outbox := s.io.outbox ++ [.notify q.val (s.notifyCounts q).1 (s.notifyCounts q).2] } := by
  have hruns : s.netRuns = true := by
    unfold State.canNotify at hcan
    rw [hudp] at hcan
    simp only [Bool.and_eq_true] at hcan
    exact hcan.2
  refine ⟨send (.notify q.val (s.notifyCounts q).1 (s.notifyCounts q).2)
    { s with io := { s.io with notify := s.io.notify.set q { last := some s.now, during := false } } }, ?_, silent_send _ _, ?_⟩
  · unfold notifyNow
    refine (if_pos hcan).trans (congrArg (bump 0xE0C0 5) ?_)
    split
    · next hone => exact absurd (hudp.symm.trans hone) (by decide)
    · next htwo => exact absurd (hudp.symm.trans htwo) (by decide)
    · rfl
  · unfold send
    rw [if_neg, countSent_out]
    show ¬ (true && !s.netRuns) = true
    rw [hruns]
    decide

/-- Settles O5. -/
theorem fetchAndNotification : Obligations.FetchAndNotification := by
  unfold Obligations.FetchAndNotification
  refine ⟨?_, fun q s c d hcan hudp hcase => ?_⟩
  · intro h w s q d hopen hnet hlow hq hqueue hkind hcount hsession hudp hmost hmost' hlost hconsumer hring hd hd' hindex
    obtain ⟨es, index, htaken⟩ :=
      mailFetch_taken hlow hq hqueue hkind hcount hsession hmost hmost' hlost hconsumer hring hd hd' hindex
    obtain ⟨hbooted, hpowered⟩ := hopen
    have hears : s.hears h = true := by simp [State.hears, hbooted, hpowered, hnet]
    obtain ⟨hsilent, hio⟩ := Sent.sendData (o := modOut q (fun o => { o with entries := o.entries.drop d, consumer := w.toNat % 2 ^ 32 }) s)
      hudp es index [] ⟨rfl, rfl⟩
    refine ⟨_, ?_, hsilent, (congrArg Io.cmd hio :), ?_, fun r hr => ?_⟩
    · show execMailboxFetch h [w] [] s = _
      rw [execMailboxFetch, if_pos hears, htaken]
    · refine (congrArg (fun x : Io => x.out[q]) hio).trans ?_
      simp [modOut]
    · refine (congrArg (fun x : Io => x.out[r]) hio).trans ?_
      exact Vector.getElem_set_ne q.2 r.2 (Fin.val_ne_of_ne hr.symm)
  · have hexec : exec c s = .next (notifyNow q (setNow (s.notifyDue q d) s)) := by
      obtain ⟨rfl, hduring, rfl⟩ | ⟨rfl, hlow, hentries, rfl⟩ := hcase
      · show execNotifyHoldoffExpiry q s = _
        rw [execNotifyHoldoffExpiry, if_pos hduring]
      · show execNotifyRepeatExpiry q s = _
        rw [execNotifyRepeatExpiry, if_pos (by rw [List.isEmpty_eq_false_iff.2 hentries]; simpa using hlow)]
    obtain ⟨u, hu, hsilent, hio⟩ := notifyNow_udp (s := setNow (s.notifyDue q d) s) hcan hudp
    refine ⟨bump 0xE0C0 5 u, hexec.trans (congrArg _ hu), hsilent, (congrArg Io.cmd hio :), (congrArg Io.out hio :), ?_,
      (congrArg Io.outbox hio :)⟩
    rw [bump_now, silent_eq_now hsilent]
    exact congrArg Io.notify hio

end Sys2Proof.Machine
end

section
/-! PROOFS. Refused commands (O2), refuted: a PARAM.COMMIT that its queue refuses still lets a sleep entry that waits go on. -/

namespace Sys2Proof.Machine

/-- A sleep entry that no atlas delays any more is given up where R353 does not allow it (log 169). -/
theorem settleSleep_dropped {s : State} (hwaits : s.drive.sleepStep = 1) (hdelay : s.sleepDelayed = false) (hallowed : s.sleepAllowed = false) :
    settleSleep s = dropSleep s := by
  unfold settleSleep
  rw [decide_eq_true hwaits, hdelay, hallowed]
  rfl

/-- A sleep entry waits, and the drive, in SLEEP already, does not allow it. -/
def sleepWaits : State := { State.reset with drive := { State.reset.drive with sleepStep := 1 } }

/-- A PARAM.COMMIT on Q1, where it is not taken. -/
def misplacedCommit : CmdEntry := { queue := 1, seq := 0, ops := [], tag := 0 }

/-- Refutes O2: after the refusal the PARAM.COMMIT on Q1 ends the sleep entry that waits. -/
theorem not_refusedCommandsChangeNothing : ¬ Obligations.RefusedCommandsChangeNothing := by
  intro h
  obtain ⟨hqueue, -, -⟩ := h
  have hexec : exec (.paramCommit misplacedCommit) sleepWaits = .next (settleSleep (refuse (misplacedCommit.ref 0x0403) stCommand 0 sleepWaits)) :=
    congrArg (fun t => Host.Outcome.next (settleSleep t)) (runCommand_queue misplacedCommit 0x0403 0 [0, 2] _ true paramCommit sleepWaits (by decide))
  obtain ⟨hquiet, -⟩ := completes_next hexec (hqueue (.paramCommit misplacedCommit) 0x0403 [0, 2] misplacedCommit sleepWaits rfl (by decide))
  have hstep := congrArg Drive.sleepStep (silent_eq_drive hquiet)
  rw [settleSleep_dropped (by rw [refuse_drive]; rfl) (by decide +kernel) (by decide +kernel)] at hstep
  exact absurd hstep (by decide +kernel)

end Sys2Proof.Machine
end

section
/-! PROOFS. File transfers: the lengths that a BEGIN accepts (O56), what BEGIN and CHUNK write (O13), and how a transfer ends (O14). -/

namespace Sys2Proof.Machine

variable {e : CmdEntry} {s : State} {code : Nat} {k : TransferKind} {r : CmdRef}

@[simp] theorem silent_raiseTransfer (code : Nat) (k : TransferKind) (payload : List Int) (s : State) :
    (raiseTransfer code k payload s).silent = s.silent := by
  cases k <;> exact silent_raise ..

/-- An admitted transfer command on Q3, of its phase, runs (R432). -/
theorem transferCommand_body {queues : List Nat} {phase want : Nat} (body : CmdRef → State → State) (hqueues : 3 ∈ queues)
    (hphase : bits 7 0 (e.word 1) = phase) (hwant : (if phase = 2 then 1 + (bits 31 16 (e.word 1) + 7) / 8 else 1) = want)
    (hadm : s.admits e code [3] want) : transferCommand e code queues phase body s = body (e.ref code) s := by
  obtain ⟨hqueue, hlength, hauth, hboot⟩ := hadm
  unfold transferCommand
  rw [hwant, beq_iff_eq.2 hphase, beq_iff_eq.2 hlength, Bool.and_self]
  exact runCommand_body e code _ queues false body s (by rw [List.mem_singleton.1 hqueue]; exact hqueues) hauth (.inl hboot)

/-! BEGIN (R433 to R435) -/

/-- The lengths of R433. -/
theorem lengthOk_atlas (g : GroupId) (n : Nat) : lengthOk (.atlas g) n = decide (n = 268436544) := rfl

theorem lengthOk_firmware (n : Nat) : lengthOk .firmware n = decide (129 ≤ n ∧ n ≤ 134217728) := by
  simp [lengthOk, Bool.decide_and, ← Nat.ble_eq]

theorem lengthOk_parameters (n : Nat) : lengthOk .parameters n = decide (88 ≤ n ∧ n ≤ 1048576 ∧ (n - 64) % 24 = 0) := by
  simp [lengthOk, Bool.decide_and, ← Nat.ble_eq, Bool.and_assoc, beq_eq_decide]

theorem refusalWord_one : refusalWord 1 0 0 = 1 := by decide

/-- A length that R433 does not give the file is refused. -/
theorem uploadBegin_badLength (h : lengthOk k (bits 63 32 (e.word 1)) = false) : uploadBegin (some k) e r s = refuse r stRange 1 s := by
  unfold uploadBegin
  dsimp only
  rw [h, Bool.not_false, if_pos rfl]

/-- A transfer that has just begun. -/
def TransferKind.begun (k : TransferKind) (length now : Nat) : Transfer := { kind := k, length := length, received := 0, last := now, bytes := [] }

/-- BEGIN opens the transfer and marks the slot that it writes. -/
theorem uploadBegin_taken (hlength : lengthOk k (bits 63 32 (e.word 1)) = true) (hfree : s.transfer = none) (hallowed : s.transferAllowed k = true) :
    (uploadBegin (some k) e r s).silent =
      { (spoilSlot k s).silent with transfer := some (k.begun (bits 63 32 (e.word 1)) s.now) } ∧
    (uploadBegin (some k) e r s).answered r stOk [1400] := by
  unfold uploadBegin
  dsimp only
  rw [hlength, Bool.not_true, if_neg Bool.false_ne_true, hfree, Option.isSome_none, hallowed, Bool.not_true, Bool.or_self, if_neg Bool.false_ne_true]
  refine ⟨?_, finish_answered r [1400] _⟩
  rw [silent_finish, silent_raiseTransfer]
  cases k <;> rfl

/-- The BEGIN rows: the target of each, and the queues that take it. -/
theorem exec_begin {c : Instr} (hphase : bits 7 0 (e.word 1) = 1) (hadm : s.admits e code [3] 1)
    (hrow : c = .atlasUploadBegin e ∧ code = 0x0504 ∧ (∃ g, groupOperand (bits 15 8 (e.word 1)) = some g ∧ k = .atlas g) ∨
      c = .firmwareUploadBegin e ∧ code = 0x0801 ∧ bits 15 8 (e.word 1) = 0 ∧ k = .firmware ∨
      c = .paramUploadBegin e ∧ code = 0x0404 ∧ bits 15 8 (e.word 1) = 0 ∧ k = .parameters) :
    exec c s = .next (uploadBegin (some k) e (e.ref code) s) := by
  obtain ⟨rfl, rfl, g, hg, rfl⟩ | ⟨rfl, rfl, htarget, rfl⟩ | ⟨rfl, rfl, htarget, rfl⟩ := hrow
  · have hk : atlasTarget e = some (.atlas g) := by rw [atlasTarget, hg]; rfl
    rw [← hk]
    exact congrArg Host.Outcome.next (transferCommand_body _ (by decide) hphase rfl hadm)
  · have hk : plainTarget .firmware e = some .firmware := if_pos htarget
    rw [← hk]
    exact congrArg Host.Outcome.next (transferCommand_body _ (by decide) hphase rfl hadm)
  · have hk : plainTarget .parameters e = some .parameters := if_pos htarget
    rw [← hk]
    exact congrArg Host.Outcome.next (transferCommand_body _ (by decide) hphase rfl hadm)

/-- Settles O56. -/
theorem fileLengthsAreChecked : Obligations.FileLengthsAreChecked := by
  unfold Obligations.FileLengthsAreChecked
  intro e s c k code good hphase hadm hrow
  have hgood : lengthOk k (bits 63 32 (e.word 1)) = good := by
    obtain ⟨-, -, ⟨g, -, rfl⟩, rfl⟩ | ⟨-, -, -, rfl, rfl⟩ | ⟨-, -, -, rfl, rfl⟩ := hrow
    · exact lengthOk_atlas ..
    · exact lengthOk_firmware ..
    · exact lengthOk_parameters ..
  have hexec : exec c s = .next (uploadBegin (some k) e (e.ref code) s) := by
    refine exec_begin hphase hadm ?_
    obtain ⟨hc, hcode, hk, -⟩ | ⟨hc, hcode, htarget, hk, -⟩ | ⟨hc, hcode, htarget, hk, -⟩ := hrow
    · exact .inl ⟨hc, hcode, hk⟩
    · exact .inr (.inl ⟨hc, hcode, htarget, hk⟩)
    · exact .inr (.inr ⟨hc, hcode, htarget, hk⟩)
  refine ⟨fun hbad => ?_, fun hok hfree hallowed => ?_⟩
  · refine ⟨_, hexec, ?_⟩
    rw [uploadBegin_badLength (hgood.trans hbad), ← refusalWord_one]
    exact ⟨refuse_quiet .., refuse_answered ..⟩
  · obtain ⟨hsilent, hanswered⟩ := uploadBegin_taken (r := e.ref code) (hgood.trans hok) hfree hallowed
    exact ⟨_, hexec, hanswered, _, (congrArg State.transfer hsilent :), rfl, rfl, rfl⟩

/-! CHUNK (R432, R434) -/

/-- The data words of a chunk hold its bytes. -/
theorem chunkBytes_length (h : e.ops.length = 1 + (bits 31 16 (e.word 1) + 7) / 8) : (chunkBytes e).length = bits 31 16 (e.word 1) := by
  have hbytes (l : List Word) : (l.map wordBytes).flatten.length = 8 * l.length := by
    induction l with
    | nil => rfl
    | cons w t ih =>
      rw [List.map_cons, List.flatten_cons, List.length_append, ih, List.length_cons, wordBytes, List.length_map, List.length_range]
      omega
  rw [chunkBytes, List.length_take, hbytes, List.length_drop, h]
  omega

/-- A chunk at the offset that is due is stored, and answers the next offset. -/
theorem uploadChunk_taken {kind : Nat} {t : Transfer} (hlow : 1 ≤ bits 31 16 (e.word 1)) (hhigh : bits 31 16 (e.word 1) ≤ 1400)
    (ht : s.transfer = some t) (hkind : t.kind.code = kind) (hoff : bits 63 32 (e.word 1) = t.received)
    (hend : t.received + bits 31 16 (e.word 1) ≤ t.length) :
    uploadChunk kind e r s = finish r [t.received + bits 31 16 (e.word 1)] (storeChunk t (chunkBytes e) s) := by
  unfold uploadChunk
  dsimp only
  rw [if_neg (by omega), ht]
  dsimp only
  rw [Transfer.isKind, beq_iff_eq.2 hkind, Bool.not_true, if_neg Bool.false_ne_true, if_neg (by omega)]

/-- The memory after bytes have been written to the NAND: their pages can be read again (R381). -/
def Mem.withNand (base : Nat) (bs : List Byte) (m : Mem) : Mem := { m.freshPages base bs.length with nand := writeBytes base bs m.nand }

/-- Each byte stands at its address, and every other byte reads as before. -/
theorem readByte_withNand (base a : Nat) {n : Nat} {bs : List Byte} {m : Mem} (hn : bs.length = n) (h : m.wf = true) :
    readByte a (m.withNand base bs).nand = if base ≤ a ∧ a < base + n then bs.getD (a - base) 0 else readByte a m.nand := by
  rw [← hn]
  exact readByte_writeBytes base a bs m.nand ((Mem.wf_iff m).1 h).2

/-- A transfer that has received n bytes more and keeps these. -/
def Transfer.advanced (t : Transfer) (n now : Nat) (bytes : List Byte) : Transfer := { t with received := t.received + n, last := now, bytes := bytes }

theorem storeChunk_firmware {t : Transfer} (bs : List Byte) (s : State) (hkind : t.kind = .firmware) :
    storeChunk t bs s = { s with mem := s.mem.withNand (fwSlotAddr (otherFw s.boot.slot).val + t.received) bs,
                                 transfer := some (t.advanced bs.length s.now []) } := by
  obtain ⟨kind, length, received, last, bytes⟩ := t
  cases hkind
  rfl

theorem storeChunk_atlas {t : Transfer} {g : GroupId} (bs : List Byte) (s : State) (hkind : t.kind = .atlas g) (hhead : atlasHead ≤ t.received) :
    storeChunk t bs s = { s with mem := s.mem.withNand (atlasSlotAddr g (s.uploadSlot (.atlas g)) + (t.received - atlasHead)) bs,
                                 transfer := some (t.advanced bs.length s.now t.bytes) } := by
  obtain ⟨kind, length, received, last, bytes⟩ := t
  cases hkind
  unfold storeChunk
  dsimp only at hhead ⊢
  rw [Nat.sub_eq_zero_of_le hhead, List.drop_zero, List.take_zero, List.append_nil]
  rfl

theorem storeChunk_parameters {t : Transfer} (bs : List Byte) (s : State) (hkind : t.kind = .parameters) :
    storeChunk t bs s = { s with transfer := some (t.advanced bs.length s.now (t.bytes ++ bs)) } := by
  obtain ⟨kind, length, received, last, bytes⟩ := t
  cases hkind
  rfl

theorem queueOf_admits {q want : Nat} (hadm : s.admits e code [q] want) : e.queue.val = q := by
  obtain ⟨hqueue, -⟩ := hadm
  exact List.mem_singleton.1 hqueue

theorem opsOf_admits {queues : List Nat} {want : Nat} (hadm : s.admits e code queues want) : e.ops.length = want := by
  obtain ⟨-, hlength, -⟩ := hadm
  exact hlength

/-- Settles O13. -/
theorem transfersBeginAndWriteTheirBytes : Obligations.TransfersBeginAndWriteTheirBytes := by
  unfold Obligations.TransfersBeginAndWriteTheirBytes
  refine ⟨fun e s c k code qs hrow hadm hphase hlength hfree hallowed => ?_,
    fun e s t hadm hphase hlow hhigh ht hkind hoff hend hwf => ?_, fun e s t hphase hlow hhigh ht hoff hend hwf => ⟨fun g hkind hhead hadm => ?_, fun hkind hadm => ?_⟩⟩
  · have hqs : qs = [3] := by rcases hrow with ⟨-, -, h, -⟩ | ⟨-, -, h, -⟩ | ⟨-, -, h, -⟩ <;> exact h
    subst hqs
    have hexec : exec c s = .next (uploadBegin (some k) e (e.ref code) s) := by
      refine exec_begin hphase hadm ?_
      obtain ⟨hc, hcode, -, hk⟩ | ⟨hc, hcode, -, hk⟩ | ⟨hc, hcode, -, hk⟩ := hrow
      · exact .inl ⟨hc, hcode, hk⟩
      · exact .inr (.inl ⟨hc, hcode, hk⟩)
      · exact .inr (.inr ⟨hc, hcode, hk⟩)
    exact ⟨_, hexec, uploadBegin_taken hlength hfree hallowed⟩
  · have hcount := chunkBytes_length (opsOf_admits hadm)
    have hstored := uploadChunk_taken (r := e.ref 0x0801) (s := s) (kind := 2) hlow hhigh ht (by rw [hkind]; rfl) hoff hend
    rw [storeChunk_firmware _ _ hkind, hcount] at hstored
    refine ⟨_, congrArg Host.Outcome.next ((transferCommand_body _ (by decide) hphase rfl hadm).trans hstored), fun a => ?_, ?_, fun p hp => ?_, ?_,
      finish_answered ..⟩
    · rw [finish_mem]
      exact readByte_withNand _ a (hcount) hwf
    · rw [silent_finish, finish_mem, finish_transfer]
      rfl
    · rw [finish_mem] at hp
      exact List.mem_of_mem_filter hp
    · rw [finish_transfer]
      rfl
  · have hcount := chunkBytes_length (opsOf_admits hadm)
    have hstored := uploadChunk_taken (r := e.ref 0x0504) (s := s) (kind := 1) hlow hhigh ht (by rw [hkind]; rfl) hoff hend
    rw [storeChunk_atlas _ _ hkind hhead, hcount] at hstored
    refine ⟨_, congrArg Host.Outcome.next ((transferCommand_body _ (by decide) hphase rfl hadm).trans hstored), fun a => ?_, ?_, fun p hp => ?_, ?_,
      finish_answered ..⟩
    · rw [finish_mem]
      exact readByte_withNand _ a (hcount) hwf
    · rw [silent_finish, finish_mem, finish_transfer]
      rfl
    · rw [finish_mem] at hp
      exact List.mem_of_mem_filter hp
    · rw [finish_transfer]
      rfl
  · have hcount := chunkBytes_length (opsOf_admits hadm)
    have hstored := uploadChunk_taken (r := e.ref 0x0404) (s := s) (kind := 3) hlow hhigh ht (by rw [hkind]; rfl) hoff hend
    rw [storeChunk_parameters _ _ hkind, hcount] at hstored
    refine ⟨_, congrArg Host.Outcome.next ((transferCommand_body _ (by decide) hphase rfl hadm).trans hstored), ?_, ?_, finish_answered ..⟩
    · rw [silent_finish, finish_transfer]
      rfl
    · rw [finish_transfer]
      rfl

/-! END, ABORT and the idle timeout (R432, R434) -/

/-- Where no sleep entry waits, the end of a transfer leaves it over, with its result. -/
theorem endTransfer_frame (t : Transfer) (status : Nat) (results : List Word) (hawake : s.drive.sleepStep = 0) :
    (endTransfer t r status results s).silent = { s.silent with transfer := none } ∧ (endTransfer t r status results s).answered r status results := by
  unfold endTransfer
  dsimp only
  rw [settleSleep_awake]
  · refine ⟨?_, complete_answered ..⟩
    rw [silent_complete, silent_bump, silent_raiseTransfer]
    rfl
  · rw [complete_drive, bump_drive, silent_eq_drive (silent_raiseTransfer ..)]
    exact hawake

theorem abandonTransfer_frame {t : Transfer} (ht : s.transfer = some t) (hawake : s.drive.sleepStep = 0) :
    (abandonTransfer s).silent = { s.silent with transfer := none } := by
  unfold abandonTransfer
  rw [ht]
  dsimp only
  rw [settleSleep_awake, silent_bump, silent_raiseTransfer]
  · rfl
  · rw [bump_drive, silent_eq_drive (silent_raiseTransfer ..)]
    exact hawake

/-- ABORT of a transfer of its kind. -/
theorem uploadAbort_frame {t : Transfer} {kind : Nat} (ht : s.transfer = some t) (hkind : t.kind.code = kind) (hawake : s.drive.sleepStep = 0) :
    (uploadAbort kind r s).silent = { s.silent with transfer := none } ∧ (uploadAbort kind r s).answered r stOk [] := by
  unfold uploadAbort
  rw [ht]
  dsimp only
  rw [Transfer.isKind, beq_iff_eq.2 hkind, if_pos rfl]
  exact ⟨(silent_finish ..).trans (abandonTransfer_frame ht hawake), finish_answered r [] _⟩

/-- END of a transfer of its kind that is complete. -/
theorem uploadEnd_complete {t : Transfer} {kind : Nat} (ht : s.transfer = some t) (hkind : t.kind.code = kind) (hall : t.received = t.length) :
    uploadEnd kind r s = match t.kind with
      | .atlas g => if s.atlasIdle g then atlasEnd t g r s else refuse r stState 0 s
      | .firmware => firmwareEnd t r s
      | .parameters => paramEnd t r s := by
  unfold uploadEnd
  rw [ht]
  dsimp only
  rw [Transfer.isKind, beq_iff_eq.2 hkind, hall, bne_self_eq_false, Bool.not_true, Bool.or_self]
  exact if_neg Bool.false_ne_true

/-- Entries that are stored leave the drive. -/
theorem storeEntry_drive (x : WriteEntry) (s : State) : (storeEntry x s).drive = s.drive := by
  unfold storeEntry onlyIf
  dsimp only
  split <;> split <;> rfl

theorem applyWrites_drive {queue : Nat} {es : List WriteEntry} {u : State} (h : applyWrites queue es s = (u, none)) : u.drive = s.drive := by
  unfold applyWrites at h
  split at h
  · cases h
  · cases h
    exact List.foldlRecOn es _ (motive := fun v : State => v.drive = s.drive) rfl fun v hv x _ => (storeEntry_drive x v).trans hv

/-- A record of a slot takes force over any cells and objects, and the atlas becomes REFINED (R190, R202). -/
theorem commitAtlas_refined (g : GroupId) (slot : Nat) (hroom : s.mem.journal.halves[s.mem.journal.half].length < halfRecords) :
    ∃ j x, x.seq = s.nextSeq 1 (g.val + 1) ∧
      (setAtlasState g 3 (modAtlas g (fun a => { a with mtpaDue := true, accepted := false }) (commitAtlas g slot s))).silent =
        (modAtlas g (fun a => Atlas.inState 3 { a with record := some (JRecord.bound x slot), mtpaDue := true, accepted := false })
          { s with mem := { s.mem with journal := j } }).silent := by
  obtain ⟨j, hj⟩ := appendRecord_room (s.atlasRecord g slot) hroom
  refine ⟨j, s.atlasRecord g slot, rfl, ?_⟩
  have hcommit : commitAtlas g slot s = modAtlas g (fun a => { a with record := some (JRecord.bound (s.atlasRecord g slot) slot) })
      { s with mem := { s.mem with journal := j } } := by
    rw [← hj]
    rfl
  rw [silent_setAtlasState (by decide), hcommit]
  exact congrArg State.silent ((congrArg (modAtlas g (Atlas.inState 3)) (modAtlas_modAtlas ..)).trans (modAtlas_modAtlas ..))

/-- A complete atlas file that passes R201 is copied, and its slot is named by a record (R190, R202). -/
theorem atlasEnd_good {t : Transfer} {g : GroupId} (hkind : t.kind = .atlas g) (hawake : s.drive.sleepStep = 0)
    (hroom : s.mem.journal.halves[s.mem.journal.half].length < halfRecords) (hfile : s.atlasFileOk g (s.uploadSlot (.atlas g)) t.bytes = true) :
    ∃ p m x, m.nand = s.mem.nand ∧ x.seq = s.nextSeq 1 (g.val + 1) ∧
      (atlasEnd t g r s).silent = (modAtlas g (fun a => Atlas.inState 3 { a with
        record := some (JRecord.bound x (s.uploadSlot (.atlas g))), mtpaDue := true, accepted := false }) { s with par := p, mem := m, transfer := none }).silent ∧
      (atlasEnd t g r s).answered r stOk [BitVec.ofNat 64 x.seq] := by
  unfold atlasEnd
  extract_lets slot table mem1 s1 s2 s3 s4 seq
  have hslot : slot = s.uploadSlot (.atlas g) := congrArg s.uploadSlot hkind
  rw [← hslot] at hfile ⊢
  rw [hfile, Bool.not_true, if_neg Bool.false_ne_true]
  obtain ⟨p, hp⟩ := putAxis_frame g ((t.bytes.drop 12).take 22) s1
  obtain ⟨m, hm, hnand, hjournal⟩ : ∃ m : Mem, s2 = { s with par := p, mem := m } ∧ m.nand = s.mem.nand ∧ m.journal = s.mem.journal :=
    ⟨_, congrArg (copyToDram g slot) hp, rfl, rfl⟩
  have hs2 : s2.mem.journal = s.mem.journal := by rw [hm]; exact hjournal
  obtain ⟨j, x, hseq, hs4⟩ := commitAtlas_refined g slot ((congrArg (fun j : Journal => j.halves[j.half].length) hs2).trans_lt hroom)
  have hrecord : s4.gr[g].atlas.record = some (JRecord.bound x slot) := by
    rw [silent_eq_gr hs4]
    exact congrArg Atlas.record (atlas_modAtlas_self ..)
  have hdrive : (raiseG 0x6024 g [(slot : Int), (seq : Int)] s4).drive.sleepStep = 0 := by
    rw [raiseG_drive, silent_eq_drive hs4, hm]
    exact hawake
  have hvalue : seq = x.seq := by simp only [seq, hrecord, Option.map_some, Option.getD_some, JRecord.bound]
  obtain ⟨hsilent, hanswered⟩ := endTransfer_frame (r := r) t stOk [BitVec.ofNat 64 seq] hdrive
  refine ⟨p, { m with journal := j }, x, hnand, ?_, ?_, ?_⟩
  · rw [hseq, hm]
    unfold State.nextSeq
    dsimp only
    rw [hjournal]
  · rw [hsilent, silent_raiseG, hs4, hm]
    rfl
  · rw [hvalue] at hanswered ⊢
    exact hanswered

theorem atlasEnd_bad {t : Transfer} {g : GroupId} (hkind : t.kind = .atlas g) (hfile : s.atlasFileOk g (s.uploadSlot (.atlas g)) t.bytes = false) :
    atlasEnd t g r s = endTransfer t r stImage [] s := by
  unfold atlasEnd
  extract_lets slot
  have hslot : slot = s.uploadSlot (.atlas g) := congrArg s.uploadSlot hkind
  rw [← hslot] at hfile
  rw [hfile, Bool.not_false, if_pos rfl]

/-- Settles O14. -/
theorem transferEndings : Obligations.TransferEndings := by
  unfold Obligations.TransferEndings
  refine ⟨fun e s t ht hawake => ⟨fun u hphase hall hadm hkind hfile hwrites => ?_, fun hphase hall hadm hkind hpages => ?_,
    fun hphase c code hadm hrow => ?_, ?_⟩, fun e s t g ht hawake hphase hall hadm hkind hidle hroom => ?_⟩
  · have hbody := transferCommand_body (queues := [0, 3]) (uploadEnd 3) (by decide) hphase rfl hadm
    have hq : e.queue.val = 3 := queueOf_admits hadm
    rw [uploadEnd_complete ht (by rw [hkind]; rfl) hall, hkind] at hbody
    have hend : paramEnd t (e.ref 0x0404) s = endTransfer t (e.ref 0x0404) stOk [BitVec.ofNat 64 (fieldAt t.bytes 8 4 % 65536)] u := by
      have hqueue : (e.ref 0x0404).queue.val = 3 := hq
      unfold paramEnd
      rw [hfile, Bool.not_true, if_neg Bool.false_ne_true]
      dsimp only
      rw [hqueue, hwrites]
    refine ⟨_, congrArg Host.Outcome.next (hbody.trans hend), endTransfer_frame t _ _ ?_⟩
    rw [applyWrites_drive hwrites]
    exact hawake
  · have hbody := transferCommand_body (queues := [3]) (uploadEnd 2) (by decide) hphase rfl hadm
    rw [uploadEnd_complete ht (by rw [hkind]; rfl) hall, hkind] at hbody
    dsimp only at hbody
    refine ⟨_, congrArg Host.Outcome.next hbody, fun hok => ?_, fun hbad => ?_⟩
    · unfold firmwareEnd
      dsimp only
      rw [hok, unreadable_of_no_pages hpages, Bool.not_false, Bool.and_self, if_pos rfl]
      obtain ⟨hsilent, hanswered⟩ := endTransfer_frame (s := { s with boot := { s.boot with
        alternateOk := true, fw := s.boot.fw.set (otherFw s.boot.slot) { delivered := false, fileLength := t.length } } })
        (r := e.ref 0x0801) t stOk [BitVec.ofNat 64 (State.fwVersion { s with boot := { s.boot with
          alternateOk := true, fw := s.boot.fw.set (otherFw s.boot.slot) { delivered := false, fileLength := t.length } } } (otherFw s.boot.slot))] hawake
      exact ⟨hsilent, _, hanswered⟩
    · unfold firmwareEnd
      dsimp only
      rw [hbad, Bool.false_and, if_neg Bool.false_ne_true]
      exact endTransfer_frame t _ _ hawake
  · obtain ⟨rfl, rfl, hkind⟩ | ⟨rfl, rfl, hkind⟩ | ⟨rfl, rfl, hkind⟩ := hrow
    · exact ⟨_, congrArg Host.Outcome.next (transferCommand_body _ (by decide) hphase rfl hadm), uploadAbort_frame ht hkind hawake⟩
    · exact ⟨_, congrArg Host.Outcome.next (transferCommand_body _ (by decide) hphase rfl hadm), uploadAbort_frame ht hkind hawake⟩
    · exact ⟨_, congrArg Host.Outcome.next (transferCommand_body _ (by decide) hphase rfl hadm), uploadAbort_frame ht hkind hawake⟩
  · refine ⟨transferIdle s, rfl, ?_⟩
    unfold transferIdle
    rw [ht]
    exact abandonTransfer_frame (s := setNow (t.last + s.actN 0x1101 6 * ticksPerMs) s) ht hawake
  · have hbody := transferCommand_body (queues := [3]) (uploadEnd 1) (by decide) hphase rfl hadm
    rw [uploadEnd_complete ht (by rw [hkind]; rfl) hall, hkind] at hbody
    dsimp only at hbody
    rw [hidle, if_pos rfl] at hbody
    refine ⟨_, congrArg Host.Outcome.next hbody, ?_⟩
    cases hfile : s.atlasFileOk g (s.uploadSlot (.atlas g)) t.bytes with
    | true =>
      obtain ⟨p, m, x, hnand, hseq, hsilent, hanswered⟩ := atlasEnd_good (r := e.ref 0x0504) hkind hawake hroom hfile
      have hgr := silent_eq_gr hsilent
      refine ⟨(congrArg State.transfer hsilent :), fun k hk => ?_, (congrArg State.br hsilent :), ?_, fun _ => ?_, fun h => absurd h (by decide)⟩
      · refine (congrArg (fun v : Vector Group 4 => v[k]) hgr).trans ?_
        exact gr_modGr_ne _ _ hk
      · rw [silent_eq_mem hsilent]
        exact hnand
      · have hatlas := (congrArg (fun v : Vector Group 4 => v[g].atlas) hgr).trans (atlas_modAtlas_self ..)
        rw [← hseq]
        exact ⟨(congrArg Atlas.code hatlas :), (congrArg Atlas.mtpaDue hatlas :), ⟨_, (congrArg Atlas.record hatlas :), rfl, rfl⟩, hanswered⟩
    | false =>
      obtain ⟨hsilent, hanswered⟩ := endTransfer_frame (r := e.ref 0x0504) t stImage [] hawake
      rw [atlasEnd_bad hkind hfile]
      exact ⟨(congrArg State.transfer hsilent :), fun k _ => (congrArg (fun u : State => u.gr[k]) hsilent :), (congrArg State.br hsilent :),
        (congrArg (fun u : State => u.mem.nand) hsilent :), fun h => absurd h (by decide), fun _ => ⟨hsilent, hanswered⟩⟩

end Sys2Proof.Machine
end

section
/-! PROOFS. Parameters over commands: PARAM.COMMIT, FAULT_RECORD_CLEAR, PARAM.READ and PARAM.WRITE (O12), and the ranges of the test objects (O60). -/

namespace Sys2Proof.Machine

variable {e : CmdEntry} {s : State} {x : WriteEntry} {r : CmdRef} {queue : Nat}

/-! PARAM.COMMIT (R429) -/

/-- The safety signature is recomputed; a change is a report besides (R271). -/
theorem refreshSignature_frame (s : State) :
    (refreshSignature s).silent = { s.silent with clove := { s.clove with signature := s.safetySignature } } := by
  unfold refreshSignature
  dsimp only
  split
  · next hsame => rw [← hsame]; rfl
  · exact silent_raise4 ..

/-- The slot that an image write spoils depends on the NAND's record alone. -/
theorem spoilImage_of_mem {u : State} (p : Params) (hmem : u.mem = s.mem) :
    spoilImage { u with par := p } = { u with par := (spoilImage { s with par := p }).par } := by
  have hslot : State.otherSlot { u with par := p } 3 0 = State.otherSlot { s with par := p } 3 0 := by
    unfold State.otherSlot
    dsimp only
    rw [hmem]
  exact congrArg (fun n : Nat => ({ u with par := { p with slots := p.slots.set (n % 2) none } } : State)) hslot

/-- A commit of nothing pending waits for its image write. -/
theorem paramCommit_frame (hcommit : s.par.commit = none) (hawake : s.drive.state ≠ .sleep) (hks : s.frozenSet = []) :
    (paramCommit r s).silent = { s.silent with clove := { s.clove with signature := s.safetySignature }, par := (
      spoilImage { s with par := { s.par with commit := some { ref := r, applied := 0, image := s.par.stored } } }).par } := by
  have hframe := refreshSignature_frame s
  have hpar : (refreshSignature s).par = s.par := (congrArg State.par hframe :)
  have hmem : (refreshSignature s).mem = s.mem := (congrArg State.mem hframe :)
  have hnone : s.commitFails [] = none := rfl
  unfold paramCommit
  rw [hks, hcommit, decide_eq_false hawake]
  dsimp only
  rw [hnone, List.isEmpty_nil, if_pos rfl]
  dsimp only
  rw [if_neg (by simp), spoilImage_of_mem _ hmem, hpar]
  generalize (spoilImage _).par = p
  exact congrArg (fun u : State => { u with par := p }) hframe

/-! Entries of a write (R427) -/

/-- An entry that is not refused has its type code. -/
theorem typed_of_judged {p : Params} (h : s.judgeEntry queue p x = 0) : x.typed = true := by
  unfold State.judgeEntry at h
  split at h
  · exact absurd h (by decide)
  · next htyped => simpa using htyped

section
variable {want st : Nat} {zero : Bool} (hqueue : e.queue.val ∈ [0, 2]) (hauth : e.queue.val = 0 → s.authOk 0x0402 zero e = true)
  (hboot : s.boot.recovery = false) (hentries : writeEntries e.ops = [x])
include hqueue hauth hboot hentries

/-- A write of one entry of the object's type code is judged as a whole (R427). -/
theorem runWrite_typed (htyped : x.typed = true) : runWrite e true want zero s = paramWrite e (e.ref 0x0402) s := by
  have hfind : (writeEntries e.ops).findIdx? (fun x => !x.typed) = none := by
    rw [hentries, List.findIdx?_cons, htyped]
    rfl
  unfold runWrite
  rw [hfind]
  exact runCommand_body e _ _ _ _ _ s hqueue hauth (.inl hboot)

/-- A write of one accepted entry stores it. -/
theorem runWrite_single (hjudged : s.judgeEntry e.queue.val s.par x = 0) :
    runWrite e true want zero s = complete (e.ref 0x0402) stOk [] (storeEntry x s) := by
  have happlied : applyWrites e.queue.val (writeEntries e.ops) s = (storeEntry x s, none) := by
    unfold applyWrites State.judgeAll State.judgeAll
    rw [hentries]
    dsimp only
    rw [if_pos hjudged]
    rfl
  rw [runWrite_typed hqueue hauth hboot hentries (typed_of_judged hjudged)]
  unfold paramWrite
  rw [happlied]

/-- A write of one refused entry stores nothing. -/
theorem runWrite_refused (htyped : x.typed = true) (hjudged : s.judgeEntry e.queue.val s.par x = st) (hst : st ≠ 0) :
    runWrite e true want zero s = complete (e.ref 0x0402) st [refusalWord (offendingWord st 1) 1 0] s := by
  have happlied : applyWrites e.queue.val (writeEntries e.ops) s = (s, some (st, 1)) := by
    unfold applyWrites State.judgeAll State.judgeAll
    rw [hentries]
    dsimp only
    rw [hjudged, if_neg hst]
    rfl
  rw [runWrite_typed hqueue hauth hboot hentries htyped]
  unfold paramWrite
  rw [happlied]
end

/-- An entry that is stored reaches the objects alone; a serial written to 0xF040.03 also marks its records as cleared (R517). -/
theorem storeEntry_clear {serials : List Nat} (hindex : x.index = 0xF040) (hserials : s.clearedBy x.raw = some serials) :
    ∃ p, storeEntry x s = { s with par := p, boot := { s.boot with cleared := s.boot.cleared ++ serials } } := by
  unfold storeEntry
  extract_lets +onlyGivenNames now par s1 s2
  have hs2 : s2 = s1 := by
    show onlyIf (x.index == 0xC030) _ s1 = s1
    rw [hindex]
    rfl
  have hcleared : s1.clearedBy x.raw = some serials := hserials
  rw [if_pos hindex, hs2, hcleared, Option.getD_some]
  exact ⟨par, rfl⟩

theorem storeEntry_plain (hclear : x.index ≠ 0xF040) (hkey : x.index ≠ 0xC030) : storeEntry x s = { s with par := (
    if effectOf (objKey x.index x.sub) = 0 then s.par.setBoth x.index x.sub x.value else s.par.setStored x.index x.sub x.value) } := by
  unfold storeEntry
  extract_lets +onlyGivenNames now par s1 s2
  have hs2 : s2 = s1 := by
    show onlyIf (x.index == 0xC030) _ s1 = s1
    rw [beq_eq_false_iff_ne.2 hkey]
    rfl
  rw [if_neg hclear, hs2]
  show { s with par := if (effectOf (objKey x.index x.sub) == 0) = true then _ else _ } = _
  simp only [beq_iff_eq]

/-- What an object reads as after it, or another, has been written. -/
theorem storedOf_written (p : Params) (i k j m : Nat) (v : Int) :
    (if effectOf (objKey i k) = 0 then p.setBoth i k v else p.setStored i k v).storedOf j m = (p.setStored i k v).storedOf j m := by
  split <;> rfl

theorem activeOf_written (p : Params) (i k j m : Nat) (v : Int) :
    (if effectOf (objKey i k) = 0 then p.setBoth i k v else p.setStored i k v).activeOf j m =
      if effectOf (objKey i k) = 0 then ((p.setStored i k v).setActive i k v).activeOf j m else p.activeOf j m := by
  split <;> rfl

/-! PARAM.READ (R426) -/

/-- PARAM.READ of defined objects answers the five words of each. -/
theorem paramRead_answers (hawake : s.drive.state ≠ .sleep) (hdefined : ∀ w ∈ e.ops, (objInfo (bits 15 0 w.toNat) (bits 23 16 w.toNat)).isSome) :
    paramRead e r s = complete r stOk ((e.ops.map fun w => match objInfo (bits 15 0 w.toNat) (bits 23 16 w.toNat) with
      | some (ty, acc, eff) => s.objectWords (bits 15 0 w.toNat) (bits 23 16 w.toNat) ty acc eff
      | none => []).flatten) s := by
  unfold paramRead
  extract_lets objs
  have hnone : (objs.zipIdx).find? (fun o => (objInfo o.1.1 o.1.2).isNone) = none := by
    refine List.find?_eq_none.2 fun o ho => ?_
    have hmem : o.1 ∈ objs := List.fst_mem_of_mem_zipIdx ho
    obtain ⟨w, hw, heq⟩ := List.mem_map.1 hmem
    rw [← heq, Bool.not_eq_true, Option.isNone_eq_false_iff]
    exact hdefined w hw
  rw [hnone]
  dsimp only
  rw [if_neg hawake]
  simp only [objs, List.map_map] <;> rfl

theorem words_length (ws : List Word) (f : Word → List Word) (hf : ∀ w ∈ ws, (f w).length = 5) : (ws.map f).flatten.length = 5 * ws.length := by
  induction ws with
  | nil => rfl
  | cons w t ih =>
    rw [List.map_cons, List.flatten_cons, List.length_append, hf w List.mem_cons_self, ih fun v hv => hf v (List.mem_cons_of_mem w hv), List.length_cons]
    omega

/-- Settles O12. -/
theorem parameterRows : Obligations.ParameterRows := by
  unfold Obligations.ParameterRows
  refine ⟨fun e s => ⟨fun hadm hcommit hawake hstep hks => ?_, fun x serials hadm hentries hindex hsub hjudged hserials => ?_⟩,
    fun e s => ⟨fun hqueue hlow hhigh hboot hawake hdefined => ?_, fun x hadm hentries hjudged hclear hkey hwf => ?_⟩⟩
  · obtain ⟨hqueue, hlength, hauth, hboot⟩ := hadm
    have hframe := paramCommit_frame (r := e.ref 0x0403) hcommit hawake hks
    have hdrive : (paramCommit (e.ref 0x0403) s).drive.sleepStep = 0 := (congrArg (fun d : Drive => d.sleepStep) (congrArg State.drive hframe :)).trans hstep
    have hexec : exec (.paramCommit e) s = .next (paramCommit (e.ref 0x0403) s) := by
      have hzero : e.queue.val = 0 → s.authOk 0x0403 true e = true := fun h0 => absurd ((List.mem_singleton.1 hqueue).symm.trans h0) (by decide)
      show Host.Outcome.next (settleSleep (runCommand e 0x0403 [0, 2] (e.ops.length == 0) 0 true paramCommit s)) = _
      rw [hlength, beq_self_eq_true, runCommand_body e _ _ [0, 2] true paramCommit s (by rw [List.mem_singleton.1 hqueue]; decide) hzero (.inl hboot),
        settleSleep_awake hdrive]
    have hpar : (paramCommit (e.ref 0x0403) s).par = _ := (congrArg State.par hframe :)
    have hclove : (paramCommit (e.ref 0x0403) s).clove = _ := (congrArg State.clove hframe :)
    refine ⟨_, hexec, ?_, hpar, hclove⟩
    rw [hpar, hclove]
    exact hframe
  · obtain ⟨hqueue, hlength, -, hboot⟩ := hadm
    have hq : e.queue.val = 2 := List.mem_singleton.1 hqueue
    obtain ⟨p, hp⟩ := storeEntry_clear hindex hserials
    have hall : (decide (e.ops.length = 3) && (writeEntries e.ops).all fun x => x.index == 0xF040 && x.sub == 3) = true := by
      simp [hlength, hentries, hindex, hsub]
    have hexec : exec (.faultRecordClear e) s = .next (complete (e.ref 0x0402) stOk [] (storeEntry x s)) := by
      show Host.Outcome.next (runWrite e _ 3 false s) = _
      rw [hall, runWrite_single (by rw [hq]; decide) (fun h0 => absurd (hq.symm.trans h0) (by decide)) hboot hentries (by rw [hq]; exact hjudged)]
    refine ⟨_, hexec, ?_, ?_, complete_answered ..⟩
    · rw [complete_boot, hp]
    · rw [silent_complete, complete_boot, complete_par, hp]
      rfl
  · have hmem : e.queue.val ∈ [2, 3] := by
      obtain h | h := hqueue <;> rw [h] <;> decide
    have hzero : e.queue.val = 0 → s.authOk 0x0401 false e = true := fun h0 => by
      rw [h0] at hmem
      exact absurd hmem (by decide)
    have hexec : exec (.paramRead e) s = .next (paramRead e (e.ref 0x0401) s) := by
      show Host.Outcome.next (runCommand e 0x0401 [2, 3] (decide (1 ≤ e.ops.length ∧ e.ops.length ≤ 32)) 32 false (paramRead e) s) = _
      rw [decide_eq_true ⟨hlow, hhigh⟩, runCommand_body e _ _ _ _ _ s hmem hzero (.inl hboot)]
    rw [paramRead_answers hawake hdefined] at hexec
    refine ⟨_, hexec, silent_complete .., _, words_length _ _ fun w hw => ?_, complete_answered .., fun w ty acc eff hops hinfo => ?_⟩
    · obtain ⟨⟨ty, acc, eff⟩, hinfo⟩ := Option.isSome_iff_exists.1 (hdefined w hw)
      rw [hinfo]
      rfl
    · rw [hops, List.map_singleton, hinfo, List.flatten_singleton]
  · obtain ⟨hqueue, hlength, -, hboot⟩ := hadm
    have hq : e.queue.val = 2 := List.mem_singleton.1 hqueue
    have hall : decide (1 ≤ e.ops.length ∧ e.ops.length ≤ 180 ∧ e.ops.length % 3 = 0) = true := by rw [hlength]; decide
    have hexec : exec (.paramWrite e) s = .next (complete (e.ref 0x0402) stOk [] (storeEntry x s)) := by
      show Host.Outcome.next (runWrite e _ _ _ s) = _
      rw [hall, runWrite_single (by rw [hq]; decide) (fun h0 => absurd (hq.symm.trans h0) (by decide)) hboot hentries (by rw [hq]; exact hjudged)]
    rw [storeEntry_plain hclear hkey] at hexec
    refine ⟨_, hexec, ?_, complete_answered .., ?_, ?_, fun i k hne => ⟨?_, ?_⟩⟩
    · rw [silent_complete, complete_par]
      rfl
    · rw [complete_par]
      exact (storedOf_written ..).trans (storedOf_setStored_self _ _ _ _ hwf)
    · rw [complete_par]
      refine (activeOf_written ..).trans ?_
      rw [activeOf_setActive_self _ _ _ _ (setStored_wf _ _ _ _ hwf)]
    · rw [complete_par]
      refine (storedOf_written ..).trans ?_
      rw [storedOf_setStored _ _ _ _ _ _ hwf, if_neg hne]
    · rw [complete_par]
      refine (activeOf_written ..).trans ?_
      rw [activeOf_setActive _ _ _ _ _ _ (setStored_wf _ _ _ _ hwf), if_neg hne, activeOf_setStored, ite_self]

end Sys2Proof.Machine
end

section
/-! PROOFS. The ranges of the self-test, injection, statistics and STO test objects (O60). -/

namespace Sys2Proof.Machine

variable {e : CmdEntry} {s : State} {x : WriteEntry} {queue i k ty lo hi st : Nat}

/-- The range row covers an object. -/
def Rng.covers (r : Rng) (i k : Nat) : Bool := Nat.ble r.i0 i && Nat.ble i r.i1 && Nat.ble r.s0 k && Nat.ble k r.s1

/-- A host-writable object of an unsigned type, with one plain range inside its type and no relation to other objects. -/
structure PlainRange (i k ty lo hi : Nat) : Prop where
  info : ((objInfo i k).any fun o => o.1 == ty && o.2.1 != 0) = true
  unsigned : ty = 1 ∨ ty = 2 ∨ ty = 3
  bound : (hi : Int) ≤ (typeBounds ty).2
  range : ((rangesOf (i / 0x1000)).filter (fun r => r.covers i k)).map (fun r => (r.lo, r.hi)) = [((lo : Int), (hi : Int))]
  alone : ∀ p hk v, Params.relationOk p hk i k v = true
  barred : ∀ (s : State) p acc v, s.writable = true → s.writeBarred p acc i k v = false
  noClear : i ≠ 0xF040
  noKey : i ≠ 0xC030

/-- The objects of R501. -/
theorem plainRange_of_test (h : (i, k, ty, lo, hi) ∈ [(0xD000, 1, 1, 0, 1), (0xD100, 1, 1, 0, 1), (0xD000, 3, 1, 2, 64), (0xD100, 3, 2, 100, 60000),
    (0xD100, 4, 2, 10, 10000), (0xE000, 1, 3, 1, 60000)] ∨ 0xD010 ≤ i ∧ i ≤ 0xD01B ∧ k = 1 ∧ ty = 3 ∧ lo = 100 ∧ hi = 3600000) :
    PlainRange i k ty lo hi ∧ q0Only i = false := by
  obtain hlist | ⟨hlow, hhigh, rfl, rfl, rfl, rfl⟩ := h
  · simp only [List.mem_cons, List.not_mem_nil, Prod.mk.injEq, or_false] at hlist
    obtain ⟨rfl, rfl, rfl, rfl, rfl⟩ | ⟨rfl, rfl, rfl, rfl, rfl⟩ | ⟨rfl, rfl, rfl, rfl, rfl⟩ | ⟨rfl, rfl, rfl, rfl, rfl⟩ | ⟨rfl, rfl, rfl, rfl, rfl⟩ |
      ⟨rfl, rfl, rfl, rfl, rfl⟩ := hlist <;>
    exact ⟨⟨by decide, by decide, by decide, by decide, fun _ _ _ => rfl, fun s p acc v hs => by simp [State.writeBarred, hs], by decide, by decide⟩, rfl⟩
  · interval_cases i <;>
    exact ⟨⟨by decide, by decide, by decide, by decide, fun _ _ _ => rfl, fun s p acc v hs => by simp [State.writeBarred, hs], by decide, by decide⟩, rfl⟩

/-- The objects of R539. -/
theorem plainRange_of_sto (h : (i, k, ty, lo, hi) ∈ [(0x8105, 1, 2, 100, 1620), (0x8105, 2, 2, 2, 1000)]) :
    PlainRange i k ty lo hi ∧ q0Only i = true := by
  simp only [List.mem_cons, List.not_mem_nil, Prod.mk.injEq, or_false] at h
  obtain ⟨rfl, rfl, rfl, rfl, rfl⟩ | ⟨rfl, rfl, rfl, rfl, rfl⟩ := h <;>
  exact ⟨⟨by decide, by decide, by decide, by decide, fun _ _ _ => rfl, fun s p acc v hs => by simp [State.writeBarred, hs], by decide, by decide⟩, rfl⟩

/-- The value of an object with a plain range is in range where it lies between the two ends. -/
theorem PlainRange.rangeOk (h : PlainRange i k ty lo hi) (p : Params) (hk : Int) (v : Nat) :
    p.rangeOk hk ty i k v = (decide (lo ≤ v) && decide (v ≤ hi)) := by
  obtain ⟨r, hr, hpair⟩ := List.map_eq_singleton_iff.1 h.range
  obtain ⟨hlo, hhi⟩ := Prod.mk.inj hpair
  have hall : ((rangesOf (i / 0x1000)).all fun r => !r.covers i k || (decide (r.lo ≤ v) && decide (r.hi ≥ v))) =
      (decide (r.lo ≤ v) && decide (r.hi ≥ v)) := by
    have hfilter := List.all_filter (l := rangesOf (i / 0x1000)) (p := fun r => r.covers i k) (q := fun r => decide (r.lo ≤ v) && decide (r.hi ≥ v))
    rw [hr, List.all_cons, List.all_nil, Bool.and_true] at hfilter
    simpa using hfilter.symm
  have hzero : (typeBounds ty).1 = 0 := by
    obtain rfl | rfl | rfl := h.unsigned <;> rfl
  unfold Params.rangeOk
  rw [h.alone, Bool.and_true]
  refine (congrArg (_ && ·) hall).trans ?_
  rw [hlo, hhi, hzero, Bool.eq_iff_iff]
  have hbound := h.bound
  simp only [Bool.and_eq_true, decide_eq_true_eq]
  omega

theorem PlainRange.value (h : PlainRange i k ty lo hi) (hty : x.ty = ty) : x.value = x.raw := by
  unfold WriteEntry.value
  rw [if_neg]
  obtain rfl | rfl | rfl := h.unsigned <;> rw [hty] <;> decide

theorem PlainRange.typed (h : PlainRange i k ty lo hi) (hix : x.index = i) (hk : x.sub = k) (hty : x.ty = ty) (hclean : x.clean = true) :
    x.typed = true := by
  obtain ⟨o, ho, hok⟩ := (Option.any_eq_true _ _).1 h.info
  have hcode : typeCodes.contains ty = true := by
    obtain rfl | rfl | rfl := h.unsigned <;> rfl
  unfold WriteEntry.typed
  rw [hclean, hty, hcode, hix, hk, ho]
  simp only [Bool.and_eq_true] at hok
  simpa using hok.1

/-- The judgement of an entry for an object with a plain range (R421, R427). -/
theorem PlainRange.judged (h : PlainRange i k ty lo hi) (hix : x.index = i) (hk : x.sub = k) (hty : x.ty = ty) (hclean : x.clean = true)
    (hwritable : s.writable = true) (p : Params) : s.judgeEntry queue p x =
      if (q0Only i && queue != 0) = true then stAuth else if lo ≤ x.raw ∧ x.raw ≤ hi then 0 else stRange := by
  obtain ⟨⟨ty', acc, eff⟩, ho, hok⟩ := (Option.any_eq_true _ _).1 h.info
  obtain ⟨hty', hacc⟩ : ty' = ty ∧ acc ≠ 0 := by simpa using hok
  have hrange := h.rangeOk p s.drive.hk28 x.raw
  have hclear : (i == 0xF040) = false := beq_eq_false_iff_ne.2 h.noClear
  unfold State.judgeEntry
  rw [h.typed hix hk hty hclean, hix, hk, ho, h.value hty]
  dsimp only
  rw [hty', hrange, if_neg hacc, h.barred s p acc _ hwritable, hclear]
  by_cases hin : lo ≤ x.raw ∧ x.raw ≤ hi
  · simp [hin.1, hin.2]
  · rw [if_neg hin]
    have : (decide (lo ≤ x.raw) && decide (x.raw ≤ hi)) = false := by simpa using hin
    rw [this]
    rfl

theorem PlainRange.exec_write (h : PlainRange i k ty lo hi) (hentries : writeEntries e.ops = [x]) (hlength : e.ops.length = 3) (hix : x.index = i) :
    exec (.paramWrite e) s = .next (runWrite e true (3 * (e.ops.length / 3) + 3) false s) := by
  have hall : decide (1 ≤ e.ops.length ∧ e.ops.length ≤ 180 ∧ e.ops.length % 3 = 0) = true := by rw [hlength]; decide
  have hzero : ((writeEntries e.ops).all fun x => x.index == 0xC030) = false := by
    rw [hentries, List.all_cons, hix, beq_eq_false_iff_ne.2 h.noKey]
    rfl
  rw [← hall, ← hzero]
  rfl

section
variable (h : PlainRange i k ty lo hi) (hentries : writeEntries e.ops = [x]) (hlength : e.ops.length = 3) (hboot : s.boot.recovery = false)
  (hclean : x.clean = true) (hwritable : s.writable = true) (hix : x.index = i) (hk : x.sub = k) (hty : x.ty = ty)
  (hqueue : e.queue.val ∈ [0, 2])
include h hentries hlength hboot hclean hwritable hix hk hty hqueue

/-- A PARAM.WRITE that names such an object alone, in the wrong queue of the two or beyond its range, is refused. -/
theorem PlainRange.refused (hauth : e.queue.val = 0 → s.authOk 0x0402 false e = true) (hst : st ≠ 0) (hjudged : (if (q0Only i && e.queue.val != 0) = true then stAuth
      else if lo ≤ x.raw ∧ x.raw ≤ hi then 0 else stRange) = st) :
    Completes (.paramWrite e) s fun t => Quiet t s ∧ ∃ w, t.answered (e.ref 0x0402) st [w] := by
  have hexec := h.exec_write (s := s) hentries hlength hix
  rw [runWrite_refused hqueue hauth hboot hentries (h.typed hix hk hty hclean) ((h.judged hix hk hty hclean hwritable _).trans hjudged) hst] at hexec
  exact ⟨_, hexec, silent_complete .., _, complete_answered ..⟩

/-- A PARAM.WRITE that names such an object alone, with a value in its range, stores it. -/
theorem PlainRange.stored (hauth : e.queue.val = 0 → s.authOk 0x0402 false e = true) (hwf : s.par.wf = true) (hq0 : (q0Only i && e.queue.val != 0) = false)
    (hlo : lo ≤ x.raw) (hhi : x.raw ≤ hi) :
    Completes (.paramWrite e) s fun t => t.answered (e.ref 0x0402) stOk [] ∧ t.par.storedOf i k = x.raw := by
  have hexec := h.exec_write (s := s) hentries hlength hix
  have hjudged : s.judgeEntry e.queue.val s.par x = 0 := by
    rw [h.judged hix hk hty hclean hwritable, hq0, if_neg Bool.false_ne_true, if_pos ⟨hlo, hhi⟩]
  rw [runWrite_single hqueue hauth hboot hentries hjudged, storeEntry_plain (hix ▸ h.noClear) (hix ▸ h.noKey), hix, hk, h.value hty] at hexec
  refine ⟨_, hexec, complete_answered .., ?_⟩
  rw [complete_par]
  exact (storedOf_written ..).trans (storedOf_setStored_self _ _ _ _ hwf)
end

/-- Settles O60. -/
theorem writableRangesOfTests : Obligations.WritableRangesOfTests := by
  unfold Obligations.WritableRangesOfTests
  intro e s x i k ty lo hi hentries hlength hboot hclean hwritable hwf hix hk hty
  have hnot (hout : x.raw < lo ∨ hi < x.raw) : ¬ (lo ≤ x.raw ∧ x.raw ≤ hi) := by omega
  refine ⟨fun hobject hqueue => ?_, fun hobject => ⟨fun hqueue => ?_, fun hqueue hauth => ?_⟩⟩
  · obtain ⟨h, hq0⟩ := plainRange_of_test hobject
    have hmem : e.queue.val ∈ [0, 2] := by rw [hqueue]; decide
    have hauth : e.queue.val = 0 → s.authOk 0x0402 false e = true := fun h0 => absurd h0 (by rw [hqueue]; decide)
    refine ⟨fun hout => h.refused hentries hlength hboot hclean hwritable hix hk hty hmem hauth (by decide) ?_,
      h.stored hentries hlength hboot hclean hwritable hix hk hty hmem hauth hwf (by rw [hq0]; rfl)⟩
    rw [hq0, Bool.false_and, if_neg Bool.false_ne_true, if_neg (hnot hout)]
  · obtain ⟨h, hq0⟩ := plainRange_of_sto hobject
    have hmem : e.queue.val ∈ [0, 2] := by rw [hqueue]; decide
    refine h.refused hentries hlength hboot hclean hwritable hix hk hty hmem (fun h0 => absurd h0 (by rw [hqueue]; decide)) (by decide) ?_
    rw [hq0, hqueue]
    rfl
  · obtain ⟨h, hq0⟩ := plainRange_of_sto hobject
    have hmem : e.queue.val ∈ [0, 2] := by rw [hqueue]; decide
    have hin : (q0Only i && e.queue.val != 0) = false := by rw [hqueue]; simp
    refine ⟨fun hout => h.refused hentries hlength hboot hclean hwritable hix hk hty hmem (fun _ => hauth) (by decide) ?_,
      h.stored hentries hlength hboot hclean hwritable hix hk hty hmem (fun _ => hauth) hwf hin⟩
    rw [hin, if_neg Bool.false_ne_true, if_neg (hnot hout)]

end Sys2Proof.Machine
end

section
/-! PROOFS. Streams (O15), refuted: a stream whose bridge object reads 0 takes the triggers of bridge 1. -/

namespace Sys2Proof.Machine

/-- Bridge 1 is in RUN, and stream 1 runs on a trigger of a bridge while its bridge number is 0, with a decimation of 2. -/
def streamOfNoBridge : State :=
  let s := State.reset
  { s with
    br := s.br.set 0 { s.br[0] with state := .run }
    streams := s.streams.set 0 { s.streams[0] with running := true, trigger := 1, bridge := 0, decimation := 2 } }

/-- Refutes O15: no bridge has the number 0, and still the trigger is counted. -/
theorem not_streamRows : ¬ Obligations.StreamRows := by
  intro h
  obtain ⟨-, htrigger⟩ := h
  obtain ⟨hidle, -⟩ := htrigger 0 [] 0 streamOfNoBridge
  have hno : ∀ b : BridgeId, streamOfNoBridge.streams[(0 : StreamId)].bridge = b.val + 1 → streamOfNoBridge.br[b].state ≠ .run :=
    fun b hb => absurd (hb.symm.trans (by decide +kernel : _ = 0)) (by omega)
  have hstill := Host.Outcome.next.inj (hidle (.inr ⟨by decide +kernel, by decide +kernel, hno⟩))
  have hcount : (streamTrigger 0 [] 0 streamOfNoBridge).streams[(0 : StreamId)].count = streamOfNoBridge.streams[(0 : StreamId)].count :=
    congrArg (fun u : State => u.streams[(0 : StreamId)].count) hstill
  exact absurd hcount (by decide +kernel)

end Sys2Proof.Machine
end

section
/-! PROOFS. Sources of SS1 (O36), refuted: a heartbeat that is counted as lost already lets no group react again. -/

namespace Sys2Proof.Machine

/-- One group of all bridges, with bridge 1 in RUN; the heartbeat counts as lost, with one miss fewer than 0x7020.01 asks for. -/
def heartbeatLostBefore : State :=
  let s := putObj 0x1100 1 3 State.reset
  { s with
    br := s.br.set 0 { s.br[0] with state := .run }
    drive := { s.drive with hbMissed := 4, hbLost := true } }

/-- Refutes O36: the miss that reaches 0x7020.01 follows a loss that no heartbeat has ended, so the group has no SS1 source from it. -/
theorem not_stopRows : ¬ Obligations.StopRows := by
  intro h
  obtain ⟨-, hgroup⟩ := h
  obtain ⟨hsource, -⟩ := hgroup heartbeatLostBefore 0
  obtain ⟨-, hgr, -⟩ := completes_next (u := heartbeatMissed 0 heartbeatLostBefore) rfl
    (hsource (.heartbeatMissed 0) 2 (by decide +kernel) (by decide +kernel) (by decide +kernel)
      (.inr (.inr (.inr ⟨0, rfl, by decide +kernel, by decide +kernel, rfl, by decide +kernel, by decide +kernel, by decide +kernel⟩))))
  have hdue := congrArg (fun v : Vector Group 4 => v[0].ss1Due) hgr
  exact absurd hdue (by decide +kernel)

end Sys2Proof.Machine
end

section
/-! PROOFS. Thermal updates (O42), refuted: an update may trip its bridge, and PD7 and the gate charges of every bridge may end with the forcing. -/

namespace Sys2Proof.Machine

/-- A drive in STANDBY whose islands are still supplied, though PD7 is no longer wanted. The initial temperature lies above the trip limit, one
estimate trips, and a gate charge is measured at the first position of bridge 2. -/
def aboutToTrip : State :=
  let s := putObj 0x9110 3 1 (putObj 0x9110 6 5000 State.reset)
  { s with
    pwr := { s.pwr with domains := .replicate 8 true, pll := .replicate 3 true }
    br := s.br.set 1 { s.br[1] with pos := s.br[1].pos.set 0 { s.br[1].pos[0] with charge := [500] } } }

/-- Refutes O42: the update of bridge 1 trips it, with the forcing PD7 goes off, and the averaged gate charges of bridge 2 end (R95). -/
theorem not_thermalRows : ¬ Obligations.ThermalRows := by
  intro h
  obtain ⟨hupdate, -⟩ := h aboutToTrip 0 0
  have hcores : aboutToTrip.coresOn = true := by decide +kernel
  have hexec : exec (.thermalUpdate 0 0) aboutToTrip = .next (thermalUpdate 0 0 aboutToTrip) := by
    show Host.Outcome.next (onlyIf aboutToTrip.coresOn _ _) = _
    rw [hcores, onlyIf_true]
  obtain ⟨-, -, -, -, hothers, -⟩ := completes_next hexec (hupdate hcores (by decide +kernel))
  have hkept : ((thermalUpdate 0 0 aboutToTrip).br[(1 : BridgeId)].pos[(0 : Fin 6)]).charge = (aboutToTrip.br[(1 : BridgeId)].pos[(0 : Fin 6)]).charge := by
    rw [hothers 1 (by decide)]
  exact absurd hkept (by decide +kernel)

end Sys2Proof.Machine
end

section
/-! PROOFS. Time domains (O46), refuted: the loss of one domain may take the other one into use for the first time, with a step that ends the epoch. -/

namespace Sys2Proof.Machine

/-- Both domains are valid, none has been in use, and a new epoch length waits for the end of the epoch. -/
def neverInUse : State :=
  let s := State.reset
  { s with
    par := s.par.setStored 0xE000 1 500
    time := { s.time with dom := s.time.dom.map fun (x : Domain) => { x with valid := true } } }

/-- Refutes O46: the loss of the primary takes the secondary into use by a step of internal time, which ends the epoch (R460, R497), and with the epoch
the waiting epoch length becomes active. -/
theorem not_timeAndPartnerRows : ¬ Obligations.TimeAndPartnerRows := by
  intro h
  obtain ⟨htime, -⟩ := h
  obtain ⟨-, -, htimeout⟩ := htime neverInUse
  obtain ⟨-, -, -, -, -, hpar, -⟩ := completes_next (u := receiptTimeout 0 false neverInUse) rfl (htimeout 0 false (by decide +kernel))
  have hlength : (receiptTimeout 0 false neverInUse).act 0xE000 1 = neverInUse.act 0xE000 1 := congrArg (fun p : Params => p.activeOf 0xE000 1) hpar
  exact absurd hlength (by decide +kernel)

end Sys2Proof.Machine
end

section
/-! PROOFS. Resets (O48): what the ROM's choice of the firmware and the load of the parameters leave of a state, and what each reset keeps. -/

namespace Sys2Proof.Machine

variable {o s u : State} {c : Instr} {cause : Nat}

/-! The ROM and the parameter load (R508 to R510) -/

/-- State s is o after steps of the ROM: beside the reports the objects, the journal and the record of the firmware may have changed. -/
structure RomRuns (o s : State) : Prop where
  silent : s.silent = { o.silent with par := s.par, mem := { o.mem with journal := s.mem.journal }, boot := s.boot }
  cmd : s.io.cmd = o.io.cmd
  boot : s.boot = { o.boot with slot := s.boot.slot, trial := s.boot.trial, confirmed := s.boot.confirmed, recovery := s.boot.recovery,
                                alternateOk := s.boot.alternateOk, standbyAt := s.boot.standbyAt, bootEvents := s.boot.bootEvents }

namespace RomRuns

theorem refl (s : State) : RomRuns s s := ⟨rfl, rfl, rfl⟩

/-- A report. -/
theorem reported (hu : Reported s u) (h : RomRuns o s) : RomRuns o u := by
  have hboot := silent_eq_boot hu.silent
  refine ⟨?_, hu.cmd.trans h.cmd, by rw [hboot]; exact h.boot⟩
  rw [hu.silent, silent_eq_par hu.silent, silent_eq_mem hu.silent, hboot]
  exact h.silent

/-- A change of the objects. -/
theorem objects {p : Params} (h : RomRuns o s) : RomRuns o { s with par := p } :=
  ⟨congrArg (fun x : State => { x with par := p }) h.silent, h.cmd, h.boot⟩

/-- A change of the journal. -/
theorem journal {j : Journal} (h : RomRuns o s) : RomRuns o { s with mem := { s.mem with journal := j } } :=
  ⟨congrArg (fun x : State => { x with mem := { x.mem with journal := j } }) h.silent, h.cmd, h.boot⟩

/-- A change of what is kept of the firmware. -/
theorem firmware {sl tr cf rc al sb ev} (h : RomRuns o s) : RomRuns o { s with boot := { s.boot with
    slot := sl, trial := tr, confirmed := cf, recovery := rc, alternateOk := al, standbyAt := sb, bootEvents := ev } } := by
  refine ⟨?_, h.cmd, congrArg (fun x : Boot => { x with
    slot := sl, trial := tr, confirmed := cf, recovery := rc, alternateOk := al, standbyAt := sb, bootEvents := ev }) h.boot⟩
  generalize Boot.mk .. = b
  exact congrArg (fun x : State => { x with boot := b }) h.silent

theorem ite {p : Prop} [Decidable p] {x y : State} (hx : RomRuns o x) (hy : RomRuns o y) : RomRuns o (if p then x else y) := by
  split
  · exact hx
  · exact hy

theorem bootEvent {code payload} (h : RomRuns o s) : RomRuns o (bootEvent code payload s) := .firmware h
theorem bootFrom {k trial confirmed} (h : RomRuns o s) : RomRuns o (bootFrom k trial confirmed s) := .firmware h
theorem appendRecord {r} (h : RomRuns o s) : RomRuns o (appendRecord r s) := .ite (.journal h) (.reported (.raise (.refl _)) (.journal h))

theorem fallBack {k write} (h : RomRuns o s) : RomRuns o (fallBack k write s) := by
  refine .ite (.bootEvent (.bootFrom ?_)) (.bootEvent (.firmware h))
  cases write
  · exact h
  · exact .appendRecord h

theorem endTrials {k} (h : RomRuns o s) : RomRuns o (endTrials k s) :=
  .ite (.bootFrom (.bootEvent (.appendRecord h))) (.fallBack (.bootEvent (.appendRecord h)))

theorem reportRecords (h : RomRuns o s) : RomRuns o (reportRecords s) := by
  unfold Machine.reportRecords
  generalize List.filter _ _ = l
  induction l generalizing s with
  | nil => exact h
  | cons r t ih => exact ih (.bootEvent h)

theorem chooseFirmware (h : RomRuns o s) : RomRuns o (chooseFirmware s) := by
  have h2 : RomRuns o { Machine.reportRecords s with boot := { (Machine.reportRecords s).boot with alternateOk := false, standbyAt := none } } :=
    .firmware (.reportRecords h)
  unfold Machine.chooseFirmware
  dsimp only
  split
  · exact .ite (.ite (.bootFrom h2) (.fallBack h2))
      (.ite (.ite (.bootEvent (.bootFrom (.appendRecord h2))) (.fallBack (.appendRecord h2))) (.endTrials h2))
  · exact .ite (.bootFrom h2) (.fallBack h2)

theorem loadParams (h : RomRuns o s) : RomRuns o (loadParams s) := by
  unfold Machine.loadParams
  extract_lets load
  split
  · exact .objects h
  · exact .bootEvent (.objects h)

/-! What stays -/

theorem waiting (h : RomRuns o s) (q : Fin 4) : s.io.cmd[q].waiting = o.io.cmd[q].waiting := congrArg (fun v : Vector CmdQueue 4 => v[q].waiting) h.cmd
theorem br (h : RomRuns o s) : s.br = o.br := (congrArg State.br h.silent :)
theorem gr (h : RomRuns o s) : s.gr = o.gr := (congrArg State.gr h.silent :)
theorem cont (h : RomRuns o s) : s.cont = o.cont := (congrArg State.cont h.silent :)
theorem clove (h : RomRuns o s) : s.clove = o.clove := (congrArg State.clove h.silent :)
theorem drive (h : RomRuns o s) : s.drive = o.drive := (congrArg State.drive h.silent :)
theorem pairs (h : RomRuns o s) : s.pairs = o.pairs := (congrArg State.pairs h.silent :)
theorem pwr (h : RomRuns o s) : s.pwr = o.pwr := (congrArg State.pwr h.silent :)
theorem pending (h : RomRuns o s) : s.pending = o.pending := (congrArg State.pending h.silent :)
theorem transfer (h : RomRuns o s) : s.transfer = o.transfer := (congrArg State.transfer h.silent :)
theorem dram (h : RomRuns o s) : s.mem.dram = o.mem.dram := (congrArg (fun x : State => x.mem.dram) h.silent :)
theorem nand (h : RomRuns o s) : s.mem.nand = o.mem.nand := (congrArg (fun x : State => x.mem.nand) h.silent :)
theorem bootCause (h : RomRuns o s) : s.boot.cause = o.boot.cause := (congrArg Boot.cause h.boot :)
theorem booting (h : RomRuns o s) : s.boot.booting = o.boot.booting := (congrArg Boot.booting h.boot :)
theorem resetAt (h : RomRuns o s) : s.boot.resetAt = o.boot.resetAt := (congrArg Boot.resetAt h.boot :)
theorem watchdogAt (h : RomRuns o s) : s.boot.watchdogAt = o.boot.watchdogAt := (congrArg Boot.watchdogAt h.boot :)
theorem cloveReset (h : RomRuns o s) : s.boot.cloveReset = o.boot.cloveReset := (congrArg Boot.cloveReset h.boot :)
theorem servicePin (h : RomRuns o s) : s.boot.servicePin = o.boot.servicePin := (congrArg Boot.servicePin h.boot :)

end RomRuns

/-- A fault record is written into the store of records alone (R516). -/
theorem writeRecord_frame (event level index kind : Nat) (s : State) : ∃ rs, (writeRecord event level index kind s).silent =
    { s.silent with boot := { s.boot with records := rs, serial := (s.boot.serial + 1) % 65536 } } := by
  have hlost : (recordLost s).silent = s.silent := by
    unfold recordLost
    split
    · split
      · rfl
      · exact silent_raise4 ..
    · rfl
  exact ⟨(writeRecord event level index kind s).boot.records, (congrArg (fun x : State => ({ x with boot := { x.boot with
    records := (writeRecord event level index kind s).boot.records, serial := (x.boot.serial + 1) % 65536 } } : State)) hlost :)⟩

/-! A reset that keeps Clove (R504 to R507) -/

/-- State t has begun the boot of a cause: every forced pattern, the contactors, the drive state and Clove but for the brake are those of s; the groups,
the commands and the DRAM are as after reset. -/
structure Restarted (cause : Nat) (s t : State) : Prop where
  bootCause : t.boot.cause = cause
  booting : t.boot.booting = true
  resetAt : t.boot.resetAt = none
  cont : t.cont = s.cont
  clove : t.clove = { s.clove with brakeOn := false, brakeAt := t.clove.brakeAt }
  gr : t.gr = State.reset.gr
  drive : t.drive.state = s.drive.state
  bridge : ∀ b : BridgeId, t.br[b].force.pattern = s.br[b].force.pattern ∧ t.br[b].state ≠ .run
  waiting : ∀ q : Fin 4, t.io.cmd[q].waiting = []
  dram : t.mem.dram = []
  nand : t.mem.nand = s.mem.nand
  pending : t.pending = s.pending

/-- A reset that keeps Clove leaves a bridge its pattern, and none in RUN. -/
theorem keep_pattern (b : BridgeId) (x : Bridge) : (x.keep b).force.pattern = x.force.pattern ∧ (x.keep b).state ≠ .run := by
  refine ⟨rfl, ?_⟩
  unfold Bridge.keep
  dsimp only
  split
  · decide
  · split
    · decide
    · exact patternState_ne_run _

/-- The ROM takes nothing of it away. -/
theorem Restarted.rom {w t : State} (hw : Restarted cause s w) (h : RomRuns w t) : Restarted cause s t where
  bootCause := h.bootCause.trans hw.bootCause
  booting := h.booting.trans hw.booting
  resetAt := h.resetAt.trans hw.resetAt
  cont := h.cont.trans hw.cont
  clove := by rw [h.clove]; exact hw.clove
  gr := h.gr.trans hw.gr
  drive := (congrArg Drive.state h.drive).trans hw.drive
  bridge b := by rw [h.br]; exact hw.bridge b
  waiting q := (h.waiting q).trans (hw.waiting q)
  dram := h.dram.trans hw.dram
  nand := h.nand.trans hw.nand
  pending := h.pending.trans hw.pending

/-- A reset of a state that has the same of all that is kept. -/
theorem Restarted.ofKept {v t : State} (h : Restarted cause v t) (hcont : v.cont = s.cont) (hclove : v.clove = s.clove) (hdrive : v.drive = s.drive) (hbr : v.br = s.br)
    (hnand : v.mem.nand = s.mem.nand) (hpending : v.pending = s.pending) : Restarted cause s t where
  bootCause := h.bootCause
  booting := h.booting
  resetAt := h.resetAt
  cont := h.cont.trans hcont
  clove := by rw [← hclove]; exact h.clove
  gr := h.gr
  drive := h.drive.trans (congrArg Drive.state hdrive)
  bridge b := by rw [← hbr]; exact h.bridge b
  waiting := h.waiting
  dram := h.dram
  nand := h.nand.trans hnand
  pending := h.pending.trans hpending

theorem reset_waiting (q : Fin 4) : Io.reset.cmd[q].waiting = [] := by
  revert q
  decide

theorem warmReset_restarts (cause : Nat) (s : State) : Restarted cause s (warmReset cause s) := by
  obtain ⟨rs, hrecord⟩ := writeRecord_frame 0xF001 4 0 0x80 { s with boot := { s.boot with cause := cause } }
  unfold warmReset
  dsimp only
  generalize writeRecord _ _ _ _ _ = w at hrecord ⊢
  refine Restarted.rom ?_ (.loadParams (.chooseFirmware (.refl _)))
  have hclove : w.clove = s.clove := (congrArg State.clove hrecord :)
  have hbr : w.br = s.br := (congrArg State.br hrecord :)
  refine ⟨(congrArg (fun x : State => x.boot.cause) hrecord :), rfl, rfl, (congrArg State.cont hrecord :), ?_, rfl,
    (congrArg (fun x : State => x.drive.state) hrecord :), fun b => ?_, fun q => ?_, rfl, (congrArg (fun x : State => x.mem.nand) hrecord :),
    (congrArg State.pending hrecord :)⟩
  · exact congrArg (fun c : Clove => { c with brakeOn := false, brakeAt := w.now }) hclove
  · rw [hbr]
    simpa using keep_pattern b s.br[b]
  · exact reset_waiting q

/-! The first reset of Pelale's watchdog (R506) -/

/-- State t has begun the boot of Pelale alone. -/
structure PelaleRestarted (s t : State) : Prop where
  bootCause : t.boot.cause = 3
  booting : t.boot.booting = true
  watchdogAt : t.boot.watchdogAt = some s.now
  br : t.br = s.br
  cont : t.cont = s.cont
  clove : t.clove = s.clove
  waiting : ∀ q : Fin 4, t.io.cmd[q].waiting = []
  transfer : t.transfer = none
  dram : t.mem.dram = s.mem.dram
  nand : t.mem.nand = s.mem.nand

theorem PelaleRestarted.rom {w t : State} (hw : PelaleRestarted s w) (h : RomRuns w t) : PelaleRestarted s t where
  bootCause := h.bootCause.trans hw.bootCause
  booting := h.booting.trans hw.booting
  watchdogAt := h.watchdogAt.trans hw.watchdogAt
  br := h.br.trans hw.br
  cont := h.cont.trans hw.cont
  clove := h.clove.trans hw.clove
  waiting q := (h.waiting q).trans (hw.waiting q)
  transfer := h.transfer.trans hw.transfer
  dram := h.dram.trans hw.dram
  nand := h.nand.trans hw.nand

theorem pelaleWatchdog_first (hfirst : ∀ u, s.boot.watchdogAt = some u → u + 60 * ticksPerS ≤ s.now) : PelaleRestarted s (pelaleWatchdog true s) := by
  have hnot : (s.boot.watchdogAt.any fun t => decide (s.now < t + 60 * ticksPerS)) = false := by
    rw [Option.any_eq_false]
    exact fun u hu => by simpa using hfirst u hu
  obtain ⟨rs, hrecord⟩ := writeRecord_frame 0xF001 4 0 0x80 { s with boot := { s.boot with cause := 3 } }
  unfold pelaleWatchdog
  rw [hnot]
  dsimp only
  rw [if_neg (by simp)]
  generalize writeRecord _ _ _ _ _ = w at hrecord ⊢
  refine PelaleRestarted.rom ?_ (.bootEvent (.chooseFirmware (.refl _)))
  exact ⟨rfl, rfl, congrArg some (congrArg State.now hrecord :), (congrArg State.br hrecord :), (congrArg State.cont hrecord :),
    (congrArg State.clove hrecord :), reset_waiting, rfl, (congrArg (fun x : State => x.mem.dram) hrecord :),
    (congrArg (fun x : State => x.mem.nand) hrecord :)⟩

/-! Resets that lose every source, or restart Clove (R504, R505) -/

/-- State t is as after reset but for the NAND, the debug flags and the bridges given; the cause is noted. -/
structure ColdStarted (cause : Nat) (bs : Vector Bridge 4) (s t : State) : Prop where
  bootCause : t.boot.cause = cause
  br : t.br = bs
  gr : t.gr = State.reset.gr
  dram : t.mem.dram = []
  nand : t.mem.nand = s.mem.nand
  waiting : ∀ q : Fin 4, t.io.cmd[q].waiting = []
  flag : ∀ q : PairId, t.pairs[q].flag = s.pairs[q].flag

theorem ColdStarted.rom {bs : Vector Bridge 4} {w t : State} (hw : ColdStarted cause bs s w) (h : RomRuns w t) : ColdStarted cause bs s t where
  bootCause := h.bootCause.trans hw.bootCause
  br := h.br.trans hw.br
  gr := h.gr.trans hw.gr
  dram := h.dram.trans hw.dram
  nand := h.nand.trans hw.nand
  waiting q := (h.waiting q).trans (hw.waiting q)
  flag q := by rw [h.pairs]; exact hw.flag q

theorem coldState_cold (s : State) : ColdStarted s.boot.cause State.reset.br s (coldState s) := by
  refine ⟨rfl, rfl, rfl, rfl, rfl, reset_waiting, fun q => ?_⟩
  have hmap : (coldState s).pairs[q] = { Pair.reset with flag := s.pairs[q].flag, debugger := s.pairs[q].debugger } := Vector.getElem_map ..
  rw [hmap]

theorem ColdStarted.counted {k : Nat} {bs : Vector Bridge 4} {w : State} (h : ColdStarted k bs s w) : ColdStarted cause bs s (countReset cause w) :=
  ⟨rfl, h.br, h.gr, h.dram, h.nand, h.waiting, h.flag⟩

/-- The ROM and the parameter load run on a state that the boot has only noted. -/
theorem beginBoot_runs (reason : Nat) (w : State) : ∃ x : State, RomRuns x (beginBoot reason w) ∧
    x = { w with boot := x.boot, pwr := x.pwr } ∧ x.boot.cause = w.boot.cause ∧ x.boot.booting = true ∧ x.boot.cloveReset = true ∧
    x.boot.servicePin = w.boot.servicePin ∧ x.pwr = { w.pwr with reason := reason, later := 0, waking := true, abandoned := false } :=
  ⟨_, .loadParams (.chooseFirmware (.refl _)), rfl, rfl, rfl, rfl, rfl, rfl⟩

theorem ColdStarted.boots {bs : Vector Bridge 4} {w : State} (reason : Nat) (h : ColdStarted cause bs s w) :
    ColdStarted cause bs s (beginBoot reason w) ∧ (beginBoot reason w).boot.booting = true ∧ (beginBoot reason w).boot.cloveReset = true ∧
      (beginBoot reason w).drive = w.drive ∧ (beginBoot reason w).clove = w.clove ∧ (beginBoot reason w).boot.servicePin = w.boot.servicePin := by
  obtain ⟨x, hrom, hx, hcause, hbooting, hclove, hpin, -⟩ := beginBoot_runs reason w
  refine ⟨.rom ⟨hcause.trans h.bootCause, ?_, ?_, ?_, ?_, ?_, ?_⟩ hrom, hrom.booting.trans hbooting, hrom.cloveReset.trans hclove, ?_, ?_,
    hrom.servicePin.trans hpin⟩
  · rw [hx]; exact h.br
  · rw [hx]; exact h.gr
  · rw [hx]; exact h.dram
  · rw [hx]; exact h.nand
  · rw [hx]; exact h.waiting
  · rw [hx]; exact h.flag
  · rw [hrom.drive, hx]
  · rw [hrom.clove, hx]

/-- Where PD7 is wanted no gate charge ends. -/
theorem settlePd7_on (h : s.pd7Wanted = true) : settlePd7 s = { s with pwr := { s.pwr with domains := s.pwr.domains.set 7 true } } := by
  unfold settlePd7
  dsimp only
  rw [h, Bool.not_true, Bool.and_false]
  rfl

/-- In a boot that reset Clove, PD7 serves Clove's test. -/
theorem pd7Wanted_of_test (hboot : s.boot.booting = true) (hclove : s.boot.cloveReset = true) (htest : s.clove.testRun = true) : s.pd7Wanted = true := by
  unfold State.pd7Wanted
  rw [hboot, hclove, Bool.and_self, Bool.or_true, if_pos rfl, htest]

/-- The bridges as after reset, with the period numbers and dither phases of those given (R46, R51). -/
def periodKept (bs : Vector Bridge 4) : Vector Bridge 4 := Vector.ofFn fun b => { State.reset.br[b] with car := { State.reset.br[b].car with
  period := bs[b].car.period, dither := bs[b].car.dither } }

/-- The state c after a cold start of the service pin, which leaves the power of s and has Clove's test to run (R504, R505). -/
def testDue (s c : State) : State :=
  { c with pwr := s.pwr, drive := { c.drive with state := .standby },
           boot := { c.boot with bootNumber := s.boot.bootNumber, retained := s.boot.retained },
           clove := { c.clove with testRun := true },
           br := Vector.ofFn fun b => { c.br[b] with car := { c.br[b].car with period := s.br[b].car.period, dither := s.br[b].car.dither } } }

theorem servicePinReset_cold (hhv : s.pwr.hv = false) : servicePinReset s = settlePd7 (beginBoot 0x0A (countReset 6 (testDue s (coldState
    { writeRecord 0xF001 4 0 0x80 { s with boot := { s.boot with servicePin := false, cause := 6 } } with pwr := { s.pwr with reason := 0x0A } })))) :=
  if_neg (ne_true_of_eq_false hhv)

theorem testDue_cold {w c : State} (hcold : ColdStarted cause State.reset.br w c) (hnand : w.mem.nand = s.mem.nand) (hpairs : w.pairs = s.pairs) :
    ColdStarted cause (periodKept s.br) s (testDue s c) := by
  obtain ⟨hc, hbr, hgr, hdram, hn, hwaiting, hflag⟩ := hcold
  refine ⟨hc, ?_, hgr, hdram, hn.trans hnand, hwaiting, fun q => ?_⟩
  · show Vector.ofFn _ = _
    rw [hbr]
    rfl
  · rw [← hpairs]
    exact hflag q

/-- The service pin without HV starts Clove's test in STANDBY. -/
theorem servicePinReset_starts (hhv : s.pwr.hv = false) : ColdStarted 6 (periodKept s.br) s (servicePinReset s) ∧
    (servicePinReset s).boot.booting = true ∧ (servicePinReset s).boot.cloveReset = true ∧ (servicePinReset s).drive.state = .standby ∧
    (servicePinReset s).clove.testRun = true ∧ (servicePinReset s).boot.servicePin = false := by
  rw [servicePinReset_cold hhv]
  obtain ⟨rs, hrecord⟩ := writeRecord_frame 0xF001 4 0 0x80 { s with boot := { s.boot with servicePin := false, cause := 6 } }
  generalize writeRecord _ _ _ _ _ = w at hrecord ⊢
  have hnand : w.mem.nand = s.mem.nand := (congrArg (fun x : State => x.mem.nand) hrecord :)
  have hpairs : w.pairs = s.pairs := (congrArg State.pairs hrecord :)
  have hpin : (coldState { w with pwr := { s.pwr with reason := 0x0A } }).boot.servicePin = false := (congrArg (fun x : State => x.boot.servicePin) hrecord :)
  have hcold := coldState_cold { w with pwr := { s.pwr with reason := 0x0A } }
  generalize coldState _ = c at hcold hpin ⊢
  have hdue := (testDue_cold (s := s) hcold hnand hpairs).counted (cause := 6)
  have hready : (countReset 6 (testDue s c)).drive.state = .standby ∧ (countReset 6 (testDue s c)).clove.testRun = true ∧
      (countReset 6 (testDue s c)).boot.servicePin = false := ⟨rfl, rfl, hpin⟩
  generalize countReset 6 _ = v at hdue hready ⊢
  obtain ⟨hstandby, htestRun, hreleased⟩ := hready
  have hboots := hdue.boots 0x0A
  generalize beginBoot 0x0A v = x at hboots ⊢
  obtain ⟨⟨hc, hb, hg, hd, hn, hw, hf⟩, hbooting, hreset, hdrive, hclove, hservice⟩ := hboots
  have htest : x.clove.testRun = true := by rw [hclove, htestRun]
  rw [settlePd7_on (pd7Wanted_of_test hbooting hreset htest)]
  exact ⟨⟨hc, hb, hg, hd, hn, hw, hf⟩, hbooting, hreset, (congrArg Drive.state hdrive).trans hstandby, htest, hservice.trans hreleased⟩

/-! What each reset of Clove's side is -/

theorem pelaleWatchdogExpiry_next {good : Bool} (hon : s.pwr.domains[2] = true) : exec (.pelaleWatchdogExpiry good) s = .next (pelaleWatchdog good s) := by
  show Host.Outcome.next (onlyIf _ _ _) = _
  rw [hon, onlyIf_true]

theorem hostReset_restarts (hreset : s.boot.resetAt.isSome = true) : Restarted 4 s (hostReset s) := by
  obtain ⟨⟨t0, code⟩, hat⟩ := Option.isSome_iff_exists.1 hreset
  have hreset : hostReset s = warmReset 4 (setNow t0 s) := by
    unfold hostReset
    rw [hat]
  rw [hreset]
  exact (warmReset_restarts 4 (setNow t0 s)).ofKept rfl rfl rfl rfl rfl rfl

theorem cloveReset_restarts (hon : s.pwr.domains[3] = true) (h0 : s.canRun 0 = false) (h1 : s.canRun 1 = false) : Restarted 5 s (cloveReset s) := by
  unfold cloveReset
  rw [if_neg (by rw [hon, h0, h1]; decide)]
  exact warmReset_restarts 5 s

theorem pelaleWatchdog_bad : Restarted 5 s (pelaleWatchdog false s) := by
  have hreset : ∀ v : State, v.cont = s.cont → v.clove = s.clove → v.drive = s.drive → v.br = s.br → v.mem.nand = s.mem.nand → v.pending = s.pending →
      Restarted 5 s (warmReset 5 v) := fun v => (warmReset_restarts 5 v).ofKept
  unfold pelaleWatchdog
  dsimp only
  rw [if_pos (by simp)]
  refine .rom (w := warmReset 5 _) ?_ (.bootEvent (.refl _))
  apply hreset <;> rfl

theorem servicePinReset_restarts (hhv : s.pwr.hv = true) : Restarted 6 s (servicePinReset s) := by
  have hreset : ∀ v : State, v.cont = s.cont → v.clove = s.clove → v.drive = s.drive → v.br = s.br → v.mem.nand = s.mem.nand → v.pending = s.pending →
      Restarted 6 s (warmReset 6 v) := fun v => (warmReset_restarts 6 v).ofKept
  unfold servicePinReset
  dsimp only
  rw [if_pos hhv]
  exact hreset _ rfl rfl rfl rfl rfl rfl

theorem busSource_of_port (h : ∃ p : PortId, s.pwr.delivering[p] = true) : s.busSource = true := by
  obtain ⟨p, hp⟩ := h
  have hany : s.pwr.delivering.any id = true := Vector.any_eq_true.2 ⟨p.val, p.2, hp⟩
  unfold State.busSource
  rw [hany, Bool.true_or]

theorem powerOn_starts (hport : ∃ p : PortId, s.pwr.delivering[p] = true) : ColdStarted 1 State.reset.br s (powerOn s) ∧
    (powerOn s).boot.booting = true ∧ (powerOn s).boot.cloveReset = true ∧ (powerOn s).drive.state = .sleep := by
  unfold powerOn
  rw [busSource_of_port hport, if_pos rfl]
  unfold coldReset
  have hcold := (coldState_cold s).counted (cause := 1)
  have hsleep : (countReset 1 (coldState s)).drive.state = .sleep := rfl
  generalize countReset 1 _ = v at hcold hsleep ⊢
  obtain ⟨hstarted, hbooting, hreset, hdrive, -⟩ := hcold.boots 0x09
  exact ⟨hstarted, hbooting, hreset, (congrArg Drive.state hdrive).trans hsleep⟩

/-- The end of the only supply of PD0 leaves the state as after reset but for what no supply keeps; nothing boots. -/
theorem keepAliveLoss_cold (hkeep : s.pwr.keepAlive = true) (hbus : s.busSource = false) (hhv : s.pwr.hv = false) :
    ∃ t, exec .keepAliveLoss s = .next t ∧ ColdStarted 2 State.reset.br s t ∧ t.boot.booting = false ∧ t.pwr.keepAlive = false ∧
      t.pwr.domains = State.reset.pwr.domains ∧ t.drive.state = .sleep := by
  refine ⟨countReset 2 (coldState { s with pwr := { s.pwr with keepAlive := false } }),
    congrArg Host.Outcome.next (if_neg (by rw [hkeep, hbus, hhv]; decide)), ?_⟩
  have hcold := (coldState_cold { s with pwr := { s.pwr with keepAlive := false } }).counted (cause := 2)
  have hrest : (coldState { s with pwr := { s.pwr with keepAlive := false } }).boot.booting = false ∧
      (coldState { s with pwr := { s.pwr with keepAlive := false } }).pwr.keepAlive = false ∧
      (coldState { s with pwr := { s.pwr with keepAlive := false } }).pwr.domains = State.reset.pwr.domains ∧
      (coldState { s with pwr := { s.pwr with keepAlive := false } }).drive.state = .sleep := ⟨rfl, rfl, rfl, rfl⟩
  generalize coldState _ = c at hcold hrest ⊢
  obtain ⟨hc, hbr, hgr, hdram, hnand, hwaiting, hflag⟩ := hcold
  exact ⟨⟨hc, hbr, hgr, hdram, hnand, hwaiting, hflag⟩, hrest⟩

/-- Settles O48: each reset is a change of named fields, after which only the ROM and the parameter load run. -/
theorem resetRows : Obligations.ResetRows := by
  unfold Obligations.ResetRows
  refine ⟨fun s => ⟨fun c cause hcause => ?_, fun hon hfirst => ?_⟩, fun s => ⟨fun c cause hcause => ?_, fun ⟨p, hp⟩ => ?_, fun hkeep hbus hhv => ?_, rfl⟩⟩
  · obtain ⟨u, hexec, hrestarts⟩ : ∃ u, exec c s = .next u ∧ Restarted cause s u := by
      obtain ⟨rfl, hreset, rfl⟩ | ⟨rfl, hon, h0, h1, rfl⟩ | ⟨rfl, hon, rfl⟩ | ⟨rfl, hhv, rfl⟩ := hcause
      · exact ⟨hostReset s, rfl, hostReset_restarts hreset⟩
      · exact ⟨cloveReset s, rfl, cloveReset_restarts hon h0 h1⟩
      · exact ⟨pelaleWatchdog false s, pelaleWatchdogExpiry_next hon, pelaleWatchdog_bad⟩
      · exact ⟨servicePinReset s, rfl, servicePinReset_restarts hhv⟩
    obtain ⟨hc, hbooting, hresetAt, hcont, hclove, hgr, hdrive, hbridge, hwaiting, hdram, hnand, hpending⟩ := hrestarts
    exact ⟨u, hexec, hc, hbooting, hresetAt, hcont, hclove, hgr, hdrive, hbridge, hwaiting, hdram, hnand, hpending⟩
  · obtain ⟨hc, hbooting, hat, hbr, hcont, hclove, hwaiting, htransfer, hdram, hnand⟩ := pelaleWatchdog_first hfirst
    exact ⟨_, pelaleWatchdogExpiry_next hon, hc, hbooting, hat, hbr, hcont, hclove, hwaiting, htransfer, hdram, hnand⟩
  · obtain ⟨u, bs, hexec, ⟨hc, hbr, hgr, hdram, hnand, hwaiting, hflag⟩, hbs, hbooting, hreset, hdrive, hpin⟩ : ∃ u bs, exec c s = .next u ∧
        ColdStarted cause bs s u ∧ bs = (if cause = 6 then periodKept s.br else State.reset.br) ∧ u.boot.booting = true ∧ u.boot.cloveReset = true ∧
        u.drive.state = (if cause = 6 then .standby else .sleep) ∧ (cause = 6 → u.clove.testRun = true ∧ u.boot.servicePin = false) := by
      obtain ⟨rfl, hport, rfl⟩ | ⟨rfl, hhv, rfl⟩ := hcause
      · obtain ⟨hcold, hbooting, hreset, hdrive⟩ := powerOn_starts hport
        exact ⟨powerOn s, _, rfl, hcold, rfl, hbooting, hreset, hdrive, fun h => absurd h (by decide)⟩
      · obtain ⟨hcold, hbooting, hreset, hdrive, htest, hpin⟩ := servicePinReset_starts hhv
        exact ⟨servicePinReset s, _, rfl, hcold, rfl, hbooting, hreset, hdrive, fun _ => ⟨htest, hpin⟩⟩
    refine ⟨u, hexec, hc, hbooting, hreset, fun b => ?_, hgr, hdram, hnand, hwaiting, hflag, hdrive, hpin⟩
    rw [hbr, hbs]
    split
    · exact Vector.getElem_ofFn ..
    · rfl
  · show Host.Outcome.next _ = _
    rw [busSource_of_port ⟨p, hp⟩, Bool.or_true, Bool.true_or, if_pos rfl]
  · obtain ⟨t, hexec, ⟨hc, hbr, hgr, hdram, hnand, hwaiting, hflag⟩, hbooting, halive, hdomains, hsleep⟩ := keepAliveLoss_cold hkeep hbus hhv
    exact ⟨t, hexec, hc, hbooting, halive, hdomains, hbr, hgr, hdram, hnand, hwaiting, hflag, hsleep⟩

end Sys2Proof.Machine
end

section
/-! PROOFS. The memory arbiter (O44): the grant of a slot to its owner, the ends of a cycle group and of a NAND operation. -/

namespace Sys2Proof.Machine

variable {o s u : State} {r : Fin 8} {b : Burst}

/-! What the requesters note of a cycle group (R383, R388) -/

/-- State s is o after the notes of requesters that were not granted: beside the reports only the state of requesters, and not that of the granted
one, has changed. -/
structure Noted (granted : Option (Fin 8)) (o s : State) : Prop where
  silent : s.silent = { o.silent with arb := { o.arb with reqs := s.arb.reqs } }
  kept : ∀ r, granted = some r → s.arb.reqs[r] = o.arb.reqs[r]

namespace Noted
variable {k : Option (Fin 8)}

theorem refl (s : State) : Noted k s s := ⟨rfl, fun _ _ => rfl⟩

theorem modReq {f : Requester → Requester} (hr : k ≠ some r) (h : Noted k o s) : Noted k o (modReq r f s) := by
  refine ⟨congrArg (fun x : State => { x with arb := { x.arb with reqs := s.arb.reqs.set r (f s.arb.reqs[r]) } }) h.silent, fun q hq => ?_⟩
  exact (Vector.getElem_set_ne r.2 q.2 fun heq => hr (by rw [hq, Fin.ext heq])).trans (h.kept q hq)

theorem bump {i sub : Nat} (h : Noted k o s) : Noted k o (bump i sub s) := ⟨h.silent, h.kept⟩

theorem raise4 {code : Nat} {p : List Int} (h : Noted k o s) : Noted k o (raise4 code p s) :=
  ⟨by rw [silent_raise4, raise4_arb]; exact h.silent, by rw [raise4_arb]; exact h.kept⟩

theorem hintFor {slot : Nat} (hr : k ≠ some r) (h : Noted k o s) : Noted k o (hintFor r slot s) := by
  unfold Machine.hintFor
  dsimp only
  split
  · split
    · exact h
    · exact .bump (.modReq hr h)
  · unfold onlyIf
    split
    · exact .bump (.modReq hr h)
    · exact .modReq hr h

theorem foldl {f : State → Fin 8 → State} (hf : ∀ u q, Noted k o u → Noted k o (f u q)) (h : Noted k o s) (l : List (Fin 8)) :
    Noted k o (l.foldl f s) := by
  induction l generalizing s with
  | nil => exact h
  | cons q t ih => exact ih (hf s q h)

end Noted

/-! A cycle group without a burst in progress (R382, R383) -/

/-- The requesters have put their requests of a cycle group. -/
def State.asking (s : State) (reqs : Vector (Option Burst) 8) : State :=
  { s with arb := { s.arb with reqs := Vector.ofFn fun r => { s.arb.reqs[r] with requesting := reqs[r].isSome } } }

/-- A word that is not read again goes on as it is. -/
theorem scrubAgain_none {reqs : Vector (Option Burst) 8} (h : ∀ b, reqs[(7 : Fin 8)] = some b → b.kind ≠ .scrub) (s : State) : scrubAgain reqs s = s := by
  unfold scrubAgain
  split
  · next b hb =>
    dsimp only
    split
    · exact if_neg (h b hb)
    · rfl
  · rfl

theorem applyHeld_none (h : ∀ g : GroupId, s.gr[g].atlas.buffer = []) : applyHeld s = s := by
  unfold applyHeld
  rw [List.find?_eq_none.2 fun g _ => by rw [h g]; simp]

/-- The next slot of the round. -/
def State.nextSlot (s : State) (slot : Nat) : State := { s with arb := { s.arb with slot := (slot + 1) % 64 } }

/-- After a grant only the notes of the others follow, where no scrub reads again and no update is held. -/
theorem cycleGroup_ends {waiting : Vector (List Burst) 8} {k : Option (Fin 8)} (hburst : s.arb.burst = none)
    (hgrant : grantSlot (s.asks waiting) (s.asking (s.asks waiting)) = (u, k))
    (hscrub : k = some 7 → ∀ b, (s.asks waiting)[(7 : Fin 8)] = some b → b.kind ≠ .scrub)
    (hheld : k = some 3 → ∀ g : GroupId, u.gr[g].atlas.buffer = []) (hasks : ∀ r, k = some r → (s.asks waiting)[r].isNone = false) :
    ∃ v, Noted k u v ∧ cycleGroup waiting s = v.nextSlot s.arb.slot := by
  unfold cycleGroup
  extract_lets +onlyGivenNames reqs src s1 slot o t v w
  have hfree : s1.arb.burst = none := hburst
  have ht : t = (u, k) := by
    simp only [t, hfree]
    exact hgrant
  have hv : Noted k u v := by
    refine .foldl (fun a q h => ?_) (by rw [ht]; exact .refl u) _
    split
    · next hnone => exact .modReq (fun hq => by rw [hasks q hq] at hnone; exact Bool.false_ne_true hnone) h
    · split
      · exact h
      · next hq =>
        rw [ht] at hq
        exact .hintFor hq (.modReq hq h)
  have hw : w = v := by
    show onlyIf _ _ v = v
    unfold onlyIf
    split
    · next hk =>
      rw [ht] at hk
      exact scrubAgain_none (hscrub (by simpa using hk)) v
    · rfl
  have hgr : v.gr = u.gr := (congrArg State.gr hv.silent :)
  refine ⟨v, hv, ?_⟩
  rw [hw, ht]
  unfold onlyIf State.nextSlot
  split
  · next hk => exact applyHeld_none fun g => by rw [← hheld (by simpa using hk) g, ← hgr]
  · rfl

/-- The owner of a slot that no refresh takes is granted its burst. -/
theorem grantSlot_owner {reqs : Vector (Option Burst) 8} (hrefresh : s.arb.refresh = false) (howner : s.arb.table.toList.getD s.arb.slot 0xFF = r.val)
    (hreq : reqs[r] = some b) : grantSlot reqs s = (grant r b (bump (reqObj r) 1 s), some r) := by
  unfold grantSlot
  dsimp only
  rw [hrefresh, Bool.false_and, if_neg Bool.false_ne_true]
  simp only [howner]
  rw [dif_pos r.2]
  have hget : reqs[r.val] = some b := hreq
  rw [hget]
  rfl

theorem background_none {reqs : Vector (Option Burst) 8} (hnone : ∀ r : Fin 8, reqs[r] = none) : s.background reqs = none := by
  unfold State.background
  simp only [hnone]
  rfl

/-- Where none requests, no burst is granted. -/
theorem grantSlot_idle {reqs : Vector (Option Burst) 8} (hnone : ∀ r : Fin 8, reqs[r] = none) : ∃ u, grantSlot reqs s = (u, none) ∧
    u.silent = { s.silent with arb := { s.arb with refresh := s.arb.refresh && s.arb.table.toList.getD s.arb.slot 0xFF != 7 } } := by
  unfold grantSlot
  dsimp only
  split
  · next htaken =>
    simp only [Bool.and_eq_true, beq_iff_eq] at htaken
    refine ⟨_, rfl, ?_⟩
    rw [htaken.1, htaken.2]
    rfl
  · next hnot =>
    have hrefresh : (s.arb.refresh && s.arb.table.toList.getD s.arb.slot 0xFF != 7) = s.arb.refresh := by
      cases h : s.arb.refresh
      · rfl
      · simpa [h] using hnot
    rw [hrefresh, background_none hnone]
    split
    · next r b howner =>
      exfalso
      split at howner
      · next hlt =>
        have hget := hnone ⟨_, hlt⟩
        rw [Fin.getElem_fin] at hget
        rw [hget] at howner
        cases howner
      · cases howner
    · refine ⟨_, rfl, ?_⟩
      split <;> rfl

theorem asks_one {waiting : Vector (List Burst) 8} (hwaiting : waiting[r] = [b]) (hlearn : r = 3 → s.die.level < 2) (hdma : r = 4 → s.dmaRests = false) :
    (s.asks waiting)[r] = some b := by
  unfold State.asks
  rw [Fin.getElem_fin, Vector.getElem_ofFn]
  rw [if_neg]
  · show (waiting[r].find? _).orElse _ = _
    rw [hwaiting, List.find?_singleton]
    split <;> rfl
  · rintro (⟨h3, hlevel⟩ | ⟨h4, hrests⟩)
    · have := hlearn (Fin.ext h3)
      omega
    · rw [hdma (Fin.ext h4)] at hrests
      exact Bool.false_ne_true hrests

theorem asks_none {waiting : Vector (List Burst) 8} (hnone : ∀ r : Fin 8, waiting[r] = []) (r : Fin 8) : (s.asks waiting)[r] = none := by
  unfold State.asks
  rw [Fin.getElem_fin, Vector.getElem_ofFn]
  split
  · rfl
  · show (waiting[r].find? _).orElse _ = _
    rw [hnone]
    rfl

/-! The word of a burst (R378) -/

theorem moveWords_one (hwrite : b.write = true) : ∃ p, moveWords r b 0 1 s = (if s.mayWrite r b.addr = true then putCell b.addr (b.words.getD 0 0) s
    else bump (reqObj r) 5 (raise4 0x6802 p (modReq r (fun x => { x with refused := true }) s))) := by
  have hall : ((List.range (min 1 8)).drop 0).all (fun k => s.mayWrite r (b.addr + k)) = s.mayWrite r b.addr := Bool.and_true _
  refine ⟨[(r.val : Int), (b.addr : Int)], ?_⟩
  unfold moveWords
  dsimp only
  rw [if_pos hwrite, hall]
  rfl

/-- What a granted word leaves: it stands in the memory, or its refusal is marked. -/
structure Written (r : Fin 8) (b : Burst) (s u : State) : Prop where
  silent : u.silent = { s.silent with mem := u.mem, arb := u.arb }
  allowed : s.mayWrite r b.addr = true → u.mem = s.mem.setDramWord b.addr (b.words.getD 0 0)
  refused : s.mayWrite r b.addr = false → u.mem = s.mem ∧ u.arb.reqs[r].refused = true

theorem grant_written (hwrite : b.write = true) (hcount : b.count = 1) (hstall : b.stall = 0) : Written r b s (grant r b s) := by
  have hgrant : ∃ w : State, grant r b s = moveWords r b 0 1 w ∧ w.silent = { s.silent with arb := w.arb } := by
    refine ⟨modReq r (fun y => { y with waitSince := 0, hint := none, gated := false, hold := 1 }) (peak (reqObj r) 7 (16 * s.arb.reqs[r].waitSince) s),
      ?_, rfl⟩
    unfold grant
    dsimp only
    rw [if_pos hstall, hcount]
  obtain ⟨w, hgrant, hw⟩ := hgrant
  obtain ⟨p, hmove⟩ := moveWords_one (r := r) (s := w) hwrite
  have hpairs : w.pairs = s.pairs := (congrArg State.pairs hw :)
  have hmem : w.mem = s.mem := (congrArg State.mem hw :)
  have hmay : w.mayWrite r b.addr = s.mayWrite r b.addr := by unfold State.mayWrite; rw [hpairs]
  rw [hgrant, hmove, hmay]
  by_cases hallowed : s.mayWrite r b.addr = true
  · rw [if_pos hallowed]
    refine ⟨(congrArg (fun x : State => ({ x with mem := (putCell b.addr (b.words.getD 0 0) w).mem, arb := (putCell b.addr (b.words.getD 0 0) w).arb } : State)) hw :),
      fun _ => congrArg (fun m : Mem => m.setDramWord b.addr (b.words.getD 0 0)) hmem, fun h => absurd (hallowed.symm.trans h) (by decide)⟩
  · rw [if_neg hallowed]
    refine ⟨?_, fun h => absurd h hallowed, fun _ => ⟨?_, ?_⟩⟩
    · rw [silent_bump, bump_mem, bump_arb, silent_raise4, raise4_mem, raise4_arb]
      exact (congrArg (fun x : State => ({ x with mem := w.mem, arb := (modReq r (fun x => { x with refused := true }) w).arb } : State)) hw :)
    · rw [bump_mem, raise4_mem]
      exact hmem
    · rw [bump_arb, raise4_arb]
      simp [modReq]

/-! The round boundary (R385) -/

/-- The table and the ranking of the round that begins. -/
def State.nextRound (s : State) : State :=
  { s with arb := { s.arb with slot := 0, table := (match s.arb.base with | some x => x.1 | none => s.arb.adapted.getD s.arb.table),
                               ranks := (match s.arb.base with | some x => x.2 | none => s.arb.ranks), base := none, adapted := none } }

theorem roundBoundary_noted (s : State) : Noted none s.nextRound (roundBoundary s) := by
  have hstart : (let u := (match s.arb.base with
      | some (t, k) => { s with arb := { s.arb with table := t, ranks := k, base := none, adapted := none } }
      | none => match s.arb.adapted with
        | some t => { s with arb := { s.arb with table := t, adapted := none } }
        | none => s)
      ({ u with arb := { u.arb with slot := 0 } } : State)) = s.nextRound := by
    unfold State.nextRound
    cases hbase : s.arb.base with
    | some x => rfl
    | none =>
      cases hadapted : s.arb.adapted with
      | some x => simp [hbase]
      | none => simp [hbase, hadapted]
  unfold roundBoundary
  extract_lets +onlyGivenNames old src1 u src2 v
  have hv : v = s.nextRound := hstart
  split
  · rw [hv]
    exact .refl _
  · refine .foldl (fun a q h => ?_) (.bump (.raise4 (by rw [hv]; exact .refl _))) _
    split
    · exact h
    · exact .hintFor (by simp) (.modReq (by simp) h)

/-! NAND (R381, R429) -/

theorem losePage_frame (a : Nat) (s : State) : (∃ pages slots, losePage a s =
      { s with mem := { s.mem with pages := pages }, par := { s.par with slots := slots } }) ∧ a / 1024 ∈ (losePage a s).mem.pages ∧
    (a < 0x90000000 ∨ 0x92000000 ≤ a → (losePage a s).par = s.par) := by
  have hpages : a / 1024 ∈ (if s.mem.pages.contains (a / 1024) then s.mem.pages else a / 1024 :: s.mem.pages) := by
    split
    · next h => exact List.mem_of_elem_eq_true h
    · exact List.mem_cons_self
  unfold losePage
  extract_lets +onlyGivenNames p src u
  split
  · exact ⟨⟨_, _, rfl⟩, hpages, fun h => by omega⟩
  · exact ⟨⟨_, _, rfl⟩, hpages, fun _ => rfl⟩

theorem appendRecord_frame (x : JRecord) (s : State) : ∃ j, (appendRecord x s).silent = { s.silent with mem := { s.mem with journal := j } } := by
  unfold appendRecord
  dsimp only
  split
  · exact ⟨_, rfl⟩
  · exact ⟨_, silent_raise4 ..⟩

/-- What an operation of the NAND changes outside a commit: the relocated blocks, or the unreadable pages with the images in them. -/
structure NandEnded (r : NandResult) (s u : State) : Prop where
  silent : u.silent = ({ s.silent with mem := { s.mem with relocated := u.mem.relocated, pages := u.mem.pages }, par := { s.par with slots := u.par.slots } })
  relocates : ∀ corrected worst block, r = .ok corrected worst block → 30 < worst → block ∈ u.mem.relocated
  loses : ∀ a, r = .uncorrectable a → a / 1024 ∈ u.mem.pages ∧ (a < 0x90000000 ∨ 0x92000000 ≤ a → u.par = s.par)
  keeps : (∀ a, r ≠ .uncorrectable a) → u.par = s.par ∧ u.mem.pages = s.mem.pages ∧
    ((∀ corrected worst block, r = .ok corrected worst block → worst ≤ 30) → u.mem = s.mem)

theorem nandDone_ended (req : Fin 8) (r : NandResult) (s : State) : NandEnded r s (nandDone req false r s) := by
  unfold nandDone
  rw [onlyIf_false]
  cases r with
  | ok corrected worst block =>
    dsimp only
    split
    · next hworst =>
      refine ⟨rfl, fun c w k heq _ => ?_, fun a h => NandResult.noConfusion h, fun _ => ⟨rfl, rfl, fun h => absurd (h _ _ _ rfl) (by omega)⟩⟩
      obtain ⟨rfl, rfl, rfl⟩ : corrected = c ∧ worst = w ∧ block = k := by simpa using heq
      rw [bump_mem]
      dsimp only
      split
      · next h => exact List.mem_of_elem_eq_true h
      · exact List.mem_cons_self
    · next hworst =>
      refine ⟨rfl, fun c w k heq h => ?_, fun a h => NandResult.noConfusion h, fun _ => ⟨rfl, rfl, fun _ => rfl⟩⟩
      obtain ⟨rfl, rfl, rfl⟩ : corrected = c ∧ worst = w ∧ block = k := by simpa using heq
      exact absurd h hworst
  | uncorrectable a =>
    obtain ⟨⟨pages, slots, hlost⟩, hpage, hpar⟩ := losePage_frame a s
    dsimp only
    generalize losePage a s = w at hlost hpage hpar ⊢
    refine ⟨?_, fun _ _ _ h => NandResult.noConfusion h, fun a' h => ?_, fun h => absurd rfl (h a)⟩
    · rw [silent_bump, bump_mem, bump_par, silent_raise4, raise4_mem, raise4_par, hlost]
      rfl
    · obtain rfl : a = a' := by simpa using h
      rw [bump_mem, bump_par, raise4_mem, raise4_par]
      exact ⟨hpage, hpar⟩
  | writeFailed => exact ⟨rfl, fun _ _ _ h => NandResult.noConfusion h, fun _ h => NandResult.noConfusion h, fun _ => ⟨rfl, rfl, fun _ => rfl⟩⟩

theorem commitEnd_failed {w : CommitRun} (hcommit : s.par.commit = some w) :
    (commitEnd false s).silent = { s.silent with par := { s.par with commit := none } } ∧ (commitEnd false s).answered w.ref stHardware [] := by
  unfold commitEnd
  rw [hcommit]
  dsimp only
  rw [if_neg Bool.false_ne_true]
  refine ⟨?_, complete_answered ..⟩
  rw [silent_complete, silent_bump, silent_raise4]
  rfl

/-- The end of a good image write (R429 steps 6 and 7). -/
structure Committed (w : CommitRun) (s u : State) : Prop where
  silent : u.silent = { s.silent with mem := u.mem, par := { s.par with commit := none, slots := (
    s.par.slots.set (s.otherSlot 3 0 % 2) (some { values := w.image, good := true }) (Nat.mod_lt _ (by decide))) } }
  mem : u.mem = { s.mem with journal := u.mem.journal }
  answered : u.answered w.ref stOk [BitVec.ofNat 64 (s.nextSeq 3 0 % 2 ^ 32 + 2 ^ 32 * s.clove.signature)]

theorem commitEnd_good {w : CommitRun} (hcommit : s.par.commit = some w) : Committed w s (commitEnd true s) := by
  unfold commitEnd
  rw [hcommit]
  dsimp only
  rw [if_pos rfl]
  generalize hv : appendRecord _ _ = v
  obtain ⟨j, hj⟩ : ∃ j, v.silent = { s.silent with mem := { s.mem with journal := j }, par := { s.par with commit := none, slots := (
      s.par.slots.set (s.otherSlot 3 0 % 2) (some { values := w.image, good := true }) (Nat.mod_lt _ (by decide))) } } := by
    rw [← hv]
    exact appendRecord_frame ..
  have hclove : v.clove = s.clove := (congrArg State.clove hj :)
  have hmem : v.mem = { s.mem with journal := j } := (congrArg State.mem hj :)
  refine ⟨?_, ?_, ?_⟩
  · rw [silent_complete, silent_raise4, silent_bump, complete_mem, raise4_mem, bump_mem, hmem]
    exact hj
  · rw [complete_mem, raise4_mem, bump_mem, hmem]
  · rw [raise4_clove, bump_clove, hclove]
    exact complete_answered ..

/-- Settles O44: after the grant of a slot the others only note their requests, and a NAND operation ends by the cases of its result. -/
theorem arbiterRows : Obligations.ArbiterRows := by
  unfold Obligations.ArbiterRows
  refine fun s => ⟨fun reqs r u hon hburst hrefresh howner hreq hwrite hcount hstall hlearn hdma hscrub => ?_, fun reqs hon hburst hnone => ?_, rfl,
    fun hon => ?_, fun req r hon => ?_, fun req w hon hcommit => ?_, fun req w hon hcommit => ?_⟩
  · have hrefresh' : (s.asking (s.asks reqs)).arb.refresh = false := hrefresh
    have hasked := asks_one (s := s) hreq (fun h => (hlearn h).1) hdma
    have hgrant := grantSlot_owner (s := s.asking (s.asks reqs)) hrefresh howner hasked
    have hwritten := grant_written (r := r) (s := bump (reqObj r) 1 (s.asking (s.asks reqs))) hwrite hcount hstall
    generalize grant r u _ = w at hgrant hwritten
    obtain ⟨hw, hallowed, hrefused⟩ := hwritten
    have hgr : w.gr = s.gr := (congrArg State.gr hw :)
    obtain ⟨v, hv, hcycle⟩ := cycleGroup_ends hburst hgrant
      (fun h b hb => by
        obtain rfl : r = 7 := Option.some.inj h
        obtain rfl := Option.some.inj (hasked.symm.trans hb)
        exact hscrub rfl)
      (fun h g => by rw [hgr]; exact (hlearn (Option.some.inj h)).2 g)
      (fun q hq => by rw [← Option.some.inj hq, hasked]; rfl)
    have hmem : v.mem = w.mem := (congrArg State.mem hv.silent :)
    refine completes_onlyIf rfl hon ?_
    rw [hcycle]
    refine ⟨rfl, ?_, fun h => hmem.trans (hallowed h), fun h => ⟨hmem.trans (hrefused h).1, ?_⟩⟩
    · exact congrArg (fun x : State => { x with mem := v.mem, arb := (v.nextSlot s.arb.slot).arb }) (hv.silent.trans
        (congrArg (fun x : State => { x with arb := { x.arb with reqs := v.arb.reqs } }) hw))
    · exact (congrArg Requester.refused (hv.kept r rfl)).trans (hrefused h).2
  · have hasks := asks_none (s := s) hnone
    obtain ⟨u, hgrant, hu⟩ := grantSlot_idle (s := s.asking (s.asks reqs)) hasks
    obtain ⟨v, hv, hcycle⟩ := cycleGroup_ends hburst hgrant (by simp) (by simp) (by simp)
    have hvu := hv.silent.trans (congrArg (fun x : State => ({ x with arb := { x.arb with reqs := v.arb.reqs } } : State)) hu)
    have harb := congrArg State.arb hvu
    refine completes_onlyIf rfl hon ?_
    rw [hcycle]
    exact ⟨rfl, congrArg (fun x : State => { x with arb := (v.nextSlot s.arb.slot).arb }) hvu, (congrArg Arb.refresh harb :), (congrArg Arb.table harb :)⟩
  · have hnoted := roundBoundary_noted s
    have harb := congrArg State.arb hnoted.silent
    refine completes_onlyIf rfl hon ⟨?_, (congrArg Arb.slot harb :), (congrArg Arb.base harb :), (congrArg Arb.table harb :), (congrArg Arb.ranks harb :),
      (congrArg Arb.adapted harb :)⟩
    exact hnoted.silent.trans (congrArg (fun a : Arb => { s.silent with arb := a }) harb.symm)
  · obtain ⟨hsilent, hrelocates, hloses, hkeeps⟩ := nandDone_ended req r s
    exact completes_onlyIf rfl hon ⟨hsilent, hrelocates, hloses, hkeeps⟩
  · exact completes_onlyIf rfl hon (commitEnd_failed hcommit)
  · have hcommit' : (bumpBy 0xE0A0 4 0 s).par.commit = some w := hcommit
    obtain ⟨hsilent, hmem, hanswer⟩ := commitEnd_good hcommit'
    exact completes_onlyIf rfl hon ⟨hsilent, hmem, hanswer⟩

end Sys2Proof.Machine
end

section
/-! PROOFS. Ports, the switch, the ring, TC10 and LLDP (O45). -/

namespace Sys2Proof.Machine

variable {s : State} {p : PortId}

/-! Messages (R466) -/

/-- A message that can flow is the newest in the outbox. -/
theorem send_outbox (m : Msg) (h : s.netRuns = true) : (send m s).io.outbox = s.io.outbox ++ [m] := by
  unfold send
  rw [h, Bool.not_true, Bool.and_false, if_neg Bool.false_ne_true, countSent_out]

/-! Ports (R446, R447) -/

/-- A port in place of the old one. -/
def withPort (p : PortId) (x : Port) (s : State) : State := { s with net := { s.net with port := s.net.port.set p x } }

theorem modPort_modPort (p : PortId) (f g : Port → Port) (s : State) : modPort p f (modPort p g s) = withPort p (f (g s.net.port[p])) s := by
  unfold modPort withPort
  simp

theorem silent_cableResult (code dist : Nat) : (cableResult p code dist s).silent = (withPort p { s.net.port[p] with
    testing := false, testCode := code, testDist := if code = 2 ∨ code = 3 then min dist 600 else 0xFFFF } s).silent := by
  unfold cableResult
  extract_lets +onlyGivenNames old d v
  unfold onlyIf
  split
  · exact silent_raise4 ..
  · rfl

theorem withPort_self (p : PortId) (s : State) : withPort p s.net.port[p] s = s := by
  unfold withPort
  rw [Fin.getElem_fin, Vector.set_getElem_self]

/-- A port whose link is down tests its cable where it is enabled. -/
theorem silent_startCableTest (hdown : s.net.port[p].up = false) :
    (startCableTest p s).silent = (withPort p { s.net.port[p] with testing := s.portOn p || s.net.port[p].testing } s).silent := by
  unfold startCableTest
  cases hon : s.portOn p with
  | true =>
    rw [if_neg (by rw [hdown]; decide), silent_bump, silent_send, Bool.true_or]
    rfl
  | false =>
    rw [if_pos (by rfl), Bool.false_or]
    exact congrArg State.silent (withPort_self p s).symm

theorem silent_linkUp {gigabit master : Bool} (hdown : s.net.port[p].up = false) (hruns : s.netRuns = true) (hallowed : s.linkAllowed p gigabit master = true)
    (htest : s.net.port[p].testing = false) : (linkUp p gigabit master s).silent =
      (withPort p { s.net.port[p] with up := true, gigabit := gigabit, failed := 0 } s).silent := by
  unfold linkUp
  rw [if_neg (by rw [hdown, hruns, hallowed]; decide), htest]
  exact silent_raise4 ..

theorem silent_linkDown (hup : s.net.port[p].up = true) : (linkDown p s).silent = (withPort p { s.net.port[p] with
    up := false, gigabit := false, fallback := false, failed := 0, macsec := false, testing := s.portOn p || s.net.port[p].testing } s).silent := by
  unfold linkDown
  rw [if_neg (by rw [hup]; decide)]
  extract_lets +onlyGivenNames u
  generalize hv : bump (0xE0AA + p.val) 5 (raise4 0xA002 [(p.val + 1 : Int)] u) = v
  have hvu : v.silent = u.silent := by rw [← hv, silent_bump, silent_raise4]
  have hport : v.net.port[p] = { s.net.port[p] with up := false, gigabit := false, fallback := false, failed := 0, macsec := false } := by
    rw [silent_eq_net hvu]
    exact Vector.getElem_set_self ..
  have hon : v.portOn p = s.portOn p := by
    have hpar : v.par = s.par := (congrArg State.par hvu :)
    unfold State.portOn State.act
    rw [hpar]
  rw [silent_startCableTest (by rw [hport]), hon, hport]
  refine (congrArg (fun x : State => (withPort p _ x).silent) hvu).trans ?_
  exact congrArg (fun x : Vector Port 2 => ({ s.silent with net := { s.net with port := x } } : State)) (Vector.set_set ..)

theorem silent_trainingFailed {only100 : Bool} (hdown : s.net.port[p].up = false) (hruns : s.netRuns = true) (hon : s.portOn p = true) :
    (trainingFailed p only100 s).silent = (withPort p (
      if s.act 0xA001 (p.val + 3) = 0 ∧ s.net.port[p].fallback = false ∧ (only100 = true ∨ 2 ≤ s.net.port[p].failed)
      then { s.net.port[p] with fallback := true, failed := 0 } else { s.net.port[p] with failed := s.net.port[p].failed + 1 }) s).silent := by
  unfold trainingFailed
  extract_lets +onlyGivenNames x u
  rw [if_neg (by show ¬ (s.net.port[p].up || !s.netRuns || !s.portOn p) = true; rw [hdown, hruns, hon]; decide)]
  have hiff : (u.act 0xA001 (p.val + 3) = 0 && !x.fallback && (only100 || decide (3 ≤ x.failed + 1))) = true ↔
      (s.act 0xA001 (p.val + 3) = 0 ∧ s.net.port[p].fallback = false ∧ (only100 = true ∨ 2 ≤ s.net.port[p].failed)) := by
    show (decide (s.act 0xA001 (p.val + 3) = 0) && !s.net.port[p].fallback && (only100 || decide (3 ≤ s.net.port[p].failed + 1))) = true ↔ _
    simp [and_assoc]
  by_cases hfalls : s.act 0xA001 (p.val + 3) = 0 ∧ s.net.port[p].fallback = false ∧ (only100 = true ∨ 2 ≤ s.net.port[p].failed)
  · rw [if_pos hfalls, if_pos (hiff.2 hfalls), silent_bump, silent_raise4]
    exact congrArg State.silent (modPort_modPort ..)
  · rw [if_neg hfalls, if_neg (fun h => hfalls (hiff.1 h))]
    rfl

/-! The switch (R448) -/

theorem learn_table {a : BitVec 48} (haddr : groupAddress a = false) (hroom : s.net.table.length < 256) :
    learn p a s = { s with net := { s.net with table := s.net.table.filter (fun e => e.1 != a) ++ [(a, p, s.now)] } } := by
  unfold learn
  extract_lets rest
  have hle : rest.length ≤ s.net.table.length := List.length_filter_le ..
  rw [if_neg]
  rw [haddr]
  simp only [Bool.false_or, Bool.and_eq_true, decide_eq_true_eq]
  omega

/-- A frame from another address goes where it did before its source was learned. -/
theorem forwards_learned {f : EthFrame} {now : Nat} (hdst : f.dst ≠ f.src) :
    State.forwards { s with net := { s.net with table := s.net.table.filter (fun e => e.1 != f.src) ++ [(f.src, p, now)] } } p f = s.forwards p f := by
  have hfind : (s.net.table.filter (fun e => e.1 != f.src) ++ [(f.src, p, now)]).find? (fun e => e.1 == f.dst) =
      s.net.table.find? fun e => e.1 == f.dst := by
    rw [List.find?_append, List.find?_filter, List.find?_cons_of_neg (by simpa using Ne.symm hdst), List.find?_nil, Option.or_none]
    refine congrArg (fun g => s.net.table.find? g) (funext fun e => ?_)
    by_cases he : e.1 = f.dst
    · simp [he, hdst]
    · simp [he]
  unfold State.forwards
  dsimp only
  rw [hfind]
  rfl

/-- What a valid unprotected frame of a station does (R448). -/
theorem frameReceived_learned {f : EthFrame} (hup : s.net.port[p].up = true) (hruns : s.netRuns = true) (hshort : 64 ≤ f.length) (hlong : f.length ≤ 1522)
    (hblocked : p = 1 → s.nbBlocked = false) (hplain : s.act 0xA020 (p.val + 1) ≠ 1) :
    frameReceived p f s = (
      let u := learn p f.src (bump (0xE0AA + p.val) 1 s)
      let v := onlyIf (u.isForUs f) (send (.deliver f)) u
      if !v.forwards p f || !v.mayLeave (otherPort p) f then v
      else if f.roomAhead then send (.forward (otherPort p) f) v else bump (0xE0AA + (otherPort p).val) 3 v) := by
  unfold frameReceived
  extract_lets +onlyGivenNames b protect u v o
  rw [if_neg (by rw [hup, hruns]; simp; omega)]
  have hpass : (p == 1 && b.nbBlocked && !passesBlock f.kind) = false := by
    by_cases hp : p = 1
    · rw [show b.nbBlocked = false from hblocked hp, Bool.and_false, Bool.false_and]
    · rw [beq_false_of_ne hp, Bool.false_and, Bool.false_and]
  have hprotect : protect = false := beq_false_of_ne hplain
  rw [hpass, hprotect, if_neg Bool.false_ne_true, Bool.false_and, Bool.false_and, if_neg Bool.false_ne_true, Bool.false_and,
    if_neg Bool.false_ne_true]

/-- What a frame leaves once its source is learned: the switch's table, and what is sent (R448). -/
structure Switched (p : PortId) (f : EthFrame) (s t : State) : Prop where
  silent : t.silent = { s.silent with net := { s.net with table := s.net.table.filter (fun e => e.1 != f.src) ++ [(f.src, p, s.now)] } }
  delivers : f.dst = Config.macAddress → f.kind = .other → t.io.outbox = s.io.outbox ++ [.deliver f]
  relays : s.isForUs f = false → f.dst ≠ f.src → s.forwards p f = true → s.mayLeave (otherPort p) f = true → f.roomAhead = true →
    t.io.outbox = s.io.outbox ++ [.forward (otherPort p) f]

theorem frameReceived_switched {f : EthFrame} (hup : s.net.port[p].up = true) (hruns : s.netRuns = true) (hshort : 64 ≤ f.length) (hlong : f.length ≤ 1522)
    (hblocked : p = 1 → s.nbBlocked = false) (hplain : s.act 0xA020 (p.val + 1) ≠ 1) (haddr : groupAddress f.src = false)
    (hroom : s.net.table.length < 256) : Switched p f s (frameReceived p f s) := by
  rw [frameReceived_learned hup hruns hshort hlong hblocked hplain, learn_table (s := bump (0xE0AA + p.val) 1 s) haddr hroom]
  extract_lets +onlyGivenNames src u v
  have hu : u.netRuns = true := hruns
  have hv : v.silent = u.silent := by
    show (onlyIf _ _ u).silent = _
    cases u.isForUs f
    · rfl
    · exact silent_send ..
  refine ⟨?_, fun hdst hkind => ?_, fun hother hdst hforward hleaves hahead => ?_⟩
  · split
    · exact hv
    · split
      · exact (silent_send ..).trans hv
      · exact hv
  · have hfor : u.isForUs f = true := by
      unfold State.isForUs
      rw [hdst, beq_self_eq_true]
      rfl
    have hsent : v = send (.deliver f) u := by
      show onlyIf _ _ u = _
      rw [hfor, onlyIf_true]
    have hends : v.forwards p f = false := by
      unfold State.forwards
      rw [hkind]
      dsimp only
      rw [hdst, bne_self_eq_false, Bool.false_and]
    rw [if_pos (by rw [hends]; rfl), hsent]
    exact send_outbox _ hu
  · have hsame : v = u := by
      show onlyIf _ _ u = _
      rw [show u.isForUs f = false from hother, onlyIf_false]
    have hforwards : u.forwards p f = true := (forwards_learned (s := bump (0xE0AA + p.val) 1 s) hdst).trans hforward
    rw [hsame, if_neg (by rw [hforwards, show u.mayLeave (otherPort p) f = true from hleaves]; decide), if_pos hahead]
    exact send_outbox _ hu

/-- The manager of a closed ring sends a check and awaits it (R449). -/
theorem ringTx_sent (hact : s.act 0xA011 1 = 1) (hruns : s.netRuns = true) (hawait : s.net.awaiting = false) (hlimit : 1 ≤ s.actN 0xA011 3)
    (hup : s.net.port[(0 : PortId)].up = true) : ringTx s = send .ringCheck { s with net := { s.net with missing := 0, awaiting := true } } := by
  unfold ringTx
  rw [if_neg (by rw [hact, hruns]; decide)]
  extract_lets +onlyGivenNames n src u v
  have hn : n = 0 := if_neg (by rw [hawait]; decide)
  have hv : v = u := if_neg (by
    show ¬ (decide (s.actN 0xA011 3 ≤ n) && _) = true
    rw [hn, decide_eq_false (by omega), Bool.false_and]
    decide)
  rw [hv]
  refine (if_pos hup).trans ?_
  show send _ { s with net := { s.net with missing := n, awaiting := true } } = _
  rw [hn]

/-! TC10 (R350, R351, R452) -/

theorem wakeAssert_abandons {c : Fin 11} (hwake : s.wakeEnabled c.val = true) (hwaking : s.pwr.waking = false) (hstep : s.drive.sleepStep = 2) :
    (wakeAssert c s).silent = { s.silent with drive := { s.drive with sleepStep := 0 }, pwr := { s.pwr with reason := c.val } } := by
  unfold wakeAssert
  dsimp only
  rw [if_neg (by rw [hwake]; decide), if_neg (by rw [hwaking]; decide), if_pos hstep, silent_bump, silent_bump, silent_raise4]
  rfl

/-- The boot of a wake has begun. -/
structure Woken (code : Nat) (s t : State) : Prop where
  booting : t.boot.booting = true
  reason : t.pwr.reason = code
  waking : t.pwr.waking = true
  br : t.br = s.br
  gr : t.gr = s.gr
  nand : t.mem.nand = s.mem.nand
  dram : t.mem.dram = s.mem.dram
  drive : t.drive = s.drive

theorem beginWake_woken (code : Nat) (s : State) : Woken code s (beginWake code s) := by
  unfold beginWake
  obtain ⟨x, hrom, hx, -, hbooting, -, -, hpwr⟩ := beginBoot_runs code
    { s with pwr := { s.pwr with hvArmed := s.pwr.hvArmed && code != 8 }, cont := { s.cont with hvWake := false } }
  generalize beginBoot _ _ = t at hrom
  have hpower := hrom.pwr.trans hpwr
  refine ⟨hrom.booting.trans hbooting, (congrArg Power.reason hpower :), (congrArg Power.waking hpower :), hrom.br.trans ?_, hrom.gr.trans ?_,
    hrom.nand.trans ?_, hrom.dram.trans ?_, hrom.drive.trans ?_⟩
  · rw [hx]
  · rw [hx]
  · rw [hx]
  · rw [hx]
  · rw [hx]

theorem wakeAssert_wakes {c : Fin 11} (hwake : s.wakeEnabled c.val = true) (hwaking : s.pwr.waking = false) (hstep : s.drive.sleepStep ≠ 2)
    (hhv : s.cont.hvWake = false) (hsleep : s.drive.state = .sleep) (hcode : c.val ≠ 8) : wakeAssert c s = beginWake c.val s := by
  unfold wakeAssert
  dsimp only
  rw [if_neg (by rw [hwake]; decide), if_neg (by rw [hwaking]; decide), if_neg hstep, if_neg (by rw [hhv]; decide), if_pos hsleep,
    if_neg (by rw [decide_eq_false hcode]; simp)]

/-- Settles O45, an equation or a silent state for each row. -/
theorem networkRows : Obligations.NetworkRows := by
  unfold Obligations.NetworkRows
  refine ⟨fun s p => ⟨fun gigabit master hdown hruns hallowed htest => ⟨_, rfl, silent_linkUp hdown hruns hallowed htest⟩, fun hup => ?_,
    fun only100 hdown hruns hon => ⟨_, rfl, silent_trainingFailed hdown hruns hon⟩, fun hpwr hon hdown => ?_, fun code dist htest => ?_,
    fun live hact hruns => ?_⟩, fun s p => ⟨fun f hup hruns hshort hlong hblocked hplain haddr hroom => ?_, fun mac => ?_,
    fun hact hruns hawait hlimit hup => ?_, fun hact hruns => ?_, fun hact hruns hup => ?_, fun w hw => ?_, fun hwake hwaking => ⟨fun hstep => ?_,
    fun hstep hhv hsleep => ?_⟩, fun hlink hruns hup => ?_, fun tlv hno hhops hserial hruns hup => ?_⟩⟩
  · have hsilent := silent_linkDown hup
    have hport := congrArg (fun x : State => x.net.port) hsilent
    exact ⟨_, rfl, hsilent.trans (congrArg (fun x : Vector Port 2 => ({ s.silent with net := { s.net with port := x } } : State)) hport.symm), hport⟩
  · refine completes_onlyIf rfl hpwr ((silent_startCableTest hdown).trans ?_)
    rw [hon, Bool.true_or]
    rfl
  · have hcode : (min code 4 = 2 ∨ min code 4 = 3) ↔ (code = 2 ∨ code = 3) := by omega
    refine ⟨cableResult p (min code 4) dist s, congrArg Host.Outcome.next (if_pos htest), (silent_cableResult _ _).trans ?_⟩
    simp only [hcode]
    rfl
  · exact ⟨_, congrArg Host.Outcome.next (if_pos ⟨hact, hruns⟩), silent_raise4 ..⟩
  · obtain ⟨hsilent, hdelivers, hrelays⟩ := frameReceived_switched hup hruns hshort hlong hblocked hplain haddr hroom
    exact ⟨_, rfl, hsilent, hdelivers, hrelays⟩
  · refine ⟨ageAddress mac s, rfl, ?_, fun e he => ?_⟩
    · unfold ageAddress
      split <;> rfl
    · unfold ageAddress
      rw [he]
      rfl
  · exact ⟨_, congrArg Host.Outcome.next (ringTx_sent hact hruns hawait hlimit hup), silent_send .., send_outbox _ hruns⟩
  · refine ⟨ringRx s, rfl, ?_⟩
    unfold ringRx
    rw [if_neg (by rw [hact, hruns]; decide)]
    dsimp only
    split
    · next hopen =>
      unfold setRing
      rw [silent_raise4, silent_send, silent_send]
      rfl
    · rfl
  · refine ⟨_, congrArg Host.Outcome.next ((if_neg (by rw [hact, hruns]; decide)).trans (if_pos hup)), silent_send .., send_outbox _ hruns⟩
  · rw [show w = ⟨p.val + 1, by omega⟩ from Fin.ext hw]
    rfl
  · exact ⟨_, rfl, wakeAssert_abandons (c := ⟨p.val + 1, by omega⟩) hwake hwaking hstep⟩
  · obtain ⟨hbooting, hreason, hwoken, hbr, hgr, hnand, -, hdrive⟩ := beginWake_woken (p.val + 1) s
    exact ⟨_, congrArg Host.Outcome.next (wakeAssert_wakes (c := ⟨p.val + 1, by omega⟩) hwake hwaking hstep hhv hsleep (by show p.val + 1 ≠ 8; omega)),
      hbooting, hreason, hwoken, hbr, hgr, hnand, hdrive⟩
  · refine ⟨_, congrArg Host.Outcome.next (if_neg (by rw [hup]; simpa using hlink)), silent_send .., ?_⟩
    exact ⟨_, send_outbox _ hruns, rfl, rfl, rfl, rfl⟩
  · refine completes_onlyIf rfl hruns ?_
    have hquiet : (send (.lldpRelay (otherPort p) { tlv with hops := tlv.hops - 1 }) s).silent = s.silent := silent_send ..
    have hoff : State.partnerOk (send (.lldpRelay (otherPort p) { tlv with hops := tlv.hops - 1 }) s) tlv.serial tlv.dcLink tlv.domain = false :=
      (congrArg (fun x : State => x.partnerOk tlv.serial tlv.dcLink tlv.domain) hquiet).trans hno
    have hrelay : lldpRx p tlv s = send (.lldpRelay (otherPort p) { tlv with hops := tlv.hops - 1 }) s := by
      unfold lldpRx
      dsimp only
      rw [show (decide (2 ≤ tlv.hops) && tlv.serial != Config.serial && s.net.port[otherPort p].up) = true by rw [hup]; simp [hhops, hserial], onlyIf_true,
        hoff, if_neg Bool.false_ne_true]
    rw [hrelay]
    exact ⟨hquiet, send_outbox _ hruns⟩

end Sys2Proof.Machine
end

section
/-! PROOFS. The CAN controllers (O47): frames stored, reported and sent, error states, the address claim and transport timeouts. -/

namespace Sys2Proof.Machine

variable {o s t : State} {k : CanId} {f : Can → Can}

theorem can_modCan_self (k : CanId) (f : Can → Can) (s : State) : (modCan k f s).can[k] = f s.can[k] := Vector.getElem_set_self ..

theorem modCan_modCan (k : CanId) (f g : Can → Can) (s : State) : modCan k f (modCan k g s) = modCan k (fun x => f (g x)) s := by
  unfold modCan
  simp

theorem modCan_congr {g : Can → Can} (h : f s.can[k] = g s.can[k]) : modCan k f s = modCan k g s := by
  unfold modCan
  rw [h]

theorem modCan_same (h : f s.can[k] = s.can[k]) : modCan k f s = s := by
  unfold modCan
  rw [h, Fin.getElem_fin, Vector.set_getElem_self]

/-- Reports after the update of a controller leave what it set but for the transmit buffers. -/
theorem Reported.can_modCan (h : Reported (modCan k f s) t) : Quiet t s ∧ t.can[k] = { f s.can[k] with tx := t.can[k].tx } := by
  refine ⟨h.silent, (h.can k).trans ?_⟩
  rw [can_modCan_self]

theorem Reported.canFailed {cause source : Nat} (h : Reported o s) : Reported o (canFailed k cause source s) := .raiseFirst (.bump h)

/-- Every message of the controller fails: none is received or sent any more. -/
theorem canFailAll_reported (k : CanId) (cause : Nat) (s : State) :
    Reported (modCan k (fun y => { y with rx := [], send := [], tx := y.tx.filter fun f => f.peer.isNone }) s) (canFailAll k cause s) := by
  unfold canFailAll
  dsimp only
  generalize hu : modCan k _ s = u
  suffices h : ∀ (l : List Nat) (v : State), Reported u v → Reported u (l.foldl (fun a p => canFailed k cause p a) v) from h _ _ (.refl u)
  intro l
  induction l with
  | nil => exact fun v h => h
  | cons p t ih => exact fun v h => ih _ (.canFailed h)

/-! Frames received (R468, R470, R471) -/

theorem canReceived_data {x : CanFrame} (hon : s.canOn k = true) (hfd : x.fd = false) (hdata : x.remote = false) :
    canReceived k x s = serveCan k (storeFrame k x s) := by
  unfold canReceived
  rw [if_neg (by rw [hon, hfd]; simp), if_neg (by rw [hdata]; decide)]

/-- A frame of a host filter waits in the empty high-priority buffer. -/
theorem storeFrame_host {x : CanFrame} (hmatch : s.matchFrame k x = .host) (hhigh : s.can[k].high = []) :
    storeFrame k x s = modCan k (fun y => { y with high := [x] }) (bump (0xE0B1 + k.val) 1 s) := by
  unfold storeFrame
  rw [hmatch]
  dsimp only
  rw [if_pos (by rw [hhigh]; decide)]
  refine modCan_congr ?_
  show ({ s.can[k] with high := s.can[k].high ++ [x] } : Can) = _
  rw [hhigh]
  rfl

/-- Pelale serves a waiting host frame with its event, where nothing else waits. -/
theorem serveCan_host {x : CanFrame} (hmatch : s.matchFrame k x = .host) (hhigh : s.can[k].high = []) (hfifo : s.can[k].fifo = [])
    (hbooted : s.boot.booting = false) : serveCan k (modCan k (fun y => { y with high := [x] }) s) =
      modCan k (fun y => { y with fifo := [] }) (raise4 0xB010 (hostFramePayload k x) s) := by
  have hempty : modCan k (fun y => { y with high := [] }) (modCan k (fun y => { y with high := [x] }) s) = s := by
    rw [modCan_modCan, modCan_same]
    rw [← hhigh]
  unfold serveCan
  rw [if_neg (by rw [modCan_boot, hbooted]; decide), can_modCan_self, hempty]
  dsimp only [List.foldl_cons, List.foldl_nil]
  have hserve : serveFrame k x s = raise4 0xB010 (hostFramePayload k x) s := by
    unfold serveFrame
    rw [hmatch]
  have hraised := (Reported.raise (code := 0xB010) (level := 4) (index := 0) (payload := hostFramePayload k x) (.refl s)).can k
  rw [hserve, show (raise4 0xB010 (hostFramePayload k x) s).can[k].fifo = [] from (congrArg Can.fifo hraised).trans hfifo, List.foldl_nil]

/-- During the boot the controller's frames wait. -/
theorem serveCan_booting (hboot : s.boot.booting = true) : serveCan k s = s := if_pos hboot

/-! Frames sent and withdrawn (R472) -/

theorem send_can (k : CanId) (x : CanFrame) (s : State) : send (.can k x) s = { s with io := { s.io with outbox := s.io.outbox ++ [.can k x] } } := rfl

theorem canFrameSent_plain {slot : Nat} {x : CanTx} (htx : s.can[k].tx[slot]? = some x) (hpeer : x.peer = none) (hsends : s.canSends k = true)
    (hslot : slot < 16) (hbrs : x.frame.brs = false) : canFrameSent k slot s =
      send (.can k x.frame) (bump (0xE0B1 + k.val) 2 (modCan k (fun y => { y with tx := y.tx.eraseIdx slot }) s)) := by
  unfold canFrameSent
  rw [htx]
  dsimp only
  rw [if_neg (by rw [hsends, decide_eq_false (by omega)]; decide), hpeer, hbrs, Bool.false_and, if_neg Bool.false_ne_true]

theorem canTxTimeout_plain {slot : Nat} {x : CanTx} (htx : s.can[k].tx[slot]? = some x) (hpeer : x.peer = none) : canTxTimeout k slot s =
    bump (0xE0B1 + k.val) 3 (modCan k (fun y => { y with tx := y.tx.eraseIdx slot }) (setNow (x.since + s.actN (0xB000 + k.val) 0x10 * ticksPerMs) s)) := by
  unfold canTxTimeout
  rw [htx]
  dsimp only
  rw [hpeer]

/-! Error states (R473) -/

/-- Bus-off fails every message and notes its time. -/
theorem busOff_reported (hoffs : s.can[k].busOffs = []) (hlimit : 2 ≤ s.actN (0xB000 + k.val) 0xE) : Quiet (busOff k s) s ∧
    ∃ tx, (busOff k s).can[k] = { s.can[k] with rx := [], send := [], tx := tx, busOffs := [s.now], recovering := false } := by
  have hraised : Reported s (bump (0xE0B1 + k.val) 7 (raise4 0xB004 [(k.val + 1 : Int)] s)) := .bump (.raise (.refl s))
  unfold busOff
  dsimp only
  generalize bump (0xE0B1 + k.val) 7 _ = w at hraised ⊢
  obtain ⟨hquiet, hcan⟩ := (canFailAll_reported k 1 w).can_modCan
  generalize canFailAll k 1 w = u at hquiet hcan ⊢
  have hsilent : u.silent = s.silent := hquiet.trans hraised.silent
  have hnow : u.now = s.now := silent_eq_now hsilent
  rw [hraised.can k] at hcan
  have hoff : u.can[k].busOffs = [] := by rw [hcan]; exact hoffs
  have hact : ∀ g, (modCan k g u).actN (0xB000 + k.val) 0xE = s.actN (0xB000 + k.val) 0xE := fun g =>
    (congrArg (fun x : State => x.actN (0xB000 + k.val) 0xE) hsilent :)
  rw [hoff, hnow, List.filter_nil]
  have hunder : ∀ g, ¬ (modCan k g u).actN (0xB000 + k.val) 0xE ≤ [s.now].length := fun g => by
    rw [hact g, List.length_singleton]
    omega
  rw [if_neg (hunder _), can_modCan_self, hcan]
  exact ⟨hsilent, _, rfl⟩

theorem errorStateChange_reported {tec rec : Nat} (hon : s.canOn k = true) (hstate : errorState tec rec ≠ 2) :
    Reported (modCan k (fun x => { x with txErr := tec, rxErr := rec, state := errorState tec rec }) s) (errorStateChange k tec rec s) := by
  unfold errorStateChange
  dsimp only
  rw [if_neg (by rw [hon]; decide)]
  generalize errorState tec rec = n at hstate ⊢
  split
  · exact .refl _
  · split
    · split
      · exact .raise (.refl _)
      · exact .refl _
    · exact .bump (.raise (.refl _))
    · exact absurd rfl hstate
    · exact .raise (.refl _)

theorem errorStateChange_busOff {tec rec : Nat} (hon : s.canOn k = true) (hstate : errorState tec rec = 2) : errorStateChange k tec rec s =
    busOff k (modCan k (fun x => { x with txErr := tec, rxErr := rec, state := 2 }) s) := by
  have hold : s.can[k].state ≠ 2 := fun h => by
    unfold State.canOn at hon
    rw [h] at hon
    simp at hon
  unfold errorStateChange
  dsimp only
  rw [if_neg (by rw [hon]; decide), hstate, if_neg (Ne.symm hold)]
  rfl

/-! Transport timeouts (R476) -/

theorem receptionFails_ends (cause peer : Nat) : Quiet (receptionFails k cause peer s) s ∧
    (receptionFails k cause peer s).can[k].rx = s.can[k].rx.filter (fun y => y.peer != peer) ∧ (receptionFails k cause peer s).can[k].send = s.can[k].send := by
  unfold receptionFails
  split
  · obtain ⟨hquiet, hcan⟩ := (Reported.canFailed (k := k) (cause := cause) (source := peer) (.refl (modCan k (fun x =>
      { x with rx := x.rx.filter fun y => y.peer != peer }) s))).can_modCan
    exact ⟨hquiet, by rw [hcan], by rw [hcan]⟩
  · next hnone =>
    refine ⟨rfl, (List.filter_eq_self.2 fun y hy => ?_).symm, rfl⟩
    by_contra heq
    exact hnone (List.any_eq_true.2 ⟨y, hy, by simpa using heq⟩)

theorem isotpFail_ends {x : CanSend} {peer : Nat} (cause : Nat) (hsend : s.can[k].send = [x]) (hpeer : x.peer = peer) : Quiet (isotpFail k cause peer s) s ∧
    (isotpFail k cause peer s).can[k].send = [] ∧ (isotpFail k cause peer s).can[k].rx = s.can[k].rx := by
  have hfailed : Reported s (canFailed k cause peer s) := .canFailed (.refl s)
  unfold isotpFail isotpEnd
  rw [if_pos (by unfold State.sendTo; rw [hsend]; simp [hpeer])]
  generalize canFailed k cause peer s = u at hfailed ⊢
  have hcan := hfailed.can k
  have hdrop : dropSend peer u.can[k].send = [] := by
    rw [hcan]
    dsimp only
    rw [hsend, dropSend, if_pos hpeer]
  unfold isotpStart State.sendTo
  rw [can_modCan_self]
  dsimp only
  rw [hdrop, List.find?_nil]
  dsimp only
  rw [can_modCan_self]
  exact ⟨hfailed.silent, hdrop, by rw [hcan]⟩

/-- Settles O47: what each row sets in its controller, reports leave but for the transmit buffers. -/
theorem canRows : Obligations.CanRows := by
  unfold Obligations.CanRows
  refine fun s k => ⟨fun f hon hfd hhigh hfifo => ⟨fun hremote => ?_, fun hdata hmatch hbooted hfired hlength => ?_, fun hdata hmatch hboot => ?_⟩,
    fun slot f htx hpeer => ⟨?_, fun hsends hslot hbrs => ?_⟩, fun tec rec hon => ⟨fun hstate => ?_, fun hstate hoffs hlimit => ?_⟩, fun hoff => ?_,
    fun hoff hrecovering => ?_, fun a hclaim => ?_, fun peer => ⟨?_, fun x why hsend hx hwhy => ?_⟩⟩
  · refine ⟨bump (0xE0B1 + k.val) 0x0B s, congrArg Host.Outcome.next ?_, rfl, rfl, rfl⟩
    unfold canReceived
    rw [if_neg (by rw [hon, hfd]; simp), if_pos hremote]
  · refine ⟨_, congrArg Host.Outcome.next ((canReceived_data hon hfd hdata).trans ((congrArg (serveCan k) (storeFrame_host hmatch hhigh)).trans
      (serveCan_host (s := bump (0xE0B1 + k.val) 1 s) hmatch hhigh hfifo hbooted))), ?_, fun hlogs => ?_⟩
    · exact silent_raise4 ..
    · exact raise_logged (s := bump (0xE0B1 + k.val) 1 s) 4 0 hlogs hfired (by simp [hostFramePayload]; omega)
  · refine ⟨_, congrArg Host.Outcome.next ((canReceived_data hon hfd hdata).trans ((congrArg (serveCan k) (storeFrame_host hmatch hhigh)).trans
      (serveCan_booting hboot))), rfl, rfl⟩
  · exact ⟨_, congrArg Host.Outcome.next (canTxTimeout_plain htx hpeer), rfl, rfl⟩
  · refine ⟨_, congrArg Host.Outcome.next (canFrameSent_plain htx hpeer hsends hslot hbrs), ?_⟩
    rw [send_can]
    exact ⟨rfl, rfl, rfl⟩
  · obtain ⟨hquiet, hcan⟩ := (errorStateChange_reported hon hstate).can_modCan
    exact ⟨_, rfl, hquiet, by rw [hcan], by rw [hcan], by rw [hcan]⟩
  · obtain ⟨hquiet, tx, hcan⟩ := busOff_reported (k := k) (s := modCan k (fun x => { x with txErr := tec, rxErr := rec, state := 2 }) s)
      (by rw [can_modCan_self]; exact hoffs) hlimit
    refine ⟨_, congrArg Host.Outcome.next (errorStateChange_busOff hon hstate), hquiet, ?_⟩
    rw [hcan, can_modCan_self]
    exact ⟨rfl, rfl, rfl, rfl⟩
  · exact congrArg Host.Outcome.next (if_pos hoff)
  · obtain ⟨hquiet, hcan⟩ := (Reported.raise (code := 0xB005) (level := 4) (index := 0) (payload := [(k.val + 1 : Int)]) (.refl (modCan k (fun x =>
      { x with state := 0, txErr := 0, rxErr := 0, recovering := false }) s))).can_modCan
    exact ⟨_, congrArg Host.Outcome.next (if_pos (by rw [hoff, hrecovering]; rfl)), hquiet, (congrArg Can.state hcan :), (congrArg Can.txErr hcan :),
      (congrArg Can.rxErr hcan :), (congrArg Can.recovering hcan :)⟩
  · obtain ⟨hquiet, hcan⟩ := (Reported.raise (code := 0xB009) (level := 4) (index := 0) (payload := [(k.val + 1 : Int), (a : Int)]) (.refl (modCan k (fun x =>
      { x with claiming := none, address := a }) s))).can_modCan
    refine ⟨claimTimer k s, rfl, ?_⟩
    unfold claimTimer
    rw [hclaim]
    exact ⟨hquiet, (congrArg Can.claiming hcan :), (congrArg Can.address hcan :)⟩
  · exact ⟨_, rfl, receptionFails_ends 6 peer⟩
  · obtain rfl | rfl := hwhy
    · exact ⟨_, rfl, isotpFail_ends 4 hsend hx⟩
    · exact ⟨_, rfl, isotpFail_ends 5 hsend hx⟩

end Sys2Proof.Machine
end

section
/-! PROOFS. Fault injection and the analogue self-tests (O11). -/

namespace Sys2Proof.Machine

variable {o s t u : State} {e : CmdEntry} {r : CmdRef}

/-! Fault injection (R493 to R496) -/

theorem complete_test (r : CmdRef) (status : Nat) (results : List Word) (s : State) : (complete r status results s).test = s.test := by
  unfold complete
  dsimp only
  rw [onlyIf_test _ _ _ (bump_test 0xE010 6), onlyIf_test _ _ _ (bump_test 0xE010 5)]
  exact pushEntry_test ..

/-- Reports leave an observation running where none waits for their code. -/
theorem raise_unseen_test {code : Nat} {level index : Nat} {payload : List Int} (hcode : ∀ p, injectionMeets p code = false) :
    (raise code level index payload s).test = s.test := by
  unfold raise injectionSeen
  rw [List.find?_eq_none.2 fun f _ => by dsimp only; rw [hcode, Bool.false_and]; decide]
  exact raise0_test ..

/-- No injection expects the events that report injections themselves. -/
theorem injectionMeets_injection {code : Nat} (hcode : code = 0xD102 ∨ code = 0xD104) (p : Nat) : injectionMeets p code = false := by
  have hbelow : expectedEvent p < 0xD100 := by
    unfold expectedEvent
    split
    case h_12 => split <;> decide
    all_goals decide
  have hnone : expectedEvent p ≠ code := by omega
  unfold injectionMeets
  rw [beq_false_of_ne hnone, Bool.false_and, Bool.false_or]
  obtain rfl | rfl := hcode <;> simp

/-- An arm is dropped with a report. -/
theorem dropArm_reported (s : State) : Reported { s with test := { s.test with arm := none } } (dropArm s) := by
  unfold dropArm
  split
  · exact .raise (.refl _)
  · next h =>
    have hsame : ({ s with test := { s.test with arm := none } } : State) = s := by rw [← h]
    rw [hsame]
    exact .refl s

/-- The state of a self-test unit that a new arm leaves (R495). -/
theorem injectArm_armed (hpoint : pointExists (bits 15 0 (e.word 1)) = true) (hanswer : bits 63 32 (e.word 1) + s.test.challenge = 2 ^ 32 - 1)
    (hpermitted : s.pointPermitted (bits 15 0 (e.word 1)) = true) :
    (injectArm e r s).silent = { s.silent with freeCount := s.freeCount + 1 } ∧ (injectArm e r s).test = { s.test with
      challenge := s.nextFree 32, arm := some (bits 15 0 (e.word 1), (s.test.armNumber + 1) % 2 ^ 32, s.now),
      armNumber := (s.test.armNumber + 1) % 2 ^ 32, fired := (injectArm e r s).test.fired } ∧
    (injectArm e r s).answered r stOk [BitVec.ofNat 64 ((s.test.armNumber + 1) % 2 ^ 32)] := by
  unfold injectArm
  extract_lets +onlyGivenNames p good src u
  rw [if_neg (by rw [hpoint]; decide)]
  have hgood : good = true := beq_iff_eq.2 hanswer
  have hallowed : u.pointPermitted p = true := hpermitted
  rw [if_neg (by rw [hgood, hallowed]; decide)]
  have hdropped := dropArm_reported u
  generalize dropArm u = v at hdropped ⊢
  have hsilent : v.silent = { s.silent with freeCount := s.freeCount + 1 } := hdropped.silent
  have htest := hdropped.test
  have hnow : v.now = s.now := (congrArg State.now hsilent :)
  have hnumber : v.test.armNumber = s.test.armNumber := (congrArg TestUnit.armNumber htest :)
  dsimp only
  generalize hw : ({ v with test := { v.test with
    arm := some (p, (v.test.armNumber + 1) % 2 ^ 32, v.now), armNumber := (v.test.armNumber + 1) % 2 ^ 32 } } : State) = w
  have hraised : Reported w (bump 0xE0D1 1 (raise4 0xD101 [(p : Int), (((v.test.armNumber + 1) % 2 ^ 32 : Nat) : Int)] w)) := .bump (.raise (.refl w))
  generalize bump 0xE0D1 1 _ = x at hraised ⊢
  rw [hnumber]
  refine ⟨?_, ?_, finish_answered ..⟩
  · refine (silent_complete ..).trans (hraised.silent.trans ?_)
    rw [← hw]
    exact hsilent
  · unfold finish
    rw [complete_test]
    refine hraised.test.trans ?_
    rw [← hw]
    dsimp only
    rw [hnow, hnumber, htest]
    rfl

/-- What is left of a self-test unit whose arm is fired at a point that waits for its detector (R496). -/
theorem injectFire_waits {p n at0 : Nat} (hpoint : bits 15 0 (e.word 1) = p) (harm : s.test.arm = some (p, n, at0)) (hnumber : bits 63 32 (e.word 1) = n)
    (htime : s.now ≤ at0 + s.actN 0xD100 3 * ticksPerMs) (hpermitted : s.pointPermitted (p) = true)
    (hkind : p / 256 ∈ [1, 2, 5, 7, 0xF]) :
    (injectFire e r s).silent = s.silent ∧ (injectFire e r s).test = { s.test with
      arm := none, inject := s.test.inject ++ [p], fired := s.test.fired ++ [(p, s.now + s.actN 0xD100 4 * ticksPerMs)] } ∧ (injectFire e r s).answered r stOk [] := by
  have hwaits : ∀ v : State, injectPoint (p) v = { v with test := { v.test with inject := v.test.inject ++ [p] } } := by
    intro v
    unfold injectPoint
    simp only [List.mem_cons, List.not_mem_nil, or_false] at hkind
    obtain h | h | h | h | h := hkind <;> simp only [h]
  have hok : (s.test.arm.any fun a => a.1 == p && a.2.1 == bits 63 32 (e.word 1) &&
      decide (s.now ≤ a.2.2 + s.actN 0xD100 3 * ticksPerMs)) = true := by
    rw [harm]
    simp [hnumber, htime]
  unfold injectFire
  dsimp only
  rw [hpoint, hok, hpermitted, if_neg (by decide), hwaits]
  generalize hw : ({ s with test := { s.test with arm := none } } : State) = w
  have hraised : Reported w (bump 0xE0D1 2 (raise4 0xD102 [(p : Int), (bits 63 32 (e.word 1) : Int)] w)) := .bump (.raise (.refl w))
  have htest : (bump 0xE0D1 2 (raise4 0xD102 [(p : Int), (bits 63 32 (e.word 1) : Int)] w)).test = w.test :=
    raise_unseen_test (injectionMeets_injection (.inl rfl))
  generalize bump 0xE0D1 2 _ = x at hraised htest ⊢
  have hsilent : x.silent = s.silent := by rw [hraised.silent, ← hw]; rfl
  have hwindow : x.now + x.actN 0xD100 4 * ticksPerMs = s.now + s.actN 0xD100 4 * ticksPerMs :=
    (congrArg (fun y : State => y.now + y.actN 0xD100 4 * ticksPerMs) hsilent :)
  rw [hwindow]
  refine ⟨?_, ?_, ?_⟩
  · exact (silent_complete ..).trans hsilent
  · unfold finish
    rw [complete_test]
    dsimp only
    rw [htest, ← hw]
  · exact finish_answered r [] _

theorem injectArmExpiry_ends {a : Nat × Nat × Nat} (harm : s.test.arm = some a) : ∃ t, exec .injectArmExpiry s = .next t ∧
    t.silent = { s.silent with now := max s.now (a.2.2 + s.actN 0xD100 3 * ticksPerMs) } ∧ t.test.arm = none := by
  have hdropped := dropArm_reported (setNow (a.2.2 + s.actN 0xD100 3 * ticksPerMs) s)
  refine ⟨_, ?_, hdropped.silent, (congrArg TestUnit.arm hdropped.test :)⟩
  show execInjectArmExpiry s = _
  unfold execInjectArmExpiry
  rw [harm]

theorem observationEnd_ends {f : Nat × Nat} {rest : List (Nat × Nat)} (hfired : s.test.fired = f :: rest) :
    (observationEnd s).silent = { s.silent with now := max s.now f.2 } ∧
      (observationEnd s).test = { s.test with fired := rest, inject := s.test.inject.erase f.1 } := by
  unfold observationEnd
  rw [hfired]
  refine ⟨silent_raise4 .., ?_⟩
  exact (raise_unseen_test (injectionMeets_injection (.inr rfl))).trans rfl

/-! Host requests (R490, R491) -/

theorem selftestRequest_waits {k : Fin 12} {ns : List Nat} (hlimit : bits 63 32 (e.word 1) = 0)
    (hnamed : namedInstances (bits 15 0 (e.word 1)) = some (k, ns)) (hpermitted : ∀ m ∈ ns, s.testPermitted k m = true) (hroom : s.test.reqs.length < 4)
    (hnew : ∀ q ∈ s.test.reqs, q.test ≠ bits 15 0 (e.word 1)) : ∃ q : TestReq,
      selftestRequest e r s = { s with test := { s.test with reqs := s.test.reqs ++ [q] }, freeCount := s.freeCount + 1 } ∧
      q.ref = r ∧ q.test = bits 15 0 (e.word 1) ∧ q.deadline = 0 ∧ q.waiting = ns := by
  have hall : (ns.all fun n => s.testPermitted k n) = true := List.all_eq_true.2 hpermitted
  have hany : (s.test.reqs.any fun q => q.test == bits 15 0 (e.word 1)) = false :=
    List.any_eq_false.2 fun q hq => by simpa using hnew q hq
  refine ⟨{ ref := r, test := bits 15 0 (e.word 1), deadline := 0, waiting := ns, passed := true, values := List.replicate (min 16 ns.length) 0 },
    ?_, rfl, rfl, rfl, rfl⟩
  unfold selftestRequest
  dsimp only
  rw [hnamed]
  dsimp only
  rw [hlimit, if_neg (by rw [hall]; decide), if_neg (by rw [hany, decide_eq_false (by omega)]; decide), if_neg (by simp), if_pos rfl]

/-- A test that is dropped leaves the requests. -/
theorem dropInstance_kept (k : Fin 12) (n : Nat) (s : State) : (dropInstance k n s).silent = s.silent ∧ (dropInstance k n s).test.reqs = s.test.reqs := by
  unfold dropInstance
  split
  · exact ⟨rfl, rfl⟩
  · unfold modInst
    split <;> exact ⟨rfl, rfl⟩

theorem foldl_dropInstance_kept (k : Fin 12) (ns : List Nat) (s : State) :
    (ns.foldl (fun a n => dropInstance k n a) s).silent = s.silent ∧ (ns.foldl (fun a n => dropInstance k n a) s).test.reqs = s.test.reqs := by
  induction ns generalizing s with
  | nil => exact ⟨rfl, rfl⟩
  | cons n t ih =>
    obtain ⟨hsilent, hreqs⟩ := dropInstance_kept k n s
    exact ⟨(ih _).1.trans hsilent, (ih _).2.trans hreqs⟩

theorem testDeadline_defers {code : Nat} {q : TestReq} {k : Fin 12} {ns : List Nat} (hreqs : s.test.reqs = [q]) (htest : q.test = code)
    (hdeadline : q.deadline ≠ 0) (hnamed : namedInstances code = some (k, ns)) :
    (testDeadline code s).silent = { s.silent with now := max s.now q.deadline } ∧ (testDeadline code s).test.reqs = [] ∧
      (testDeadline code s).answered q.ref stDeferred [] := by
  unfold testDeadline
  rw [hreqs, List.find?_cons_of_pos (by simp [htest, hdeadline]), hnamed]
  dsimp only
  generalize hw : setNow q.deadline _ = w
  have hsilent : w.silent = { s.silent with now := max s.now q.deadline } := by rw [← hw]; rfl
  have hnone : w.test.reqs = [] := by
    rw [← hw]
    exact List.filter_eq_nil_iff.2 fun x hx => by rw [List.mem_singleton.1 hx, htest]; simp
  obtain ⟨hdropped, hkept⟩ := foldl_dropInstance_kept k q.waiting w
  refine ⟨(silent_complete ..).trans (hdropped.trans hsilent), ?_, complete_answered ..⟩
  rw [complete_test]
  exact hkept.trans hnone

/-! Instances (R484, R488) -/

theorem inst_modInst_self {k : Fin 12} {n : Nat} (f : TestInst → TestInst) (s : State) (h : n < 24) :
    (modInst k n f s).test.inst[k][n] = f s.test.inst[k][n] := by
  unfold modInst
  rw [dif_pos h]
  simp

theorem inst_modInst_ne {k : Fin 12} {n m : Nat} (f : TestInst → TestInst) (s : State) (hne : n ≠ m) (h : m < 24) :
    (modInst k n f s).test.inst[k][m] = s.test.inst[k][m] := by
  unfold modInst
  split
  · simp [Vector.getElem_set_ne _ _ hne]
  · rfl

theorem silent_modInst (k : Fin 12) (n : Nat) (f : TestInst → TestInst) (s : State) : (modInst k n f s).silent = s.silent := by
  unfold modInst
  split <;> rfl

theorem test_modInst (k : Fin 12) (n : Nat) (f : TestInst → TestInst) (s : State) :
    (modInst k n f s).test = { s.test with inst := (modInst k n f s).test.inst } := by
  unfold modInst
  split <;> rfl

/-- At the end of an interval a test is due; one that was due has missed it. -/
theorem instanceInterval_due {k : Fin 12} {n : Nat} (h : n < 24) (s : State) : (instanceInterval k n s).silent = s.silent ∧
    ∃ f : TestInst → TestInst, (∀ x, (f x).due = true ∧ (f x).missed = if s.test.inst[k][n].due then s.test.inst[k][n].missed + 1 else 0) ∧
      (instanceInterval k n s).test.inst = (modInst k n f s).test.inst := by
  unfold instanceInterval
  rw [dif_pos h]
  extract_lets +onlyGivenNames x missed late u
  have hu : u.silent = s.silent := silent_modInst ..
  split
  · have hraised : Reported u (bump 0xE0D0 5 (raise 0xD004 (testPlace k n).1 (testPlace k n).2 [(testCode k n : Int)] u)) := .bump (.raise (.refl u))
    exact ⟨hraised.silent.trans hu, fun y => { y with due := true, missed := missed, overdue := y.overdue || late }, fun _ => ⟨rfl, rfl⟩,
      (congrArg TestUnit.inst hraised.test :)⟩
  · exact ⟨hu, fun y => { y with due := true, missed := missed, overdue := y.overdue || late }, fun _ => ⟨rfl, rfl⟩, rfl⟩

theorem instanceInterval_ne {k : Fin 12} {n m : Nat} (hne : n ≠ m) (h : m < 24) (s : State) :
    (instanceInterval k n s).test.inst[k][m] = s.test.inst[k][m] := by
  by_cases hn : n < 24
  · obtain ⟨-, f, -, hinst⟩ := instanceInterval_due (k := k) hn s
    rw [hinst]
    exact inst_modInst_ne f s hne h
  · unfold instanceInterval
    rw [dif_neg hn]

theorem silent_instanceInterval (k : Fin 12) (n : Nat) (s : State) : (instanceInterval k n s).silent = s.silent := by
  by_cases hn : n < 24
  · exact (instanceInterval_due hn s).1
  · unfold instanceInterval
    rw [dif_neg hn]

/-- Each test of a list is due at the end of its interval. -/
theorem foldl_instanceInterval_due {k : Fin 12} {n : Nat} (h : n < 24) {l : List Nat} (hnodup : l.Nodup) (hmem : n ∈ l) (s : State) :
    (l.foldl (fun a n => instanceInterval k n a) s).test.inst[k][n].due = true ∧ (l.foldl (fun a n => instanceInterval k n a) s).test.inst[k][n].missed =
      if s.test.inst[k][n].due then s.test.inst[k][n].missed + 1 else 0 := by
  have hrest : ∀ (l : List Nat) (v : State), n ∉ l → (l.foldl (fun a n => instanceInterval k n a) v).test.inst[k][n] = v.test.inst[k][n] := by
    intro l
    induction l with
    | nil => exact fun v _ => rfl
    | cons m t ih =>
      intro v hnot
      exact (ih _ (List.not_mem_of_not_mem_cons hnot)).trans (instanceInterval_ne (Ne.symm (List.ne_of_not_mem_cons hnot)) h v)
  induction l generalizing s with
  | nil => cases hmem
  | cons m t ih =>
    obtain ⟨hout, hnodup⟩ := List.nodup_cons.1 hnodup
    rw [List.foldl_cons]
    by_cases hm : m = n
    · subst hm
      obtain ⟨-, f, hf, hinst⟩ := instanceInterval_due (k := k) h s
      rw [hrest t _ hout, hinst, inst_modInst_self f s h]
      exact hf _
    · obtain ⟨hdue, hmissed⟩ := ih hnodup (List.mem_of_ne_of_mem (Ne.symm hm) hmem) (instanceInterval k m s)
      rw [instanceInterval_ne hm h] at hmissed
      exact ⟨hdue, hmissed⟩

theorem intervalEnds_counts {k : Fin 12} (hon : s.act 0xD000 1 = 1) (hbefore : s.test.nominal[k] + 1 < s.intervalFactor) :
    intervalEnds k s = { s with test := { s.test with nominal := s.test.nominal.set k (s.test.nominal[k] + 1) } } := by
  unfold intervalEnds
  dsimp only
  rw [if_neg (by simp [hon]), decide_eq_false (by omega)]
  rfl

theorem intervalEnds_due {k : Fin 12} {n : Nat} (hon : s.act 0xD000 1 = 1) (hends : s.intervalFactor ≤ s.test.nominal[k] + 1) (hn : n < testInstances k)
    (hpermitted : s.testPermitted k n = true) (h : n < 24) : Quiet (intervalEnds k s) s ∧ (intervalEnds k s).test.inst[k][n].due = true ∧
      (intervalEnds k s).test.inst[k][n].missed = if s.test.inst[k][n].due then s.test.inst[k][n].missed + 1 else 0 := by
  unfold intervalEnds
  rw [if_neg (by simp [hon])]
  extract_lets +onlyGivenNames m ends src u
  have hl : ends = true := decide_eq_true hends
  have hmem : n ∈ (List.range (testInstances k)).filter fun n => u.testPermitted k n :=
    List.mem_filter.2 ⟨List.mem_range.2 hn, hpermitted⟩
  rw [if_pos hl]
  refine ⟨?_, foldl_instanceInterval_due h (List.nodup_range.filter _) hmem u⟩
  exact silent_foldl (fun v n => silent_instanceInterval k n v) _ u

/-! Slices (R486, R487, R491) -/

theorem sliceStart_begins {k : Fin 12} {n : Nat} (hn : n < testInstances k) (hallowed : s.sliceAllowed k n = true) (hwanted : s.sliceWanted k n = true)
    (hidle : s.sliceIdle k n = true) (hhost : s.hostSliceFirst k n = false) (hnew : (k, n) ∉ s.test.running)
    (hroom : s.test.running.length < (if 3 ≤ s.die.level then 1 else 2)) (hpower : s.slicesPower + (testPower k : Rat) / 100 ≤ s.testHeadroom) :
    sliceStart k n s = bump 0xE0D0 1 (beginSlice k n s) := by
  have hcontains : s.test.running.contains (k, n) = false := by simpa using hnew
  unfold sliceStart
  rw [if_neg (by rw [hallowed, hwanted, hidle, hhost, hcontains, decide_eq_false (by omega)]; decide)]
  dsimp only
  rw [if_neg]
  rw [decide_eq_false (by omega), decide_eq_false (not_lt.2 hpower)]
  decide

/-- A bridge has its slice of the carrier period. -/
theorem beginSlice_placed (k : Fin 12) (n : Nat) (b : BridgeId) (s : State) : (beginSlice k n s).test.placed[b] =
    if testBridge k n = some b then some s.br[b].car.period else s.test.placed[b] := by
  unfold beginSlice
  dsimp only
  cases testBridge k n with
  | none => rfl
  | some d =>
    by_cases hd : d = b
    · subst hd
      simp
    · rw [if_neg (by simpa using hd)]
      exact Vector.getElem_set_ne d.2 b.2 (fun heq => hd (Fin.ext heq))

theorem noteRequests_none {k : Fin 12} {n : Nat} {pass : Bool} {value : Int} (hreqs : s.test.reqs = []) :
    noteRequests k n pass value s = { s with test := { s.test with reqs := [] } } := by
  unfold noteRequests
  dsimp only
  rw [hreqs]
  rfl

/-- A result of kind 0x0A, or a pass of kind 0x06, stands alone: it reaches no other unit and no request. -/
theorem instanceDone_stands {k : Fin 12} {n : Nat} {pass : Bool} {value : Int} (h : n < 24) (hkind : k = 5 ∨ k = 9) (hpass : k = 5 → pass = true)
    (hreqs : s.test.reqs = []) : Quiet (instanceDone k n pass value s) s ∧ (instanceDone k n pass value s).test.running = s.test.running ∧
      (instanceDone k n pass value s).test.inst[k][n].result = (if pass then 1 else 2) ∧ (instanceDone k n pass value s).test.inst[k][n].due = false ∧
      (instanceDone k n pass value s).test.inst[k][n].passedAt = if pass then some s.now else s.test.inst[k][n].passedAt := by
  unfold instanceDone
  extract_lets +onlyGivenNames v u at0 w x
  have hu : u.silent = s.silent := silent_modInst ..
  have hw : Reported u w := by
    show Reported u (if pass then bump 0xE0D0 3 u else testFailed k n (bump 0xE0D0 4 (raise 0xD001 at0.1 at0.2 [(testCode k n : Int), v] u)))
    split
    · exact .bump (.refl u)
    · next hfails =>
      obtain rfl : k = 9 := hkind.resolve_left fun h5 => hfails (hpass h5)
      have haction : ∀ y : State, testFailed 9 n y = y := by
        intro y
        unfold testFailed
        rw [dif_neg (by decide), if_neg (by decide), if_neg (by decide), if_neg (by decide), dif_pos h, if_neg (by decide), if_neg (by decide)]
      rw [haction]
      exact .bump (.raise (.refl u))
  have hx : x = w := dif_neg fun hk => by
    obtain rfl | rfl := hkind <;> exact absurd hk.1 (by decide)
  have huTest : u.test = { s.test with inst := u.test.inst } := test_modInst ..
  have hwTest := hw.test
  have hnone : w.test.reqs = [] := by rw [hwTest, huTest]; exact hreqs
  have hinst : w.test.inst[k][n] = u.test.inst[k][n] := (congrArg (fun y : TestUnit => y.inst[k][n]) hwTest :)
  have hrunning : w.test.running = s.test.running := by rw [hwTest, huTest]
  have hself : u.test.inst[k][n] = { s.test.inst[k][n] with
      result := if pass then 1 else 2, passedAt := if pass then some s.now else s.test.inst[k][n].passedAt, slices := 0, due := false, missed := 0,
      overdue := false } := inst_modInst_self _ s h
  rw [hx, noteRequests_none hnone]
  dsimp only
  rw [hinst, hself]
  exact ⟨hw.silent.trans hu, hrunning, rfl, rfl, rfl⟩

theorem sliceEnd_last {k : Fin 12} {n : Nat} {pass : Bool} {value : Int} (h : n < 24) (hrunning : s.test.running = [(k, n)]) (hkind : k = 5 ∨ k = 9)
    (hslices : s.test.inst[k][n].slices = 0) (hreqs : s.test.reqs = []) (hpass : k = 5 → pass = true) :
    Quiet (sliceEnd k n pass value s) s ∧ (sliceEnd k n pass value s).test.running = [] ∧
      (sliceEnd k n pass value s).test.inst[k][n].result = (if pass then 1 else 2) ∧ (sliceEnd k n pass value s).test.inst[k][n].due = false ∧
      (sliceEnd k n pass value s).test.inst[k][n].passedAt = if pass then some s.now else s.test.inst[k][n].passedAt := by
  unfold sliceEnd
  rw [if_neg (by rw [hrunning]; simp)]
  extract_lets +onlyGivenNames src u v done
  have hvTest : v.test = { u.test with inst := v.test.inst } := test_modInst ..
  have hvSilent : v.silent = s.silent := silent_modInst ..
  have hself : v.test.inst[k][n] = { s.test.inst[k][n] with slices := s.test.inst[k][n].slices + 1 } := inst_modInst_self _ u h
  have hdone : done = true := by
    show (if h : n < 24 then decide (testSlices k ≤ v.test.inst[k][n].slices) else false) = true
    rw [dif_pos h, hself, hslices]
    obtain rfl | rfl := hkind <;> rfl
  have hvReqs : v.test.reqs = [] := by rw [hvTest]; exact hreqs
  rw [if_pos hdone]
  obtain ⟨hquiet, hran, hresult, hdue, hpassed⟩ := instanceDone_stands (value := value) h hkind hpass hvReqs
  refine ⟨hquiet.trans hvSilent, hran.trans ?_, hresult, hdue, ?_⟩
  · rw [hvTest]
    show s.test.running.erase (k, n) = []
    rw [hrunning]
    simp
  · rw [hpassed, hself, silent_eq_now hvSilent]

/-- Settles O11: reports leave the self-test unit but for the injections observed, and no injection expects a report of its own. -/
theorem injectionAndSelfTestRows : Obligations.InjectionAndSelfTestRows := by
  unfold Obligations.InjectionAndSelfTestRows
  refine ⟨fun e s => ⟨fun hadmits hpoint hanswer hpermitted => ?_, fun n at0 hadmits harm hnumber htime hpermitted hkind => ?_,
    fun a harm => injectArmExpiry_ends harm, fun f rest hfired => ?_⟩, fun s k n => ⟨fun e ns hadmits hlimit hnamed hpermitted hroom hnew => ?_,
    fun hon hbefore => ?_, fun hon hends hn hpermitted h => ?_, fun hn hallowed hwanted hidle hhost hnew hroom hpower => ?_,
    fun pass value h hrunning hkind hslices hreqs hpass => ?_, fun test q ns hreqs htest hdeadline hnamed => ?_⟩⟩
  · obtain ⟨hsilent, htest, hanswered⟩ := injectArm_armed (r := e.ref 0x0307) hpoint hanswer hpermitted
    exact ⟨_, congrArg Host.Outcome.next (command_body e 0x0307 0 1 _ s hadmits), hsilent, (congrArg TestUnit.arm htest :),
      (congrArg TestUnit.armNumber htest :), (congrArg TestUnit.challenge htest :), hanswered⟩
  · obtain ⟨hsilent, htest, hanswered⟩ := injectFire_waits (r := e.ref 0x0308) rfl harm hnumber htime hpermitted hkind
    exact ⟨_, congrArg Host.Outcome.next (command_body e 0x0308 0 1 _ s hadmits), hsilent, (congrArg TestUnit.arm htest :),
      (congrArg TestUnit.inject htest :), (congrArg TestUnit.fired htest :), hanswered⟩
  · obtain ⟨hsilent, htest⟩ := observationEnd_ends hfired
    exact ⟨_, rfl, hsilent, (congrArg TestUnit.fired htest :), (congrArg TestUnit.inject htest :)⟩
  · obtain ⟨q, hstate, href, htest, hdeadline, hwaiting⟩ := selftestRequest_waits (r := e.ref 0x0601) hlimit hnamed hpermitted hroom hnew
    exact ⟨_, congrArg Host.Outcome.next ((command_body e 0x0601 3 1 _ s hadmits).trans hstate), rfl, q, rfl, href, htest, hdeadline, hwaiting⟩
  · exact congrArg Host.Outcome.next (intervalEnds_counts hon hbefore)
  · exact ⟨_, rfl, intervalEnds_due hon hends hn hpermitted h⟩
  · exact ⟨_, congrArg Host.Outcome.next (sliceStart_begins hn hallowed hwanted hidle hhost hnew hroom hpower), rfl, rfl,
      fun b => beginSlice_placed k n b s⟩
  · exact ⟨_, rfl, sliceEnd_last h hrunning hkind hslices hreqs hpass⟩
  · exact ⟨_, rfl, testDeadline_defers hreqs htest hdeadline hnamed⟩

end Sys2Proof.Machine
end

section
/-! PROOFS. The end of a boot: what it leaves of the NAND, the session and the frames that wait (O49). -/

namespace Sys2Proof.Machine

variable {o s u : State}

/-- From o to s the NAND, the state of the boot, the session and the frames that wait at the CAN controllers are the same. -/
structure SameBoot (o s : State) : Prop where
  nand : s.mem.nand = o.mem.nand
  booting : s.boot.booting = o.boot.booting
  session : s.io.session = o.io.session
  frames : ∀ k : CanId, s.can[k].high = o.can[k].high ∧ s.can[k].fifo = o.can[k].fifo

/-! Rules -/

theorem SameBoot.refl (s : State) : SameBoot s s := ⟨rfl, rfl, rfl, fun _ => ⟨rfl, rfl⟩⟩

/-- A change of anything else. -/
theorem SameBoot.frame {pe no fc pa tr st ar sm te br gr dr co cl prs pl pw di se ne ti} (h : SameBoot o s) :
    SameBoot o { s with pending := pe, now := no, freeCount := fc, par := pa, transfer := tr, st := st, arb := ar,
                        streams := sm, test := te, br := br, gr := gr, drive := dr, cont := co, clove := cl, pairs := prs, place := pl,
                        pwr := pw, die := di, sense := se, net := ne, time := ti } :=
  ⟨h.nand, h.booting, h.session, h.frames⟩

/-- A change of the queues. -/
theorem SameBoot.withIo {io : Io} (hio : io.session = s.io.session) (h : SameBoot o s) : SameBoot o { s with io := io } :=
  ⟨h.nand, h.booting, hio.trans h.session, h.frames⟩

/-- A change of the DRAM or the journal. -/
theorem SameBoot.withMem {m : Mem} (hm : m.nand = s.mem.nand) (h : SameBoot o s) : SameBoot o { s with mem := m } :=
  ⟨hm.trans h.nand, h.booting, h.session, h.frames⟩

/-- A change of the records or of what a boot has kept. -/
theorem SameBoot.withBoot {bo : Boot} (hbo : bo.booting = s.boot.booting) (h : SameBoot o s) : SameBoot o { s with boot := bo } :=
  ⟨h.nand, hbo.trans h.booting, h.session, h.frames⟩

/-- A report. -/
theorem SameBoot.reported (hu : Reported s u) (h : SameBoot o s) : SameBoot o u := by
  refine ⟨(congrArg Mem.nand (silent_eq_mem hu.silent)).trans h.nand, (congrArg Boot.booting (silent_eq_boot hu.silent)).trans h.booting,
    hu.session.trans h.session, fun k => ?_⟩
  rw [hu.can k]
  exact h.frames k

theorem SameBoot.ite {c : Prop} [Decidable c] {a b : State} (ha : SameBoot o a) (hb : SameBoot o b) : SameBoot o (if c then a else b) := by
  split <;> assumption

theorem SameBoot.dite {c : Prop} [Decidable c] {a : c → State} {b : ¬c → State} (ha : ∀ x, SameBoot o (a x)) (hb : ∀ x, SameBoot o (b x)) :
    SameBoot o (if x : c then a x else b x) := by
  split
  · exact ha _
  · exact hb _

theorem SameBoot.foldl {α : Type} {l : List α} {f : State → α → State} (hf : ∀ {u x}, SameBoot o u → SameBoot o (f u x)) (h : SameBoot o s) :
    SameBoot o (l.foldl f s) := by
  induction l generalizing s with
  | nil => exact h
  | cons x t ih => exact ih (hf h)

theorem SameBoot.onlyIf {c f} (hf : ∀ {u}, SameBoot o u → SameBoot o (f u)) (h : SameBoot o s) : SameBoot o (onlyIf c f s) := .ite (hf h) h

/-! Reports -/

theorem SameBoot.bump {i sub} (h : SameBoot o s) : SameBoot o (bump i sub s) := .frame h

theorem SameBoot.peak {i sub v} (h : SameBoot o s) : SameBoot o (peak i sub v s) := .frame h

theorem SameBoot.canQueue {c f p} (h : SameBoot o s) : SameBoot o (canQueue c f p s) := .reported (.canQueue (.refl s)) h

theorem SameBoot.modOut {q f} (h : SameBoot o s) : SameBoot o (modOut q f s) := .withIo rfl h

theorem SameBoot.pushEntry {q e} (h : SameBoot o s) : SameBoot o (pushEntry q e s) := .reported (.notifyEntry q (.refl _)) (.modOut h)

theorem SameBoot.raise {code level index payload} (h : SameBoot o s) : SameBoot o (raise code level index payload s) := .reported (.raise (.refl s)) h

theorem SameBoot.raise4 {code payload} (h : SameBoot o s) : SameBoot o (raise4 code payload s) := .raise h

theorem SameBoot.raiseB {code b payload} (h : SameBoot o s) : SameBoot o (raiseB code b payload s) := .raise h

theorem SameBoot.raiseG {code g payload} (h : SameBoot o s) : SameBoot o (raiseG code g payload s) := .raise h

theorem SameBoot.raiseFirst {code level index payload key} (h : SameBoot o s) : SameBoot o (raiseFirst code level index payload key s) :=
  .reported (.raiseFirst (.refl s)) h

/-! The operations of the boot's end, in the order of the model's files -/

theorem SameBoot.modBr {b f} (h : SameBoot o s) : SameBoot o (modBr b f s) := .frame h

theorem SameBoot.modGr {g f} (h : SameBoot o s) : SameBoot o (modGr g f s) := .frame h

theorem SameBoot.modPos {p f} (h : SameBoot o s) : SameBoot o (modPos p f s) := .modBr h

theorem SameBoot.forBr {l f} (hf : ∀ {b u}, SameBoot o u → SameBoot o (f b u)) (h : SameBoot o s) : SameBoot o (forBr l f s) := .foldl hf h

theorem SameBoot.forGr {l f} (hf : ∀ {g u}, SameBoot o u → SameBoot o (f g u)) (h : SameBoot o s) : SameBoot o (forGr l f s) := .foldl hf h

theorem SameBoot.drew (h : SameBoot o s) : SameBoot o (drew s) := .frame h

theorem SameBoot.modCmd {q f} (h : SameBoot o s) : SameBoot o (modCmd q f s) := .withIo rfl h

theorem SameBoot.modCan {c f} (hf : ∀ x : Can, (f x).high = x.high ∧ (f x).fifo = x.fifo) (h : SameBoot o s) : SameBoot o (modCan c f s) := by
  refine ⟨h.nand, h.booting, h.session, fun k => ?_⟩
  by_cases hk : k = c
  · subst hk
    rw [can_modCan_self, (hf _).1, (hf _).2]
    exact h.frames k
  · have hsame : (Machine.modCan c f s).can[k] = s.can[k] := Vector.getElem_set_ne c.2 k.2 fun heq => hk (Fin.ext heq.symm)
    rw [hsame]
    exact h.frames k

theorem SameBoot.complete {r status results} (h : SameBoot o s) : SameBoot o (complete r status results s) :=
  .onlyIf .bump (.onlyIf .bump (.pushEntry (.modCmd (.withIo rfl h))))

theorem SameBoot.modStream {k f} (h : SameBoot o s) : SameBoot o (modStream k f s) := .frame h

theorem SameBoot.drainRing {q k n} (h : SameBoot o s) : SameBoot o (drainRing q k n s) := by
  induction n generalizing s with
  | zero => exact h
  | succ n ih =>
    unfold Machine.drainRing
    extract_lets
    split
    · exact .ite (ih (.modStream (.modOut h))) h
    · exact h

theorem SameBoot.discardOldest {k need n} (h : SameBoot o s) : SameBoot o (discardOldest k need n s) := by
  induction n generalizing s with
  | zero => exact h
  | succ n ih =>
    unfold Machine.discardOldest
    extract_lets
    split
    · exact h
    · split
      · exact h
      · exact ih (.drainRing (.bump (.onlyIf .modStream (.modOut h))))

theorem SameBoot.packetLost {k} (h : SameBoot o s) : SameBoot o (packetLost k s) := .raiseFirst h

theorem SameBoot.toRing {k p} (h : SameBoot o s) : SameBoot o (toRing k p s) := .peak (.bump (.modStream (.pushEntry (.modOut h))))

theorem SameBoot.enqueuePacket {k p} (h : SameBoot o s) : SameBoot o (enqueuePacket k p s) := by
  unfold Machine.enqueuePacket
  extract_lets _ _ _ _ _ _ s1
  have h1 : SameBoot o s1 := .packetLost (.discardOldest (.bump h))
  split
  · exact .pushEntry (.bump h)
  · exact .ite (.toRing (.bump h)) (.ite (.ite (.toRing h1) (.toRing (.modOut h1))) (.packetLost (.bump (.modStream (.bump h)))))

theorem SameBoot.stopStream {k} (h : SameBoot o s) : SameBoot o (stopStream k s) := .foldl .complete (.raise4 (.modStream h))

theorem SameBoot.closePacket {k truncated final} (h : SameBoot o s) : SameBoot o (closePacket k truncated final s) :=
  .ite h (.enqueuePacket (.onlyIf .bump (.modStream h)))

theorem SameBoot.streamBridgeLost {b} (h : SameBoot o s) : SameBoot o (streamBridgeLost b s) :=
  .foldl (fun h => .ite (.ite (.stopStream (.closePacket h)) (.closePacket h)) h) h

theorem SameBoot.canFailed {c cause source} (h : SameBoot o s) : SameBoot o (canFailed c cause source s) := .raiseFirst (.bump h)

theorem SameBoot.canFailAll {c cause} (h : SameBoot o s) : SameBoot o (canFailAll c cause s) := .foldl .canFailed (.modCan (fun _ => ⟨rfl, rfl⟩) h)

theorem SameBoot.claimAddress {c a} (h : SameBoot o s) : SameBoot o (claimAddress c a s) := .canQueue (.modCan (fun _ => ⟨rfl, rfl⟩) h)

theorem SameBoot.claimNext {c} (h : SameBoot o s) : SameBoot o (claimNext c s) := by
  unfold Machine.claimNext
  split
  · exact .claimAddress h
  · exact .raise4 (.canQueue (.modCan (fun _ => ⟨rfl, rfl⟩) h))

theorem SameBoot.beginClaim {c} (h : SameBoot o s) : SameBoot o (beginClaim c s) := .ite (.claimNext h) (.claimAddress h)

theorem SameBoot.startCan {c} (h : SameBoot o s) : SameBoot o (startCan c s) := .ite (.beginClaim (.modCan (fun _ => ⟨rfl, rfl⟩) (.canFailAll h))) (.modCan (fun _ => ⟨rfl, rfl⟩) (.canFailAll h))

theorem SameBoot.restartCan {old standby c} (h : SameBoot o s) : SameBoot o (restartCan old standby c s) := .ite (.startCan h) h

theorem SameBoot.modTh {b f} (h : SameBoot o s) : SameBoot o (modTh b f s) := .modBr h

theorem SameBoot.modDie {f} (h : SameBoot o s) : SameBoot o (modDie f s) := .frame h

theorem SameBoot.seedBridge {b} (h : SameBoot o s) : SameBoot o (seedBridge b s) := by
  unfold Machine.seedBridge
  exact .modTh h

theorem SameBoot.addEnergy {b f} (h : SameBoot o s) : SameBoot o (addEnergy b f s) := .modBr h

theorem SameBoot.uncharge {b} (h : SameBoot o s) : SameBoot o (uncharge b s) := .modBr h

theorem SameBoot.chargeShort {b p ticks} (h : SameBoot o s) : SameBoot o (chargeShort b p ticks s) := by
  unfold Machine.chargeShort
  exact .addEnergy h

theorem SameBoot.chargeForced {p b} (h : SameBoot o s) : SameBoot o (chargeForced p b s) := .chargeShort (.addEnergy (.uncharge h))

theorem SameBoot.settleLimits {g} (h : SameBoot o s) : SameBoot o (settleLimits g s) :=
  .ite (.bump (.raiseG (.modGr h))) (.ite (.raiseG (.modGr h)) (.modGr h))

theorem SameBoot.putCount {g e} (h : SameBoot o s) : SameBoot o (putCount g e s) := .settleLimits (.modGr h)

theorem SameBoot.switchSource {g i} (h : SameBoot o s) : SameBoot o (switchSource g i s) := .putCount (.bump (.raiseG (.modGr h)))

theorem SameBoot.dropOffsets {g} (h : SameBoot o s) : SameBoot o (dropOffsets g s) := .modGr h

theorem SameBoot.takeAssigned {old g} (h : SameBoot o s) : SameBoot o (takeAssigned old g s) := by
  unfold Machine.takeAssigned
  extract_lets
  split
  · exact .onlyIf .dropOffsets h
  · split
    · exact .ite (.onlyIf .dropOffsets h) (.switchSource (.onlyIf .dropOffsets h))
    · exact .modGr (.onlyIf .dropOffsets h)

theorem SameBoot.refreshBounds (h : SameBoot o s) : SameBoot o (refreshBounds s) :=
  .forGr (fun h => .ite h (.onlyIf .raise4 (.onlyIf .raise (.frame h)))) (.forBr (fun h => .onlyIf .raise4 (.onlyIf .raise (.frame h))) h)

theorem SameBoot.modAllPos {b f} (h : SameBoot o s) : SameBoot o (modAllPos b f s) := .modBr h

theorem SameBoot.endHold {p} (h : SameBoot o s) : SameBoot o (endHold p s) := by
  unfold Machine.endHold
  split
  · exact h
  · exact .onlyIf .bump (.modPos h)

theorem SameBoot.turnOff {p} (h : SameBoot o s) : SameBoot o (turnOff p s) := .modPos (.endHold h)

theorem SameBoot.noteEdge {l rising t} (h : SameBoot o s) : SameBoot o (noteEdge l rising t s) := .modBr h

theorem SameBoot.noteOff {b} (h : SameBoot o s) : SameBoot o (noteOff b s) := .foldl (fun h => .onlyIf .noteEdge h) h

theorem SameBoot.turnAllOff {b} (h : SameBoot o s) : SameBoot o (turnAllOff b s) := .foldl .turnOff (.noteOff h)

theorem SameBoot.clearCharges (h : SameBoot o s) : SameBoot o (clearCharges s) := .frame h

theorem SameBoot.settlePd7 (h : SameBoot o s) : SameBoot o (settlePd7 s) := .frame (.onlyIf .clearCharges h)

theorem SameBoot.restoreWindows (h : SameBoot o s) : SameBoot o (restoreWindows s) := .frame h

theorem SameBoot.stopChop (h : SameBoot o s) : SameBoot o (stopChop s) := by
  unfold Machine.stopChop
  split
  · exact h
  · extract_lets
    split
    · exact .frame h
    · exact .forBr (fun h => .foldl (fun k => .modPos (.turnOff k)) h) (.frame h)

theorem SameBoot.setDrive {d} (h : SameBoot o s) : SameBoot o (setDrive d s) := by
  unfold Machine.setDrive
  split
  · exact h
  · extract_lets _ _ _ _ _ _ s1
    have h0 : SameBoot o (Machine.onlyIf (decide (s.drive.state = .discharge)) Machine.stopChop s) := .onlyIf .stopChop h
    have h1 : SameBoot o s1 := ⟨h0.nand, h0.booting, h0.session, h0.frames⟩
    exact .settlePd7 (.refreshBounds (.restoreWindows (.forGr .takeAssigned (.restartCan (.restartCan h1)))))

theorem SameBoot.settleDrive (h : SameBoot o s) : SameBoot o (settleDrive s) := by
  unfold Machine.settleDrive
  split
  · exact .setDrive h
  · exact .setDrive h
  · exact .setDrive h
  · exact .setDrive h
  · exact .setDrive h
  · exact .onlyIf .setDrive h
  · exact h

theorem SameBoot.startOutcome {b cause} (h : SameBoot o s) : SameBoot o (startOutcome b cause s) := .foldl .complete (.frame h)

theorem SameBoot.applyBrake (h : SameBoot o s) : SameBoot o (applyBrake s) := by
  unfold Machine.applyBrake
  split
  · exact h
  · exact .ite (.bump (.raiseG (.frame h))) h

theorem SameBoot.applyBrakeOf {g} (h : SameBoot o s) : SameBoot o (applyBrakeOf g s) := .onlyIf .applyBrake h

theorem SameBoot.modWin {w f} (h : SameBoot o s) : SameBoot o (modWin w f s) := .frame h

theorem SameBoot.raiseWindow {code w payload} (h : SameBoot o s) : SameBoot o (raiseWindow code w payload s) := by
  unfold Machine.raiseWindow
  split
  · exact .raiseG h
  · exact .raise4 h

theorem SameBoot.closeWindow {w} (h : SameBoot o s) : SameBoot o (closeWindow w s) := .ite (.raiseWindow (.modWin h)) h

theorem SameBoot.endWindow {w} (h : SameBoot o s) : SameBoot o (endWindow w s) := .restoreWindows (.closeWindow (.modWin h))

theorem SameBoot.settleGroup {g} (h : SameBoot o s) : SameBoot o (settleGroup g s) := by
  unfold Machine.settleGroup
  extract_lets _ _ _ _ _ s1
  have h1 : SameBoot o s1 := .onlyIf (fun h => .closeWindow (.raiseG (.modGr h))) h
  exact .ite (.onlyIf .modGr h1) (.restoreWindows (.modWin (.onlyIf .modGr h1)))

theorem SameBoot.clearAtlasCells {g} (h : SameBoot o s) : SameBoot o (clearAtlasCells g s) := .withMem rfl h

theorem SameBoot.setAtlasState {g c} (h : SameBoot o s) : SameBoot o (setAtlasState g c s) := .ite h (.raiseG (.modGr h))

theorem SameBoot.abortIdent {g} (h : SameBoot o s) : SameBoot o (abortIdent g s) := by
  unfold Machine.abortIdent
  extract_lets
  split
  · exact h
  · extract_lets s1 _ s2
    have h1 : SameBoot o s1 := .onlyIf (fun h => .forBr .modBr h) h
    have h2 : SameBoot o s2 := .setAtlasState (.clearAtlasCells (.modGr h1))
    split
    · exact .complete h2
    · exact h2

theorem SameBoot.settleSs1Reqs (h : SameBoot o s) : SameBoot o (settleSs1Reqs s) := .foldl .complete (.frame h)

theorem SameBoot.noteSs1 {g n0} (h : SameBoot o s) : SameBoot o (noteSs1 g n0 s) := .settleSs1Reqs (.frame h)

theorem SameBoot.takeSelection {g} (h : SameBoot o s) : SameBoot o (takeSelection g s) := by
  unfold Machine.takeSelection
  split
  · exact h
  · exact .foldl .complete (.raiseG (.modGr h))

theorem SameBoot.refuseTorque {x} (h : SameBoot o s) : SameBoot o (refuseTorque x s) := .foldl .complete h

theorem SameBoot.unlatchTorque {g} (h : SameBoot o s) : SameBoot o (unlatchTorque g s) := by
  unfold Machine.unlatchTorque
  split
  · exact h
  · exact .ite (.complete (.modGr h)) (.modGr h)

theorem SameBoot.groupOut {g} (h : SameBoot o s) : SameBoot o (groupOut g s) :=
  .ite h (.abortIdent (.applyBrakeOf (.refuseTorque (.onlyIf .noteSs1 (.takeSelection (.modGr (.foldl .raiseG h)))))))

theorem SameBoot.latchFor {code p} (h : SameBoot o s) : SameBoot o (latchFor code p s) := .ite h (.bump (.modPos (.turnOff h)))

theorem SameBoot.latchPos {p} (h : SameBoot o s) : SameBoot o (latchPos p s) := .ite h (.raise (.latchFor h))

theorem SameBoot.loseSplit {b} (h : SameBoot o s) : SameBoot o (loseSplit b s) := by
  unfold Machine.loseSplit
  split
  · exact h
  · split
    · exact .ite (.unlatchTorque (.modGr h)) h
    · exact h

theorem SameBoot.leaveRun {b} (h : SameBoot o s) : SameBoot o (leaveRun b s) :=
  .streamBridgeLost (.modBr (.foldl (fun h => .ite (.latchPos h) h) (.loseSplit h)))

theorem SameBoot.dueStandbyTests {b} (h : SameBoot o s) : SameBoot o (dueStandbyTests b s) := .frame h

theorem SameBoot.startCheckpoint {g} (h : SameBoot o s) : SameBoot o (startCheckpoint g s) := by
  unfold Machine.startCheckpoint
  exact .modGr (.withMem rfl h)

theorem SameBoot.groupStandbyEntry {g} (h : SameBoot o s) : SameBoot o (groupStandbyEntry g s) := by
  unfold Machine.groupStandbyEntry
  split
  · exact h
  · extract_lets _ _ _ _ _ s1 _ s2
    have h1 : SameBoot o s1 := by
      unfold s1
      split
      · exact .onlyIf .switchSource (.modGr (.takeSelection h))
      · exact .modGr (.takeSelection h)
    have h2 : SameBoot o s2 := .onlyIf .setAtlasState (.onlyIf .raiseG h1)
    exact .onlyIf .startCheckpoint h2

theorem SameBoot.emptySets {b} (h : SameBoot o s) : SameBoot o (emptySets b s) := .modBr (.uncharge h)

theorem SameBoot.enterStandby {b} (h : SameBoot o s) : SameBoot o (enterStandby b s) := by
  unfold Machine.enterStandby
  extract_lets _ _ s1 s2
  have h1 : SameBoot o s1 := .dueStandbyTests (.turnAllOff (.emptySets (.modBr h)))
  have h2 : SameBoot o s2 := by
    unfold s2
    split
    · exact .groupStandbyEntry h1
    · exact h1
  exact .restoreWindows h2

theorem SameBoot.settleDisables (h : SameBoot o s) : SameBoot o (settleDisables s) := .foldl .complete (.frame h)

theorem SameBoot.settleBridge {b} (h : SameBoot o s) : SameBoot o (settleBridge b s) := by
  unfold Machine.settleBridge
  extract_lets s1
  have h1 : SameBoot o s1 := by
    unfold s1
    split
    · exact .settleGroup (.groupOut h)
    · exact h
  exact .settleDrive (.settleDisables h1)

theorem SameBoot.bridgeTo {st b} (h : SameBoot o s) : SameBoot o (bridgeTo st b s) :=
  .ite h (.settleBridge (.onlyIf .enterStandby (.onlyIf .leaveRun (.modBr h))))

theorem SameBoot.abortStart {b cause} (h : SameBoot o s) : SameBoot o (abortStart b cause s) := by
  unfold Machine.abortStart
  split
  · extract_lets _ _ s1
    have h1 : SameBoot o s1 := by
      unfold s1
      split
      · exact .bump (.raiseB (.modBr h))
      · exact .raiseB (.modBr h)
    exact .startOutcome h1
  · exact h

theorem SameBoot.recordLost (h : SameBoot o s) : SameBoot o (recordLost s) := by
  unfold Machine.recordLost
  split
  · exact .ite h (.raise4 h)
  · exact h

theorem SameBoot.writeRecord {event level index kind} (h : SameBoot o s) : SameBoot o (writeRecord event level index kind s) := .withBoot rfl (.recordLost h)

theorem SameBoot.snapshotFault {src level b} (h : SameBoot o s) : SameBoot o (snapshotFault src level b s) := .bump (.raise4 (.writeRecord h))

theorem SameBoot.forceOutputs {p b} (h : SameBoot o s) : SameBoot o (forceOutputs p b s) :=
  .foldl (fun h => .modPos (.ite h (.turnOff h))) (.onlyIf .noteOff h)

theorem SameBoot.cloveInvalid {g} (h : SameBoot o s) : SameBoot o (cloveInvalid g s) := .ite h (.onlyIf .raiseG (.bump (.frame h)))

theorem SameBoot.ascSpeed {b} (h : SameBoot o s) : SameBoot o (ascSpeed b s) := by
  unfold Machine.ascSpeed
  split
  · exact .ite (.cloveInvalid h) h
  · exact h

theorem SameBoot.setCoil {c on} (h : SameBoot o s) : SameBoot o (setCoil c on s) := .ite h (.frame h)

theorem SameBoot.deferDischarge (h : SameBoot o s) : SameBoot o (deferDischarge s) := .ite (.bump (.raise4 (.frame (.stopChop h)))) h

theorem SameBoot.hvSleep (h : SameBoot o s) : SameBoot o (hvSleep s) := .frame (.setDrive h)

theorem SameBoot.failDischarge (h : SameBoot o s) : SameBoot o (failDischarge s) := by
  unfold Machine.failDischarge
  extract_lets _ _ _ _ _ _ s1 s2
  have h1 : SameBoot o s1 := .bump (.raise4 (.frame (.stopChop h)))
  have h2 : SameBoot o s2 := .foldl .complete h1
  exact .ite (.hvSleep (.writeRecord h2)) (.setDrive h2)

theorem SameBoot.runDischarge {winding} (h : SameBoot o s) : SameBoot o (runDischarge winding s) := by
  unfold Machine.runDischarge
  split
  · split
    · exact .failDischarge h
    · exact .bump (.raise4 (.frame h))
  · exact .bump (.raise4 (.frame h))

theorem SameBoot.startDischarge (h : SameBoot o s) : SameBoot o (startDischarge s) :=
  .ite h (.ite (.ite h (.bump (.raise4 (.frame h)))) (.runDischarge (.onlyIf .setDrive (.frame h))))

theorem SameBoot.settleOpen (h : SameBoot o s) : SameBoot o (settleOpen s) := .ite (.startDischarge h) h

theorem SameBoot.openCoil {c} (h : SameBoot o s) : SameBoot o (openCoil c s) := .onlyIf .raise4 (.setCoil h)

theorem SameBoot.settleDischarge (h : SameBoot o s) : SameBoot o (settleDischarge s) := by
  unfold Machine.settleDischarge
  split
  · exact h
  · split
    · exact .startDischarge h
    · split
      · split
        · exact .setDrive h
        · exact .setDrive h
        · exact h
      · exact h

theorem SameBoot.setPattern {p b} (h : SameBoot o s) : SameBoot o (setPattern p b s) := by
  unfold Machine.setPattern
  extract_lets _ _ _ s1 _ _ s2 _ s3
  have h1 : SameBoot o s1 := .onlyIf .turnAllOff (.onlyIf .chargeForced h)
  have h2 : SameBoot o s2 := .modBr (.forceOutputs (.modBr h1))
  have h3 : SameBoot o s3 := .ite (.onlyIf .ascSpeed h2) (.bridgeTo (.onlyIf .ascSpeed h2))
  exact .settlePd7 (.ite (.deferDischarge h3) (.onlyIf .settleDischarge h3))

theorem SameBoot.raiseForced {src level b p} (h : SameBoot o s) : SameBoot o (raiseForced src level b p s) := .raise h

theorem SameBoot.changePattern {p b} (h : SameBoot o s) : SameBoot o (changePattern p b s) := .ite h (.raiseForced (.setPattern h))

theorem SameBoot.reacqFailed {g case} (h : SameBoot o s) : SameBoot o (reacqFailed g case s) :=
  .ite (.forBr (fun h => .bridgeTo (.changePattern (.modBr h))) (.raiseG (.bump (.raiseG (.modGr h))))) (.modGr (.bump (.raiseG (.modGr h))))

theorem SameBoot.abandonSlices {sel} (h : SameBoot o s) : SameBoot o (abandonSlices sel s) := .frame h

theorem SameBoot.reacqBroken {g} (h : SameBoot o s) : SameBoot o (reacqBroken g s) := .ite h (.reacqFailed h)

theorem SameBoot.latchForce {src p level b} (h : SameBoot o s) : SameBoot o (latchForce src p level b s) := by
  unfold Machine.latchForce
  extract_lets _ _ _ s1 _ s2 _ s3
  have h1 : SameBoot o s1 := by
    unfold s1
    split
    · exact .onlyIf .applyBrakeOf (.abandonSlices (.modBr h))
    · exact .abandonSlices (.modBr h)
  have h2 : SameBoot o s2 := by
    unfold s2
    split
    · exact .onlyIf .reacqBroken (.modBr h1)
    · exact .modBr h1
  have h3 : SameBoot o s3 := .onlyIf .modBr (.onlyIf .abortStart h2)
  exact .ite (.ite (.snapshotFault (.raiseForced (.modBr (.modBr h)))) (.modBr h)) (.snapshotFault (.raiseForced (.onlyIf .setPattern h3)))

theorem SameBoot.dropForce {b} (h : SameBoot o s) : SameBoot o (dropForce b s) := .ite h (.raise (.modAllPos (.turnAllOff (.modBr h))))

theorem SameBoot.toHeldCatch {b} (h : SameBoot o s) : SameBoot o (toHeldCatch b s) := .settleBridge (.bridgeTo (.modBr (.onlyIf .latchForce h)))

theorem SameBoot.toRest {b} (h : SameBoot o s) : SameBoot o (toRest b s) :=
  .ite (.toHeldCatch h) (.settleDischarge (.ite (.settleBridge (.enterStandby (.turnAllOff (.dropForce h)))) (.bridgeTo (.turnAllOff (.dropForce
      h)))))

theorem SameBoot.abortToRest {b cause} (h : SameBoot o s) : SameBoot o (abortToRest b cause s) := .ite (.toRest (.abortStart h)) h

theorem SameBoot.identBroken {b} (h : SameBoot o s) : SameBoot o (identBroken b s) := by
  unfold Machine.identBroken
  split
  · exact .ite (.forBr .toRest (.abortIdent h)) h
  · exact h

theorem SameBoot.forceBridge {src p level b} (h : SameBoot o s) : SameBoot o (forceBridge src p level b s) := .identBroken (.latchForce h)

theorem SameBoot.safeBridge {src level b} (h : SameBoot o s) : SameBoot o (safeBridge src level b s) := .forceBridge h

theorem SameBoot.endCause {src b} (h : SameBoot o s) : SameBoot o (endCause src b s) := .modBr h

theorem SameBoot.safeRequest {src level b} (h : SameBoot o s) : SameBoot o (safeRequest src level b s) := by
  unfold Machine.safeRequest
  exact .endCause (.safeBridge h)

theorem SameBoot.openContactors {noWait after} (h : SameBoot o s) : SameBoot o (openContactors noWait after s) := by
  unfold Machine.openContactors
  extract_lets _ _ _ _ _ _ s1
  have h1 : SameBoot o s1 := .openCoil (.frame (.openCoil (.frame h)))
  exact .ite (.frame (.openCoil (.frame h))) (.ite (.frame (.frame (.openCoil (.frame h)))) (.ite (.frame h1) (.settleOpen (.frame h1))))

theorem SameBoot.settleCoils (h : SameBoot o s) : SameBoot o (settleCoils s) := by
  unfold Machine.settleCoils
  split
  · exact .setCoil (.frame h)
  · exact .setCoil (.frame h)
  · exact .setCoil (.frame h)
  · exact h
  · exact h
  · exact h
  · exact .onlyIf .openContactors h

theorem SameBoot.endArm {status} (h : SameBoot o s) : SameBoot o (endArm status s) := by
  unfold Machine.endArm
  dsimp only
  split
  · exact .complete (.frame h)
  · exact .frame h

theorem SameBoot.driveSafe {sto} (h : SameBoot o s) : SameBoot o (driveSafe sto s) := by
  unfold Machine.driveSafe
  split
  · exact h
  · exact h
  · exact .settleDrive h
  · exact .ite (.setDrive (.endArm h)) (.openContactors (.setDrive (.endArm h)))

theorem SameBoot.safeDrive {src} (h : SameBoot o s) : SameBoot o (safeDrive src s) := .driveSafe (.forBr .safeBridge h)

theorem SameBoot.safeDriveOnce {src} (h : SameBoot o s) : SameBoot o (safeDriveOnce src s) := .forBr .endCause (.safeDrive h)

theorem SameBoot.externalFault (h : SameBoot o s) : SameBoot o (externalFault s) := .ite (.driveSafe (.forBr .forceBridge h)) (.safeDrive h)

theorem SameBoot.stoRequest (h : SameBoot o s) : SameBoot o (stoRequest s) := .safeDrive (.onlyIf .applyBrake (.bump (.raise4 h)))

theorem SameBoot.abortGroupStarts {g cause} (h : SameBoot o s) : SameBoot o (abortGroupStarts g cause s) := .forBr .abortToRest h

theorem SameBoot.ss1Source {g src} (h : SameBoot o s) : SameBoot o (ss1Source g src s) :=
  .ite h (.ite (.abortGroupStarts (.raiseG h)) (.ite (.raiseG h) (.onlyIf (fun h => .forBr .toRest h) (.modGr h))))

theorem SameBoot.stopGroup {g} (h : SameBoot o s) : SameBoot o (stopGroup g s) := .ite h (.ss1Source (.raiseG (.modGr h)))

theorem SameBoot.modPair {p f} (h : SameBoot o s) : SameBoot o (modPair p f s) := .frame h

theorem SameBoot.raiseMove {task b src dst planned} (h : SameBoot o s) : SameBoot o (raiseMove task b src dst planned s) := .bump (.raise4 h)

theorem SameBoot.moveStep {planned b p} (h : SameBoot o s) : SameBoot o (moveStep planned b p s) := .ite h (.modBr (.raiseMove h))

theorem SameBoot.moveWatch {planned b} (h : SameBoot o s) : SameBoot o (moveWatch planned b s) :=
  .ite (.ite h (.modBr (.raiseMove h))) (.modBr (.raiseMove (.ite h (.modBr (.raiseMove h)))))

theorem SameBoot.finishPlacement (h : SameBoot o s) : SameBoot o (finishPlacement s) := by
  unfold Machine.finishPlacement
  split
  · exact h
  · exact .ite (.frame h) (.raiseMove (.frame (.frame h)))

theorem SameBoot.movePlacement {planned} (h : SameBoot o s) : SameBoot o (movePlacement planned s) := .ite (.frame h) (.finishPlacement (.frame h))

theorem SameBoot.evacuate {p} (h : SameBoot o s) : SameBoot o (evacuate p s) :=
  .forBr (fun h => .ite (.moveWatch h) h) (.forBr (fun h => .ite (.moveStep h) h) (.movePlacement h))

theorem SameBoot.setDecim {p d} (h : SameBoot o s) : SameBoot o (setDecim p d s) := .ite h (.bump (.raise4 (.frame h)))

theorem SameBoot.setPairCeiling {c f} (h : SameBoot o s) : SameBoot o (setPairCeiling c f s) := .ite (.frame h) (.onlyIf .bump (.raise4 (.frame h)))

theorem SameBoot.settleLoad {p} (h : SameBoot o s) : SameBoot o (settleLoad p s) := by
  unfold Machine.settleLoad
  extract_lets
  split
  · exact .ite (.setDecim (.setDecim h)) (.ite (.setDecim (.setDecim h)) (.setPairCeiling (.setDecim (.setDecim h))))
  · split
    · exact .setDecim h
    · exact .ite (.ite (.setDecim (.setDecim h)) (.setDecim h)) (.ite (.ite (.setDecim (.setDecim h)) (.setDecim h)) (.setDecim h))

theorem SameBoot.settleLoads (h : SameBoot o s) : SameBoot o (settleLoads s) := .ite (.setPairCeiling (.frame h)) (.settleLoad (.settleLoad (.frame h)))

theorem SameBoot.settleRating (h : SameBoot o s) : SameBoot o (settleRating s) := .ite h (.onlyIf .raise4 (.frame h))

theorem SameBoot.settleNoPair (h : SameBoot o s) : SameBoot o (settleNoPair s) := .ite h (.driveSafe (.forBr .safeRequest h))

theorem SameBoot.settlePairs (h : SameBoot o s) : SameBoot o (settlePairs s) := .refreshBounds (.settleNoPair (.settleRating (.settleLoads h)))

theorem SameBoot.withdrawPair {p} (h : SameBoot o s) : SameBoot o (withdrawPair p s) := .ite h (.settlePairs (.evacuate (.raise4 (.modPair h))))

theorem SameBoot.leavePartners (h : SameBoot o s) : SameBoot o (leavePartners s) := .frame h

theorem SameBoot.stopAll {src} (h : SameBoot o s) : SameBoot o (stopAll src s) := .forGr .ss1Source h

theorem SameBoot.windowAction {w} (h : SameBoot o s) : SameBoot o (windowAction w s) := by
  unfold Machine.windowAction
  split
  · exact .ite (.stopGroup h) (.ss1Source (.onlyIf .raiseG h))
  · exact .dite (fun _ => .ite (.withdrawPair h) (.stopAll (.withdrawPair h))) (fun _ => .ite (.stopAll h) (.leavePartners h))

theorem SameBoot.expireWindow {early w} (h : SameBoot o s) : SameBoot o (expireWindow early w s) := by
  unfold Machine.expireWindow
  extract_lets _ _ s1 s2
  have h1 : SameBoot o s1 := .onlyIf .raiseWindow (.raiseWindow (.modWin h))
  have h2 : SameBoot o s2 := by
    unfold s2
    split <;> exact .bump h1
  exact .windowAction h2

theorem SameBoot.openWindow {w} (h : SameBoot o s) : SameBoot o (openWindow w s) := by
  unfold Machine.openWindow
  extract_lets _ _ s1
  have h1 : SameBoot o s1 := by
    unfold s1
    split
    · exact .onlyIf .raiseG (.bump (.raiseWindow (.modWin h)))
    · exact .bump (.raiseWindow (.modWin h))
  split
  · exact h
  · split
    · exact .ite (.expireWindow h1) h1
    · exact h1

theorem SameBoot.beginWindow {w} (h : SameBoot o s) : SameBoot o (beginWindow w s) := .openWindow (.modWin h)

theorem SameBoot.settleLine (h : SameBoot o s) : SameBoot o (settleLine s) := .ite (.endWindow h) (.ite (.beginWindow h) h)

theorem SameBoot.judgeRetained {g e flag multi c} (h : SameBoot o s) : SameBoot o (judgeRetained g e flag multi c s) :=
  .ite (.modGr h) (.ite (.ss1Source (.raiseG (.raiseG (.modGr h)))) (.raiseG (.modGr h)))

theorem SameBoot.driveAfterBoot (h : SameBoot o s) : SameBoot o (driveAfterBoot s) := by
  unfold Machine.driveAfterBoot
  extract_lets
  exact .settleCoils (.ite (.setDrive (.onlyIf .safeDriveOnce (.frame h))) (.ite (.setDrive (.frame h)) (.ite (.setDrive (.frame h)) (.ite
      (.setDrive (.frame h)) (.ite (.setDrive (.frame h)) (.setDrive (.frame h)))))))

theorem SameBoot.noteFlagLost {g} (h : SameBoot o s) : SameBoot o (noteFlagLost g s) := .ite (.ss1Source (.raiseG h)) h

theorem SameBoot.restorePosition {g} (h : SameBoot o s) : SameBoot o (restorePosition g s) := by
  unfold Machine.restorePosition
  split
  · exact .noteFlagLost h
  · dsimp only
    split
    · exact .judgeRetained h
    · exact .ite (.modGr h) (.judgeRetained h)

theorem SameBoot.loadArbiter (h : SameBoot o s) : SameBoot o (loadArbiter s) := .frame h

theorem SameBoot.freshStart (h : SameBoot o s) : SameBoot o (freshStart s) := by
  unfold Machine.freshStart
  extract_lets _ _ _ _ s1 s2
  have h1 : SameBoot o s1 := .restoreWindows (.loadArbiter (.frame h))
  have h2 : SameBoot o s2 := .modDie (.forBr .seedBridge h1)
  exact .refreshBounds (.forGr .modGr (.forBr .modBr h2))

/-! The end of the boot (R401, R507, R508) -/

/-- The end of the boot opens its session; what follows is the same boot. -/
theorem bootDone_same (hboot : s.boot.booting = true) (hpowered : s.bootPowered = true) (hdue : s.boot.testDue = false) (htest : s.clove.testRun = false) :
    SameBoot { s with io := { s.io with session := s.nextFree 32 % (2 ^ 32 - 1) + 1 }, boot := { s.boot with booting := false } } (bootDone s) := by
  generalize ho : ({ s with io := { s.io with session := s.nextFree 32 % (2 ^ 32 - 1) + 1 }, boot := { s.boot with booting := false } } : State) = o
  unfold bootDone
  rw [if_neg (by rw [hboot, hpowered, hdue, htest]; decide)]
  extract_lets _ _ _ _ _ _ s1 _ s2 _ s3 _ s4 s5 _ _ s6 _ _ _ s7
  have h1 : SameBoot o s1 := by
    rw [← ho]
    exact .ite (.drew (.refl _)) (.drew (.frame (.drew (.refl _))))
  have h2 : SameBoot o s2 := .onlyIf .driveAfterBoot (.onlyIf .freshStart h1)
  have h3 : SameBoot o s3 := .onlyIf .stoRequest (.settlePd7 (.settleLine h2))
  have h4 : SameBoot o s4 := .onlyIf .writeRecord (.onlyIf .externalFault h3)
  have h5 : SameBoot o s5 := .foldl .raise4 h4
  have h6 : SameBoot o s6 := .onlyIf (fun h => .startCan (.startCan (.onlyIf .raise4 h))) (.raise4 (.withBoot rfl h5))
  have hrestored : SameBoot o (forGr allGr restorePosition s6) := .forGr .restorePosition h6
  have h7 : SameBoot o s7 := .bump (.raise4 ⟨hrestored.nand, hrestored.booting, hrestored.session, hrestored.frames⟩)
  exact .ite (.ite (.startDischarge h7) h7) h6

/-- A controller without waiting frames has none to serve. -/
theorem serveCan_none {k : CanId} (hhigh : s.can[k].high = []) (hfifo : s.can[k].fifo = []) : serveCan k s = s := by
  have hsame : modCan k (fun y => { y with high := [] }) s = s := by
    rw [modCan_same]
    rw [← hhigh]
  unfold serveCan
  split
  · rfl
  · rw [hhigh, hsame]
    dsimp only [List.foldl_nil]
    rw [hfifo, List.foldl_nil, modCan_same]
    rw [← hfifo]

/-- BOOT_COMPLETE of a powered boot with no test and no frame waiting. -/
theorem bootComplete_next (hboot : s.boot.booting = true) (hpowered : s.bootPowered = true) (hdue : s.boot.testDue = false)
    (htest : s.clove.testRun = false) (hcan : ∀ k : CanId, s.can[k].high = [] ∧ s.can[k].fifo = []) : exec .bootComplete s = .next (bootDone s) := by
  have hframes : ∀ k : CanId, (bootDone s).can[k].high = [] ∧ (bootDone s).can[k].fifo = [] := fun k => by
    obtain ⟨hhigh, hfifo⟩ := (bootDone_same hboot hpowered hdue htest).frames k
    exact ⟨hhigh.trans (hcan k).1, hfifo.trans (hcan k).2⟩
  show Host.Outcome.next (serveCan 1 (serveCan 0 (bootDone s))) = _
  rw [serveCan_none (hframes 0).1 (hframes 0).2, serveCan_none (hframes 1).1 (hframes 1).2]

end Sys2Proof.Machine
end

section
/-! PROOFS. Wake sources, the domains of a boot, the check of the alternate slot, the confirmation of a trial image and the end of an epoch (O49). -/

namespace Sys2Proof.Machine

variable {o s : State}

/-! DOMAIN_READY (R351) -/

section
variable (hboot : s.boot.booting = true) (hbus : s.busSource = true)
include hboot hbus

theorem domainStep_first (hoff : s.pwr.domains[1] = false ∨ s.pwr.domains[2] = false) :
    domainStep s = { s with pwr := { s.pwr with domains := (s.pwr.domains.set 1 true).set 2 true } } := by
  unfold domainStep
  dsimp only
  rw [if_neg (by rw [hboot, hbus]; decide), if_pos (by obtain h | h := hoff <;> rw [h] <;> simp)]

theorem domainStep_plls (h1 : s.pwr.domains[1] = true) (h2 : s.pwr.domains[2] = true) (hcore : s.pwr.pll[0] = true) (hpulse : s.pwr.pll[1] = false) :
    domainStep s = { s with pwr := { s.pwr with domains := s.pwr.domains.set 4 true, pll := .replicate 3 true } } := by
  unfold domainStep
  dsimp only
  rw [if_neg (by rw [hboot, hbus]; decide), if_neg (by rw [h1, h2]; decide), if_neg (by rw [hcore]; decide), if_pos (by rw [hpulse]; decide)]
  rfl

theorem domainStep_test (h1 : s.pwr.domains[1] = true) (h2 : s.pwr.domains[2] = true) (hcore : s.pwr.pll[0] = true) (hpulse : s.pwr.pll[1] = true)
    (hdue : s.boot.testDue = true) (hclove : s.boot.cloveReset = true) (htest : s.clove.testRun = false) : domainStep s =
      { s with pwr := { s.pwr with domains := s.pwr.domains.set 7 true }, clove := { s.clove with testRun := true } } := by
  unfold domainStep
  dsimp only
  rw [if_neg (by rw [hboot, hbus]; decide), if_neg (by rw [h1, h2]; decide), if_neg (by rw [hcore]; decide), if_neg (by rw [hpulse]; decide),
    if_pos (by rw [hdue, htest]; decide)]
  exact settlePd7_on (pd7Wanted_of_test (s := { s with clove := { s.clove with testRun := true } }) hboot hclove rfl)

end

/-! The firmware (R508, R509) -/

theorem silent_alternateCheck (hbooted : s.boot.booting = false) :
    (alternateCheck s).silent = { s.silent with boot := { s.boot with alternateOk := s.fwPasses (otherFw s.boot.slot) } } := by
  unfold alternateCheck
  rw [if_neg (by rw [hbooted]; decide)]
  cases hpass : s.fwPasses (otherFw s.boot.slot) with
  | true => rfl
  | false => exact silent_raise4 ..

theorem silent_confirmFirmware (hconfirmed : s.boot.confirmed = false) (hrecovery : s.boot.recovery = false) : ∃ j, (confirmFirmware s).silent =
    { s.silent with mem := { s.mem with journal := j }, boot := { s.boot with confirmed := true, trial := 0 } } := by
  obtain ⟨j, hj⟩ := appendRecord_frame (s.fwRecord s.boot.slot.val 0 true) s
  refine ⟨j, ?_⟩
  unfold confirmFirmware
  rw [if_neg (by rw [hconfirmed, hrecovery]; decide)]
  dsimp only
  rw [silent_raise4]
  exact congrArg (fun x : State => ({ x with boot := { x.boot with confirmed := true, trial := 0 } } : State)) hj

/-! The end of an epoch (R497) -/

/-- An epoch that ends on time latches its counts; the entry of Q11 leaves the snapshot. -/
theorem closeEpoch_latches (hfree : s.time.freeSince = none) : (closeEpoch false s).silent =
      { s.silent with arb := (closeEpoch false s).arb, par := s.par.activateWhere fun x => effectOf x == 4 } ∧
    (closeEpoch false s).st.snapshot = s.st.running ∧ (closeEpoch false s).st.snapNumber = s.st.epoch ∧
    (closeEpoch false s).st.epoch = (s.st.epoch + 1) % 2 ^ 32 := by
  have hcount : countFreeRun s = s := by
    unfold countFreeRun
    rw [hfree]
  obtain ⟨e, v, hclosed, hsilent, hsnapshot, hnumber, hepoch⟩ : ∃ e v, closeEpoch false s = enqueueOut 11 e v ∧
      v.silent = { s.silent with arb := v.arb, par := s.par.activateWhere fun x => effectOf x == 4 } ∧ v.st.snapshot = s.st.running ∧
      v.st.snapNumber = s.st.epoch ∧ v.st.epoch = (s.st.epoch + 1) % 2 ^ 32 := by
    unfold closeEpoch
    rw [hcount]
    exact ⟨_, _, rfl, rfl, rfl, rfl, rfl⟩
  have hentry : Reported v (enqueueOut 11 e v) := .enqueueOut (by decide) e (.refl v)
  rw [hclosed]
  refine ⟨?_, (congrArg Stats.snapshot hentry.stats :).trans hsnapshot, (congrArg Stats.snapNumber hentry.stats :).trans hnumber,
    (congrArg Stats.epoch hentry.stats :).trans hepoch⟩
  rw [silent_eq_arb hentry.silent]
  exact hentry.silent.trans hsilent

/-- Settles O49: the end of the boot opens its session, and all that follows it is the same boot. -/
theorem wakeAndBootRows : Obligations.WakeAndBootRows := by
  unfold Obligations.WakeAndBootRows
  refine fun s => ⟨fun k hwake => ⟨fun hwaking => ?_, fun hwaking hstep => ?_, fun hwaking hstep hhv hsleep hcode => ?_⟩,
    fun hboot hbus => ⟨fun hoff => ?_, fun h1 h2 hcore hpulse => ?_, fun h1 h2 hcore hpulse hdue hclove htest => ?_⟩,
    fun hboot hpowered hdue htest hcan => ?_, fun hbooted => ?_, fun u hat hconfirmed hrecovery => ?_, fun t0 hdue hfree => ?_⟩
  · refine congrArg Host.Outcome.next ?_
    unfold wakeAssert
    dsimp only
    rw [if_neg (by rw [hwake]; decide), if_pos hwaking]
  · exact ⟨_, rfl, wakeAssert_abandons hwake hwaking hstep⟩
  · obtain ⟨hbooting, hreason, hwoken, hbr, hgr, hnand, hdram, hdrive⟩ := beginWake_woken k.val s
    exact ⟨_, congrArg Host.Outcome.next (wakeAssert_wakes hwake hwaking hstep hhv hsleep hcode), hbooting, hreason, hwoken, hbr, hgr, hnand, hdram, hdrive⟩
  · exact congrArg Host.Outcome.next (domainStep_first hboot hbus hoff)
  · exact congrArg Host.Outcome.next (domainStep_plls hboot hbus h1 h2 hcore hpulse)
  · exact congrArg Host.Outcome.next (domainStep_test hboot hbus h1 h2 hcore hpulse hdue hclove htest)
  · obtain ⟨hnand, hbooting, hsession, -⟩ := bootDone_same hboot hpowered hdue htest
    exact ⟨_, bootComplete_next hboot hpowered hdue htest hcan, hbooting, hsession, hnand⟩
  · exact ⟨_, rfl, silent_alternateCheck hbooted⟩
  · obtain ⟨j, hj⟩ := silent_confirmFirmware (s := setNow (u + s.actN 0xF020 2 * ticksPerS) s) hconfirmed hrecovery
    have hjournal : (confirmFirmware (setNow (u + s.actN 0xF020 2 * ticksPerS) s)).mem.journal = j := (congrArg (fun x : State => x.mem.journal) hj :)
    refine ⟨confirmFirmware (setNow (u + s.actN 0xF020 2 * ticksPerS) s), ?_, ?_⟩
    · show Host.Outcome.next (confirmationTimer s) = _
      unfold confirmationTimer
      rw [hat]
    · dsimp only
      rw [hjournal]
      exact hj
  · refine ⟨closeEpoch false (setNow t0 s), ?_, ?_⟩
    · show Host.Outcome.next (onlyIf _ _ _) = _
      rw [hdue, onlyIf_true]
    · obtain ⟨hsilent, hsnapshot, hnumber, hepoch⟩ := closeEpoch_latches (s := setNow t0 s) hfree
      exact ⟨hsnapshot, hnumber, hepoch, hsilent⟩

end Sys2Proof.Machine
end
